-- ==== Sys2Proof/Word.lean ====
section
/-! DEFINITION. The word types of the machine and the type of its sparse tables. -/

namespace Sys2Proof

/-- A general register, an address, a system register (R65). -/
abbrev Word := BitVec 64

/-- The smallest addressable unit (R235: a location is a byte). -/
abbrev Byte := BitVec 8

/-- A vector register (R65). -/
abbrev VWord := BitVec 512

/-- A sparse table: number and record, in ascending order of the numbers. -/
abbrev Tab (α : Type) := List (Nat × α)

end Sys2Proof
end

