-- ==== Sys2Proof/Syntax.lean ====
section
/-! DEFINITION. The instruction set: one constructor for each row of spec/opcode_table.json (R58 to R60), its operand
fields in the order of the word, most significant first. Rows that no word encodes are steps of the engines, the NI, the
census, the memory, the host and the boot (95): what such a step acts on is in the event record of the state
(Machine/Types.lean, Ev), in the fields that its docstring names. -/

namespace Sys2Proof

/-- One constructor for each row of the table of operations. -/
inductive Instr where
  /-- ILL (R55): A base word with OP 0x00 traps ILLEGAL whatever its other bits. -/
  | ill (x : BitVec 24)
  /-- ADD (R106): Writes gA + gB to gD, wrapping or saturating under .sat. -/
  | add (w : BitVec 1) (b : BitVec 5) (a : BitVec 5) (d : BitVec 5)
  /-- SUB (R106): Writes gA - gB to gD. -/
  | sub (w : BitVec 1) (b : BitVec 5) (a : BitVec 5) (d : BitVec 5)
  /-- AND (R106): Writes the bitwise AND of gA and gB to gD. -/
  | and (w : BitVec 1) (b : BitVec 5) (a : BitVec 5) (d : BitVec 5)
  /-- OR (R106): Writes the bitwise OR of gA and gB to gD. -/
  | or (w : BitVec 1) (b : BitVec 5) (a : BitVec 5) (d : BitVec 5)
  /-- XOR (R106): Writes the bitwise XOR of gA and gB to gD. -/
  | xor (w : BitVec 1) (b : BitVec 5) (a : BitVec 5) (d : BitVec 5)
  /-- ANDN (R106): Writes gA AND NOT gB to gD. -/
  | andn (w : BitVec 1) (b : BitVec 5) (a : BitVec 5) (d : BitVec 5)
  /-- SHL (R106): Shifts gA left by gB mod 64 into gD. -/
  | shl (w : BitVec 1) (b : BitVec 5) (a : BitVec 5) (d : BitVec 5)
  /-- SHR (R106): Shifts gA right with zero fill into gD. -/
  | shr (w : BitVec 1) (b : BitVec 5) (a : BitVec 5) (d : BitVec 5)
  /-- SAR (R106): Shifts gA right with sign fill into gD. -/
  | sar (w : BitVec 1) (b : BitVec 5) (a : BitVec 5) (d : BitVec 5)
  /-- ROL (R106): Rotates gA left by gB mod 64 into gD. -/
  | rol (w : BitVec 1) (b : BitVec 5) (a : BitVec 5) (d : BitVec 5)
  /-- MIN (R106): Writes the signed lesser of gA and gB to gD. -/
  | min (w : BitVec 1) (b : BitVec 5) (a : BitVec 5) (d : BitVec 5)
  /-- MAX (R106): Writes the signed greater of gA and gB to gD. -/
  | max (w : BitVec 1) (b : BitVec 5) (a : BitVec 5) (d : BitVec 5)
  /-- MINU (R106): Writes the unsigned lesser of gA and gB to gD. -/
  | minu (w : BitVec 1) (b : BitVec 5) (a : BitVec 5) (d : BitVec 5)
  /-- MAXU (R106): Writes the unsigned greater of gA and gB to gD. -/
  | maxu (w : BitVec 1) (b : BitVec 5) (a : BitVec 5) (d : BitVec 5)
  /-- SLT (R106): Writes 1 to gD if gA < gB signed, else 0. -/
  | slt (w : BitVec 1) (b : BitVec 5) (a : BitVec 5) (d : BitVec 5)
  /-- SLTU (R106): Writes 1 to gD if gA < gB unsigned, else 0. -/
  | sltu (w : BitVec 1) (b : BitVec 5) (a : BitVec 5) (d : BitVec 5)
  /-- SEQ (R106): Writes 1 to gD if gA equals gB, else 0. -/
  | seq (w : BitVec 1) (b : BitVec 5) (a : BitVec 5) (d : BitVec 5)
  /-- MUL (R107): Writes the low 64 bits of the signed product to gD. -/
  | mul (w : BitVec 1) (b : BitVec 5) (a : BitVec 5) (d : BitVec 5)
  /-- MULH (R107): Writes the high half of the signed product to gD. -/
  | mulh (w : BitVec 1) (b : BitVec 5) (a : BitVec 5) (d : BitVec 5)
  /-- MULHU (R107): Writes the high half of the unsigned product to gD. -/
  | mulhu (w : BitVec 1) (b : BitVec 5) (a : BitVec 5) (d : BitVec 5)
  /-- DIV (R107): Signed division truncating toward zero; a zero divisor traps INT_DIV. -/
  | div (w : BitVec 1) (b : BitVec 5) (a : BitVec 5) (d : BitVec 5)
  /-- DIVU (R107): Unsigned division; a zero divisor traps INT_DIV. -/
  | divu (w : BitVec 1) (b : BitVec 5) (a : BitVec 5) (d : BitVec 5)
  /-- REM (R107): Signed remainder with the sign of gA. -/
  | rem (w : BitVec 1) (b : BitVec 5) (a : BitVec 5) (d : BitVec 5)
  /-- REMU (R107): Unsigned remainder. -/
  | remu (w : BitVec 1) (b : BitVec 5) (a : BitVec 5) (d : BitVec 5)
  /-- CLZ (R108): Counts leading zero bits of gA into gD. -/
  | clz (w : BitVec 1) (a : BitVec 5) (d : BitVec 5)
  /-- CTZ (R108): Counts trailing zero bits of gA into gD. -/
  | ctz (w : BitVec 1) (a : BitVec 5) (d : BitVec 5)
  /-- POPC (R108): Counts the one bits of gA into gD. -/
  | popc (w : BitVec 1) (a : BitVec 5) (d : BitVec 5)
  /-- BREV (R108): Reverses the bits of gA into gD. -/
  | brev (w : BitVec 1) (a : BitVec 5) (d : BitVec 5)
  /-- BEXT (R108): Extracts a bit field of gA selected by gB into gD. -/
  | bext (w : BitVec 1) (b : BitVec 5) (a : BitVec 5) (d : BitVec 5)
  /-- BINS (R108): Inserts low bits of gA into a field of gD selected by gB. -/
  | bins (w : BitVec 1) (b : BitVec 5) (a : BitVec 5) (d : BitVec 5)
  /-- SEL (R108): Writes gA to gD if gD is nonzero, else gB. -/
  | sel (w : BitVec 1) (b : BitVec 5) (a : BitVec 5) (d : BitVec 5)
  /-- ADDI (R109): Writes gA plus the sign-extended immediate to gD. -/
  | addi (i : BitVec 14) (a : BitVec 5) (d : BitVec 5)
  /-- ANDI (R109): Writes gA AND the immediate to gD. -/
  | andi (i : BitVec 14) (a : BitVec 5) (d : BitVec 5)
  /-- ORI (R109): Writes gA OR the immediate to gD. -/
  | ori (i : BitVec 14) (a : BitVec 5) (d : BitVec 5)
  /-- XORI (R109): Writes gA XOR the immediate to gD. -/
  | xori (i : BitVec 14) (a : BitVec 5) (d : BitVec 5)
  /-- SLTI (R109): Writes 1 to gD if gA is less than the immediate, signed. -/
  | slti (i : BitVec 14) (a : BitVec 5) (d : BitVec 5)
  /-- SLTUI (R109): Writes 1 to gD if gA is less than the immediate, unsigned. -/
  | sltui (i : BitVec 14) (a : BitVec 5) (d : BitVec 5)
  /-- SHLI (R109): Shifts gA left by the immediate into gD. -/
  | shli (i : BitVec 14) (a : BitVec 5) (d : BitVec 5)
  /-- SHRI (R109): Shifts gA right by the immediate with zero fill. -/
  | shri (i : BitVec 14) (a : BitVec 5) (d : BitVec 5)
  /-- SARI (R109): Shifts gA right by the immediate with sign fill. -/
  | sari (i : BitVec 14) (a : BitVec 5) (d : BitVec 5)
  /-- LIH (R110): Combines the low word of gA with a high immediate into gD. -/
  | lih (i : BitVec 14) (a : BitVec 5) (d : BitVec 5)
  /-- LEA (R111): Writes PC plus four times the immediate to gD. -/
  | lea (i : BitVec 14) (d : BitVec 5)
  /-- GADR (R112): Composes a role-space or global-form address into gD. -/
  | gadr (i : BitVec 14) (a : BitVec 5) (d : BitVec 5)
  /-- ADDI_L (R109): 64-bit form of ADDI with a 32-bit immediate; LI.L when A is 0. -/
  | addiL (a : BitVec 5) (d : BitVec 5) (e : BitVec 32)
  /-- ANDI_L (R109): 64-bit form of ANDI with a 32-bit immediate. -/
  | andiL (a : BitVec 5) (d : BitVec 5) (e : BitVec 32)
  /-- ORI_L (R109): 64-bit form of ORI with a 32-bit immediate. -/
  | oriL (a : BitVec 5) (d : BitVec 5) (e : BitVec 32)
  /-- XORI_L (R109): 64-bit form of XORI with a 32-bit immediate. -/
  | xoriL (a : BitVec 5) (d : BitVec 5) (e : BitVec 32)
  /-- SLTI_L (R109): 64-bit form of SLTI with a 32-bit immediate. -/
  | sltiL (a : BitVec 5) (d : BitVec 5) (e : BitVec 32)
  /-- SLTUI_L (R109): 64-bit form of SLTUI with a 32-bit immediate. -/
  | sltuiL (a : BitVec 5) (d : BitVec 5) (e : BitVec 32)
  /-- SHLI_L (R109): 64-bit form of SHLI. -/
  | shliL (a : BitVec 5) (d : BitVec 5) (e : BitVec 32)
  /-- SHRI_L (R109): 64-bit form of SHRI. -/
  | shriL (a : BitVec 5) (d : BitVec 5) (e : BitVec 32)
  /-- SARI_L (R109): 64-bit form of SARI. -/
  | sariL (a : BitVec 5) (d : BitVec 5) (e : BitVec 32)
  /-- LEA_L (R111): 64-bit form of LEA reaching 2^33 bytes. -/
  | leaL (d : BitVec 5) (e : BitVec 32)
  /-- BEQ (R113): Branches when the two registers are equal. -/
  | beq (o : BitVec 14) (a : BitVec 5) (d : BitVec 5)
  /-- BNE (R113): Branches when the two registers differ. -/
  | bne (o : BitVec 14) (a : BitVec 5) (d : BitVec 5)
  /-- BLT (R113): Branches when first < second, signed. -/
  | blt (o : BitVec 14) (a : BitVec 5) (d : BitVec 5)
  /-- BGE (R113): Branches when first >= second, signed. -/
  | bge (o : BitVec 14) (a : BitVec 5) (d : BitVec 5)
  /-- BLTU (R113): Branches when first < second, unsigned. -/
  | bltu (o : BitVec 14) (a : BitVec 5) (d : BitVec 5)
  /-- BGEU (R113): Branches when first >= second, unsigned. -/
  | bgeu (o : BitVec 14) (a : BitVec 5) (d : BitVec 5)
  /-- JMP (R114): Jumps PC-relative by a 24-bit word offset. -/
  | jmp (o : BitVec 24)
  /-- JAL (R114): Writes g31 := PC + 4 and jumps PC-relative. -/
  | jal (o : BitVec 24)
  /-- JR (R115): Jumps to the address in gA. -/
  | jr (a : BitVec 5)
  /-- JALR (R115): Writes the link to gD and jumps to gA. -/
  | jalr (a : BitVec 5) (d : BitVec 5)
  /-- REP (R117): Replays the next n groups COUNT times with staggered register fields under REPSTATE. -/
  | rep (c : BitVec 14) (s : BitVec 4) (b : BitVec 1) (a : BitVec 1) (d : BitVec 1) (n : BitVec 3)
  /-- POOL (R52): Skips the N guarded pool words that follow. -/
  | pool (n : BitVec 12)
  /-- TEND (R120): Ends the task, frees the context and returns unspent reservation. -/
  | tend
  /-- SYS (R121): Traps SYSCALL. -/
  | sys
  /-- TRAPRET (R122): Returns from a trap to TRAPPC, restoring nested registers when NESTED is 1. -/
  | trapret
  /-- BRK (R121): Traps BREAK. -/
  | brk
  /-- SRD (R123): Reads the system register numbered 32A+B into gD. -/
  | srd (b : BitVec 5) (a : BitVec 5) (d : BitVec 5)
  /-- SWR (R123): Writes gD to the system register numbered 32A+B. -/
  | swr (b : BitVec 5) (a : BitVec 5) (d : BitVec 5)
  /-- IFENCE (R124): Discards the core's instruction cache and reloads guard descriptors. -/
  | ifence
  /-- LB (R209): Loads a sign-extended byte. -/
  | lb (i : BitVec 14) (a : BitVec 5) (d : BitVec 5)
  /-- LH (R209): Loads a sign-extended half-word. -/
  | lh (i : BitVec 14) (a : BitVec 5) (d : BitVec 5)
  /-- LW (R209): Loads a sign-extended word. -/
  | lw (i : BitVec 14) (a : BitVec 5) (d : BitVec 5)
  /-- LD (R209): Loads a 64-bit word. -/
  | ld (i : BitVec 14) (a : BitVec 5) (d : BitVec 5)
  /-- SB (R209): Stores a byte. -/
  | sb (i : BitVec 14) (a : BitVec 5) (d : BitVec 5)
  /-- SH (R209): Stores a half-word. -/
  | sh (i : BitVec 14) (a : BitVec 5) (d : BitVec 5)
  /-- SW (R209): Stores a word. -/
  | sw (i : BitVec 14) (a : BitVec 5) (d : BitVec 5)
  /-- SD (R209): Stores a 64-bit word. -/
  | sd (i : BitVec 14) (a : BitVec 5) (d : BitVec 5)
  /-- LB_L (R59): 64-bit form of LB with index and 32-bit displacement. -/
  | lbL (s : BitVec 2) (b : BitVec 5) (a : BitVec 5) (d : BitVec 5) (e : BitVec 32)
  /-- LH_L (R59): 64-bit form of LH with index and 32-bit displacement. -/
  | lhL (s : BitVec 2) (b : BitVec 5) (a : BitVec 5) (d : BitVec 5) (e : BitVec 32)
  /-- LW_L (R59): 64-bit form of LW with index and 32-bit displacement. -/
  | lwL (s : BitVec 2) (b : BitVec 5) (a : BitVec 5) (d : BitVec 5) (e : BitVec 32)
  /-- LD_L (R59): 64-bit form of LD with index and 32-bit displacement. -/
  | ldL (s : BitVec 2) (b : BitVec 5) (a : BitVec 5) (d : BitVec 5) (e : BitVec 32)
  /-- SB_L (R59): 64-bit form of SB with index and 32-bit displacement. -/
  | sbL (s : BitVec 2) (b : BitVec 5) (a : BitVec 5) (d : BitVec 5) (e : BitVec 32)
  /-- SH_L (R59): 64-bit form of SH with index and 32-bit displacement. -/
  | shL (s : BitVec 2) (b : BitVec 5) (a : BitVec 5) (d : BitVec 5) (e : BitVec 32)
  /-- SW_L (R59): 64-bit form of SW with index and 32-bit displacement. -/
  | swL (s : BitVec 2) (b : BitVec 5) (a : BitVec 5) (d : BitVec 5) (e : BitVec 32)
  /-- SD_L (R59): 64-bit form of SD with index and 32-bit displacement. -/
  | sdL (s : BitVec 2) (b : BitVec 5) (a : BitVec 5) (d : BitVec 5) (e : BitVec 32)
  /-- LBU (R59): Loads a zero-extended byte (64-bit form only). -/
  | lbu (s : BitVec 2) (b : BitVec 5) (a : BitVec 5) (d : BitVec 5) (e : BitVec 32)
  /-- LHU (R59): Loads a zero-extended half-word (64-bit form only). -/
  | lhu (s : BitVec 2) (b : BitVec 5) (a : BitVec 5) (d : BitVec 5) (e : BitVec 32)
  /-- LWU (R59): Loads a zero-extended word (64-bit form only). -/
  | lwu (s : BitVec 2) (b : BitVec 5) (a : BitVec 5) (d : BitVec 5) (e : BitVec 32)
  /-- AMOADD (R216): Atomically adds gB to memory, returning the old value. -/
  | amoadd (s : BitVec 1) (b : BitVec 5) (a : BitVec 5) (d : BitVec 5)
  /-- AMOMIN (R216): Atomic signed minimum at memory. -/
  | amomin (s : BitVec 1) (b : BitVec 5) (a : BitVec 5) (d : BitVec 5)
  /-- AMOMAX (R216): Atomic signed maximum at memory. -/
  | amomax (s : BitVec 1) (b : BitVec 5) (a : BitVec 5) (d : BitVec 5)
  /-- AMOMINU (R216): Atomic unsigned minimum at memory. -/
  | amominu (s : BitVec 1) (b : BitVec 5) (a : BitVec 5) (d : BitVec 5)
  /-- AMOMAXU (R216): Atomic unsigned maximum at memory. -/
  | amomaxu (s : BitVec 1) (b : BitVec 5) (a : BitVec 5) (d : BitVec 5)
  /-- AMOAND (R216): Atomic bitwise AND at memory. -/
  | amoand (s : BitVec 1) (b : BitVec 5) (a : BitVec 5) (d : BitVec 5)
  /-- AMOOR (R216): Atomic bitwise OR at memory. -/
  | amoor (s : BitVec 1) (b : BitVec 5) (a : BitVec 5) (d : BitVec 5)
  /-- AMOXOR (R216): Atomic bitwise XOR at memory. -/
  | amoxor (s : BitVec 1) (b : BitVec 5) (a : BitVec 5) (d : BitVec 5)
  /-- AMOSWAP (R216): Atomic swap of gB with memory. -/
  | amoswap (s : BitVec 1) (b : BitVec 5) (a : BitVec 5) (d : BitVec 5)
  /-- AMOCAS (R216): Atomic compare-and-swap against gD; a failed compare writes the old value back. -/
  | amocas (s : BitVec 1) (b : BitVec 5) (a : BitVec 5) (d : BitVec 5)
  /-- AMOFADD (R216): Atomic floating add rounded RNE at memory. -/
  | amofadd (s : BitVec 1) (b : BitVec 5) (a : BitVec 5) (d : BitVec 5)
  /-- FENCE (R215): Orders earlier and later accesses at a scope, waiting for acknowledgements. -/
  | fence
  /-- LDF (R214): Waits until a word is full and loads it. -/
  | ldf (s : BitVec 2) (b : BitVec 5) (a : BitVec 5) (d : BitVec 5)
  /-- LDFE (R214): Waits until a word is full, loads it and marks it empty. -/
  | ldfe (s : BitVec 2) (b : BitVec 5) (a : BitVec 5) (d : BitVec 5)
  /-- STF (R214): Stores a word and marks it full. -/
  | stf (s : BitVec 2) (b : BitVec 5) (a : BitVec 5) (d : BitVec 5)
  /-- PF (R220): Asks the tier engine to bring a page to a tier; never traps. -/
  | pf (s : BitVec 2) (b : BitVec 5) (a : BitVec 5)
  /-- PFWAIT (R221): Waits for a page to be present or its needed-by time to pass; returns READY or LATE. -/
  | pfwait (s : BitVec 2) (b : BitVec 5) (a : BitVec 5) (d : BitVec 5)
  /-- CINV (R222): Drops every line of the constant cache. -/
  | cinv
  /-- FADD (R128): Floating add rounded once. -/
  | fadd (t : BitVec 1) (b : BitVec 5) (a : BitVec 5) (d : BitVec 5)
  /-- FSUB (R128): Floating subtract rounded once. -/
  | fsub (t : BitVec 1) (b : BitVec 5) (a : BitVec 5) (d : BitVec 5)
  /-- FMUL (R128): Floating multiply rounded once. -/
  | fmul (t : BitVec 1) (b : BitVec 5) (a : BitVec 5) (d : BitVec 5)
  /-- FDIV (R128): Floating divide rounded once. -/
  | fdiv (t : BitVec 1) (b : BitVec 5) (a : BitVec 5) (d : BitVec 5)
  /-- FSQRT (R128): Floating square root rounded once. -/
  | fsqrt (t : BitVec 1) (a : BitVec 5) (d : BitVec 5)
  /-- FMA (R128): Fused multiply-add gA x gB + gD rounded once. -/
  | fma (t : BitVec 1) (b : BitVec 5) (a : BitVec 5) (d : BitVec 5)
  /-- FMIN (R129): Writes the lesser floating operand. -/
  | fmin (t : BitVec 1) (b : BitVec 5) (a : BitVec 5) (d : BitVec 5)
  /-- FMAX (R129): Writes the greater floating operand. -/
  | fmax (t : BitVec 1) (b : BitVec 5) (a : BitVec 5) (d : BitVec 5)
  /-- FCMP (R130): Writes a comparison code for two floating values. -/
  | fcmp (t : BitVec 1) (b : BitVec 5) (a : BitVec 5) (d : BitVec 5)
  /-- FCLASS (R131): Writes the one-hot class of a floating value. -/
  | fclass (t : BitVec 1) (a : BitVec 5) (d : BitVec 5)
  /-- FSGN (R132): Sets the sign bit by MODE, keeping all other bits. -/
  | fsgn (t : BitVec 1) (m : BitVec 5) (a : BitVec 5) (d : BitVec 5)
  /-- FCVT (R134): Converts between float, integer and narrow formats by CODE. -/
  | fcvt (t : BitVec 1) (c : BitVec 5) (a : BitVec 5) (d : BitVec 5)
  /-- XCLR (R138): Zeroes a long accumulator in one cycle. -/
  | xclr (a : BitVec 5)
  /-- XACC (R139): Adds an F32, F64 or I64 value exactly into a long accumulator. -/
  | xacc (b : BitVec 5) (a : BitVec 5) (t : BitVec 5)
  /-- XMERGE (R141): Adds one long accumulator into another. -/
  | xmerge (a : BitVec 5) (d : BitVec 5)
  /-- XRND (R142): Rounds a long accumulator to F32 or F64 into gD. -/
  | xrnd (t : BitVec 5) (a : BitVec 5) (d : BitVec 5)
  /-- VCLAIM (R146): Requests a lane grant, halving until the pool test passes. -/
  | vclaim (r : BitVec 5) (d : BitVec 5)
  /-- VMOV (R148): Copies vA to vD bit for bit. -/
  | vmov (t : BitVec 4) (a : BitVec 5) (d : BitVec 5)
  /-- VBCAST (R148): Broadcasts the low bits of gA to every element. -/
  | vbcast (t : BitVec 4) (a : BitVec 5) (d : BitVec 5)
  /-- VEXT (R148): Extracts one element of vA into gD. -/
  | vext (t : BitVec 4) (b : BitVec 5) (a : BitVec 5) (d : BitVec 5)
  /-- VINS (R148): Inserts gA into one element of vD. -/
  | vins (t : BitVec 4) (b : BitVec 5) (a : BitVec 5) (d : BitVec 5)
  /-- VADD (R149): Element-wise add. -/
  | vadd (t : BitVec 4) (b : BitVec 5) (a : BitVec 5) (d : BitVec 5)
  /-- VSUB (R149): Element-wise subtract. -/
  | vsub (t : BitVec 4) (b : BitVec 5) (a : BitVec 5) (d : BitVec 5)
  /-- VMUL (R149): Element-wise multiply. -/
  | vmul (t : BitVec 4) (b : BitVec 5) (a : BitVec 5) (d : BitVec 5)
  /-- VFMA (R149): Element-wise fused multiply-add into vD. -/
  | vfma (t : BitVec 4) (b : BitVec 5) (a : BitVec 5) (d : BitVec 5)
  /-- VMIN (R149): Element-wise minimum. -/
  | vmin (t : BitVec 4) (b : BitVec 5) (a : BitVec 5) (d : BitVec 5)
  /-- VMAX (R149): Element-wise maximum. -/
  | vmax (t : BitVec 4) (b : BitVec 5) (a : BitVec 5) (d : BitVec 5)
  /-- VAND (R150): Bitwise AND of vectors. -/
  | vand (t : BitVec 4) (b : BitVec 5) (a : BitVec 5) (d : BitVec 5)
  /-- VOR (R150): Bitwise OR of vectors. -/
  | vor (t : BitVec 4) (b : BitVec 5) (a : BitVec 5) (d : BitVec 5)
  /-- VXOR (R150): Bitwise XOR of vectors. -/
  | vxor (t : BitVec 4) (b : BitVec 5) (a : BitVec 5) (d : BitVec 5)
  /-- VSHL (R150): Element-wise left shift. -/
  | vshl (t : BitVec 4) (b : BitVec 5) (a : BitVec 5) (d : BitVec 5)
  /-- VSHR (R150): Element-wise right shift with zero fill. -/
  | vshr (t : BitVec 4) (b : BitVec 5) (a : BitVec 5) (d : BitVec 5)
  /-- VSAR (R150): Element-wise right shift with sign fill. -/
  | vsar (t : BitVec 4) (b : BitVec 5) (a : BitVec 5) (d : BitVec 5)
  /-- VCMP (R151): Compares elements by condition into a mask register. -/
  | vcmp (t : BitVec 4) (c : BitVec 3) (b : BitVec 5) (a : BitVec 5) (d : BitVec 3)
  /-- VSEL (R152): Selects each element from vA or vB by a mask. -/
  | vsel (t : BitVec 4) (b : BitVec 5) (a : BitVec 5) (d : BitVec 5)
  /-- VPERM (R152): Permutes elements of vA by indices in vB. -/
  | vperm (t : BitVec 4) (b : BitVec 5) (a : BitVec 5) (d : BitVec 5)
  /-- VCVT (R153): Converts elements between types. -/
  | vcvt (t : BitVec 4) (s : BitVec 4) (a : BitVec 5) (d : BitVec 5)
  /-- QCVT (R155): Quantises a vector under a shared scale word. -/
  | qcvt (t : BitVec 4) (b : BitVec 5) (a : BitVec 5) (d : BitVec 5)
  /-- VRED (R154): Reduces all elements in a fixed pairwise tree into gD. -/
  | vred (t : BitVec 4) (o : BitVec 3) (a : BitVec 5) (d : BitVec 5)
  /-- VLD (R212): Loads contiguous vector elements. -/
  | vld (t : BitVec 4) (s : BitVec 2) (b : BitVec 5) (a : BitVec 5) (d : BitVec 5)
  /-- VLDS (R212): Loads vector elements with a stride. -/
  | vlds (t : BitVec 4) (s : BitVec 2) (b : BitVec 5) (a : BitVec 5) (d : BitVec 5)
  /-- VLDX (R212): Loads vector elements by an index vector. -/
  | vldx (t : BitVec 4) (s : BitVec 2) (b : BitVec 5) (a : BitVec 5) (d : BitVec 5)
  /-- VLDT (R213): Loads a transposed fragment from the panel store into eight registers. -/
  | vldt (t : BitVec 4) (s : BitVec 2) (b : BitVec 5) (a : BitVec 5) (d : BitVec 5)
  /-- VST (R212): Stores contiguous vector elements. -/
  | vst (t : BitVec 4) (s : BitVec 2) (b : BitVec 5) (a : BitVec 5) (d : BitVec 5)
  /-- VSTS (R212): Stores vector elements with a stride. -/
  | vsts (t : BitVec 4) (s : BitVec 2) (b : BitVec 5) (a : BitVec 5) (d : BitVec 5)
  /-- VSTX (R212): Stores vector elements by an index vector. -/
  | vstx (t : BitVec 4) (s : BitVec 2) (b : BitVec 5) (a : BitVec 5) (d : BitVec 5)
  /-- GSHUF (R158): Gathers gang elements across the eight cores. -/
  | gshuf (t : BitVec 4) (b : BitVec 5) (a : BitVec 5) (d : BitVec 5)
  /-- GBCAST (R158): Broadcasts one core's vector to the gang. -/
  | gbcast (t : BitVec 4) (b : BitVec 5) (a : BitVec 5) (d : BitVec 5)
  /-- GVOTE (R159): Votes on mask predicates across the gang. -/
  | gvote (t : BitVec 4) (v : BitVec 2) (a : BitVec 3) (d : BitVec 5)
  /-- GMATCH (R159): Returns the mask of cores whose gA matches. -/
  | gmatch (t : BitVec 4) (a : BitVec 5) (d : BitVec 5)
  /-- GRED (R160): Reduces across the gang in a fixed tree. -/
  | gred (t : BitVec 4) (o : BitVec 3) (a : BitVec 5) (d : BitVec 5)
  /-- GSCAN (R160): Inclusive prefix across the gang. -/
  | gscan (t : BitVec 4) (o : BitVec 3) (a : BitVec 5) (d : BitVec 5)
  /-- GMAX (R161): Agrees a shared scale word from the gang's maximum magnitude. -/
  | gmax (t : BitVec 4) (b : BitVec 5) (a : BitVec 5) (d : BitVec 5)
  /-- GBAR (R162): Gang barrier merging flags, regranting lanes and ordering tile accesses. -/
  | gbar (r : BitVec 5) (d : BitVec 5)
  /-- SEND (R295): Sends a message to a channel of a named core. -/
  | send (b : BitVec 5) (a : BitVec 5)
  /-- SPAWN (R297): Offers a task to a core and waits for the admission code. -/
  | spawn (b : BitVec 5) (a : BitVec 5) (d : BitVec 5)
  /-- POST (R298): Offers a task to a core without waiting. -/
  | post (b : BitVec 5) (a : BitVec 5)
  /-- DECR (R300): Decrements a codelet counter at its home. -/
  | decr (b : BitVec 5) (a : BitVec 5)
  /-- KICK (R302): Delivers a releasing notice to a channel. -/
  | kick (b : BitVec 5) (a : BitVec 5) (d : BitVec 5)
  /-- ACKX (R303): Releasing STF of an acknowledgement word. -/
  | ackx (b : BitVec 5) (a : BitVec 5)
  /-- TWPOST (R304): Posts a job, permits or an end to a tile-walk engine. -/
  | twpost (b : BitVec 5) (a : BitVec 5) (d : BitVec 5)
  /-- SPLICE (R306): Sends a SPLICE record with a release. -/
  | splice (b : BitVec 5) (a : BitVec 5)
  /-- RECFWD (R306): Sends a pipeline record to a channel. -/
  | recfwd (b : BitVec 5) (a : BitVec 5)
  /-- CHCFG (R362): Installs a channel table entry from a block. -/
  | chcfg (b : BitVec 5) (a : BitVec 5) (d : BitVec 5)
  /-- CHBLK (R363): Sets a channel's BLOCKED bit. -/
  | chblk (a : BitVec 5)
  /-- CHUNB (R363): Clears a channel's BLOCKED bit and offers waiting deliveries. -/
  | chunb (a : BitVec 5)
  /-- MATCH (R365): Arms or cancels a match entry. -/
  | matchTbl (b : BitVec 5) (a : BitVec 5) (d : BitVec 5)
  /-- ROLE (R353): Reports the NI's cached role-map entry or starts a fill. -/
  | role (a : BitVec 5) (d : BitVec 5)
  /-- RMAP (R354): Requests a refresh, a new site or a release of a role-map entry. -/
  | rmap (b : BitVec 5) (a : BitVec 5) (d : BitVec 5)
  /-- LEASE (R355): Posts a lease request answered later by the census. -/
  | lease (b : BitVec 5) (a : BitVec 5)
  /-- LREL (R356): Posts the release of a lease. -/
  | lrel (a : BitVec 5)
  /-- NOTACK (R357): Answers a notice with a buffer destination table. -/
  | notack (b : BitVec 5) (a : BitVec 5) (d : BitVec 5)
  /-- BUDGET (R399): Reads a budget value of the task by selector. -/
  | budget (a : BitVec 5) (d : BitVec 5)
  /-- BADD (R401): Draws cycles from RESERVE as an AMO at its home. -/
  | badd (b : BitVec 5) (a : BitVec 5) (d : BitVec 5)
  /-- HBEAT (R405): Clears the account's WDCOUNT. -/
  | hbeat
  /-- CNTRD (R400): Reads a counter by number. -/
  | cntrd (a : BitVec 5) (d : BitVec 5)
  /-- MSET (R171): Writes an MX engine register. -/
  | mset (r : BitVec 9) (a : BitVec 5)
  /-- MGET (R171): Reads an MX engine register into gD. -/
  | mget (r : BitVec 3) (d : BitVec 5)
  /-- MGET_PANEL (R171): Reads two elements of an accumulator panel into gD. -/
  | mgetPanel (p : BitVec 2) (a : BitVec 5) (d : BitVec 5)
  /-- MGO (R172): Gang-joined matrix multiply into a panel. -/
  | mgo (c : BitVec 1) (p : BitVec 2) (a : BitVec 5)
  /-- MGOT (R172): Gang-joined ternary-by-I8 multiply on the sign-select array. -/
  | mgot (c : BitVec 1) (p : BitVec 2) (a : BitVec 5)
  /-- MWAIT (R176): Waits for the engine to be done or operands consumed; returns MX.STAT. -/
  | mwait (c : BitVec 1) (d : BitVec 5)
  /-- MZERO (R177): Queues a zeroing of the issuing core's panel rows. -/
  | mzero (p : BitVec 2)
  /-- MDRAIN (R178): Queues a copy of a panel into a scratchpad with optional wake-up. -/
  | mdrain (c : BitVec 6) (w : BitVec 1) (p : BitVec 2) (b : BitVec 5) (a : BitVec 5)
  /-- CSET (R223): Writes a copy-unit register. -/
  | cset (r : BitVec 9) (a : BitVec 5)
  /-- CGO (R224): Latches and checks the layout record and accepts a copy job with a ticket. -/
  | cgo (d : BitVec 5)
  /-- CPOLL (R223): Reads a copy-unit register without waiting. -/
  | cpoll (r : BitVec 9) (d : BitVec 5)
  /-- CWAIT (R232): Waits until a ticket's job has finished; returns CP.STAT. -/
  | cwait (a : BitVec 5) (d : BitVec 5)
  /-- CCANCEL (R232): Cancels a queued or running copy job. -/
  | ccancel (a : BitVec 5) (d : BitVec 5)
  /-- BSTATE (R369): Reads a buffer-table entry image. -/
  | bstate (a : BitVec 5) (d : BitVec 5)
  /-- BGIVE (R369): Hands a held buffer to a new holder with a TILE release. -/
  | bgive (b : BitVec 5) (a : BitVec 5)
  /-- BTAKE (R369): Takes a buffer, waiting for an engine or stage logic to let go. -/
  | btake (a : BitVec 5) (d : BitVec 5)
  /-- BMARK_STATE (R369): Sets the state of a held buffer. -/
  | bmarkState (b : BitVec 5) (a : BitVec 5)
  /-- BMARK_DEFINE (R369): Defines a new buffer held by the issuer. -/
  | bmarkDefine (b : BitVec 5) (a : BitVec 5)
  /-- BMARK_RETAIN (R369): Sets or clears the retain mark of a held buffer. -/
  | bmarkRetain (b : BitVec 5) (a : BitVec 5)
  /-- BMARK_FREE (R369): Frees a held buffer and invalidates its match entries. -/
  | bmarkFree (b : BitVec 5) (a : BitVec 5)
  /-- BWAIT_BUFFER (R369): Waits for a buffer to reach a state in the mask. -/
  | bwaitBuffer (s : BitVec 4) (a : BitVec 5) (d : BitVec 5)
  /-- BWAIT_RING (R373): Waits for filled or free ring slots and returns the slot handle. -/
  | bwaitRing (s : BitVec 1) (b : BitVec 5) (a : BitVec 5) (d : BitVec 5)
  /-- BADV (R373): Advances a ring's producer or consumer side by k slots. -/
  | badv (s : BitVec 1) (b : BitVec 5) (a : BitVec 5) (d : BitVec 5)
  /-- BRING (R372): Configures or switches off a ring. -/
  | bring (b : BitVec 5) (a : BitVec 5)
  /-- MODULE_RESET (R424): Power-on or management reset starts bring-up with the self-test phase. Event operands: `flag` the self-test passed; else `x` UNIT, `y` DETAIL, `z` COLUMN; `list` the bad sites, `bytes` the boot image. -/
  | moduleReset
  /-- HARVEST (R424): After self-test passes, failing and fused sites are set OFF and the rest BULLPEN. Event operands: `list` the bad sites, `bytes` the boot image. -/
  | harvest
  /-- BOOT_FETCH (R424): The mask ROM reads the boot image over the first live module link. Event operands: `bytes` the image, if it can be read. -/
  | bootFetch
  /-- BOOT_VERIFY (R426): The boot image signature is checked and a verified image entered at M. -/
  | bootVerify
  /-- STATUS_REQUEST (R425): A management status request returns the failure record. -/
  | statusRequest
  /-- ATTESTATION_REPORT (R427): A management request returns a signed attestation report. Event operands: `list` the nonce's four words. -/
  | attestationReport
  /-- GOVERNOR_STEP (R433): Every 10 us the governor lowers or raises FSTEP by DRAW against LIMIT. Event operands: `x` mean input power in W. -/
  | governorStep
  /-- THERMAL_THROTTLE (R435): A die above 95 C sets FSTEP to 54 until all dies are below 90 C. -/
  | thermalThrottle
  /-- THERMAL_SHUTDOWN (R435): A die above 105 C takes the module to the safe state. Event operands: `x` column. -/
  | thermalShutdown
  /-- CXL_LINK_TRAINING (R22): A CXL port trains to the highest common rate and width. Event operands: `x` port, `y` working lanes, `list` the partner's rates, `flag` a PCIe 7.0-class partner. -/
  | cxlLinkTraining
  /-- CXL_LINK_LOSS (R22): A port that loses its link retrains from the lowest rate. Event operands: `x` port. -/
  | cxlLinkLoss
  /-- CXL_MEM_TIMEOUT (R22): CXL.mem accesses waiting on a retraining port draw error responses after 100 ms. Event operands: `x` port. -/
  | cxlMemTimeout
  /-- STOP_REQUEST (R61): A stop request reaches a context, which stops at a boundary or interruption point. Event operands: `x` context, `y` reason. -/
  | stopRequest
  /-- W_WAIT_SATISFIED (R62): A kind-W group's awaited condition is met and the group completes. Event operands: `x` ctx. -/
  | wWaitSatisfied
  /-- ASYNC_TRAP_TAKEN (R410): A held asynchronous trap is taken at a group boundary. Event operands: `x` ctx. -/
  | asyncTrapTaken
  /-- RESPONSE_ARRIVAL (R288): A load, atomic or SPAWN response is written into the register or its save slot. Event operands: `x` packet. -/
  | responseArrival
  /-- ERROR_RESPONSE_ARRIVAL (R248): An error response reaches the source and raises or records a trap. Event operands: `x` packet. -/
  | errorResponseArrival
  /-- BADD_GRANT (R402): The BADD response writes the grant to gD and the target counter. Event operands: `x` packet. -/
  | baddGrant
  /-- WRITE_AT_HOME (R238): A write packet is performed at its home port in arrival order. Event operands: `x` packet. -/
  | writeAtHome
  /-- READ_AT_HOME (R237): A read packet is answered at its home. Event operands: `x` packet. -/
  | readAtHome
  /-- ATOMIC_AT_UNIT (R217): An atomic is performed indivisibly at its executing unit. Event operands: `x` packet. -/
  | atomicAtUnit
  /-- RELEASE_HOLD_END (R240): A held release store is performed once its stream's lower packets are applied. Event operands: `x` packet. -/
  | releaseHoldEnd
  /-- WRITE_ACK_ARRIVAL (R240): A write acknowledgement lets the NI inject releases held for other streams. Event operands: `x` packet. -/
  | writeAckArrival
  /-- MOVED_ARRIVAL (R347): A MOVED answer makes the sender NI refresh, resend once or trap ROLE. Event operands: `x` packet. -/
  | movedArrival
  /-- MOVED_REREAD (R347): Every 1 us a held packet's NI re-reads the NOTICED or LEAVING entry. Event operands: `x` packet, `y` GEN seen. -/
  | movedReread
  /-- PORT_PACKET_ARRIVAL (R337): A site router port accepts, holds, forwards or answers MOVED for a tile packet. Event operands: `x` packet. -/
  | portPacketArrival
  /-- MALFORMED_HEADER_DROP (R374): A router drops a packet with a bad header and sends a LOST report. Event operands: `x` packet. -/
  | malformedHeaderDrop
  /-- SEND_ARRIVAL (R294): A SEND delivery takes a slot and is offered to admission on its channel. Event operands: `x` packet. -/
  | sendArrival
  /-- SPAWN_ARRIVAL (R297): A SPAWN block is tested and accepted or bounced with its code. Event operands: `x` packet. -/
  | spawnArrival
  /-- POST_ARRIVAL (R298): A POST block is tested; a refusal is reported. Event operands: `x` packet. -/
  | postArrival
  /-- DECR_AT_HOME (R300): A DECR decrements the counter at its home atomic engine. Event operands: `x` packet. -/
  | decrAtHome
  /-- KICK_ARRIVAL (R302): A KICK notice is delivered to its channel and starts a task that acquires. Event operands: `x` packet. -/
  | kickArrival
  /-- ACKX_AT_HOME (R303): An ACKX stores the acknowledgement and marks it full. Event operands: `x` packet. -/
  | ackxAtHome
  /-- TWPOST_JOB_ARRIVAL (R304): A tile-walk engine checks and queues a job and returns a ticket. Event operands: `x` packet. -/
  | twpostJobArrival
  /-- TWPOST_PERMIT_ARRIVAL (R304): A tile-walk engine adds COUNT permits for a pipeline. Event operands: `x` packet. -/
  | twpostPermitArrival
  /-- TWPOST_END_ARRIVAL (R304): A tile-walk engine ends a pipeline job and clears its permits. Event operands: `x` packet. -/
  | twpostEndArrival
  /-- CTL_CREDIT_REQUEST (R359): A CTL source asks a destination NI for a reserved inbox slot credit. Event operands: `x` pkt. -/
  | ctlCreditRequest
  /-- CTL_CREDIT_RETRY (R359): A source refused a credit asks again 1 us later. Event operands: `x` packet. -/
  | ctlCreditRetry
  /-- READY_RING_OFFER (R275): The ready ring's head is offered to admission between tests. Event operands: `x` core. -/
  | readyRingOffer
  /-- DISPATCH (R285): A free context takes the first queued entry, starting or restoring a task. Event operands: `x` core. -/
  | dispatch
  /-- CONTEXT_SAVE_DONE (R420): A context's save completes and its entry goes to STATE 2. Event operands: `x` context, `y` reason. -/
  | contextSaveDone
  /-- GANG_START (R287): Once all eight held contexts are free, the gang's members start together. Event operands: `x` site. -/
  | gangStart
  /-- BUDGET_EXHAUSTED (R283): BUDGETREM reaching 0 traps OVERRUN at the next boundary. Event operands: `x` ctx. -/
  | budgetExhausted
  /-- ENGINE_BUDGET_EXHAUSTED (R284): ENGLEFT reaching 0 pauses the region's engine work and raises ENGINE_OVERRUN. Event operands: `x` site, `y` region, `z` ltile. -/
  | engineBudgetExhausted
  /-- PERIOD_REFILL (R280): At each multiple of PERIOD the account's CYCLEFT and ENGLEFT are refilled. Event operands: `x` site, `y` region, `z` ltile. -/
  | periodRefill
  /-- WATCHDOG_FIRE (R406): WDCOUNT reaching WDLIMIT stops the fault domain and sends WATCHDOG. Event operands: `x` site, `y` region, `z` ltile. -/
  | watchdogFire
  /-- GANG_LINE_JOIN (R156): When all eight members have issued a gang group, the gang line releases it. Event operands: `x` site. -/
  | gangLineJoin
  /-- MX_JOIN (R172): An MGO or MGOT joins, is checked, latched and accepted into the queue. Event operands: `x` site. -/
  | mxJoin
  /-- MX_OP_START (R168): A queued matrix operation starts once its resource and panel are free. Event operands: `x` site. -/
  | mxOpStart
  /-- MX_GROUP_COMMIT (R174): A k-group commits to all 256 panel elements in one cycle. Event operands: `x` site, `y` op. -/
  | mxGroupCommit
  /-- MX_OPERANDS_CONSUMED (R183): An operation has read all its operands and PENDING clears. Event operands: `x` site, `y` op. -/
  | mxOperandsConsumed
  /-- MZERO_START (R177): A queued MZERO writes +0 to the issuing core's panel rows. Event operands: `x` site, `y` op. -/
  | mzeroStart
  /-- MDRAIN_START (R178): A queued drain starts copying the panel to the scratchpad. Event operands: `x` site, `y` op. -/
  | mdrainStart
  /-- DRAIN_COMPLETE (R179): All drain writes are performed and the wake-up message is sent. Event operands: `x` site, `y` op. -/
  | drainComplete
  /-- GANG_PANEL_SAVE (R67): The engine copies panels and MX registers of a stopped gang to its save area. Event operands: `x` site, `y` region, `z` logical tile, `w` gang. -/
  | gangPanelSave
  /-- GANG_PANEL_RESTORE (R67): The engine restores a resumed gang's panels and MX registers. Event operands: `x` site, `y` region, `z` logical tile, `w` gang. -/
  | gangPanelRestore
  /-- ENGINE_REGION_ZERO (R68): Engine state is zeroed before a task of another region uses it. Event operands: `x` site, `y` region, `z` logical tile, `flag` the copy unit. -/
  | engineRegionZero
  /-- COPY_JOB_START (R224): The copy unit starts the next accepted job. Event operands: `x` site. -/
  | copyJobStart
  /-- COPY_JOB_COMPLETE (R229): A job ends with its completion word, wake-up and DONE. Event operands: `x` site, `y` ticket. -/
  | copyJobComplete
  /-- COPY_CANCEL_STOP (R232): A cancelled running job stops at its next element boundary. Event operands: `x` site. -/
  | copyCancelStop
  /-- LOADER_EMIT_RECORD (R309): A loader holding a permit emits the next DATA record to HEAD. Event operands: `x` site, `y` pipe, `z` ticket. -/
  | loaderEmitRecord
  /-- STORER_TAKE_RECORD (R314): The storer takes the next record in order and writes its payload. Event operands: `x` site, `y` pipe, `z` ticket. -/
  | storerTakeRecord
  /-- STAGE_TAKE_DATA (R311): A stage takes the next DATA record and offers its task to admission. Event operands: `x` core, `y` channel, `z` logical tile, `w` region. -/
  | stageTakeData
  /-- PASS_THROUGH_FORWARD (R313): A pass-through stage forwards a record without a task. Event operands: `x` core, `y` channel, `z` logical tile, `w` region. -/
  | passThroughForward
  /-- SPLICE_APPLY (R316): A stage takes a SPLICE, steps GEN, checks and applies or aborts it. Event operands: `x` core, `y` channel, `z` logical tile, `w` region. -/
  | spliceApply
  /-- STAGE_TAKE_ABORT (R316): A stage takes an ABORT and forwards it unchanged. Event operands: `x` core, `y` channel, `z` logical tile, `w` region. -/
  | stageTakeAbort
  /-- PAGE_WALK (R392): A translation miss starts or joins a coalesced walk. Event operands: `x` site, `y` region, `z` va. -/
  | pageWalk
  /-- WALK_COMPLETE (R388): A walk ends with a translation or a fault for every merged request. Event operands: `x` site, `y` region, `z` va. -/
  | walkComplete
  /-- WALK_MOVING_RETRY (R391): A walk at a MOVING leaf re-reads it every 1 us. Event operands: `x` site, `y` region, `z` va. -/
  | walkMovingRetry
  /-- TIER_FETCH_START (R265): At NEEDED - LEAD the tier engine starts fetching a schedule entry and pins it. Event operands: `x` region, `y` entry (1024: `z` is a page that PF named), `v` frames begun. -/
  | tierFetchStart
  /-- TIER_MOVE_COMMIT (R391): After TLIFE and the copy, a page move commits by CAS or is abandoned. Event operands: `x` region, `y` page, `z` old frame, `w` GEN, `v` new frame, `flag` upward, `list` the leaf's address and its number of frames. -/
  | tierMoveCommit
  /-- TIER_PIN_EXPIRY (R265): At NEEDED + HOLD the region's pin on a range drops. Event operands: `x` region, `y` entry. -/
  | tierPinExpiry
  /-- TIER_EVICT (R269): An eviction drops a region's pin and demotes an unpinned object. Event operands: `x` region, `y` entry, `v` frames begun. -/
  | tierEvict
  /-- PROT_WRITE (R264): A write to a frame's PROT starts a protection change. Event operands: `x` column, `y` frame, `z` prot. -/
  | protWrite
  /-- PROT_CHANGE_DONE (R264): The frame's check bytes are rewritten, BUSY clears and held accesses go on. Event operands: `x` column, `y` frame, `z` PROT. -/
  | protChangeDone
  /-- DRAM_RATIO_CHANGE (R271): A ratio-change request holds new requests and drains the crossing FIFO. Event operands: `x` column, `y` ratio. -/
  | dramRatioChange
  /-- DRAM_RELOCK (R271): The controller relocks at the new ratio and releases held requests. Event operands: `x` column. -/
  | dramRelock
  /-- UNCORRECTABLE_READ (R267): A read meeting an uncorrectable error starts a refetch or poisons the block. Event operands: `x` block. -/
  | uncorrectableRead
  /-- REFETCH_DONE (R267): A refetch succeeds or fails and waiting reads are answered. Event operands: `x` block, `flag` ok. -/
  | refetchDone
  /-- ROW_SPARE_REMAP (R430): At refresh a weak row is copied to a spare and remapped. Event operands: `x` column, `y` bank, `z` row, `w` its frame. -/
  | rowSpareRemap
  /-- SCOUT_SAMPLE (R338): Every 1,024 base-die cycles the census samples pressure. Event operands: `x` column. -/
  | scoutSample
  /-- SCOUT_WINDOW_END (R340): At window end the census loads counters and takes pressure decisions. Event operands: `x` column. -/
  | scoutWindowEnd
  /-- LEAVEAT_REACHED (R342): At LEAVEAT entries go LEAVING and tasks are stopped and re-posted. Event operands: `x` site. -/
  | leaveatReached
  /-- MOVE_COMMIT (R342): After copies and demotions the census commits the move in one cycle. Event operands: `x` site. -/
  | moveCommit
  /-- GRACE_END (R345): 64 us after commit, forwarding stops and packets draw MOVED. Event operands: `x` site. -/
  | graceEnd
  /-- EXPRESS_DRAIN_LIMIT (R346): At LEAVEAT + DRAINLIM held express packets are re-injected on the base mesh. Event operands: `x` site. -/
  | expressDrainLimit
  /-- LEASE_REQUEST (R355): The census decides a lease request and writes its result with STF. Event operands: `x` pkt. -/
  | leaseRequest
  /-- LEASE_EXPIRY (R349): A lease passes EXPIRY, LEASED clears and pending claims are acted on. Event operands: `x` region, `y` index. -/
  | leaseExpiry
  /-- LREL_ARRIVAL (R356): The census invalidates a released lease. Event operands: `x` region, `y` index. -/
  | lrelArrival
  /-- RMAP_ACTION (R354): The census carries out an RMAP REQUEST or RELEASE. Event operands: `x` column. -/
  | rmapAction
  /-- SITE_RETIRE (R429): A failed site is retired to OFF with or without lead. Event operands: `x` site, `flag` responds. -/
  | siteRetire
  /-- WHISTLE_STOP (R415): STOP of a domain stops its contexts and pauses its work. Event operands: `x` domain. -/
  | whistleStop
  /-- WHISTLE_RESUME (R416): RESUME continues every stopped task of the domain. Event operands: `x` domain. -/
  | whistleResume
  /-- WHISTLE_RESUME_TRAP (R416): RESUME_TRAP makes every stopped task take STOPPED first. Event operands: `x` domain. -/
  | whistleResumeTrap
  /-- STOP_RECORD_WRITE (R417): A core whose contexts of the domain have stopped writes its stop record. Event operands: `x` core, `y` domain. -/
  | stopRecordWrite
  /-- LINK_LOSS_STOP (R414): 50 us without a link to a launch coordinator stops the region's domain locally. Event operands: `x` region. -/
  | linkLossStop
  /-- QUEUE_WAKE (R327): A wake-word store writes TAIL, mapping a slot or paging in as needed. Event operands: `x` queue, `y` value stored; `flag` a ring read is tried again. -/
  | queueWake
  /-- QUEUE_PAGE_IN_DONE (R327): A paged-out queue is back; a slot is mapped and held wake stores apply. Event operands: `x` queue. -/
  | queuePageInDone
  /-- QUEUE_PAGE_OUT (R326): A queue unmapped for PAGEAGE ticks is paged out. Event operands: `x` queue, `y` TIME at which it was unmapped. -/
  | queuePageOut
  /-- LAUNCH (R331): Creates a child region and admits all its tasks or none. Event operands: `x` queue, `y` number of the command. -/
  | launch
  /-- AMSG (R332): Sends an active message to a core chosen by hashing an address. Event operands: `x` queue, `y` number of the command. -/
  | amsg
  /-- HOST_SPLICE (R330): Sends a SPLICE record for the host. Event operands: `x` queue, `y` number of the command. -/
  | hostSplice
  /-- HOST_LEASE (R330): Requests a lease on PARENT's role map for the host. Event operands: `x` queue, `y` number of the command. -/
  | hostLease
  /-- PREEMPT (R350): Spatially preempts K sites of lower-priority regions for a target region. Event operands: `x` queue, `y` number of the command. -/
  | preempt
  /-- SIGNAL_STORE (R330): Stores a value with a SYSTEM release as an AMO at the owner. Event operands: `x` queue, `y` number of the command. -/
  | signalStore
  /-- SIGNAL_ADD (R330): Adds a value with a SYSTEM release as an AMO at the owner. Event operands: `x` queue, `y` number of the command. -/
  | signalAdd
  /-- SIGNAL_WAIT (R330): Starts waiting until a word is at or above a value. Event operands: `x` queue, `y` number of the command. -/
  | signalWait
  /-- SIGNAL_POLL (R330): At least every 1 us the waiting SIGNAL re-reads its word with acquire. Event operands: `x` queue, `y` cmd. -/
  | signalPoll
  /-- COPY (R330): A RAW8 copy by the column's tile-walk engines. Event operands: `x` queue, `y` number of the command. -/
  | copy
  /-- COMMAND_COMPLETE (R329): A finished command writes its completion word, sends NOTIFY and raises IRQ. Event operands: `x` queue, `y` cmd. -/
  | commandComplete
  /-- LAUNCH_ARM (R333): A module admits its share of a multi-module launch and answers ARMED or refusal. Event operands: `x` launch, `y` coordinator, `z` index of this module, `w` indices per module, `val` PARENT, `list` the command's words. -/
  | launchArm
  /-- LAUNCH_COMMIT (R333): A module starts its tasks on COMMIT and acknowledges. Event operands: `x` launch. -/
  | launchCommit
  /-- LAUNCH_DISARM (R333): A module releases its armed reservation on DISARM. Event operands: `x` launch. -/
  | launchDisarm
  /-- LAUNCH_ARM_TIMEOUT (R333): A missing ARM answer after 50 us disarms every module. Event operands: `x` launch. -/
  | launchArmTimeout
  /-- LAUNCH_COMMIT_TIMEOUT (R333): A missing COMMIT acknowledgement after 50 us whistles the domain and completes GANG_FAULT. Event operands: `x` launch. -/
  | launchCommitTimeout
  /-- LANE_SPARE (R380): After 16 failed replays a link spares its failing lanes. Event operands: `x` site, `y` direction, `flag` a spare lane is left. -/
  | laneSpare
  /-- LINK_AUDIT (R382): Every 4,096 cycles a receiver's audit lets the sender repair lost credits. Event operands: `x` site, `y` direction, `z` virtual channel, `w` audit number, `v` FREED, `list` the sender's credits and CREDRET. -/
  | linkAudit
  /-- LINK_DEAD (R383): A dead link is cleared, its packets poisoned and routes recomputed. Event operands: `x` site, `y` direction or 8 + module link, `list` packets cut off. -/
  | linkDead
  /-- TILE_RESET (R384): A tile reset for containment keeps its router port state. Event operands: `x` site, `list` packets cut off. -/
  | tileReset
  /-- INJCTL_PAUSE (R379): A write of PAUSE stops or restarts the column's NI injection. Event operands: `x` column, `flag` pause. -/
  | injctlPause
  /-- REGISTER_WRITE (R6): A write to a register with no row of its own updates its fields by access code. Event operands: `x` address, `y` bytes, `z` storing context, `val` value. -/
  | registerWrite
  /-- RECORD_ARRIVAL (R310): A RECFWD or SPLICE record packet arrives at a stage channel or storer and takes an inbox slot to wait for its turn in the (SEQ, kind, arrival) order. Event operands: `x` packet. -/
  | recordArrival
  /-- TILE_WALK_JOB_COMPLETE (R304): A tile-walk job ends and writes its completion word, without a wake-up or CP.STAT.DONE. Event operands: `x` site, `y` pipe, `z` ticket. -/
  | tileWalkJobComplete
  /-- TILE_RESET_EXIT (R384): A tile leaves its containment reset and its port delivers the packets it held. Event operands: `x` site. -/
  | tileResetExit
  /-- MODULE_LINK_RESTORED (R333): A module link that was down comes back up, so stop messages and traffic held for it reach the far module. Event operands: `x` column, `y` link. -/
  | moduleLinkRestored
  /-- LAUNCH_ANSWER (R333): The coordinator receives an ARMED answer, a refusal or a COMMIT acknowledgement and sends COMMIT or DISARM once all are in. Event operands: `x` launch, `y` index of the module, `z` answer. -/
  | launchAnswer
  /-- TIME_SYNC (R86): A synchronisation correction reaches a TIME copy, which then holds still or slews at 2 ticks per ns until aligned. Event operands: `int` delta. -/
  | timeSync
  /-- THERMAL_RECOVERY (R435): All dies fall below 90 C, which releases the thermal FSTEP clamp of 54. -/
  | thermalRecovery
  deriving DecidableEq, Repr

end Sys2Proof
end

