-- ==== Sys2Proof/WellFormed.lean ====
section
/-! DEFINITION. Which operand values the entries accept. `assignedOps` is R55's part (type codes, codes of a table and engine
register numbers that an entry does not list are unassigned); `wellFormed` adds the operand values that an entry itself refuses
with ILLEGAL. Reserved fields are not here: they are no operand, and the decoder checks them (R41). -/

namespace Sys2Proof

/-- R112: sel of GADR: KIND, WINDOW, CORE, SPACE and COLUMN with the reserved bits of each KIND zero. -/
def gadrSelOk (i : BitVec 14) : Bool :=
  match (i.extractLsb' 12 2).toNat with
  | 0 => i.extractLsb' 0 4 == 0 && (i.extractLsb' 4 1 == 0 || i.extractLsb' 5 3 == 0)
  | 1 => i.extractLsb' 4 8 == 0 && (i.extractLsb' 0 4).toNat ≤ 8
  | 2 => i.extractLsb' 0 12 == 0
  | _ => false

/-- R55: the codes that the instruction's entry lists. A step that no word encodes has none. -/
def assignedOps : Instr → Bool
  | .ill _ => false
  | .add _ _ _ _ => true
  | .sub _ _ _ _ => true
  | .and _ _ _ _ => true
  | .or _ _ _ _ => true
  | .xor _ _ _ _ => true
  | .andn _ _ _ _ => true
  | .shl _ _ _ _ => true
  | .shr _ _ _ _ => true
  | .sar _ _ _ _ => true
  | .rol _ _ _ _ => true
  | .min _ _ _ _ => true
  | .max _ _ _ _ => true
  | .minu _ _ _ _ => true
  | .maxu _ _ _ _ => true
  | .slt _ _ _ _ => true
  | .sltu _ _ _ _ => true
  | .seq _ _ _ _ => true
  | .mul _ _ _ _ => true
  | .mulh _ _ _ _ => true
  | .mulhu _ _ _ _ => true
  | .div _ _ _ _ => true
  | .divu _ _ _ _ => true
  | .rem _ _ _ _ => true
  | .remu _ _ _ _ => true
  | .clz _ _ _ => true
  | .ctz _ _ _ => true
  | .popc _ _ _ => true
  | .brev _ _ _ => true
  | .bext w _ _ _ => w = 0
  | .bins w _ _ _ => w = 0
  | .sel w _ _ _ => w = 0
  | .addi _ _ _ => true
  | .andi _ _ _ => true
  | .ori _ _ _ => true
  | .xori _ _ _ => true
  | .slti _ _ _ => true
  | .sltui _ _ _ => true
  | .shli _ _ _ => true
  | .shri _ _ _ => true
  | .sari _ _ _ => true
  | .lih _ _ _ => true
  | .lea _ _ => true
  | .gadr _ _ _ => true
  | .addiL _ _ _ => true
  | .andiL _ _ _ => true
  | .oriL _ _ _ => true
  | .xoriL _ _ _ => true
  | .sltiL _ _ _ => true
  | .sltuiL _ _ _ => true
  | .shliL _ _ _ => true
  | .shriL _ _ _ => true
  | .sariL _ _ _ => true
  | .leaL _ _ => true
  | .beq _ _ _ => true
  | .bne _ _ _ => true
  | .blt _ _ _ => true
  | .bge _ _ _ => true
  | .bltu _ _ _ => true
  | .bgeu _ _ _ => true
  | .jmp _ => true
  | .jal _ => true
  | .jr _ => true
  | .jalr _ _ => true
  | .rep _ _ _ _ _ _ => true
  | .pool _ => true
  | .tend => true
  | .sys => true
  | .trapret => true
  | .brk => true
  | .srd _ _ _ => true
  | .swr _ _ _ => true
  | .ifence => true
  | .lb _ _ _ => true
  | .lh _ _ _ => true
  | .lw _ _ _ => true
  | .ld _ _ _ => true
  | .sb _ _ _ => true
  | .sh _ _ _ => true
  | .sw _ _ _ => true
  | .sd _ _ _ => true
  | .lbL _ _ _ _ _ => true
  | .lhL _ _ _ _ _ => true
  | .lwL _ _ _ _ _ => true
  | .ldL _ _ _ _ _ => true
  | .sbL _ _ _ _ _ => true
  | .shL _ _ _ _ _ => true
  | .swL _ _ _ _ _ => true
  | .sdL _ _ _ _ _ => true
  | .lbu _ _ _ _ _ => true
  | .lhu _ _ _ _ _ => true
  | .lwu _ _ _ _ _ => true
  | .amoadd _ _ _ _ => true
  | .amomin _ _ _ _ => true
  | .amomax _ _ _ _ => true
  | .amominu _ _ _ _ => true
  | .amomaxu _ _ _ _ => true
  | .amoand _ _ _ _ => true
  | .amoor _ _ _ _ => true
  | .amoxor _ _ _ _ => true
  | .amoswap _ _ _ _ => true
  | .amocas _ _ _ _ => true
  | .amofadd _ _ _ _ => true
  | .fence => true
  | .ldf _ _ _ _ => true
  | .ldfe _ _ _ _ => true
  | .stf _ _ _ _ => true
  | .pf _ _ _ => true
  | .pfwait _ _ _ _ => true
  | .cinv => true
  | .fadd _ _ _ _ => true
  | .fsub _ _ _ _ => true
  | .fmul _ _ _ _ => true
  | .fdiv _ _ _ _ => true
  | .fsqrt _ _ _ => true
  | .fma _ _ _ _ => true
  | .fmin _ _ _ _ => true
  | .fmax _ _ _ _ => true
  | .fcmp _ _ _ _ => true
  | .fclass _ _ _ => true
  | .fsgn _ m _ _ => m.toNat ≤ 3
  | .fcvt _ c _ _ => c.toNat ≤ 16
  | .xclr _ => true
  | .xacc _ _ t => t.toNat ≤ 2
  | .xmerge _ _ => true
  | .xrnd t _ _ => t.toNat ≤ 1
  | .vclaim _ _ => true
  | .vmov t _ _ => t.toNat ≤ 8
  | .vbcast t _ _ => t.toNat ≤ 8
  | .vext t _ _ _ => t.toNat ≤ 8
  | .vins t _ _ _ => t.toNat ≤ 8
  | .vadd t _ _ _ => t.toNat ≤ 8
  | .vsub t _ _ _ => t.toNat ≤ 8
  | .vmul t _ _ _ => t.toNat ≤ 8
  | .vfma t _ _ _ => t.toNat ≤ 8
  | .vmin t _ _ _ => t.toNat ≤ 8
  | .vmax t _ _ _ => t.toNat ≤ 8
  | .vand t _ _ _ => t.toNat ≤ 8
  | .vor t _ _ _ => t.toNat ≤ 8
  | .vxor t _ _ _ => t.toNat ≤ 8
  | .vshl t _ _ _ => t.toNat ≤ 5
  | .vshr t _ _ _ => t.toNat ≤ 5
  | .vsar t _ _ _ => t.toNat ≤ 5
  | .vcmp t _ _ _ _ => t.toNat ≤ 8
  | .vsel t _ _ _ => t.toNat ≤ 8
  | .vperm t _ _ _ => t.toNat ≤ 8
  | .vcvt t s _ _ => t.toNat ≤ 8 && s.toNat ≤ 8 && s ≠ t
  | .qcvt t _ _ _ => 6 ≤ t.toNat && t.toNat ≤ 8
  | .vred t o _ _ => t.toNat ≤ 8 && o.toNat ≤ 5
  | .vld t _ _ _ _ => t.toNat ≤ 8
  | .vlds t _ _ _ _ => t.toNat ≤ 8
  | .vldx t _ _ _ _ => t.toNat ≤ 8
  | .vldt t _ _ _ _ => (t.toNat ≤ 3 || t = 6 || t = 7)
  | .vst t _ _ _ _ => t.toNat ≤ 8
  | .vsts t _ _ _ _ => t.toNat ≤ 8
  | .vstx t _ _ _ _ => t.toNat ≤ 8
  | .gshuf t _ _ _ => t.toNat ≤ 8
  | .gbcast t _ _ _ => t.toNat ≤ 8
  | .gvote t _ _ _ => t.toNat ≤ 8
  | .gmatch t _ _ => t.toNat ≤ 8
  | .gred t o _ _ => t.toNat ≤ 8 && o.toNat ≤ 5
  | .gscan t o _ _ => t.toNat ≤ 8 && o.toNat ≤ 5
  | .gmax t _ _ _ => 6 ≤ t.toNat && t.toNat ≤ 8
  | .gbar _ _ => true
  | .send _ _ => true
  | .spawn _ _ _ => true
  | .post _ _ => true
  | .decr _ _ => true
  | .kick _ _ _ => true
  | .ackx _ _ => true
  | .twpost _ _ _ => true
  | .splice _ _ => true
  | .recfwd _ _ => true
  | .chcfg _ _ _ => true
  | .chblk _ => true
  | .chunb _ => true
  | .matchTbl _ _ _ => true
  | .role _ _ => true
  | .rmap _ _ _ => true
  | .lease _ _ => true
  | .lrel _ => true
  | .notack _ _ _ => true
  | .budget _ _ => true
  | .badd _ _ _ => true
  | .hbeat => true
  | .cntrd _ _ => true
  | .mset r _ => r.toNat ≤ 6
  | .mget _ _ => true
  | .mgetPanel _ _ _ => true
  | .mgo _ _ _ => true
  | .mgot _ _ _ => true
  | .mwait _ _ => true
  | .mzero _ => true
  | .mdrain c w _ _ _ => (w = 1 || c = 0)
  | .cset r _ => 0x10 ≤ r.toNat && r.toNat ≤ 0x1C
  | .cgo _ => true
  | .cpoll r _ => 0x10 ≤ r.toNat && r.toNat ≤ 0x1D
  | .cwait _ _ => true
  | .ccancel _ _ => true
  | .bstate _ _ => true
  | .bgive _ _ => true
  | .btake _ _ => true
  | .bmarkState _ _ => true
  | .bmarkDefine _ _ => true
  | .bmarkRetain _ _ => true
  | .bmarkFree _ _ => true
  | .bwaitBuffer s _ _ => s ≠ 0
  | .bwaitRing _ _ _ _ => true
  | .badv _ _ _ _ => true
  | .bring _ _ => true
  | .moduleReset => true
  | .harvest => true
  | .bootFetch => true
  | .bootVerify => true
  | .statusRequest => true
  | .attestationReport => true
  | .governorStep => true
  | .thermalThrottle => true
  | .thermalShutdown => true
  | .cxlLinkTraining => true
  | .cxlLinkLoss => true
  | .cxlMemTimeout => true
  | .stopRequest => true
  | .wWaitSatisfied => true
  | .asyncTrapTaken => true
  | .responseArrival => true
  | .errorResponseArrival => true
  | .baddGrant => true
  | .writeAtHome => true
  | .readAtHome => true
  | .atomicAtUnit => true
  | .releaseHoldEnd => true
  | .writeAckArrival => true
  | .movedArrival => true
  | .movedReread => true
  | .portPacketArrival => true
  | .malformedHeaderDrop => true
  | .sendArrival => true
  | .spawnArrival => true
  | .postArrival => true
  | .decrAtHome => true
  | .kickArrival => true
  | .ackxAtHome => true
  | .twpostJobArrival => true
  | .twpostPermitArrival => true
  | .twpostEndArrival => true
  | .ctlCreditRequest => true
  | .ctlCreditRetry => true
  | .readyRingOffer => true
  | .dispatch => true
  | .contextSaveDone => true
  | .gangStart => true
  | .budgetExhausted => true
  | .engineBudgetExhausted => true
  | .periodRefill => true
  | .watchdogFire => true
  | .gangLineJoin => true
  | .mxJoin => true
  | .mxOpStart => true
  | .mxGroupCommit => true
  | .mxOperandsConsumed => true
  | .mzeroStart => true
  | .mdrainStart => true
  | .drainComplete => true
  | .gangPanelSave => true
  | .gangPanelRestore => true
  | .engineRegionZero => true
  | .copyJobStart => true
  | .copyJobComplete => true
  | .copyCancelStop => true
  | .loaderEmitRecord => true
  | .storerTakeRecord => true
  | .stageTakeData => true
  | .passThroughForward => true
  | .spliceApply => true
  | .stageTakeAbort => true
  | .pageWalk => true
  | .walkComplete => true
  | .walkMovingRetry => true
  | .tierFetchStart => true
  | .tierMoveCommit => true
  | .tierPinExpiry => true
  | .tierEvict => true
  | .protWrite => true
  | .protChangeDone => true
  | .dramRatioChange => true
  | .dramRelock => true
  | .uncorrectableRead => true
  | .refetchDone => true
  | .rowSpareRemap => true
  | .scoutSample => true
  | .scoutWindowEnd => true
  | .leaveatReached => true
  | .moveCommit => true
  | .graceEnd => true
  | .expressDrainLimit => true
  | .leaseRequest => true
  | .leaseExpiry => true
  | .lrelArrival => true
  | .rmapAction => true
  | .siteRetire => true
  | .whistleStop => true
  | .whistleResume => true
  | .whistleResumeTrap => true
  | .stopRecordWrite => true
  | .linkLossStop => true
  | .queueWake => true
  | .queuePageInDone => true
  | .queuePageOut => true
  | .launch => true
  | .amsg => true
  | .hostSplice => true
  | .hostLease => true
  | .preempt => true
  | .signalStore => true
  | .signalAdd => true
  | .signalWait => true
  | .signalPoll => true
  | .copy => true
  | .commandComplete => true
  | .launchArm => true
  | .launchCommit => true
  | .launchDisarm => true
  | .launchArmTimeout => true
  | .launchCommitTimeout => true
  | .laneSpare => true
  | .linkAudit => true
  | .linkDead => true
  | .tileReset => true
  | .injctlPause => true
  | .registerWrite => true
  | .recordArrival => true
  | .tileWalkJobComplete => true
  | .tileResetExit => true
  | .moduleLinkRestored => true
  | .launchAnswer => true
  | .timeSync => true
  | .thermalRecovery => true

/-- The instruction has codes of R55 and operand values that its own entry accepts. -/
def wellFormed : Instr → Bool
  | .ill _ => false
  | .add _ _ _ _ => true
  | .sub _ _ _ _ => true
  | .and _ _ _ _ => true
  | .or _ _ _ _ => true
  | .xor _ _ _ _ => true
  | .andn _ _ _ _ => true
  | .shl _ _ _ _ => true
  | .shr _ _ _ _ => true
  | .sar _ _ _ _ => true
  | .rol _ _ _ _ => true
  | .min _ _ _ _ => true
  | .max _ _ _ _ => true
  | .minu _ _ _ _ => true
  | .maxu _ _ _ _ => true
  | .slt _ _ _ _ => true
  | .sltu _ _ _ _ => true
  | .seq _ _ _ _ => true
  | .mul _ _ _ _ => true
  | .mulh _ _ _ _ => true
  | .mulhu _ _ _ _ => true
  | .div _ _ _ _ => true
  | .divu _ _ _ _ => true
  | .rem _ _ _ _ => true
  | .remu _ _ _ _ => true
  | .clz _ _ _ => true
  | .ctz _ _ _ => true
  | .popc _ _ _ => true
  | .brev _ _ _ => true
  | .bext w _ _ _ => w = 0
  | .bins w _ _ _ => w = 0
  | .sel w _ _ _ => w = 0
  | .addi _ _ _ => true
  | .andi _ _ _ => true
  | .ori _ _ _ => true
  | .xori _ _ _ => true
  | .slti _ _ _ => true
  | .sltui _ _ _ => true
  | .shli i _ _ => i.toNat ≤ 63
  | .shri i _ _ => i.toNat ≤ 63
  | .sari i _ _ => i.toNat ≤ 63
  | .lih _ _ _ => true
  | .lea _ _ => true
  | .gadr i _ _ => gadrSelOk i
  | .addiL _ _ _ => true
  | .andiL _ _ _ => true
  | .oriL _ _ _ => true
  | .xoriL _ _ _ => true
  | .sltiL _ _ _ => true
  | .sltuiL _ _ _ => true
  | .shliL _ _ e => e.toNat ≤ 63
  | .shriL _ _ e => e.toNat ≤ 63
  | .sariL _ _ e => e.toNat ≤ 63
  | .leaL _ _ => true
  | .beq _ _ _ => true
  | .bne _ _ _ => true
  | .blt _ _ _ => true
  | .bge _ _ _ => true
  | .bltu _ _ _ => true
  | .bgeu _ _ _ => true
  | .jmp _ => true
  | .jal _ => true
  | .jr _ => true
  | .jalr _ _ => true
  | .rep c _ _ _ _ _ => c ≠ 0
  | .pool n => n ≠ 0
  | .tend => true
  | .sys => true
  | .trapret => true
  | .brk => true
  | .srd _ _ _ => true
  | .swr _ _ _ => true
  | .ifence => true
  | .lb _ _ _ => true
  | .lh _ _ _ => true
  | .lw _ _ _ => true
  | .ld _ _ _ => true
  | .sb _ _ _ => true
  | .sh _ _ _ => true
  | .sw _ _ _ => true
  | .sd _ _ _ => true
  | .lbL _ _ _ _ _ => true
  | .lhL _ _ _ _ _ => true
  | .lwL _ _ _ _ _ => true
  | .ldL _ _ _ _ _ => true
  | .sbL _ _ _ _ _ => true
  | .shL _ _ _ _ _ => true
  | .swL _ _ _ _ _ => true
  | .sdL _ _ _ _ _ => true
  | .lbu _ _ _ _ _ => true
  | .lhu _ _ _ _ _ => true
  | .lwu _ _ _ _ _ => true
  | .amoadd _ _ _ _ => true
  | .amomin _ _ _ _ => true
  | .amomax _ _ _ _ => true
  | .amominu _ _ _ _ => true
  | .amomaxu _ _ _ _ => true
  | .amoand _ _ _ _ => true
  | .amoor _ _ _ _ => true
  | .amoxor _ _ _ _ => true
  | .amoswap _ _ _ _ => true
  | .amocas _ _ _ _ => true
  | .amofadd _ _ _ _ => true
  | .fence => true
  | .ldf _ _ _ _ => true
  | .ldfe _ _ _ _ => true
  | .stf _ _ _ _ => true
  | .pf _ _ _ => true
  | .pfwait _ _ _ _ => true
  | .cinv => true
  | .fadd _ _ _ _ => true
  | .fsub _ _ _ _ => true
  | .fmul _ _ _ _ => true
  | .fdiv _ _ _ _ => true
  | .fsqrt _ _ _ => true
  | .fma _ _ _ _ => true
  | .fmin _ _ _ _ => true
  | .fmax _ _ _ _ => true
  | .fcmp _ _ _ _ => true
  | .fclass _ _ _ => true
  | .fsgn _ m _ _ => m.toNat ≤ 3
  | .fcvt _ c _ _ => c.toNat ≤ 16
  | .xclr _ => true
  | .xacc _ _ t => t.toNat ≤ 2
  | .xmerge _ _ => true
  | .xrnd t _ _ => t.toNat ≤ 1
  | .vclaim r _ => (r = 2 || r = 4 || r = 8 || r = 16)
  | .vmov t _ _ => t.toNat ≤ 8
  | .vbcast t _ _ => t.toNat ≤ 8
  | .vext t _ _ _ => t.toNat ≤ 8
  | .vins t _ _ _ => t.toNat ≤ 8
  | .vadd t _ _ _ => t.toNat ≤ 8
  | .vsub t _ _ _ => t.toNat ≤ 8
  | .vmul t _ _ _ => t.toNat ≤ 8
  | .vfma t _ _ _ => t.toNat ≤ 8
  | .vmin t _ _ _ => t.toNat ≤ 8
  | .vmax t _ _ _ => t.toNat ≤ 8
  | .vand t _ _ _ => t.toNat ≤ 8
  | .vor t _ _ _ => t.toNat ≤ 8
  | .vxor t _ _ _ => t.toNat ≤ 8
  | .vshl t _ _ _ => t.toNat ≤ 5
  | .vshr t _ _ _ => t.toNat ≤ 5
  | .vsar t _ _ _ => t.toNat ≤ 5
  | .vcmp t _ _ _ _ => t.toNat ≤ 8
  | .vsel t _ _ _ => t.toNat ≤ 8
  | .vperm t _ _ _ => t.toNat ≤ 8
  | .vcvt t s _ _ => t.toNat ≤ 8 && s.toNat ≤ 8 && s ≠ t
  | .qcvt t _ _ _ => 6 ≤ t.toNat && t.toNat ≤ 8
  | .vred t o _ _ => t.toNat ≤ 8 && o.toNat ≤ 5
  | .vld t _ _ _ _ => t.toNat ≤ 8
  | .vlds t _ _ _ _ => t.toNat ≤ 8
  | .vldx t _ _ _ _ => t.toNat ≤ 8
  | .vldt t _ _ _ d => (t.toNat ≤ 3 || t = 6 || t = 7) && d.toNat % 8 = 0
  | .vst t _ _ _ _ => t.toNat ≤ 8
  | .vsts t _ _ _ _ => t.toNat ≤ 8
  | .vstx t _ _ _ _ => t.toNat ≤ 8
  | .gshuf t _ _ _ => t.toNat ≤ 8
  | .gbcast t _ _ _ => t.toNat ≤ 8
  | .gvote t _ _ _ => t.toNat ≤ 8
  | .gmatch t _ _ => t.toNat ≤ 8
  | .gred t o _ _ => t.toNat ≤ 8 && o.toNat ≤ 5
  | .gscan t o _ _ => t.toNat ≤ 8 && o.toNat ≤ 5
  | .gmax t _ _ _ => 6 ≤ t.toNat && t.toNat ≤ 8
  | .gbar r _ => (r = 0 || r = 2 || r = 4 || r = 8 || r = 16)
  | .send _ _ => true
  | .spawn _ _ _ => true
  | .post _ _ => true
  | .decr _ _ => true
  | .kick _ _ _ => true
  | .ackx _ _ => true
  | .twpost _ _ _ => true
  | .splice _ _ => true
  | .recfwd _ _ => true
  | .chcfg _ _ _ => true
  | .chblk _ => true
  | .chunb _ => true
  | .matchTbl _ _ _ => true
  | .role _ _ => true
  | .rmap _ _ _ => true
  | .lease _ _ => true
  | .lrel _ => true
  | .notack _ _ _ => true
  | .budget _ _ => true
  | .badd _ _ _ => true
  | .hbeat => true
  | .cntrd _ _ => true
  | .mset r _ => r.toNat ≤ 6
  | .mget _ _ => true
  | .mgetPanel _ _ _ => true
  | .mgo _ _ _ => true
  | .mgot _ _ _ => true
  | .mwait _ _ => true
  | .mzero _ => true
  | .mdrain c w _ _ _ => (w = 1 || c = 0)
  | .cset r _ => 0x10 ≤ r.toNat && r.toNat ≤ 0x1C
  | .cgo _ => true
  | .cpoll r _ => 0x10 ≤ r.toNat && r.toNat ≤ 0x1D
  | .cwait _ _ => true
  | .ccancel _ _ => true
  | .bstate _ _ => true
  | .bgive _ _ => true
  | .btake _ _ => true
  | .bmarkState _ _ => true
  | .bmarkDefine _ _ => true
  | .bmarkRetain _ _ => true
  | .bmarkFree _ _ => true
  | .bwaitBuffer s _ _ => s ≠ 0
  | .bwaitRing _ _ _ _ => true
  | .badv _ _ _ _ => true
  | .bring _ _ => true
  | .moduleReset => true
  | .harvest => true
  | .bootFetch => true
  | .bootVerify => true
  | .statusRequest => true
  | .attestationReport => true
  | .governorStep => true
  | .thermalThrottle => true
  | .thermalShutdown => true
  | .cxlLinkTraining => true
  | .cxlLinkLoss => true
  | .cxlMemTimeout => true
  | .stopRequest => true
  | .wWaitSatisfied => true
  | .asyncTrapTaken => true
  | .responseArrival => true
  | .errorResponseArrival => true
  | .baddGrant => true
  | .writeAtHome => true
  | .readAtHome => true
  | .atomicAtUnit => true
  | .releaseHoldEnd => true
  | .writeAckArrival => true
  | .movedArrival => true
  | .movedReread => true
  | .portPacketArrival => true
  | .malformedHeaderDrop => true
  | .sendArrival => true
  | .spawnArrival => true
  | .postArrival => true
  | .decrAtHome => true
  | .kickArrival => true
  | .ackxAtHome => true
  | .twpostJobArrival => true
  | .twpostPermitArrival => true
  | .twpostEndArrival => true
  | .ctlCreditRequest => true
  | .ctlCreditRetry => true
  | .readyRingOffer => true
  | .dispatch => true
  | .contextSaveDone => true
  | .gangStart => true
  | .budgetExhausted => true
  | .engineBudgetExhausted => true
  | .periodRefill => true
  | .watchdogFire => true
  | .gangLineJoin => true
  | .mxJoin => true
  | .mxOpStart => true
  | .mxGroupCommit => true
  | .mxOperandsConsumed => true
  | .mzeroStart => true
  | .mdrainStart => true
  | .drainComplete => true
  | .gangPanelSave => true
  | .gangPanelRestore => true
  | .engineRegionZero => true
  | .copyJobStart => true
  | .copyJobComplete => true
  | .copyCancelStop => true
  | .loaderEmitRecord => true
  | .storerTakeRecord => true
  | .stageTakeData => true
  | .passThroughForward => true
  | .spliceApply => true
  | .stageTakeAbort => true
  | .pageWalk => true
  | .walkComplete => true
  | .walkMovingRetry => true
  | .tierFetchStart => true
  | .tierMoveCommit => true
  | .tierPinExpiry => true
  | .tierEvict => true
  | .protWrite => true
  | .protChangeDone => true
  | .dramRatioChange => true
  | .dramRelock => true
  | .uncorrectableRead => true
  | .refetchDone => true
  | .rowSpareRemap => true
  | .scoutSample => true
  | .scoutWindowEnd => true
  | .leaveatReached => true
  | .moveCommit => true
  | .graceEnd => true
  | .expressDrainLimit => true
  | .leaseRequest => true
  | .leaseExpiry => true
  | .lrelArrival => true
  | .rmapAction => true
  | .siteRetire => true
  | .whistleStop => true
  | .whistleResume => true
  | .whistleResumeTrap => true
  | .stopRecordWrite => true
  | .linkLossStop => true
  | .queueWake => true
  | .queuePageInDone => true
  | .queuePageOut => true
  | .launch => true
  | .amsg => true
  | .hostSplice => true
  | .hostLease => true
  | .preempt => true
  | .signalStore => true
  | .signalAdd => true
  | .signalWait => true
  | .signalPoll => true
  | .copy => true
  | .commandComplete => true
  | .launchArm => true
  | .launchCommit => true
  | .launchDisarm => true
  | .launchArmTimeout => true
  | .launchCommitTimeout => true
  | .laneSpare => true
  | .linkAudit => true
  | .linkDead => true
  | .tileReset => true
  | .injctlPause => true
  | .registerWrite => true
  | .recordArrival => true
  | .tileWalkJobComplete => true
  | .tileResetExit => true
  | .moduleLinkRestored => true
  | .launchAnswer => true
  | .timeSync => true
  | .thermalRecovery => true

end Sys2Proof
end

