-- ==== Sys2Proof/Decode.lean ====
section
/-! DEFINITION. The decoder and the encoder (R38 to R60): from words to instructions and back. A word is a natural number
below 2^32; its fields are read by `fld`. The decoder has two layers: `decodeLoose` names the instruction that OP and function
bits assign (R55 to R60), `decodeWord` also asks that every reserved field is zero (R41), which it does by encoding again. -/

namespace Sys2Proof

/-- The field of `n` bits that begins at bit `lo`. -/
def fld (w lo n : Nat) : BitVec n := BitVec.ofNat n (w / 2 ^ lo)

/-- Two's complement reading of a field (R2). -/
def sext {n : Nat} (k : Nat) (x : BitVec n) : BitVec k := BitVec.ofInt k x.toInt

/-- The width of a list of segments (width, value). -/
def segWidth : List (Nat × Nat) → Nat
  | [] => 0
  | p :: r => p.1 + segWidth r

/-- The word made of segments (width, value), the most significant first. -/
def pack : List (Nat × Nat) → Nat
  | [] => 0
  | p :: r => p.2 * 2 ^ segWidth r + pack r

/-- Words whose low byte is 0x04: the function bits [30:23] choose (R56, R58, R60). -/
def decode04 (w : Nat) : Option Instr :=
  match w / 2 ^ 23 % 2 ^ 8 with
  | 0 => some (.add (fld w 31 1) (fld w 18 5) (fld w 13 5) (fld w 8 5))
  | 1 => some (.sub (fld w 31 1) (fld w 18 5) (fld w 13 5) (fld w 8 5))
  | 2 => some (.and (fld w 31 1) (fld w 18 5) (fld w 13 5) (fld w 8 5))
  | 3 => some (.or (fld w 31 1) (fld w 18 5) (fld w 13 5) (fld w 8 5))
  | 4 => some (.xor (fld w 31 1) (fld w 18 5) (fld w 13 5) (fld w 8 5))
  | 5 => some (.andn (fld w 31 1) (fld w 18 5) (fld w 13 5) (fld w 8 5))
  | 6 => some (.shl (fld w 31 1) (fld w 18 5) (fld w 13 5) (fld w 8 5))
  | 7 => some (.shr (fld w 31 1) (fld w 18 5) (fld w 13 5) (fld w 8 5))
  | 8 => some (.sar (fld w 31 1) (fld w 18 5) (fld w 13 5) (fld w 8 5))
  | 9 => some (.rol (fld w 31 1) (fld w 18 5) (fld w 13 5) (fld w 8 5))
  | 10 => some (.min (fld w 31 1) (fld w 18 5) (fld w 13 5) (fld w 8 5))
  | 11 => some (.max (fld w 31 1) (fld w 18 5) (fld w 13 5) (fld w 8 5))
  | 12 => some (.minu (fld w 31 1) (fld w 18 5) (fld w 13 5) (fld w 8 5))
  | 13 => some (.maxu (fld w 31 1) (fld w 18 5) (fld w 13 5) (fld w 8 5))
  | 14 => some (.slt (fld w 31 1) (fld w 18 5) (fld w 13 5) (fld w 8 5))
  | 15 => some (.sltu (fld w 31 1) (fld w 18 5) (fld w 13 5) (fld w 8 5))
  | 16 => some (.seq (fld w 31 1) (fld w 18 5) (fld w 13 5) (fld w 8 5))
  | _ => none

/-- Words whose low byte is 0x05: the function bits [31:25] choose (R56, R58, R60). -/
def decode05 (w : Nat) : Option Instr :=
  match w / 2 ^ 25 % 2 ^ 7 with
  | 0 | 1 => some (.mget (fld w 23 3) (fld w 8 5))
  | 64 => some (.mgetPanel (fld w 23 2) (fld w 13 5) (fld w 8 5))
  | _ => none

/-- Words whose low byte is 0x08: the function bits [30:23] choose (R56, R58, R60). -/
def decode08 (w : Nat) : Option Instr :=
  match w / 2 ^ 23 % 2 ^ 8 with
  | 0 => some (.mul (fld w 31 1) (fld w 18 5) (fld w 13 5) (fld w 8 5))
  | 1 => some (.mulh (fld w 31 1) (fld w 18 5) (fld w 13 5) (fld w 8 5))
  | 2 => some (.mulhu (fld w 31 1) (fld w 18 5) (fld w 13 5) (fld w 8 5))
  | 3 => some (.div (fld w 31 1) (fld w 18 5) (fld w 13 5) (fld w 8 5))
  | 4 => some (.divu (fld w 31 1) (fld w 18 5) (fld w 13 5) (fld w 8 5))
  | 5 => some (.rem (fld w 31 1) (fld w 18 5) (fld w 13 5) (fld w 8 5))
  | 6 => some (.remu (fld w 31 1) (fld w 18 5) (fld w 13 5) (fld w 8 5))
  | _ => none

/-- Words whose low byte is 0x0C: the function bits [30:23] choose (R56, R58, R60). -/
def decode0C (w : Nat) : Option Instr :=
  match w / 2 ^ 23 % 2 ^ 8 with
  | 0 => some (.clz (fld w 31 1) (fld w 13 5) (fld w 8 5))
  | 1 => some (.ctz (fld w 31 1) (fld w 13 5) (fld w 8 5))
  | 2 => some (.popc (fld w 31 1) (fld w 13 5) (fld w 8 5))
  | 3 => some (.brev (fld w 31 1) (fld w 13 5) (fld w 8 5))
  | 4 => some (.bext (fld w 31 1) (fld w 18 5) (fld w 13 5) (fld w 8 5))
  | 5 => some (.bins (fld w 31 1) (fld w 18 5) (fld w 13 5) (fld w 8 5))
  | 6 => some (.sel (fld w 31 1) (fld w 18 5) (fld w 13 5) (fld w 8 5))
  | _ => none

/-- Words whose low byte is 0x60: the function bits [31:23] choose (R56, R58, R60). -/
def decode60 (w : Nat) : Option Instr :=
  match w / 2 ^ 23 % 2 ^ 9 with
  | 0 => some (.jr (fld w 13 5))
  | 1 => some (.jalr (fld w 13 5) (fld w 8 5))
  | _ => none

/-- Words whose low byte is 0x70: the function bits [31:23] choose (R56, R58, R60). -/
def decode70 (w : Nat) : Option Instr :=
  match w / 2 ^ 23 % 2 ^ 9 with
  | 0 => some .sys
  | 1 => some .trapret
  | 2 => some .brk
  | 3 => some (.srd (fld w 18 5) (fld w 13 5) (fld w 8 5))
  | 4 => some (.swr (fld w 18 5) (fld w 13 5) (fld w 8 5))
  | 5 => some .ifence
  | _ => none

/-- Words whose low byte is 0x83: bit 25 is the zero-extension U (R59). -/
def decode83 (w e : Nat) : Option Instr :=
  match w / 2 ^ 25 % 2 with
  | 0 => some (.lbL (fld w 23 2) (fld w 18 5) (fld w 13 5) (fld w 8 5) (fld e 0 32))
  | 1 => some (.lbu (fld w 23 2) (fld w 18 5) (fld w 13 5) (fld w 8 5) (fld e 0 32))
  | _ => none

/-- Words whose low byte is 0x87: bit 25 is the zero-extension U (R59). -/
def decode87 (w e : Nat) : Option Instr :=
  match w / 2 ^ 25 % 2 with
  | 0 => some (.lhL (fld w 23 2) (fld w 18 5) (fld w 13 5) (fld w 8 5) (fld e 0 32))
  | 1 => some (.lhu (fld w 23 2) (fld w 18 5) (fld w 13 5) (fld w 8 5) (fld e 0 32))
  | _ => none

/-- Words whose low byte is 0x8B: bit 25 is the zero-extension U (R59). -/
def decode8B (w e : Nat) : Option Instr :=
  match w / 2 ^ 25 % 2 with
  | 0 => some (.lwL (fld w 23 2) (fld w 18 5) (fld w 13 5) (fld w 8 5) (fld e 0 32))
  | 1 => some (.lwu (fld w 23 2) (fld w 18 5) (fld w 13 5) (fld w 8 5) (fld e 0 32))
  | _ => none

/-- Words whose low byte is 0xA0: the function bits [30:27] choose (R56, R58, R60). -/
def decodeA0 (w : Nat) : Option Instr :=
  match w / 2 ^ 27 % 2 ^ 4 with
  | 0 => some (.amoadd (fld w 31 1) (fld w 18 5) (fld w 13 5) (fld w 8 5))
  | 1 => some (.amomin (fld w 31 1) (fld w 18 5) (fld w 13 5) (fld w 8 5))
  | 2 => some (.amomax (fld w 31 1) (fld w 18 5) (fld w 13 5) (fld w 8 5))
  | 3 => some (.amominu (fld w 31 1) (fld w 18 5) (fld w 13 5) (fld w 8 5))
  | 4 => some (.amomaxu (fld w 31 1) (fld w 18 5) (fld w 13 5) (fld w 8 5))
  | 5 => some (.amoand (fld w 31 1) (fld w 18 5) (fld w 13 5) (fld w 8 5))
  | 6 => some (.amoor (fld w 31 1) (fld w 18 5) (fld w 13 5) (fld w 8 5))
  | 7 => some (.amoxor (fld w 31 1) (fld w 18 5) (fld w 13 5) (fld w 8 5))
  | 8 => some (.amoswap (fld w 31 1) (fld w 18 5) (fld w 13 5) (fld w 8 5))
  | 9 => some (.amocas (fld w 31 1) (fld w 18 5) (fld w 13 5) (fld w 8 5))
  | 10 => some (.amofadd (fld w 31 1) (fld w 18 5) (fld w 13 5) (fld w 8 5))
  | _ => none

/-- Words whose low byte is 0xA4: the function bits [31:25] choose (R56, R58, R60). -/
def decodeA4 (w : Nat) : Option Instr :=
  match w / 2 ^ 25 % 2 ^ 7 with
  | 0 => some .fence
  | 1 => some (.ldf (fld w 23 2) (fld w 18 5) (fld w 13 5) (fld w 8 5))
  | 2 => some (.ldfe (fld w 23 2) (fld w 18 5) (fld w 13 5) (fld w 8 5))
  | 3 => some (.stf (fld w 23 2) (fld w 18 5) (fld w 13 5) (fld w 8 5))
  | _ => none

/-- Words whose low byte is 0xA8: the function bits [31:25] choose (R56, R58, R60). -/
def decodeA8 (w : Nat) : Option Instr :=
  match w / 2 ^ 25 % 2 ^ 7 with
  | 0 => some (.pf (fld w 23 2) (fld w 18 5) (fld w 13 5))
  | 1 => some (.pfwait (fld w 23 2) (fld w 18 5) (fld w 13 5) (fld w 8 5))
  | 2 => some .cinv
  | _ => none

/-- Words whose low byte is 0xB0: the function bits [30:23] choose (R56, R58, R60). -/
def decodeB0 (w : Nat) : Option Instr :=
  match w / 2 ^ 23 % 2 ^ 8 with
  | 0 => some (.fadd (fld w 31 1) (fld w 18 5) (fld w 13 5) (fld w 8 5))
  | 1 => some (.fsub (fld w 31 1) (fld w 18 5) (fld w 13 5) (fld w 8 5))
  | 2 => some (.fmul (fld w 31 1) (fld w 18 5) (fld w 13 5) (fld w 8 5))
  | 3 => some (.fdiv (fld w 31 1) (fld w 18 5) (fld w 13 5) (fld w 8 5))
  | 4 => some (.fsqrt (fld w 31 1) (fld w 13 5) (fld w 8 5))
  | 5 => some (.fma (fld w 31 1) (fld w 18 5) (fld w 13 5) (fld w 8 5))
  | 6 => some (.fmin (fld w 31 1) (fld w 18 5) (fld w 13 5) (fld w 8 5))
  | 7 => some (.fmax (fld w 31 1) (fld w 18 5) (fld w 13 5) (fld w 8 5))
  | 8 => some (.fcmp (fld w 31 1) (fld w 18 5) (fld w 13 5) (fld w 8 5))
  | 9 => some (.fclass (fld w 31 1) (fld w 13 5) (fld w 8 5))
  | 10 => some (.fsgn (fld w 31 1) (fld w 18 5) (fld w 13 5) (fld w 8 5))
  | 11 => some (.fcvt (fld w 31 1) (fld w 18 5) (fld w 13 5) (fld w 8 5))
  | _ => none

/-- Words whose low byte is 0xB4: the function bits [31:23] choose (R56, R58, R60). -/
def decodeB4 (w : Nat) : Option Instr :=
  match w / 2 ^ 23 % 2 ^ 9 with
  | 0 => some (.xclr (fld w 13 5))
  | 1 => some (.xacc (fld w 18 5) (fld w 13 5) (fld w 8 5))
  | 2 => some (.xmerge (fld w 13 5) (fld w 8 5))
  | 3 => some (.xrnd (fld w 18 5) (fld w 13 5) (fld w 8 5))
  | _ => none

/-- Words whose low byte is 0xC0: the function bits [27:23] choose (R56, R58, R60). -/
def decodeC0 (w : Nat) : Option Instr :=
  match w / 2 ^ 23 % 2 ^ 5 with
  | 0 => some (.vclaim (fld w 18 5) (fld w 8 5))
  | 1 => some (.vmov (fld w 28 4) (fld w 13 5) (fld w 8 5))
  | 2 => some (.vbcast (fld w 28 4) (fld w 13 5) (fld w 8 5))
  | 3 => some (.vext (fld w 28 4) (fld w 18 5) (fld w 13 5) (fld w 8 5))
  | 4 => some (.vins (fld w 28 4) (fld w 18 5) (fld w 13 5) (fld w 8 5))
  | _ => none

/-- Words whose low byte is 0xC4: the function bits [27:23] choose (R56, R58, R60). -/
def decodeC4 (w : Nat) : Option Instr :=
  match w / 2 ^ 23 % 2 ^ 5 with
  | 0 => some (.vadd (fld w 28 4) (fld w 18 5) (fld w 13 5) (fld w 8 5))
  | 1 => some (.vsub (fld w 28 4) (fld w 18 5) (fld w 13 5) (fld w 8 5))
  | 2 => some (.vmul (fld w 28 4) (fld w 18 5) (fld w 13 5) (fld w 8 5))
  | 3 => some (.vfma (fld w 28 4) (fld w 18 5) (fld w 13 5) (fld w 8 5))
  | 4 => some (.vmin (fld w 28 4) (fld w 18 5) (fld w 13 5) (fld w 8 5))
  | 5 => some (.vmax (fld w 28 4) (fld w 18 5) (fld w 13 5) (fld w 8 5))
  | _ => none

/-- Words whose low byte is 0xC8: the function bits [27:23] choose (R56, R58, R60). -/
def decodeC8 (w : Nat) : Option Instr :=
  match w / 2 ^ 23 % 2 ^ 5 with
  | 0 => some (.vand (fld w 28 4) (fld w 18 5) (fld w 13 5) (fld w 8 5))
  | 1 => some (.vor (fld w 28 4) (fld w 18 5) (fld w 13 5) (fld w 8 5))
  | 2 => some (.vxor (fld w 28 4) (fld w 18 5) (fld w 13 5) (fld w 8 5))
  | 3 => some (.vshl (fld w 28 4) (fld w 18 5) (fld w 13 5) (fld w 8 5))
  | 4 => some (.vshr (fld w 28 4) (fld w 18 5) (fld w 13 5) (fld w 8 5))
  | 5 => some (.vsar (fld w 28 4) (fld w 18 5) (fld w 13 5) (fld w 8 5))
  | _ => none

/-- Words whose low byte is 0xCC: the function bits [27:23] choose (R56, R58, R60). -/
def decodeCC (w : Nat) : Option Instr :=
  match w / 2 ^ 23 % 2 ^ 5 with
  | 0 | 1 | 2 | 3 | 4 | 5 | 6 | 7 => some (.vcmp (fld w 28 4) (fld w 23 3) (fld w 18 5) (fld w 13 5) (fld w 8 3))
  | 8 => some (.vsel (fld w 28 4) (fld w 18 5) (fld w 13 5) (fld w 8 5))
  | 9 => some (.vperm (fld w 28 4) (fld w 18 5) (fld w 13 5) (fld w 8 5))
  | _ => none

/-- Words whose low byte is 0xCD: the function bits [31:23] choose (R56, R58, R60). -/
def decodeCD (w : Nat) : Option Instr :=
  match w / 2 ^ 23 % 2 ^ 9 with
  | 0 => some (.bmarkState (fld w 18 5) (fld w 13 5))
  | 1 => some (.bmarkDefine (fld w 18 5) (fld w 13 5))
  | 2 => some (.bmarkRetain (fld w 18 5) (fld w 13 5))
  | 3 => some (.bmarkFree (fld w 18 5) (fld w 13 5))
  | _ => none

/-- Words whose low byte is 0xD0: the function bits [27:23] choose (R56, R58, R60). -/
def decodeD0 (w : Nat) : Option Instr :=
  match w / 2 ^ 23 % 2 ^ 5 with
  | 0 => some (.vcvt (fld w 28 4) (fld w 18 4) (fld w 13 5) (fld w 8 5))
  | 1 => some (.qcvt (fld w 28 4) (fld w 18 5) (fld w 13 5) (fld w 8 5))
  | 8 | 9 | 10 | 11 | 12 | 13 | 14 | 15 => some (.vred (fld w 28 4) (fld w 23 3) (fld w 13 5) (fld w 8 5))
  | _ => none

/-- Words whose low byte is 0xD1: the function bits [31:31] choose (R56, R58, R60). -/
def decodeD1 (w : Nat) : Option Instr :=
  match w / 2 ^ 31 % 2 ^ 1 with
  | 0 => some (.bwaitBuffer (fld w 23 4) (fld w 13 5) (fld w 8 5))
  | 1 => some (.bwaitRing (fld w 23 1) (fld w 18 5) (fld w 13 5) (fld w 8 5))
  | _ => none

/-- Words whose low byte is 0xD4: the function bits [27:25] choose (R56, R58, R60). -/
def decodeD4 (w : Nat) : Option Instr :=
  match w / 2 ^ 25 % 2 ^ 3 with
  | 0 => some (.vld (fld w 28 4) (fld w 23 2) (fld w 18 5) (fld w 13 5) (fld w 8 5))
  | 1 => some (.vlds (fld w 28 4) (fld w 23 2) (fld w 18 5) (fld w 13 5) (fld w 8 5))
  | 2 => some (.vldx (fld w 28 4) (fld w 23 2) (fld w 18 5) (fld w 13 5) (fld w 8 5))
  | 3 => some (.vldt (fld w 28 4) (fld w 23 2) (fld w 18 5) (fld w 13 5) (fld w 8 5))
  | _ => none

/-- Words whose low byte is 0xD8: the function bits [27:25] choose (R56, R58, R60). -/
def decodeD8 (w : Nat) : Option Instr :=
  match w / 2 ^ 25 % 2 ^ 3 with
  | 0 => some (.vst (fld w 28 4) (fld w 23 2) (fld w 18 5) (fld w 13 5) (fld w 8 5))
  | 1 => some (.vsts (fld w 28 4) (fld w 23 2) (fld w 18 5) (fld w 13 5) (fld w 8 5))
  | 2 => some (.vstx (fld w 28 4) (fld w 23 2) (fld w 18 5) (fld w 13 5) (fld w 8 5))
  | _ => none

/-- Words whose low byte is 0xE0: the function bits [27:23] choose (R56, R58, R60). -/
def decodeE0 (w : Nat) : Option Instr :=
  match w / 2 ^ 23 % 2 ^ 5 with
  | 0 => some (.gshuf (fld w 28 4) (fld w 18 5) (fld w 13 5) (fld w 8 5))
  | 1 => some (.gbcast (fld w 28 4) (fld w 18 5) (fld w 13 5) (fld w 8 5))
  | _ => none

/-- Words whose low byte is 0xE4: the function bits [27:23] choose (R56, R58, R60). -/
def decodeE4 (w : Nat) : Option Instr :=
  match w / 2 ^ 23 % 2 ^ 5 with
  | 0 | 1 | 2 | 3 => some (.gvote (fld w 28 4) (fld w 23 2) (fld w 13 3) (fld w 8 5))
  | 8 => some (.gmatch (fld w 28 4) (fld w 13 5) (fld w 8 5))
  | _ => none

/-- Words whose low byte is 0xE8: the function bits [27:23] choose (R56, R58, R60). -/
def decodeE8 (w : Nat) : Option Instr :=
  match w / 2 ^ 23 % 2 ^ 5 with
  | 0 | 1 | 2 | 3 | 4 | 5 | 6 | 7 => some (.gred (fld w 28 4) (fld w 23 3) (fld w 13 5) (fld w 8 5))
  | 8 | 9 | 10 | 11 | 12 | 13 | 14 | 15 => some (.gscan (fld w 28 4) (fld w 23 3) (fld w 13 5) (fld w 8 5))
  | 16 => some (.gmax (fld w 28 4) (fld w 18 5) (fld w 13 5) (fld w 8 5))
  | _ => none

/-- Words whose low byte is 0xEC: the function bits [27:23] choose (R56, R58, R60). -/
def decodeEC (w : Nat) : Option Instr :=
  match w / 2 ^ 23 % 2 ^ 5 with
  | 0 => some (.gbar (fld w 18 5) (fld w 8 5))
  | _ => none

/-- Words whose low byte is 0xF0: the function bits [31:23] choose (R56, R58, R60). -/
def decodeF0 (w : Nat) : Option Instr :=
  match w / 2 ^ 23 % 2 ^ 9 with
  | 0 => some (.send (fld w 18 5) (fld w 13 5))
  | 1 => some (.spawn (fld w 18 5) (fld w 13 5) (fld w 8 5))
  | 2 => some (.post (fld w 18 5) (fld w 13 5))
  | 3 => some (.decr (fld w 18 5) (fld w 13 5))
  | 4 => some (.kick (fld w 18 5) (fld w 13 5) (fld w 8 5))
  | 5 => some (.ackx (fld w 18 5) (fld w 13 5))
  | 6 => some (.twpost (fld w 18 5) (fld w 13 5) (fld w 8 5))
  | 7 => some (.splice (fld w 18 5) (fld w 13 5))
  | 8 => some (.recfwd (fld w 18 5) (fld w 13 5))
  | _ => none

/-- Words whose low byte is 0xF4: the function bits [31:23] choose (R56, R58, R60). -/
def decodeF4 (w : Nat) : Option Instr :=
  match w / 2 ^ 23 % 2 ^ 9 with
  | 0 => some (.chcfg (fld w 18 5) (fld w 13 5) (fld w 8 5))
  | 1 => some (.chblk (fld w 13 5))
  | 2 => some (.chunb (fld w 13 5))
  | 3 => some (.matchTbl (fld w 18 5) (fld w 13 5) (fld w 8 5))
  | 4 => some (.role (fld w 13 5) (fld w 8 5))
  | 5 => some (.rmap (fld w 18 5) (fld w 13 5) (fld w 8 5))
  | 6 => some (.lease (fld w 18 5) (fld w 13 5))
  | 7 => some (.lrel (fld w 13 5))
  | 8 => some (.notack (fld w 18 5) (fld w 13 5) (fld w 8 5))
  | _ => none

/-- Words whose low byte is 0xF8: the function bits [31:23] choose (R56, R58, R60). -/
def decodeF8 (w : Nat) : Option Instr :=
  match w / 2 ^ 23 % 2 ^ 9 with
  | 0 => some (.budget (fld w 13 5) (fld w 8 5))
  | 1 => some (.badd (fld w 18 5) (fld w 13 5) (fld w 8 5))
  | 2 => some .hbeat
  | 3 => some (.cntrd (fld w 13 5) (fld w 8 5))
  | _ => none

/-- The instruction that a first word `w` names by its OP and function bits, with extension word `e` for the 64-bit space
(R55, R58 to R60). Prefix words and unassigned encodings name none. -/
def decodeLoose (w e : Nat) : Option Instr :=
  match w % 256 with
  | 0x00 => some (.ill (fld w 8 24))
  | 0x01 => some (.mset (fld w 23 9) (fld w 13 5))
  | 0x04 => decode04 w
  | 0x05 => decode05 w
  | 0x08 => decode08 w
  | 0x09 => some (.mgo (fld w 25 1) (fld w 23 2) (fld w 13 5))
  | 0x0C => decode0C w
  | 0x0D => some (.mgot (fld w 25 1) (fld w 23 2) (fld w 13 5))
  | 0x10 => some (.addi (fld w 18 14) (fld w 13 5) (fld w 8 5))
  | 0x11 => some (.mwait (fld w 23 1) (fld w 8 5))
  | 0x13 => some (.addiL (fld w 13 5) (fld w 8 5) (fld e 0 32))
  | 0x14 => some (.andi (fld w 18 14) (fld w 13 5) (fld w 8 5))
  | 0x15 => some (.mzero (fld w 23 2))
  | 0x17 => some (.andiL (fld w 13 5) (fld w 8 5) (fld e 0 32))
  | 0x18 => some (.ori (fld w 18 14) (fld w 13 5) (fld w 8 5))
  | 0x19 => some (.mdrain (fld w 26 6) (fld w 25 1) (fld w 23 2) (fld w 18 5) (fld w 13 5))
  | 0x1B => some (.oriL (fld w 13 5) (fld w 8 5) (fld e 0 32))
  | 0x1C => some (.xori (fld w 18 14) (fld w 13 5) (fld w 8 5))
  | 0x1F => some (.xoriL (fld w 13 5) (fld w 8 5) (fld e 0 32))
  | 0x20 => some (.slti (fld w 18 14) (fld w 13 5) (fld w 8 5))
  | 0x23 => some (.sltiL (fld w 13 5) (fld w 8 5) (fld e 0 32))
  | 0x24 => some (.sltui (fld w 18 14) (fld w 13 5) (fld w 8 5))
  | 0x27 => some (.sltuiL (fld w 13 5) (fld w 8 5) (fld e 0 32))
  | 0x28 => some (.shli (fld w 18 14) (fld w 13 5) (fld w 8 5))
  | 0x2B => some (.shliL (fld w 13 5) (fld w 8 5) (fld e 0 32))
  | 0x2C => some (.shri (fld w 18 14) (fld w 13 5) (fld w 8 5))
  | 0x2F => some (.shriL (fld w 13 5) (fld w 8 5) (fld e 0 32))
  | 0x30 => some (.sari (fld w 18 14) (fld w 13 5) (fld w 8 5))
  | 0x33 => some (.sariL (fld w 13 5) (fld w 8 5) (fld e 0 32))
  | 0x34 => some (.lih (fld w 18 14) (fld w 13 5) (fld w 8 5))
  | 0x38 => some (.lea (fld w 18 14) (fld w 8 5))
  | 0x3B => some (.leaL (fld w 8 5) (fld e 0 32))
  | 0x3C => some (.gadr (fld w 18 14) (fld w 13 5) (fld w 8 5))
  | 0x40 => some (.beq (fld w 18 14) (fld w 13 5) (fld w 8 5))
  | 0x44 => some (.bne (fld w 18 14) (fld w 13 5) (fld w 8 5))
  | 0x48 => some (.blt (fld w 18 14) (fld w 13 5) (fld w 8 5))
  | 0x4C => some (.bge (fld w 18 14) (fld w 13 5) (fld w 8 5))
  | 0x50 => some (.bltu (fld w 18 14) (fld w 13 5) (fld w 8 5))
  | 0x54 => some (.bgeu (fld w 18 14) (fld w 13 5) (fld w 8 5))
  | 0x58 => some (.jmp (fld w 8 24))
  | 0x5C => some (.jal (fld w 8 24))
  | 0x60 => decode60 w
  | 0x64 => some (.rep (fld w 18 14) (fld w 14 4) (fld w 13 1) (fld w 12 1) (fld w 11 1) (fld w 8 3))
  | 0x68 => some (.pool (fld w 8 12))
  | 0x6C => some .tend
  | 0x70 => decode70 w
  | 0x80 => some (.lb (fld w 18 14) (fld w 13 5) (fld w 8 5))
  | 0x81 => some (.cset (fld w 23 9) (fld w 13 5))
  | 0x83 => decode83 w e
  | 0x84 => some (.lh (fld w 18 14) (fld w 13 5) (fld w 8 5))
  | 0x85 => some (.cgo (fld w 8 5))
  | 0x87 => decode87 w e
  | 0x88 => some (.lw (fld w 18 14) (fld w 13 5) (fld w 8 5))
  | 0x89 => some (.cpoll (fld w 23 9) (fld w 8 5))
  | 0x8B => decode8B w e
  | 0x8C => some (.ld (fld w 18 14) (fld w 13 5) (fld w 8 5))
  | 0x8D => some (.cwait (fld w 13 5) (fld w 8 5))
  | 0x8F => some (.ldL (fld w 23 2) (fld w 18 5) (fld w 13 5) (fld w 8 5) (fld e 0 32))
  | 0x90 => some (.sb (fld w 18 14) (fld w 13 5) (fld w 8 5))
  | 0x91 => some (.ccancel (fld w 13 5) (fld w 8 5))
  | 0x93 => some (.sbL (fld w 23 2) (fld w 18 5) (fld w 13 5) (fld w 8 5) (fld e 0 32))
  | 0x94 => some (.sh (fld w 18 14) (fld w 13 5) (fld w 8 5))
  | 0x97 => some (.shL (fld w 23 2) (fld w 18 5) (fld w 13 5) (fld w 8 5) (fld e 0 32))
  | 0x98 => some (.sw (fld w 18 14) (fld w 13 5) (fld w 8 5))
  | 0x9B => some (.swL (fld w 23 2) (fld w 18 5) (fld w 13 5) (fld w 8 5) (fld e 0 32))
  | 0x9C => some (.sd (fld w 18 14) (fld w 13 5) (fld w 8 5))
  | 0x9F => some (.sdL (fld w 23 2) (fld w 18 5) (fld w 13 5) (fld w 8 5) (fld e 0 32))
  | 0xA0 => decodeA0 w
  | 0xA4 => decodeA4 w
  | 0xA8 => decodeA8 w
  | 0xB0 => decodeB0 w
  | 0xB4 => decodeB4 w
  | 0xC0 => decodeC0 w
  | 0xC1 => some (.bstate (fld w 13 5) (fld w 8 5))
  | 0xC4 => decodeC4 w
  | 0xC5 => some (.bgive (fld w 18 5) (fld w 13 5))
  | 0xC8 => decodeC8 w
  | 0xC9 => some (.btake (fld w 13 5) (fld w 8 5))
  | 0xCC => decodeCC w
  | 0xCD => decodeCD w
  | 0xD0 => decodeD0 w
  | 0xD1 => decodeD1 w
  | 0xD4 => decodeD4 w
  | 0xD5 => some (.badv (fld w 23 1) (fld w 18 5) (fld w 13 5) (fld w 8 5))
  | 0xD8 => decodeD8 w
  | 0xD9 => some (.bring (fld w 18 5) (fld w 13 5))
  | 0xE0 => decodeE0 w
  | 0xE4 => decodeE4 w
  | 0xE8 => decodeE8 w
  | 0xEC => decodeEC w
  | 0xF0 => decodeF0 w
  | 0xF4 => decodeF4 w
  | 0xF8 => decodeF8 w
  | _ => none

/-- The words of an instruction as lists of segments, the most significant first (R39, R42, R43, R52, R58 to R60); a step that
no word encodes has none. -/
def encodeSegs : Instr → List (List (Nat × Nat))
  | .ill x => [[(24, x.toNat), (8, 0)]]
  | .add w b a d => [[(1, w.toNat), (8, 0), (5, b.toNat), (5, a.toNat), (5, d.toNat), (8, 0x4)]]
  | .sub w b a d => [[(1, w.toNat), (8, 0x1), (5, b.toNat), (5, a.toNat), (5, d.toNat), (8, 0x4)]]
  | .and w b a d => [[(1, w.toNat), (8, 0x2), (5, b.toNat), (5, a.toNat), (5, d.toNat), (8, 0x4)]]
  | .or w b a d => [[(1, w.toNat), (8, 0x3), (5, b.toNat), (5, a.toNat), (5, d.toNat), (8, 0x4)]]
  | .xor w b a d => [[(1, w.toNat), (8, 0x4), (5, b.toNat), (5, a.toNat), (5, d.toNat), (8, 0x4)]]
  | .andn w b a d => [[(1, w.toNat), (8, 0x5), (5, b.toNat), (5, a.toNat), (5, d.toNat), (8, 0x4)]]
  | .shl w b a d => [[(1, w.toNat), (8, 0x6), (5, b.toNat), (5, a.toNat), (5, d.toNat), (8, 0x4)]]
  | .shr w b a d => [[(1, w.toNat), (8, 0x7), (5, b.toNat), (5, a.toNat), (5, d.toNat), (8, 0x4)]]
  | .sar w b a d => [[(1, w.toNat), (8, 0x8), (5, b.toNat), (5, a.toNat), (5, d.toNat), (8, 0x4)]]
  | .rol w b a d => [[(1, w.toNat), (8, 0x9), (5, b.toNat), (5, a.toNat), (5, d.toNat), (8, 0x4)]]
  | .min w b a d => [[(1, w.toNat), (8, 0xa), (5, b.toNat), (5, a.toNat), (5, d.toNat), (8, 0x4)]]
  | .max w b a d => [[(1, w.toNat), (8, 0xb), (5, b.toNat), (5, a.toNat), (5, d.toNat), (8, 0x4)]]
  | .minu w b a d => [[(1, w.toNat), (8, 0xc), (5, b.toNat), (5, a.toNat), (5, d.toNat), (8, 0x4)]]
  | .maxu w b a d => [[(1, w.toNat), (8, 0xd), (5, b.toNat), (5, a.toNat), (5, d.toNat), (8, 0x4)]]
  | .slt w b a d => [[(1, w.toNat), (8, 0xe), (5, b.toNat), (5, a.toNat), (5, d.toNat), (8, 0x4)]]
  | .sltu w b a d => [[(1, w.toNat), (8, 0xf), (5, b.toNat), (5, a.toNat), (5, d.toNat), (8, 0x4)]]
  | .seq w b a d => [[(1, w.toNat), (8, 0x10), (5, b.toNat), (5, a.toNat), (5, d.toNat), (8, 0x4)]]
  | .mul w b a d => [[(1, w.toNat), (8, 0), (5, b.toNat), (5, a.toNat), (5, d.toNat), (8, 0x8)]]
  | .mulh w b a d => [[(1, w.toNat), (8, 0x1), (5, b.toNat), (5, a.toNat), (5, d.toNat), (8, 0x8)]]
  | .mulhu w b a d => [[(1, w.toNat), (8, 0x2), (5, b.toNat), (5, a.toNat), (5, d.toNat), (8, 0x8)]]
  | .div w b a d => [[(1, w.toNat), (8, 0x3), (5, b.toNat), (5, a.toNat), (5, d.toNat), (8, 0x8)]]
  | .divu w b a d => [[(1, w.toNat), (8, 0x4), (5, b.toNat), (5, a.toNat), (5, d.toNat), (8, 0x8)]]
  | .rem w b a d => [[(1, w.toNat), (8, 0x5), (5, b.toNat), (5, a.toNat), (5, d.toNat), (8, 0x8)]]
  | .remu w b a d => [[(1, w.toNat), (8, 0x6), (5, b.toNat), (5, a.toNat), (5, d.toNat), (8, 0x8)]]
  | .clz w a d => [[(1, w.toNat), (8, 0), (5, 0), (5, a.toNat), (5, d.toNat), (8, 0xc)]]
  | .ctz w a d => [[(1, w.toNat), (8, 0x1), (5, 0), (5, a.toNat), (5, d.toNat), (8, 0xc)]]
  | .popc w a d => [[(1, w.toNat), (8, 0x2), (5, 0), (5, a.toNat), (5, d.toNat), (8, 0xc)]]
  | .brev w a d => [[(1, w.toNat), (8, 0x3), (5, 0), (5, a.toNat), (5, d.toNat), (8, 0xc)]]
  | .bext w b a d => [[(1, w.toNat), (8, 0x4), (5, b.toNat), (5, a.toNat), (5, d.toNat), (8, 0xc)]]
  | .bins w b a d => [[(1, w.toNat), (8, 0x5), (5, b.toNat), (5, a.toNat), (5, d.toNat), (8, 0xc)]]
  | .sel w b a d => [[(1, w.toNat), (8, 0x6), (5, b.toNat), (5, a.toNat), (5, d.toNat), (8, 0xc)]]
  | .addi i a d => [[(14, i.toNat), (5, a.toNat), (5, d.toNat), (8, 0x10)]]
  | .andi i a d => [[(14, i.toNat), (5, a.toNat), (5, d.toNat), (8, 0x14)]]
  | .ori i a d => [[(14, i.toNat), (5, a.toNat), (5, d.toNat), (8, 0x18)]]
  | .xori i a d => [[(14, i.toNat), (5, a.toNat), (5, d.toNat), (8, 0x1c)]]
  | .slti i a d => [[(14, i.toNat), (5, a.toNat), (5, d.toNat), (8, 0x20)]]
  | .sltui i a d => [[(14, i.toNat), (5, a.toNat), (5, d.toNat), (8, 0x24)]]
  | .shli i a d => [[(14, i.toNat), (5, a.toNat), (5, d.toNat), (8, 0x28)]]
  | .shri i a d => [[(14, i.toNat), (5, a.toNat), (5, d.toNat), (8, 0x2c)]]
  | .sari i a d => [[(14, i.toNat), (5, a.toNat), (5, d.toNat), (8, 0x30)]]
  | .lih i a d => [[(14, i.toNat), (5, a.toNat), (5, d.toNat), (8, 0x34)]]
  | .lea i d => [[(14, i.toNat), (5, 0), (5, d.toNat), (8, 0x38)]]
  | .gadr i a d => [[(14, i.toNat), (5, a.toNat), (5, d.toNat), (8, 0x3c)]]
  | .addiL a d e => [[(14, 0), (5, a.toNat), (5, d.toNat), (8, 0x13)], [(32, e.toNat)]]
  | .andiL a d e => [[(14, 0), (5, a.toNat), (5, d.toNat), (8, 0x17)], [(32, e.toNat)]]
  | .oriL a d e => [[(14, 0), (5, a.toNat), (5, d.toNat), (8, 0x1b)], [(32, e.toNat)]]
  | .xoriL a d e => [[(14, 0), (5, a.toNat), (5, d.toNat), (8, 0x1f)], [(32, e.toNat)]]
  | .sltiL a d e => [[(14, 0), (5, a.toNat), (5, d.toNat), (8, 0x23)], [(32, e.toNat)]]
  | .sltuiL a d e => [[(14, 0), (5, a.toNat), (5, d.toNat), (8, 0x27)], [(32, e.toNat)]]
  | .shliL a d e => [[(14, 0), (5, a.toNat), (5, d.toNat), (8, 0x2b)], [(32, e.toNat)]]
  | .shriL a d e => [[(14, 0), (5, a.toNat), (5, d.toNat), (8, 0x2f)], [(32, e.toNat)]]
  | .sariL a d e => [[(14, 0), (5, a.toNat), (5, d.toNat), (8, 0x33)], [(32, e.toNat)]]
  | .leaL d e => [[(14, 0), (5, 0), (5, d.toNat), (8, 0x3b)], [(32, e.toNat)]]
  | .beq o a d => [[(14, o.toNat), (5, a.toNat), (5, d.toNat), (8, 0x40)]]
  | .bne o a d => [[(14, o.toNat), (5, a.toNat), (5, d.toNat), (8, 0x44)]]
  | .blt o a d => [[(14, o.toNat), (5, a.toNat), (5, d.toNat), (8, 0x48)]]
  | .bge o a d => [[(14, o.toNat), (5, a.toNat), (5, d.toNat), (8, 0x4c)]]
  | .bltu o a d => [[(14, o.toNat), (5, a.toNat), (5, d.toNat), (8, 0x50)]]
  | .bgeu o a d => [[(14, o.toNat), (5, a.toNat), (5, d.toNat), (8, 0x54)]]
  | .jmp o => [[(24, o.toNat), (8, 0x58)]]
  | .jal o => [[(24, o.toNat), (8, 0x5c)]]
  | .jr a => [[(9, 0), (5, 0), (5, a.toNat), (5, 0), (8, 0x60)]]
  | .jalr a d => [[(9, 0x1), (5, 0), (5, a.toNat), (5, d.toNat), (8, 0x60)]]
  | .rep c s b a d n => [[(14, c.toNat), (4, s.toNat), (1, b.toNat), (1, a.toNat), (1, d.toNat), (3, n.toNat), (8, 0x64)]]
  | .pool n => [[(12, 0), (12, n.toNat), (8, 0x68)]]
  | .tend => [[(24, 0), (8, 0x6c)]]
  | .sys => [[(9, 0), (15, 0), (8, 0x70)]]
  | .trapret => [[(9, 0x1), (15, 0), (8, 0x70)]]
  | .brk => [[(9, 0x2), (15, 0), (8, 0x70)]]
  | .srd b a d => [[(9, 0x3), (5, b.toNat), (5, a.toNat), (5, d.toNat), (8, 0x70)]]
  | .swr b a d => [[(9, 0x4), (5, b.toNat), (5, a.toNat), (5, d.toNat), (8, 0x70)]]
  | .ifence => [[(9, 0x5), (15, 0), (8, 0x70)]]
  | .lb i a d => [[(14, i.toNat), (5, a.toNat), (5, d.toNat), (8, 0x80)]]
  | .lh i a d => [[(14, i.toNat), (5, a.toNat), (5, d.toNat), (8, 0x84)]]
  | .lw i a d => [[(14, i.toNat), (5, a.toNat), (5, d.toNat), (8, 0x88)]]
  | .ld i a d => [[(14, i.toNat), (5, a.toNat), (5, d.toNat), (8, 0x8c)]]
  | .sb i a d => [[(14, i.toNat), (5, a.toNat), (5, d.toNat), (8, 0x90)]]
  | .sh i a d => [[(14, i.toNat), (5, a.toNat), (5, d.toNat), (8, 0x94)]]
  | .sw i a d => [[(14, i.toNat), (5, a.toNat), (5, d.toNat), (8, 0x98)]]
  | .sd i a d => [[(14, i.toNat), (5, a.toNat), (5, d.toNat), (8, 0x9c)]]
  | .lbL s b a d e => [[(6, 0), (1, 0), (2, s.toNat), (5, b.toNat), (5, a.toNat), (5, d.toNat), (8, 0x83)], [(32, e.toNat)]]
  | .lhL s b a d e => [[(6, 0), (1, 0), (2, s.toNat), (5, b.toNat), (5, a.toNat), (5, d.toNat), (8, 0x87)], [(32, e.toNat)]]
  | .lwL s b a d e => [[(6, 0), (1, 0), (2, s.toNat), (5, b.toNat), (5, a.toNat), (5, d.toNat), (8, 0x8b)], [(32, e.toNat)]]
  | .ldL s b a d e => [[(6, 0), (1, 0), (2, s.toNat), (5, b.toNat), (5, a.toNat), (5, d.toNat), (8, 0x8f)], [(32, e.toNat)]]
  | .sbL s b a d e => [[(6, 0), (1, 0), (2, s.toNat), (5, b.toNat), (5, a.toNat), (5, d.toNat), (8, 0x93)], [(32, e.toNat)]]
  | .shL s b a d e => [[(6, 0), (1, 0), (2, s.toNat), (5, b.toNat), (5, a.toNat), (5, d.toNat), (8, 0x97)], [(32, e.toNat)]]
  | .swL s b a d e => [[(6, 0), (1, 0), (2, s.toNat), (5, b.toNat), (5, a.toNat), (5, d.toNat), (8, 0x9b)], [(32, e.toNat)]]
  | .sdL s b a d e => [[(6, 0), (1, 0), (2, s.toNat), (5, b.toNat), (5, a.toNat), (5, d.toNat), (8, 0x9f)], [(32, e.toNat)]]
  | .lbu s b a d e => [[(6, 0), (1, 1), (2, s.toNat), (5, b.toNat), (5, a.toNat), (5, d.toNat), (8, 0x83)], [(32, e.toNat)]]
  | .lhu s b a d e => [[(6, 0), (1, 1), (2, s.toNat), (5, b.toNat), (5, a.toNat), (5, d.toNat), (8, 0x87)], [(32, e.toNat)]]
  | .lwu s b a d e => [[(6, 0), (1, 1), (2, s.toNat), (5, b.toNat), (5, a.toNat), (5, d.toNat), (8, 0x8b)], [(32, e.toNat)]]
  | .amoadd s b a d => [[(1, s.toNat), (4, 0), (4, 0), (5, b.toNat), (5, a.toNat), (5, d.toNat), (8, 0xa0)]]
  | .amomin s b a d => [[(1, s.toNat), (4, 0x1), (4, 0), (5, b.toNat), (5, a.toNat), (5, d.toNat), (8, 0xa0)]]
  | .amomax s b a d => [[(1, s.toNat), (4, 0x2), (4, 0), (5, b.toNat), (5, a.toNat), (5, d.toNat), (8, 0xa0)]]
  | .amominu s b a d => [[(1, s.toNat), (4, 0x3), (4, 0), (5, b.toNat), (5, a.toNat), (5, d.toNat), (8, 0xa0)]]
  | .amomaxu s b a d => [[(1, s.toNat), (4, 0x4), (4, 0), (5, b.toNat), (5, a.toNat), (5, d.toNat), (8, 0xa0)]]
  | .amoand s b a d => [[(1, s.toNat), (4, 0x5), (4, 0), (5, b.toNat), (5, a.toNat), (5, d.toNat), (8, 0xa0)]]
  | .amoor s b a d => [[(1, s.toNat), (4, 0x6), (4, 0), (5, b.toNat), (5, a.toNat), (5, d.toNat), (8, 0xa0)]]
  | .amoxor s b a d => [[(1, s.toNat), (4, 0x7), (4, 0), (5, b.toNat), (5, a.toNat), (5, d.toNat), (8, 0xa0)]]
  | .amoswap s b a d => [[(1, s.toNat), (4, 0x8), (4, 0), (5, b.toNat), (5, a.toNat), (5, d.toNat), (8, 0xa0)]]
  | .amocas s b a d => [[(1, s.toNat), (4, 0x9), (4, 0), (5, b.toNat), (5, a.toNat), (5, d.toNat), (8, 0xa0)]]
  | .amofadd s b a d => [[(1, s.toNat), (4, 0xa), (4, 0), (5, b.toNat), (5, a.toNat), (5, d.toNat), (8, 0xa0)]]
  | .fence => [[(7, 0), (17, 0), (8, 0xa4)]]
  | .ldf s b a d => [[(7, 0x1), (2, s.toNat), (5, b.toNat), (5, a.toNat), (5, d.toNat), (8, 0xa4)]]
  | .ldfe s b a d => [[(7, 0x2), (2, s.toNat), (5, b.toNat), (5, a.toNat), (5, d.toNat), (8, 0xa4)]]
  | .stf s b a d => [[(7, 0x3), (2, s.toNat), (5, b.toNat), (5, a.toNat), (5, d.toNat), (8, 0xa4)]]
  | .pf s b a => [[(7, 0), (2, s.toNat), (5, b.toNat), (5, a.toNat), (5, 0), (8, 0xa8)]]
  | .pfwait s b a d => [[(7, 0x1), (2, s.toNat), (5, b.toNat), (5, a.toNat), (5, d.toNat), (8, 0xa8)]]
  | .cinv => [[(7, 0x2), (17, 0), (8, 0xa8)]]
  | .fadd t b a d => [[(1, t.toNat), (8, 0), (5, b.toNat), (5, a.toNat), (5, d.toNat), (8, 0xb0)]]
  | .fsub t b a d => [[(1, t.toNat), (8, 0x1), (5, b.toNat), (5, a.toNat), (5, d.toNat), (8, 0xb0)]]
  | .fmul t b a d => [[(1, t.toNat), (8, 0x2), (5, b.toNat), (5, a.toNat), (5, d.toNat), (8, 0xb0)]]
  | .fdiv t b a d => [[(1, t.toNat), (8, 0x3), (5, b.toNat), (5, a.toNat), (5, d.toNat), (8, 0xb0)]]
  | .fsqrt t a d => [[(1, t.toNat), (8, 0x4), (5, 0), (5, a.toNat), (5, d.toNat), (8, 0xb0)]]
  | .fma t b a d => [[(1, t.toNat), (8, 0x5), (5, b.toNat), (5, a.toNat), (5, d.toNat), (8, 0xb0)]]
  | .fmin t b a d => [[(1, t.toNat), (8, 0x6), (5, b.toNat), (5, a.toNat), (5, d.toNat), (8, 0xb0)]]
  | .fmax t b a d => [[(1, t.toNat), (8, 0x7), (5, b.toNat), (5, a.toNat), (5, d.toNat), (8, 0xb0)]]
  | .fcmp t b a d => [[(1, t.toNat), (8, 0x8), (5, b.toNat), (5, a.toNat), (5, d.toNat), (8, 0xb0)]]
  | .fclass t a d => [[(1, t.toNat), (8, 0x9), (5, 0), (5, a.toNat), (5, d.toNat), (8, 0xb0)]]
  | .fsgn t m a d => [[(1, t.toNat), (8, 0xa), (5, m.toNat), (5, a.toNat), (5, d.toNat), (8, 0xb0)]]
  | .fcvt t c a d => [[(1, t.toNat), (8, 0xb), (5, c.toNat), (5, a.toNat), (5, d.toNat), (8, 0xb0)]]
  | .xclr a => [[(9, 0), (5, 0), (5, a.toNat), (5, 0), (8, 0xb4)]]
  | .xacc b a t => [[(9, 0x1), (5, b.toNat), (5, a.toNat), (5, t.toNat), (8, 0xb4)]]
  | .xmerge a d => [[(9, 0x2), (5, 0), (5, a.toNat), (5, d.toNat), (8, 0xb4)]]
  | .xrnd t a d => [[(9, 0x3), (5, t.toNat), (5, a.toNat), (5, d.toNat), (8, 0xb4)]]
  | .vclaim r d => [[(4, 0), (5, 0), (5, r.toNat), (5, 0), (5, d.toNat), (8, 0xc0)]]
  | .vmov t a d => [[(4, t.toNat), (5, 0x1), (5, 0), (5, a.toNat), (5, d.toNat), (8, 0xc0)]]
  | .vbcast t a d => [[(4, t.toNat), (5, 0x2), (5, 0), (5, a.toNat), (5, d.toNat), (8, 0xc0)]]
  | .vext t b a d => [[(4, t.toNat), (5, 0x3), (5, b.toNat), (5, a.toNat), (5, d.toNat), (8, 0xc0)]]
  | .vins t b a d => [[(4, t.toNat), (5, 0x4), (5, b.toNat), (5, a.toNat), (5, d.toNat), (8, 0xc0)]]
  | .vadd t b a d => [[(4, t.toNat), (5, 0), (5, b.toNat), (5, a.toNat), (5, d.toNat), (8, 0xc4)]]
  | .vsub t b a d => [[(4, t.toNat), (5, 0x1), (5, b.toNat), (5, a.toNat), (5, d.toNat), (8, 0xc4)]]
  | .vmul t b a d => [[(4, t.toNat), (5, 0x2), (5, b.toNat), (5, a.toNat), (5, d.toNat), (8, 0xc4)]]
  | .vfma t b a d => [[(4, t.toNat), (5, 0x3), (5, b.toNat), (5, a.toNat), (5, d.toNat), (8, 0xc4)]]
  | .vmin t b a d => [[(4, t.toNat), (5, 0x4), (5, b.toNat), (5, a.toNat), (5, d.toNat), (8, 0xc4)]]
  | .vmax t b a d => [[(4, t.toNat), (5, 0x5), (5, b.toNat), (5, a.toNat), (5, d.toNat), (8, 0xc4)]]
  | .vand t b a d => [[(4, t.toNat), (5, 0), (5, b.toNat), (5, a.toNat), (5, d.toNat), (8, 0xc8)]]
  | .vor t b a d => [[(4, t.toNat), (5, 0x1), (5, b.toNat), (5, a.toNat), (5, d.toNat), (8, 0xc8)]]
  | .vxor t b a d => [[(4, t.toNat), (5, 0x2), (5, b.toNat), (5, a.toNat), (5, d.toNat), (8, 0xc8)]]
  | .vshl t b a d => [[(4, t.toNat), (5, 0x3), (5, b.toNat), (5, a.toNat), (5, d.toNat), (8, 0xc8)]]
  | .vshr t b a d => [[(4, t.toNat), (5, 0x4), (5, b.toNat), (5, a.toNat), (5, d.toNat), (8, 0xc8)]]
  | .vsar t b a d => [[(4, t.toNat), (5, 0x5), (5, b.toNat), (5, a.toNat), (5, d.toNat), (8, 0xc8)]]
  | .vcmp t c b a d => [[(4, t.toNat), (2, 0), (3, c.toNat), (5, b.toNat), (5, a.toNat), (2, 0), (3, d.toNat), (8, 0xcc)]]
  | .vsel t b a d => [[(4, t.toNat), (5, 0x8), (5, b.toNat), (5, a.toNat), (5, d.toNat), (8, 0xcc)]]
  | .vperm t b a d => [[(4, t.toNat), (5, 0x9), (5, b.toNat), (5, a.toNat), (5, d.toNat), (8, 0xcc)]]
  | .vcvt t s a d => [[(4, t.toNat), (5, 0), (1, 0), (4, s.toNat), (5, a.toNat), (5, d.toNat), (8, 0xd0)]]
  | .qcvt t b a d => [[(4, t.toNat), (5, 0x1), (5, b.toNat), (5, a.toNat), (5, d.toNat), (8, 0xd0)]]
  | .vred t o a d => [[(4, t.toNat), (2, 0x1), (3, o.toNat), (5, 0), (5, a.toNat), (5, d.toNat), (8, 0xd0)]]
  | .vld t s b a d => [[(4, t.toNat), (3, 0), (2, s.toNat), (5, b.toNat), (5, a.toNat), (5, d.toNat), (8, 0xd4)]]
  | .vlds t s b a d => [[(4, t.toNat), (3, 0x1), (2, s.toNat), (5, b.toNat), (5, a.toNat), (5, d.toNat), (8, 0xd4)]]
  | .vldx t s b a d => [[(4, t.toNat), (3, 0x2), (2, s.toNat), (5, b.toNat), (5, a.toNat), (5, d.toNat), (8, 0xd4)]]
  | .vldt t s b a d => [[(4, t.toNat), (3, 0x3), (2, s.toNat), (5, b.toNat), (5, a.toNat), (5, d.toNat), (8, 0xd4)]]
  | .vst t s b a d => [[(4, t.toNat), (3, 0), (2, s.toNat), (5, b.toNat), (5, a.toNat), (5, d.toNat), (8, 0xd8)]]
  | .vsts t s b a d => [[(4, t.toNat), (3, 0x1), (2, s.toNat), (5, b.toNat), (5, a.toNat), (5, d.toNat), (8, 0xd8)]]
  | .vstx t s b a d => [[(4, t.toNat), (3, 0x2), (2, s.toNat), (5, b.toNat), (5, a.toNat), (5, d.toNat), (8, 0xd8)]]
  | .gshuf t b a d => [[(4, t.toNat), (5, 0), (5, b.toNat), (5, a.toNat), (5, d.toNat), (8, 0xe0)]]
  | .gbcast t b a d => [[(4, t.toNat), (5, 0x1), (5, b.toNat), (5, a.toNat), (5, d.toNat), (8, 0xe0)]]
  | .gvote t v a d => [[(4, t.toNat), (3, 0), (2, v.toNat), (7, 0), (3, a.toNat), (5, d.toNat), (8, 0xe4)]]
  | .gmatch t a d => [[(4, t.toNat), (5, 0x8), (5, 0), (5, a.toNat), (5, d.toNat), (8, 0xe4)]]
  | .gred t o a d => [[(4, t.toNat), (2, 0), (3, o.toNat), (5, 0), (5, a.toNat), (5, d.toNat), (8, 0xe8)]]
  | .gscan t o a d => [[(4, t.toNat), (2, 0x1), (3, o.toNat), (5, 0), (5, a.toNat), (5, d.toNat), (8, 0xe8)]]
  | .gmax t b a d => [[(4, t.toNat), (5, 0x10), (5, b.toNat), (5, a.toNat), (5, d.toNat), (8, 0xe8)]]
  | .gbar r d => [[(4, 0), (5, 0), (5, r.toNat), (5, 0), (5, d.toNat), (8, 0xec)]]
  | .send b a => [[(9, 0), (5, b.toNat), (5, a.toNat), (5, 0), (8, 0xf0)]]
  | .spawn b a d => [[(9, 0x1), (5, b.toNat), (5, a.toNat), (5, d.toNat), (8, 0xf0)]]
  | .post b a => [[(9, 0x2), (5, b.toNat), (5, a.toNat), (5, 0), (8, 0xf0)]]
  | .decr b a => [[(9, 0x3), (5, b.toNat), (5, a.toNat), (5, 0), (8, 0xf0)]]
  | .kick b a d => [[(9, 0x4), (5, b.toNat), (5, a.toNat), (5, d.toNat), (8, 0xf0)]]
  | .ackx b a => [[(9, 0x5), (5, b.toNat), (5, a.toNat), (5, 0), (8, 0xf0)]]
  | .twpost b a d => [[(9, 0x6), (5, b.toNat), (5, a.toNat), (5, d.toNat), (8, 0xf0)]]
  | .splice b a => [[(9, 0x7), (5, b.toNat), (5, a.toNat), (5, 0), (8, 0xf0)]]
  | .recfwd b a => [[(9, 0x8), (5, b.toNat), (5, a.toNat), (5, 0), (8, 0xf0)]]
  | .chcfg b a d => [[(9, 0), (5, b.toNat), (5, a.toNat), (5, d.toNat), (8, 0xf4)]]
  | .chblk a => [[(9, 0x1), (5, 0), (5, a.toNat), (5, 0), (8, 0xf4)]]
  | .chunb a => [[(9, 0x2), (5, 0), (5, a.toNat), (5, 0), (8, 0xf4)]]
  | .matchTbl b a d => [[(9, 0x3), (5, b.toNat), (5, a.toNat), (5, d.toNat), (8, 0xf4)]]
  | .role a d => [[(9, 0x4), (5, 0), (5, a.toNat), (5, d.toNat), (8, 0xf4)]]
  | .rmap b a d => [[(9, 0x5), (5, b.toNat), (5, a.toNat), (5, d.toNat), (8, 0xf4)]]
  | .lease b a => [[(9, 0x6), (5, b.toNat), (5, a.toNat), (5, 0), (8, 0xf4)]]
  | .lrel a => [[(9, 0x7), (5, 0), (5, a.toNat), (5, 0), (8, 0xf4)]]
  | .notack b a d => [[(9, 0x8), (5, b.toNat), (5, a.toNat), (5, d.toNat), (8, 0xf4)]]
  | .budget a d => [[(9, 0), (5, 0), (5, a.toNat), (5, d.toNat), (8, 0xf8)]]
  | .badd b a d => [[(9, 0x1), (5, b.toNat), (5, a.toNat), (5, d.toNat), (8, 0xf8)]]
  | .hbeat => [[(9, 0x2), (15, 0), (8, 0xf8)]]
  | .cntrd a d => [[(9, 0x3), (5, 0), (5, a.toNat), (5, d.toNat), (8, 0xf8)]]
  | .mset r a => [[(9, r.toNat), (5, 0), (5, a.toNat), (5, 0), (8, 0x1)]]
  | .mget r d => [[(6, 0), (3, r.toNat), (10, 0), (5, d.toNat), (8, 0x5)]]
  | .mgetPanel p a d => [[(7, 0x40), (2, p.toNat), (5, 0), (5, a.toNat), (5, d.toNat), (8, 0x5)]]
  | .mgo c p a => [[(6, 0), (1, c.toNat), (2, p.toNat), (5, 0), (5, a.toNat), (5, 0), (8, 0x9)]]
  | .mgot c p a => [[(6, 0), (1, c.toNat), (2, p.toNat), (5, 0), (5, a.toNat), (5, 0), (8, 0xd)]]
  | .mwait c d => [[(8, 0), (1, c.toNat), (10, 0), (5, d.toNat), (8, 0x11)]]
  | .mzero p => [[(7, 0), (2, p.toNat), (15, 0), (8, 0x15)]]
  | .mdrain c w p b a => [[(6, c.toNat), (1, w.toNat), (2, p.toNat), (5, b.toNat), (5, a.toNat), (5, 0), (8, 0x19)]]
  | .cset r a => [[(9, r.toNat), (5, 0), (5, a.toNat), (5, 0), (8, 0x81)]]
  | .cgo d => [[(19, 0), (5, d.toNat), (8, 0x85)]]
  | .cpoll r d => [[(9, r.toNat), (10, 0), (5, d.toNat), (8, 0x89)]]
  | .cwait a d => [[(14, 0), (5, a.toNat), (5, d.toNat), (8, 0x8d)]]
  | .ccancel a d => [[(14, 0), (5, a.toNat), (5, d.toNat), (8, 0x91)]]
  | .bstate a d => [[(14, 0), (5, a.toNat), (5, d.toNat), (8, 0xc1)]]
  | .bgive b a => [[(9, 0), (5, b.toNat), (5, a.toNat), (5, 0), (8, 0xc5)]]
  | .btake a d => [[(14, 0), (5, a.toNat), (5, d.toNat), (8, 0xc9)]]
  | .bmarkState b a => [[(9, 0), (5, b.toNat), (5, a.toNat), (5, 0), (8, 0xcd)]]
  | .bmarkDefine b a => [[(9, 0x1), (5, b.toNat), (5, a.toNat), (5, 0), (8, 0xcd)]]
  | .bmarkRetain b a => [[(9, 0x2), (5, b.toNat), (5, a.toNat), (5, 0), (8, 0xcd)]]
  | .bmarkFree b a => [[(9, 0x3), (5, b.toNat), (5, a.toNat), (5, 0), (8, 0xcd)]]
  | .bwaitBuffer s a d => [[(1, 0), (4, 0), (4, s.toNat), (5, 0), (5, a.toNat), (5, d.toNat), (8, 0xd1)]]
  | .bwaitRing s b a d => [[(1, 0x1), (7, 0), (1, s.toNat), (5, b.toNat), (5, a.toNat), (5, d.toNat), (8, 0xd1)]]
  | .badv s b a d => [[(8, 0), (1, s.toNat), (5, b.toNat), (5, a.toNat), (5, d.toNat), (8, 0xd5)]]
  | .bring b a => [[(9, 0), (5, b.toNat), (5, a.toNat), (5, 0), (8, 0xd9)]]
  | .moduleReset => []
  | .harvest => []
  | .bootFetch => []
  | .bootVerify => []
  | .statusRequest => []
  | .attestationReport => []
  | .governorStep => []
  | .thermalThrottle => []
  | .thermalShutdown => []
  | .cxlLinkTraining => []
  | .cxlLinkLoss => []
  | .cxlMemTimeout => []
  | .stopRequest => []
  | .wWaitSatisfied => []
  | .asyncTrapTaken => []
  | .responseArrival => []
  | .errorResponseArrival => []
  | .baddGrant => []
  | .writeAtHome => []
  | .readAtHome => []
  | .atomicAtUnit => []
  | .releaseHoldEnd => []
  | .writeAckArrival => []
  | .movedArrival => []
  | .movedReread => []
  | .portPacketArrival => []
  | .malformedHeaderDrop => []
  | .sendArrival => []
  | .spawnArrival => []
  | .postArrival => []
  | .decrAtHome => []
  | .kickArrival => []
  | .ackxAtHome => []
  | .twpostJobArrival => []
  | .twpostPermitArrival => []
  | .twpostEndArrival => []
  | .ctlCreditRequest => []
  | .ctlCreditRetry => []
  | .readyRingOffer => []
  | .dispatch => []
  | .contextSaveDone => []
  | .gangStart => []
  | .budgetExhausted => []
  | .engineBudgetExhausted => []
  | .periodRefill => []
  | .watchdogFire => []
  | .gangLineJoin => []
  | .mxJoin => []
  | .mxOpStart => []
  | .mxGroupCommit => []
  | .mxOperandsConsumed => []
  | .mzeroStart => []
  | .mdrainStart => []
  | .drainComplete => []
  | .gangPanelSave => []
  | .gangPanelRestore => []
  | .engineRegionZero => []
  | .copyJobStart => []
  | .copyJobComplete => []
  | .copyCancelStop => []
  | .loaderEmitRecord => []
  | .storerTakeRecord => []
  | .stageTakeData => []
  | .passThroughForward => []
  | .spliceApply => []
  | .stageTakeAbort => []
  | .pageWalk => []
  | .walkComplete => []
  | .walkMovingRetry => []
  | .tierFetchStart => []
  | .tierMoveCommit => []
  | .tierPinExpiry => []
  | .tierEvict => []
  | .protWrite => []
  | .protChangeDone => []
  | .dramRatioChange => []
  | .dramRelock => []
  | .uncorrectableRead => []
  | .refetchDone => []
  | .rowSpareRemap => []
  | .scoutSample => []
  | .scoutWindowEnd => []
  | .leaveatReached => []
  | .moveCommit => []
  | .graceEnd => []
  | .expressDrainLimit => []
  | .leaseRequest => []
  | .leaseExpiry => []
  | .lrelArrival => []
  | .rmapAction => []
  | .siteRetire => []
  | .whistleStop => []
  | .whistleResume => []
  | .whistleResumeTrap => []
  | .stopRecordWrite => []
  | .linkLossStop => []
  | .queueWake => []
  | .queuePageInDone => []
  | .queuePageOut => []
  | .launch => []
  | .amsg => []
  | .hostSplice => []
  | .hostLease => []
  | .preempt => []
  | .signalStore => []
  | .signalAdd => []
  | .signalWait => []
  | .signalPoll => []
  | .copy => []
  | .commandComplete => []
  | .launchArm => []
  | .launchCommit => []
  | .launchDisarm => []
  | .launchArmTimeout => []
  | .launchCommitTimeout => []
  | .laneSpare => []
  | .linkAudit => []
  | .linkDead => []
  | .tileReset => []
  | .injctlPause => []
  | .registerWrite => []
  | .recordArrival => []
  | .tileWalkJobComplete => []
  | .tileResetExit => []
  | .moduleLinkRestored => []
  | .launchAnswer => []
  | .timeSync => []
  | .thermalRecovery => []

/-- The words of an instruction, the first at the lowest address. -/
def encode (i : Instr) : List Nat := (encodeSegs i).map pack

/-- What a word is to the decoder (R55, R41). -/
inductive Decoded where
  /-- No instruction has this OP and function (R55). -/
  | unassigned
  /-- The word names `i` but has a reserved field that is not zero (R41). -/
  | reserved (i : Instr)
  /-- The word is `i`. -/
  | ok (i : Instr)
  deriving DecidableEq, Repr

/-- The words `i` was read from: one, or two in the 64-bit space (R38). -/
def wordsOf (i : Instr) (w e : Nat) : List Nat := if (encodeSegs i).length = 2 then [w, e] else [w]

/-- Decode one instruction (R47's order: assigned, then reserved fields). -/
def decode (w e : Nat) : Decoded :=
  match decodeLoose w e with
  | none => .unassigned
  | some i => if encode i = wordsOf i w e then .ok i else .reserved i

/-- The instruction of the words, or none where the decoder refuses. -/
def decodeWord (w e : Nat) : Option Instr :=
  match decode w e with
  | .ok i => some i
  | _ => none

/-- A little-endian number of bytes (R4). -/
def leNat : List Byte → Nat
  | [] => 0
  | b :: r => b.toNat + 256 * leNat r

/-- The `n` bytes of a number, the lowest first (R4). -/
def leBytes : Nat → Nat → List Byte
  | 0, _ => []
  | n + 1, x => BitVec.ofNat 8 x :: leBytes n (x / 256)

/-- Why bytes decode to no instruction. -/
inductive DecodeError where
  /-- Fewer bytes than the instruction has (R38). -/
  | short
  /-- LS = 0b10: a prefix word, which is joined to the instruction that follows (R44). -/
  | prefixWord
  /-- R55. -/
  | unassigned
  /-- R41. -/
  | reservedField
  deriving DecidableEq, Repr

/-- Decode the instruction at the head of a list of bytes, with the rest of the list (R38): total, refusing by name. -/
def decodeBytes (bs : List Byte) : Except DecodeError (Instr × List Byte) :=
  let w := leNat (bs.take 4)
  let n := if w % 4 = 3 then 8 else 4
  if bs.length < n then .error .short
  else if w % 4 = 2 then .error .prefixWord
  else match decode w (leNat ((bs.drop 4).take 4)) with
    | .unassigned => .error .unassigned
    | .reserved _ => .error .reservedField
    | .ok i => .ok (i, bs.drop n)

/-- The bytes of an instruction in memory. -/
def encodeBytes (i : Instr) : List Byte := (encode i).flatMap (leBytes 4)

/-- The instruction the decoder reads from an instruction whose bits are `w` as spec/opcode_table.json numbers them; the bits
above `nbits` are zero. -/
def decodeTableWord (nbits w : Nat) : Option Instr :=
  match decodeBytes (leBytes 8 (w % 2 ^ nbits)) with
  | .ok (i, _) => some i
  | .error _ => none

end Sys2Proof
end

