-- ==== Sys2Proof/Machine/Types.lean ====
section
/-! DEFINITION. The records the state is made of: contexts, cores, sites, columns, regions, packets. Numbers of things: a column
is 0 to 8; a site is 1440·column + 40·ty + tx (R188, R414); a core is 8·site + core; a context is 4·core + context. -/

namespace Sys2Proof.Machine

/-- CTXSTAT.STATE (R72). -/
inductive CtxState where
  | free | issuing | stalled | stopped
  deriving DecidableEq, Repr

/-- The fields of the prefixes of a group (R44), with the values that absent prefixes stand for (R30, R46). -/
structure Prefixes where
  /-- QUIET, SAT and RM of the arithmetic prefix; RM 6 is DYN. -/
  quiet : Bool := false
  sat : Bool := false
  rm : BitVec 3 := 6
  /-- ORDER, SCOPE, TIER and PHYS of the memory prefix, and the prefix word's address (R446). -/
  order : BitVec 2 := 0
  scope : BitVec 3 := 0
  tier : BitVec 3 := 0
  phys : Bool := false
  memAddr : Word := 0
  /-- EXT24 of the immediate-extension prefix. -/
  ext : Option (BitVec 24) := none
  /-- MASK of the mask-select prefix; 0 selects all lanes. -/
  mask : BitVec 3 := 0
  deriving DecidableEq, Repr

/-- The decoded group in hand (R47): pc0, the address of the instruction word, the next PC, the prefixes. -/
structure Group where
  pc0 : Word := 0
  wpc : Word := 0
  npc : Word := 0
  /-- COUNT of the REP word when the group stands in a REP body (R82). -/
  repCount : Nat := 0
  pfx : Prefixes := {}
  deriving DecidableEq, Repr

/-- What an event of the agenda acts on: numbers, a flag, a word, a signed number, lists. The docstring of each event's
constructor says which field holds which operand. -/
structure Ev where
  x : Nat := 0
  y : Nat := 0
  z : Nat := 0
  w : Nat := 0
  v : Nat := 0
  flag : Bool := false
  val : Word := 0
  int : Int := 0
  list : List Nat := []
  bytes : Option (List Byte) := none
  deriving DecidableEq, Repr

/-- TRAPCAUSE, TRAPPC, TRAPVAL and the fields of TRAPSTAT (R73, R74). -/
structure TrapRegs where
  cause : BitVec 8 := 0
  pc : Word := 0
  val : Word := 0
  ppriv : BitVec 2 := 0
  decode : Bool := false
  engine : Bool := false
  nested : Bool := false
  deriving DecidableEq, Repr

/-- REPSTATE (R82). -/
structure RepState where
  pass : BitVec 32 := 0
  active : Bool := false
  n : BitVec 4 := 0
  group : BitVec 3 := 0
  offset : BitVec 6 := 0
  deriving DecidableEq, Repr

/-- An operation or job that an engine trap stays tied to (R182): 0 matrix, 1 copy unit, 2 tile walk; its number, and its site. -/
structure WorkId where
  unit : Nat := 0
  num : Nat := 0
  site : Nat := 0
  deriving DecidableEq, Repr

/-- A held asynchronous trap (R410); `pc` where the trap names its own TRAPPC (a restored pending trap, R421); `area` where it came
while the context was being saved, and goes to PENDING of its save area (R420). -/
structure HeldTrap where
  cause : BitVec 8
  val : Word
  engine : Bool := true
  pc : Option Word := none
  area : Bool := false
  work : Option WorkId := none
  deriving DecidableEq, Repr

/-- Where the bytes of a response go (R207, R288). -/
inductive Dest where
  /-- Nowhere: a posted access. -/
  | drop
  /-- General register `r`, from `n` bytes, sign-extended or zero-extended. -/
  | gpr (r n : Nat) (signed : Bool)
  /-- Elements of a vector register, each of `n` bytes, in order of the bytes that arrive. -/
  | vec (r : Nat) (elems : List Nat) (n : Nat)
  /-- The BADD grant: gD and the counter of selector `sel` (R402). -/
  | badd (r : Nat) (sel : Nat)
  deriving DecidableEq, Repr

/-- A response that a context still awaits: packet number, destination, pc0 and REPSTATE of its access (R207, R119); `soft` once
the task has been saved and restored, after which only a group that names the register waits for it (R288). -/
structure Pend where
  pkt : Nat
  dest : Dest
  pc0 : Word
  rep : RepState := {}
  soft : Bool := false
  deriving DecidableEq, Repr

/-- A context: its registers (R65, R71) and what it waits for. -/
structure Ctx where
  /-- g1 to g31, v0 to v31, m1 to m7; an unlisted register holds 0. g0 and m0 are not stored. -/
  g : Tab Word := []
  v : Tab VWord := []
  m : Tab Word := []
  pc : Word := 0
  /-- CTXSTAT (R72): CLASS, PRIV, GANG, INTRAP, STATE. -/
  cls : BitVec 2 := 0
  priv : BitVec 2 := 0
  gang : Bool := false
  inTrap : Bool := false
  st : CtxState := .free
  /-- TRAPCAUSE, TRAPPC, TRAPVAL, TRAPSTAT and their nested copies. -/
  trap : TrapRegs := {}
  ntrap : TrapRegs := {}
  dirty : BitVec 72 := 0
  /-- RMODE (R76): TRAPEN and RM. -/
  trapen : BitVec 5 := 0
  rm : BitVec 3 := 0
  fpflags : BitVec 6 := 0
  vflags0 : Word := 0
  vflags1 : Word := 0
  vgrant : Nat := 0
  budgetRem : Word := 0
  deadline : Word := BitVec.allOnes 64
  region : Word := 0
  taskinfo : Word := 0
  rep : RepState := {}
  /-- TASKCYC, counter 0x00 (R396). -/
  taskCyc : Word := 0
  /-- REGIONID of the context's previous task; none when it has run no task since module reset (R66). -/
  prevRegion : Option Word := none
  /-- The budget the task started with (R73, OVERRUN). -/
  startBudget : Word := 0
  /-- The group of a kind-W wait (R62), to be completed when its condition holds. -/
  wait : Option (Instr × Group) := none
  /-- Stalled before issue, since a page of its code is MOVING or its memory holds accesses (R264, R271, R391). -/
  fetchWait : Bool := false
  /-- Held asynchronous traps, in the order raised (R410). -/
  held : List HeldTrap := []
  /-- The work of the trap in TRAPCAUSE and of the one in NTRAPCAUSE (R182). -/
  trapWork : Option WorkId := none
  ntrapWork : Option WorkId := none
  /-- Responses that will still write a register (R207). -/
  pend : List Pend := []
  /-- Run-queue slot of the running entry (R274, R419). -/
  slot : Option Nat := none
  /-- The moment the current stall began (R282). -/
  stallAt : Nat := 0
  /-- The context is being saved (R420). -/
  saving : Bool := false
  deriving DecidableEq, Repr

/-- STATE of a run-queue entry (R274). -/
inductive RqState where
  | queued | running | saved | resuming
  deriving DecidableEq, Repr

/-- A run-queue entry (R274), with the slot of its save area (R419) and the TIME of its admission (R281). -/
structure RqEntry where
  slot : Nat
  entry : Word
  arg1 : Word := 0
  arg2 : Word := 0
  msg : Word := 0
  info : Word := 0
  deadline : Word := BitVec.allOnes 64
  rem : Word := 0
  resv : Nat := 0
  region : Word := 0
  ltile : Nat := 0
  cls : BitVec 2 := 2
  gang : Bool := false
  seq : Nat := 0
  st : RqState := .queued
  save : Word := 0
  ctx : Option Nat := none
  admitted : Nat := 0
  startBudget : Word := 0
  startedAt : Nat := 0
  stack : Word := 0
  /-- Inbox slot that the task's message or record lies in (R359). -/
  inbox : Option Nat := none
  /-- Stopped by the whistle tree (R415): not dispatched. -/
  stopped : Bool := false
  /-- Responses that will still be written, into the save slot (R288). -/
  pend : List Pend := []
  /-- Traps of engines held for the saved task (R181), and how many of them were raised before the one in PENDING (R410, R420). -/
  held : List HeldTrap := []
  pendPos : Nat := 0
  started : Bool := false
  /-- The deadline miss of the entry was counted (R397). -/
  missed : Bool := false
  /-- The gang that the entry belongs to, and the task that it is, by number; the model's own. -/
  gangId : Nat := 0
  task : Nat := 0
  /-- The stack area A of the entry in its region (R69). -/
  area : Nat := 0
  /-- Admitted, and the preemption decision of R286 not taken yet. -/
  undecided : Bool := false
  /-- What a saved task keeps beside its save area: TASKCYC (R396) and the work of its traps (R182). -/
  taskCyc : Word := 0
  trapWork : Option WorkId := none
  ntrapWork : Option WorkId := none
  /-- The cores and slots that stay lent to an entry that has moved (R69). -/
  lentBy : List (Nat × Nat) := []
  /-- A task of a LAUNCH, by host queue and command (R331), or by 2^20 and the multi-module launch (R333). -/
  launch : Option (Nat × Nat) := none
  /-- Reserved by ARM: not dispatched before COMMIT (R333). -/
  armed : Bool := false
  deriving DecidableEq, Repr

/-- A delivery that waits in an inbox slot (R359): its slot, channel, arrival order and what its task starts with. -/
structure Delivery where
  slot : Nat
  /-- Scratchpad offset at which its bytes lie, whatever CHBASE becomes (R83). -/
  off : Nat := 0
  channel : Nat
  order : Nat
  arg1 : Word := 0
  arg2 : Word := 0
  len : Nat := 0
  /-- g3 at task start; 0 for a delivery that carries no bytes. -/
  g3 : Word := 0
  /-- A record of a pipeline: 0 none, 1 DATA, 2 SPLICE, 3 ABORT; its mark (see Packet). -/
  record : Nat := 0
  mark : Nat := 0
  region : Word := 0
  ltile : Nat := 0
  /-- The number of its packet: packets of one stream are numbered in its order. -/
  num : Nat := 0
  /-- TIME of arrival. -/
  at_ : Nat := 0
  /-- Class and budget that replace those of the channel (notices, R341; watchdog messages, R406). -/
  forced : Option (BitVec 2 × Option Nat) := none
  /-- A task was started from it; the slot is freed when the task ends (R359). -/
  taken : Bool := false
  /-- Refused, and held until the next TEND, save, demotion or refill (R294). -/
  refused : Bool := false
  /-- Source: context, agent (R246), privilege, region; the destination word, for reports (R294). -/
  src : Nat := 0
  agent : Nat := 0
  priv : BitVec 2 := 0
  srcRegion : Word := 0
  dest : Word := 0
  /-- It waits in a reserved slot (R359); it is itself a report (R451). -/
  ctl : Bool := false
  report : Bool := false
  deriving DecidableEq, Repr

/-- A channel-table entry (R358). -/
structure Channel where
  handler : Word := 0
  valid : Bool := false
  cls : BitVec 2 := 0
  stage : Bool := false
  blocked : Bool := false
  budget : BitVec 32 := 0
  reldl : BitVec 32 := 0
  deriving DecidableEq, Repr

/-- A cached translation (R389): region, page, physical base, size (log2), rights, TIER, CONST, GEN and expiry. -/
structure TlbEntry where
  region : Word
  vpage : Nat
  ppage : Nat
  size : Nat
  rights : Nat
  gen : Nat
  expiry : Nat
  konst : Bool := false
  deriving DecidableEq, Repr

/-- A requester, a task by its number, that merged into a walk of a page; and the fault that the walk answers it with (R392). -/
structure Merged where
  who : Option Nat
  region : Word
  page : Nat
  fault : Option (BitVec 8) := none
  deriving DecidableEq, Repr

/-- A global window as a column's DRAM port caches it (R394): region, words 0 and 1, expiry. -/
structure GwinEntry where
  region : Word
  w0 : Word
  w1 : Word
  expiry : Nat
  deriving DecidableEq, Repr

/-- A fetch-guard descriptor (R53): text base, length in words, address of the bitmap. -/
structure GuardDesc where
  base : Word
  len : Nat
  bitmap : Word
  deriving DecidableEq, Repr

/-- A 128-byte instruction-cache line: region, virtual address div 128, its 32 words and their guard bits (R53). -/
structure ILine where
  region : Word
  vline : Nat
  words : List Nat
  guards : List Bool
  deriving DecidableEq, Repr

/-- What a packet asks for or answers (R374: OP). -/
inductive PktOp where
  | read | write | atomic | release
  | response | errResponse | baddGrant | writeAck | moved
  | send | kick | record | spawn | post | decr | ackx
  | twJob | twPermit | twEnd
  | lease | lrel | credit | creditRetry
  deriving DecidableEq, Repr

/-- A packet in the mesh (R374): the header's fields that this model uses, and its payload. -/
structure Packet where
  id : Nat
  op : PktOp
  /-- Its address is a physical one (R446). -/
  phys : Bool := false
  /-- Source: context, agent (R246), region; destination site. -/
  src : Nat := 0
  agent : Nat := 0
  region : Word := 0
  dst : Nat := 0
  unit : Nat := 0
  ltile : Nat := 0
  gen : Nat := 0
  seq : Nat := 0
  addr : Word := 0
  time : Nat := 0
  /-- Bytes read or written, operation code of an atomic, its operands. -/
  len : Nat := 0
  data : List Byte := []
  aop : Nat := 0
  arg1 : Word := 0
  arg2 : Word := 0
  dest : Dest := .drop
  /-- KIND and CAUSE of a trace or fault entry (R246). -/
  kind : Nat := 0
  cause : Nat := 0
  resend : Bool := false
  poison : Bool := false
  acked : Bool := false
  /-- Packets that must be applied, and packets that must be acknowledged, before this one is performed (R236 row 1, R240);
  whether it stands at its home waiting for them. -/
  holdFor : List Nat := []
  holdAck : List Nat := []
  arrived : Bool := false
  /-- The place in the order of arrival of a packet that its home has held; 0 for one that has not been held (R267, R271). -/
  arrSeq : Nat := 0
  role : Nat := 0
  stf : Bool := false
  /-- The home location of an access: physical address, window and bit offset (R188, R199). -/
  pa : Nat := 0
  win : Nat := 0
  sub : Nat := 0
  /-- Channel of a delivery (R291); the class and budget that replace its own (R341); the privilege and region of its source. -/
  ch : Nat := 0
  forced : Option (BitVec 2 × Option Nat) := none
  priv : BitVec 2 := 0
  srcRegion : Word := 0
  /-- A CTL-class delivery, which takes a reserved slot; a report. -/
  ctl : Bool := false
  report : Bool := false
  /-- A pipeline record: 0 none, 1 DATA, 2 SPLICE, 3 ABORT. -/
  record : Nat := 0
  /-- Number of the issuing task (RqEntry.task); none for a context that runs no entry. -/
  owner : Option Nat := none
  /-- A release; an acquire, with its scope (R217, R236); the scope of a release; a packet that MOVED sent back, which the stream counts as
  applied (R240). -/
  rel : Bool := false
  acq : Option Nat := none
  scope : Nat := 0
  noop : Bool := false
  /-- The stage or loader that sent a record (R450): 512·LTILE + 64·CORE + CHANNEL, 2^23 more for a loader. -/
  stage : Nat := 0
  /-- What became of a SPLICE record so far (R316, R318, R443): 0 no stage matched it, 1 one did, 2 it goes to the stage that it
  inserted, 3 to the stage that is to merge. -/
  mark : Nat := 0
  /-- The logical tile of the issuer of a TWPOST. -/
  srcLtile : Nat := 0
  /-- Re-sent by the home itself to the record's next site (R341, R376); held at its source while new packets may not start (R379). -/
  fwd : Bool := false
  ni : Bool := false
  deriving DecidableEq, Repr

/-- A core (R83, R273, R396): run queue, inbox, caches, registers, counters. -/
structure Core where
  /-- RQSTAT.LASTREJ; its counts are computed. -/
  lastRej : BitVec 3 := 0
  /-- ADMITCTL. -/
  margin : BitVec 32 := 0
  hold : Bool := false
  /-- CHBASE. -/
  chSize : Nat := 0
  chBase : Nat := 0
  /-- CYCPERTICK where M-level code wrote it; else the governor's value (R434). -/
  cycPerTick : Option (BitVec 32) := none
  /-- SVEC [63:2]; its low bits read 0. -/
  svec : Word := 0
  rq : List RqEntry := []
  /-- Slots that stay lent to entries that have moved (R69). -/
  lent : List Nat := []
  /-- The region whose SVEC was copied last (R83). -/
  svecRegion : Option Word := none
  /-- The ready ring and the overflow list (R301): descriptor address, region and privilege of the last DECR (R300). The overflow
  list is also linked through memory; its first and last are the list's head and tail. -/
  ready : List (Word × Word × BitVec 2) := []
  overflow : List (Word × Word × BitVec 2) := []
  readyHeld : Bool := false
  seq : Nat := 0
  inbox : List Delivery := []
  inboxOrder : Nat := 0
  /-- Credits promised and requests kept by the NI (R359). -/
  credits : Nat := 0
  creditReqs : List Nat := []
  /-- Constant cache: bytes by physical address (R222). -/
  konst : Tab Byte := []
  /-- Instruction cache lines, with the guard bits read with them, oldest first; the guard descriptors that the core took with its last
  IFENCE or task start, by region (R53). -/
  icache : List ILine := []
  guards : List (Word × List GuardDesc) := []
  tlb : List TlbEntry := []
  /-- CYCLES 0x10, GROUPS, MSGSENT, MSGRECV, PREEMPT, REJECT, DLMISS (R396). -/
  cycles : Word := 0
  groups : Word := 0
  /-- Cycles in which some context was not FREE; IDLE is the rest. -/
  occupied : Nat := 0
  msgSent : Word := 0
  msgRecv : Word := 0
  preempts : Word := 0
  rejects : Word := 0
  dlMiss : Word := 0
  lastCtx : Nat := 0
  /-- Stream sequence numbers by destination, those of SPAWN-class streams from 2^16 up (R239). -/
  streams : Tab Nat := []
  deriving DecidableEq, Repr

/-- The kind of a matrix operation (R168). -/
inductive MxKind where
  | mgo | mgot | mzero | mdrain
  deriving DecidableEq, Repr

/-- Where a matrix operation stands (R168, R182). -/
inductive WorkState where
  | queued | running | paused | failed
  deriving DecidableEq, Repr

/-- An accepted matrix operation with the registers it latched (R85, R168, R449). `owner` is the number of the issuing
task, none for a context that runs no entry. -/
structure MxOp where
  num : Nat
  kind : MxKind
  panel : Nat
  acc : Bool := false
  abase : Word := 0
  astride : Word := 0
  bbase : Word := 0
  bstride : Word := 0
  k : Nat := 0
  fmt : Word := 0
  row : Nat := 0
  ctx : Nat := 0
  region : Word := 0
  ltile : Nat := 0
  core : Nat := 0
  /-- Destination and stride of a drain (R178), whether it wakes and its channel and argument. -/
  dest : Word := 0
  stride : Word := 0
  wake : Bool := false
  ch : Nat := 0
  st : WorkState := .queued
  consumed : Bool := false
  /-- It has committed a group (R174). -/
  begun : Bool := false
  pausedAt : Nat := 0
  owner : Option Nat := none
  /-- Paused by a whistle-tree stop, not by its own trap (R415); paused while a home that it uses is moving (R186). -/
  halted : Bool := false
  homeWait : Bool := false
  /-- The panel after the last group, once its operands are consumed (R183), and the flags it raises. -/
  final : List (BitVec 32) := []
  flags : BitVec 6 := 0
  deriving DecidableEq, Repr

/-- The matrix engine's registers (R84, R165 to R168). -/
structure Mx where
  abase : Word := 0
  astride : Word := 0
  bbase : Word := 0
  bstride : Word := 0
  k : BitVec 21 := 0
  fmt : Word := 0
  row : BitVec 32 := 0
  drej : BitVec 3 := 0
  /-- MX.STAT.TYPE: bit p is 1 when panel p holds I32. -/
  typ : BitVec 4 := 0
  err : BitVec 8 := 0
  flags : BitVec 6 := 0
  ops : List MxOp := []
  next : Nat := 0
  /-- The operation whose ROW MX.ROW shows (R449). -/
  shown : Option Nat := none
  /-- Panel elements by 256·panel + 16·row + column. -/
  acc : Tab (BitVec 32) := []
  region : Word := 0
  deriving DecidableEq, Repr

/-- An accepted copy job with its latched record (R224). -/
structure CpJob where
  ticket : Nat
  layout : List Word
  job : Word := 0
  ctx : Nat := 0
  region : Word := 0
  ltile : Nat := 0
  core : Nat := 0
  pos : Nat := 0
  st : WorkState := .queued
  cancel : Bool := false
  owner : Option Nat := none
  halted : Bool := false
  homeWait : Bool := false
  /-- Elements written. -/
  count : Nat := 0
  cause : BitVec 8 := 0
  status : Nat := 0
  ended : Bool := false
  deriving DecidableEq, Repr

/-- The copy unit's registers (R84, R223 to R232). -/
structure Cp where
  l : Tab Word := []
  job : Word := 0
  done : BitVec 16 := BitVec.allOnes 16
  next : BitVec 16 := 0
  err : BitVec 8 := 0
  flags : BitVec 6 := 0
  drej : BitVec 3 := 0
  jobs : List CpJob := []
  region : Word := 0
  deriving DecidableEq, Repr

/-- A buffer-table entry (R366). -/
structure Buf where
  valid : Bool := false
  retain : Bool := false
  inring : Bool := false
  ring : BitVec 3 := 0
  state : BitVec 2 := 0
  holder : BitVec 4 := 15
  window : BitVec 4 := 0
  space : BitVec 1 := 0
  core : BitVec 3 := 0
  size : BitVec 15 := 0
  base : BitVec 20 := 0
  deriving DecidableEq, Repr

/-- A ring (R371). -/
structure Ring where
  first : BitVec 6 := 0
  count : Nat := 0
  prod : BitVec 4 := 0
  cons : BitVec 4 := 0
  head : Nat := 0
  tail : Nat := 0
  filled : Nat := 0
  deriving DecidableEq, Repr

/-- A match-table entry (R364). -/
structure MatchE where
  valid : Bool := false
  buf : Nat := 0
  core : Nat := 0
  channel : Nat := 0
  count : Nat := 0
  got : Nat := 0
  arg : Word := 0
  deriving DecidableEq, Repr

/-- The tables of a logical tile on its site (R358, R364, R366, R371). Channels by 64·core + channel. -/
structure TileTabs where
  chan : Tab Channel := []
  buf : Tab Buf := []
  rings : Tab Ring := []
  mtch : Tab MatchE := []
  deriving DecidableEq, Repr

/-- A row of the tenancy table (R337). -/
structure Tenant where
  region : Word
  ltile : Nat
  slice : Nat := 0
  incoming : Bool := false
  deriving DecidableEq, Repr

/-- An entry of the NI's role-map cache (R336): the two words of the map's entry that it holds. -/
structure RmCache where
  region : Word
  ltile : Nat
  w0 : Word
  w1 : Word
  deriving DecidableEq, Repr

/-- A region account (R273, R280, R395). -/
structure Account where
  region : Word
  ltile : Nat
  cycLeft : Nat := 0
  engLeft : Nat := 0
  start : Nat := 0
  wdCount : Nat := 0
  dlMiss : Nat := 0
  /-- The RESERVE copy (R395). -/
  reserve : Word := 0
  deriving DecidableEq, Repr

/-- A tile-walk job of a router port (R304). -/
structure TwJob where
  ticket : Nat
  loader : Bool
  pipe : Nat
  layout : List Word
  region : Word := 0
  ltile : Nat := 0
  ctx : Nat := 0
  pos : Nat := 0
  seq : Nat := 0
  gen : Nat := 0
  st : WorkState := .queued
  ended : Bool := false
  count : Nat := 0
  owner : Option Nat := none
  halted : Bool := false
  core : Nat := 0
  cause : BitVec 8 := 0
  status : Nat := 0
  /-- Records that a storer holds, in arrival order: header words, payload, mark (R314). -/
  recs : List (Word × Word × List Byte × Nat) := []
  /-- The logical tile that the TWPOST named, and the HEAD and STAMPSTEP that a loader read when it was accepted (R307). -/
  named : Nat := 0
  head : Word := 0
  step : Nat := 0
  deriving DecidableEq, Repr

/-- The states of a site (R14). LEAVING is held with the move. -/
inductive SiteState where
  | compute | storage | routing | bullpen | off
  deriving DecidableEq, Repr

/-- An entry that a move takes along (R341): its notice, the site that it goes to, its home and slice there. -/
structure MoveEnt where
  region : Word
  ltile : Nat
  nid : Nat := 0
  next : Option Nat := none
  home : Nat := 0
  slice : Nat := 0
  deriving DecidableEq, Repr

/-- A move of a site in progress (R341, R342, R344). -/
structure Move where
  /-- REASON of R341, the states before and after. -/
  reason : Nat
  frm : SiteState
  into : SiteState
  leaveAt : Nat
  ents : List MoveEnt := []
  /-- 0 noticed, 1 leaving, 2 contents, 3 grace. -/
  phase : Nat := 0
  /-- NOTACK tables given: region, logical tile and the 64 words (R357). -/
  acks : List (Word × Nat × List Word) := []
  /-- Rows the site served before the commit. -/
  old : List Tenant := []
  /-- The region that the site joins after a spatial preemption, and the PREEMPT command (R350). -/
  joins : Option Word := none
  cmd : Nat × Nat := (0, 0)
  /-- The express drain of a ROUTING site is over (R346). -/
  drained : Bool := false
  deriving DecidableEq, Repr

/-- The send window of a virtual channel (R381, R382): credits, CREDRET, the last audit's number and its D. -/
structure VcWin where
  credits : Int := 16
  /-- The receiver's FREED and the number of its last audit. -/
  freed : Nat := 0
  auditNo : Nat := 0
  credRet : Nat := 0
  lastSeq : Option Nat := none
  lastD : Int := 0
  deriving DecidableEq, Repr

/-- One direction of a link of a site's router port (R380 to R383): lanes spared, the repair counter, windows by virtual channel. -/
structure Link where
  dead : Bool := false
  spared : Nat := 0
  repairs : Nat := 0
  vcs : Tab VcWin := []
  deriving DecidableEq, Repr

/-- A tile site (R14, R65, R84, R273, R336, R396). -/
structure Tile where
  st : SiteState := .bullpen
  leaving : Option Move := none
  faults : BitVec 8 := 0
  /-- What FAULTS has gained in this scout window (R429). -/
  winFaults : Nat := 0
  shipOff : Bool := false
  mx : Mx := {}
  cp : Cp := {}
  tabs : Tab TileTabs := []
  rmCache : List RmCache := []
  tenants : List Tenant := []
  tlb : List TlbEntry := []
  /-- Walks that the tile TLB waits for: region and page (R389, R392). -/
  misses : List (Word × Nat) := []
  /-- The tasks that wait for those walks, and the faults that have not been answered yet (R392). -/
  merged : List Merged := []
  accounts : List Account := []
  mxCyc : Word := 0
  cpCyc : Word := 0
  tlbMiss : Word := 0
  atomics : Word := 0
  /-- Tile-walk engine (R304): jobs, next ticket, permits by 2^16·REGIONID + PIPE. -/
  tw : List TwJob := []
  twNext : BitVec 16 := 0
  permits : Tab Nat := []
  twTlb : List TlbEntry := []
  /-- The atomic engine (R219): the core served last, and how many requests of the cores this round has served. -/
  atomLast : Nat := 0
  atomRound : Nat := 0
  /-- The gang task present: its region, tile, and which members are live (R156, R157). -/
  gangLive : Option (Word × Nat × BitVec 8) := none
  /-- Contexts held for a gang start (R287), by core. -/
  gangHold : Tab Nat := []
  /-- The number of that gang; the model's own. -/
  gangNow : Nat := 0
  /-- A saved gang's panels and MX registers, by gang (R67, R185). -/
  gangSaves : List (Nat × Mx) := []
  links : Tab Link := []
  resetting : Bool := false
  heldPkts : List Nat := []
  deriving DecidableEq, Repr

/-- A request to the census (R340, R354). -/
structure CensusReq where
  region : Word
  ltile : Nat
  role : Nat
  op : Nat
  deriving DecidableEq, Repr

/-- A pending claim (R340, R439): site, the role it is wanted for, and whether its lease has expired. -/
structure Claim where
  site : Nat
  role : Nat
  due : Bool := false
  deriving DecidableEq, Repr

/-- A site that a PREEMPT command is to vacate (R350): the victim's entry, the target region, the command by queue and number. -/
structure Vacate where
  site : Nat
  region : Word
  ltile : Nat
  target : Word
  cmd : Nat × Nat
  deriving DecidableEq, Repr

/-- A whistle-tree line in a column (R414): SEQ and STATE. -/
structure DStat where
  seq : BitVec 32 := 0
  st : BitVec 2 := 0
  deriving DecidableEq, Repr

/-- A page in an upper tier: its first frame (physical address div 65536), its number of frames, its first backing frame. -/
structure Backed where
  frame : Nat
  n : Nat
  back : Nat
  deriving DecidableEq, Repr

/-- A column: census, memory controllers, walkers, whistle tree, routes, power (INVENTORY.md). -/
structure Column where
  /-- CENSUSCTL, CTHRESH, LTHRESH (R339). -/
  drainLim : Nat := 8
  lead : Nat := 20
  bullMin : Nat := 0
  maxRecast : Nat := 8
  enable : Bool := false
  chi : Nat := 0xFFFF
  clo : Nat := 0
  shi : Nat := 0xFFFF
  slo : Nat := 0
  lhi : Nat := 0xFFFF
  llo : Nat := 0
  cpress : Nat := 0
  spress : Nat := 0
  lpress : Nat := 0
  samples : Nat := 0
  cSum : Nat := 0
  lSum : Nat := 0
  /-- Tier fetches that found no room in this window (R338). -/
  noRoom : Nat := 0
  /-- Global windows that the column's DRAM port caches (R394). -/
  gwinCache : List GwinEntry := []
  claims : List Claim := []
  /-- Pressure moves that wait for room for their site and its replacement: the donor and the role wanted (R340). -/
  pending : List (Nat × Nat) := []
  /-- Sites to be retired, and to be vacated, that wait for room in a window (R340). -/
  retires : List Nat := []
  vacates : List Vacate := []
  windowCount : Nat := 0
  nid : Nat := 0
  reqs : List CensusReq := []
  /-- Protection table: PROT 2 bits, BUSY (R263), by frame. -/
  prot : Tab (Nat × Bool) := []
  dramRatio : Nat := 0
  dramHeld : Bool := false
  dramReq : Option Nat := none
  corrected : Nat := 0
  /-- The threshold of a row's corrected errors, the rows of those counted, the rows that spares have taken, and those on their way (R430). -/
  rowThresh : Word := BitVec.allOnes 64
  rowErrs : List (Nat × Nat) := []
  spares : List (Nat × Nat) := []
  rowBusy : List (Nat × Nat) := []
  refetch : List Nat := []
  walks : List (Nat × Word × Nat) := []
  walkCache : List TlbEntry := []
  whistle : Word := 0
  dstat : Tab DStat := []
  savePool : Tab Word := []
  /-- Frames of storage sites and of DRAM that the tier engine has free (R265; log 17). -/
  freeFrames : List Nat := []
  /-- Pages that the tier engine holds in an upper tier of this column (R262, R267). -/
  backing : List Backed := []
  /-- Frames whose pages were demoted from a site that leaves STORAGE or from a withdrawn DRAM frame: an access on its way there draws
  MOVED (R270, R430). -/
  demoted : List Nat := []
  mvec : Option Word := none
  linkState : Tab Nat := []
  escapes : Tab Word := []
  modRoute : Tab Nat := []
  injPause : Bool := false
  linksUp : Tab Bool := []
  /-- Power governor: DRAW, LIMIT, FSTEP, THROTTLED; thermal clamp (R433, R435). -/
  draw : Nat := 0
  limit : Nat := 5500
  fstep : Nat := 108
  throttled : Bool := false
  thermal : Bool := false
  mailbox : Tab Word := []
  /-- PORTCNT of the column's ports (R246), by `portNo`. -/
  portCnt : Tab Nat := []
  deriving DecidableEq, Repr

/-- An entry of a region's tier schedule (R265). -/
structure TierEntry where
  base : Word
  len : Nat
  tier : Nat
  needed : Nat
  lead : Nat
  hold : Nat
  column : Nat := 0
  /-- The region's pin on the range (R265). -/
  pinned : Bool := false
  deriving DecidableEq, Repr

/-- A page that PF asked for (R220): its first 64 KiB unit, the tier and column it is to go to, whether the region pins it for PF (R269),
and the TIME at which its fetch ended. -/
structure PfReq where
  page : Nat
  tier : Nat
  column : Nat
  pin : Bool := false
  done : Option Nat := none
  deriving DecidableEq, Repr

/-- The fields of a region control block that a child inherits unless it overrides them (R69, R280, R334, R385, R403, R412). -/
inductive Inherited where
  | stackBase | stackK | period | cycQuota | engQuota | reserve | noticeDest | noticeBudget | ptRoot | tlife | wdLimit
  | fdom | supDest | supRegion | flogBase | flogK | stopBase | stopK
  deriving DecidableEq, Repr

/-- A region control block (INVENTORY.md, log 6). -/
structure Region where
  id : Word
  parent : Word := 0
  priority : Nat := 0
  persistent : Bool := false
  trace : Bool := false
  svec : Word := 0
  stackBase : Word := 0
  stackK : Nat := 0
  guards : List GuardDesc := []
  period : Nat := 0
  cycQuota : Nat := 0
  engQuota : Nat := 0
  /-- Global-form address of RESERVE (R280, R401). -/
  reserve : Word := 0
  acctBase : Word := 0
  rmBase : Word := 0
  rmLen : Nat := 0
  rmCap : Nat := 0
  footSp : Nat := 0
  footPs : Nat := 0
  backBase : Word := 0
  noticeDest : Word := 0
  noticeBudget : Nat := 0
  leaseBase : Word := 0
  ptRoot : Word := 0
  tlife : Nat := 0
  /-- Global windows: words 0 and 1 (R394). -/
  gwins : List (Word × Word) := []
  wdLimit : Nat := 0
  fdom : Nat := 0
  supDest : Word := 0
  supRegion : Word := 0
  flogBase : Word := 0
  flogK : Nat := 0
  stopBase : Word := 0
  stopK : Nat := 0
  traceBase : Word := 0
  traceK : Nat := 0
  pipeBase : Word := 0
  /-- The tier schedule (R265): its global-form address, its number of entries, and the entries as memory holds them with their pins. -/
  tierBase : Word := 0
  tierLen : Nat := 0
  tiers : List TierEntry := []
  /-- Pages that PF asked for. -/
  pfs : List PfReq := []
  /-- The inherited fields that the block overrides (log 65). -/
  own : List Inherited := []
  ended : Bool := false
  deriving DecidableEq, Repr

/-- A host command that has been read and has not completed (R328 to R330). `started` once its own step has run; `fin` its STATUS and
DETAIL once it has ended; `marks` a LAUNCH of a zero dimension (R331). -/
structure HostCmd where
  num : Nat
  words : List Word
  started : Bool := false
  fin : Option (Nat × Nat) := none
  marks : Bool := false
  /-- Status words of a GANG_FAULT (R333). -/
  mods : List Nat := []
  /-- Tasks or moves that the command still waits for; the bytes that a COPY has written. -/
  left : Nat := 0
  pos : Nat := 0
  /-- The region that a LAUNCH created. -/
  region : Option Word := none
  deriving DecidableEq, Repr

/-- What the front end holds of a queue beside its descriptor in memory (R325 to R327): the last value stored to the wake word, wake
stores held for a page-in, the commands that wait at HEAD (and whether they all complete BADCMD), the commands in progress, the next
command's number, and the TIME at which the queue was last unmapped. -/
structure HostQueue where
  wake : Nat := 0
  held : List Nat := []
  todo : Nat := 0
  bad : Bool := false
  cmds : List HostCmd := []
  next : Nat := 1
  stamp : Nat := 0
  deriving DecidableEq, Repr

/-- A multi-module launch as one module knows it (R333): the command's words and PARENT, the coordinator's module number, this module's
index, indices per module, number of modules, the region. The coordinator also holds the queue and command and what the modules
answered: 0 ARMED, a refusal code, 99 no link at ARM. -/
structure LaunchSt where
  words : List Word
  parent : Word
  coord : Nat
  me : Nat
  share : Nat
  mods : Nat
  /-- 0 arming, 1 committed, 2 over. -/
  phase : Nat := 0
  region : Word := 0
  left : Nat := 0
  queue : Nat := 0
  cmd : Nat := 0
  answers : Tab Nat := []
  acks : List Nat := []
  ended : List Nat := []
  deriving DecidableEq, Repr

/-- A CXL port (R21, R22, R324). -/
structure CxlPort where
  /-- Memory mode; else host mode (R324). -/
  memMode : Bool := false
  /-- 100 ms of retraining have passed (R22). -/
  timedOut : Bool := false
  trained : Bool := false
  /-- Held down, since it trained narrower than ×4 (R22). -/
  heldDown : Bool := false
  rate : Nat := 0
  lanes : Nat := 0
  /-- Protocols in use: bit 0 CXL.io, bit 1 CXL.mem; CXL.cache is never one (R21). -/
  protos : Nat := 0
  retrainSince : Option Nat := none
  deriving DecidableEq, Repr

/-- The failure record (R425). -/
structure FailRec where
  phase : Nat
  unit : Nat
  column : Nat := 15
  detail : Word
  time : Nat
  deriving DecidableEq, Repr

/-- What the module gives to the outside: management answers, MSI-X, messages to other modules, reports. -/
inductive Answer where
  | status (words : List Word)
  | report (words : List Word)
  | msix (vector : Nat)
  | toModule (module : Nat) (kind : Nat) (words : List Word)
  deriving DecidableEq, Repr

end Sys2Proof.Machine
end

