-- ==== Sys2Proof/Machine/Prefix.lean ====
section
/-! DEFINITION. Which prefixes an instruction accepts (R46, with the rows of R103, R105, R126, R135, R144 and R208), which
instructions are control transfers for the orphan rule (R48), and which fields of a word name general or vector registers (R118). -/

namespace Sys2Proof.Machine

/-- What an entry accepts of an arithmetic prefix: RM other than 6, SAT 1, QUIET 1; `none` where the kind is not accepted. -/
def arithAccepts : Instr → Option (Bool × Bool × Bool)
  | .ill _ => none
  | .add _ _ _ _ => some (false, true, false)
  | .sub _ _ _ _ => some (false, true, false)
  | .and _ _ _ _ => some (false, false, false)
  | .or _ _ _ _ => some (false, false, false)
  | .xor _ _ _ _ => some (false, false, false)
  | .andn _ _ _ _ => some (false, false, false)
  | .shl _ _ _ _ => some (false, true, false)
  | .shr _ _ _ _ => some (false, false, false)
  | .sar _ _ _ _ => some (false, false, false)
  | .rol _ _ _ _ => some (false, false, false)
  | .min _ _ _ _ => some (false, false, false)
  | .max _ _ _ _ => some (false, false, false)
  | .minu _ _ _ _ => some (false, false, false)
  | .maxu _ _ _ _ => some (false, false, false)
  | .slt _ _ _ _ => some (false, false, false)
  | .sltu _ _ _ _ => some (false, false, false)
  | .seq _ _ _ _ => some (false, false, false)
  | .mul _ _ _ _ => some (false, true, false)
  | .mulh _ _ _ _ => some (false, false, false)
  | .mulhu _ _ _ _ => some (false, false, false)
  | .div _ _ _ _ => some (false, true, false)
  | .divu _ _ _ _ => some (false, false, false)
  | .rem _ _ _ _ => some (false, false, false)
  | .remu _ _ _ _ => some (false, false, false)
  | .clz _ _ _ => some (false, false, false)
  | .ctz _ _ _ => some (false, false, false)
  | .popc _ _ _ => some (false, false, false)
  | .brev _ _ _ => some (false, false, false)
  | .bext _ _ _ _ => some (false, false, false)
  | .bins _ _ _ _ => some (false, false, false)
  | .sel _ _ _ _ => some (false, false, false)
  | .addi _ _ _ => some (false, true, false)
  | .andi _ _ _ => some (false, false, false)
  | .ori _ _ _ => some (false, false, false)
  | .xori _ _ _ => some (false, false, false)
  | .slti _ _ _ => some (false, false, false)
  | .sltui _ _ _ => some (false, false, false)
  | .shli _ _ _ => some (false, true, false)
  | .shri _ _ _ => some (false, false, false)
  | .sari _ _ _ => some (false, false, false)
  | .lih _ _ _ => some (false, false, false)
  | .lea _ _ => some (false, false, false)
  | .gadr _ _ _ => some (false, false, false)
  | .addiL _ _ _ => some (false, true, false)
  | .andiL _ _ _ => some (false, false, false)
  | .oriL _ _ _ => some (false, false, false)
  | .xoriL _ _ _ => some (false, false, false)
  | .sltiL _ _ _ => some (false, false, false)
  | .sltuiL _ _ _ => some (false, false, false)
  | .shliL _ _ _ => some (false, true, false)
  | .shriL _ _ _ => some (false, false, false)
  | .sariL _ _ _ => some (false, false, false)
  | .leaL _ _ => some (false, false, false)
  | .beq _ _ _ => none
  | .bne _ _ _ => none
  | .blt _ _ _ => none
  | .bge _ _ _ => none
  | .bltu _ _ _ => none
  | .bgeu _ _ _ => none
  | .jmp _ => none
  | .jal _ => none
  | .jr _ => none
  | .jalr _ _ => none
  | .rep _ _ _ _ _ _ => none
  | .pool _ => none
  | .tend => none
  | .sys => none
  | .trapret => none
  | .brk => none
  | .srd _ _ _ => none
  | .swr _ _ _ => none
  | .ifence => none
  | .lb _ _ _ => none
  | .lh _ _ _ => none
  | .lw _ _ _ => none
  | .ld _ _ _ => none
  | .sb _ _ _ => none
  | .sh _ _ _ => none
  | .sw _ _ _ => none
  | .sd _ _ _ => none
  | .lbL _ _ _ _ _ => none
  | .lhL _ _ _ _ _ => none
  | .lwL _ _ _ _ _ => none
  | .ldL _ _ _ _ _ => none
  | .sbL _ _ _ _ _ => none
  | .shL _ _ _ _ _ => none
  | .swL _ _ _ _ _ => none
  | .sdL _ _ _ _ _ => none
  | .lbu _ _ _ _ _ => none
  | .lhu _ _ _ _ _ => none
  | .lwu _ _ _ _ _ => none
  | .amoadd _ _ _ _ => none
  | .amomin _ _ _ _ => none
  | .amomax _ _ _ _ => none
  | .amominu _ _ _ _ => none
  | .amomaxu _ _ _ _ => none
  | .amoand _ _ _ _ => none
  | .amoor _ _ _ _ => none
  | .amoxor _ _ _ _ => none
  | .amoswap _ _ _ _ => none
  | .amocas _ _ _ _ => none
  | .amofadd _ _ _ _ => none
  | .fence => none
  | .ldf _ _ _ _ => none
  | .ldfe _ _ _ _ => none
  | .stf _ _ _ _ => none
  | .pf _ _ _ => none
  | .pfwait _ _ _ _ => none
  | .cinv => none
  | .fadd _ _ _ _ => some (true, true, true)
  | .fsub _ _ _ _ => some (true, true, true)
  | .fmul _ _ _ _ => some (true, true, true)
  | .fdiv _ _ _ _ => some (true, true, true)
  | .fsqrt _ _ _ => some (true, false, true)
  | .fma _ _ _ _ => some (true, true, true)
  | .fmin _ _ _ _ => some (false, false, true)
  | .fmax _ _ _ _ => some (false, false, true)
  | .fcmp _ _ _ _ => some (false, false, true)
  | .fclass _ _ _ => some (false, false, false)
  | .fsgn _ _ _ _ => some (false, false, false)
  | .fcvt _ _ _ _ => some (true, true, true)
  | .xclr _ => some (false, false, false)
  | .xacc _ _ _ => some (true, true, true)
  | .xmerge _ _ => some (false, true, true)
  | .xrnd _ _ _ => some (true, true, true)
  | .vclaim _ _ => some (false, false, false)
  | .vmov _ _ _ => some (false, false, false)
  | .vbcast _ _ _ => some (false, false, false)
  | .vext _ _ _ _ => some (false, false, false)
  | .vins _ _ _ _ => some (false, false, false)
  | .vadd t _ _ _ => some ((t = 6 || t = 7 || t = 8), true, true)
  | .vsub t _ _ _ => some ((t = 6 || t = 7 || t = 8), true, true)
  | .vmul t _ _ _ => some ((t = 6 || t = 7 || t = 8), true, true)
  | .vfma t _ _ _ => some ((t = 6 || t = 7 || t = 8), true, true)
  | .vmin _ _ _ _ => some (false, false, true)
  | .vmax _ _ _ _ => some (false, false, true)
  | .vand _ _ _ _ => some (false, false, false)
  | .vor _ _ _ _ => some (false, false, false)
  | .vxor _ _ _ _ => some (false, false, false)
  | .vshl _ _ _ _ => some (false, true, true)
  | .vshr _ _ _ _ => some (false, false, false)
  | .vsar _ _ _ _ => some (false, false, false)
  | .vcmp _ _ _ _ _ => some (false, false, true)
  | .vsel _ _ _ _ => some (false, false, false)
  | .vperm _ _ _ _ => some (false, false, false)
  | .vcvt t _ _ _ => some ((t = 6 || t = 7 || t = 8), true, true)
  | .qcvt _ _ _ _ => some (true, false, true)
  | .vred t o _ _ => some ((o = 0 && (t = 6 || t = 7 || t = 8)), false, true)
  | .vld _ _ _ _ _ => none
  | .vlds _ _ _ _ _ => none
  | .vldx _ _ _ _ _ => none
  | .vldt _ _ _ _ _ => none
  | .vst _ _ _ _ _ => none
  | .vsts _ _ _ _ _ => none
  | .vstx _ _ _ _ _ => none
  | .gshuf _ _ _ _ => some (false, false, false)
  | .gbcast _ _ _ _ => some (false, false, false)
  | .gvote _ _ _ _ => some (false, false, false)
  | .gmatch _ _ _ => some (false, false, false)
  | .gred t o _ _ => some ((o = 0 && (t = 6 || t = 7 || t = 8)), false, true)
  | .gscan t o _ _ => some ((o = 0 && (t = 6 || t = 7 || t = 8)), false, true)
  | .gmax _ _ _ _ => some (false, false, true)
  | .gbar _ _ => some (false, false, false)
  | .send _ _ => none
  | .spawn _ _ _ => none
  | .post _ _ => none
  | .decr _ _ => none
  | .kick _ _ _ => none
  | .ackx _ _ => none
  | .twpost _ _ _ => none
  | .splice _ _ => none
  | .recfwd _ _ => none
  | .chcfg _ _ _ => none
  | .chblk _ => none
  | .chunb _ => none
  | .matchTbl _ _ _ => none
  | .role _ _ => none
  | .rmap _ _ _ => none
  | .lease _ _ => none
  | .lrel _ => none
  | .notack _ _ _ => none
  | .budget _ _ => none
  | .badd _ _ _ => none
  | .hbeat => none
  | .cntrd _ _ => none
  | .mset _ _ => none
  | .mget _ _ => none
  | .mgetPanel _ _ _ => none
  | .mgo _ _ _ => none
  | .mgot _ _ _ => none
  | .mwait _ _ => none
  | .mzero _ => none
  | .mdrain _ _ _ _ _ => none
  | .cset _ _ => none
  | .cgo _ => none
  | .cpoll _ _ => none
  | .cwait _ _ => none
  | .ccancel _ _ => none
  | .bstate _ _ => none
  | .bgive _ _ => none
  | .btake _ _ => none
  | .bmarkState _ _ => none
  | .bmarkDefine _ _ => none
  | .bmarkRetain _ _ => none
  | .bmarkFree _ _ => none
  | .bwaitBuffer _ _ _ => none
  | .bwaitRing _ _ _ _ => none
  | .badv _ _ _ _ => none
  | .bring _ _ => none
  | .moduleReset => none
  | .harvest => none
  | .bootFetch => none
  | .bootVerify => none
  | .statusRequest => none
  | .attestationReport => none
  | .governorStep => none
  | .thermalThrottle => none
  | .thermalShutdown => none
  | .cxlLinkTraining => none
  | .cxlLinkLoss => none
  | .cxlMemTimeout => none
  | .stopRequest => none
  | .wWaitSatisfied => none
  | .asyncTrapTaken => none
  | .responseArrival => none
  | .errorResponseArrival => none
  | .baddGrant => none
  | .writeAtHome => none
  | .readAtHome => none
  | .atomicAtUnit => none
  | .releaseHoldEnd => none
  | .writeAckArrival => none
  | .movedArrival => none
  | .movedReread => none
  | .portPacketArrival => none
  | .malformedHeaderDrop => none
  | .sendArrival => none
  | .spawnArrival => none
  | .postArrival => none
  | .decrAtHome => none
  | .kickArrival => none
  | .ackxAtHome => none
  | .twpostJobArrival => none
  | .twpostPermitArrival => none
  | .twpostEndArrival => none
  | .ctlCreditRequest => none
  | .ctlCreditRetry => none
  | .readyRingOffer => none
  | .dispatch => none
  | .contextSaveDone => none
  | .gangStart => none
  | .budgetExhausted => none
  | .engineBudgetExhausted => none
  | .periodRefill => none
  | .watchdogFire => none
  | .gangLineJoin => none
  | .mxJoin => none
  | .mxOpStart => none
  | .mxGroupCommit => none
  | .mxOperandsConsumed => none
  | .mzeroStart => none
  | .mdrainStart => none
  | .drainComplete => none
  | .gangPanelSave => none
  | .gangPanelRestore => none
  | .engineRegionZero => none
  | .copyJobStart => none
  | .copyJobComplete => none
  | .copyCancelStop => none
  | .loaderEmitRecord => none
  | .storerTakeRecord => none
  | .stageTakeData => none
  | .passThroughForward => none
  | .spliceApply => none
  | .stageTakeAbort => none
  | .pageWalk => none
  | .walkComplete => none
  | .walkMovingRetry => none
  | .tierFetchStart => none
  | .tierMoveCommit => none
  | .tierPinExpiry => none
  | .tierEvict => none
  | .protWrite => none
  | .protChangeDone => none
  | .dramRatioChange => none
  | .dramRelock => none
  | .uncorrectableRead => none
  | .refetchDone => none
  | .rowSpareRemap => none
  | .scoutSample => none
  | .scoutWindowEnd => none
  | .leaveatReached => none
  | .moveCommit => none
  | .graceEnd => none
  | .expressDrainLimit => none
  | .leaseRequest => none
  | .leaseExpiry => none
  | .lrelArrival => none
  | .rmapAction => none
  | .siteRetire => none
  | .whistleStop => none
  | .whistleResume => none
  | .whistleResumeTrap => none
  | .stopRecordWrite => none
  | .linkLossStop => none
  | .queueWake => none
  | .queuePageInDone => none
  | .queuePageOut => none
  | .launch => none
  | .amsg => none
  | .hostSplice => none
  | .hostLease => none
  | .preempt => none
  | .signalStore => none
  | .signalAdd => none
  | .signalWait => none
  | .signalPoll => none
  | .copy => none
  | .commandComplete => none
  | .launchArm => none
  | .launchCommit => none
  | .launchDisarm => none
  | .launchArmTimeout => none
  | .launchCommitTimeout => none
  | .laneSpare => none
  | .linkAudit => none
  | .linkDead => none
  | .tileReset => none
  | .injctlPause => none
  | .registerWrite => none
  | .recordArrival => none
  | .tileWalkJobComplete => none
  | .tileResetExit => none
  | .moduleLinkRestored => none
  | .launchAnswer => none
  | .timeSync => none
  | .thermalRecovery => none

/-- What an entry accepts of a memory prefix (R208, R446): the ORDER values, TIER other than 0, PHYS 1. -/
def memAccepts : Instr → Option (List Nat × Bool × Bool)
  | .ill _ => none
  | .add _ _ _ _ => none
  | .sub _ _ _ _ => none
  | .and _ _ _ _ => none
  | .or _ _ _ _ => none
  | .xor _ _ _ _ => none
  | .andn _ _ _ _ => none
  | .shl _ _ _ _ => none
  | .shr _ _ _ _ => none
  | .sar _ _ _ _ => none
  | .rol _ _ _ _ => none
  | .min _ _ _ _ => none
  | .max _ _ _ _ => none
  | .minu _ _ _ _ => none
  | .maxu _ _ _ _ => none
  | .slt _ _ _ _ => none
  | .sltu _ _ _ _ => none
  | .seq _ _ _ _ => none
  | .mul _ _ _ _ => none
  | .mulh _ _ _ _ => none
  | .mulhu _ _ _ _ => none
  | .div _ _ _ _ => none
  | .divu _ _ _ _ => none
  | .rem _ _ _ _ => none
  | .remu _ _ _ _ => none
  | .clz _ _ _ => none
  | .ctz _ _ _ => none
  | .popc _ _ _ => none
  | .brev _ _ _ => none
  | .bext _ _ _ _ => none
  | .bins _ _ _ _ => none
  | .sel _ _ _ _ => none
  | .addi _ _ _ => none
  | .andi _ _ _ => none
  | .ori _ _ _ => none
  | .xori _ _ _ => none
  | .slti _ _ _ => none
  | .sltui _ _ _ => none
  | .shli _ _ _ => none
  | .shri _ _ _ => none
  | .sari _ _ _ => none
  | .lih _ _ _ => none
  | .lea _ _ => none
  | .gadr _ _ _ => none
  | .addiL _ _ _ => none
  | .andiL _ _ _ => none
  | .oriL _ _ _ => none
  | .xoriL _ _ _ => none
  | .sltiL _ _ _ => none
  | .sltuiL _ _ _ => none
  | .shliL _ _ _ => none
  | .shriL _ _ _ => none
  | .sariL _ _ _ => none
  | .leaL _ _ => none
  | .beq _ _ _ => none
  | .bne _ _ _ => none
  | .blt _ _ _ => none
  | .bge _ _ _ => none
  | .bltu _ _ _ => none
  | .bgeu _ _ _ => none
  | .jmp _ => none
  | .jal _ => none
  | .jr _ => none
  | .jalr _ _ => none
  | .rep _ _ _ _ _ _ => none
  | .pool _ => none
  | .tend => none
  | .sys => none
  | .trapret => none
  | .brk => none
  | .srd _ _ _ => none
  | .swr _ _ _ => none
  | .ifence => none
  | .lb _ _ _ => some ([0, 1], true, true)
  | .lh _ _ _ => some ([0, 1], true, true)
  | .lw _ _ _ => some ([0, 1], true, true)
  | .ld _ _ _ => some ([0, 1], true, true)
  | .sb _ _ _ => some ([0, 2], true, true)
  | .sh _ _ _ => some ([0, 2], true, true)
  | .sw _ _ _ => some ([0, 2], true, true)
  | .sd _ _ _ => some ([0, 2], true, true)
  | .lbL _ _ _ _ _ => some ([0, 1], true, true)
  | .lhL _ _ _ _ _ => some ([0, 1], true, true)
  | .lwL _ _ _ _ _ => some ([0, 1], true, true)
  | .ldL _ _ _ _ _ => some ([0, 1], true, true)
  | .sbL _ _ _ _ _ => some ([0, 2], true, true)
  | .shL _ _ _ _ _ => some ([0, 2], true, true)
  | .swL _ _ _ _ _ => some ([0, 2], true, true)
  | .sdL _ _ _ _ _ => some ([0, 2], true, true)
  | .lbu _ _ _ _ _ => some ([0, 1], true, true)
  | .lhu _ _ _ _ _ => some ([0, 1], true, true)
  | .lwu _ _ _ _ _ => some ([0, 1], true, true)
  | .amoadd _ _ _ _ => some ([0, 1, 2, 3], false, true)
  | .amomin _ _ _ _ => some ([0, 1, 2, 3], false, true)
  | .amomax _ _ _ _ => some ([0, 1, 2, 3], false, true)
  | .amominu _ _ _ _ => some ([0, 1, 2, 3], false, true)
  | .amomaxu _ _ _ _ => some ([0, 1, 2, 3], false, true)
  | .amoand _ _ _ _ => some ([0, 1, 2, 3], false, true)
  | .amoor _ _ _ _ => some ([0, 1, 2, 3], false, true)
  | .amoxor _ _ _ _ => some ([0, 1, 2, 3], false, true)
  | .amoswap _ _ _ _ => some ([0, 1, 2, 3], false, true)
  | .amocas _ _ _ _ => some ([0, 1, 2, 3], false, true)
  | .amofadd _ _ _ _ => some ([0, 1, 2, 3], false, true)
  | .fence => some ([1, 2, 3], false, false)
  | .ldf _ _ _ _ => some ([0, 1], false, true)
  | .ldfe _ _ _ _ => some ([0, 1], false, true)
  | .stf _ _ _ _ => some ([0, 2], false, true)
  | .pf _ _ _ => some ([0], true, false)
  | .pfwait _ _ _ _ => some ([0], false, false)
  | .cinv => none
  | .fadd _ _ _ _ => none
  | .fsub _ _ _ _ => none
  | .fmul _ _ _ _ => none
  | .fdiv _ _ _ _ => none
  | .fsqrt _ _ _ => none
  | .fma _ _ _ _ => none
  | .fmin _ _ _ _ => none
  | .fmax _ _ _ _ => none
  | .fcmp _ _ _ _ => none
  | .fclass _ _ _ => none
  | .fsgn _ _ _ _ => none
  | .fcvt _ _ _ _ => none
  | .xclr _ => none
  | .xacc _ _ _ => none
  | .xmerge _ _ => none
  | .xrnd _ _ _ => none
  | .vclaim _ _ => none
  | .vmov _ _ _ => none
  | .vbcast _ _ _ => none
  | .vext _ _ _ _ => none
  | .vins _ _ _ _ => none
  | .vadd _ _ _ _ => none
  | .vsub _ _ _ _ => none
  | .vmul _ _ _ _ => none
  | .vfma _ _ _ _ => none
  | .vmin _ _ _ _ => none
  | .vmax _ _ _ _ => none
  | .vand _ _ _ _ => none
  | .vor _ _ _ _ => none
  | .vxor _ _ _ _ => none
  | .vshl _ _ _ _ => none
  | .vshr _ _ _ _ => none
  | .vsar _ _ _ _ => none
  | .vcmp _ _ _ _ _ => none
  | .vsel _ _ _ _ => none
  | .vperm _ _ _ _ => none
  | .vcvt _ _ _ _ => none
  | .qcvt _ _ _ _ => none
  | .vred _ _ _ _ => none
  | .vld _ _ _ _ _ => some ([0, 1], true, true)
  | .vlds _ _ _ _ _ => some ([0, 1], true, true)
  | .vldx _ _ _ _ _ => some ([0, 1], true, true)
  | .vldt _ _ _ _ _ => some ([0, 1], true, true)
  | .vst _ _ _ _ _ => some ([0, 2], true, true)
  | .vsts _ _ _ _ _ => some ([0, 2], true, true)
  | .vstx _ _ _ _ _ => some ([0, 2], true, true)
  | .gshuf _ _ _ _ => none
  | .gbcast _ _ _ _ => none
  | .gvote _ _ _ _ => none
  | .gmatch _ _ _ => none
  | .gred _ _ _ _ => none
  | .gscan _ _ _ _ => none
  | .gmax _ _ _ _ => none
  | .gbar _ _ => none
  | .send _ _ => none
  | .spawn _ _ _ => none
  | .post _ _ => none
  | .decr _ _ => none
  | .kick _ _ _ => none
  | .ackx _ _ => none
  | .twpost _ _ _ => none
  | .splice _ _ => none
  | .recfwd _ _ => none
  | .chcfg _ _ _ => none
  | .chblk _ => none
  | .chunb _ => none
  | .matchTbl _ _ _ => none
  | .role _ _ => none
  | .rmap _ _ _ => none
  | .lease _ _ => none
  | .lrel _ => none
  | .notack _ _ _ => none
  | .budget _ _ => none
  | .badd _ _ _ => none
  | .hbeat => none
  | .cntrd _ _ => none
  | .mset _ _ => none
  | .mget _ _ => none
  | .mgetPanel _ _ _ => none
  | .mgo _ _ _ => none
  | .mgot _ _ _ => none
  | .mwait _ _ => none
  | .mzero _ => none
  | .mdrain _ _ _ _ _ => none
  | .cset _ _ => none
  | .cgo _ => none
  | .cpoll _ _ => none
  | .cwait _ _ => none
  | .ccancel _ _ => none
  | .bstate _ _ => none
  | .bgive _ _ => none
  | .btake _ _ => none
  | .bmarkState _ _ => none
  | .bmarkDefine _ _ => none
  | .bmarkRetain _ _ => none
  | .bmarkFree _ _ => none
  | .bwaitBuffer _ _ _ => none
  | .bwaitRing _ _ _ _ => none
  | .badv _ _ _ _ => none
  | .bring _ _ => none
  | .moduleReset => none
  | .harvest => none
  | .bootFetch => none
  | .bootVerify => none
  | .statusRequest => none
  | .attestationReport => none
  | .governorStep => none
  | .thermalThrottle => none
  | .thermalShutdown => none
  | .cxlLinkTraining => none
  | .cxlLinkLoss => none
  | .cxlMemTimeout => none
  | .stopRequest => none
  | .wWaitSatisfied => none
  | .asyncTrapTaken => none
  | .responseArrival => none
  | .errorResponseArrival => none
  | .baddGrant => none
  | .writeAtHome => none
  | .readAtHome => none
  | .atomicAtUnit => none
  | .releaseHoldEnd => none
  | .writeAckArrival => none
  | .movedArrival => none
  | .movedReread => none
  | .portPacketArrival => none
  | .malformedHeaderDrop => none
  | .sendArrival => none
  | .spawnArrival => none
  | .postArrival => none
  | .decrAtHome => none
  | .kickArrival => none
  | .ackxAtHome => none
  | .twpostJobArrival => none
  | .twpostPermitArrival => none
  | .twpostEndArrival => none
  | .ctlCreditRequest => none
  | .ctlCreditRetry => none
  | .readyRingOffer => none
  | .dispatch => none
  | .contextSaveDone => none
  | .gangStart => none
  | .budgetExhausted => none
  | .engineBudgetExhausted => none
  | .periodRefill => none
  | .watchdogFire => none
  | .gangLineJoin => none
  | .mxJoin => none
  | .mxOpStart => none
  | .mxGroupCommit => none
  | .mxOperandsConsumed => none
  | .mzeroStart => none
  | .mdrainStart => none
  | .drainComplete => none
  | .gangPanelSave => none
  | .gangPanelRestore => none
  | .engineRegionZero => none
  | .copyJobStart => none
  | .copyJobComplete => none
  | .copyCancelStop => none
  | .loaderEmitRecord => none
  | .storerTakeRecord => none
  | .stageTakeData => none
  | .passThroughForward => none
  | .spliceApply => none
  | .stageTakeAbort => none
  | .pageWalk => none
  | .walkComplete => none
  | .walkMovingRetry => none
  | .tierFetchStart => none
  | .tierMoveCommit => none
  | .tierPinExpiry => none
  | .tierEvict => none
  | .protWrite => none
  | .protChangeDone => none
  | .dramRatioChange => none
  | .dramRelock => none
  | .uncorrectableRead => none
  | .refetchDone => none
  | .rowSpareRemap => none
  | .scoutSample => none
  | .scoutWindowEnd => none
  | .leaveatReached => none
  | .moveCommit => none
  | .graceEnd => none
  | .expressDrainLimit => none
  | .leaseRequest => none
  | .leaseExpiry => none
  | .lrelArrival => none
  | .rmapAction => none
  | .siteRetire => none
  | .whistleStop => none
  | .whistleResume => none
  | .whistleResumeTrap => none
  | .stopRecordWrite => none
  | .linkLossStop => none
  | .queueWake => none
  | .queuePageInDone => none
  | .queuePageOut => none
  | .launch => none
  | .amsg => none
  | .hostSplice => none
  | .hostLease => none
  | .preempt => none
  | .signalStore => none
  | .signalAdd => none
  | .signalWait => none
  | .signalPoll => none
  | .copy => none
  | .commandComplete => none
  | .launchArm => none
  | .launchCommit => none
  | .launchDisarm => none
  | .launchArmTimeout => none
  | .launchCommitTimeout => none
  | .laneSpare => none
  | .linkAudit => none
  | .linkDead => none
  | .tileReset => none
  | .injctlPause => none
  | .registerWrite => none
  | .recordArrival => none
  | .tileWalkJobComplete => none
  | .tileResetExit => none
  | .moduleLinkRestored => none
  | .launchAnswer => none
  | .timeSync => none
  | .thermalRecovery => none

/-- Whether an entry accepts an immediate-extension prefix (R45, R57, R109). -/
def extAccepts : Instr → Bool
  | .ill _ => false
  | .add _ _ _ _ => false
  | .sub _ _ _ _ => false
  | .and _ _ _ _ => false
  | .or _ _ _ _ => false
  | .xor _ _ _ _ => false
  | .andn _ _ _ _ => false
  | .shl _ _ _ _ => false
  | .shr _ _ _ _ => false
  | .sar _ _ _ _ => false
  | .rol _ _ _ _ => false
  | .min _ _ _ _ => false
  | .max _ _ _ _ => false
  | .minu _ _ _ _ => false
  | .maxu _ _ _ _ => false
  | .slt _ _ _ _ => false
  | .sltu _ _ _ _ => false
  | .seq _ _ _ _ => false
  | .mul _ _ _ _ => false
  | .mulh _ _ _ _ => false
  | .mulhu _ _ _ _ => false
  | .div _ _ _ _ => false
  | .divu _ _ _ _ => false
  | .rem _ _ _ _ => false
  | .remu _ _ _ _ => false
  | .clz _ _ _ => false
  | .ctz _ _ _ => false
  | .popc _ _ _ => false
  | .brev _ _ _ => false
  | .bext _ _ _ _ => false
  | .bins _ _ _ _ => false
  | .sel _ _ _ _ => false
  | .addi _ _ _ => true
  | .andi _ _ _ => true
  | .ori _ _ _ => true
  | .xori _ _ _ => true
  | .slti _ _ _ => true
  | .sltui _ _ _ => true
  | .shli _ _ _ => false
  | .shri _ _ _ => false
  | .sari _ _ _ => false
  | .lih _ _ _ => false
  | .lea _ _ => true
  | .gadr _ _ _ => false
  | .addiL _ _ _ => false
  | .andiL _ _ _ => false
  | .oriL _ _ _ => false
  | .xoriL _ _ _ => false
  | .sltiL _ _ _ => false
  | .sltuiL _ _ _ => false
  | .shliL _ _ _ => false
  | .shriL _ _ _ => false
  | .sariL _ _ _ => false
  | .leaL _ _ => false
  | .beq _ _ _ => false
  | .bne _ _ _ => false
  | .blt _ _ _ => false
  | .bge _ _ _ => false
  | .bltu _ _ _ => false
  | .bgeu _ _ _ => false
  | .jmp _ => false
  | .jal _ => false
  | .jr _ => false
  | .jalr _ _ => false
  | .rep _ _ _ _ _ _ => false
  | .pool _ => false
  | .tend => false
  | .sys => false
  | .trapret => false
  | .brk => false
  | .srd _ _ _ => false
  | .swr _ _ _ => false
  | .ifence => false
  | .lb _ _ _ => true
  | .lh _ _ _ => true
  | .lw _ _ _ => true
  | .ld _ _ _ => true
  | .sb _ _ _ => true
  | .sh _ _ _ => true
  | .sw _ _ _ => true
  | .sd _ _ _ => true
  | .lbL _ _ _ _ _ => false
  | .lhL _ _ _ _ _ => false
  | .lwL _ _ _ _ _ => false
  | .ldL _ _ _ _ _ => false
  | .sbL _ _ _ _ _ => false
  | .shL _ _ _ _ _ => false
  | .swL _ _ _ _ _ => false
  | .sdL _ _ _ _ _ => false
  | .lbu _ _ _ _ _ => false
  | .lhu _ _ _ _ _ => false
  | .lwu _ _ _ _ _ => false
  | .amoadd _ _ _ _ => false
  | .amomin _ _ _ _ => false
  | .amomax _ _ _ _ => false
  | .amominu _ _ _ _ => false
  | .amomaxu _ _ _ _ => false
  | .amoand _ _ _ _ => false
  | .amoor _ _ _ _ => false
  | .amoxor _ _ _ _ => false
  | .amoswap _ _ _ _ => false
  | .amocas _ _ _ _ => false
  | .amofadd _ _ _ _ => false
  | .fence => false
  | .ldf _ _ _ _ => true
  | .ldfe _ _ _ _ => true
  | .stf _ _ _ _ => true
  | .pf _ _ _ => true
  | .pfwait _ _ _ _ => true
  | .cinv => false
  | .fadd _ _ _ _ => false
  | .fsub _ _ _ _ => false
  | .fmul _ _ _ _ => false
  | .fdiv _ _ _ _ => false
  | .fsqrt _ _ _ => false
  | .fma _ _ _ _ => false
  | .fmin _ _ _ _ => false
  | .fmax _ _ _ _ => false
  | .fcmp _ _ _ _ => false
  | .fclass _ _ _ => false
  | .fsgn _ _ _ _ => false
  | .fcvt _ _ _ _ => false
  | .xclr _ => false
  | .xacc _ _ _ => false
  | .xmerge _ _ => false
  | .xrnd _ _ _ => false
  | .vclaim _ _ => false
  | .vmov _ _ _ => false
  | .vbcast _ _ _ => false
  | .vext _ _ _ _ => false
  | .vins _ _ _ _ => false
  | .vadd _ _ _ _ => false
  | .vsub _ _ _ _ => false
  | .vmul _ _ _ _ => false
  | .vfma _ _ _ _ => false
  | .vmin _ _ _ _ => false
  | .vmax _ _ _ _ => false
  | .vand _ _ _ _ => false
  | .vor _ _ _ _ => false
  | .vxor _ _ _ _ => false
  | .vshl _ _ _ _ => false
  | .vshr _ _ _ _ => false
  | .vsar _ _ _ _ => false
  | .vcmp _ _ _ _ _ => false
  | .vsel _ _ _ _ => false
  | .vperm _ _ _ _ => false
  | .vcvt _ _ _ _ => false
  | .qcvt _ _ _ _ => false
  | .vred _ _ _ _ => false
  | .vld _ _ _ _ _ => true
  | .vlds _ _ _ _ _ => true
  | .vldx _ _ _ _ _ => true
  | .vldt _ _ _ _ _ => true
  | .vst _ _ _ _ _ => true
  | .vsts _ _ _ _ _ => true
  | .vstx _ _ _ _ _ => true
  | .gshuf _ _ _ _ => false
  | .gbcast _ _ _ _ => false
  | .gvote _ _ _ _ => false
  | .gmatch _ _ _ => false
  | .gred _ _ _ _ => false
  | .gscan _ _ _ _ => false
  | .gmax _ _ _ _ => false
  | .gbar _ _ => false
  | .send _ _ => false
  | .spawn _ _ _ => false
  | .post _ _ => false
  | .decr _ _ => false
  | .kick _ _ _ => false
  | .ackx _ _ => false
  | .twpost _ _ _ => false
  | .splice _ _ => false
  | .recfwd _ _ => false
  | .chcfg _ _ _ => false
  | .chblk _ => false
  | .chunb _ => false
  | .matchTbl _ _ _ => false
  | .role _ _ => false
  | .rmap _ _ _ => false
  | .lease _ _ => false
  | .lrel _ => false
  | .notack _ _ _ => false
  | .budget _ _ => false
  | .badd _ _ _ => false
  | .hbeat => false
  | .cntrd _ _ => false
  | .mset _ _ => false
  | .mget _ _ => false
  | .mgetPanel _ _ _ => false
  | .mgo _ _ _ => false
  | .mgot _ _ _ => false
  | .mwait _ _ => false
  | .mzero _ => false
  | .mdrain _ _ _ _ _ => false
  | .cset _ _ => false
  | .cgo _ => false
  | .cpoll _ _ => false
  | .cwait _ _ => false
  | .ccancel _ _ => false
  | .bstate _ _ => false
  | .bgive _ _ => false
  | .btake _ _ => false
  | .bmarkState _ _ => false
  | .bmarkDefine _ _ => false
  | .bmarkRetain _ _ => false
  | .bmarkFree _ _ => false
  | .bwaitBuffer _ _ _ => false
  | .bwaitRing _ _ _ _ => false
  | .badv _ _ _ _ => false
  | .bring _ _ => false
  | .moduleReset => false
  | .harvest => false
  | .bootFetch => false
  | .bootVerify => false
  | .statusRequest => false
  | .attestationReport => false
  | .governorStep => false
  | .thermalThrottle => false
  | .thermalShutdown => false
  | .cxlLinkTraining => false
  | .cxlLinkLoss => false
  | .cxlMemTimeout => false
  | .stopRequest => false
  | .wWaitSatisfied => false
  | .asyncTrapTaken => false
  | .responseArrival => false
  | .errorResponseArrival => false
  | .baddGrant => false
  | .writeAtHome => false
  | .readAtHome => false
  | .atomicAtUnit => false
  | .releaseHoldEnd => false
  | .writeAckArrival => false
  | .movedArrival => false
  | .movedReread => false
  | .portPacketArrival => false
  | .malformedHeaderDrop => false
  | .sendArrival => false
  | .spawnArrival => false
  | .postArrival => false
  | .decrAtHome => false
  | .kickArrival => false
  | .ackxAtHome => false
  | .twpostJobArrival => false
  | .twpostPermitArrival => false
  | .twpostEndArrival => false
  | .ctlCreditRequest => false
  | .ctlCreditRetry => false
  | .readyRingOffer => false
  | .dispatch => false
  | .contextSaveDone => false
  | .gangStart => false
  | .budgetExhausted => false
  | .engineBudgetExhausted => false
  | .periodRefill => false
  | .watchdogFire => false
  | .gangLineJoin => false
  | .mxJoin => false
  | .mxOpStart => false
  | .mxGroupCommit => false
  | .mxOperandsConsumed => false
  | .mzeroStart => false
  | .mdrainStart => false
  | .drainComplete => false
  | .gangPanelSave => false
  | .gangPanelRestore => false
  | .engineRegionZero => false
  | .copyJobStart => false
  | .copyJobComplete => false
  | .copyCancelStop => false
  | .loaderEmitRecord => false
  | .storerTakeRecord => false
  | .stageTakeData => false
  | .passThroughForward => false
  | .spliceApply => false
  | .stageTakeAbort => false
  | .pageWalk => false
  | .walkComplete => false
  | .walkMovingRetry => false
  | .tierFetchStart => false
  | .tierMoveCommit => false
  | .tierPinExpiry => false
  | .tierEvict => false
  | .protWrite => false
  | .protChangeDone => false
  | .dramRatioChange => false
  | .dramRelock => false
  | .uncorrectableRead => false
  | .refetchDone => false
  | .rowSpareRemap => false
  | .scoutSample => false
  | .scoutWindowEnd => false
  | .leaveatReached => false
  | .moveCommit => false
  | .graceEnd => false
  | .expressDrainLimit => false
  | .leaseRequest => false
  | .leaseExpiry => false
  | .lrelArrival => false
  | .rmapAction => false
  | .siteRetire => false
  | .whistleStop => false
  | .whistleResume => false
  | .whistleResumeTrap => false
  | .stopRecordWrite => false
  | .linkLossStop => false
  | .queueWake => false
  | .queuePageInDone => false
  | .queuePageOut => false
  | .launch => false
  | .amsg => false
  | .hostSplice => false
  | .hostLease => false
  | .preempt => false
  | .signalStore => false
  | .signalAdd => false
  | .signalWait => false
  | .signalPoll => false
  | .copy => false
  | .commandComplete => false
  | .launchArm => false
  | .launchCommit => false
  | .launchDisarm => false
  | .launchArmTimeout => false
  | .launchCommitTimeout => false
  | .laneSpare => false
  | .linkAudit => false
  | .linkDead => false
  | .tileReset => false
  | .injctlPause => false
  | .registerWrite => false
  | .recordArrival => false
  | .tileWalkJobComplete => false
  | .tileResetExit => false
  | .moduleLinkRestored => false
  | .launchAnswer => false
  | .timeSync => false
  | .thermalRecovery => false

/-- Whether an entry accepts a mask-select prefix (R144, R211). -/
def maskAccepts : Instr → Bool
  | .ill _ => false
  | .add _ _ _ _ => false
  | .sub _ _ _ _ => false
  | .and _ _ _ _ => false
  | .or _ _ _ _ => false
  | .xor _ _ _ _ => false
  | .andn _ _ _ _ => false
  | .shl _ _ _ _ => false
  | .shr _ _ _ _ => false
  | .sar _ _ _ _ => false
  | .rol _ _ _ _ => false
  | .min _ _ _ _ => false
  | .max _ _ _ _ => false
  | .minu _ _ _ _ => false
  | .maxu _ _ _ _ => false
  | .slt _ _ _ _ => false
  | .sltu _ _ _ _ => false
  | .seq _ _ _ _ => false
  | .mul _ _ _ _ => false
  | .mulh _ _ _ _ => false
  | .mulhu _ _ _ _ => false
  | .div _ _ _ _ => false
  | .divu _ _ _ _ => false
  | .rem _ _ _ _ => false
  | .remu _ _ _ _ => false
  | .clz _ _ _ => false
  | .ctz _ _ _ => false
  | .popc _ _ _ => false
  | .brev _ _ _ => false
  | .bext _ _ _ _ => false
  | .bins _ _ _ _ => false
  | .sel _ _ _ _ => false
  | .addi _ _ _ => false
  | .andi _ _ _ => false
  | .ori _ _ _ => false
  | .xori _ _ _ => false
  | .slti _ _ _ => false
  | .sltui _ _ _ => false
  | .shli _ _ _ => false
  | .shri _ _ _ => false
  | .sari _ _ _ => false
  | .lih _ _ _ => false
  | .lea _ _ => false
  | .gadr _ _ _ => false
  | .addiL _ _ _ => false
  | .andiL _ _ _ => false
  | .oriL _ _ _ => false
  | .xoriL _ _ _ => false
  | .sltiL _ _ _ => false
  | .sltuiL _ _ _ => false
  | .shliL _ _ _ => false
  | .shriL _ _ _ => false
  | .sariL _ _ _ => false
  | .leaL _ _ => false
  | .beq _ _ _ => false
  | .bne _ _ _ => false
  | .blt _ _ _ => false
  | .bge _ _ _ => false
  | .bltu _ _ _ => false
  | .bgeu _ _ _ => false
  | .jmp _ => false
  | .jal _ => false
  | .jr _ => false
  | .jalr _ _ => false
  | .rep _ _ _ _ _ _ => false
  | .pool _ => false
  | .tend => false
  | .sys => false
  | .trapret => false
  | .brk => false
  | .srd _ _ _ => false
  | .swr _ _ _ => false
  | .ifence => false
  | .lb _ _ _ => false
  | .lh _ _ _ => false
  | .lw _ _ _ => false
  | .ld _ _ _ => false
  | .sb _ _ _ => false
  | .sh _ _ _ => false
  | .sw _ _ _ => false
  | .sd _ _ _ => false
  | .lbL _ _ _ _ _ => false
  | .lhL _ _ _ _ _ => false
  | .lwL _ _ _ _ _ => false
  | .ldL _ _ _ _ _ => false
  | .sbL _ _ _ _ _ => false
  | .shL _ _ _ _ _ => false
  | .swL _ _ _ _ _ => false
  | .sdL _ _ _ _ _ => false
  | .lbu _ _ _ _ _ => false
  | .lhu _ _ _ _ _ => false
  | .lwu _ _ _ _ _ => false
  | .amoadd _ _ _ _ => false
  | .amomin _ _ _ _ => false
  | .amomax _ _ _ _ => false
  | .amominu _ _ _ _ => false
  | .amomaxu _ _ _ _ => false
  | .amoand _ _ _ _ => false
  | .amoor _ _ _ _ => false
  | .amoxor _ _ _ _ => false
  | .amoswap _ _ _ _ => false
  | .amocas _ _ _ _ => false
  | .amofadd _ _ _ _ => false
  | .fence => false
  | .ldf _ _ _ _ => false
  | .ldfe _ _ _ _ => false
  | .stf _ _ _ _ => false
  | .pf _ _ _ => false
  | .pfwait _ _ _ _ => false
  | .cinv => false
  | .fadd _ _ _ _ => false
  | .fsub _ _ _ _ => false
  | .fmul _ _ _ _ => false
  | .fdiv _ _ _ _ => false
  | .fsqrt _ _ _ => false
  | .fma _ _ _ _ => false
  | .fmin _ _ _ _ => false
  | .fmax _ _ _ _ => false
  | .fcmp _ _ _ _ => false
  | .fclass _ _ _ => false
  | .fsgn _ _ _ _ => false
  | .fcvt _ _ _ _ => false
  | .xclr _ => false
  | .xacc _ _ _ => false
  | .xmerge _ _ => false
  | .xrnd _ _ _ => false
  | .vclaim _ _ => false
  | .vmov _ _ _ => true
  | .vbcast _ _ _ => true
  | .vext _ _ _ _ => false
  | .vins _ _ _ _ => false
  | .vadd _ _ _ _ => true
  | .vsub _ _ _ _ => true
  | .vmul _ _ _ _ => true
  | .vfma _ _ _ _ => true
  | .vmin _ _ _ _ => true
  | .vmax _ _ _ _ => true
  | .vand _ _ _ _ => true
  | .vor _ _ _ _ => true
  | .vxor _ _ _ _ => true
  | .vshl _ _ _ _ => true
  | .vshr _ _ _ _ => true
  | .vsar _ _ _ _ => true
  | .vcmp _ _ _ _ _ => true
  | .vsel _ _ _ _ => true
  | .vperm _ _ _ _ => true
  | .vcvt _ _ _ _ => true
  | .qcvt _ _ _ _ => true
  | .vred _ _ _ _ => true
  | .vld _ _ _ _ _ => true
  | .vlds _ _ _ _ _ => true
  | .vldx _ _ _ _ _ => true
  | .vldt _ _ _ _ _ => true
  | .vst _ _ _ _ _ => true
  | .vsts _ _ _ _ _ => true
  | .vstx _ _ _ _ _ => true
  | .gshuf _ _ _ _ => true
  | .gbcast _ _ _ _ => true
  | .gvote _ _ _ _ => false
  | .gmatch _ _ _ => false
  | .gred _ _ _ _ => true
  | .gscan _ _ _ _ => true
  | .gmax _ _ _ _ => true
  | .gbar _ _ => false
  | .send _ _ => false
  | .spawn _ _ _ => false
  | .post _ _ => false
  | .decr _ _ => false
  | .kick _ _ _ => false
  | .ackx _ _ => false
  | .twpost _ _ _ => false
  | .splice _ _ => false
  | .recfwd _ _ => false
  | .chcfg _ _ _ => false
  | .chblk _ => false
  | .chunb _ => false
  | .matchTbl _ _ _ => false
  | .role _ _ => false
  | .rmap _ _ _ => false
  | .lease _ _ => false
  | .lrel _ => false
  | .notack _ _ _ => false
  | .budget _ _ => false
  | .badd _ _ _ => false
  | .hbeat => false
  | .cntrd _ _ => false
  | .mset _ _ => false
  | .mget _ _ => false
  | .mgetPanel _ _ _ => false
  | .mgo _ _ _ => false
  | .mgot _ _ _ => false
  | .mwait _ _ => false
  | .mzero _ => false
  | .mdrain _ _ _ _ _ => false
  | .cset _ _ => false
  | .cgo _ => false
  | .cpoll _ _ => false
  | .cwait _ _ => false
  | .ccancel _ _ => false
  | .bstate _ _ => false
  | .bgive _ _ => false
  | .btake _ _ => false
  | .bmarkState _ _ => false
  | .bmarkDefine _ _ => false
  | .bmarkRetain _ _ => false
  | .bmarkFree _ _ => false
  | .bwaitBuffer _ _ _ => false
  | .bwaitRing _ _ _ _ => false
  | .badv _ _ _ _ => false
  | .bring _ _ => false
  | .moduleReset => false
  | .harvest => false
  | .bootFetch => false
  | .bootVerify => false
  | .statusRequest => false
  | .attestationReport => false
  | .governorStep => false
  | .thermalThrottle => false
  | .thermalShutdown => false
  | .cxlLinkTraining => false
  | .cxlLinkLoss => false
  | .cxlMemTimeout => false
  | .stopRequest => false
  | .wWaitSatisfied => false
  | .asyncTrapTaken => false
  | .responseArrival => false
  | .errorResponseArrival => false
  | .baddGrant => false
  | .writeAtHome => false
  | .readAtHome => false
  | .atomicAtUnit => false
  | .releaseHoldEnd => false
  | .writeAckArrival => false
  | .movedArrival => false
  | .movedReread => false
  | .portPacketArrival => false
  | .malformedHeaderDrop => false
  | .sendArrival => false
  | .spawnArrival => false
  | .postArrival => false
  | .decrAtHome => false
  | .kickArrival => false
  | .ackxAtHome => false
  | .twpostJobArrival => false
  | .twpostPermitArrival => false
  | .twpostEndArrival => false
  | .ctlCreditRequest => false
  | .ctlCreditRetry => false
  | .readyRingOffer => false
  | .dispatch => false
  | .contextSaveDone => false
  | .gangStart => false
  | .budgetExhausted => false
  | .engineBudgetExhausted => false
  | .periodRefill => false
  | .watchdogFire => false
  | .gangLineJoin => false
  | .mxJoin => false
  | .mxOpStart => false
  | .mxGroupCommit => false
  | .mxOperandsConsumed => false
  | .mzeroStart => false
  | .mdrainStart => false
  | .drainComplete => false
  | .gangPanelSave => false
  | .gangPanelRestore => false
  | .engineRegionZero => false
  | .copyJobStart => false
  | .copyJobComplete => false
  | .copyCancelStop => false
  | .loaderEmitRecord => false
  | .storerTakeRecord => false
  | .stageTakeData => false
  | .passThroughForward => false
  | .spliceApply => false
  | .stageTakeAbort => false
  | .pageWalk => false
  | .walkComplete => false
  | .walkMovingRetry => false
  | .tierFetchStart => false
  | .tierMoveCommit => false
  | .tierPinExpiry => false
  | .tierEvict => false
  | .protWrite => false
  | .protChangeDone => false
  | .dramRatioChange => false
  | .dramRelock => false
  | .uncorrectableRead => false
  | .refetchDone => false
  | .rowSpareRemap => false
  | .scoutSample => false
  | .scoutWindowEnd => false
  | .leaveatReached => false
  | .moveCommit => false
  | .graceEnd => false
  | .expressDrainLimit => false
  | .leaseRequest => false
  | .leaseExpiry => false
  | .lrelArrival => false
  | .rmapAction => false
  | .siteRetire => false
  | .whistleStop => false
  | .whistleResume => false
  | .whistleResumeTrap => false
  | .stopRecordWrite => false
  | .linkLossStop => false
  | .queueWake => false
  | .queuePageInDone => false
  | .queuePageOut => false
  | .launch => false
  | .amsg => false
  | .hostSplice => false
  | .hostLease => false
  | .preempt => false
  | .signalStore => false
  | .signalAdd => false
  | .signalWait => false
  | .signalPoll => false
  | .copy => false
  | .commandComplete => false
  | .launchArm => false
  | .launchCommit => false
  | .launchDisarm => false
  | .launchArmTimeout => false
  | .launchCommitTimeout => false
  | .laneSpare => false
  | .linkAudit => false
  | .linkDead => false
  | .tileReset => false
  | .injctlPause => false
  | .registerWrite => false
  | .recordArrival => false
  | .tileWalkJobComplete => false
  | .tileResetExit => false
  | .moduleLinkRestored => false
  | .launchAnswer => false
  | .timeSync => false
  | .thermalRecovery => false

/-- The fields D, A and B of the word name general or vector registers (R118). -/
def regFields : Instr → Bool × Bool × Bool
  | .ill _ => (false, false, false)
  | .add _ _ _ _ => (true, true, true)
  | .sub _ _ _ _ => (true, true, true)
  | .and _ _ _ _ => (true, true, true)
  | .or _ _ _ _ => (true, true, true)
  | .xor _ _ _ _ => (true, true, true)
  | .andn _ _ _ _ => (true, true, true)
  | .shl _ _ _ _ => (true, true, true)
  | .shr _ _ _ _ => (true, true, true)
  | .sar _ _ _ _ => (true, true, true)
  | .rol _ _ _ _ => (true, true, true)
  | .min _ _ _ _ => (true, true, true)
  | .max _ _ _ _ => (true, true, true)
  | .minu _ _ _ _ => (true, true, true)
  | .maxu _ _ _ _ => (true, true, true)
  | .slt _ _ _ _ => (true, true, true)
  | .sltu _ _ _ _ => (true, true, true)
  | .seq _ _ _ _ => (true, true, true)
  | .mul _ _ _ _ => (true, true, true)
  | .mulh _ _ _ _ => (true, true, true)
  | .mulhu _ _ _ _ => (true, true, true)
  | .div _ _ _ _ => (true, true, true)
  | .divu _ _ _ _ => (true, true, true)
  | .rem _ _ _ _ => (true, true, true)
  | .remu _ _ _ _ => (true, true, true)
  | .clz _ _ _ => (true, true, false)
  | .ctz _ _ _ => (true, true, false)
  | .popc _ _ _ => (true, true, false)
  | .brev _ _ _ => (true, true, false)
  | .bext _ _ _ _ => (true, true, true)
  | .bins _ _ _ _ => (true, true, true)
  | .sel _ _ _ _ => (true, true, true)
  | .addi _ _ _ => (true, true, false)
  | .andi _ _ _ => (true, true, false)
  | .ori _ _ _ => (true, true, false)
  | .xori _ _ _ => (true, true, false)
  | .slti _ _ _ => (true, true, false)
  | .sltui _ _ _ => (true, true, false)
  | .shli _ _ _ => (true, true, false)
  | .shri _ _ _ => (true, true, false)
  | .sari _ _ _ => (true, true, false)
  | .lih _ _ _ => (true, true, false)
  | .lea _ _ => (true, false, false)
  | .gadr _ _ _ => (true, true, false)
  | .addiL _ _ _ => (true, true, false)
  | .andiL _ _ _ => (true, true, false)
  | .oriL _ _ _ => (true, true, false)
  | .xoriL _ _ _ => (true, true, false)
  | .sltiL _ _ _ => (true, true, false)
  | .sltuiL _ _ _ => (true, true, false)
  | .shliL _ _ _ => (true, true, false)
  | .shriL _ _ _ => (true, true, false)
  | .sariL _ _ _ => (true, true, false)
  | .leaL _ _ => (true, false, false)
  | .beq _ _ _ => (true, true, false)
  | .bne _ _ _ => (true, true, false)
  | .blt _ _ _ => (true, true, false)
  | .bge _ _ _ => (true, true, false)
  | .bltu _ _ _ => (true, true, false)
  | .bgeu _ _ _ => (true, true, false)
  | .jmp _ => (false, false, false)
  | .jal _ => (false, false, false)
  | .jr _ => (false, true, false)
  | .jalr _ _ => (true, true, false)
  | .rep _ _ _ _ _ _ => (false, false, false)
  | .pool _ => (false, false, false)
  | .tend => (false, false, false)
  | .sys => (false, false, false)
  | .trapret => (false, false, false)
  | .brk => (false, false, false)
  | .srd _ _ _ => (true, false, false)
  | .swr _ _ _ => (true, false, false)
  | .ifence => (false, false, false)
  | .lb _ _ _ => (true, true, false)
  | .lh _ _ _ => (true, true, false)
  | .lw _ _ _ => (true, true, false)
  | .ld _ _ _ => (true, true, false)
  | .sb _ _ _ => (true, true, false)
  | .sh _ _ _ => (true, true, false)
  | .sw _ _ _ => (true, true, false)
  | .sd _ _ _ => (true, true, false)
  | .lbL _ _ _ _ _ => (true, true, true)
  | .lhL _ _ _ _ _ => (true, true, true)
  | .lwL _ _ _ _ _ => (true, true, true)
  | .ldL _ _ _ _ _ => (true, true, true)
  | .sbL _ _ _ _ _ => (true, true, true)
  | .shL _ _ _ _ _ => (true, true, true)
  | .swL _ _ _ _ _ => (true, true, true)
  | .sdL _ _ _ _ _ => (true, true, true)
  | .lbu _ _ _ _ _ => (true, true, true)
  | .lhu _ _ _ _ _ => (true, true, true)
  | .lwu _ _ _ _ _ => (true, true, true)
  | .amoadd _ _ _ _ => (true, true, true)
  | .amomin _ _ _ _ => (true, true, true)
  | .amomax _ _ _ _ => (true, true, true)
  | .amominu _ _ _ _ => (true, true, true)
  | .amomaxu _ _ _ _ => (true, true, true)
  | .amoand _ _ _ _ => (true, true, true)
  | .amoor _ _ _ _ => (true, true, true)
  | .amoxor _ _ _ _ => (true, true, true)
  | .amoswap _ _ _ _ => (true, true, true)
  | .amocas _ _ _ _ => (true, true, true)
  | .amofadd _ _ _ _ => (true, true, true)
  | .fence => (false, false, false)
  | .ldf _ _ _ _ => (true, true, true)
  | .ldfe _ _ _ _ => (true, true, true)
  | .stf _ _ _ _ => (true, true, true)
  | .pf _ _ _ => (false, true, true)
  | .pfwait _ _ _ _ => (true, true, true)
  | .cinv => (false, false, false)
  | .fadd _ _ _ _ => (true, true, true)
  | .fsub _ _ _ _ => (true, true, true)
  | .fmul _ _ _ _ => (true, true, true)
  | .fdiv _ _ _ _ => (true, true, true)
  | .fsqrt _ _ _ => (true, true, false)
  | .fma _ _ _ _ => (true, true, true)
  | .fmin _ _ _ _ => (true, true, true)
  | .fmax _ _ _ _ => (true, true, true)
  | .fcmp _ _ _ _ => (true, true, true)
  | .fclass _ _ _ => (true, true, false)
  | .fsgn _ _ _ _ => (true, true, false)
  | .fcvt _ _ _ _ => (true, true, false)
  | .xclr _ => (false, true, false)
  | .xacc _ _ _ => (false, true, true)
  | .xmerge _ _ => (true, true, false)
  | .xrnd _ _ _ => (true, true, false)
  | .vclaim _ _ => (true, false, false)
  | .vmov _ _ _ => (true, true, false)
  | .vbcast _ _ _ => (true, true, false)
  | .vext _ _ _ _ => (true, true, true)
  | .vins _ _ _ _ => (true, true, true)
  | .vadd _ _ _ _ => (true, true, true)
  | .vsub _ _ _ _ => (true, true, true)
  | .vmul _ _ _ _ => (true, true, true)
  | .vfma _ _ _ _ => (true, true, true)
  | .vmin _ _ _ _ => (true, true, true)
  | .vmax _ _ _ _ => (true, true, true)
  | .vand _ _ _ _ => (true, true, true)
  | .vor _ _ _ _ => (true, true, true)
  | .vxor _ _ _ _ => (true, true, true)
  | .vshl _ _ _ _ => (true, true, true)
  | .vshr _ _ _ _ => (true, true, true)
  | .vsar _ _ _ _ => (true, true, true)
  | .vcmp _ _ _ _ _ => (false, true, true)
  | .vsel _ _ _ _ => (true, true, true)
  | .vperm _ _ _ _ => (true, true, true)
  | .vcvt _ _ _ _ => (true, true, false)
  | .qcvt _ _ _ _ => (true, true, true)
  | .vred _ _ _ _ => (true, true, false)
  | .vld _ _ _ _ _ => (true, true, true)
  | .vlds _ _ _ _ _ => (true, true, true)
  | .vldx _ _ _ _ _ => (true, true, true)
  | .vldt _ _ _ _ _ => (true, true, true)
  | .vst _ _ _ _ _ => (true, true, true)
  | .vsts _ _ _ _ _ => (true, true, true)
  | .vstx _ _ _ _ _ => (true, true, true)
  | .gshuf _ _ _ _ => (true, true, true)
  | .gbcast _ _ _ _ => (true, true, true)
  | .gvote _ _ _ _ => (true, false, false)
  | .gmatch _ _ _ => (true, true, false)
  | .gred _ _ _ _ => (true, true, false)
  | .gscan _ _ _ _ => (true, true, false)
  | .gmax _ _ _ _ => (true, true, true)
  | .gbar _ _ => (true, false, false)
  | .send _ _ => (false, true, true)
  | .spawn _ _ _ => (true, true, true)
  | .post _ _ => (false, true, true)
  | .decr _ _ => (false, true, true)
  | .kick _ _ _ => (true, true, true)
  | .ackx _ _ => (false, true, true)
  | .twpost _ _ _ => (true, true, true)
  | .splice _ _ => (false, true, true)
  | .recfwd _ _ => (false, true, true)
  | .chcfg _ _ _ => (true, true, true)
  | .chblk _ => (false, true, false)
  | .chunb _ => (false, true, false)
  | .matchTbl _ _ _ => (true, true, true)
  | .role _ _ => (true, true, false)
  | .rmap _ _ _ => (true, true, true)
  | .lease _ _ => (false, true, true)
  | .lrel _ => (false, true, false)
  | .notack _ _ _ => (true, true, true)
  | .budget _ _ => (true, true, false)
  | .badd _ _ _ => (true, true, true)
  | .hbeat => (false, false, false)
  | .cntrd _ _ => (true, true, false)
  | .mset _ _ => (false, true, false)
  | .mget _ _ => (true, false, false)
  | .mgetPanel _ _ _ => (true, true, false)
  | .mgo _ _ _ => (false, true, false)
  | .mgot _ _ _ => (false, true, false)
  | .mwait _ _ => (true, false, false)
  | .mzero _ => (false, false, false)
  | .mdrain _ _ _ _ _ => (false, true, true)
  | .cset _ _ => (false, true, false)
  | .cgo _ => (true, false, false)
  | .cpoll _ _ => (true, false, false)
  | .cwait _ _ => (true, true, false)
  | .ccancel _ _ => (true, true, false)
  | .bstate _ _ => (true, true, false)
  | .bgive _ _ => (false, true, true)
  | .btake _ _ => (true, true, false)
  | .bmarkState _ _ => (false, true, true)
  | .bmarkDefine _ _ => (false, true, true)
  | .bmarkRetain _ _ => (false, true, true)
  | .bmarkFree _ _ => (false, true, true)
  | .bwaitBuffer _ _ _ => (true, true, false)
  | .bwaitRing _ _ _ _ => (true, true, true)
  | .badv _ _ _ _ => (true, true, true)
  | .bring _ _ => (false, true, true)
  | .moduleReset => (false, false, false)
  | .harvest => (false, false, false)
  | .bootFetch => (false, false, false)
  | .bootVerify => (false, false, false)
  | .statusRequest => (false, false, false)
  | .attestationReport => (false, false, false)
  | .governorStep => (false, false, false)
  | .thermalThrottle => (false, false, false)
  | .thermalShutdown => (false, false, false)
  | .cxlLinkTraining => (false, false, false)
  | .cxlLinkLoss => (false, false, false)
  | .cxlMemTimeout => (false, false, false)
  | .stopRequest => (false, false, false)
  | .wWaitSatisfied => (false, false, false)
  | .asyncTrapTaken => (false, false, false)
  | .responseArrival => (false, false, false)
  | .errorResponseArrival => (false, false, false)
  | .baddGrant => (false, false, false)
  | .writeAtHome => (false, false, false)
  | .readAtHome => (false, false, false)
  | .atomicAtUnit => (false, false, false)
  | .releaseHoldEnd => (false, false, false)
  | .writeAckArrival => (false, false, false)
  | .movedArrival => (false, false, false)
  | .movedReread => (false, false, false)
  | .portPacketArrival => (false, false, false)
  | .malformedHeaderDrop => (false, false, false)
  | .sendArrival => (false, false, false)
  | .spawnArrival => (false, false, false)
  | .postArrival => (false, false, false)
  | .decrAtHome => (false, false, false)
  | .kickArrival => (false, false, false)
  | .ackxAtHome => (false, false, false)
  | .twpostJobArrival => (false, false, false)
  | .twpostPermitArrival => (false, false, false)
  | .twpostEndArrival => (false, false, false)
  | .ctlCreditRequest => (false, false, false)
  | .ctlCreditRetry => (false, false, false)
  | .readyRingOffer => (false, false, false)
  | .dispatch => (false, false, false)
  | .contextSaveDone => (false, false, false)
  | .gangStart => (false, false, false)
  | .budgetExhausted => (false, false, false)
  | .engineBudgetExhausted => (false, false, false)
  | .periodRefill => (false, false, false)
  | .watchdogFire => (false, false, false)
  | .gangLineJoin => (false, false, false)
  | .mxJoin => (false, false, false)
  | .mxOpStart => (false, false, false)
  | .mxGroupCommit => (false, false, false)
  | .mxOperandsConsumed => (false, false, false)
  | .mzeroStart => (false, false, false)
  | .mdrainStart => (false, false, false)
  | .drainComplete => (false, false, false)
  | .gangPanelSave => (false, false, false)
  | .gangPanelRestore => (false, false, false)
  | .engineRegionZero => (false, false, false)
  | .copyJobStart => (false, false, false)
  | .copyJobComplete => (false, false, false)
  | .copyCancelStop => (false, false, false)
  | .loaderEmitRecord => (false, false, false)
  | .storerTakeRecord => (false, false, false)
  | .stageTakeData => (false, false, false)
  | .passThroughForward => (false, false, false)
  | .spliceApply => (false, false, false)
  | .stageTakeAbort => (false, false, false)
  | .pageWalk => (false, false, false)
  | .walkComplete => (false, false, false)
  | .walkMovingRetry => (false, false, false)
  | .tierFetchStart => (false, false, false)
  | .tierMoveCommit => (false, false, false)
  | .tierPinExpiry => (false, false, false)
  | .tierEvict => (false, false, false)
  | .protWrite => (false, false, false)
  | .protChangeDone => (false, false, false)
  | .dramRatioChange => (false, false, false)
  | .dramRelock => (false, false, false)
  | .uncorrectableRead => (false, false, false)
  | .refetchDone => (false, false, false)
  | .rowSpareRemap => (false, false, false)
  | .scoutSample => (false, false, false)
  | .scoutWindowEnd => (false, false, false)
  | .leaveatReached => (false, false, false)
  | .moveCommit => (false, false, false)
  | .graceEnd => (false, false, false)
  | .expressDrainLimit => (false, false, false)
  | .leaseRequest => (false, false, false)
  | .leaseExpiry => (false, false, false)
  | .lrelArrival => (false, false, false)
  | .rmapAction => (false, false, false)
  | .siteRetire => (false, false, false)
  | .whistleStop => (false, false, false)
  | .whistleResume => (false, false, false)
  | .whistleResumeTrap => (false, false, false)
  | .stopRecordWrite => (false, false, false)
  | .linkLossStop => (false, false, false)
  | .queueWake => (false, false, false)
  | .queuePageInDone => (false, false, false)
  | .queuePageOut => (false, false, false)
  | .launch => (false, false, false)
  | .amsg => (false, false, false)
  | .hostSplice => (false, false, false)
  | .hostLease => (false, false, false)
  | .preempt => (false, false, false)
  | .signalStore => (false, false, false)
  | .signalAdd => (false, false, false)
  | .signalWait => (false, false, false)
  | .signalPoll => (false, false, false)
  | .copy => (false, false, false)
  | .commandComplete => (false, false, false)
  | .launchArm => (false, false, false)
  | .launchCommit => (false, false, false)
  | .launchDisarm => (false, false, false)
  | .launchArmTimeout => (false, false, false)
  | .launchCommitTimeout => (false, false, false)
  | .laneSpare => (false, false, false)
  | .linkAudit => (false, false, false)
  | .linkDead => (false, false, false)
  | .tileReset => (false, false, false)
  | .injctlPause => (false, false, false)
  | .registerWrite => (false, false, false)
  | .recordArrival => (false, false, false)
  | .tileWalkJobComplete => (false, false, false)
  | .tileResetExit => (false, false, false)
  | .moduleLinkRestored => (false, false, false)
  | .launchAnswer => (false, false, false)
  | .timeSync => (false, false, false)
  | .thermalRecovery => (false, false, false)

/-- A prefix word's kind and fields are legal (R44). -/
def legalPrefix (w : Nat) : Bool :=
  match w / 4 % 64 with
  | 1 => w / 2 ^ 13 = 0 && w / 256 % 8 ≤ 6
  | 2 => w / 2 ^ 17 = 0 && w / 256 % 8 ≤ 4
  | 3 => true
  | 4 => w / 2 ^ 11 = 0
  | _ => false

/-- Whether instruction `i` accepts prefix word `w` (R46). -/
def accepted (i : Instr) (w : Nat) : Bool :=
  match w / 4 % 64 with
  | 1 =>
    match arithAccepts i with
    | none => false
    | some (rm, sat, q) => (rm || w / 256 % 8 = 6) && (sat || w / 2048 % 2 = 0) && (q || w / 4096 % 2 = 0)
  | 2 =>
    match memAccepts i with
    | none => false
    | some (os, tier, phys) => os.contains (w / 2048 % 4) && (tier || w / 8192 % 8 = 0) && (phys || w / 65536 % 2 = 0)
  | 3 => extAccepts i
  | 4 => maskAccepts i
  | _ => false

/-- The fields of one prefix word, put into the group's prefixes (R44). -/
def addPrefix (p : Prefixes) (addr : Word) (w : Nat) : Prefixes :=
  match w / 4 % 64 with
  | 1 => { p with quiet := w / 4096 % 2 = 1, sat := w / 2048 % 2 = 1, rm := BitVec.ofNat 3 (w / 256) }
  | 2 => { p with order := BitVec.ofNat 2 (w / 2048), scope := BitVec.ofNat 3 (w / 256), tier := BitVec.ofNat 3 (w / 8192),
                  phys := w / 65536 % 2 = 1, memAddr := addr }
  | 3 => { p with ext := some (BitVec.ofNat 24 (w / 256)) }
  | 4 => { p with mask := BitVec.ofNat 3 (w / 256) }
  | _ => p

/-- A word that is a control transfer (R48): base OP 0x10 to 0x1B, and SYS, TRAPRET and BRK. A word of OP 0x18 whose F names neither JR
nor JALR counts as one, though it is no instruction: R48 names the OP (DESIGN CHOICE, log 80). -/
def controlTransfer (w : Nat) : Bool :=
  w % 4 = 0 && ((0x10 ≤ w / 4 % 64 && w / 4 % 64 ≤ 0x1B) || (w / 4 % 64 = 0x1C && w / 2 ^ 23 ≤ 2))

end Sys2Proof.Machine
end

