-- ==== Sys2Proof/Config.lean ====
section
/-! DEFINITION. What an implementation fixes and what the spec leaves open. Every constant here is uninterpreted: nothing in Lean
can evaluate it or prove a value of it. -/

namespace Sys2Proof.Config

/-- The address of the mask ROM's trap stub, MVEC's value at module reset (R408; log 5). -/
opaque romStub : Word

/-- A value the spec leaves open, the `n`-th that a run meets (log 10). -/
opaque freeWord : Nat → Word

/-- The SM3 digest of bytes (R426, R427), as four words. -/
opaque sm3 : List Byte → List Word

/-- The SM3 digest, in the fuses, of the public key that images are signed under (R426). -/
opaque keyDigest : List Word

/-- The SM2 signature check of an image against the public key of a digest (R426). -/
opaque sm2Check : List Word → List Byte → Bool

/-- The SM2 signature of report bytes under the module's private key (R427). -/
opaque sm2Sign : List Byte → List Word

/-- The serial number in the fuses (R427). -/
opaque serial : Word

/-- A boot image's header (R426), whose layout the spec does not give: the load address, the bytes after the header, and the address
at which a verified image is entered. -/
opaque bootLoad : List Byte → Word
opaque bootBody : List Byte → List Byte
opaque bootEntry : List Byte → Word

/-- REG numbers that the spec does not give: QTBASE, PAGEAGE and a port's register in BLOCK 0x004 (R22, R324 to R326), the correction
counter, the DRAM clock ratio and the threshold of a row's corrected errors of a column in BLOCK 0x002 (R263, R271, R430); a port's register as it reads, from its mode, whether it trained, whether it is held down, its
rate, width and protocols, and the mode that a store to it asks for (log 28). -/
opaque qtBaseReg : Nat
opaque pageAgeReg : Nat
opaque portReg : Nat → Nat
opaque correctedReg : Nat
opaque dramRatioReg : Nat
opaque rowThreshReg : Nat
opaque portWord : Bool → Bool → Bool → Nat → Nat → Nat → Word
opaque portMode : Word → Bool

/-- Where, in the DRAM of a column, the backing frames lie that system software reserves for the pages that it maps to storage tiles
itself (R262; log 59): the first one's frame number, by module and column. -/
opaque backingFrame : Nat → Nat

/-- The bank and the row of a column's DRAM that hold a 128-byte block, by its physical address (R430; log 61). -/
opaque dramRow : Nat → Nat × Nat

end Sys2Proof.Config
end

