-- ==== Sys2Proof/Machine/Maps.lean ====
section
/-! DEFINITION. Reading and writing the sparse tables of the state, bit fields of words, and small list helpers. -/

namespace Sys2Proof.Machine

/-- The record of number `k`, `d` when the table does not list it. -/
def tget {α : Type} (t : Tab α) (k : Nat) (d : α) : α :=
  match t with
  | [] => d
  | p :: r => if p.1 = k then p.2 else tget r k d

/-- Whether the table lists number `k`. -/
def thas {α : Type} (t : Tab α) (k : Nat) : Bool :=
  match t with
  | [] => false
  | p :: r => p.1 == k || thas r k

/-- The record of number `k`, if listed. -/
def tfind {α : Type} (t : Tab α) (k : Nat) : Option α :=
  match t with
  | [] => none
  | p :: r => if p.1 = k then some p.2 else tfind r k

/-- Write the record of number `k`, keeping the numbers ascending. -/
def tput {α : Type} (t : Tab α) (k : Nat) (v : α) : Tab α :=
  match t with
  | [] => [(k, v)]
  | p :: r => if k < p.1 then (k, v) :: p :: r else if p.1 = k then (k, v) :: r else p :: tput r k v

/-- Remove number `k`. -/
def tdel {α : Type} (t : Tab α) (k : Nat) : Tab α := t.filter fun p => p.1 != k

/-- Change the record of number `k`. -/
def tmod {α : Type} (t : Tab α) (k : Nat) (d : α) (f : α → α) : Tab α := tput t k (f (tget t k d))

/-- Field `[lo+n-1:lo]` of a natural number. -/
def nbits (x lo n : Nat) : Nat := x / 2 ^ lo % 2 ^ n

/-- Field `[lo+n-1:lo]` of a word. -/
def bits {w : Nat} (x : BitVec w) (lo n : Nat) : Nat := nbits x.toNat lo n

/-- Bit `i` of a word. -/
def bit {w : Nat} (x : BitVec w) (i : Nat) : Bool := x.getLsbD i

/-- 1 for true. -/
def b2n (b : Bool) : Nat := if b then 1 else 0

/-- A word of fields (lowest bit, value), all of which fit. -/
def mkWord (fs : List (Nat × Nat)) : Word := BitVec.ofNat 64 (fs.foldl (fun acc f => acc + f.2 * 2 ^ f.1) 0)

/-- `x` with field `[lo+n-1:lo]` replaced by the low bits of `v`. -/
def setField (x : Word) (lo n v : Nat) : Word :=
  BitVec.ofNat 64 (x.toNat - nbits x.toNat lo n * 2 ^ lo + v % 2 ^ n * 2 ^ lo)

/-- Signed reading of the low `n` bits of a number. -/
def sint (n x : Nat) : Int := (BitVec.ofNat n x).toInt

/-- The numbers `lo, lo+1, …` of length `n`. -/
def rangeFrom (lo n : Nat) : List Nat := (List.range n).map (lo + ·)

/-- Insert into an ascending list without repeats. -/
def sinsert (l : List Nat) (k : Nat) : List Nat :=
  match l with
  | [] => [k]
  | x :: r => if k < x then k :: x :: r else if x = k then x :: r else x :: sinsert r k

/-- The first index of `l` that satisfies `p`. -/
def firstIdx {α : Type} (p : α → Bool) (l : List α) : Option Nat :=
  match l with
  | [] => none
  | x :: r => if p x then some 0 else (firstIdx p r).map (· + 1)

/-- Replace the first element that satisfies `p` by `f` of it. -/
def modFirst {α : Type} (p : α → Bool) (f : α → α) (l : List α) : List α :=
  match l with
  | [] => []
  | x :: r => if p x then f x :: r else x :: modFirst p f r

/-- The element with the least key, the first among equals. -/
def minBy {α : Type} (key : α → Nat) (l : List α) : Option α :=
  l.foldl (fun acc x => match acc with
    | none => some x
    | some y => if key x < key y then some x else some y) none

/-- Sum of a list of numbers. -/
def sumNat (l : List Nat) : Nat := l.foldl (· + ·) 0

end Sys2Proof.Machine
end

