-- ==== Sys2Proof/Machine/Order.lean ====
section
/-! DEFINITION. The order of events that come about in one tick (R8). -/

namespace Sys2Proof.Machine

/-- Where an event stands among those of its tick: effects apply in the order of the rules' first statement (R8), and the number here
is the rule's. A part that owns the state orders otherwise at four places. A refill goes first (R278). Packets are served in the
order in which they arrive (R238, R278). The census takes retirements, preemption, requests, claims and pressure in that order (R340). A stop request comes last, since a wait that is met in its cycle ends first (R63). -/
def eventRank : Instr → Nat
  | .registerWrite => 6
  | .cxlLinkLoss => 22
  | .cxlLinkTraining => 22
  | .cxlMemTimeout => 22
  | .stopRequest => 999
  | .wWaitSatisfied => 62
  | .gangPanelRestore => 67
  | .gangPanelSave => 67
  | .engineRegionZero => 68
  | .timeSync => 86
  | .gangLineJoin => 156
  | .mxOpStart => 168
  | .mxJoin => 172
  | .mxGroupCommit => 174
  | .mzeroStart => 177
  | .mdrainStart => 178
  | .drainComplete => 179
  | .mxOperandsConsumed => 183
  | .atomicAtUnit => 237
  | .copyJobStart => 224
  | .copyJobComplete => 229
  | .copyCancelStop => 232
  | .readAtHome => 237
  | .writeAtHome => 237
  | .releaseHoldEnd => 237
  | .writeAckArrival => 237
  | .errorResponseArrival => 237
  | .protChangeDone => 264
  | .protWrite => 264
  | .tierFetchStart => 265
  | .tierPinExpiry => 265
  | .refetchDone => 267
  | .uncorrectableRead => 267
  | .tierEvict => 269
  | .dramRatioChange => 271
  | .dramRelock => 271
  | .readyRingOffer => 275
  | .periodRefill => 0
  | .budgetExhausted => 283
  | .engineBudgetExhausted => 284
  | .dispatch => 285
  | .gangStart => 287
  | .responseArrival => 237
  | .sendArrival => 237
  | .spawnArrival => 237
  | .postArrival => 237
  | .decrAtHome => 237
  | .kickArrival => 237
  | .ackxAtHome => 237
  | .tileWalkJobComplete => 304
  | .twpostEndArrival => 237
  | .twpostJobArrival => 237
  | .twpostPermitArrival => 237
  | .loaderEmitRecord => 309
  | .recordArrival => 237
  | .stageTakeData => 311
  | .passThroughForward => 313
  | .storerTakeRecord => 314
  | .spliceApply => 316
  | .stageTakeAbort => 316
  | .queuePageOut => 326
  | .queuePageInDone => 327
  | .queueWake => 327
  | .commandComplete => 329
  | .copy => 330
  | .hostLease => 330
  | .hostSplice => 330
  | .signalAdd => 330
  | .signalPoll => 330
  | .signalStore => 330
  | .signalWait => 330
  | .launch => 331
  | .amsg => 332
  | .launchAnswer => 333
  | .launchArm => 333
  | .launchArmTimeout => 333
  | .launchCommit => 333
  | .launchCommitTimeout => 333
  | .launchDisarm => 333
  | .moduleLinkRestored => 333
  | .portPacketArrival => 237
  | .scoutSample => 338
  | .scoutWindowEnd => 356
  | .leaveatReached => 342
  | .moveCommit => 342
  | .graceEnd => 345
  | .expressDrainLimit => 346
  | .movedArrival => 347
  | .movedReread => 347
  | .leaseExpiry => 355
  | .preempt => 341
  | .rmapAction => 354
  | .leaseRequest => 237
  | .lrelArrival => 237
  | .ctlCreditRequest => 359
  | .ctlCreditRetry => 359
  | .malformedHeaderDrop => 374
  | .injctlPause => 379
  | .laneSpare => 380
  | .linkAudit => 382
  | .linkDead => 383
  | .tileReset => 384
  | .tileResetExit => 384
  | .walkComplete => 388
  | .tierMoveCommit => 391
  | .walkMovingRetry => 391
  | .pageWalk => 392
  | .baddGrant => 237
  | .watchdogFire => 406
  | .asyncTrapTaken => 410
  | .linkLossStop => 414
  | .whistleStop => 415
  | .whistleResume => 416
  | .whistleResumeTrap => 416
  | .stopRecordWrite => 417
  | .contextSaveDone => 420
  | .bootFetch => 424
  | .harvest => 424
  | .moduleReset => 424
  | .statusRequest => 425
  | .bootVerify => 426
  | .attestationReport => 427
  | .siteRetire => 340
  | .rowSpareRemap => 430
  | .governorStep => 433
  | .thermalRecovery => 435
  | .thermalShutdown => 435
  | .thermalThrottle => 435
  | _ => 0

end Sys2Proof.Machine
end

