-- ==== Sys2Proof/Machine/State.lean ====
section
/-! DEFINITION. The state of a module as plain data, the reasons a step can stop, and the state after reset. INVENTORY.md lists
every item with the rule that names it and its reset value. -/

namespace Sys2Proof.Machine

/-- The reasons the machine stops. -/
inductive Fault where
  /-- The safe state of R425: cores are halted and only the management port answers; raised by `step` when no management request
  is due. Safe: the hardware halts too. -/
  | safeState
  deriving DecidableEq, Repr

/-- The reasons the model gives no meaning. -/
inductive Refusal where
  /-- An instruction that has no meaning yet, raised by its arm in `exec`. Safe: nothing is claimed of it. -/
  | notModelled (mnemonic : String)
  deriving DecidableEq, Repr

/-- A module (spec/01 to spec/31). Every table is sparse: an unlisted record is at reset. -/
structure State where
  ctxs : Tab Ctx := []
  cores : Tab Core := []
  tiles : Tab Tile := []
  cols : Tab Column := []
  /-- Region control blocks by REGIONID, and blocks prepared for LAUNCH by address (log 6). -/
  regions : Tab Region := []
  rcbs : Tab Region := []
  /-- Bytes by physical address (R188, with WINDOW 0): an unlisted byte is 0, and no listed byte is 0. -/
  mem : Tab Byte := []
  /-- Full words of tile memory, by physical address div 8 (R205). -/
  full : List Nat := []
  /-- Poisoned 128-byte blocks, by physical address div 128 (R267). -/
  poison : List Nat := []
  net : List Packet := []
  nextPkt : Nat := 0
  queues : Tab HostQueue := []
  qtBase : Word := 0
  pageAge : Word := 0
  /-- Host slots: queue mapped, by slot (R326). -/
  slots : Tab Nat := []
  /-- Host memory that the module reads and writes over CXL.io, by host address. -/
  hostMem : Tab Byte := []
  /-- The slot that each umpire core served last (R326). -/
  umpLast : Tab Nat := []
  /-- Queues that wait for a slot, with their wake stores (R327). -/
  pendWakes : List (Nat × Nat) := []
  /-- Multi-module launches, by 2^32·coordinator + number, and the next number. -/
  launches : Tab LaunchSt := []
  nextLaunch : Nat := 0
  ports : Tab CxlPort := []
  module : Nat := 0
  time : Nat := 0
  /-- TIME copy in correction: ticks to hold still (positive) or to gain (negative) (R86). -/
  slew : Int := 0
  /-- CYCPERTICK as the governor wrote it last (R434). -/
  cptBase : BitVec 32 := 0x2B333
  /-- Bring-up (R424): phases done; safe state; failure record; boot image fetched; verified image digests. -/
  bootPhase : Nat := 0
  safe : Bool := false
  failRec : Option FailRec := none
  bootImage : Option (List Byte) := none
  verified : List Word := []
  /-- The harvest count of phase 2, and the address at which the verified image entered umpire core 0 of column 0. -/
  harvested : Nat := 0
  umpirePc : Option Word := none
  /-- Requests to the tier engines that wait, in order of arrival: the object of each (R269). -/
  tierQ : List (Nat × Instr × Ev) := []
  /-- Cores that owe a stop record, by fault domain (R415). -/
  owed : Tab (List Nat) := []
  /-- Multi-module stop messages held for a dead link (R333): module and words. -/
  heldStops : List (Nat × List Word) := []
  /-- The MODEL's own: due events, the operands of the event in hand, the context that issues next, the delays in ticks of the next
  packets of memory accesses (none: performed at once), the pace (cycles and ticks a
  group takes), the group in hand, whether the group wrote BUDGETREM, what a BADD of the group added to it, WDCOUNT as an HBEAT found it, the counter of free values,
  answers given out. -/
  agenda : List (Nat × Instr × Ev) := []
  ev : Ev := {}
  cur : Nat := 0
  delays : List Nat := []
  paceCycles : Nat := 1
  paceTicks : Nat := 1
  grp : Group := {}
  budgetWritten : Bool := false
  budgetGrant : Nat := 0
  /-- WDCOUNT as the group in hand, an HBEAT, found it (R405). -/
  beat : Option Nat := none
  /-- Core cycles since module reset, and the numbers of the next gang and the next task. -/
  cycles : Nat := 0
  nextGang : Nat := 1
  nextTask : Nat := 1
  freeCtr : Nat := 0
  outbox : List Answer := []
  deriving DecidableEq, Repr

/-- The machine right after module reset, before bring-up has run (R424; logs 1 to 10). -/
def State.reset : State := {}

end Sys2Proof.Machine
end

