-- ==== Sys2Proof/Machine/Ops.lean ====
section
/-! DEFINITION. The named operations over contexts, cores, sites, columns, registers and memory bytes; ending a group; taking a
trap and returning from one. -/

namespace Sys2Proof.Machine

/-- The three outcomes of a meaning. -/
abbrev Out := Host.Outcome State Fault Refusal

/-! Records by number. -/

/-- The core of a context, the site of a core or context, the column of a site. -/
def coreOfCtx (c : Nat) : Nat := c / 4
def siteOfCore (k : Nat) : Nat := k / 8
def siteOfCtx (c : Nat) : Nat := c / 32
def colOfSite (t : Nat) : Nat := t / 1440
def txOf (t : Nat) : Nat := t % 1440 % 40
def tyOf (t : Nat) : Nat := t % 1440 / 40
def siteId (col tx ty : Nat) : Nat := 1440 * col + 40 * ty + tx

def State.ctxAt (s : State) (c : Nat) : Ctx := tget s.ctxs c {}
def State.setCtxAt (s : State) (c : Nat) (x : Ctx) : State := { s with ctxs := tput s.ctxs c x }
def State.coreAt (s : State) (k : Nat) : Core := tget s.cores k {}
def State.setCoreAt (s : State) (k : Nat) (x : Core) : State := { s with cores := tput s.cores k x }
def State.tileAt (s : State) (t : Nat) : Tile := tget s.tiles t {}
def State.setTileAt (s : State) (t : Nat) (x : Tile) : State := { s with tiles := tput s.tiles t x }
def State.colAt (s : State) (c : Nat) : Column := tget s.cols c {}
def State.setColAt (s : State) (c : Nat) (x : Column) : State := { s with cols := tput s.cols c x }

/-- The context in hand, its core, site and column. -/
def State.ctx (s : State) : Ctx := s.ctxAt s.cur
def State.setCtx (s : State) (x : Ctx) : State := s.setCtxAt s.cur x
def State.coreNo (s : State) : Nat := coreOfCtx s.cur
def State.siteNo (s : State) : Nat := siteOfCtx s.cur
def State.colNo (s : State) : Nat := colOfSite s.siteNo
def State.core (s : State) : Core := s.coreAt s.coreNo
def State.setCore (s : State) (x : Core) : State := s.setCoreAt s.coreNo x
def State.tile (s : State) : Tile := s.tileAt s.siteNo
def State.setTile (s : State) (x : Tile) : State := s.setTileAt s.siteNo x

/-- The region control block of a REGIONID; a region that does not exist has every field 0 (log 6). -/
def State.regionAt (s : State) (r : Word) : Region := tget s.regions r.toNat { id := r }
def State.setRegion (s : State) (x : Region) : State := { s with regions := tput s.regions x.id.toNat x }

/-- LTILE of the task in a context (R81). -/
def Ctx.ltile (c : Ctx) : Nat := bits c.taskinfo 32 14

/-- The tables of a logical tile on a site. -/
def tabKey (region : Word) (ltile : Nat) : Nat := region.toNat * 2 ^ 14 + ltile
def Tile.tabsOf (t : Tile) (region : Word) (ltile : Nat) : TileTabs := tget t.tabs (tabKey region ltile) {}
def Tile.setTabs (t : Tile) (region : Word) (ltile : Nat) (x : TileTabs) : Tile :=
  { t with tabs := tput t.tabs (tabKey region ltile) x }

/-- The tables of the logical tile that the context in hand runs on. -/
def State.myTabs (s : State) : TileTabs := s.tile.tabsOf s.ctx.region s.ctx.ltile
def State.setMyTabs (s : State) (x : TileTabs) : State := s.setTile (s.tile.setTabs s.ctx.region s.ctx.ltile x)

/-! Registers (R65, R75). g0 reads 0 and m0 all ones; writes to them are discarded and mark nothing. -/

def Ctx.rg (c : Ctx) (r : Nat) : Word := if r = 0 then 0 else tget c.g r 0
def Ctx.rv (c : Ctx) (r : Nat) : VWord := tget c.v r 0
def Ctx.rmk (c : Ctx) (r : Nat) : Word := if r = 0 then BitVec.allOnes 64 else tget c.m r 0
def Ctx.mark (c : Ctx) (b : Nat) : Ctx := { c with dirty := c.dirty ||| BitVec.ofNat 72 (2 ^ b) }
def Ctx.wg (c : Ctx) (r : Nat) (x : Word) : Ctx :=
  if r = 0 then c else { c with g := tput c.g r x, dirty := c.dirty ||| BitVec.ofNat 72 (2 ^ (r - 1)) }
def Ctx.wv (c : Ctx) (r : Nat) (x : VWord) : Ctx :=
  { c with v := tput c.v r x, dirty := c.dirty ||| BitVec.ofNat 72 (2 ^ (31 + r)) }
def Ctx.wm (c : Ctx) (r : Nat) (x : Word) : Ctx :=
  if r = 0 then c else { c with m := tput c.m r x, dirty := c.dirty ||| BitVec.ofNat 72 (2 ^ (62 + r)) }

/-- A general register of the context in hand, named by a 5-bit field. -/
def State.rg (s : State) (r : BitVec 5) : Word := s.ctx.rg r.toNat
def State.wg (s : State) (r : BitVec 5) (x : Word) : State := s.setCtx (s.ctx.wg r.toNat x)
def State.rv (s : State) (r : BitVec 5) : VWord := s.ctx.rv r.toNat
def State.wv (s : State) (r : BitVec 5) (x : VWord) : State := s.setCtx (s.ctx.wv r.toNat x)

/-! Free values (log 10). -/

/-- A value the spec leaves open, and the state that has used it up. -/
def State.free (s : State) : Word × State := (Config.freeWord s.freeCtr, { s with freeCtr := s.freeCtr + 1 })

/-! Ending a group. -/

/-- REPSTATE and PC after a group of a REP body (R117), where `base` is the REP word's address and `count` its COUNT. -/
def repNext (r : RepState) (words count : Nat) (base : Word) : RepState × Word :=
  let off := r.offset.toNat + words
  if r.group.toNat + 1 = r.n.toNat then
    if r.pass.toNat + 1 = count then ({}, base + BitVec.ofNat 64 (4 * off))
    else ({ r with pass := r.pass + 1, group := 0, offset := 1 }, base + 4)
  else ({ r with group := r.group + 1, offset := BitVec.ofNat 6 off }, base + BitVec.ofNat 64 (4 * off))

/-- The context after its group has run to its end (R47, R117, R119). -/
def Ctx.finish (c : Ctx) (g : Group) : Ctx :=
  if c.rep.active && !c.inTrap then
    let words := (g.npc - g.pc0).toNat / 4
    let base := g.pc0 - BitVec.ofNat 64 (4 * c.rep.offset.toNat)
    let r := repNext c.rep words g.repCount base
    { c with rep := r.1, pc := r.2, dirty := c.dirty ||| BitVec.ofNat 72 (2 ^ 71) }
  else { c with pc := g.npc }

/-- End the group in hand. -/
def State.finish (s : State) : State := s.setCtx (s.ctx.finish s.grp)

/-- The meaning ends: the next state, the group run to its end. -/
def done (s : State) : Out := .next s.finish

/-- A transfer to `t`: pending prefixes are cleared because a new group starts there (R50). -/
def jumpTo (s : State) (t : Word) : Out := .next (s.setCtx { s.ctx with pc := t })

/-- End the group with gD written (R65). -/
def writeG (s : State) (d : BitVec 5) (x : Word) : Out := done (s.wg d x)

/-- STATE of the fault domain of a region in a column (R414). -/
def State.domainState (s : State) (col : Nat) (region : Word) : Nat :=
  (tget (s.colAt col).dstat (s.regionAt region).fdom {}).st.toNat
/-- The fault domain of a region is stopped (R415, R416). -/
def State.domainStopped (s : State) (col : Nat) (region : Word) : Bool := s.domainState col region != 0

/-! Traps (R408 to R410). -/

/-- The cause codes of R73. -/
def cILLEGAL : BitVec 8 := 0x01
def cPFX_ORPHAN : BitVec 8 := 0x02
def cFETCH_GUARD : BitVec 8 := 0x03
def cPRIVILEGE : BitVec 8 := 0x04
def cALIGN : BitVec 8 := 0x05
def cPAGE : BitVec 8 := 0x06
def cPROTECT : BitVec 8 := 0x07
def cOWNER : BitVec 8 := 0x08
def cLAYOUT : BitVec 8 := 0x09
def cPOISON : BitVec 8 := 0x0A
def cOVERRUN : BitVec 8 := 0x0B
def cENGINE_OVERRUN : BitVec 8 := 0x0C
def cFP : BitVec 8 := 0x0D
def cINT_DIV : BitVec 8 := 0x0E
def cSYSCALL : BitVec 8 := 0x0F
def cBREAK : BitVec 8 := 0x10
def cROLE : BitVec 8 := 0x11
def cGANG : BitVec 8 := 0x12
def cSTOPPED : BitVec 8 := 0x13
def cWATCHDOG : BitVec 8 := 0x14

/-- The level a trap is taken at (R408): true for M. -/
def Ctx.trapsToM (c : Ctx) : Bool := c.inTrap || c.priv != 0

/-- The context after trap entry (R409). -/
def Ctx.enterTrap (c : Ctx) (svec mvec : Word) (cause : BitVec 8) (val pc : Word) (decode engine : Bool)
    (work : Option WorkId) : Ctx :=
  { c with
    ntrap := if c.inTrap then c.trap else c.ntrap
    ntrapWork := if c.inTrap then c.trapWork else c.ntrapWork
    trap := { cause := cause, pc := pc, val := val, ppriv := c.priv, decode := decode, engine := engine, nested := c.inTrap }
    trapWork := work
    priv := if c.trapsToM then 2 else 1
    inTrap := true
    pc := if c.trapsToM then mvec else svec
    wait := none
    fetchWait := false
    st := .issuing }

/-- The group trapped instead of completing. -/
def Ctx.tookTrap (c : Ctx) (pc0 svec mvec : Word) : Bool :=
  c.inTrap && c.trap.pc == pc0 && (c.pc == svec || c.pc == mvec)

/-- MVEC of a column (R408); its bits [1:0] read as zero. -/
def State.mvecOf (s : State) (col : Nat) : Word := (s.colAt col).mvec.getD Config.romStub &&& ~~~ 3

/-- The nine columns. -/
def columns : List Nat := List.range 9

/-- The safe state (R425), with its failure record: every CXL port is untrained and every module link down. -/
def State.enterSafe (s : State) (r : FailRec) : State :=
  let s := columns.foldl (fun s c => s.setColAt c { s.colAt c with linksUp := (List.range 4).map fun l => (l, false) }) s
  { s with safe := true, failRec := some r, ports := s.ports.map fun p => (p.1, { p.2 with trained := false }) }

/-- The mask ROM's trap stub (R408, R425): a failure record with PHASE 5, UNIT 5, and the safe state. -/
def State.stub (s : State) (col : Nat) (cause : BitVec 8) (pc : Word) : State :=
  s.enterSafe { phase := 5, unit := 5, column := col, detail := BitVec.ofNat 64 (cause.toNat * 2 ^ 24 + bits pc 0 24), time := s.time }

/-- CYCPERTICK of a core (R83, R434). -/
def State.cpt (s : State) (k : Nat) : BitVec 32 := (s.coreAt k).cycPerTick.getD s.cptBase

/-- Take a trap on context `c` (R408, R409). -/
def State.enterTrapAt (s : State) (c : Nat) (cause : BitVec 8) (val pc : Word) (decode engine : Bool)
    (work : Option WorkId) : State :=
  let x := s.ctxAt c
  let col := colOfSite (siteOfCtx c)
  let s' := s.setCtxAt c (x.enterTrap (s.coreAt (coreOfCtx c)).svec (s.mvecOf col) cause val pc decode engine work)
  if x.trapsToM && (s.colAt col).mvec.isNone then s'.stub col cause pc else s'

/-- The group in hand traps: TRAPPC is its pc0 (R49, R410). -/
def State.enterTrap (s : State) (cause : BitVec 8) (val : Word) : State :=
  s.enterTrapAt s.cur cause val s.grp.pc0 false false none

/-- A synchronous trap of the instruction itself. -/
def trap (s : State) (cause : BitVec 8) (val : Word) : Out := .next (s.enterTrap cause val)

/-- A trap raised while the group is decoded (R47, R74). -/
def State.decodeTrap (s : State) (cause : BitVec 8) (val pc : Word) : State :=
  s.enterTrapAt s.cur cause val pc true false none

/-- A stall gives way at its boundary (R61, R62): a kind-W wait is abandoned, and a context stalled on a response stands at a
boundary. `step` lets it give way only once no wait is met in the same tick (R63). -/
def Ctx.release (c : Ctx) : Ctx := if c.st = .stalled && !c.saving then { c with wait := none, fetchWait := false, st := .issuing } else c

/-- Hold an asynchronous trap on context `c` until a group boundary (R410). -/
def State.holdTrap (s : State) (c : Nat) (h : HeldTrap) : State :=
  let x := s.ctxAt c
  s.setCtxAt c { x with held := x.held ++ [h] }

/-- The context after the return from a trap (R122). -/
def Ctx.trapReturned (c : Ctx) : Ctx :=
  if c.trap.nested then { c with priv := c.trap.ppriv, trap := c.ntrap, trapWork := c.ntrapWork, pc := c.trap.pc }
  else { c with priv := c.trap.ppriv, inTrap := false, trapWork := none, pc := c.trap.pc }

/-- The return from a trap (R122), its checks in their order; `k` goes on with the state after it and the work of the trap. -/
def State.trapReturn (s : State) (k : State → Option WorkId → Out) : Out :=
  let c := s.ctx
  if c.priv = 0 then trap s cPRIVILEGE s.grp.wpc
  else if c.inTrap = false || c.trap.ppriv = 3 then trap s cILLEGAL s.grp.wpc
  else if c.trap.ppriv.toNat > c.priv.toNat then trap s cPRIVILEGE s.grp.wpc
  else if bits c.trap.pc 0 2 ≠ 0 then trap s cALIGN c.trap.pc
  else k (s.setCtx c.trapReturned) c.trapWork

/-! Memory bytes (R4, R188). -/

/-- The byte at a physical address. -/
def memGet (m : Tab Byte) (a : Nat) : Byte := tget m a 0

/-- Write a byte, keeping the canonical form: ascending addresses, no listed byte equal to what an unlisted one reads as. -/
def memPut (m : Tab Byte) (a : Nat) (v : Byte) : Tab Byte := if v = 0 then tdel m a else tput m a v

/-- The canonical form of the memory table. -/
def memWf : Tab Byte → Bool
  | [] => true
  | [p] => p.2 != 0
  | p :: q :: r => p.2 != 0 && decide (p.1 < q.1) && memWf (q :: r)

/-- `n` bytes from address `a` upward. -/
def memRead (m : Tab Byte) (a : Nat) : Nat → List Byte
  | 0 => []
  | n + 1 => memGet m a :: memRead m (a + 1) n

/-- Write bytes from address `a` upward. -/
def memWrite (m : Tab Byte) (a : Nat) : List Byte → Tab Byte
  | [] => m
  | v :: r => memWrite (memPut m a v) (a + 1) r

/-- A little-endian number in memory (R4). -/
def State.readNat (s : State) (a n : Nat) : Nat := leNat (memRead s.mem a n)

/-- A 64-bit word in memory. -/
def State.readWord (s : State) (a : Nat) : Word := BitVec.ofNat 64 (s.readNat a 8)

def State.writeBytes (s : State) (a : Nat) (bs : List Byte) : State := { s with mem := memWrite s.mem a bs }
def State.writeNat (s : State) (a n x : Nat) : State := s.writeBytes a (leBytes n x)
def State.writeWord (s : State) (a : Nat) (x : Word) : State := s.writeNat a 8 x.toNat

/-- The physical SPACE 0 address of a global-form address (R192). -/
def globalPhys (a : Word) : Nat := a.toNat % 2 ^ 60

/-- Sort by a key, in ascending order; equal keys keep their order. -/
def insertBy {α : Type} (key : α → Nat) (x : α) : List α → List α
  | [] => [x]
  | y :: r => if key x < key y then x :: y :: r else y :: insertBy key x r
def sortBy {α : Type} (key : α → Nat) (l : List α) : List α := l.foldl (fun acc x => insertBy key x acc) []

/-! The agenda. -/

/-- Make event `e` due at TIME `t`: after the events of that tick whose rules are stated no later (R8). -/
def agendaPut (l : List (Nat × Instr × Ev)) (t : Nat) (e : Instr) (v : Ev) : List (Nat × Instr × Ev) :=
  match l with
  | [] => [(t, e, v)]
  | p :: r =>
    if p.1 < t || (p.1 = t && eventRank p.2.1 ≤ eventRank e) then p :: agendaPut r t e v else (t, e, v) :: p :: r

/-- Event `e` comes about in `dt` ticks. -/
def State.post (s : State) (dt : Nat) (e : Instr) (v : Ev) : State := { s with agenda := agendaPut s.agenda (s.time + dt) e v }

/-- Event `e` comes about at TIME `t`. -/
def State.postAt (s : State) (t : Nat) (e : Instr) (v : Ev) : State := { s with agenda := agendaPut s.agenda t e v }

/-- Drop the events of the agenda that satisfy `p`. -/
def State.unpost (s : State) (p : Instr → Ev → Bool) : State :=
  { s with agenda := s.agenda.filter fun x => !p x.2.1 x.2.2 }

/-- The wait of a kind-W group (R62): the context stalls at pc0. -/
def park (s : State) (i : Instr) : Out :=
  .next (s.setCtx { s.ctx with st := .stalled, wait := some (i, s.grp), fetchWait := false, stallAt := s.time })

/-- A group that waits before issue stands at a boundary and will be issued again (R61). -/
def State.waitIssue (s : State) (i : Instr) : State :=
  s.setCtx { s.ctx with st := .stalled, wait := some (i, s.grp), fetchWait := false, stallAt := s.time }

/-- The context in hand waits to fetch its next group (R391). -/
def State.waitFetch (s : State) : State := s.setCtx { s.ctx with st := .stalled, wait := none, fetchWait := true, stallAt := s.time }

end Sys2Proof.Machine
end

