-- ==== Sys2Proof/Machine/Xlate.lean ====
section
/-! DEFINITION. Address classes, page tables and the translation caches (R187 to R190, R385 to R394). -/

namespace Sys2Proof.Machine

/-- The class of a program address (R187). -/
inductive AClass where
  | role | reserved | global | paged | noncanon
  deriving DecidableEq, Repr

def classOf (a : Word) : AClass :=
  if bits a 50 14 = 2 ^ 14 - 1 then (if bits a 46 4 = 0 then .role else .reserved)
  else if bits a 60 4 = 7 then .global
  else if bits a 56 8 = 0 || bits a 56 8 = 255 then .paged
  else .noncanon

/-- What an access wants of a page (R388 check 4). -/
inductive Want where
  | read | write | both | fetch
  deriving DecidableEq, Repr

/-- The result of a translation. -/
inductive Xres where
  /-- The physical address, and whether the page is served through the constant cache (R387). -/
  | ok (pa : Nat) (konst : Bool)
  | bad (cause : BitVec 8)
  /-- A leaf with V and MOVING (R391), or a table whose home holds accesses: the requester waits. -/
  | moving
  deriving DecidableEq, Repr

/-- TLIFE as it is taken (R385). -/
def Region.tlifeOf (r : Region) : Nat := if 10000 ≤ r.tlife && r.tlife ≤ 2 ^ 24 then r.tlife else 100000

/-- The index of level `l` in an address, and the bytes a leaf there maps (R386). -/
def ptIndex (l va : Nat) : Nat := nbits va (16 + 12 * l) (if l = 3 then 5 else 12)
def ptSize (l : Nat) : Nat := 2 ^ (16 + 12 * l)

/-- What a walk found: a leaf with its two words and level, or the end of the walk. -/
inductive Walk where
  | leaf (l w0 w1 : Nat)
  | bad (cause : BitVec 8)
  /-- A table's home holds accesses: the read of its entry waits (R264, R267, R271). -/
  | held
  deriving DecidableEq, Repr

/-- Checks 2 of R388 on a leaf entry at level `l`. -/
def leafOk (l w0 w1 : Nat) : Bool :=
  l != 3 && nbits w1 12 52 = 0 && nbits w1 4 2 = 0 && (w0 / 2 ^ 16 * 2 ^ 16) % ptSize l = 0 && 1 ≤ nbits w1 6 3 && nbits w1 6 3 ≤ 3

/-- Checks 2 of R388 on a non-leaf entry. -/
def tableOk (w0 w1 : Nat) : Bool := w1 = 0 && nbits w0 60 4 = 0

/-- A walk from the table at `base`, level `l` downward (R386, R388 checks 1 and 2), with the tables that it enters: level, base and
GEN. A level-0 entry that is no leaf leads nowhere and is refused like a bad entry (log 13). -/
def walkFrom (m : Tab Byte) (va : Nat) : Nat → Nat → Walk × List (Nat × Nat × Nat)
  | 0, base =>
    let a := base + 16 * ptIndex 0 va
    let w0 := leNat (memRead m a 8)
    let w1 := leNat (memRead m (a + 8) 8)
    if w0 % 2 = 0 then (.bad cPAGE, [])
    else if nbits w1 11 1 = 1 && leafOk 0 w0 w1 then (.leaf 0 w0 w1, [])
    else (.bad cPROTECT, [])
  | l + 1, base =>
    let a := base + 16 * ptIndex (l + 1) va
    let w0 := leNat (memRead m a 8)
    let w1 := leNat (memRead m (a + 8) 8)
    if w0 % 2 = 0 then (.bad cPAGE, [])
    else if nbits w1 11 1 = 1 then (if leafOk (l + 1) w0 w1 then .leaf (l + 1) w0 w1 else .bad cPROTECT, [])
    else if tableOk w0 w1 then
      let r := walkFrom m va l (w0 / 2 ^ 16 * 2 ^ 16)
      (r.1, (l, w0 / 2 ^ 16 * 2 ^ 16, nbits w0 1 15) :: r.2)
    else (.bad cPROTECT, [])

/-- The walk of an address of a region, from PTROOT (R385, R386). -/
def State.walk (s : State) (region : Word) (va : Nat) : Walk :=
  (walkFrom s.mem va 3 (globalPhys (s.regionAt region).ptRoot)).1

/-- The frame that an address of a region is mapped to. -/
def State.leafFrame (s : State) (region : Word) (va : Nat) : Option Nat :=
  match s.walk region va with
  | .leaf _ w0 _ => some (w0 / 65536)
  | _ => none

/-- The first 64 KiB unit of the page that holds an address. -/
def State.pageUnit (s : State) (region : Word) (va : Nat) : Nat :=
  match s.walk region va with
  | .leaf l _ _ => va / ptSize l * ptSize l / 65536
  | _ => va / 65536

/-- Bonded DRAM that holds new accesses: its column's clock ratio changes (R271), its frame's protection changes (R264), its block is
refetched (R267), or its row is on its way to a spare (R430). -/
def State.dramHolds (s : State) (pa : Nat) : Bool :=
  let c := s.colAt (nbits pa 44 4)
  nbits pa 60 4 = 0 && (c.dramHeld || (tget c.prot (nbits pa 0 44 / 65536) (0, false)).2 || c.refetch.contains (pa / 128) ||
    c.rowBusy.contains (Config.dramRow (pa / 128)))

/-- Check 3 of R388: the space of a leaf's frame. -/
def frameOk (l w0 : Nat) (priv : BitVec 2) : Bool :=
  match nbits w0 60 4 with
  | 0 | 4 => true
  | 3 => l = 0
  | 5 => priv = 2
  | _ => false

/-- Check 4 of R388: rights [3:0] are U, X, W, R of word 1. -/
def rightsOk (rights : Nat) (priv : BitVec 2) (w : Want) : Bool :=
  (priv != 0 || nbits rights 3 1 = 1) &&
  (match w with
   | .read => nbits rights 0 1 = 1
   | .write => nbits rights 1 1 = 1
   | .both => nbits rights 0 1 = 1 && nbits rights 1 1 = 1
   | .fetch => nbits rights 2 1 = 1)

/-- The cached entry that serves an address (R389, R390). -/
def tlbFind (l : List TlbEntry) (region : Word) (va now : Nat) : Option TlbEntry :=
  l.find? fun e => e.region == region && va / 2 ^ e.size == e.vpage && decide (now ≤ e.expiry)

/-- The number of the task that context `c` runs; none where it runs no entry. -/
def State.ownerOf (s : State) (c : Nat) : Option Nat :=
  (s.ctxAt c).slot.bind fun sl => ((s.coreAt (coreOfCtx c)).rq.find? fun e => e.slot == sl).map (·.task)

/-- Put an entry into a cache of `n` entries: expired entries go first, then the oldest (log 14). -/
def tlbPut (l : List TlbEntry) (n now : Nat) (e : TlbEntry) : List TlbEntry :=
  ((l.filter fun x => decide (now ≤ x.expiry) && !(x.region == e.region && x.size == e.size && x.vpage == e.vpage)) ++ [e]).reverse.take n
    |>.reverse

/-- Two entries of a region translate a common address. -/
def TlbEntry.meets (x e : TlbEntry) : Bool :=
  x.region == e.region && decide (x.vpage * 2 ^ x.size < (e.vpage + 1) * 2 ^ e.size) && decide (e.vpage * 2 ^ e.size < (x.vpage + 1) * 2 ^ x.size)

/-- Put a leaf entry into a TLB of `n` entries, in the place of what translated its addresses before (R390). -/
def leafPut (l : List TlbEntry) (n now : Nat) (e : TlbEntry) : List TlbEntry := tlbPut (l.filter fun x => !x.meets e) n now e

/-- Put a leaf entry into a TLB of 256 sets of 8 ways: the set is the page's number modulo 256, and the oldest way of a full set goes
(log 14). -/
def wayPut (l : List TlbEntry) (now : Nat) (e : TlbEntry) : List TlbEntry :=
  let l := l.filter fun x => decide (now ≤ x.expiry) && !x.meets e
  let set := l.filter fun x => x.vpage % 256 == e.vpage % 256
  (if 8 ≤ set.length then l.erase (set.headD e) else l) ++ [e]

def TlbEntry.pa (e : TlbEntry) (va : Nat) : Nat := e.ppage * 2 ^ e.size + va % 2 ^ e.size

/-- The entry that a leaf makes (R389). -/
def tlbOfLeaf (region : Word) (va l w0 w1 : Nat) : TlbEntry :=
  { region := region, vpage := va / ptSize l, ppage := w0 / 2 ^ 16 * 2 ^ 16 / ptSize l, size := 16 + 12 * l,
    rights := nbits w1 0 4, gen := nbits w0 1 15, expiry := 0, konst := nbits w1 9 1 = 1 }

/-! The walk cache (R389, R392): an entry of size 2^(28 + 12 l) names the table of level l that serves its addresses. -/

/-- The deepest cached table for an address: level, base and expiry. -/
def walkStart (c : List TlbEntry) (region : Word) (va now : Nat) : Option (Nat × Nat × Nat) :=
  [0, 1, 2].findSome? fun l =>
    (c.find? fun e => e.region == region && e.size == 28 + 12 * l && va / 2 ^ e.size == e.vpage && decide (now ≤ e.expiry)).map fun e =>
      (l, e.ppage * 65536, e.expiry)

/-- A walk by the walkers of a column: the state with its walk cache filled, what the walk found, and the latest TIME at which what it
found may be used. Its reads are ordinary reads (R392): one waits at a home that holds accesses, and a poisoned block ends it. -/
def State.walkAt (s : State) (col : Nat) (region : Word) (va : Nat) : State × Walk × Nat :=
  let c := s.colAt col
  let exp := s.time + (s.regionAt region).tlifeOf
  let st := (walkStart c.walkCache region va s.time).getD (3, globalPhys (s.regionAt region).ptRoot, exp)
  let r := walkFrom s.mem va st.1 st.2.1
  let reads := (st.2.1 + 16 * ptIndex st.1 va) :: r.2.map fun t => t.2.1 + 16 * ptIndex t.1 va
  if reads.any s.dramHolds then (s, .held, exp)
  else if reads.any fun a => s.poison.contains (a / 128) then (s, .bad cPOISON, exp)
  else
  let exp := Nat.min exp st.2.2
  let put (l : List TlbEntry) (t : Nat × Nat × Nat) : List TlbEntry :=
    tlbPut l 8192 s.time { region := region, vpage := va / 2 ^ (28 + 12 * t.1), ppage := t.2.1 / 65536, size := 28 + 12 * t.1, rights := 0,
                           gen := t.2.2, expiry := exp }
  (if r.2.isEmpty then s else s.setColAt col { c with walkCache := r.2.foldl put c.walkCache }, r.1, exp)

/-- A fresh walk with all checks of R388, and the entry to be cached. -/
def State.freshWalk (s : State) (col : Nat) (region : Word) (priv : BitVec 2) (va : Nat) (w : Want) : State × Xres × Option TlbEntry :=
  match s.walkAt col region va with
  | (s, .held, _) => (s, .moving, none)
  | (s, .bad c, _) => (s, .bad c, none)
  | (s, .leaf l w0 w1, exp) =>
    if nbits w1 10 1 = 1 then (s, .moving, none)
    else if !frameOk l w0 priv then (s, .bad cPROTECT, none)
    else
      let e := { tlbOfLeaf region va l w0 w1 with expiry := exp }
      (s, if rightsOk e.rights priv w then .ok (e.pa va) e.konst else .bad cPROTECT, some e)

/-- Whether a cached entry is good for an access; SPACE 5 is for M only (R388 check 3). -/
def TlbEntry.good (e : TlbEntry) (priv : BitVec 2) (va : Nat) (w : Want) : Bool :=
  rightsOk e.rights priv w && (e.pa va / 2 ^ 60 != 5 || priv = 2)

/-- The page that held a physical address was demoted under R270: an access there draws MOVED. -/
def State.demotedAt (s : State) (pa : Nat) : Bool :=
  (nbits pa 60 4 = 0 || nbits pa 60 4 = 3) && (s.colAt (nbits pa 44 4)).demoted.contains (pa / 65536)

/-- A cached translation that is good for an access; one that MOVED would answer is dropped (R390). -/
def State.tlbHit (s : State) (l : List TlbEntry) (region : Word) (priv : BitVec 2) (va : Nat) (w : Want) : Option TlbEntry :=
  (tlbFind l region va s.time).filter fun e => e.good priv va w && !s.demotedAt (e.pa va)

/-- The tile TLB already waits for a page (R392). -/
def Tile.missing (t : Tile) (region : Word) (va : Nat) : Bool := t.misses.any fun m => m.1 == region && m.2 == va / 65536

/-- The walks of a column in order of arrival, each once: region and page. -/
def Column.walkKeys (c : Column) : List (Word × Nat) :=
  c.walks.foldl (fun acc q => if acc.contains (q.2.1, q.2.2) then acc else acc ++ [(q.2.1, q.2.2)]) []

/-- The pool of a column begins no walk for a page now: one of the page is under way, or 256 walks are (R392). -/
def Column.walkBusy (c : Column) (region : Word) (va : Nat) : Bool := c.walkKeys.contains (region, va / 65536) || decide (256 ≤ c.walkKeys.length)

/-- A task waits for the walk of a page. -/
def Tile.merge (t : Tile) (m : Merged) : Tile := { t with merged := if t.merged.contains m then t.merged else t.merged ++ [m] }

/-- A miss of a site (R389, R392) for the task `who`. A walk that it merged into and that faulted answers it. One that joins a walk under way,
or one that the pool has no room for, waits with it, and one that finds all 32 miss entries taken stalls. Another walks, and at a MOVING leaf
the walk goes on by itself (R391). `fill` puts a new entry into the caches. -/
def State.missAt (s : State) (site : Nat) (who : Option Nat) (region : Word) (priv : BitVec 2) (va : Nat) (w : Want)
    (fill : State → TlbEntry → State) : State × Xres :=
  let t := s.tileAt site
  let m : Merged := { who := who, region := region, page := va / 65536 }
  let walk : Ev := { x := site, y := region.toNat, z := va }
  match (t.merged.find? fun x => x.who == who && x.region == region && x.page == va / 65536).bind (·.fault) with
  | some c => (s.setTileAt site { t with merged := t.merged.filter fun x => !(x.who == who && x.region == region && x.page == va / 65536) }, .bad c)
  | none =>
  if t.missing region va then (s.setTileAt site (t.merge m), .moving)
  else if 32 ≤ t.misses.length then (s, .moving)
  else if (s.colAt (colOfSite site)).walkBusy region va then ((s.setTileAt site (t.merge m)).post 0 .pageWalk walk, .moving)
  else match (s.setTileAt site { t with tlbMiss := t.tlbMiss + 1 }).freshWalk (colOfSite site) region priv va w with
    | (s, .moving, _) => ((s.setTileAt site ((s.tileAt site).merge m)).post 0 .pageWalk walk, .moving)
    | (s, r, none) => (s, r)
    | (s, r, some e) => (fill s e, r)

/-- Put an entry into the TLB of a core, of a site, and of the tile-walk engine of a site (R389). -/
def State.fillCore (s : State) (k : Nat) (e : TlbEntry) : State :=
  s.setCoreAt k { s.coreAt k with tlb := leafPut (s.coreAt k).tlb 64 s.time e }
def State.fillTile (s : State) (site : Nat) (e : TlbEntry) : State :=
  s.setTileAt site { s.tileAt site with tlb := wayPut (s.tileAt site).tlb s.time e }
def State.fillTw (s : State) (site : Nat) (e : TlbEntry) : State :=
  s.setTileAt site { s.tileAt site with twTlb := leafPut (s.tileAt site).twTlb 64 s.time e }

/-- Drop the entries of a page from the TLBs of a core and its site (R390). -/
def State.dropPage (s : State) (k : Nat) (region : Word) (va : Nat) : State :=
  let keep (e : TlbEntry) : Bool := !(e.region == region && va / 2 ^ e.size == e.vpage)
  let s := s.setCoreAt k { s.coreAt k with tlb := (s.coreAt k).tlb.filter keep }
  s.setTileAt (siteOfCore k) { s.tileAt (siteOfCore k) with tlb := (s.tileAt (siteOfCore k)).tlb.filter keep }

/-- Translate a paged address for core `k`: core TLB, tile TLB, walk (R389, R390). The walk takes the place of an entry that is not good for
the access. -/
def State.translateAt (s : State) (k : Nat) (region : Word) (priv : BitVec 2) (va : Nat) (w : Want) : State × Xres :=
  match s.tlbHit (s.coreAt k).tlb region priv va w with
  | some e => (s, .ok (e.pa va) e.konst)
  | none => match s.tlbHit (s.tileAt (siteOfCore k)).tlb region priv va w with
    | some e => (s.fillCore k e, .ok (e.pa va) e.konst)
    | none => (s.dropPage k region va).missAt (siteOfCore k) (s.ownerOf s.cur) region priv va w fun s e => (s.fillCore k e).fillTile (siteOfCore k) e

/-- Translate for the engines of a site, with the privilege U of the task that issued the job (R388, R389). The tile-walk engine has
entries of its own. -/
def State.translateEngine (s : State) (site : Nat) (tw : Bool) (region : Word) (va : Nat) (w : Want) : State × Xres :=
  let t := s.tileAt site
  match s.tlbHit (if tw then t.twTlb else t.tlb) region 0 va w with
  | some e => (s, .ok (e.pa va) e.konst)
  | none =>
    let keep (e : TlbEntry) : Bool := !(e.region == region && va / 2 ^ e.size == e.vpage)
    (s.setTileAt site (if tw then { t with twTlb := t.twTlb.filter keep } else { t with tlb := t.tlb.filter keep })).missAt site none region 0 va w
      fun s e => if tw then s.fillTw site e else s.fillTile site e

/-- Whether the global windows of a region let an access of `n` bytes at a global-form address pass (R394). -/
def gwinOk (ws : List (Word × Word)) (a : Word) (n : Nat) (w : Want) : Bool :=
  ws.any fun p =>
    bit p.1 10 && bits p.1 2 8 = 0 && bit p.1 (11 + bits a 44 4) &&
    (match w with
     | .read | .fetch => bit p.1 0
     | .write => bit p.1 1
     | .both => bit p.1 0 && bit p.1 1) &&
    decide (bits p.1 20 44 * 2 ^ 20 ≤ a.toNat) && decide (a.toNat + n ≤ bits p.1 20 44 * 2 ^ 20 + p.2.toNat)

/-- The global windows of a region: up to eight (R394). -/
def Region.windows (r : Region) : List (Word × Word) := r.gwins.take 8

/-- Whether the DRAM port of a column lets a global-form access of a region pass (R394): by a window that it caches and that has not expired
(R390), or by one of the region's, which it caches then, the oldest of 64 giving way (log 14). -/
def State.gwinPass (s : State) (col : Nat) (region : Word) (a : Word) (n : Nat) (w : Want) : State × Bool :=
  let c := s.colAt col
  let r := s.regionAt region
  if gwinOk ((c.gwinCache.filter fun e => e.region == region && decide (s.time ≤ e.expiry)).map fun e => (e.w0, e.w1)) a n w then (s, true)
  else match r.windows.find? fun p => gwinOk [p] a n w with
    | none => (s, false)
    | some p =>
      let l := c.gwinCache.filter fun e => decide (s.time ≤ e.expiry) && !(e.region == region && e.w0 == p.1 && e.w1 == p.2)
      let e : GwinEntry := { region := region, w0 := p.1, w1 := p.2, expiry := s.time + r.tlifeOf }
      (s.setColAt col { c with gwinCache := (if 64 ≤ l.length then l.drop 1 else l) ++ [e] }, true)

/-! Gleaned capacity (R190, R191) and protection of frames (R263). -/

/-- PROT of the frame that holds a data offset: 0 STRONG, 1 LIGHT, 2 NONE (R263). -/
def Column.protOf (c : Column) (off : Nat) : Nat := (tget c.prot (off / 65536) (0, false)).1

/-- The 8 frames of the 512 KiB data range of gleaned page `g` (R191). -/
def gleanFrames (g : Nat) : List Nat := rangeFrom (8 * g) 8

/-- Whether a DRAM offset exists (R190, R191). -/
def Column.dramOk (c : Column) (off : Nat) : Bool :=
  if off < 0x1800000000 then true
  else if off < 0x1B00000000 then
    let g := (off - 0x1800000000) / 65536
    let o := (off - 0x1800000000) % 65536
    (gleanFrames g).all fun f => if o < 32768 then 1 ≤ (tget c.prot f (0, false)).1 else (tget c.prot f (0, false)).1 = 2
  else false

/-- Whether a physical address (WINDOW included) exists and its site's state lets it be reached (R188 to R190, R193). How many bytes
the devices on memory-mode ports make (R17, R324: up to 16 TiB) the spec leaves open: the model gives SPACE 4 all 2^44 of them, with no
port trained too (log 78). -/
def State.physOk (s : State) (pa : Nat) : Bool :=
  let col := nbits pa 44 4
  let tx := nbits pa 38 6
  let ty := nbits pa 32 6
  let st := (s.tileAt (siteId col tx ty)).st
  match nbits pa 60 4 with
  | 0 => col ≤ 8 && (s.colAt col).dramOk (nbits pa 0 44)
  | 1 => col ≤ 8 && tx ≤ 39 && ty ≤ 35 && nbits pa 28 1 = 0 && st == .compute
  | 2 => col ≤ 8 && tx ≤ 39 && ty ≤ 35 && nbits pa 28 4 = 0 && st == .compute
  | 3 => col ≤ 8 && tx ≤ 39 && ty ≤ 35 && nbits pa 21 11 = 0 && nbits pa 0 21 < 0x180000 && st == .storage
  | 4 => col ≤ 8 && nbits pa 48 12 = s.module
  | 5 => col ≤ 8 && nbits pa 48 12 = s.module
  | _ => false

/-- A column's MODROUTE names a route to the module of an address (R379). -/
def State.routed (s : State) (col pa : Nat) : Bool :=
  nbits pa 48 12 = s.module || nbits (tget (s.colAt col).modRoute (nbits pa 48 12) 0) 8 1 = 1

/-- A port trains again: its accesses wait, or, once 100 ms have passed, fail (R22). -/
def CxlPort.waits (p : CxlPort) : Bool := p.memMode && p.retrainSince.isSome && !p.timedOut
def CxlPort.fails (p : CxlPort) : Bool := p.memMode && p.retrainSince.isSome && p.timedOut

/-- A CXL.mem access that waits for a retraining port, and one that fails (R22). Which port's device holds an offset the spec leaves
open: the model counts every memory-mode port's device as holding each (log 78). -/
def State.cxlWaits (s : State) (pa : Nat) : Bool := nbits pa 60 4 = 4 && s.ports.any fun p => p.2.waits
def State.cxlDead (s : State) (pa : Nat) : Bool := nbits pa 60 4 = 4 && s.ports.any fun p => p.2.fails

/-- Every site of a column is OFF: the column is evacuated (R431). -/
def State.evacuated (s : State) (col : Nat) : Bool := (s.tiles.filter fun t => colOfSite t.1 == col && t.2.st == .off).length = 1440

/-- The site of a SPACE 1, 2 or 3 address. -/
def siteOfPhys (pa : Nat) : Nat := siteId (nbits pa 44 4) (nbits pa 38 6) (nbits pa 32 6)

/-- A raw address: WINDOW cleared in SPACE 1 and 2, and COLUMN in SPACE 4, whose offset counts through the module (R188). -/
def rawPhys (pa : Nat) : Nat :=
  if nbits pa 60 4 = 1 || nbits pa 60 4 = 2 then pa - nbits pa 24 4 * 2 ^ 24
  else if nbits pa 60 4 = 4 then pa - nbits pa 44 4 * 2 ^ 44 else pa

/-- The physical address of byte `off` of a scratchpad or panel store (R188). -/
def spPhys (module site core off : Nat) : Nat :=
  1 * 2 ^ 60 + module * 2 ^ 48 + colOfSite site * 2 ^ 44 + txOf site * 2 ^ 38 + tyOf site * 2 ^ 32 + core * 2 ^ 29 + off
def psPhys (module site off : Nat) : Nat :=
  2 * 2 ^ 60 + module * 2 ^ 48 + colOfSite site * 2 ^ 44 + txOf site * 2 ^ 38 + tyOf site * 2 ^ 32 + off

end Sys2Proof.Machine
end

