-- ==== Sys2Proof/Machine/Fetch.lean ====
section
/-! DEFINITION. Fetching words, the fetch guard, and the decode of an instruction group (R47 to R54, R82, R116 to R118). -/

namespace Sys2Proof.Machine

/-- What the fetch of a word gives. -/
inductive FetchRes where
  | word (w : Nat) (guarded : Bool)
  /-- The page has no execute permission (R47: end of code). -/
  | noExec
  | bad (cause : BitVec 8)
  /-- The fetch waits: its page is MOVING, or its memory holds accesses (R264, R267, R271, R391). -/
  | moving
  deriving DecidableEq, Repr

/-- Whether a descriptor guards the word at `va` (R53). The bitmap's address is taken as a global-form or physical one (log 6). -/
def GuardDesc.guards (g : GuardDesc) (m : Tab Byte) (va : Word) : Bool :=
  let i := (va.toNat - g.base.toNat) / 4
  decide (g.base.toNat ≤ va.toNat) && decide (i < g.len) && (memGet m (globalPhys g.bitmap + i / 8)).getLsbD (i % 8)

/-- The guard descriptors of a region: at most four, with text bases aligned to 128 bytes (R53). -/
def Region.descriptors (r : Region) : List GuardDesc := (r.guards.take 4).map fun g => { g with base := g.base &&& ~~~ 127 }

/-- Regions of the contexts of a core. -/
def State.ctxRegions (s : State) (k : Nat) : List Word :=
  ((rangeFrom (4 * k) 4).filter fun c => (s.ctxAt c).st != .free).map fun c => (s.ctxAt c).region

/-- A core drops its instruction-cache lines with their guard bits, and takes the guard descriptors of regions anew (R53, R124): at an IFENCE,
at the start of a task, and at the restore of a saved one, which R53 does not name (DESIGN CHOICE, log 26). -/
def State.reloadGuards (s : State) (k : Nat) (regions : List Word) : State :=
  s.setCoreAt k { s.coreAt k with icache := [], guards := regions.map fun r => (r, (s.regionAt r).descriptors) }

/-- The guard descriptors by which the core in hand reads a line of a region: those it loaded, or the region's present ones where it has
loaded none of that region, as after an SWR to REGIONID (DESIGN CHOICE, log 26). -/
def State.heldGuards (s : State) (region : Word) : List GuardDesc :=
  ((s.core.guards.find? fun p => p.1 == region).map (·.2)).getD (s.regionAt region).descriptors

/-- The line that holds `va`, read from memory at `pa` with its guard bits: 1 if any covering bit is (R53). The bitmap is read at the fill, so
that a line not in the cache shows a change of it before an IFENCE or a task start (DESIGN CHOICE, log 26). -/
def State.readLine (s : State) (region : Word) (va : Word) (pa : Nat) : ILine :=
  let gs := s.heldGuards region
  let base := pa / 128 * 128
  let vbase := va.toNat / 128 * 128
  { region := region, vline := va.toNat / 128,
    words := (List.range 32).map fun i => s.readNat (base + 4 * i) 4,
    guards := (List.range 32).map fun i => gs.any fun g => g.guards s.mem (BitVec.ofNat 64 (vbase + 4 * i)) }

/-- A line enters an instruction cache of 32 KiB (R12); the oldest line makes room (log 26). -/
def cacheLine (c : List ILine) (l : ILine) : List ILine := (if 256 ≤ c.length then c.drop 1 else c) ++ [l]

/-- A leaf maps `va` without execute permission (R47). -/
def State.noX (s : State) (region : Word) (va : Nat) : Bool :=
  match (s.walkAt s.colNo region va).2.1 with
  | .leaf _ _ w1 => nbits w1 2 1 = 0
  | _ => false

/-- Fetch the word at `va` for the context in hand (R54). Text lies in paged memory (R124): a fetch elsewhere is refused. -/
def State.fetchWord (s : State) (va : Word) : State × FetchRes :=
  if classOf va ≠ .paged then (s, .bad cPROTECT)
  else
    let c := s.ctx
    match s.translateAt s.coreNo c.region c.priv va.toNat .fetch with
    | (s, .bad cause) => (s, if s.noX c.region va.toNat then .noExec else .bad cause)
    | (s, .moving) => (s, .moving)
    | (s, .ok pa _) =>
      let i := va.toNat % 128 / 4
      match s.core.icache.find? fun l => l.region == c.region && l.vline == va.toNat / 128 with
      | some l => (s, .word (l.words.getD i 0) (l.guards.getD i false))
      | none =>
        let pa := rawPhys pa
        if !s.physOk pa || s.cxlDead pa then (s, .bad cPROTECT)
        else if s.cxlWaits pa || s.dramHolds pa then (s, .moving)
        else if s.poison.contains (pa / 128) then (s, .bad cPOISON)
        else
          let l := s.readLine c.region va pa
          (s.setCore { s.core with icache := cacheLine s.core.icache l }, .word (l.words.getD i 0) (l.guards.getD i false))

/-- The prefixes of a group, each with its address. -/
abbrev PfxList := List (Word × Nat)

/-- What the prefix loop of R47 ends with. -/
inductive LoopRes where
  /-- The instruction word and its address, and the prefixes before it. -/
  | instr (pc : Word) (w : Nat) (ps : PfxList)
  | trapped
  | wait
  deriving DecidableEq, Repr

/-- The prefix loop of R47, from the word `w` at `pc` of a group that starts at `pc0`. A next word that is guarded and whose page is not
present raises PAGE: R47 lists its guard test before the fetch, but guard bits come only with a fetched line (R53) (DESIGN CHOICE, log 80). -/
def State.prefixLoop (s : State) (pc0 : Word) : Nat → Word → Nat → PfxList → State × LoopRes
  | 0, pc, _, _ => (s.decodeTrap cILLEGAL pc pc0, .trapped)
  | fuel + 1, pc, w, ps =>
    if w % 4 ≠ 2 then (s, .instr pc w ps)
    else if !legalPrefix w then (s.decodeTrap cILLEGAL pc pc0, .trapped)
    else if ps.length = 3 then (s.decodeTrap cILLEGAL pc pc0, .trapped)
    else
      let nx := pc + 4
      let ps := ps ++ [(pc, w)]
      match s.fetchWord nx with
      | (s, .noExec) => (s.decodeTrap cPFX_ORPHAN nx pc, .trapped)
      | (s, .bad c) => (s.decodeTrap c nx pc0, .trapped)
      | (s, .moving) => (s, .wait)
      | (s, .word v g) =>
        if g then (s.decodeTrap cPFX_ORPHAN nx pc, .trapped)
        else if v % 4 = 2 && ps.any fun p => p.2 / 4 % 64 == v / 4 % 64 then (s.decodeTrap cPFX_ORPHAN nx pc, .trapped)
        else if v % 4 ≠ 2 && controlTransfer v then (s.decodeTrap cPFX_ORPHAN nx pc, .trapped)
        else s.prefixLoop pc0 fuel nx v ps

/-- What the decode of a group ends with. -/
inductive GroupRes where
  | run (i : Instr)
  | trapped
  | wait
  deriving DecidableEq, Repr

/-- COUNT, STRIDE and the stagger mask of a REP word (R116). -/
structure RepWord where
  count : Nat
  stride : Int
  mb : Bool
  ma : Bool
  md : Bool
  deriving DecidableEq, Repr

def repWordOf (w : Nat) : RepWord :=
  { count := w / 2 ^ 18, stride := sint 4 (w / 2 ^ 14), mb := w / 2 ^ 13 % 2 = 1, ma := w / 2 ^ 12 % 2 = 1, md := w / 2 ^ 11 % 2 = 1 }

/-- A 5-bit register field at bit `lo`, moved by `k` modulo 32 (R117). -/
def stagField (w lo : Nat) (k : Int) : Nat :=
  w - nbits w lo 5 * 2 ^ lo + (((nbits w lo 5 : Int) + k).emod 32).toNat * 2 ^ lo

/-- The decoded copy of a word in pass `p` (R117). -/
def stagger (r : RepWord) (p : Nat) (w : Nat) : Nat :=
  let k := r.stride * p
  let w := if r.md then stagField w 8 k else w
  let w := if r.ma then stagField w 13 k else w
  if r.mb then stagField w 18 k else w

/-- Every selected field names a register in the instruction (R118). -/
def stagOk (r : RepWord) (i : Instr) : Bool :=
  let f := regFields i
  (!r.md || f.1) && (!r.ma || f.2.1) && (!r.mb || f.2.2)

/-- The first prefix that the instruction does not accept (R47). -/
def refusedPrefix (i : Instr) (ps : PfxList) : Option Word := (ps.find? fun p => !accepted i p.2).map (·.1)

/-- A 64-bit first word of LD or of a store with U = 1, which names no instruction (R55, R59). -/
def uBad (w : Nat) : Bool := nbits w 25 1 == 1 && [0x8F, 0x93, 0x97, 0x9B, 0x9F].contains (w % 256)

/-- The end of R47: the instruction word `w` at `pc`, assigned, with its extension word, prefixes and reserved fields checked. R118 gives
its two checks of a REP body no place in that order: they stand after the assigned-word check and before the extension word is fetched,
with TRAPVAL the word's address (DESIGN CHOICE, log 80). -/
def State.decodeRest (s : State) (pc0 : Word) (rep : Option RepWord) (pc : Word) (w : Nat) (ps : PfxList) : State × GroupRes :=
  match (decodeLoose w 0).filter fun i => assignedOps i && !uBad w with
  | none =>
    (({ s with grp := { pc0 := pc0, wpc := pc, npc := pc + 4,
                        pfx := ps.foldl (fun acc p => addPrefix acc p.1 p.2) {} } } : State).decodeTrap cILLEGAL pc pc0, .trapped)
  | some i0 =>
    if rep.isSome && controlTransfer w then (s.decodeTrap cILLEGAL pc pc0, .trapped)
    else if rep.any fun r => !stagOk r i0 then (s.decodeTrap cILLEGAL pc pc0, .trapped)
    else
      let w := match rep with
        | some r => stagger r s.ctx.rep.pass.toNat w
        | none => w
      let fin (s : State) (e : Nat) : State × GroupRes :=
        match refusedPrefix i0 ps with
        | some a => (s.decodeTrap cILLEGAL a pc0, .trapped)
        | none =>
          match decode w e with
          | .ok i =>
            ({ s with grp := { pc0 := pc0, wpc := pc, npc := pc + (if w % 4 = 3 then 8 else 4),
                               repCount := (rep.map (·.count)).getD 0,
                               pfx := ps.foldl (fun acc p => addPrefix acc p.1 p.2) {} } }, .run i)
          | _ => (s.decodeTrap cILLEGAL pc pc0, .trapped)
      if w % 4 = 3 then
        match s.fetchWord (pc + 4) with
        | (s, .noExec) => (s.decodeTrap cPROTECT (pc + 4) pc0, .trapped)
        | (s, .bad c) => (s.decodeTrap c (pc + 4) pc0, .trapped)
        | (s, .moving) => (s, .wait)
        | (s, .word e g) => if g then (s.decodeTrap cFETCH_GUARD (pc + 4) pc0, .trapped) else fin s e
      else fin s 0

/-- Decode the group at `pc0` of the context in hand (R47), under REPSTATE (R82, R117 to R119). -/
def State.decodeFrom (s : State) (pc0 : Word) (rep : Option RepWord) : State × GroupRes :=
  match s.fetchWord pc0 with
  | (s, .noExec) => (s.decodeTrap cPROTECT pc0 pc0, .trapped)
  | (s, .bad c) => (s.decodeTrap c pc0 pc0, .trapped)
  | (s, .moving) => (s, .wait)
  | (s, .word w g) =>
    if g then (s.decodeTrap cFETCH_GUARD pc0 pc0, .trapped)
    else match s.prefixLoop pc0 4 pc0 w [] with
      | (s, .trapped) => (s, .trapped)
      | (s, .wait) => (s, .wait)
      | (s, .instr pc w ps) => s.decodeRest pc0 rep pc w ps

/-- REPSTATE with ACTIVE and a value that R82 names as none that a REP leaves. -/
def RepState.bad (r : RepState) : Bool := r.n = 0 || r.n.toNat ≤ r.group.toNat || r.offset = 0

/-- Decode the next group of the context in hand. In a REP body the REP word is read again for its fields: its guard bit is not tested,
and where that fetch fails its cause is taken, with TRAPVAL the REP word's address and TRAPPC the body group's pc0. R82's values of REPSTATE
are tested before an OFFSET above 32, which traps ILLEGAL with TRAPVAL the body group's address (R118): R82 names no such OFFSET, and no rule
orders the two tests (DESIGN CHOICE, log 80). -/
def State.decodeGroup (s : State) : State × GroupRes :=
  let c := s.ctx
  let pc0 := c.pc
  if c.rep.active && !c.inTrap then
    if c.rep.bad then (s.decodeTrap cILLEGAL 16 pc0, .trapped)
    else if 32 < c.rep.offset.toNat then (s.decodeTrap cILLEGAL pc0 pc0, .trapped)
    else
      let base := pc0 - BitVec.ofNat 64 (4 * c.rep.offset.toNat)
      match s.fetchWord base with
      | (s, .word w _) => s.decodeFrom pc0 (some (repWordOf w))
      | (s, .noExec) => (s.decodeTrap cPROTECT base pc0, .trapped)
      | (s, .bad x) => (s.decodeTrap x base pc0, .trapped)
      | (s, .moving) => (s, .wait)
  else s.decodeFrom pc0 none

end Sys2Proof.Machine
end

