-- ==== Sys2Proof/Machine/Operands.lean ====
section
/-! DEFINITION. The operand forms: immediates (R39, R45, R59, R109), the W forms of the integer group (R104), and effective
addresses (R57, R59, R209). -/

namespace Sys2Proof.Machine

/-- The immediate of an I-form word: imm14, or the 38 bits of R45 under an immediate-extension prefix. -/
def immI (p : Prefixes) (i : BitVec 14) : Word :=
  match p.ext with
  | none => sext 64 i
  | some e => sext 64 (e ++ i)

/-- The immediate of the `.L` form (R42, R59). -/
def immL (e : BitVec 32) : Word := sext 64 e

/-- The displacement that an immediate-extension prefix adds in the forms of R57. -/
def disp24 (p : Prefixes) : Word :=
  match p.ext with
  | none => 0
  | some e => sext 64 e

/-- The width of a W form (R104). -/
def widthW (w : BitVec 1) : Nat := if w = 0 then 64 else 32

/-- A source of a signed and of an unsigned function of width 64 or 32 (R104). -/
def srcS (w : BitVec 1) (x : Word) : Int := if w = 0 then x.toInt else (x.setWidth 32).toInt
def srcU (w : BitVec 1) (x : Word) : Nat := if w = 0 then x.toNat else (x.setWidth 32).toNat

/-- The destination value of a W form: the result modulo 2^64, or sext(bits(result,31,0), 32) (R104). -/
def resW (w : BitVec 1) (r : Int) : Word := if w = 0 then BitVec.ofInt 64 r else sext 64 (BitVec.ofInt 32 r)

/-- A shift amount, modulo the width (R104, R106). -/
def shAmt (w : BitVec 1) (x : Word) : Nat := x.toNat % widthW w

/-- The transfer target of a B form and of a J form (R40). -/
def targetB (g : Group) (o : BitVec 14) : Word := g.wpc + 4 * sext 64 o
def targetJ (g : Group) (o : BitVec 24) : Word := g.wpc + 4 * sext 64 o

/-- Address gA + v of an I-form access, gA + (gB << s) + sext(EXT,32) of the 64-bit form (R209), and
gA + (gB << s) + sext(EXT24,24) of the forms of R57. -/
def eaI (s : State) (i : BitVec 14) (a : BitVec 5) : Word := s.rg a + immI s.grp.pfx i
def eaX (s : State) (sh : BitVec 2) (b a : BitVec 5) (e : BitVec 32) : Word := s.rg a + (s.rg b <<< sh.toNat) + immL e
def eaR (s : State) (sh : BitVec 2) (b a : BitVec 5) : Word := s.rg a + (s.rg b <<< sh.toNat) + disp24 s.grp.pfx

/-- The rounding code in force: RMODE.RM when the group's RM is 6 (R30, R128). -/
def State.rmode (s : State) : BitVec 3 := if s.grp.pfx.rm = 6 then s.ctx.rm else s.grp.pfx.rm

end Sys2Proof.Machine
end

