-- ==== Sys2Proof/Machine/Flags.lean ====
section
/-! DEFINITION. The flag registers: raising FPFLAGS and VFLAGS (R76 to R78), FP traps, and integer saturation (R88, R97, R105). -/

namespace Sys2Proof.Machine

/-- The flags of FPFLAGS (R77). -/
def flNX : BitVec 6 := 0x01
def flUF : BitVec 6 := 0x02
def flOF : BitVec 6 := 0x04
def flDZ : BitVec 6 := 0x08
def flNV : BitVec 6 := 0x10
def flSAT : BitVec 6 := 0x20

/-- OR flags into FPFLAGS (R77); the write marks DIRTYMAP.FLAGS (R75). An operation that raises no flag is taken as no write, and marks
nothing (DESIGN CHOICE, log 80). -/
def Ctx.raise (c : Ctx) (f : BitVec 6) : Ctx :=
  if f = 0 then c else { c with fpflags := c.fpflags ||| f, dirty := c.dirty ||| BitVec.ofNat 72 (2 ^ 70) }

def State.raise (s : State) (f : BitVec 6) : State := s.setCtx (s.ctx.raise f)

/-- Raise flags unless the group carries QUIET (R128). -/
def State.raiseQ (s : State) (f : BitVec 6) : State := if s.grp.pfx.quiet then s else s.raise f

/-- The raised flags whose TRAPEN bit is 1 (R76): TRAPEN [4:0] is NV, DZ, OF, UF, NX. -/
def Ctx.trapFlags (c : Ctx) (f : BitVec 6) : BitVec 6 := f &&& c.trapen.setWidth 6

/-- Deliver a flagged result: an enabled flag traps FP with the destination unchanged, even under `.q` (R76, R128). -/
def withFlags (s : State) (f : BitVec 6) (k : State → Out) : Out :=
  if s.ctx.trapFlags f ≠ 0 then trap s cFP ((s.ctx.trapFlags f).setWidth 64) else k (s.raiseQ f)

/-- The lane byte of VFLAGS (R78). -/
def Ctx.raiseLane (c : Ctx) (l : Nat) (f : BitVec 6) : Ctx :=
  if f = 0 then c
  else
    let v : Word := (f.setWidth 64) <<< (8 * (l % 8))
    let c := { c with dirty := c.dirty ||| BitVec.ofNat 72 (2 ^ 70) }
    if l < 8 then { c with vflags0 := c.vflags0 ||| v } else { c with vflags1 := c.vflags1 ||| v }

/-- OR lane flags, a list of (lane, flags), into VFLAGS0 and VFLAGS1. -/
def Ctx.raiseLanes (c : Ctx) : List (Nat × BitVec 6) → Ctx
  | [] => c
  | p :: r => (c.raiseLane p.1 p.2).raiseLanes r

/-- The union of lane flags. -/
def unionFlags (fs : List (Nat × BitVec 6)) : BitVec 6 := fs.foldl (fun acc p => acc ||| p.2) 0

/-- Deliver a vector result with lane flags (R76, R78): an enabled flag traps FP with nothing written. -/
def withLanes (s : State) (fs : List (Nat × BitVec 6)) (k : State → Out) : Out :=
  if s.ctx.trapFlags (unionFlags fs) ≠ 0 then trap s cFP ((s.ctx.trapFlags (unionFlags fs)).setWidth 64)
  else k (if s.grp.pfx.quiet then s else s.setCtx (s.ctx.raiseLanes fs))

/-- Clamp to the signed range of `n` bits (R88), and whether that changed the value. -/
def clampS (n : Nat) (x : Int) : Int × Bool :=
  if x < -(2 ^ (n - 1) : Int) then (-(2 ^ (n - 1) : Int), true)
  else if (2 ^ (n - 1) : Int) ≤ x then ((2 ^ (n - 1) : Int) - 1, true)
  else (x, false)

/-- Clamp to the unsigned range of `n` bits (R88). -/
def clampU (n : Nat) (x : Int) : Int × Bool :=
  if x < 0 then (0, true) else if (2 ^ n : Int) ≤ x then ((2 ^ n : Int) - 1, true) else (x, false)

/-- The value and the flags of an exact signed result: it saturates under `.sat` and wraps otherwise (R104, R105). -/
def satRes (sat : Bool) (w : BitVec 1) (x : Int) : Word × BitVec 6 :=
  if sat then
    let r := clampS (widthW w) x
    (resW w r.1, if r.2 then flSAT else 0)
  else (resW w x, 0)

/-- End the group with an exact signed result of a saturating form. -/
def writeSat (s : State) (w : BitVec 1) (d : BitVec 5) (x : Int) : Out :=
  let r := satRes s.grp.pfx.sat w x
  writeG (s.raise r.2) d r.1

/-- An operand value that the instruction's entry refuses (R55, R109). -/
def illegal (s : State) : Out := trap s cILLEGAL s.grp.wpc

end Sys2Proof.Machine
end

