-- ==== Sys2Proof/Machine/Formats.lean ====
section
/-! DEFINITION. Number formats to the last bit (R87 to R97): decoding, rounding, encoding, and exact arithmetic on decoded values. -/

namespace Sys2Proof.Machine

/-- A floating-point format (R91): width, exponent bits, fraction bits, bias, and whether it has infinities. -/
structure Fmt where
  width : Nat
  ebits : Nat
  mbits : Nat
  bias : Nat
  hasInf : Bool
  deriving DecidableEq, Repr

def F64 : Fmt := ⟨64, 11, 52, 1023, true⟩
def F32 : Fmt := ⟨32, 8, 23, 127, true⟩
def F16 : Fmt := ⟨16, 5, 10, 15, true⟩
def BF16 : Fmt := ⟨16, 8, 7, 127, true⟩
def F8W : Fmt := ⟨8, 5, 2, 15, true⟩
def F8N : Fmt := ⟨8, 4, 3, 8, false⟩

/-- A decoded value: a NaN (signalling or not), an infinity, or ±m·2^e; ±0 has m = 0. -/
inductive FNum where
  | nan (signalling : Bool)
  | inf (neg : Bool)
  | fin (neg : Bool) (m : Nat) (e : Int)
  deriving DecidableEq, Repr

/-- The exponent of the least significant bit of subnormals. -/
def Fmt.qmin (f : Fmt) : Int := 1 - (f.bias : Int) - f.mbits

/-- Decode the bits of a format (R91, R92). -/
def Fmt.decode (f : Fmt) (x : Nat) : FNum :=
  let neg := nbits x (f.width - 1) 1 = 1
  let e := nbits x f.mbits f.ebits
  let m := nbits x 0 f.mbits
  if !f.hasInf && x % 2 ^ f.width = 2 ^ (f.width - 1) then .nan false
  else if f.hasInf && e = 2 ^ f.ebits - 1 then
    (if m = 0 then .inf neg else .nan (nbits x (f.mbits - 1) 1 = 0))
  else if e = 0 then .fin neg m f.qmin
  else .fin neg (2 ^ f.mbits + m) (f.qmin + (e - 1 : Nat))

/-- The canonical NaN (R92). -/
def Fmt.cnan (f : Fmt) : Nat :=
  if f.hasInf then (2 ^ f.ebits - 1) * 2 ^ f.mbits + 2 ^ (f.mbits - 1) else 2 ^ (f.width - 1)

/-- The largest exponent field of a finite value, and the bits of MAXF without sign (R95). -/
def Fmt.emax (f : Fmt) : Nat := if f.hasInf then 2 ^ f.ebits - 2 else 2 ^ f.ebits - 1
def Fmt.maxf (f : Fmt) : Nat := f.emax * 2 ^ f.mbits + (2 ^ f.mbits - 1)
def Fmt.signBit (f : Fmt) (neg : Bool) : Nat := if neg then 2 ^ (f.width - 1) else 0
def Fmt.infBits (f : Fmt) (neg : Bool) : Nat := f.signBit neg + (2 ^ f.ebits - 1) * 2 ^ f.mbits

/-- Number of bits of a number. -/
def bitLen (m : Nat) : Nat := if m = 0 then 0 else Nat.log2 m + 1

/-- Round m·2^e to a multiple of 2^q (R94): the significand and whether it is inexact. Codes: 0 RNE, 1 RTZ, 2 RDN, 3 RUP, 4 RNA, 5 RTO. -/
def roundAt (mode : Nat) (neg : Bool) (m : Nat) (e q : Int) : Nat × Bool :=
  if q ≤ e then (m * 2 ^ (e - q).toNat, false)
  else
    let sh := (q - e).toNat
    let sig := m / 2 ^ sh
    let r := m % 2 ^ sh
    if r = 0 then (sig, false)
    else
      let half := 2 ^ (sh - 1)
      let up := match mode with
        | 0 => decide (half < r) || (r = half && sig % 2 = 1)
        | 1 => false
        | 2 => neg
        | 3 => !neg
        | 4 => decide (half ≤ r)
        | _ => sig % 2 = 0
      (if up then sig + 1 else sig, true)

/-- sig·2^q > m'·2^q' ? -/
def gtScaled (sig : Nat) (q : Int) (m' : Nat) (q' : Int) : Bool :=
  if q' ≤ q then decide (m' < sig * 2 ^ (q - q').toNat) else decide (m' * 2 ^ (q' - q).toNat < sig)

/-- The bits of sig·2^q where it is representable. -/
def Fmt.pack (f : Fmt) (neg : Bool) (sig : Nat) (q : Int) : Nat :=
  if sig = 0 then (if f.hasInf then f.signBit neg else 0)
  else if sig < 2 ^ f.mbits then f.signBit neg + sig
  else if sig < 2 ^ (f.mbits + 1) then f.signBit neg + ((q - f.qmin).toNat + 1) * 2 ^ f.mbits + (sig - 2 ^ f.mbits)
  else f.signBit neg + ((q - f.qmin).toNat + 2) * 2 ^ f.mbits

/-- The result of an overflow (R95). -/
def Fmt.overflow (f : Fmt) (mode : Nat) (sat neg : Bool) : Nat × BitVec 6 :=
  if sat then (f.signBit neg + f.maxf, flSAT ||| flNX)
  else if !f.hasInf then (f.cnan, flOF ||| flNX)
  else
    let toInf := match mode with
      | 0 | 4 => true
      | 2 => neg
      | 3 => !neg
      | _ => false
    (if toInf then f.infBits neg else f.signBit neg + f.maxf, flOF ||| flNX)

/-- Round an exact nonzero value ±m·2^e into a format (R94, R95). -/
def Fmt.roundFin (f : Fmt) (mode : Nat) (sat neg : Bool) (m : Nat) (e : Int) : Nat × BitVec 6 :=
  let q0 := e + bitLen m - (f.mbits + 1 : Nat)
  let r0 := roundAt mode neg m e q0
  if gtScaled r0.1 q0 (2 ^ (f.mbits + 1) - 1) (f.qmin + (f.emax - 1 : Nat)) then f.overflow mode sat neg
  else
    let tiny := gtScaled (2 ^ f.mbits) f.qmin r0.1 q0
    let q := max q0 f.qmin
    let r := roundAt mode neg m e q
    (f.pack neg r.1 q, if r.2 then (if tiny then flUF ||| flNX else flNX) else 0)

/-- Round a value with an exact result of arithmetic, whose infinities stay infinite under SAT (R95, R128). -/
def Fmt.ofArith (f : Fmt) (mode : Nat) (sat : Bool) : FNum → Nat × BitVec 6
  | .nan _ => (f.cnan, 0)
  | .inf neg => (if f.hasInf then f.infBits neg else f.cnan, 0)
  | .fin neg m e => if m = 0 then (f.pack neg 0 0, 0) else f.roundFin mode sat neg m e

/-- Convert a value into a format (R92, R95): the infinities under SAT, F8N's infinities, and signalling NaNs. -/
def Fmt.ofNum (f : Fmt) (mode : Nat) (sat : Bool) : FNum → Nat × BitVec 6
  | .nan s => (f.cnan, if s then flNV else 0)
  | .inf neg => if sat then (f.signBit neg + f.maxf, flSAT) else if f.hasInf then (f.infBits neg, 0) else (f.cnan, flNV)
  | .fin neg m e => if m = 0 then (f.pack neg 0 0, 0) else f.roundFin mode sat neg m e

def FNum.isNan : FNum → Bool
  | .nan _ => true
  | _ => false
def FNum.isSnan : FNum → Bool
  | .nan s => s
  | _ => false
def FNum.isNeg : FNum → Bool
  | .nan _ => false
  | .inf n => n
  | .fin n _ _ => n
def FNum.neg : FNum → FNum
  | .nan s => .nan s
  | .inf n => .inf (!n)
  | .fin n m e => .fin (!n) m e
def FNum.abs : FNum → FNum
  | .nan s => .nan s
  | .inf _ => .inf false
  | .fin _ m e => .fin false m e

/-- NV for signalling operands (R97, R127). -/
def snanFlag (xs : List FNum) : BitVec 6 := if xs.any FNum.isSnan then flNV else 0

/-- Exact sum of finite values (R94): a sum that is exactly zero is +0, and −0 under RDN; two operands −0 give −0. -/
def addFin (mode : Nat) (n1 : Bool) (m1 : Nat) (e1 : Int) (n2 : Bool) (m2 : Nat) (e2 : Int) : FNum :=
  let e := min e1 e2
  let a : Int := (m1 * 2 ^ (e1 - e).toNat : Nat)
  let b : Int := (m2 * 2 ^ (e2 - e).toNat : Nat)
  let x := (if n1 then -a else a) + (if n2 then -b else b)
  if x = 0 then .fin (mode == 2 || (m1 == 0 && m2 == 0 && n1 && n2)) 0 0
  else .fin (decide (x < 0)) x.natAbs e

/-- Sum (R128): NV where infinities of opposite sign meet. -/
def FNum.add (mode : Nat) (a b : FNum) : FNum × BitVec 6 :=
  match a, b with
  | .nan _, _ => (.nan false, snanFlag [a, b])
  | _, .nan _ => (.nan false, snanFlag [a, b])
  | .inf n1, .inf n2 => if n1 == n2 then (.inf n1, 0) else (.nan false, flNV)
  | .inf n, _ => (.inf n, 0)
  | _, .inf n => (.inf n, 0)
  | .fin n1 m1 e1, .fin n2 m2 e2 => (addFin mode n1 m1 e1 n2 m2 e2, 0)

/-- Difference (R128). R94 gives an exact zero difference as +0, and −0 under RDN; its sentence about two −0 operands
is of an addition alone, so (−0) − (+0) is +0 outside RDN. -/
def FNum.sub (mode : Nat) (a b : FNum) : FNum × BitVec 6 :=
  let r := FNum.add mode a b.neg
  match r.1 with
  | .fin _ 0 e => (.fin (mode == 2) 0 e, r.2)
  | _ => r

/-- Product (R127, R128): NV for 0 × ∞. -/
def FNum.mul (a b : FNum) : FNum × BitVec 6 :=
  match a, b with
  | .nan _, _ => (.nan false, snanFlag [a, b])
  | _, .nan _ => (.nan false, snanFlag [a, b])
  | .inf n1, .inf n2 => (.inf (n1 != n2), 0)
  | .inf n1, .fin n2 m _ => if m = 0 then (.nan false, flNV) else (.inf (n1 != n2), 0)
  | .fin n1 m _, .inf n2 => if m = 0 then (.nan false, flNV) else (.inf (n1 != n2), 0)
  | .fin n1 m1 e1, .fin n2 m2 e2 => (.fin (n1 != n2) (m1 * m2) (e1 + e2), 0)

/-- Quotient (R128), carried to 60 bits more than F64 holds, with a last bit that says whether more follows. -/
def FNum.div (a b : FNum) : FNum × BitVec 6 :=
  match a, b with
  | .nan _, _ => (.nan false, snanFlag [a, b])
  | _, .nan _ => (.nan false, snanFlag [a, b])
  | .inf _, .inf _ => (.nan false, flNV)
  | .inf n1, .fin n2 _ _ => (.inf (n1 != n2), 0)
  | .fin n1 _ _, .inf n2 => (.fin (n1 != n2) 0 0, 0)
  | .fin n1 m1 e1, .fin n2 m2 e2 =>
    if m2 = 0 then (if m1 = 0 then (.nan false, flNV) else (.inf (n1 != n2), flDZ))
    else
      let k := 120 + bitLen m2
      let q := m1 * 2 ^ k / m2
      let r := m1 * 2 ^ k % m2
      (.fin (n1 != n2) (2 * q + (if r = 0 then 0 else 1)) (e1 - e2 - (k + 1 : Nat)), 0)

/-- The integer square root of `n`, built bit by bit from bit `i` down onto `r`. -/
def isqrtFrom (n : Nat) : Nat → Nat → Nat
  | 0, r => if (r + 1) * (r + 1) ≤ n then r + 1 else r
  | i + 1, r => isqrtFrom n i (if (r + 2 ^ (i + 1)) * (r + 2 ^ (i + 1)) ≤ n then r + 2 ^ (i + 1) else r)

/-- Square root (R128): NV below −0; sqrt(−0) is −0 (R127). -/
def FNum.sqrt (a : FNum) : FNum × BitVec 6 :=
  match a with
  | .nan s => (.nan false, if s then flNV else 0)
  | .inf n => if n then (.nan false, flNV) else (.inf false, 0)
  | .fin n m e =>
    if m = 0 then (.fin n 0 0, 0)
    else if n then (.nan false, flNV)
    else
      let sh := 130 + (if (e - 130) % 2 = 0 then 0 else 1)
      let x := m * 2 ^ sh
      let r := isqrtFrom x (bitLen x / 2 + 1) 0
      (.fin false (2 * r + (if r * r = x then 0 else 1)) ((e - (sh : Nat)) / 2 - 1), 0)

/-- a × b + c with one rounding (R128). -/
def FNum.fma (mode : Nat) (a b c : FNum) : FNum × BitVec 6 :=
  let p := FNum.mul a b
  if p.2 &&& flNV ≠ 0 then (.nan false, p.2)
  else
    let r := FNum.add mode p.1 c
    (r.1, r.2 ||| snanFlag [a, b, c])

/-- The value of a number that is no NaN, ordered; infinities as large as needed against exponent `e`. -/
def FNum.lt (a b : FNum) : Bool :=
  match a, b with
  | .nan _, _ => false
  | _, .nan _ => false
  | .inf n1, .inf n2 => n1 && !n2
  | .inf n1, .fin _ _ _ => n1
  | .fin _ _ _, .inf n2 => !n2
  | .fin n1 m1 e1, .fin n2 m2 e2 =>
    let e := min e1 e2
    let x : Int := (m1 * 2 ^ (e1 - e).toNat : Nat)
    let y : Int := (m2 * 2 ^ (e2 - e).toNat : Nat)
    decide ((if n1 then -x else x) < (if n2 then -y else y))

/-- Equal in value; −0 equals +0. -/
def FNum.eqv (a b : FNum) : Bool := !a.isNan && !b.isNan && !a.lt b && !b.lt a

def FNum.isZero : FNum → Bool
  | .fin _ m _ => m == 0
  | _ => false

/-- The lesser or greater of two encodings (R129). `x` and `y` are the bits, `big` asks for the greater. -/
def Fmt.minmax (f : Fmt) (big : Bool) (x y : Nat) : Nat × BitVec 6 :=
  let a := f.decode x
  let b := f.decode y
  let fl := snanFlag [a, b]
  let xw := x % 2 ^ f.width
  let yw := y % 2 ^ f.width
  match a.isNan, b.isNan with
  | true, true => (f.cnan, fl)
  | true, false => (yw, fl)
  | false, true => (xw, fl)
  | false, false =>
    let less := a.lt b || (a.eqv b && a.isNeg && !b.isNeg)
    let more := b.lt a || (a.eqv b && b.isNeg && !a.isNeg)
    (if big then (if less then yw else xw) else (if more then yw else xw), fl)

/-- The code of R130: 1 less, 2 equal, 4 greater, 8 unordered. -/
def cmpCode (a b : FNum) : Nat :=
  if a.isNan || b.isNan then 8 else if a.lt b then 1 else if b.lt a then 4 else 2

/-- An integer as a value. -/
def numOfInt (x : Int) : FNum := .fin (decide (x < 0)) x.natAbs 0

/-- Round a finite value to an integer: the integer, and whether it is inexact. -/
def roundInt (mode : Nat) (neg : Bool) (m : Nat) (e : Int) : Int × Bool :=
  let r := roundAt mode neg m e 0
  (if neg then -(r.1 : Int) else r.1, r.2)

/-- Conversion to an integer range [lo, hi] (R96). -/
def FNum.toRange (mode : Nat) (sat : Bool) (lo hi : Int) : FNum → Int × BitVec 6
  | .nan _ => (0, flNV)
  | .inf n => (if n then lo else hi, if sat then flSAT else flNV)
  | .fin n m e =>
    let r := roundInt mode n m e
    if r.1 < lo then (lo, if sat then flSAT else flNV)
    else if hi < r.1 then (hi, if sat then flSAT else flNV)
    else (r.1, if r.2 then flNX else 0)

/-! Sign-magnitude formats (R89, R90). -/

/-- Decode SM8 and SM4 (`n` bits). -/
def smDecode (n x : Nat) : Int :=
  let m : Int := nbits x 0 (n - 1)
  if nbits x (n - 1) 1 = 1 then -m else m

/-- Decode SM2. -/
def sm2Decode (x : Nat) : Int := match x % 4 with
  | 1 => 1
  | 3 => -1
  | _ => 0

/-- The least magnitude bound of the formats: 127, 7, 1. -/
def smMax (n : Nat) : Nat := 2 ^ (n - 1) - 1

/-- Encode an integer into SM8, SM4 or SM2 (`n` bits): the bits, and whether the magnitude was clamped (R90). -/
def smEncode (n : Nat) (v : Int) : Nat × Bool :=
  let mag := Nat.min v.natAbs (smMax n)
  (if v < 0 then 2 ^ (n - 1) + mag else mag, decide (smMax n < v.natAbs))

/-- Encode a floating-point value into a sign-magnitude format (R90, last paragraph); a NaN gives 0 and NV (log 16). -/
def smOfNum (n mode : Nat) : FNum → Nat × BitVec 6
  | .nan _ => (0, flNV)
  | .inf s => (if s then 2 ^ (n - 1) + smMax n else smMax n, flSAT)
  | .fin s m e =>
    let r := roundInt mode s m e
    let q := smEncode n r.1
    (q.1, if q.2 then flSAT else if r.2 then flNX else 0)

/-! Element types of vectors (R56, R143). -/

/-- Size in bytes of a type code. -/
def tSize (t : Nat) : Nat := match t with
  | 0 | 1 => 1
  | 2 | 3 | 6 | 7 => 2
  | _ => 4
def tSigned (t : Nat) : Bool := t = 0 || t = 2 || t = 4
def tFloat (t : Nat) : Bool := t = 6 || t = 7 || t = 8
def tFmt (t : Nat) : Fmt := match t with
  | 6 => F16
  | 7 => BF16
  | _ => F32
/-- Elements of a vector register (R143). -/
def tCount (t : Nat) : Nat := 64 / tSize t

/-- The integer value of an element's bits. -/
def tInt (t x : Nat) : Int := if tSigned t then sint (8 * tSize t) x else (x % 2 ^ (8 * tSize t) : Nat)

/-- Least and greatest value of an integer type. -/
def tLo (t : Nat) : Int := if tSigned t then -(2 ^ (8 * tSize t - 1) : Int) else 0
def tHi (t : Nat) : Int := if tSigned t then (2 ^ (8 * tSize t - 1) : Int) - 1 else (2 ^ (8 * tSize t) : Int) - 1

/-- The bits of an integer result of a type: clamped under SAT, wrapped otherwise (R88). -/
def tOfInt (t : Nat) (sat : Bool) (x : Int) : Nat × BitVec 6 :=
  let w := 8 * tSize t
  if sat && x < tLo t then ((BitVec.ofInt w (tLo t)).toNat, flSAT)
  else if sat && tHi t < x then ((BitVec.ofInt w (tHi t)).toNat, flSAT)
  else ((BitVec.ofInt w x).toNat, 0)

/-! Alias windows (R198 to R201). -/

/-- Stored bits of one element of a decoding window. -/
def winBits (w : Nat) : Nat := match w with
  | 1 | 2 | 10 => 16
  | 6 => 4
  | 7 => 2
  | _ => 8

/-- Decode a stored element to the 32 bits presented (R93, R198). -/
def winDecode (w x : Nat) : Nat := match w with
  | 1 => (F32.ofNum 0 false (F16.decode x)).1
  | 2 => (F32.ofNum 0 false (BF16.decode x)).1
  | 3 => (F32.ofNum 0 false (F8W.decode x)).1
  | 4 => (F32.ofNum 0 false (F8N.decode x)).1
  | 5 => (BitVec.ofInt 32 (smDecode 8 x)).toNat
  | 6 => (BitVec.ofInt 32 (smDecode 4 x)).toNat
  | 7 => (BitVec.ofInt 32 (sm2Decode x)).toNat
  | 8 => (BitVec.ofInt 32 (sint 8 x)).toNat
  | 9 => x % 256
  | 10 => (BitVec.ofInt 32 (sint 16 x)).toNat
  | _ => x

/-- Encode a presented 32-bit value into a window's format (R95, R88, R90, R201, R178): the stored bits and the flags. -/
def winEncode (w mode : Nat) (sat : Bool) (x : Nat) : Nat × BitVec 6 :=
  let v := sint 32 x
  let sm (n : Nat) : Nat × BitVec 6 := let q := smEncode n v; (q.1, if q.2 then flSAT else 0)
  let i (lo hi : Int) (n : Nat) : Nat × BitVec 6 :=
    if sat && v < lo then ((BitVec.ofInt n lo).toNat, flSAT)
    else if sat && hi < v then ((BitVec.ofInt n hi).toNat, flSAT)
    else ((BitVec.ofInt n v).toNat, 0)
  match w with
  | 1 => F16.ofNum mode sat (F32.decode x)
  | 2 => BF16.ofNum mode sat (F32.decode x)
  | 3 => F8W.ofNum mode sat (F32.decode x)
  | 4 => F8N.ofNum mode sat (F32.decode x)
  | 5 => sm 8
  | 6 => sm 4
  | 7 => sm 2
  | 8 => i (-128) 127 8
  | 9 => i 0 255 8
  | 10 => i (-32768) 32767 16
  | _ => (x, 0)

end Sys2Proof.Machine
end

