-- ==== Sys2Proof/Machine/ModRegs.lean ====
section
/-! DEFINITION. Module registers, SPACE 5 (R194): their values on a read. The blocks and registers whose REG numbers the spec gives
are here, and those that Config names (log 28); any other draws an error response. -/

namespace Sys2Proof.Machine

/-- Module-wide coordinates of a site (R8, R374). -/
def mwX (site : Nat) : Nat := colOfSite site % 3 * 40 + txOf site
def mwY (site : Nat) : Nat := colOfSite site / 3 * 36 + tyOf site
def siteOfMw (x y : Nat) : Nat := siteId (3 * (y / 36) + x / 40) (x % 40) (y % 36)

/-- STATE code of a site (R428). -/
def Tile.stateCode (t : Tile) : Nat :=
  match t.leaving with
  | some m => if m.phase = 1 || m.phase = 2 then 5 else (match t.st with | .compute => 0 | .storage => 1 | .routing => 2 | .bullpen => 3 | .off => 4)
  | none => match t.st with | .compute => 0 | .storage => 1 | .routing => 2 | .bullpen => 3 | .off => 4

/-- The escape port of XY routing (R379): 0 local, 1 +x, 2 −x, 3 +y, 4 −y. -/
def xyPort (site d : Nat) : Nat :=
  let dx := d % 120
  let dy := d / 120
  if mwX site < dx then 1 else if dx < mwX site then 2 else if mwY site < dy then 3 else if dy < mwY site then 4 else 0

/-- Word `w` of the escape table of router `r` of column `c` at reset (R379). -/
def escapeReset (c r w : Nat) : Word :=
  mkWord ((List.range 16).map fun j => (4 * j, xyPort (1440 * c + r) (16 * w + j)))

/-- CENSUSCTL, CTHRESH, LTHRESH (R339). -/
def Column.censusCtl (c : Column) : Word :=
  mkWord [(32, c.drainLim), (22, c.lead), (12, c.bullMin), (1, c.maxRecast), (0, b2n c.enable)]
def Column.cthresh (c : Column) : Word := mkWord [(48, c.chi), (32, c.clo), (16, c.shi), (0, c.slo)]
def Column.lthresh (c : Column) : Word := mkWord [(16, c.lhi), (0, c.llo)]

/-- The power governor's register (R433). -/
def Column.governor (c : Column) : Word :=
  mkWord [(48, c.draw), (32, c.limit), (16, c.fstep), (0, b2n c.throttled)]

/-- Express links of router `r` of a column that are live (R378, R379): +x, −x, +y, −y, where its site is ROUTING
and LINK_DEAD has cleared none (R383). -/
def State.exprBits (s : State) (col r : Nat) : Nat :=
  let t := s.tileAt (1440 * col + r)
  if t.st == .routing && !(t.leaving.any fun m => m.phase = 1 || m.phase = 2) then
    let up (d : Nat) (b : Bool) : Nat := b2n (b && !(tget t.links (12 + d) {}).dead)
    8 * up 0 (decide (r % 40 + 4 ≤ 39)) + 4 * up 1 (decide (4 ≤ r % 40)) + 2 * up 2 (decide (r / 40 + 4 ≤ 35)) + up 3 (decide (4 ≤ r / 40))
  else 0

/-- The register of a CXL port (R22, R324). -/
def CxlPort.word (p : CxlPort) : Word := Config.portWord p.memMode p.trained p.heldDown p.rate p.lanes p.protos

/-- The CXL port whose register a REG of BLOCK 0x004 is. -/
def portOfReg (reg : Nat) : Option Nat := (List.range 12).find? fun p => reg == Config.portReg p

/-- A 64-bit module register by column, block and REG; none where no such register is defined. -/
def State.regWord (s : State) (col block reg : Nat) : Option Word :=
  let c := s.colAt col
  match block with
  | 0 =>
    if reg = 0 then some c.censusCtl else if reg = 8 then some c.cthresh else if reg = 0x10 then some c.lthresh
    else if 0x40000000 ≤ reg && reg < 0x40000000 + 8 * 1440 && reg % 8 = 0 then
      let t := s.tileAt (1440 * col + (reg - 0x40000000) / 8)
      some (mkWord [(8, t.faults.toNat), (3, b2n t.shipOff), (0, t.stateCode)])
    else none
  | 1 =>
    if reg = 0 then some c.whistle
    else if 0x10000000 ≤ reg && reg < 0x10000000 + 8 * 4096 && reg % 8 = 0 then
      let d := tget c.dstat ((reg - 0x10000000) / 8) {}
      some (mkWord [(32, d.seq.toNat), (0, d.st.toNat)])
    else if 0x20000000 ≤ reg && reg < 0x20000000 + 8 * 11520 && reg % 8 = 0 then
      some (tget c.savePool ((reg - 0x20000000) / 8) 0)
    else none
  | 2 => if reg = Config.correctedReg then some (BitVec.ofNat 64 c.corrected)
    else if reg = Config.dramRatioReg then some (BitVec.ofNat 64 c.dramRatio)
    else if reg = Config.rowThreshReg then some c.rowThresh else none
  | 3 =>
    if reg < 8 * 1440 && reg % 8 = 0 then some (mkWord [(8, s.exprBits col (reg / 8)), (0, tget c.linkState (reg / 8) 0xFF)])
    else if 0x01000000 ≤ reg && reg < 0x01000000 + 8 * 810 * 1440 && reg % 8 = 0 then
      let i := (reg - 0x01000000) / 8
      some (tget c.escapes i (escapeReset col (i / 810) (i % 810)))
    else if 0x02000000 ≤ reg && reg < 0x02000000 + 8 * 4096 && reg % 8 = 0 then
      some (BitVec.ofNat 64 (tget c.modRoute ((reg - 0x02000000) / 8) 0))
    else if reg = 0x03000000 then some (mkWord [(1, b2n c.injPause), (0, b2n c.injPause)])
    else none
  | 4 =>
    if 0x10000000 ≤ reg && reg < 0x10000000 + 8 * 2 ^ 20 && reg % 8 = 0 then
      some (BitVec.ofNat 64 (tget s.queues ((reg - 0x10000000) / 8) {}).wake)
    else if reg = Config.qtBaseReg then some s.qtBase
    else if reg = Config.pageAgeReg then some s.pageAge
    else (portOfReg reg).map fun p => (tget s.ports p {}).word
  | 6 => if reg = 0 then some (s.colAt 0).governor else none
  | 7 => if reg = 0 then some (s.mvecOf col) else none
  | _ => none

/-- Whether a REG names the protection table (R263): one byte per frame. -/
def protReg (block reg : Nat) : Bool := block = 2 && 0x01000000 ≤ reg && reg < 0x01000000 + 1572864

/-- The byte of a frame in the protection table. -/
def Column.protByte (c : Column) (f : Nat) : Nat :=
  let p := tget c.prot f (0, false)
  p.1 + (if p.2 then 128 else 0)

/-- A byte of SPACE 5. -/
def State.regByte (s : State) (pa : Nat) : Option Byte :=
  let col := nbits pa 44 4
  let block := nbits pa 32 12
  let reg := nbits pa 0 32
  if protReg block reg then some (BitVec.ofNat 8 ((s.colAt col).protByte (reg - 0x01000000)))
  else (s.regWord col block (reg / 8 * 8)).map fun w => BitVec.ofNat 8 (w.toNat / 2 ^ (8 * (reg % 8)))

/-- `n` bytes of SPACE 5, where every one exists. -/
def State.regBytes (s : State) (pa : Nat) : Nat → Option (List Byte)
  | 0 => some []
  | n + 1 => match s.regByte pa, s.regBytes (pa + 1) n with
    | some b, some r => some (b :: r)
    | _, _ => none

end Sys2Proof.Machine
end

