-- ==== Sys2Proof/Machine/Tables.lean ====
section
/-! DEFINITION. The tables of a region that lie in memory (role map R335, leases R348, accounts R280), their images, and the
buffer and channel images (R358, R366). -/

namespace Sys2Proof.Machine

/-- A site named by a word laid out as word 1 of R335; none for COLUMN 0xF. -/
def siteOfWord (w : Word) : Option Nat := if bits w 44 4 = 15 then none else some (siteId (bits w 44 4) (bits w 38 6) (bits w 32 6))
def wordOfSite (t : Option Nat) : Word :=
  match t with
  | none => mkWord [(44, 15)]
  | some t => mkWord [(44, colOfSite t), (38, txOf t), (32, tyOf t)]

/-- A role-map entry (R335). `state`: 0 ACTIVE, 1 NOTICED, 2 LEAVING, 3 VACANT; `role`: 0 COMPUTE, 1 STORAGE, 2 ROUTING. -/
structure RmEntry where
  gen : Nat := 0
  role : Nat := 0
  torole : Nat := 0
  state : Nat := 3
  shared : Bool := false
  leased : Bool := false
  home : Nat := 0
  leaseIx : Nat := 0
  slice : Nat := 0
  nid : Nat := 0
  site : Nat := 0
  next : Option Nat := none
  timemark : Word := 0
  deriving DecidableEq, Repr

def RmEntry.w0 (e : RmEntry) : Word :=
  mkWord [(48, e.gen % 2 ^ 16), (46, e.role), (44, e.torole), (42, e.state), (41, b2n e.shared), (40, b2n e.leased), (38, e.home),
    (32, e.leaseIx), (16, e.slice), (0, e.nid % 2 ^ 16)]

/-- An entry from its words. One that nothing has written is at its reset values: VACANT, GEN 0 (R335, R336). -/
def RmEntry.ofWords (w0 w1 w2 w3 : Word) : RmEntry :=
  if w0 = 0 && w1 = 0 && w2 = 0 && w3 = 0 then {} else
  { gen := bits w0 48 16, role := bits w0 46 2, torole := bits w0 44 2, state := bits w0 42 2, shared := bit w0 41, leased := bit w0 40,
    home := bits w0 38 2, leaseIx := bits w0 32 6, slice := bits w0 16 3, nid := bits w0 0 16, site := (siteOfWord w1).getD 0,
    next := siteOfWord w2, timemark := w3 }

/-- The physical address of entry `l` of a region's role map (R335). -/
def Region.rmAddr (r : Region) (l : Nat) : Nat := globalPhys r.rmBase + 32 * l

/-- The entry for logical tile `l`, from memory; an entry at or beyond N is not in use. -/
def State.rmEntry (s : State) (region : Word) (l : Nat) : RmEntry :=
  let a := (s.regionAt region).rmAddr l
  RmEntry.ofWords (s.readWord a) (s.readWord (a + 8)) (s.readWord (a + 16)) (s.readWord (a + 24))

/-- Write an entry; a VACANT one names no site (R342). -/
def State.setRmEntry (s : State) (region : Word) (l : Nat) (e : RmEntry) : State :=
  let a := (s.regionAt region).rmAddr l
  (((s.writeWord a e.w0).writeWord (a + 8) (wordOfSite (if e.state = 3 then none else some e.site))).writeWord (a + 16) (wordOfSite e.next)).writeWord (a + 24) e.timemark

/-- The entry that the NI of a site has in its cache (R336). -/
def Tile.cachedRm (t : Tile) (region : Word) (l : Nat) : Option RmCache := t.rmCache.find? fun c => c.region == region && c.ltile == l

/-- A cached entry under which a role-space access traps ROLE at once (R196 item 4): VACANT, or STORAGE or ROUTING. -/
def RmCache.noRole (c : RmCache) : Bool := bits c.w0 42 2 = 3 || bits c.w0 46 2 ≠ 0

/-- The map sends an access to entry `l` with ROLE (R196 item 4, R347). -/
def RmEntry.noRole (e : RmEntry) : Bool := e.state == 3 || e.role != 0

/-- An access, a send or ROLE uses the cached entry `l` of the NI of a site (R196, R336): filled on a miss, the least recently used one
replaced; read afresh where the home it names answers MOVED (R347). An entry that already traps ROLE sends no packet that could draw MOVED,
and stays until RMAP REFRESH. -/
def State.fillRm (s : State) (site : Nat) (region : Word) (l : Nat) : State :=
  let t := s.tileAt site
  let e := s.rmEntry region l
  let fresh : RmCache := { region := region, ltile := l, w0 := e.w0, w1 := wordOfSite (if e.state = 3 then none else some e.site) }
  let c := match t.cachedRm region l with
    | some c => if c.noRole || (!e.noRole && (siteOfWord c.w1 == some e.site || decide (s.time < e.timemark.toNat))) then c else fresh
    | none => fresh
  let rest := t.rmCache.filter fun c => !(c.region == region && c.ltile == l)
  s.setTileAt site { t with rmCache := (c :: rest).take 256 }

/-- The cached entry that a send of the site uses (R336), after the fill. -/
def State.niEntry (s : State) (site : Nat) (region : Word) (l : Nat) : RmCache :=
  (((s.fillRm site region l).tileAt site).cachedRm region l).getD { region := region, ltile := l, w0 := 0, w1 := 0 }
def RmCache.site (c : RmCache) : Nat := (siteOfWord c.w1).getD 0
def RmCache.gen (c : RmCache) : Nat := bits c.w0 48 16
def RmCache.vacant (c : RmCache) : Bool := bits c.w0 42 2 = 3

/-- N, the length of a region's role map (R334). -/
def State.rmLen (s : State) (region : Word) : Nat := (s.regionAt region).rmLen

/-- Footprints in bytes (R334). -/
def Region.spFoot (r : Region) : Nat := 4096 * (if r.footSp = 0 then 1 else Nat.min r.footSp 16)
def Region.psFoot (r : Region) : Nat := 16384 * (if r.footPs = 0 then 1 else Nat.min r.footPs 64)

/-- A lease (R348). -/
structure Lease where
  valid : Bool := false
  first : Nat := 0
  count : Nat := 0
  expiry : Word := 0
  deriving DecidableEq, Repr

def Region.leaseAddr (r : Region) (i : Nat) : Nat := globalPhys r.leaseBase + 16 * i
def State.lease (s : State) (region : Word) (i : Nat) : Lease :=
  let a := (s.regionAt region).leaseAddr i
  let w := s.readWord a
  { valid := bit w 63, first := bits w 32 14, count := bits w 0 15, expiry := s.readWord (a + 8) }
def State.setLease (s : State) (region : Word) (i : Nat) (l : Lease) : State :=
  let a := (s.regionAt region).leaseAddr i
  (s.writeWord a (mkWord [(63, b2n l.valid), (32, l.first), (0, l.count)])).writeWord (a + 8) l.expiry

/-- The image of a buffer entry (R366). -/
def Buf.image (b : Buf) : Word :=
  mkWord [(63, b2n b.valid), (62, b2n b.retain), (61, b2n b.inring), (58, b.ring.toNat), (56, b.state.toNat), (52, b.holder.toNat),
    (48, b.window.toNat), (47, b.space.toNat), (44, b.core.toNat), (29, b.size.toNat), (0, b.base.toNat)]

/-- The words of a channel entry (R358). -/
def Channel.w1 (c : Channel) : Word :=
  mkWord [(63, b2n c.valid), (61, c.cls.toNat), (60, b2n c.stage), (59, b2n c.blocked), (0, c.budget.toNat)]
def Channel.ofWords (w0 w1 w2 : Word) : Channel :=
  { handler := w0, valid := bit w1 63, cls := BitVec.ofNat 2 (bits w1 61 2), stage := bit w1 60, blocked := bit w1 59,
    budget := BitVec.ofNat 32 (bits w1 0 32), reldl := BitVec.ofNat 32 (bits w2 0 32) }

/-- A buffer of a tile's tables. -/
def TileTabs.bufAt (t : TileTabs) (h : Nat) : Buf := tget t.buf h {}
def TileTabs.setBuf (t : TileTabs) (h : Nat) (b : Buf) : TileTabs := { t with buf := tput t.buf h b }

/-- Stored bytes of a buffer (R367). -/
def Buf.covers (b : Buf) (space core lo len : Nat) : Bool :=
  b.valid && b.space.toNat == space && (space == 1 || b.core.toNat == core) &&
  decide (lo < b.base.toNat + 64 * b.size.toNat) && decide (b.base.toNat < lo + len)

/-- The lowest-numbered buffer that covers a byte of [lo, lo+len) of a space. -/
def TileTabs.bufOver (t : TileTabs) (space core lo len : Nat) : Option (Nat × Buf) :=
  t.buf.find? fun p => p.2.covers space core lo len

/-- The buffers that cover a byte of [lo, lo+len) of a space, the lowest handle first (R367). -/
def TileTabs.bufsOver (t : TileTabs) (space core lo len : Nat) : List (Nat × Buf) := t.buf.filter fun p => p.2.covers space core lo len

/-- TRAPVAL of OWNER (R73). -/
def ownerVal (h : Nat) (b : Buf) : Word := mkWord [(8, b.holder.toNat), (0, h)]

end Sys2Proof.Machine
end

