-- ==== Sys2Proof/Machine/Access.lean ====
section
/-! DEFINITION. Memory accesses: the checks of R206 in their order, homes (R186, R351), alias windows (R198 to R202), full/empty
bits (R205), error responses and the logs (R245, R246, R248), and the write at a home (R238, R364). -/

namespace Sys2Proof.Machine

/-- Who makes an access: the core whose TLB serves it, region, privilege, logical tile; `phys` under `.phys` (R446); `eng` where
an engine makes it, with the HOLDER codes it accepts (R180, R228, R366). -/
structure Who where
  core : Nat
  /-- The context and agent that a refusal is logged under (R246, R248). -/
  src : Nat := 0
  agent : Nat := 0
  region : Word
  priv : BitVec 2
  ltile : Nat
  phys : Bool := false
  eng : Option (List Nat) := none
  /-- A drain, whose destination may lie in another logical tile (R178, R364). -/
  far : Bool := false
  deriving DecidableEq, Repr

/-- The kind of an access, for the window rules (R200) and the units of R218. -/
inductive AKind where
  | scalar (n : Nat)
  | vec (n : Nat)
  | atomic (n : Nat)
  /-- LDF, LDFE, STF. -/
  | fe
  /-- Bytes of a block that an instruction or engine moves raw. -/
  | block (n : Nat)
  deriving DecidableEq, Repr

def AKind.size : AKind → Nat
  | .scalar n => n
  | .vec n => n
  | .atomic n => n
  | .fe => 8
  | .block n => n

/-- Alignment an access needs (R206 item 1). -/
def AKind.align : AKind → Nat
  | .block _ => 1
  | k => k.size

/-- Where an access lands: the stored byte's physical address (WINDOW 0), the window, the bit offset of a sub-byte element, and
whether the page is constant (R222). -/
structure Loc where
  pa : Nat
  win : Nat := 0
  sub : Nat := 0
  konst : Bool := false
  deriving DecidableEq, Repr

/-- The result of the checks. -/
inductive ARes where
  | ok (l : Loc)
  /-- A trap at the group. -/
  | bad (cause : BitVec 8) (val : Word)
  /-- An error response of the owner (R189, R192, R248, R267). -/
  | err (cause : BitVec 8) (val : Word)
  /-- The access waits (R186, R264, R267, R271, R391). -/
  | hold
  deriving DecidableEq, Repr

/-- Presented extent of a window (R199). -/
def winExtent (space win : Nat) : Nat :=
  (if space = 1 then 0x100000 else 0x10000) * (if win = 0 then 1 else 32 / winBits win)

/-- The stored byte offset and bit offset of presented offset `off` (R199). -/
def winByte (win off : Nat) : Nat := if win = 0 then off else off / 4 * winBits win / 8
def winSub (win off : Nat) : Nat := if win = 0 then 0 else off / 4 * winBits win % 8
/-- Stored bytes an access of `n` presented bytes touches. -/
def winLen (win n : Nat) : Nat := if win = 0 then n else (winBits win + 7) / 8

/-- The kind against a decoding window (R200): `none` where it is accepted. -/
def winRefuses (win : Nat) (k : AKind) (off : Nat) : Option (BitVec 8) :=
  if win = 0 then none
  else match k with
    | .atomic _ => some cPROTECT
    | .fe => some cPROTECT
    | .block _ => some cPROTECT
    | .scalar n => if n = 4 && off % 4 = 0 then none else some cALIGN
    | .vec n => if n = 4 && off % 4 = 0 then none else some cALIGN

/-- The home of byte `off` of a scratchpad (space 0) or panel store (space 1) of a logical tile (R186, R351). A DRAM backing block holds the
scratchpads of cores 0 to 7 and then the panel store: R334 gives its size and no order (DESIGN CHOICE, log 80). -/
def State.homeOf (s : State) (region : Word) (l : Nat) (e : RmEntry) (space core off : Nat) : Nat :=
  let r := s.regionAt region
  match e.home with
  | 0 => if space = 1 then psPhys s.module e.site off else spPhys s.module e.site core off
  | 1 =>
    if space = 1 then psPhys s.module e.site (off + r.psFoot * e.slice) else spPhys s.module e.site core (off + r.spFoot * e.slice)
  | _ =>
    globalPhys r.backBase + l * (8 * r.spFoot + r.psFoot) + (if space = 1 then 8 * r.spFoot + off else core * r.spFoot + off)

/-- A holder of a buffer may use it (R367): the holding core of the tile; an engine obeys R180 and R228 instead, and a drain writes into
buffers of other tiles too (log 37). -/
def holderOk (w : Who) (l : Nat) (b : Buf) : Bool :=
  match w.eng with
  | some hs => (w.far || w.ltile == l) && hs.contains b.holder.toNat
  | none => w.ltile == l && b.holder.toNat == w.core % 8

/-- The move of a site is copying its contents (R342 step 2): role-space accesses wait (R186, R345). -/
def Tile.copying (t : Tile) : Bool := t.leaving.any fun m => m.phase == 2

/-- ROLE of an access to logical tile `l` (R196 item 4): at issue where the NI's entry, cached or read now, says so; where only the map does
by now, the access draws MOVED and the refreshed entry sends no resend (R345, R347). -/
def State.roleFate (s : State) (w : Who) (l : Nat) : Option ARes :=
  let v : Word := BitVec.ofNat 64 l
  match (s.tileAt (siteOfCore w.core)).cachedRm w.region l with
  | some c => if c.noRole then some (.bad cROLE v) else if (s.rmEntry w.region l).noRole then some (.err cROLE v) else none
  | none => if (s.rmEntry w.region l).noRole then some (.bad cROLE v) else none

/-- R196 and R200 for a role-space address: where it lands. -/
def State.roleRes (s : State) (w : Who) (ea : Word) (k : AKind) : ARes :=
  let l := bits ea 32 14
  let core := bits ea 29 3
  let space := bits ea 28 1
  let win := bits ea 24 4
  let off := bits ea 0 24
  let r := s.regionAt w.region
  if space = 1 && core ≠ 0 then .bad cPROTECT ea
  else if 11 ≤ win then .bad cPROTECT ea
  else if r.rmLen ≤ l then .bad cPROTECT ea
  else
    let e := s.rmEntry w.region l
    let t := s.tileAt e.site
    match s.roleFate w l with
    | some r => r
    | none =>
    if (e.state = 2 && t.copying) || t.resetting then .hold
    else
      let b := winByte win off
      let n := winLen win k.size
      if winExtent space win < off + k.size then .bad cPROTECT ea
      else if (e.home ≠ 0 || e.shared) && decide ((if space = 1 then r.psFoot else r.spFoot) < b + n) then .bad cPROTECT ea
      else match winRefuses win k off with
        | some c => .bad c ea
        | none =>
          match ((t.tabsOf w.region l).bufsOver space core b n).find? fun p => !holderOk w l p.2 with
          | some (h, bf) => .bad cOWNER (ownerVal h bf)
          | none => .ok { pa := s.homeOf w.region l e space core b, win := win, sub := winSub win off }

/-- The 128-byte blocks of `n` bytes from an address upward, and whether one of them is poisoned (R267). -/
def blocksOf (pa n : Nat) : List Nat := rangeFrom (pa / 128) ((pa + n - 1) / 128 + 1 - pa / 128)
def State.poisoned (s : State) (pa n : Nat) : Bool := (blocksOf pa (Nat.max 1 n)).any fun b => s.poison.contains b

/-- What a home in memory adds to an access of `n` bytes: holds (R264, R267, R271) and poison (R267). -/
def State.memRes (s : State) (ea : Word) (pa n : Nat) (rd : Bool) (konst : Bool) : ARes :=
  let pa := rawPhys pa
  if (blocksOf pa (Nat.max 1 n)).any fun b => s.dramHolds (128 * b) then .hold
  else if rd && s.poisoned pa n then .err cPOISON ea
  else .ok { pa := pa, konst := konst }

/-- A role-space access (R196), with what a home in DRAM backing adds (R186, R207). -/
def State.roleAcc (s : State) (w : Who) (ea : Word) (k : AKind) (rd : Bool) : ARes :=
  match s.roleRes w ea k with
  | .ok l =>
    if nbits l.pa 60 4 = 0 then
      match s.memRes ea l.pa (winLen l.win k.size) rd false with
      | .ok _ => .ok l
      | r => r
    else .ok l
  | r => r

/-- A physical address (R189, R446): existence, windows, buffers of every tenant of the site, whose port holds it while the tile is in a
reset (R384). Every SPACE 4 access waits while a
memory-mode port retrains, and fails after 100 ms, since no map from offsets to ports is given (log 78). -/
def State.physRes (s : State) (w : Who) (ea : Word) (pa : Nat) (k : AKind) (rd konst : Bool) : ARes :=
  if !s.physOk pa || !s.routed (colOfSite (siteOfCore w.core)) pa then .err cPROTECT ea
  else match nbits pa 60 4 with
    | 0 => if k == .fe then .bad cPROTECT ea else s.memRes ea pa k.size rd konst
    | 3 => if k == .fe then .bad cPROTECT ea else s.memRes ea pa k.size rd konst
    | 4 => match k with
      | .atomic _ => .bad cPROTECT ea
      | .fe => .bad cPROTECT ea
      | _ => if s.cxlDead pa then .err cPROTECT ea else if s.cxlWaits pa then .hold else s.memRes ea pa k.size rd konst
    | 5 => match k with
      | .atomic _ => .bad cPROTECT ea
      | .fe => .bad cPROTECT ea
      | _ => if (s.regBytes pa k.size).isSome then .ok { pa := pa } else .err cPROTECT ea
    | _ =>
      let space := nbits pa 60 4 - 1
      let win := nbits pa 24 4
      let off := nbits pa 0 24
      if 11 ≤ win then .bad cPROTECT ea
      else if winExtent space win < off + k.size then .err cPROTECT ea
      else match winRefuses win k off with
        | some c => .bad c ea
        | none =>
          let b := winByte win off
          let core := nbits pa 29 3
          let t := s.tileAt (siteOfPhys pa)
          let hit := t.tenants.findSome? fun n =>
            let r := s.regionAt n.region
            let base := n.slice * (if space = 1 then r.psFoot else r.spFoot)
            if b < base then none
            else ((t.tabsOf n.region n.ltile).bufsOver space core (b - base) (winLen win k.size)).find? fun p =>
              !(w.eng.isNone && n.region == w.region && w.ltile == n.ltile && p.2.holder.toNat == w.core % 8)
          match hit with
          | some (h, bf) => .bad cOWNER (ownerVal h bf)
          | none => if t.resetting then .hold else .ok { pa := rawPhys pa - off + b, win := win, sub := winSub win off }

/-- The tile memory that a raw physical address belongs to: site, space, core, offset. -/
def tileMemOf (pa : Nat) : Option (Nat × Nat × Nat × Nat) :=
  match pa / 2 ^ 60 with
  | 1 => some (siteOfPhys pa, 0, nbits pa 29 3, nbits pa 0 24)
  | 2 => some (siteOfPhys pa, 1, 0, nbits pa 0 24)
  | _ => none

/-- The home lies outside the tile of a site: the access travels in a stream (R197). -/
def leavesTile (site pa : Nat) : Bool :=
  match tileMemOf pa with
  | some (t, _, _, _) => t != site
  | none => pa / 2 ^ 60 != 5

/-- The checks of a memory group in the order of R206. -/
def State.checks (s : State) (w : Who) (ea : Word) (k : AKind) (want : Want) : State × ARes :=
  let rd := want != .write
  if ea.toNat % k.align ≠ 0 then (s, .bad cALIGN ea)
  else if w.phys then (s, s.physRes w ea ea.toNat k rd false)
  else match classOf ea with
    | .reserved => (s, .bad cPROTECT ea)
    | .noncanon => (s, .bad cPROTECT ea)
    | .role =>
      (if bits ea 32 14 < (s.regionAt w.region).rmLen then s.fillRm (siteOfCore w.core) w.region (bits ea 32 14) else s, s.roleAcc w ea k rd)
    | .global =>
      if k == .fe then (s, .bad cPROTECT ea)
      else if 8 < bits ea 44 4 || s.evacuated (bits ea 44 4) then (s, .err cPROTECT ea)
      else match s.gwinPass (bits ea 44 4) w.region ea k.size want with
        | (s, true) => (s, s.physRes w ea (globalPhys ea) k rd false)
        | (s, false) => (s, .err cPROTECT ea)
    | .paged =>
      if k == .fe then (s, .bad cPROTECT ea)
      else
        match (if w.eng.isSome then s.translateEngine (siteOfCore w.core) (w.eng == some [10]) w.region ea.toNat want
               else s.translateAt w.core w.region w.priv ea.toNat want) with
        | (s, .bad c) => (s, .bad c ea)
        | (s, .moving) => (s, .hold)
        | (s, .ok pa konst) => (s, s.physRes w ea pa k rd konst)

/-- The network interface of the maker of an access injects nothing now, and the access would leave the tile, be it to a module register
(R379, R383). -/
def State.niHolds (s : State) (w : Who) (l : Loc) : Bool :=
  (s.colAt (colOfSite (siteOfCore w.core))).injPause && (leavesTile (siteOfCore w.core) l.pa || l.pa / 2 ^ 60 = 5)

/-- The checks of R206 of an access that is performed in the step that makes it: it waits while its NI injects nothing. -/
def State.resolveNow (s : State) (w : Who) (ea : Word) (k : AKind) (want : Want) : State × ARes :=
  match s.checks w ea k want with
  | (s, .ok l) => if s.niHolds w l then (s, .hold) else (s, .ok l)
  | r => r

/-- The checks of R206. An engine's accesses are performed as it makes them; a core's may go into the mesh as packets. -/
def State.resolve (s : State) (w : Who) (ea : Word) (k : AKind) (want : Want) : State × ARes :=
  if w.eng.isSome then s.resolveNow w ea k want else s.checks w ea k want

/-- The context in hand as the maker of an access. -/
def State.me (s : State) : Who :=
  { core := s.coreNo, src := s.cur, region := s.ctx.region, priv := s.ctx.priv, ltile := s.ctx.ltile, phys := s.grp.pfx.phys }

/-! Reading and writing a location. -/

/-- The presented value of `n` bytes at a location. -/
def State.readLoc (s : State) (l : Loc) (n : Nat) : Nat :=
  if l.win = 0 then
    (if l.pa / 2 ^ 60 = 5 then (s.regBytes l.pa n).elim 0 leNat else s.readNat l.pa n)
  else winDecode l.win (s.readNat l.pa (winLen l.win 4) / 2 ^ l.sub % 2 ^ winBits l.win)

/-- The stored bytes that writing stored value `x` to a location makes: its own bits only (R202). -/
def State.storedBytes (s : State) (l : Loc) (n x : Nat) : List Byte :=
  if l.win = 0 then leBytes n x
  else
    let m := winLen l.win 4
    let old := s.readNat l.pa m
    let b := winBits l.win
    leBytes m (old - old / 2 ^ l.sub % 2 ^ b * 2 ^ l.sub + x % 2 ^ b * 2 ^ l.sub)

/-! Full/empty bits (R205), by stored 8-byte word. -/

def State.isFull (s : State) (pa : Nat) : Bool := s.full.contains (pa / 8)
def State.setFull (s : State) (pa : Nat) (v : Bool) : State :=
  { s with full := if v then sinsert s.full (pa / 8) else s.full.filter fun k => k != pa / 8 }
/-- An engine write sets full every stored word of tile memory that it writes a byte of; `role` where it goes through a role-space
address, whose home may be DRAM backing (R186). -/
def State.setFullRange (s : State) (role : Bool) (pa n : Nat) : State :=
  if (pa / 2 ^ 60 = 1 || pa / 2 ^ 60 = 2 || (role && pa / 2 ^ 60 = 0)) && n ≠ 0 then
    { s with full := (rangeFrom (pa / 8) ((pa + n - 1) / 8 + 1 - pa / 8)).foldl sinsert s.full }
  else s

/-! The logs (R245, R246, R248, R413). -/

/-- log2 of a size for the SIZE field. -/
def sizeCode (n : Nat) : Nat := Nat.min 6 (Nat.log2 n)

/-- The source of what an umpire core does for a command of a queue: its number (4·column + number), queue, command. -/
def hostSrc (q num slot : Nat) : Nat := 36 * (2 ^ 20 * num + q) + slot % 36

/-- Source fields of a trace entry (word 3) for context `c` and agent `ag`; for an umpire core `c` is a `hostSrc`. -/
def State.traceSrc (s : State) (c ag : Nat) : Word :=
  let t := siteOfCtx c
  if ag = 5 then mkWord [(48, s.module % 4096), (41, c % 36 / 4), (34, c % 4), (26, 5)]
  else mkWord [(48, s.module % 4096), (41, mwX t), (34, mwY t), (31, c / 4 % 8), (29, c % 4), (26, ag)]

/-- Append a 32-byte entry to the ring at `base` of 2^k entries (R245, R413). -/
def State.ringPut (s : State) (base : Word) (k : Nat) (ws : List Word) : State :=
  let b := globalPhys base
  let h := s.readWord b
  let a := b + 64 + 32 * (h.toNat % 2 ^ k)
  let s := s.writeWord b (h + 1)
  (ws.foldl (fun (acc : State × Nat) w => (acc.1.writeWord acc.2 w, acc.2 + 8)) (s, a)).1

/-- FLOGK as it is taken (R412). -/
def Region.flogKOf (r : Region) : Nat := Nat.min 20 (Nat.max 8 r.flogK)
def Region.traceKOf (r : Region) : Nat := Nat.min 24 (Nat.max 8 r.traceK)

/-- The port of a home in its column (R246): the router port of a site, or 0 for the column's memory. -/
def portNo (pa : Nat) : Nat := if 1 ≤ nbits pa 60 4 && nbits pa 60 4 ≤ 3 then siteOfPhys pa % 1440 + 1 else 0

/-- PORTCNT of the port of a home. -/
def State.portCount (s : State) (pa : Nat) : Nat := tget (s.colAt (nbits pa 44 4)).portCnt (portNo pa) 0

/-- The physical address that an address names for the log (R246): its home where it is a role-space one, a global-form or physical
one as it is, and of a paged one the page's. A paged address that nothing maps has no home, and stands as it is. -/
def State.logAddr (s : State) (region : Word) (phys : Bool) (ea : Word) : Nat :=
  if phys then rawPhys ea.toNat
  else match classOf ea with
    | .role =>
      if s.rmLen region ≤ bits ea 32 14 then ea.toNat
      else s.homeOf region (bits ea 32 14) (s.rmEntry region (bits ea 32 14)) (bits ea 28 1) (bits ea 29 3) (winByte (bits ea 24 4) (bits ea 0 24))
    | .global => globalPhys ea
    | .paged => match s.walk region ea.toNat with
      | .leaf l w0 _ => rawPhys (w0 / 2 ^ 16 * 2 ^ 16 / ptSize l * ptSize l + ea.toNat % ptSize l)
      | _ => ea.toNat
    | _ => ea.toNat

/-- An entry of the fault log of a region's fault domain (R248, R249, R413): KIND 7, at physical address `pa`. -/
def State.faultEntry (s : State) (region : Word) (src ag pa n cause cls seq time : Nat) : State :=
  if !thas s.regions region.toNat || (s.regionAt region).flogBase = 0 then s
  else
    let r := s.regionAt region
    s.ringPut r.flogBase r.flogKOf
      [BitVec.ofNat 64 time, BitVec.ofNat 64 pa,
       mkWord [(48, seq % 2 ^ 16), (45, cls), (42, 7), (39, sizeCode n), (32, cause), (0, s.portCount pa % 2 ^ 32)], s.traceSrc src ag]

/-- A refused access of a region goes to the fault log, its owner's entry (R248). -/
def State.faultLog (s : State) (region : Word) (src ag : Nat) (addr : Word) (n cause cls : Nat) : State :=
  s.faultEntry region src ag (s.logAddr region false addr) n cause cls 0 s.time

/-- A report that cannot be delivered: ADDR holds the destination word (R451). -/
def State.reportLog (s : State) (region : Word) (src ag : Nat) (dest : Word) (cause : Nat) : State :=
  s.faultEntry region src ag dest.toNat 1 cause 4 0 s.time

/-- The trace ring of a column (R245): TRACEBASE names it by a global-form address, whose COLUMN gives way to the column's own
(log 79). -/
def Region.traceRing (r : Region) (col : Nat) : Word := setField r.traceBase 44 4 col

/-- The entry of a write for a TRACE region (R245), in the ring of the home's column; a home in another module has that module's port and
ring. `kind`: 0 plain, 1 release, 2 atomic, 3 STF, 4 engine write, 5 forwarded,
10 a forwarded atomic. -/
def State.traceWrite (s : State) (region : Word) (src ag pa n kind seq time : Nat) : State :=
  if nbits pa 60 4 ≠ 4 && nbits pa 48 12 ≠ s.module then s else
  let col := nbits pa 44 4
  let c := s.colAt col
  let cnt := s.portCount pa
  let s := s.setColAt col { c with portCnt := tput c.portCnt (portNo pa) (cnt + 1) }
  let r := s.regionAt region
  if !r.trace || r.traceBase = 0 then s
  else s.ringPut (r.traceRing col) r.traceKOf
    [BitVec.ofNat 64 time, BitVec.ofNat 64 pa,
     mkWord [(48, seq % 2 ^ 16), (45, if kind = 5 || 8 ≤ kind then 2 else 1), (42, kind % 8), (39, sizeCode n), (0, cnt % 2 ^ 32)], s.traceSrc src ag]

/-! A new packet. -/

/-- A write whose acknowledgement its source still awaits. -/
def Packet.unacked (p : Packet) : Bool :=
  match p.op with
  | .write | .release | .atomic | .decr | .ackx | .writeAck => true
  | _ => false

/-- A packet of an access of the cores. -/
def Packet.isMem (p : Packet) : Bool := p.unacked || p.op == .read || p.op == .response || p.op == .errResponse

/-- The column of the NI that a packet comes from, and whether it leaves that tile; an umpire core's always does. -/
def Packet.srcCol (p : Packet) : Nat := if p.agent = 5 then p.src % 36 / 4 else colOfSite (siteOfCtx p.src)
def Packet.leaves (p : Packet) : Bool :=
  p.agent == 5 || (if p.isMem then leavesTile (siteOfCtx p.src) p.pa || p.pa / 2 ^ 60 == 5 else p.dst != siteOfCtx p.src)

/-- Give a new packet its number and put it into the mesh, or keep it in its NI while the column's NIs inject nothing (R379, R383). -/
def State.inject (s : State) (p : Packet) : State :=
  { s with net := s.net ++ [{ p with id := s.nextPkt, ni := (s.colAt p.srcCol).injPause && p.leaves }], nextPkt := s.nextPkt + 1 }

def State.pkt (s : State) (id : Nat) : Option Packet := s.net.find? fun p => p.id == id
def State.dropPkt (s : State) (id : Nat) : State := { s with net := s.net.filter fun p => p.id != id }
def State.setPkt (s : State) (id : Nat) (f : Packet → Packet) : State :=
  { s with net := modFirst (fun p => p.id == id) f s.net }

/-! Counted writes (R364). -/

/-- A destination word (R291). -/
def destWord (ltile core ch : Nat) : Word := mkWord [(32, ltile), (29, core), (10, ch)]

/-- A delivery without payload to a channel of a core of a site, on its way (R359, R364). -/
def State.notify (s : State) (site core ch : Nat) (region : Word) (ltile : Nat) (a1 a2 : Word) (src : Nat) : State :=
  let id := s.nextPkt
  (s.inject { id := id, op := .send, dst := site, unit := core, ch := ch, region := region, ltile := ltile, arg1 := a1, arg2 := a2,
              src := src, agent := 4, priv := 2, srcRegion := region, addr := destWord ltile core ch }).post 0 .sendArrival { x := id }

/-- One tile's match table after `n` counted bytes to a buffer: the entries, and the releases (core, channel, ARG, GOT). -/
def matchCount (tabs : TileTabs) (h n : Nat) : TileTabs × List (Nat × Nat × Word × Nat) :=
  let step := fun (acc : Tab MatchE × List (Nat × Nat × Word × Nat)) (p : Nat × MatchE) =>
    if p.2.valid && p.2.buf == h then
      let got := p.2.got + n
      if p.2.count ≤ got then (acc.1 ++ [(p.1, { p.2 with got := got, valid := false })], acc.2 ++ [(p.2.core, p.2.channel, p.2.arg, got)])
      else (acc.1 ++ [(p.1, { p.2 with got := got })], acc.2)
    else (acc.1 ++ [p], acc.2)
  let r := tabs.mtch.foldl step ([], [])
  ({ tabs with mtch := r.1 }, r.2)

/-- A place in the memory of a logical tile: its site, region, logical tile, space, core and offset. -/
structure Spot where
  site : Nat
  region : Word
  ltile : Nat
  space : Nat
  core : Nat
  off : Nat
  deriving DecidableEq, Repr

/-- The places that byte `pa` is, in whatever home R186 gives a logical tile: of each tenant of its site, or in a block of DRAM backing. -/
def State.spots (s : State) (pa : Nat) : List Spot :=
  match tileMemOf pa with
  | some (site, space, core, off) =>
    (s.tileAt site).tenants.filterMap fun t =>
      let r := s.regionAt t.region
      let foot := if space = 1 then r.psFoot else r.spFoot
      let base := t.slice * foot
      if off < base || (t.slice ≠ 0 && foot ≤ off - base) then none
      else some { site := site, region := t.region, ltile := t.ltile, space := space, core := core, off := off - base }
  | none =>
    if nbits pa 60 4 ≠ 0 then []
    else s.regions.filterMap fun p =>
      let r := p.2
      let sz := 8 * r.spFoot + r.psFoot
      let b := globalPhys r.backBase
      let l := (pa - b) / sz
      let o := (pa - b) % sz
      let e := s.rmEntry r.id l
      if r.backBase = 0 || r.ended || pa < b || r.rmLen ≤ l || e.state == 3 || e.home ≠ 2 then none
      else some { site := e.site, region := r.id, ltile := l, space := if o < 8 * r.spFoot then 0 else 1,
                  core := if o < 8 * r.spFoot then o / r.spFoot else 0, off := if o < 8 * r.spFoot then o % r.spFoot else o - 8 * r.spFoot }

/-- A counted write of `n` bytes at `pa` is counted by the match table of each logical tile whose buffer holds its first
byte (R364). -/
def State.countWrite (s : State) (pa n : Nat) : State :=
  (s.spots pa).foldl (fun s p =>
    let tl := s.tileAt p.site
    let tabs := tl.tabsOf p.region p.ltile
    match tabs.bufOver p.space p.core p.off 1 with
    | none => s
    | some (h, _) =>
      let m := matchCount tabs h n
      let s := s.setTileAt p.site (tl.setTabs p.region p.ltile m.1)
      m.2.foldl (fun s q => s.notify p.site q.1 q.2.1 p.region p.ltile q.2.2.1 (BitVec.ofNat 64 q.2.2.2) (32 * p.site + 4 * q.1)) s) s

/-- A context lies outside the tile that an address belongs to. -/
def State.outsideTile (s : State) (src pa : Nat) : Bool := (s.spots pa).any fun p => p.site != siteOfCtx src

/-- A counted write (R364): a store, an STF or a drain write from outside the tile, or a write of a tile-walk engine, the COPY of a host
command among them (R330); never an atomic. -/
def State.counted (s : State) (src ag pa kind : Nat) : Bool :=
  kind % 8 ≠ 2 && (ag = 3 || (ag = 5 && kind = 4) || (ag ≤ 1 && s.outsideTile src pa))

/-- The bits of byte `b` of memory that a store leaves as they are (R5, R6): the role map and the lease table of a region, which only its
census writes (R335, R348); TAIL, HEAD, SLOT and STATE of a queue descriptor, and its reserved fields, once QTBASE is set (R325). -/
def State.keepMask (s : State) (b : Nat) : Byte :=
  let tabled (base : Word) (n : Nat) : Bool := base ≠ 0 && decide (globalPhys base ≤ b) && decide (b < globalPhys base + n)
  if s.regions.any fun r => !r.2.ended && (tabled r.2.rmBase (32 * r.2.rmCap) || tabled r.2.leaseBase 1024) then 0xFF
  else if tabled s.qtBase (2 ^ 26) then
    match (b / 8 - globalPhys s.qtBase / 8) % 8 with
    | 1 => 0xFF
    | 3 => if b % 8 = 0 then 0x0F else 0xFF
    | _ => 0
  else 0

/-- What byte `b` holds after a store of `x` to it. -/
def State.storedByte (s : State) (b : Nat) (x : Byte) : Byte := (memGet s.mem b &&& s.keepMask b) ||| (x &&& ~~~ s.keepMask b)

/-- The bytes of a store, those of read-only fields kept. -/
def State.storeBytes (s : State) (pa : Nat) (bs : List Byte) : State := s.writeBytes pa (bs.zipIdx.map fun p => s.storedByte (pa + p.2) p.1)

/-! The tier schedule in memory (R265). -/

/-- A schedule entry that is in use (R265). -/
def TierEntry.usable (e : TierEntry) : Bool := (e.tier = 1 || e.tier = 2) && e.column ≤ 8 && e.len ≠ 0

/-- Entry `i` of a region's schedule, as its 32 bytes of memory give it. -/
def State.tierWords (s : State) (r : Region) (i : Nat) : TierEntry :=
  let a := globalPhys r.tierBase + 32 * i
  let w0 := s.readNat a 8
  let w3 := s.readNat (a + 24) 8
  { base := BitVec.ofNat 64 (w0 / 65536 * 65536), tier := nbits w0 4 4, column := nbits w0 0 4, len := nbits (s.readNat (a + 8) 8) 0 32,
    needed := s.readNat (a + 16) 8, hold := nbits w3 32 32, lead := nbits w3 0 32 }

/-- Entry `i` is read again after a store to it: an entry that changes loses its pin, and the new one is fetched when it falls due. -/
def State.syncTier (s : State) (region : Word) (i : Nat) : State :=
  let r := s.regionAt region
  match r.tiers[i]? with
  | none => s
  | some old =>
    let e := s.tierWords r i
    if { old with pinned := false } = e then s
    else
      let s := s.setRegion { r with id := region, tiers := r.tiers.set i e }
      let s := if old.pinned then s.post 0 .tierEvict { x := region.toNat, y := i, z := old.base.toNat / 65536, w := old.len, flag := true } else s
      if e.usable then s.postAt (Nat.max s.time (e.needed - e.lead)) .tierFetchStart { x := region.toNat, y := i } else s

/-- The entries of tier schedules that a write of `n` bytes at `pa` reaches are read again. -/
def State.syncTiers (s : State) (pa n : Nat) : State :=
  (s.regions.filter fun r => !r.2.ended && r.2.tierBase != 0).foldl (fun s r =>
    let b := globalPhys r.2.tierBase
    if pa + n ≤ b || b + 32 * r.2.tiers.length ≤ pa then s
    else (rangeFrom ((pa - b) / 32) ((pa + n - b + 31) / 32 - (pa - b) / 32)).foldl (fun s i => s.syncTier r.2.id i) s) s

/-- A write performed at its home (R238): the bytes, the trace entry, the counted write. -/
def State.writeHome (s : State) (region : Word) (src ag pa : Nat) (bs : List Byte) (kind seq time : Nat) : State :=
  let s := (s.storeBytes pa bs).syncTiers pa bs.length
  let s := if pa % 128 = 0 && 128 ≤ bs.length then { s with poison := s.poison.filter fun b => b != pa / 128 } else s
  let s := s.traceWrite region src ag pa bs.length kind seq time
  if s.counted src ag pa kind then s.countWrite pa bs.length else s

/-- A store to a module register: the register's own effect comes about as an event (R6, R194). -/
def State.regStore (s : State) (pa n x : Nat) : State :=
  s.post 0 .registerWrite { x := pa, y := n, z := s.cur, val := BitVec.ofNat 64 x }

/-- A refused posted access: the trap is held until the issuing context's next group boundary (R192, R207). -/
def State.postedError (s : State) (c : Nat) (cause : BitVec 8) (val : Word) : State :=
  s.holdTrap c { cause := cause, val := val }

/-- The save of the panels of gang `id` of a site is still to come (R67). -/
def State.saveDue (s : State) (site id : Nat) : Bool :=
  s.agenda.any fun p => p.2.1 == .gangPanelSave && p.2.2.x == site && p.2.2.w == id

end Sys2Proof.Machine
end

