-- ==== Sys2Proof/Machine/Lanes.lean ====
section
/-! DEFINITION. Elements of vector and mask registers (R56, R143, R144). -/

namespace Sys2Proof.Machine

/-- Element `e` of `n` bytes of a vector register. -/
def vElem (v : VWord) (n e : Nat) : Nat := nbits v.toNat (8 * n * e) (8 * n)

/-- A vector register with element `e` of `n` bytes replaced. -/
def vSet (v : VWord) (n e x : Nat) : VWord :=
  BitVec.ofNat 512 (v.toNat - vElem v n e * 2 ^ (8 * n * e) + x % 2 ^ (8 * n) * 2 ^ (8 * n * e))

/-- Write the listed (element, value) pairs, in order. -/
def vPut (v : VWord) (n : Nat) : List (Nat × Nat) → VWord
  | [] => v
  | p :: r => vPut (vSet v n p.1 p.2) n r

/-- The mask of the group: a mask register named by the mask-select prefix, or all lanes (R44, R144). -/
def State.maskOf (s : State) : Word := s.ctx.rmk s.grp.pfx.mask.toNat

/-- The enabled elements of a type, ascending. -/
def State.lanesOn (s : State) (t : Nat) : List Nat := (List.range (tCount t)).filter fun e => bit s.maskOf e

end Sys2Proof.Machine
end

