-- ==== Sys2Proof/Machine/Transfer.lean ====
section
/-! DEFINITION. Accesses performed at their homes: scopes (R234), streams and release holds (R239, R240), atomics (R216 to R219),
the packets of accesses under way, and their responses (R207, R288). -/

namespace Sys2Proof.Machine

/-! Scopes. -/

/-- The scratchpad (its core) or panel store (8) of the logical tile of context `c` that a home lies in, in whatever home R186 gives
the tile: its own site, where a tile that shares it is confined to its footprint (R351), its slice, or its block of DRAM backing. -/
def State.tilePart (s : State) (c pa : Nat) : Option Nat :=
  let x := s.ctxAt c
  let r := s.regionAt x.region
  let e := s.rmEntry x.region x.ltile
  match e.home with
  | 2 =>
    let b := globalPhys r.backBase + x.ltile * (8 * r.spFoot + r.psFoot)
    if pa < b || b + 8 * r.spFoot + r.psFoot ≤ pa then none else some (Nat.min 8 ((pa - b) / r.spFoot))
  | h => match tileMemOf pa with
    | some (site, space, core, off) =>
      let foot := if space = 1 then r.psFoot else r.spFoot
      let slice := if h = 1 then e.slice else 0
      if site = siteOfCtx c && ((h = 0 && !e.shared) || (slice * foot ≤ off && off < (slice + 1) * foot)) then
        some (if space = 1 then 8 else core) else none
    | none => none

/-- Whether a home lies in the tile memory of the logical tile of context `c`. -/
def State.tileHome (s : State) (c pa : Nat) : Bool := (s.tilePart c pa).isSome

/-- Whether a home is local to scope `S` of context `c` (R234): each scope contains those before it. -/
def State.scopeHas (s : State) (c scope pa : Nat) : Bool :=
  match scope with
  | 0 => s.tilePart c pa == some (coreOfCtx c % 8)
  | 1 => s.tileHome c pa
  | 2 => s.tileHome c pa || (nbits pa 60 4 != 4 && nbits pa 48 12 == s.module && nbits pa 44 4 == colOfSite (siteOfCtx c))
  | 3 => s.tileHome c pa || nbits pa 48 12 == s.module
  | _ => true

/-! Packets of accesses. -/

/-- The bytes that an access touches at its home overlap [a, a+n). -/
def Packet.overlaps (p : Packet) (a n : Nat) : Bool := decide (a < p.pa + Nat.max 1 p.len) && decide (p.pa < a + Nat.max 1 n)

/-- A write that has not been performed at its home. -/
def Packet.unapplied (p : Packet) : Bool :=
  match p.op with
  | .write | .release | .atomic | .decr | .ackx => true
  | _ => false

/-- An access that is not performed, or not acknowledged. -/
def Packet.underWay (p : Packet) : Bool := p.unacked || p.op == .read

/-- The class of its address (R187); none for a physical one (R446). -/
def Packet.aclass (p : Packet) : Option AClass := if p.phys then none else some (classOf p.addr)

/-- A packet of the task that context `c` runs, whichever context issued it (R250). -/
def State.mine (s : State) (c : Nat) (p : Packet) : Bool :=
  match s.ownerOf c with
  | some t => p.owner == some t
  | none => p.owner.isNone && p.src == c

/-- The home of a role-space packet under the role map as it stands. -/
def State.rehome (s : State) (p : Packet) : Nat :=
  let ea := p.addr
  let l := bits ea 32 14
  s.homeOf p.region l (s.rmEntry p.region l) (bits ea 28 1) (bits ea 29 3) (winByte (bits ea 24 4) (bits ea 0 24))

/-- The home of a packet's location now, which a move of its logical tile changes (R186, R250). -/
def State.homeNow (s : State) (p : Packet) : Nat := if p.aclass = some .role then s.rehome p else p.pa

/-- A stream: the source core and the destination module and column (R239). Accesses that stay in the tile are in none. -/
def streamOf (pa : Nat) : Nat := nbits pa 44 16
def Packet.sameStream (p q : Packet) : Bool :=
  coreOfCtx p.src == coreOfCtx q.src && leavesTile (siteOfCtx p.src) p.pa && leavesTile (siteOfCtx q.src) q.pa && streamOf p.pa == streamOf q.pa

/-- The next sequence number of a stream (R239), 0 for an access that stays in the tile. -/
def State.takeSeq (s : State) (c pa : Nat) : State × Nat :=
  if leavesTile (siteOfCtx c) pa then
    let k := s.coreAt (coreOfCtx c)
    let n := tget k.streams (streamOf pa) 0
    (s.setCoreAt (coreOfCtx c) { k with streams := tput k.streams (streamOf pa) ((n + 1) % 2 ^ 16) }, n)
  else (s, 0)

/-- The next number of the SPAWN-class stream of a core to the column of a site of this module (R239). -/
def State.takeSpawnSeq (s : State) (core dst : Nat) : State × Nat :=
  let k := s.coreAt core
  let key := 2 ^ 16 + s.module % 2 ^ 12 * 16 + colOfSite dst
  let n := tget k.streams key 0
  (s.setCoreAt core { k with streams := tput k.streams key ((n + 1) % 2 ^ 16) }, n)

/-- Accesses of the task of context `c` to its own tile are still under way (R162, R172, R243). -/
def State.tileBusy (s : State) (c : Nat) : Bool := s.net.any fun p => p.underWay && s.mine c p && s.tileHome c (s.homeNow p)

/-- The access is performed in the step that issues it: the model's packets have no delay, the NI injects, and no packet of the core is under
way. -/
def State.atOnce (s : State) (c : Nat) : Bool :=
  s.delays.isEmpty && !(s.colAt (colOfSite (siteOfCtx c))).injPause && !(s.net.any fun p => p.isMem && coreOfCtx p.src == coreOfCtx c)

/-- The delay of the next packet. -/
def State.takeDelay (s : State) : State × Nat :=
  match s.delays with
  | [] => (s, 0)
  | d :: r => ({ s with delays := r }, d)

/-- The event that a packet's arrival at its home is; of a release that stood there, the end of its hold (R240). -/
def Packet.homeEvent (p : Packet) : Instr :=
  match p.op with
  | .read => .readAtHome
  | .write | .writeAck => .writeAtHome
  | .release => if p.arrSeq = 0 then .writeAtHome else .releaseHoldEnd
  | .atomic => .atomicAtUnit
  | .response => .responseArrival
  | .errResponse => .errorResponseArrival
  | .baddGrant => .baddGrant
  | .moved => .movedArrival
  | .send => .sendArrival
  | .kick => .kickArrival
  | .record => .recordArrival
  | .spawn => .spawnArrival
  | .post => .postArrival
  | .decr => .decrAtHome
  | .ackx => .ackxAtHome
  | .twJob => .twpostJobArrival
  | .twPermit => .twpostPermitArrival
  | .twEnd => .twpostEndArrival
  | .lease => .leaseRequest
  | .lrel => .lrelArrival
  | .credit => .ctlCreditRequest
  | .creditRetry => .ctlCreditRetry

/-- The class of a packet (R375): 0 SPAWN, 1 REQ, 2 FWD, 3 RSP, 4 CTL. What stands in class SYS, reports of losses and of the whistle tree,
the model sends as no packet. -/
def Packet.class (p : Packet) : Nat :=
  match p.op with
  | .response | .errResponse | .writeAck | .baddGrant | .moved => 3
  | .read | .write | .release | .atomic | .decr | .ackx => if p.fwd then 2 else 1
  | .send | .kick | .record | .spawn | .post | .twJob | .twPermit | .twEnd => if p.ctl then 4 else if p.fwd then 2 else 0
  | .lease | .lrel | .credit | .creditRetry => 4

/-- A SPAWN-class packet (R375), forwarded ones among them (R345). -/
def Packet.spawnClass (p : Packet) : Bool :=
  match p.op with
  | .send | .kick | .record | .spawn | .post | .twJob | .twPermit | .twEnd => !p.ctl
  | _ => false

/-- The event of a packet's arrival: the home site's router port first (R337); an access that names a logical tile asks the tenancy table
of its own site too, so that one under way when the tile moves is forwarded or answered MOVED (R259, R345). -/
def Packet.arrivalEvent (p : Packet) : Instr :=
  match tileMemOf p.pa with
  | some (t, _, _, _) => if t == siteOfCtx p.src && p.aclass != some .role then p.homeEvent else .portPacketArrival
  | none => p.homeEvent

/-- A packet is a release: a release store, an ACKX, or an atomic with ORDER 2 or 3 (R210, R217, R303). -/
def Packet.isRel (p : Packet) : Bool := p.op == .release || p.op == .ackx || p.rel

/-- An earlier access `q` of the task of `p` that `p` is performed after (R236): it overlaps (row 1), it is an acquire at whose scope `p` is
local (row 3), or both are CORE-local (row 7). Both stand where their locations have their homes now. -/
def State.before (s : State) (q p : Packet) : Bool :=
  let a := s.homeNow q
  let b := s.homeNow p
  (decide (b < a + Nat.max 1 q.len) && decide (a < b + Nat.max 1 p.len)) || q.acq.any (fun sc => s.scopeHas p.src sc b) ||
    (s.scopeHas p.src 0 a && s.scopeHas p.src 0 b)

/-- An access of context `c` to [pa, pa+n) that is performed in this step must wait for an earlier one of its task (R236, R238). -/
def State.mustWait (s : State) (c pa n : Nat) : Bool :=
  s.net.any fun q => q.underWay && s.mine c q && s.before q { id := 0, op := .read, phys := true, src := c, pa := pa, len := n }

/-- What a release `p` waits for beside its stream (R240): the task's reads, its accesses in other streams or in its tile, and the core's
writes that MOVED sent back, until they are acknowledged, each where it is local to the scope. -/
def State.beforeRel (s : State) (q p : Packet) : Bool :=
  s.scopeHas p.src p.scope (s.homeNow q) &&
  ((s.mine p.src q && (q.op == .read || !q.sameStream p)) || (q.noop && coreOfCtx q.src == coreOfCtx p.src))

/-- What a delivery's stream comes from (R239): a core, for what its contexts and its stage logic send, or else the engine, umpire core or NI
that sends it. -/
def streamKey (agent src record : Nat) : Nat × Nat :=
  if agent = 0 || (agent = 4 && record ≠ 0) then (0, coreOfCtx src)
  else if agent = 5 then (5, src % 36) else (agent, if agent = 4 then src else siteOfCtx src)
def Packet.key (p : Packet) : Nat × Nat := streamKey p.agent p.src p.record
def Delivery.key (d : Delivery) : Nat × Nat := streamKey d.agent d.src d.record

/-- 32,767 packets of the stream that came before are not acknowledged: the packet waits in its NI (R239). -/
def State.streamFull (s : State) (p : Packet) : Bool :=
  (p.isMem && decide (32767 ≤ (s.net.filter fun q => q.isMem && decide (q.id < p.id) && q.sameStream p).length)) ||
  (p.spawnClass && decide (32767 ≤ (s.net.filter fun q => q.spawnClass && decide (q.id < p.id) && q.key == p.key && colOfSite q.dst == colOfSite p.dst).length))

/-- Put a memory packet into the mesh, with its holds (R236, R240), and make its arrival due. -/
def State.sendMem (s : State) (p : Packet) (scope : Nat) : State :=
  let p := { p with scope := scope }
  let un := s.net.filter fun q => q.underWay
  let own := un.filter fun q => s.mine p.src q && s.before q p
  let same := if p.isRel then s.net.filter (fun q => q.unapplied && q.sameStream p) else []
  let other := if p.isRel then un.filter (fun q => s.beforeRel q p) else []
  let d := s.takeDelay
  let id := d.1.nextPkt
  (d.1.inject { p with holdFor := same.map (·.id), holdAck := (own ++ other).map (·.id) }).post d.2 p.arrivalEvent { x := id }

/-- A release `p` still waits for `q` of its stream: until it is applied. One that MOVED sent back counts as applied (R240), unless its home
lies in the scope of the release, which then waits for the resend (R259; log 80). -/
def State.streamHold (s : State) (q p : Packet) : Bool := q.unapplied && !(q.noop && !s.scopeHas p.src p.scope (s.homeNow q))

/-- The packets that a packet waits for have been applied, or acknowledged. -/
def State.pktFree (s : State) (p : Packet) : Bool :=
  !(s.net.any fun q => (p.holdFor.contains q.id && s.streamHold q p) || p.holdAck.contains q.id)

/-- The home of a packet holds accesses (R264, R267, R271) or waits for a retraining port (R22). -/
def State.homeHeld (s : State) (pa : Nat) : Bool :=
  s.dramHolds pa || s.cxlWaits pa

/-- A delivery that is held in an inbox of a column, and that came before packet number `num` of the stream of `key` there (R294). -/
def State.heldAhead (s : State) (col : Nat) (key : Nat × Nat) (num : Nat) : Bool :=
  s.cores.any fun k => colOfSite (siteOfCore k.1) == col && k.2.inbox.any fun d =>
    d.refused && !d.ctl && d.key == key && decide (d.num < num)

/-- An earlier SPAWN-class packet of the same stream has not been handed over (R241, R294). -/
def State.streamBlocked (s : State) (p : Packet) : Bool :=
  p.spawnClass && (s.heldAhead (colOfSite p.dst) p.key p.id || s.net.any fun q =>
    q.spawnClass && decide (q.id < p.id) && q.key == p.key && colOfSite q.dst == colOfSite p.dst)

/-- The inbox slots of a core that its deliveries of a class may take (R359): the two highest are for CTL. -/
def Core.slotsFor (k : Core) (ctl : Bool) : List Nat := if ctl then rangeFrom (k.chSize - 2) 2 else List.range (k.chSize - 2)
def Core.slotFree (k : Core) (ctl : Bool) : Option Nat := (k.slotsFor ctl).find? fun i => !k.inbox.any fun d => d.slot == i

/-- A delivery must take a slot, and none is free. -/
def State.slotBlocked (s : State) (p : Packet) : Bool :=
  let k := s.coreAt (8 * p.dst + p.unit)
  match p.op with
  | .send | .kick | .record => p.unit < 8 && k.chSize ≠ 0 && (k.slotFree p.ctl).isNone
  | .spawn | .post => p.len ≠ 0 && k.chSize ≠ 0 && (k.slotFree p.ctl).isNone
  | _ => false

/-- An access to the same bytes that the home has held, and that came first, is still to be performed (R267, R271). -/
def State.overtakes (s : State) (p : Packet) : Bool :=
  s.net.any fun q => (q.op == .read || q.unapplied) && q.arrSeq != 0 && q.id != p.id && (p.arrSeq = 0 || q.arrSeq < p.arrSeq) &&
    q.overlaps p.pa p.len && s.pktFree q

/-- The packet may go on at its home; none may that its source has not let into the mesh yet. -/
def State.mayGo (s : State) (p : Packet) : Bool :=
  s.pktFree p && !p.ni && !s.streamFull p && !(p.isMem && (s.homeHeld p.pa || s.overtakes p)) && !s.streamBlocked p && !s.slotBlocked p

/-- Make the packets that stand at their homes and may go on now come about, in the order in which their homes held them. An access passes
its port again, since its home may have moved meanwhile (R345). -/
def State.wakeHeld (s : State) : State :=
  (sortBy (·.arrSeq) (s.net.filter fun p => p.arrived && s.mayGo p)).foldl
    (fun s p => (s.setPkt p.id fun q => { q with arrived := false }).post 0
      (if p.isMem then p.arrivalEvent else p.homeEvent) { x := p.id }) s

/-- Let a packet stand at its home until it may go on. -/
def State.standBy (s : State) (p : Packet) : State :=
  let n := s.net.foldl (fun n q => Nat.max n q.arrSeq) 0 + 1
  s.setPkt p.id fun q => { q with arrived := true, arrSeq := if q.arrSeq = 0 then n else q.arrSeq }

/-- Consume a packet: what waited for it may go on. -/
def State.consume (s : State) (p : Packet) : State := (s.dropPkt p.id).wakeHeld

/-! Atomics. -/

/-- The value an atomic leaves in memory (R216), for `n` bytes. -/
def amoNew (op n old b expd : Nat) : Nat :=
  let w := 8 * n
  let o := old % 2 ^ w
  let x := b % 2 ^ w
  match op with
  | 0 => (o + x) % 2 ^ w
  | 1 => if sint w o ≤ sint w x then o else x
  | 2 => if sint w o ≤ sint w x then x else o
  | 3 => Nat.min o x
  | 4 => Nat.max o x
  | 5 => o &&& x
  | 6 => o ||| x
  | 7 => o ^^^ x
  | 8 => x
  | 9 => if o = expd % 2 ^ w then x else o
  | _ =>
    let f := if n = 4 then F32 else F64
    (f.ofArith 0 false (FNum.add 0 (f.decode o) (f.decode x)).1).1

/-- Whether a 32-bit atomic's old value is sign-extended (R216). -/
def amoSigned (op : Nat) : Bool := !(op = 3 || op = 4 || op = 10)

/-- A value of `n` bytes extended to a register. -/
def extend (n : Nat) (signed : Bool) (x : Nat) : Word := if signed then BitVec.ofInt 64 (sint (8 * n) x) else BitVec.ofNat 64 (x % 2 ^ (8 * n))

/-- The atomic engine of a home's site counts an atomic (R396), and its round goes on (R219): of core `own` of the site, or from the network. -/
def State.countAtomic (s : State) (pa : Nat) (own : Option Nat) : State :=
  let sp := nbits pa 60 4
  if sp = 1 || sp = 2 || sp = 3 then
    let site := siteOfPhys pa
    let t := s.tileAt site
    s.setTileAt site { t with
      atomics := t.atomics + 1
      atomLast := own.getD t.atomLast
      atomRound := if own.isSome then t.atomRound % 4 + 1 else 0 }
  else s

/-- Perform an atomic (R217): the old value, and the memory changed. The engine of a site counts it (R396). -/
def State.applyAtomic (s : State) (p : Packet) : State × Nat :=
  let old := s.readNat p.pa p.len
  let s := s.writeHome p.region p.src p.agent p.pa (leBytes p.len (amoNew p.aop p.len old p.arg1.toNat p.arg2.toNat))
    (if p.fwd then 10 else 2) p.seq p.time
  (s.countAtomic p.pa (if siteOfCtx p.src = siteOfPhys p.pa then some (coreOfCtx p.src % 8) else none), old)

/-- Perform a write (R238), of a module register as an event (R6): `data` is the stored value, merged into its byte for a sub-byte element (R202). -/
def State.applyWrite (s : State) (p : Packet) : State :=
  if p.pa / 2 ^ 60 = 5 then s.post 0 .registerWrite { x := p.pa, y := p.len, z := p.src, val := BitVec.ofNat 64 (leNat p.data) } else
  let bs := s.storedBytes { pa := p.pa, win := p.win, sub := p.sub } p.len (leNat p.data)
  let s := s.writeHome p.region p.src p.agent p.pa bs p.kind p.seq p.time
  if p.stf then s.setFull p.pa true else s

/-! Issue of accesses by the context in hand. -/

/-- The packet of an access of the context in hand. -/
def State.accessPkt (s : State) (op : PktOp) (ea : Word) (l : Loc) (n : Nat) : Packet :=
  { id := 0, op := op, phys := s.grp.pfx.phys, src := s.cur, owner := s.ownerOf s.cur, region := s.ctx.region, ltile := s.ctx.ltile, priv := s.ctx.priv, addr := ea, pa := l.pa,
    win := l.win, sub := l.sub,
    len := if l.win = 0 then n else winLen l.win n, time := s.time,
    dst := if l.pa / 2 ^ 60 = 1 || l.pa / 2 ^ 60 = 2 then siteOfPhys l.pa else 0 }

/-- A write of stored value `x` by the context in hand. `rel` marks a release (R210), `stf` an STF (R214). -/
def State.commitWrite (s : State) (ea : Word) (l : Loc) (n x : Nat) (stf : Bool) : State :=
  if l.pa / 2 ^ 60 = 5 && !(s.colAt s.colNo).injPause then s.regStore l.pa n x
  else
    let rel := s.grp.pfx.order = 2 || s.grp.pfx.order = 3
    let q := s.takeSeq s.cur l.pa
    let s := q.1
    let p := s.accessPkt (if rel then .release else .write) ea l n
    let p := { p with data := leBytes n x, seq := q.2, stf := stf, kind := if stf then 3 else if rel then 1 else 0 }
    if s.atOnce s.cur then s.applyWrite p else s.sendMem p s.grp.pfx.scope.toNat

/-- The bytes of a read of the context in hand: at once, or through the constant cache (R222) of 8 KiB, which is emptied where a read
would overfill it (R12, log 26). -/
def State.readNow (s : State) (l : Loc) (n : Nat) : State × Nat :=
  if l.konst then
    let k := s.core
    let pairs := (List.range n).map fun i => (l.pa + i, tget k.konst (l.pa + i) (memGet s.mem (l.pa + i)))
    let c := pairs.foldl (fun t p => tput t p.1 p.2) k.konst
    (s.setCore { k with konst := if c.length ≤ 8192 then c else pairs.foldl (fun t p => tput t p.1 p.2) [] }, leNat (pairs.map (·.2)))
  else (s, s.readLoc l n)

/-- The destination's DIRTYMAP bit is set at issue (R75). -/
def Ctx.markDest (c : Ctx) (d : Dest) : Ctx :=
  match d with
  | .drop => c
  | .gpr r _ _ => if r = 0 then c else c.mark (r - 1)
  | .vec r _ _ => c.mark (31 + r)
  | .badd r _ => if r = 0 then c else c.mark (r - 1)

/-- The context in hand goes on to await the response of packet `id` (R207). -/
def State.await (s : State) (id : Nat) (d : Dest) : State :=
  let c := s.ctx.markDest d
  s.setCtx { c with st := .stalled, fetchWait := false, stallAt := s.time, pend := c.pend ++ [{ pkt := id, dest := d, pc0 := s.grp.pc0, rep := c.rep }] }

/-- Send a read or a returning atomic, whose response writes `d`. -/
def State.request (s : State) (p : Packet) (d : Dest) : State :=
  let id := s.nextPkt
  (s.sendMem { p with dest := d } s.grp.pfx.scope.toNat).await id d

/-! Responses. -/

/-- Elements of `n` bytes put into a vector register, from bytes in order. -/
def vFromBytes (v : VWord) (n : Nat) : List Nat → List Byte → VWord
  | [], _ => v
  | e :: r, bs => vFromBytes (vSet v n e (leNat (bs.take n))) n r (bs.drop n)

/-- Write a response into its destination register. -/
def Ctx.deliver (c : Ctx) (d : Dest) (bs : List Byte) : Ctx :=
  match d with
  | .drop => c
  | .gpr r n signed => c.wg r (extend n signed (leNat bs))
  | .vec r es n => c.wv r (vFromBytes (c.rv r) n es bs)
  | .badd _ _ => c

/-- A refused access of `w` is entered into the fault log by the owner, with its number in its stream (R248). -/
def State.logAccess (s : State) (w : Who) (ea : Word) (n : Nat) (cause : BitVec 8) : State :=
  let pa := s.logAddr w.region w.phys ea
  let q := s.takeSeq w.src pa
  q.1.faultEntry w.region w.src w.agent pa n cause.toNat 1 q.2 s.time

/-- An access that draws an error response: bad data is no refusal (R267), nor is the answer MOVED (R347). -/
def State.logRefused (s : State) (w : Who) (ea : Word) (n : Nat) (cause : BitVec 8) : State :=
  if cause = cPOISON || cause = cROLE then s else s.logAccess w ea n cause

/-- A check of R196, or of R189 under PHYS, that fails at issue is logged likewise; a misaligned address is no refusal of a home. -/
def State.logBad (s : State) (w : Who) (ea : Word) (k : AKind) (cause : BitVec 8) : State :=
  if (w.phys || classOf ea == .role) && ea.toNat % k.align = 0 then s.logAccess w ea k.size cause else s

/-- The PHYS bit at S or U traps PRIVILEGE (R446). -/
def withPhys (s : State) (k : State → Out) : Out :=
  if s.grp.pfx.phys && s.ctx.priv ≠ 2 then trap s cPRIVILEGE s.grp.pfx.memAddr else k s

end Sys2Proof.Machine
end

