-- ==== Sys2Proof/Machine/Engine.lean ====
section
/-! DEFINITION. What the engines of a site share: the task an operation belongs to, engine errors (R181, R182), the engine budget
(R184, R284), engine reads and writes, and where a moved gang's state goes (R67). -/

namespace Sys2Proof.Machine

/-- Where the issuing task of an engine's work now is. -/
inductive Owner where
  | live (c : Nat)
  | saved (core task : Nat)
  | gone
  deriving DecidableEq, Repr

/-- The issuing task: of context `c` where it runs no entry, else the task of that number, on whichever core its entry now is. -/
def State.ownerNow (s : State) (c : Nat) (owner : Option Nat) : Owner :=
  match owner with
  | none => if (s.ctxAt c).st != .free && (s.ctxAt c).slot.isNone then .live c else .gone
  | some q =>
    match s.cores.findSome? fun k => (k.2.rq.find? fun e => e.task == q).map fun e => (k.1, e) with
    | none => .gone
    | some (k, e) => match e.ctx with
      | some x => .live x
      | none => .saved k q

/-- The trap in PENDING gives way to one of cause `c`: none is there, or one of a higher code (R420). -/
def pendingYields (old : Word) (c : BitVec 8) : Bool := !(bit old 63 && bits old 0 8 ≤ c.toNat)

/-- A pending trap in the save area of entry `e` of core `k` (R288, R420): a lower cause code replaces a higher one. -/
def State.pendTrap (s : State) (k : Nat) (e : RqEntry) (cause : BitVec 8) (val pc : Word) : State :=
  let a := globalPhys e.save
  if pendingYields (s.readWord (a + 0x68)) cause then
    let x := s.coreAt k
    let s := s.setCoreAt k { x with rq := modFirst (fun e' => e'.slot == e.slot) (fun e' => { e' with pendPos := e'.held.length }) x.rq }
    ((s.writeWord (a + 0x70) val).writeWord (a + 0x78) pc).writeWord (a + 0x68) (mkWord [(63, 1), (0, cause.toNat)])
  else s

/-- Raise a trap on the issuing task: of an engine (R181), which a saved task takes on resumption, or of a posted access that was refused
(R192), which goes to PENDING of a saved task with TRAPPC where it goes on (R288, R420; log 63). Nothing where the task has ended. -/
def State.raiseOn (s : State) (o : Owner) (h : HeldTrap) : State :=
  match o with
  | .live c => s.holdTrap c { h with area := h.work.isNone && (s.ctxAt c).saving }
  | .saved k q =>
    let x := s.coreAt k
    match if h.work.isNone then x.rq.find? fun e => e.task == q else none with
    | some e => s.pendTrap k e h.cause h.val (s.readWord (globalPhys e.save))
    | none => s.setCoreAt k { x with rq := modFirst (fun e => e.task == q) (fun e => { e with held := e.held ++ [h] }) x.rq }
  | .gone => s

/-- Charge `n` engine cycles to the account of a region and logical tile on a site (R184): the budget that reaches 0 raises
ENGINE_OVERRUN. -/
def State.chargeEngine (s : State) (site : Nat) (region : Word) (ltile n : Nat) : State :=
  let t := s.tileAt site
  match t.accounts.find? fun a => a.region == region && a.ltile == ltile with
  | none => s
  | some a =>
    let s := s.setTileAt site { t with
      accounts := modFirst (fun a => a.region == region && a.ltile == ltile) (fun a => { a with engLeft := a.engLeft - n }) t.accounts }
    if a.engLeft ≤ n then s.post 0 .engineBudgetExhausted { x := site, y := region.toNat, z := ltile } else s

/-- The maker of an engine's accesses: the region's tables at privilege U (R180, R388), the HOLDER codes it accepts; the issuing context
and the agent for the logs (R246). -/
def engWho (site : Nat) (region : Word) (ltile : Nat) (hs : List Nat) (src ag : Nat) : Who :=
  { core := 8 * site, src := src, agent := ag, region := region, priv := 0, ltile := ltile, eng := some hs }

/-- The buffers that a role-space access of `n` stored bytes touches. -/
def State.roleBufs (s : State) (region : Word) (ea : Word) (n : Nat) : List Buf :=
  if classOf ea == .role then
    let l := bits ea 32 14
    let e := s.rmEntry region l
    (((s.tileAt e.site).tabsOf region l).bufsOver (bits ea 28 1) (bits ea 29 3) (bits ea 0 24) n).map (·.2)
  else []

/-- An engine access of `n` bytes: the checks, and the wait for the buffer states it needs (R180, R228). -/
def State.engRes (s : State) (w : Who) (ea : Word) (n : Nat) (want : Want) (sts : List Nat) : State × ARes :=
  match s.resolve w ea (.block n) want with
  | (s, .ok l) =>
    (s, if (s.roleBufs w.region ea n).all fun b => sts.contains b.state.toNat then .ok l else .hold)
  | (s, .bad c v) => (s.logBad w ea (.block n) c, .bad c v)
  | (s, .err c v) => (s.logRefused w ea n c, .err c v)
  | r => r

/-- What the reading of a set of operands gives: their values, a wait, or an error. -/
inductive Fetched where
  | vals (xs : List Nat)
  | wait
  | err (cause : BitVec 8) (val : Word)
  deriving DecidableEq, Repr

/-- The worse of two failures for R393: a PAGE fault at the lower address, else the first. -/
def worse (a b : Fetched) : Fetched :=
  match a, b with
  | .vals x, .vals y => .vals (x ++ y)
  | .err c v, .err d w => if c = cPAGE && d = cPAGE then (if v.toNat ≤ w.toNat then .err c v else .err d w) else if d = cPAGE then .err d w else .err c v
  | .err c v, _ => .err c v
  | _, .err d w => .err d w
  | .wait, _ => .wait
  | _, .wait => .wait

/-- Read operands of `n` bytes at the listed addresses. -/
def State.engFetch (s : State) (w : Who) (n : Nat) (sts : List Nat) : List Word → State × Fetched
  | [] => (s, .vals [])
  | ea :: r =>
    let q := s.engRes w ea n .read sts
    let f := match q.2 with
      | .ok l => Fetched.vals [q.1.readLoc l n]
      | .hold => .wait
      | .bad c v => .err c v
      | .err c v => .err c v
    let t := q.1.engFetch w n sts r
    (t.1, worse f t.2)

/-- An engine's write of stored bytes through `ea`: performed at its home, every stored word set full (R205, R242). `ag` is the agent of
R246; a write outside the tile has a number in the stream of the issuer's core. -/
def State.engWrite (s : State) (region : Word) (src ag : Nat) (ea : Word) (l : Loc) (n x : Nat) : State :=
  let bs := s.storedBytes l n x
  let q := s.takeSeq src l.pa
  (q.1.writeHome region src ag l.pa bs 4 q.2 s.time).setFullRange (classOf ea == .role) l.pa bs.length

/-- A wake-up message of an engine (R179, R229): a SPAWN-class delivery on a channel of a core of a site. `who` names the engine's
work, to which a refusal is told. -/
def State.wakeUp (s : State) (site core ch : Nat) (region : Word) (ltile src : Nat) (a1 a2 : Word) (agent : Nat) : State :=
  let id := s.nextPkt
  (s.inject { id := id, op := .send, dst := site, unit := core, ch := ch, region := region, ltile := ltile, arg1 := a1, arg2 := a2,
              src := src, agent := agent, srcRegion := region, addr := destWord ltile core ch }).post 0 .sendArrival { x := id }

/-- The home of a role-space address is moving (R186, R342 step 2), or its site is in a reset. -/
def State.homeMoving (s : State) (region : Word) (ea : Word) : Bool :=
  classOf ea == .role &&
    (let e := s.rmEntry region (bits ea 32 14)
     let t := s.tileAt e.site
     (e.state = 2 && t.copying) || t.resetting)

/-- A gang's panels are being saved or restored on a site (R67). -/
def State.panelBusy (s : State) (site : Nat) : Bool :=
  s.agenda.any fun p => (p.2.1 == .gangPanelSave || p.2.1 == .gangPanelRestore) && p.2.2.x == site

/-- A gang task is admitted on a site (R164): queued, running or saved. -/
def State.gangAdmitted (s : State) (site : Nat) : Bool := (List.range 8).any fun k => (s.coreAt (8 * site + k)).rq.any fun e => e.gang

/-- The context may use the matrix engine of a site (R164): it runs a member of the gang that the site runs, or no gang is
admitted there. -/
def State.isMember (s : State) (site c : Nat) : Bool :=
  match (s.tileAt site).gangLive with
  | none => !s.gangAdmitted site
  | some (r, l, _) => (s.ctxAt c).gang && (s.ctxAt c).region == r && (s.ctxAt c).ltile == l

end Sys2Proof.Machine
end

