-- ==== Sys2Proof/Machine/CopyUnit.lean ====
section
/-! DEFINITION. The copy unit (R223 to R232) and the layout record that tile-walk engines share (R225 to R228, R304). -/

namespace Sys2Proof.Machine

/-! The layout record (R225, R226). -/

/-- Bits of one element of a format code (R226). -/
def fmtBits (c : Nat) : Nat :=
  match c with
  | 1 | 4 | 5 | 11 => 16
  | 2 | 8 | 12 => 32
  | 3 => 64
  | 14 => 4
  | 15 => 2
  | _ => 8

/-- Bytes that an element's address counts in: 1 for SM4 and SM2 (R227). -/
def fmtBytes (c : Nat) : Nat := (fmtBits c + 7) / 8

/-- Word `k` of a record. -/
def lw (l : List Word) (k : Nat) : Word := l.getD k 0

def recSfmt (l : List Word) : Nat := bits (lw l 9) 0 4
def recDfmt (l : List Word) : Nat := bits (lw l 9) 4 4
def recRm (l : List Word) : Nat := bits (lw l 9) 8 3
def recSat (l : List Word) : Bool := bit (lw l 9) 11
def recEdge (l : List Word) : Nat := bits (lw l 9) 12 2
def recNd (l : List Word) : Nat := bits (lw l 9) 16 2 + 1
def recIlv (l : List Word) : Nat := bits (lw l 9) 24 3
def recExt (l : List Word) (d : Nat) : Nat := bits (lw l 2) (16 * d) 16
def recWin (l : List Word) (d : Nat) : Nat := bits (lw l 6) (16 * d) 16
def recOrg (l : List Word) (d : Nat) : Int := sint 16 (bits (lw l 5) (16 * d) 16)
/-- Byte strides of dimensions 1 to 3. -/
def recSstr (l : List Word) (d : Nat) : Int :=
  match d with
  | 1 => sint 32 (bits (lw l 3) 0 32)
  | 2 => sint 32 (bits (lw l 3) 32 32)
  | _ => sint 32 (bits (lw l 4) 0 32)
def recDstr (l : List Word) (d : Nat) : Int :=
  match d with
  | 1 => sint 32 (bits (lw l 7) 0 32)
  | 2 => sint 32 (bits (lw l 7) 32 32)
  | _ => sint 32 (bits (lw l 4) 32 32)

/-- The finer packing's m of R227: 4, 2, or 1 where neither side is sub-byte. -/
def recM (l : List Word) : Nat :=
  if recSfmt l = 15 || recDfmt l = 15 then 4 else if recSfmt l = 14 || recDfmt l = 14 then 2 else 1

/-- The first failing check of a list of (fails, bit). -/
def firstFail (w : Nat) (l : List (Bool × Nat)) : Option (Nat × Nat) := (l.find? (·.1)).map fun p => (w, p.2)

/-- Check of a base address (R227). -/
def baseBad (a : Word) (n : Nat) : Bool := a.toNat % n ≠ 0 || (classOf a == .role && bits a 24 4 ≠ 0)

/-- A stride is no multiple of its side's element size. -/
def strideBad (x : Int) (n : Nat) : Bool := x % (n : Int) ≠ 0

/-- The checks of R227 in their order: the word and the lowest bit of the first failing field. -/
def recCheck (l : List Word) : Option (Nat × Nat) :=
  let w9 := lw l 9
  let s := recSfmt l
  let d := recDfmt l
  let sb := fmtBytes s
  let db := fmtBytes d
  let dims := List.range 4
  [firstFail 9 [((s ≤ 3 || d ≤ 3) && s ≠ d, 4), (6 ≤ recRm l, 8), (recEdge l = 3, 12), (bits w9 14 2 ≠ 0, 14), (bits w9 18 6 ≠ 0, 18),
     (recIlv l = 7, 24), (bits w9 27 37 ≠ 0, 27)],
   firstFail 0 [(baseBad (lw l 0) sb, 0)],
   firstFail 1 [(baseBad (lw l 1) db, 0)],
   firstFail 2 (dims.map fun k => (recExt l k = 0 || (recNd l ≤ k && recExt l k ≠ 1) || (k = 0 && recExt l 0 % recM l ≠ 0), 16 * k)),
   firstFail 3 [(strideBad (recSstr l 1) sb, 0), (strideBad (recSstr l 2) sb, 32)],
   firstFail 4 [(strideBad (recSstr l 3) sb, 0), (strideBad (recDstr l 3) db, 32)],
   firstFail 5 (dims.map fun k => ((recNd l ≤ k && recOrg l k ≠ 0) || (k = 0 && recOrg l 0 % (recM l : Int) ≠ 0), 16 * k)),
   firstFail 6 ((dims.map fun k => (recWin l k = 0 || (recNd l ≤ k && recWin l k ≠ 1) || (k = 0 && recWin l 0 % recM l ≠ 0), 16 * k)) ++
     [(decide (2 ^ 24 < recWin l 0 * recWin l 1 * recWin l 2 * recWin l 3), 0)]),
   firstFail 7 [(strideBad (recDstr l 1) db, 0), (strideBad (recDstr l 2) db, 32)],
   firstFail 8 [(bits (lw l 8) 32 32 ≠ 0, 32)],
   firstFail 10 [((lw l 10).toNat % 8 ≠ 0, 0)],
   firstFail 11 [(lw l 11 ≠ 0, 0)]].findSome? id

/-- TRAPVAL of LAYOUT (R73). -/
def layoutVal (p : Nat × Nat) : Word := mkWord [(8, p.1), (0, p.2)]

/-- Positions of the window (R228). -/
def recCount (l : List Word) : Nat := recWin l 0 * recWin l 1 * recWin l 2 * recWin l 3

/-- The coordinates of position `p`, i0 fastest. -/
def recPos (l : List Word) (p d : Nat) : Nat :=
  match d with
  | 0 => p % recWin l 0
  | 1 => p / recWin l 0 % recWin l 1
  | 2 => p / (recWin l 0 * recWin l 1) % recWin l 2
  | _ => p / (recWin l 0 * recWin l 1 * recWin l 2) % recWin l 3

/-- j_d of position `p`, whether it lies in the tensor, and clamped into it. -/
def recJ (l : List Word) (p d : Nat) : Int := recOrg l d + recPos l p d
def recInside (l : List Word) (p : Nat) : Bool :=
  (List.range 4).all fun d => decide (0 ≤ recJ l p d) && decide (recJ l p d < recExt l d)
def recClamp (l : List Word) (p d : Nat) : Int := max 0 (min (recJ l p d) ((recExt l d : Int) - 1))

/-- A byte address and bit offset: dimension 0 counts elements of `b` bits, the rest bytes. -/
def elemAddr (base : Word) (b : Nat) (i0 : Int) (off : Int) : Word × Nat :=
  let bitsOff := i0 * (b : Int)
  (base + BitVec.ofInt 64 (bitsOff / 8 + off), (bitsOff % 8).toNat)

def recDst (l : List Word) (p : Nat) : Word × Nat :=
  elemAddr (lw l 1) (fmtBits (recDfmt l)) (recPos l p 0)
    (recPos l p 1 * recDstr l 1 + recPos l p 2 * recDstr l 2 + recPos l p 3 * recDstr l 3 + 16 * (recPos l p 1 % 2 ^ recIlv l : Nat))
def recSrc (l : List Word) (p : Nat) : Word × Nat :=
  let j := recClamp l p
  elemAddr (lw l 0) (fmtBits (recSfmt l)) (j 0) (j 1 * recSstr l 1 + j 2 * recSstr l 2 + j 3 * recSstr l 3)

/-- A code of a floating-point format, and its format. -/
def codeFloat (c : Nat) : Option Fmt :=
  match c with
  | 4 => some F16
  | 5 => some BF16
  | 6 => some F8W
  | 7 => some F8N
  | 8 => some F32
  | _ => none

/-- The integer value of an element of an integer or sign-magnitude code. -/
def codeToInt (c x : Nat) : Int :=
  match c with
  | 10 => (x % 256 : Nat)
  | 13 => smDecode 8 x
  | 14 => smDecode 4 x
  | 15 => sm2Decode x
  | _ => sint (fmtBits c) x

/-- Range of an integer code. -/
def codeRange (c : Nat) : Int × Int :=
  match c with
  | 9 => (-128, 127)
  | 10 => (0, 255)
  | 11 => (-32768, 32767)
  | _ => (-2147483648, 2147483647)

/-- Convert an element between formats (R228): the same code copies bits, a code of negative zero too, and a fill is written as it is,
though R90 says that no engine writes that code (DESIGN CHOICE, log 80). -/
def recConvert (l : List Word) (x : Nat) : Nat × BitVec 6 :=
  let s := recSfmt l
  let d := recDfmt l
  let mode := recRm l
  let sat := recSat l
  if s = d then (x, 0)
  else match codeFloat s, codeFloat d with
    | some f, some g => g.ofNum mode sat (f.decode x)
    | some f, none =>
      if 13 ≤ d then smOfNum (fmtBits d) mode (f.decode x)
      else
        let r := (f.decode x).toRange mode sat (codeRange d).1 (codeRange d).2
        ((BitVec.ofInt (fmtBits d) r.1).toNat, r.2)
    | none, some g => g.ofNum mode sat (numOfInt (codeToInt s x))
    | none, none =>
      let v := codeToInt s x
      if 13 ≤ d then
        let q := smEncode (fmtBits d) v
        (q.1, if q.2 then flSAT else 0)
      else
        let r := codeRange d
        if sat && v < r.1 then ((BitVec.ofInt (fmtBits d) r.1).toNat, flSAT)
        else if sat && r.2 < v then ((BitVec.ofInt (fmtBits d) r.2).toNat, flSAT)
        else ((BitVec.ofInt (fmtBits d) v).toNat, 0)

/-! Walking a record. -/

/-- What a walk of some elements ends with. -/
inductive WalkEnd where
  | more
  | finished
  | wait
  | err (cause : BitVec 8) (val : Word)
  deriving DecidableEq, Repr

/-- How far a walk has come: the next position, elements written, flags. -/
structure WalkAt where
  pos : Nat
  count : Nat
  flags : BitVec 6
  deriving DecidableEq, Repr

/-- The engine that walks a record: its site, region, logical tile, HOLDER code, agent of R246, and the issuing context. -/
structure Walker where
  site : Nat
  region : Word
  ltile : Nat
  holder : Nat
  agent : Nat
  src : Nat
  deriving DecidableEq, Repr

/-- An access of a walker as a result to end with, or the location. -/
def State.walkRes (s : State) (w : Walker) (ea : Word) (n : Nat) (want : Want) (sts : List Nat) : State × Except WalkEnd Loc :=
  match s.engRes (engWho w.site w.region w.ltile [w.holder] w.src w.agent) ea n want sts with
  | (s, .ok l) => (s, .ok l)
  | (s, .hold) => (s, .error .wait)
  | (s, .bad c v) => (s, .error (.err c v))
  | (s, .err c v) => (s, .error (.err c v))

/-- The value of position `p`: the fill, or the source element, read in READY (R228). -/
def State.walkValue (s : State) (w : Walker) (l : List Word) (p : Nat) : State × Except WalkEnd (Nat × BitVec 6) :=
  if !recInside l p && recEdge l = 0 then (s, .ok (bits (lw l 8) 0 32 % 2 ^ fmtBits (recDfmt l), 0))
  else
    let a := recSrc l p
    let n := fmtBytes (recSfmt l)
    match s.walkRes w a.1 n .read [2] with
    | (s, .error e) => (s, .error e)
    | (s, .ok loc) => (s, .ok (recConvert l (s.readLoc loc n / 2 ^ a.2 % 2 ^ fmtBits (recSfmt l))))

/-- Write stored bits of one element at a location, keeping the other bits of its byte (R202). -/
def State.walkWrite (s : State) (w : Walker) (ea : Word) (loc : Loc) (sub b x : Nat) : State :=
  let n := (b + 7) / 8
  let old := s.readNat loc.pa n
  let v := if b < 8 then old - old / 2 ^ sub % 2 ^ b * 2 ^ sub + x % 2 ^ b * 2 ^ sub else x % 2 ^ b
  let q := s.takeSeq w.src loc.pa
  (q.1.writeHome w.region w.src w.agent loc.pa (leBytes n v) 4 q.2 s.time).setFullRange (classOf ea == .role) loc.pa n

/-- One position: skipped, or its element read and then written (R228). -/
def State.walkOne (s : State) (w : Walker) (l : List Word) (at_ : WalkAt) : State × Except WalkEnd WalkAt :=
  let p := at_.pos
  if !recInside l p && recEdge l = 2 then (s, .ok { at_ with pos := p + 1 })
  else
    match s.walkValue w l p with
    | (s, .error e) => (s, .error e)
    | (s, .ok v) =>
      let a := recDst l p
      match s.walkRes w a.1 (fmtBytes (recDfmt l)) .write [0, 1] with
      | (s, .error e) => (s, .error e)
      | (s, .ok loc) =>
        (s.walkWrite w a.1 loc a.2 (fmtBits (recDfmt l)) v.1, .ok { pos := p + 1, count := at_.count + 1, flags := at_.flags ||| v.2 })

/-- Up to `n` positions of a record. -/
def State.walkElems (s : State) (w : Walker) (l : List Word) : Nat → WalkAt → State × WalkAt × WalkEnd
  | 0, at_ => (s, at_, if recCount l ≤ at_.pos then .finished else .more)
  | n + 1, at_ =>
    if recCount l ≤ at_.pos then (s, at_, .finished)
    else match s.walkOne w l at_ with
      | (s, .error e) => (s, at_, e)
      | (s, .ok a) => s.walkElems w l n a

/-- The completion word of R229. -/
def completion (count ticket cause status : Nat) : Word :=
  mkWord [(32, count % 2 ^ 32), (16, ticket % 2 ^ 16), (8, cause), (0, status)]

/-! Registers of the copy unit. -/

def State.cp (s : State) (site : Nat) : Cp := (s.tileAt site).cp
def State.setCp (s : State) (site : Nat) (c : Cp) : State := s.setTileAt site { s.tileAt site with cp := c }
def State.job (s : State) (site t : Nat) : Option CpJob := (s.cp site).jobs.find? fun j => j.ticket == t
def State.setJob (s : State) (site : Nat) (j : CpJob) : State :=
  let c := s.cp site
  s.setCp site { c with jobs := modFirst (fun x => x.ticket == j.ticket) (fun _ => j) c.jobs }

/-- The job that has started and not ended. -/
def Cp.running (c : Cp) : Option CpJob := c.jobs.find? fun j => j.st != .queued && !j.ended
/-- A job is paused: by its own trap (R224), by the whistle tree (R415), or by a home that moves (R186). -/
def Cp.paused (c : Cp) : Bool := c.jobs.any fun j => j.st == .paused || (j.st != .queued && !j.ended && (j.halted || j.homeWait))
def Cp.qlen (c : Cp) : Nat := (c.jobs.filter fun j => j.st == .queued && !j.ended).length

/-- CP.STAT (R231). -/
def Cp.stat (c : Cp) : Word :=
  mkWord [(48, c.done.toNat), (32, c.next.toNat), (24, c.err.toNat), (16, c.flags.toNat), (12, c.drej.toNat), (8, c.qlen),
    (7, b2n c.paused), (1, b2n (c.jobs.any fun j => j.cancel && !j.ended)), (0, b2n (c.jobs.any fun j => j.st != .queued))]

/-- A register by number (R60). -/
def Cp.reg (c : Cp) (r : Nat) : Word :=
  if r < 0x1C then tget c.l (r - 0x10) 0 else if r = 0x1C then c.job else c.stat

/-- The copy unit's state is at the region of the context in hand; else the group waits for the zeroing (R68). -/
def cpReady (s : State) (i : Instr) (k : State → Out) : Out :=
  let site := s.siteNo
  if (s.cp site).region ≠ s.ctx.region then
    park (s.post 0 .engineRegionZero { x := site, flag := true, y := s.ctx.region.toNat, z := s.ctx.ltile }) i
  else k s

/-- R223, R230. -/
def execCset (r : BitVec 9) (a : BitVec 5) (s : State) : Out :=
  cpReady s (.cset r a) fun s =>
    let site := s.siteNo
    let c := s.cp site
    let n := r.toNat
    if n < 0x10 || 0x1C < n then illegal s
    else if n = 0x1C then done (s.setCp site { c with job := s.rg a &&& 0xFFFFFFFFBF000000 })
    else done (s.setCp site { c with l := tput c.l (n - 0x10) (s.rg a) })

/-- R223. -/
def execCpoll (r : BitVec 9) (d : BitVec 5) (s : State) : Out :=
  cpReady s (.cpoll r d) fun s =>
    if r.toNat < 0x10 || 0x1D < r.toNat then illegal s else writeG s d ((s.cp s.siteNo).reg r.toNat)

/-- The next job may be able to start. -/
def State.kickCp (s : State) (site : Nat) : State := s.post 0 .copyJobStart { x := site }

/-- R224: latch, check, accept; the issuer's stores to its own tile go before the job (R243). -/
def execCgo (d : BitVec 5) (s : State) : Out :=
  cpReady s (.cgo d) fun s =>
    let site := s.siteNo
    let c := s.cp site
    let l := (List.range 12).map fun k => tget c.l k 0
    if 8 ≤ c.qlen || s.tileBusy s.cur then .next (s.waitIssue (.cgo d))
    else match recCheck l with
      | some p => trap s cLAYOUT (layoutVal p)
      | none =>
        let j : CpJob := { ticket := c.next.toNat, layout := l, job := c.job, ctx := s.cur, region := s.ctx.region, ltile := s.ctx.ltile,
                           core := s.coreNo % 8, owner := s.ownerOf s.cur }
        writeG ((s.setCp site { c with jobs := c.jobs ++ [j], next := c.next + 1 }).kickCp site) d (c.next.setWidth 64)

/-- R232: a job that holds the ticket is unfinished, and so is every earlier one before it. -/
def execCwait (a d : BitVec 5) (s : State) : Out :=
  cpReady s (.cwait a d) fun s =>
    let site := s.siteNo
    let c := s.cp site
    if (s.job site (bits (s.rg a) 0 16)).isSome then park s (.cwait a d)
    else writeG (s.setCp site { c with err := 0, flags := 0 }) d c.stat

/-- R232. -/
def execCcancel (a d : BitVec 5) (s : State) : Out :=
  cpReady s (.ccancel a d) fun s =>
    let site := s.siteNo
    match (s.job site (bits (s.rg a) 0 16)).filter fun j => !j.ended && !j.cancel with
    | none => writeG s d 0
    | some j =>
      if j.st == .queued then
        writeG ((s.setJob site { j with ended := true, cancel := true, status := 1 }).post 0 .copyJobComplete { x := site, y := j.ticket }) d 1
      else writeG ((s.setJob site { j with cancel := true }).post 0 .copyCancelStop { x := site }) d 1

/-! Jobs. -/

/-- An error of a copy job (R181, R182, R224): PAGE pauses it, any other abandons it. -/
def State.cpError (s : State) (site : Nat) (j : CpJob) (cause : BitVec 8) (val : Word) : State :=
  let s := s.setCp site { s.cp site with err := cause }
  let w := s.ownerNow j.ctx j.owner
  let s := if cause = cPAGE && w ≠ .gone then s.setJob site { j with st := .paused, cause := cause }
    else (s.setJob site { j with ended := true, status := 2, cause := cause }).post 0 .copyJobComplete { x := site, y := j.ticket }
  s.raiseOn w { cause := cause, val := val, work := some { unit := 1, num := j.ticket, site := site } }

/-- Elements that one event of a running job moves. -/
def walkChunk : Nat := 16

/-- The element at position `p` of a record lies in a home that is moving. -/
def State.elemMoves (s : State) (region : Word) (l : List Word) (p : Nat) : Bool :=
  s.homeMoving region (recSrc l p).1 || s.homeMoving region (recDst l p).1

/-- The cycles of a stretch of a job that came `n` positions on and ended with `e`: a wait for translation or buffers counts too
(R184), a pause does not. -/
def walkCycles (n : Nat) (e : WalkEnd) (moving : Bool) : Nat := n + b2n (e == .wait && !moving)

/-- Carry a running job on by some elements. -/
def State.runJob (s : State) (site : Nat) (j : CpJob) : State :=
  let w : Walker := { site := site, region := j.region, ltile := j.ltile, holder := 8, agent := 2, src := j.ctx }
  match s.walkElems w j.layout walkChunk { pos := j.pos, count := j.count, flags := 0 } with
  | (s, a, e) =>
    let c := s.cp site
    let t := s.tileAt site
    let moving := e == .wait && s.elemMoves j.region j.layout a.pos
    let n := walkCycles (a.pos - j.pos) e moving
    let s := s.setTileAt site { t with cp := { c with flags := c.flags ||| a.flags }, cpCyc := t.cpCyc + BitVec.ofNat 64 n }
    let j := { j with pos := a.pos, count := a.count, st := .running, homeWait := moving }
    let s := (s.setJob site j).chargeEngine site j.region j.ltile n
    match e with
    | .more => s.post 1 .copyJobStart { x := site }
    | .wait => s.post 1 .copyJobStart { x := site }
    | .finished => (s.setJob site { j with ended := true, status := 0 }).post 0 .copyJobComplete { x := site, y := j.ticket }
    | .err c v => s.cpError site j c v

/-- COPY_JOB_START (R224): the running job goes on, or the next accepted one starts. A job that a cancellation or a pause has
reached does nothing here. -/
def execCopyJobStart (s : State) : Out :=
  let site := s.ev.x
  let c := s.cp site
  match c.running with
  | some j => if j.st == .running && !j.halted && !j.cancel then .next (s.runJob site j) else .next s
  | none =>
    if c.jobs.any fun j => j.ended then .next s
    else match c.jobs.head? with
      | some j => if j.halted then .next s else .next (s.runJob site j)
      | none => .next s

/-- COPY_CANCEL_STOP (R232): a cancelled running job stops at this element boundary. -/
def execCopyCancelStop (s : State) : Out :=
  let site := s.ev.x
  match (s.cp site).running with
  | some j =>
    if j.cancel then
      .next ((s.setJob site { j with st := .running, ended := true, status := 1 }).post 0 .copyJobComplete { x := site, y := j.ticket })
    else .next s
  | none => .next s

/-- Store a completion word (R229, R448): `none` while it must wait, else whether it was refused. -/
def State.putCword (s : State) (w : Walker) (l : List Word) (x : Word) : State × Option (Option (BitVec 8 × Word)) :=
  if lw l 10 = 0 then (s, some none)
  else match s.walkRes w (lw l 10) 8 .write [0, 1, 2, 3] with
    | (s, .ok loc) => (s.engWrite w.region w.src w.agent (lw l 10) loc 8 x.toNat, some none)
    | (s, .error .wait) => (s, none)
    | (s, .error (.err c v)) => (s, some (some (c, v)))
    | (s, .error _) => (s, some none)

/-- ERR of the copy unit, which is a job's region's while it is at that region (R68). -/
def State.cpErr (s : State) (site : Nat) (region : Word) (c : BitVec 8) : State :=
  if (s.cp site).region = region then s.setCp site { s.cp site with err := c } else s

/-- COPY_JOB_COMPLETE (R229): the completion word, the wake-up, and DONE, in this order. A PAGE fault of the word pauses the job, whose
TRAPRET stores it again (R224); any other refusal is raised on the issuer (R448). Event operand y is the ticket. -/
def execCopyJobComplete (s : State) : Out :=
  let site := s.ev.x
  match (s.job site s.ev.y).filter fun j => j.ended && j.st != .paused with
  | none => .next s
  | some j =>
    let w : Walker := { site := site, region := j.region, ltile := j.ltile, holder := 8, agent := 2, src := j.ctx }
    match s.putCword w j.layout (completion j.count j.ticket j.cause.toNat j.status) with
    | (s, none) => .next (s.post 1 .copyJobComplete s.ev)
    | (s, some e) =>
      let o := s.ownerNow j.ctx j.owner
      let h (c : BitVec 8) (v : Word) : HeldTrap := { cause := c, val := v, work := some { unit := 1, num := j.ticket, site := site } }
      if e.any (fun p => p.1 = cPAGE) && o ≠ .gone then
        .next (((s.cpErr site j.region cPAGE).setJob site { j with st := .paused }).raiseOn o (h cPAGE (lw j.layout 10)))
      else
        let s := match e with
          | some (c, v) => (s.cpErr site j.region c).raiseOn o (h c v)
          | none => s
        let s := if bit j.job 31 then
            s.wakeUp site j.core (bits j.job 24 6) j.region j.ltile j.ctx (BitVec.ofNat 64 (bits j.job 32 32)) (BitVec.ofNat 64 j.ticket) 2
          else s
        let c := s.cp site
        .next ((s.setCp site { c with done := BitVec.ofNat 16 j.ticket, jobs := c.jobs.filter fun x => x.ticket != j.ticket }).kickCp site)

end Sys2Proof.Machine
end

