-- ==== Sys2Proof/Machine/Memory.lean ====
section
/-! DEFINITION. Scalar loads and stores, full/empty accesses, atomics, FENCE, prefetch and the constant cache (R206 to R222). -/

namespace Sys2Proof.Machine

/-- What to do with the result of the checks of R206: a trap at the group, an error response of a read (at the group, R207), a
wait, or the access. `i` is the instruction, issued again when a wait ends. -/
def accessed (s : State) (ea : Word) (k : AKind) (w : Want) (i : Instr) (go : State → Loc → Out) : Out :=
  withPhys s fun s =>
    match s.resolve s.me ea k w with
    | (s, .bad c v) => trap (s.logBad s.me ea k c) c v
    | (s, .err c v) => trap (s.logRefused s.me ea k.size c) c v
    | (s, .hold) => park s i
    | (s, .ok l) => go s l

/-- The same for a posted access: an error response traps at the next group boundary (R192, R207). -/
def posted (s : State) (ea : Word) (k : AKind) (w : Want) (i : Instr) (go : State → Loc → Out) : Out :=
  withPhys s fun s =>
    match s.resolve s.me ea k w with
    | (s, .bad c v) => trap (s.logBad s.me ea k c) c v
    | (s, .err c v) => done ((s.logRefused s.me ea k.size c).postedError s.cur c v)
    | (s, .hold) => park s i
    | (s, .ok l) => go s l

/-- The scope of an acquire (R210, R217): ORDER 1 or 3. -/
def acqOf (p : Prefixes) : Option Nat := if p.order = 1 || p.order = 3 then some p.scope.toNat else none

/-- A read of the context in hand: answered at once, or by a packet. -/
def readTo (s : State) (ea : Word) (l : Loc) (n : Nat) (signed : Bool) (d : BitVec 5) : Out :=
  let q := s.takeSeq s.cur l.pa
  if q.1.atOnce s.cur || ((l.konst || l.pa / 2 ^ 60 = 5) && !(s.colAt s.colNo).injPause) then
    let r := q.1.readNow l n
    writeG r.1 d (extend n signed r.2)
  else .next ((q.1.request { q.1.accessPkt .read ea l n with seq := q.2, acq := acqOf s.grp.pfx } (.gpr d.toNat n signed)).finish)

/-- A scalar load of `n` bytes (R209). -/
def loadOp (n : Nat) (signed : Bool) (ea : Word) (d : BitVec 5) (i : Instr) (s : State) : Out :=
  accessed s ea (.scalar n) .read i fun s l => readTo s ea l n signed d

/-- A scalar store of `n` bytes (R209); a decoding window encodes it (R201). -/
def storeOp (n : Nat) (ea : Word) (d : BitVec 5) (i : Instr) (s : State) : Out :=
  posted s ea (.scalar n) .write i fun s l =>
    let x := (s.rg d).toNat % 2 ^ (8 * n)
    if l.win = 0 then done (s.commitWrite ea l n x false)
    else
      let r := winEncode l.win s.ctx.rm.toNat true x
      withFlags s r.2 fun s => done (s.commitWrite ea l n r.1 false)

/-- R209: LB. -/
def execLb (i : BitVec 14) (a d : BitVec 5) (s : State) : Out := loadOp 1 true (eaI s i a) d (.lb i a d) s
/-- R209: LH. -/
def execLh (i : BitVec 14) (a d : BitVec 5) (s : State) : Out := loadOp 2 true (eaI s i a) d (.lh i a d) s
/-- R209: LW. -/
def execLw (i : BitVec 14) (a d : BitVec 5) (s : State) : Out := loadOp 4 true (eaI s i a) d (.lw i a d) s
/-- R209: LD. -/
def execLd (i : BitVec 14) (a d : BitVec 5) (s : State) : Out := loadOp 8 true (eaI s i a) d (.ld i a d) s
/-- R209: SB. -/
def execSb (i : BitVec 14) (a d : BitVec 5) (s : State) : Out := storeOp 1 (eaI s i a) d (.sb i a d) s
/-- R209: SH. -/
def execSh (i : BitVec 14) (a d : BitVec 5) (s : State) : Out := storeOp 2 (eaI s i a) d (.sh i a d) s
/-- R209: SW. -/
def execSw (i : BitVec 14) (a d : BitVec 5) (s : State) : Out := storeOp 4 (eaI s i a) d (.sw i a d) s
/-- R209: SD. -/
def execSd (i : BitVec 14) (a d : BitVec 5) (s : State) : Out := storeOp 8 (eaI s i a) d (.sd i a d) s

/-- R59, R209: LB.L. -/
def execLbL (sh : BitVec 2) (b a d : BitVec 5) (e : BitVec 32) (s : State) : Out := loadOp 1 true (eaX s sh b a e) d (.lbL sh b a d e) s
/-- R59, R209: LH.L. -/
def execLhL (sh : BitVec 2) (b a d : BitVec 5) (e : BitVec 32) (s : State) : Out := loadOp 2 true (eaX s sh b a e) d (.lhL sh b a d e) s
/-- R59, R209: LW.L. -/
def execLwL (sh : BitVec 2) (b a d : BitVec 5) (e : BitVec 32) (s : State) : Out := loadOp 4 true (eaX s sh b a e) d (.lwL sh b a d e) s
/-- R59, R209: LD.L. -/
def execLdL (sh : BitVec 2) (b a d : BitVec 5) (e : BitVec 32) (s : State) : Out := loadOp 8 true (eaX s sh b a e) d (.ldL sh b a d e) s
/-- R59, R209: SB.L. -/
def execSbL (sh : BitVec 2) (b a d : BitVec 5) (e : BitVec 32) (s : State) : Out := storeOp 1 (eaX s sh b a e) d (.sbL sh b a d e) s
/-- R59, R209: SH.L. -/
def execShL (sh : BitVec 2) (b a d : BitVec 5) (e : BitVec 32) (s : State) : Out := storeOp 2 (eaX s sh b a e) d (.shL sh b a d e) s
/-- R59, R209: SW.L. -/
def execSwL (sh : BitVec 2) (b a d : BitVec 5) (e : BitVec 32) (s : State) : Out := storeOp 4 (eaX s sh b a e) d (.swL sh b a d e) s
/-- R59, R209: SD.L. -/
def execSdL (sh : BitVec 2) (b a d : BitVec 5) (e : BitVec 32) (s : State) : Out := storeOp 8 (eaX s sh b a e) d (.sdL sh b a d e) s
/-- R59, R209: LBU. -/
def execLbu (sh : BitVec 2) (b a d : BitVec 5) (e : BitVec 32) (s : State) : Out := loadOp 1 false (eaX s sh b a e) d (.lbu sh b a d e) s
/-- R59, R209: LHU. -/
def execLhu (sh : BitVec 2) (b a d : BitVec 5) (e : BitVec 32) (s : State) : Out := loadOp 2 false (eaX s sh b a e) d (.lhu sh b a d e) s
/-- R59, R209: LWU. -/
def execLwu (sh : BitVec 2) (b a d : BitVec 5) (e : BitVec 32) (s : State) : Out := loadOp 4 false (eaX s sh b a e) d (.lwu sh b a d e) s

/-! Atomics. -/

/-- Bytes of an atomic's size field. -/
def amoSize (sz : BitVec 1) : Nat := if sz = 0 then 4 else 8

/-- The atomic itself, once its checks have passed (R217): gD gets the old value, unless it is g0 and the atomic is posted. -/
def amoGo (op : Nat) (sz : BitVec 1) (ea : Word) (b d : BitVec 5) (s : State) (l : Loc) : Out :=
  let n := amoSize sz
  let q := s.takeSeq s.cur l.pa
  let s := q.1
  let o := s.grp.pfx.order
  let p := { s.accessPkt .atomic ea l n with
    seq := q.2, aop := op, arg1 := s.rg b, arg2 := s.rg d, rel := o = 2 || o = 3, acq := acqOf s.grp.pfx }
  if s.atOnce s.cur then
    let r := s.applyAtomic p
    writeG r.1 d (extend n (n = 4 && amoSigned op) r.2)
  else if d = 0 then done (s.sendMem p s.grp.pfx.scope.toNat)
  else .next ((s.request p (.gpr d.toNat n (n = 4 && amoSigned op))).finish)

/-- R216, R217: the checks, then the atomic. -/
def amoOp (op : Nat) (sz : BitVec 1) (b a d : BitVec 5) (i : Instr) (s : State) : Out :=
  let ea := s.rg a
  if d = 0 then posted s ea (.atomic (amoSize sz)) .both i (amoGo op sz ea b d)
  else accessed s ea (.atomic (amoSize sz)) .both i (amoGo op sz ea b d)

/-- R216: old + gB, wrapping. -/
def execAmoadd (sh : BitVec 1) (b a d : BitVec 5) (s : State) : Out := amoOp 0 sh b a d (.amoadd sh b a d) s
/-- R216: signed minimum. -/
def execAmomin (sh : BitVec 1) (b a d : BitVec 5) (s : State) : Out := amoOp 1 sh b a d (.amomin sh b a d) s
/-- R216: signed maximum. -/
def execAmomax (sh : BitVec 1) (b a d : BitVec 5) (s : State) : Out := amoOp 2 sh b a d (.amomax sh b a d) s
/-- R216: unsigned minimum. -/
def execAmominu (sh : BitVec 1) (b a d : BitVec 5) (s : State) : Out := amoOp 3 sh b a d (.amominu sh b a d) s
/-- R216: unsigned maximum. -/
def execAmomaxu (sh : BitVec 1) (b a d : BitVec 5) (s : State) : Out := amoOp 4 sh b a d (.amomaxu sh b a d) s
/-- R216: bitwise and. -/
def execAmoand (sh : BitVec 1) (b a d : BitVec 5) (s : State) : Out := amoOp 5 sh b a d (.amoand sh b a d) s
/-- R216: bitwise or. -/
def execAmoor (sh : BitVec 1) (b a d : BitVec 5) (s : State) : Out := amoOp 6 sh b a d (.amoor sh b a d) s
/-- R216: bitwise exclusive or. -/
def execAmoxor (sh : BitVec 1) (b a d : BitVec 5) (s : State) : Out := amoOp 7 sh b a d (.amoxor sh b a d) s
/-- R216: swap. -/
def execAmoswap (sh : BitVec 1) (b a d : BitVec 5) (s : State) : Out := amoOp 8 sh b a d (.amoswap sh b a d) s
/-- R216, R217: compare with gD and swap. -/
def execAmocas (sh : BitVec 1) (b a d : BitVec 5) (s : State) : Out := amoOp 9 sh b a d (.amocas sh b a d) s
/-- R216, R217: floating add, rounded RNE, no flags. -/
def execAmofadd (sh : BitVec 1) (b a d : BitVec 5) (s : State) : Out := amoOp 10 sh b a d (.amofadd sh b a d) s

/-! FENCE and the full/empty accesses. -/

/-- The order and scope of a FENCE: `.sync.mod` without a prefix (R215). -/
def fenceOrder (p : Prefixes) : Nat := if p.order = 0 then 3 else p.order.toNat
def fenceScope (p : Prefixes) : Nat := if p.order = 0 then 3 else p.scope.toNat

/-- What a FENCE of the task in hand still waits for at a scope (R215): `.acq` for its reads and returning atomics, `.rel` for the
acknowledgements of its writes. -/
def State.fenceWaits (s : State) (order scope : Nat) : Bool :=
  s.net.any fun p => s.mine s.cur p && s.scopeHas s.cur scope (s.homeNow p) &&
    ((order % 2 = 1 && p.isMem && p.dest != .drop) || (2 ≤ order && p.unacked))

/-- R215. -/
def execFence (s : State) : Out :=
  if s.fenceWaits (fenceOrder s.grp.pfx) (fenceScope s.grp.pfx) then park s .fence else done s

/-- R214: LDF and LDFE wait until the word is full, after the accesses that R236 puts before them; LDFE empties it in the same step. -/
def feLoad (empty : Bool) (ea : Word) (d : BitVec 5) (i : Instr) (s : State) : Out :=
  accessed s ea .fe .read i fun s l =>
    if s.niHolds s.me l || s.mustWait s.cur l.pa 8 || !s.isFull l.pa then park s i
    else
      let x := s.readWord l.pa
      writeG (if empty then s.setFull l.pa false else s) d x

/-- R214. -/
def execLdf (sh : BitVec 2) (b a d : BitVec 5) (s : State) : Out := feLoad false (eaR s sh b a) d (.ldf sh b a d) s
/-- R214. -/
def execLdfe (sh : BitVec 2) (b a d : BitVec 5) (s : State) : Out := feLoad true (eaR s sh b a) d (.ldfe sh b a d) s
/-- R214. -/
def execStf (sh : BitVec 2) (b a d : BitVec 5) (s : State) : Out :=
  let ea := eaR s sh b a
  posted s ea .fe .write (.stf sh b a d) fun s l => done (s.commitWrite ea l 8 (s.rg d).toNat true)

/-! Prefetch, tier wait, constant cache. -/

/-- The page frame of a physical address lies in a tier and column: 1 storage tiles, 2 bonded DRAM (R265). -/
def inTier (tier col pa : Nat) : Bool := nbits pa 60 4 == (if tier = 1 then 3 else 0) && nbits pa 44 4 == col

/-- An entry is in use and covers a page (R265). -/
def TierEntry.covers (e : TierEntry) (va : Nat) : Bool :=
  (e.tier == 1 || e.tier == 2) && decide (e.column ≤ 8) && decide (e.base.toNat ≤ va) && decide (va < e.base.toNat + 65536 * e.len)

/-- The earliest unexpired entry that covers a page (R265). -/
def Region.tierOf (r : Region) (va now : Nat) : Option TierEntry :=
  minBy (·.needed) (r.tiers.filter fun e => e.covers va && decide (now ≤ e.needed + e.hold))

/-- The number of that entry. -/
def Region.tierIdx (r : Region) (va now : Nat) : Option Nat := firstIdx (fun e => some e == r.tierOf va now) r.tiers

/-- A fetch of the page that begins with a 64 KiB unit is in progress for PF. -/
def Region.fetchingPage (r : Region) (unit : Nat) : Bool := r.pfs.any fun p => p.page == unit && p.done.isNone

/-- R220: never traps; it drops an address that is misaligned (to the page-table classes: not paged), unmapped or protected. TIER 1 names no
column: the storage tiles of the issuing column are taken (DESIGN CHOICE, log 59). -/
def execPf (sh : BitVec 2) (b a : BitVec 5) (s : State) : Out :=
  let va := (eaR s sh b a).toNat
  let tier := s.grp.pfx.tier.toNat
  if classOf (eaR s sh b a) ≠ .paged || 4 ≤ tier then done s
  else match s.translateAt s.coreNo s.ctx.region s.ctx.priv va .read with
    | (s, .ok pa _) =>
      let r := s.regionAt s.ctx.region
      let aim := if tier = 0 then ((r.tierOf va s.time).filter (·.usable)).map fun e => (e.tier, e.column)
        else some (if tier = 1 then 1 else 2, if tier = 3 then nbits pa 44 4 else s.colNo)
      match aim with
      | none => done s
      | some (t, col) =>
        let u := s.pageUnit s.ctx.region va
        if r.fetchingPage u || (inTier t col pa && r.pfs.any fun p => p.page == u && p.pin) then done s
        else
          let s := s.setRegion { r with pfs := (r.pfs.filter fun p => p.page != u) ++ [{ page := u, tier := t, column := col }] }
          done (s.post 0 .tierFetchStart { x := s.ctx.region.toNat, y := 1024, z := 65536 * u })
    | (s, _) => done s

/-- What PFWAIT makes of a page (R221): 0 READY, 1 LATE, or none while it waits. -/
def State.pfwait (s : State) (region : Word) (va pa : Nat) : Option Nat :=
  let r := s.regionAt region
  match r.tierOf va s.time with
  | some e => if inTier e.tier e.column pa then some 0 else if s.time ≤ e.needed then none else some 1
  | none => match r.pfs.find? fun p => p.page == s.pageUnit region va with
    | none => some 1
    | some p => match p.done with
      | none => none
      | some t => if t = s.time && inTier p.tier p.column pa then some 0 else some 1

/-- R221: items 2 and 3 of R206, then the wait. An address that no page holds has no schedule entry. -/
def execPfwait (sh : BitVec 2) (b a d : BitVec 5) (s : State) : Out :=
  let ea := eaR s sh b a
  match classOf ea with
  | .reserved => trap s cPROTECT ea
  | .noncanon => trap s cPROTECT ea
  | .global => writeG s d 1
  | .role =>
    match s.roleRes s.me ea (.scalar 1) with
    | .bad c v => if c = cALIGN || c = cOWNER then writeG s d 1 else trap s c v
    | .hold => park s (.pfwait sh b a d)
    | _ => writeG s d 1
  | .paged =>
    match s.translateAt s.coreNo s.ctx.region s.ctx.priv ea.toNat .read with
    | (s, .bad c) => trap s c ea
    | (s, .moving) =>
      match (s.leafFrame s.ctx.region ea.toNat).bind fun f => s.pfwait s.ctx.region ea.toNat (65536 * f) with
      | some 1 => writeG s d 1
      | _ => park s (.pfwait sh b a d)
    | (s, .ok pa _) =>
      match s.pfwait s.ctx.region ea.toNat pa with
      | some x => writeG s d (BitVec.ofNat 64 x)
      | none => park s (.pfwait sh b a d)

/-- R222: drop every line of the core's constant cache. -/
def execCinv (s : State) : Out := done (s.setCore { s.core with konst := [] })

end Sys2Proof.Machine
end

