-- ==== Sys2Proof/Machine/Buffers.lean ====
section
/-! DEFINITION. The buffer and ring tables and their instructions (R366 to R373). -/

namespace Sys2Proof.Machine

/-- The handle that gA names (R368). -/
def withHandle (s : State) (a : BitVec 5) (k : Nat → Out) : Out :=
  if (s.rg a).toNat < 64 then k (s.rg a).toNat else trap s cPROTECT (s.rg a)

/-- A valid buffer that gA names. -/
def withBuf (s : State) (a : BitVec 5) (k : Nat → Buf → Out) : Out :=
  withHandle s a fun h =>
    let b := s.myTabs.bufAt h
    if b.valid then k h b else trap s cPROTECT (s.rg a)

/-- A buffer that the issuer holds, else OWNER. -/
def withHeld (s : State) (a : BitVec 5) (k : Nat → Buf → Out) : Out :=
  withBuf s a fun h b => if b.holder.toNat = s.coreNo % 8 then k h b else trap s cOWNER (ownerVal h b)

def State.setBuf (s : State) (h : Nat) (b : Buf) : State := s.setMyTabs (s.myTabs.setBuf h b)

/-- A release at TILE scope (R370): the context's earlier TILE-local accesses are performed first. -/
def tileRelease (s : State) (i : Instr) (k : Out) : Out := if s.fenceWaits 3 1 then park s i else k

/-- R369. -/
def execBstate (a d : BitVec 5) (s : State) : Out := withHandle s a fun h => writeG s d (s.myTabs.bufAt h).image

/-- R369. -/
def execBgive (b a : BitVec 5) (s : State) : Out :=
  withHeld s a fun h bf =>
    let v := s.rg b
    if 15 < v.toNat || (12 ≤ v.toNat && v.toNat ≤ 14) || bf.inring then trap s cPROTECT v
    else tileRelease s (.bgive b a) (done (s.setBuf h { bf with holder := BitVec.ofNat 4 v.toNat }))

/-- The stage logic of a logical tile is acting on a splice (R318, R369). -/
def State.splicing (s : State) (site : Nat) (region : Word) (ltile : Nat) : Bool :=
  s.agenda.any fun p => p.2.1 == .spliceApply && siteOfCore p.2.2.x == site && p.2.2.z == ltile && p.2.2.w == region.toNat

/-- The holder that is an engine or the stage logic has not let go (R369). -/
def State.engineHolds (s : State) (holder : Nat) : Bool :=
  let t := s.tile
  let r := s.ctx.region
  match holder with
  | 8 => t.cp.jobs.any fun j => j.region == r
  | 9 => t.mx.ops.any fun o => o.region == r
  | 10 => t.tw.any fun j => j.region == r
  | 11 => s.splicing s.siteNo r s.ctx.ltile
  | _ => false

/-- R369. -/
def execBtake (a d : BitVec 5) (s : State) : Out :=
  withBuf s a fun h bf =>
    let me := s.coreNo % 8
    if bf.inring then trap s cPROTECT (s.rg a)
    else if bf.holder.toNat < 8 && bf.holder.toNat ≠ me then trap s cOWNER (ownerVal h bf)
    else if s.engineHolds bf.holder.toNat then park s (.btake a d)
    else
      let bf := { bf with holder := BitVec.ofNat 4 me }
      writeG (s.setBuf h bf) d bf.image

/-- R369: READY is a release (R370). -/
def execBmarkState (b a : BitVec 5) (s : State) : Out :=
  withHeld s a fun h bf =>
    let v := s.rg b
    if bf.inring then trap s cPROTECT (s.rg a)
    else if 3 < v.toNat then trap s cPROTECT v
    else
      let r := done (s.setBuf h { bf with state := BitVec.ofNat 2 v.toNat })
      if v.toNat = 2 then tileRelease s (.bmarkState b a) r else r

/-- The buffer that a `define` operand describes, if it is well formed (R369). -/
def defineOf (v : Word) : Option Buf :=
  let b : Buf :=
    { valid := true, window := BitVec.ofNat 4 (bits v 48 4), space := BitVec.ofNat 1 (bits v 47 1), core := BitVec.ofNat 3 (bits v 44 3),
      size := BitVec.ofNat 15 (bits v 29 15), base := BitVec.ofNat 20 (bits v 0 20) }
  let room := if b.space = 1 then 0x100000 else 0x10000
  if bits v 52 12 ≠ 0 || bits v 20 9 ≠ 0 || 10 < bits v 48 4 || b.size = 0 || b.base.toNat % 64 ≠ 0 || (b.space = 1 && b.core ≠ 0) ||
      room < b.base.toNat + 64 * b.size.toNat then none
  else some b

/-- R369. -/
def execBmarkDefine (b a : BitVec 5) (s : State) : Out :=
  withHandle s a fun h =>
    let t := s.myTabs
    if (t.bufAt h).valid then trap s cPROTECT (s.rg a)
    else match defineOf (s.rg b) with
      | none => trap s cPROTECT (s.rg b)
      | some bf =>
        if (t.bufOver bf.space.toNat bf.core.toNat bf.base.toNat (64 * bf.size.toNat)).isSome then trap s cPROTECT (s.rg b)
        else done (s.setBuf h { bf with holder := BitVec.ofNat 4 (s.coreNo % 8) })

/-- R369. -/
def execBmarkRetain (b a : BitVec 5) (s : State) : Out :=
  withHeld s a fun h bf => done (s.setBuf h { bf with retain := bit (s.rg b) 0 })

/-- Invalidate without a release every match entry that names a handle. -/
def TileTabs.unmatch (t : TileTabs) (h : Nat) : TileTabs :=
  { t with mtch := t.mtch.map fun p => if p.2.buf == h then (p.1, { p.2 with valid := false }) else p }

/-- R369. -/
def execBmarkFree (_ a : BitVec 5) (s : State) : Out :=
  withHeld s a fun h bf =>
    if bf.inring then trap s cPROTECT (s.rg a) else done (s.setMyTabs ((s.myTabs.setBuf h { bf with valid := false }).unmatch h))

/-- R369: a mask bit selects a state. -/
def execBwaitBuffer (m : BitVec 4) (a d : BitVec 5) (s : State) : Out :=
  withBuf s a fun _ bf =>
    if m.getLsbD bf.state.toNat then writeG s d (bf.state.setWidth 64) else park s (.bwaitBuffer m a d)

/-! Rings (R371 to R373). -/

def State.ring (s : State) (r : Nat) : Ring := tget s.myTabs.rings r {}
def State.setRing (s : State) (r : Nat) (x : Ring) : State :=
  let t := s.myTabs
  s.setMyTabs { t with rings := tput t.rings r x }

/-- The handle of slot `i`. -/
def Ring.slot (r : Ring) (i : Nat) : Nat := (r.first.toNat + i) % 64

/-- The ring that gA names, and k from gB (R373). -/
def withRing (s : State) (b a : BitVec 5) (k : Nat → Ring → Nat → Out) : Out :=
  let x := s.rg a
  let n := (s.rg b).toNat
  if 7 < x.toNat then trap s cPROTECT x
  else
    let r := s.ring x.toNat
    if r.count = 0 || n = 0 || r.count < n then trap s cPROTECT x else k x.toNat r n

/-- R373: side 0 `cons`, 1 `prod`. -/
def execBwaitRing (side : BitVec 1) (b a d : BitVec 5) (s : State) : Out :=
  withRing s b a fun _ r n =>
    if side = 0 then
      (if n ≤ r.filled then writeG s d (BitVec.ofNat 64 (r.slot r.head)) else park s (.bwaitRing side b a d))
    else if n ≤ r.count - r.filled then writeG s d (BitVec.ofNat 64 (r.slot r.tail)) else park s (.bwaitRing side b a d)

/-- `n` slots from slot `i` take a state and a holder. -/
def TileTabs.advance (t : TileTabs) (r : Ring) (i n : Nat) (st : BitVec 2) (holder : BitVec 4) : TileTabs :=
  (List.range n).foldl (fun t j =>
    let h := r.slot ((i + j) % r.count)
    t.setBuf h { t.bufAt h with state := st, holder := holder }) t

/-- R373: BADV `prod` is a release (R370). -/
def execBadv (side : BitVec 1) (b a d : BitVec 5) (s : State) : Out :=
  withRing s b a fun q r n =>
    let me := BitVec.ofNat 4 (s.coreNo % 8)
    let t := s.myTabs
    if side = 0 then
      if r.cons ≠ me then trap s cOWNER (ownerVal (r.slot r.head) (t.bufAt (r.slot r.head)))
      else if r.filled < n then trap s cPROTECT (s.rg a)
      else
        let s := s.setMyTabs (t.advance r r.head n 0 r.prod)
        writeG (s.setRing q { r with head := (r.head + n) % r.count, filled := r.filled - n }) d (BitVec.ofNat 64 (r.filled - n))
    else if r.prod ≠ me then trap s cOWNER (ownerVal (r.slot r.tail) (t.bufAt (r.slot r.tail)))
    else if r.count - r.filled < n then trap s cPROTECT (s.rg a)
    else tileRelease s (.badv side b a d)
      (let s := s.setMyTabs (t.advance r r.tail n 2 r.cons)
       writeG (s.setRing q { r with tail := (r.tail + n) % r.count, filled := r.filled + n }) d (BitVec.ofNat 64 (r.filled + n)))

/-- Give the slots of a ring their INRING mark, or take it. -/
def TileTabs.ringMark (t : TileTabs) (r : Ring) (q : Nat) (on : Bool) : TileTabs :=
  (List.range r.count).foldl (fun t i =>
    let h := r.slot i
    t.setBuf h { t.bufAt h with inring := on, ring := if on then BitVec.ofNat 3 q else 0 }) t

/-- R372. -/
def execBring (b a : BitVec 5) (s : State) : Out :=
  let x := s.rg a
  let v := s.rg b
  if 7 < x.toNat then trap s cPROTECT x
  else
    let q := x.toNat
    let old := s.ring q
    let t := s.myTabs
    let r : Ring := { first := BitVec.ofNat 6 (bits v 0 6), count := bits v 6 7, prod := BitVec.ofNat 4 (bits v 13 4),
                      cons := BitVec.ofNat 4 (bits v 17 4) }
    if bits v 21 43 ≠ 0 || 64 < r.count || 7 < r.prod.toNat || 7 < r.cons.toNat then trap s cPROTECT v
    else if r.count = 0 then done ((s.setMyTabs (t.ringMark old q false)).setRing q {})
    else if old.count ≠ 0 ||
        !((List.range r.count).all fun i =>
          let bf := t.bufAt (r.slot i)
          bf.valid && !bf.inring && bf.state = 0 && bf.holder = r.prod) then trap s cPROTECT v
    else done ((s.setMyTabs (t.ringMark r q true)).setRing q r)

end Sys2Proof.Machine
end

