-- ==== Sys2Proof/Machine/Issue.lean ====
section
/-! DEFINITION. Which context issues next (R285), the charge of a group's cycles (R80, R282, R396), and the passing of TIME (R86). -/

namespace Sys2Proof.Machine

/-- TIME after `n` ns at a copy in correction: it holds still while ahead and gains a tick per ns while behind (R86). -/
def State.tick (s : State) (n : Nat) : State :=
  if 0 < s.slew then
    let h := Nat.min s.slew.toNat n
    { s with time := s.time + (n - h), slew := s.slew - h }
  else
    let h := Nat.min (-s.slew).toNat n
    { s with time := s.time + n + h, slew := s.slew + h }

/-- The context can issue. -/
def Ctx.canIssue (c : Ctx) : Bool := c.st == .issuing && !c.saving

/-- The order of issue among contexts of one core (R285): class, DEADLINE, then in turn after the last one that issued. -/
def issueKey (last : Nat) (p : Nat × Ctx) : Nat :=
  (p.2.cls.toNat * 2 ^ 64 + p.2.deadline.toNat) * 4 + (p.1 % 4 + 3 - last) % 4

/-- The context of core `k` that issues (R285). -/
def State.coreNext (s : State) (k : Nat) : Option Nat :=
  (minBy (issueKey (s.coreAt k).lastCtx) (s.ctxs.filter fun q => q.2.canIssue && coreOfCtx q.1 == k)).map (·.1)

/-- The context that issues next: cores take turns, and each core chooses by R285 (log 7). -/
def State.pickNext (s : State) : Option Nat :=
  let cs := s.ctxs.filter fun p => p.2.canIssue
  let after := cs.filter fun p => s.coreNo < coreOfCtx p.1
  match (minBy (fun p => p.1) after).orElse fun _ => minBy (fun p => p.1) cs with
  | none => none
  | some p => s.coreNext (coreOfCtx p.1)

/-- Move to the context that issues next. -/
def State.turn (s : State) : State :=
  match s.pickNext with
  | some c => { s with cur := c }
  | none => s

/-! Charging (R80, R282, R396). -/

/-- Charge `n` cycles to an account of a region and logical tile: CYCLEFT stops at 0. -/
def chargeAccount (as : List Account) (region : Word) (ltile n : Nat) : List Account :=
  modFirst (fun a => a.region == region && a.ltile == ltile) (fun a => { a with cycLeft := a.cycLeft - n }) as

/-- REM of an entry from BUDGETREM: 32 bits (R274). -/
def remOf (x : Word) : Word := (x.setWidth 32).setWidth 64

/-- The charge of `n` cycles to the entry in a slot, before the `g` cycles that a BADD added in the same cycle (R80): REM becomes `rem`,
RESV falls; and how many cycles go to the account. -/
def chargeEntry (rq : List RqEntry) (slot n g : Nat) (rem : Word) : List RqEntry × Nat :=
  match rq.find? fun e => e.slot == slot with
  | none => (rq, 0)
  | some e => (modFirst (fun x => x.slot == slot) (fun x => { x with rem := rem, resv := x.resv - g - n + g }) rq, n - (e.resv - g))

/-- Charge `n` cycles to the task in context `c`, whose group wrote BUDGETREM itself (`own`), or added `g` cycles to it: charging
applies before the write (R80). -/
def State.chargeTask (s : State) (c n : Nat) (own : Bool) (g : Nat) : State :=
  let x := s.ctxAt c
  match x.slot with
  | none => s
  | some sl =>
    let k := s.coreAt (coreOfCtx c)
    let rem := if own then x.budgetRem else BitVec.ofNat 64 (x.budgetRem.toNat - g - n + g)
    let r := chargeEntry k.rq sl n g (remOf rem)
    let s := s.setCoreAt (coreOfCtx c) { k with rq := r.1 }
    let t := s.tileAt (siteOfCtx c)
    let s := s.setTileAt (siteOfCtx c) { t with accounts := chargeAccount t.accounts x.region x.ltile r.2 }
    s.setCtxAt c { x with budgetRem := rem, taskCyc := x.taskCyc + BitVec.ofNat 64 n }

/-- Count `n` cycles that are charged on core `k` (R396). -/
def State.spend (s : State) (k n : Nat) : State :=
  s.setCoreAt k { s.coreAt k with cycles := (s.coreAt k).cycles + BitVec.ofNat 64 n }

/-- `n` cycles pass on the core of context `c`, and its task is charged. -/
def State.chargeCtx (s : State) (c n : Nat) (own : Bool) : State := (s.spend (coreOfCtx c) n).chargeTask c n own 0

/-- Charge `n` cycles to an entry that has no context (R282). -/
def State.chargeQueued (s : State) (k n : Nat) (e : RqEntry) : State :=
  let c := s.coreAt k
  let r := chargeEntry c.rq e.slot n 0 (BitVec.ofNat 64 (e.rem.toNat - n))
  let s := s.setCoreAt k { c with rq := r.1 }
  let t := s.tileAt (siteOfCore k)
  s.setTileAt (siteOfCore k) { t with accounts := chargeAccount t.accounts e.region e.ltile r.2 }

/-- Charge `n` cycles of core `k` to the task of a number, wherever its entry is: the one that caused a save (R282). -/
def State.chargeCause (s : State) (k n task : Nat) : State :=
  match s.cores.findSome? fun c => (c.2.rq.find? fun e => e.task == task).map fun e => (c.1, e) with
  | none => s
  | some (k', e) => match e.ctx with
    | some c => (s.spend k n).chargeTask c n false 0
    | none => (s.spend k n).chargeQueued k' n e

/-- The task of the oldest stalled context of a core (R282). -/
def State.oldestStalled (s : State) (k : Nat) : Option Nat :=
  minBy (fun c => (s.ctxAt c).stallAt) ((rangeFrom (4 * k) 4).filter fun c => (s.ctxAt c).st == .stalled)

/-- Cores with a context that is not FREE. -/
def State.occupiedCores (s : State) : List Nat := ((s.ctxs.filter fun p => p.2.st != .free).map fun p => coreOfCtx p.1).foldl sinsert []

/-- `n` cycles pass on core `k`, where no group ends: one task is charged, the one whose context issues there, or else that of the
oldest stalled context (R282). -/
def State.passCore (s : State) (n k : Nat) : State :=
  let x := s.coreAt k
  let s := s.setCoreAt k { x with occupied := x.occupied + n }
  match (s.coreNext k).orElse fun _ => s.oldestStalled k with
  | some c => s.chargeCtx c n false
  | none => s

/-- A busy cycle of an account (R404): some core holds a queued or running entry of it. -/
def State.busyAccount (s : State) (site : Nat) (a : Account) : Bool :=
  (List.range 8).any fun k => (s.coreAt (8 * site + k)).rq.any fun e =>
    e.region == a.region && e.ltile == a.ltile && (e.st == .queued || e.st == .running)

/-- WDCOUNT as the group in hand, an HBEAT of the account, found it (R405). -/
def State.beatOf (s : State) (site : Nat) (a : Account) : Option Nat :=
  s.beat.filter fun _ => site == s.siteNo && a.region == s.ctx.region && a.ltile == s.ctx.ltile

/-- WDCOUNT after `n` busy cycles under a limit, and whether the limit was reached. An HBEAT clears it in the last of them (R405). -/
def countBusy (limit old n : Nat) : Option Nat → Nat × Bool
  | none => (Nat.min limit (old + n), decide (limit ≤ old + n))
  | some w => (1, decide (1 < n ∧ limit ≤ w + (n - 1)) || decide (limit ≤ 1))

/-- The watchdog counts `n` busy cycles of the accounts of a site (R403 to R406). -/
def State.watch (s : State) (n site : Nat) : State :=
  (s.tileAt site).accounts.foldl (fun s a =>
    let r := s.regionAt a.region
    if r.persistent && r.wdLimit ≠ 0 && s.busyAccount site a && !s.domainStopped (colOfSite site) a.region && a.wdCount < r.wdLimit then
      let t := s.tileAt site
      let w := countBusy r.wdLimit a.wdCount n (s.beatOf site a)
      let as := modFirst (fun b => b.region == a.region && b.ltile == a.ltile) (fun b => { b with wdCount := w.1 }) t.accounts
      let s := s.setTileAt site { t with accounts := as }
      if w.2 then s.post 0 .watchdogFire { x := site, y := a.region.toNat, z := a.ltile } else s
    else s) s

/-- `n` cycles pass on every core; those of core `but` are charged already. -/
def State.passCycles (s : State) (n : Nat) (but : Option Nat) : State :=
  let s := { s with cycles := s.cycles + n }
  let s := ((but.toList).foldl sinsert s.occupiedCores).foldl (fun s k =>
    if some k = but then s.setCoreAt k { (s.coreAt k) with occupied := (s.coreAt k).occupied + n } else s.passCore n k) s
  (s.tiles.map (·.1)).foldl (fun s t => s.watch n t) s

/-- A group of context `c` has run to its end (R396): it does not wait, and did not trap. -/
def State.completed (s : State) (c : Nat) (g : Group) : Bool :=
  let x := s.ctxAt c
  x.wait.isNone && !x.tookTrap g.pc0 (s.coreAt (coreOfCtx c)).svec (s.mvecOf (colOfSite (siteOfCtx c)))

/-- The charge after a group of the context in hand; `ran` where it was decoded, and did not trap in that. -/
def State.chargeGroup (s : State) (ran : Bool) : State :=
  let k := s.core
  let s := s.setCore { k with groups := if ran && s.completed s.cur s.grp then k.groups + 1 else k.groups, lastCtx := s.cur % 4,
                              cycles := k.cycles + BitVec.ofNat 64 s.paceCycles }
  { s.chargeTask s.cur s.paceCycles s.budgetWritten s.budgetGrant with budgetWritten := false, budgetGrant := 0 }

/-- After a group: charge it, let TIME and cycles pass, and give the turn on. -/
def State.afterGroup (s : State) (ran : Bool) : State :=
  { ((s.chargeGroup ran).tick s.paceTicks).passCycles s.paceCycles (some s.coreNo) with beat := none }.turn

/-- A group waits before it issues, so that none issued in its cycle: another context of its core issues in it, where one can; else the
cycle is charged to the task of the oldest stalled context (R282). -/
def State.afterWait (s : State) : State :=
  if (s.coreNext s.coreNo).isSome then s
  else
    let s' := match s.oldestStalled s.coreNo with
      | some c => s.chargeCtx c s.paceCycles false
      | none => s
    ((s'.tick s.paceTicks).passCycles s.paceCycles (some s.coreNo)).turn

/-- No event is due and no context can issue: TIME passes, up to the next event where every context is FREE. -/
def State.idleStep (s : State) : State :=
  let unit := Nat.max 1 s.paceTicks
  let dt := if s.ctxs.all fun p => p.2.st == .free then
      (match s.agenda with
       | [] => unit
       | p :: _ => Nat.max 1 (p.1 - s.time)) else unit
  (s.tick dt).passCycles (dt * s.paceCycles / unit) none

/-- The task in a context has used up its budget (R80, R283). -/
def Ctx.overrunDue (c : Ctx) : Bool := c.slot.isSome && c.budgetRem == 0 && !c.inTrap

/-- A stall of the context gives way: a held trap or a spent budget is a stop request (R61, R410). -/
def Ctx.yields (c : Ctx) : Bool := c.st == .stalled && !c.saving && !c.inTrap && (!c.held.isEmpty || c.overrunDue)

/-- A context whose stall gives way now. -/
def State.yielding (s : State) : Option Nat := (s.ctxs.find? fun p => p.2.yields).map (·.1)

/-- A held asynchronous trap can be taken at this boundary; OVERRUN goes first where every held trap has a higher code (R410). -/
def Ctx.asyncDue (c : Ctx) : Bool :=
  !c.held.isEmpty && !c.inTrap && !(c.overrunDue && c.held.all fun h => decide (cOVERRUN.toNat < h.cause.toNat))

end Sys2Proof.Machine
end

