-- ==== Sys2Proof/Machine/Admit.lean ====
section
/-! DEFINITION. Classes, region accounts and admission (R272 to R281). -/

namespace Sys2Proof.Machine

/-- PERIOD as it is taken, 0 for one unending period (R280). -/
def Region.periodOf (r : Region) : Nat := if r.period = 0 then 0 else Nat.max 1000 r.period

/-- The start of the period that holds TIME `t`. -/
def Region.periodStart (r : Region) (t : Nat) : Nat := if r.periodOf = 0 then 0 else t / r.periodOf * r.periodOf

/-- The image of an account in the account array (R280; log 6): CYCLEFT and ENGLEFT, WDCOUNT and DLMISS, start of the period, valid. -/
def Region.acctAddr (r : Region) (ltile : Nat) : Nat := globalPhys r.acctBase + 32 * ltile

def State.writeBack (s : State) (a : Account) : State :=
  let r := s.regionAt a.region
  if r.acctBase = 0 then s
  else
    let b := r.acctAddr a.ltile
    (((s.writeWord b (mkWord [(32, a.cycLeft), (0, a.engLeft)])).writeWord (b + 8) (mkWord [(32, a.wdCount), (0, a.dlMiss)])).writeWord
      (b + 16) (BitVec.ofNat 64 a.start)).writeWord (b + 24) 1

/-- A fresh account, or the one written back in the same period. -/
def State.loadAccount (s : State) (region : Word) (ltile : Nat) : Account :=
  let r := s.regionAt region
  let start := r.periodStart s.time
  let b := r.acctAddr ltile
  let res := if r.reserve = 0 then 0 else s.readWord (globalPhys r.reserve)
  if r.acctBase ≠ 0 && s.readWord (b + 24) = 1 && (s.readWord (b + 16)).toNat = start then
    { region := region, ltile := ltile, cycLeft := s.readNat (b + 4) 4, engLeft := s.readNat b 4, start := start, wdCount := s.readNat (b + 12) 4,
      dlMiss := s.readNat (b + 8) 4, reserve := res }
  else { region := region, ltile := ltile, cycLeft := r.cycQuota, engLeft := r.engQuota, start := start, reserve := res }

def acctOf (as : List Account) (region : Word) (ltile : Nat) : Option Account := as.find? fun a => a.region == region && a.ltile == ltile

/-- Change an account of a site. -/
def State.modAccount (s : State) (site : Nat) (region : Word) (ltile : Nat) (f : Account → Account) : State :=
  let t := s.tileAt site
  s.setTileAt site { t with accounts := modFirst (fun a => a.region == region && a.ltile == ltile) f t.accounts }

/-- An account that nothing on the site is charged to (R280). -/
def State.evictable (s : State) (site : Nat) (a : Account) : Bool :=
  let t := s.tileAt site
  !((List.range 8).any fun k => (s.coreAt (8 * site + k)).rq.any fun e => e.region == a.region && e.ltile == a.ltile) &&
  !(t.mx.ops.any fun o => o.region == a.region && o.ltile == a.ltile) &&
  !(t.cp.jobs.any fun j => j.region == a.region && j.ltile == a.ltile) &&
  !(s.tiles.any fun x => x.2.tw.any fun j => j.region == a.region && j.ltile == a.ltile && siteOfCtx j.ctx == site) &&
  !(s.agenda.any fun p => (p.2.1 == .gangPanelSave || p.2.1 == .gangPanelRestore) && p.2.2.x == site && p.2.2.y == a.region.toNat && p.2.2.z == a.ltile)

/-- Enter an account on a site, with its next refill due. -/
def State.enterAccount (s : State) (site : Nat) (a : Account) : State :=
  let t := s.tileAt site
  let s := s.setTileAt site { t with accounts := t.accounts ++ [a] }
  let p := (s.regionAt a.region).periodOf
  if p = 0 then s else s.postAt (a.start + p) .periodRefill { x := site, y := a.region.toNat, z := a.ltile }

/-- The account of a region and logical tile on a site, loaded where need be; none where all 16 are held (R280). -/
def State.ensureAccount (s : State) (site : Nat) (region : Word) (ltile : Nat) : Option State :=
  let as := (s.tileAt site).accounts
  if (acctOf as region ltile).isSome then some s
  else if as.length < 16 then some (s.enterAccount site (s.loadAccount region ltile))
  else match as.find? (s.evictable site) with
    | none => none
    | some old =>
      let s := s.writeBack old
      let t := s.tileAt site
      let s := s.setTileAt site { t with accounts := t.accounts.filter fun a => !(a.region == old.region && a.ltile == old.ltile) }
      some (s.enterAccount site (s.loadAccount region ltile))

/-- What is offered to admission: the task, its remaining cycles `rem`, and the cycles `resv` it reserves. -/
structure Offer where
  entry : Word
  arg1 : Word := 0
  arg2 : Word := 0
  msg : Word := 0
  /-- CHANNEL, RECORD and LEN of TASKINFO. -/
  channel : Nat := 0xFF
  record : Bool := false
  len : Nat := 0
  deadline : Word := BitVec.allOnes 64
  rem : Nat
  resv : Nat
  cls : BitVec 2
  region : Word
  ltile : Nat
  gang : Bool := false
  /-- Privilege and region of the source (R276 check 1). -/
  priv : BitVec 2 := 2
  srcRegion : Word
  inbox : Option Nat := none
  /-- The entry of a re-posted task (R343). -/
  again : Option RqEntry := none
  launch : Option (Nat × Nat) := none
  deriving DecidableEq, Repr

/-- TASKINFO (R81). -/
def taskInfo (channel : Nat) (cls : BitVec 2) (gang record : Bool) (ltile core len : Nat) : Word :=
  mkWord [(56, channel), (54, cls.toNat), (53, b2n gang), (52, b2n record), (32, ltile), (29, core), (0, len)]

/-- Region `r` is `a` or one of its descendants. -/
def State.descends (s : State) (a r : Word) : Bool :=
  let rec go : Nat → Word → Bool
    | 0, x => x == a
    | n + 1, x => x == a || (x != 0 && (s.regionAt x).parent != x && go n (s.regionAt x).parent)
  go s.regions.length r

def Core.qlen (k : Core) : Nat := k.rq.length + k.lent.length

/-- FULL but for the account (R276 check 4, R274). -/
def Core.full (k : Core) (cls : BitVec 2) : Bool := 64 ≤ k.qlen || (cls != 0 && (60 ≤ k.qlen || k.hold))

/-- Check 3 of R276: an entry re-posted to an INCOMING row is not refused for LEAVING. -/
def State.notCompute (s : State) (site : Nat) (o : Offer) : Bool :=
  let e := s.rmEntry o.region o.ltile
  let incoming := o.again.isSome && (s.tileAt site).tenants.any fun t => t.region == o.region && t.ltile == o.ltile && t.incoming
  !incoming && (s.rmLen o.region ≤ o.ltile || e.state = 3 || e.state = 2 || e.role ≠ 0)

/-- The demand test (R277). -/
def Core.fits (k : Core) (cpt : BitVec 32) (now : Nat) (dl : Word) (rem : Nat) : Bool :=
  let u := k.margin.toNat + sumNat ((k.rq.filter fun e => e.cls == 0).map fun e => e.rem.toNat)
  let dls := k.rq.filter fun e => e.cls == 1
  ((dl :: (dls.filter fun e => decide (dl.toNat ≤ e.deadline.toNat)).map (·.deadline)).all fun d =>
    let c := u + rem + sumNat ((dls.filter fun e => decide (e.deadline.toNat ≤ d.toNat)).map fun e => e.rem.toNat)
    decide (now + (c * 65536 + cpt.toNat - 1) / cpt.toNat ≤ d.toNat))

/-- A U-level source may offer neither an urgent task nor a task of a descendant region (R276 check 1, R298). -/
def spawnDenied (cls priv : BitVec 2) (src region : Word) : Bool := priv = 0 && (cls = 0 || src != region)

/-- Stack area A of a slot of core `k` for a logical tile (R69). -/
def areaOf (ltile k slot : Nat) : Nat := 64 * (8 * ltile + k % 8) + slot

/-- A live entry of the region, wherever it is, owns a stack area (R69). -/
def State.areaTaken (s : State) (region : Word) (a : Nat) : Bool := s.cores.any fun k => k.2.rq.any fun e => e.region == region && e.area == a

/-- The free run-queue slots of a core (R419). -/
def Core.freeSlots (c : Core) : List Nat := (List.range 64).filter fun i => !(c.rq.any fun e => e.slot == i) && !c.lent.contains i

/-- The slot of core `k` for an entry of a region and logical tile: the lowest free one, whose stack area no live entry owns where the
entry is a new task (R69). -/
def State.slotFor (s : State) (k : Nat) (region : Word) (ltile : Nat) (new : Bool) : Option Nat :=
  (s.coreAt k).freeSlots.find? fun i => !(new && s.areaTaken region (areaOf ltile k i))

/-- The tests of R276 in their order on core `k`; `need` is what the account must hold. A core without a slot that the entry may take is
FULL (R69). -/
def State.admitCode (s : State) (k : Nat) (o : Offer) (need : Nat) : State × Nat :=
  let site := siteOfCore k
  let c := s.coreAt k
  if spawnDenied o.cls o.priv o.srcRegion o.region || !s.descends o.srcRegion o.region then (s, 7)
  else if s.domainStopped (colOfSite site) o.region then (s, 5)
  else if s.notCompute site o then (s, 6)
  else if c.full o.cls || (s.slotFor k o.region o.ltile o.again.isNone).isNone then (s, 1)
  else match s.ensureAccount site o.region o.ltile with
    | none => (s, 1)
    | some s =>
      let a := (acctOf (s.tileAt site).accounts o.region o.ltile).getD { region := o.region, ltile := o.ltile }
      if o.cls = 1 && o.deadline.toNat < s.time then (s, 3)
      else if o.cls ≠ 0 && a.cycLeft < need then (s, 4)
      else if o.cls = 1 && (s.cpt k = 0 || !c.fits (s.cpt k) s.time o.deadline o.rem) then (s, 2)
      else (s, 0)

/-- The code goes to RQSTAT.LASTREJ, and a refusal is counted (R276, R396). -/
def State.noteCode (s : State) (k code : Nat) : State :=
  let c := s.coreAt k
  s.setCoreAt k { c with lastRej := BitVec.ofNat 3 code, rejects := if code = 0 then c.rejects else c.rejects + 1 }

/-- The save area of a slot of a core (R419). -/
def State.saveAddr (s : State) (k slot : Nat) : Word :=
  tget (s.colAt (colOfSite (siteOfCore k))).savePool (k % 11520) 0 + BitVec.ofNat 64 (3072 * slot)

/-- STACKK as it is taken, and the top of stack area `a` (R69). -/
def Region.stackTop (r : Region) (a : Nat) : Word :=
  if r.stackK = 0 then 0 else r.stackBase + BitVec.ofNat 64 ((a + 1) * 2 ^ (Nat.min 16 (Nat.max 10 r.stackK)))

/-- The entry that an accepted offer receives on core `k` (R274, R276). -/
def State.newEntry (s : State) (k : Nat) (o : Offer) (gangId : Nat) : RqEntry :=
  let c := s.coreAt k
  let slot := (s.slotFor k o.region o.ltile o.again.isNone).getD 0
  let base : RqEntry := match o.again with
    | some e => { e with slot := slot }
    | none =>
      { slot := slot, entry := o.entry, arg1 := o.arg1, arg2 := o.arg2, msg := o.msg,
        info := taskInfo o.channel o.cls o.gang o.record o.ltile (k % 8) o.len,
        stack := (s.regionAt o.region).stackTop (areaOf o.ltile k slot), area := areaOf o.ltile k slot,
        startBudget := BitVec.ofNat 64 o.rem, task := s.nextTask }
  { base with
    deadline := if o.cls = 2 then BitVec.allOnes 64 else o.deadline
    rem := BitVec.ofNat 64 o.rem, resv := o.resv, region := o.region, ltile := o.ltile, cls := o.cls, gang := o.gang, seq := c.seq,
    save := s.saveAddr k slot, ctx := none, admitted := s.time, inbox := o.inbox, gangId := gangId, undecided := true,
    launch := (o.again.map (·.launch)).getD o.launch }

/-- Enter an accepted offer: its entry, the next sequence number; a free context may take it. -/
def State.enqueue (s : State) (k : Nat) (o : Offer) (gangId : Nat) : State :=
  let e := s.newEntry k o gangId
  let c := s.coreAt k
  ({ s.setCoreAt k { c with rq := c.rq ++ [e], seq := (c.seq + 1) % 2 ^ 32 } with nextTask := s.nextTask + 1 } : State).post 0 .dispatch { x := k }

/-- Take `n` cycles from an account. -/
def State.reserveCycles (s : State) (site : Nat) (region : Word) (ltile n : Nat) : State :=
  s.modAccount site region ltile fun a => { a with cycLeft := a.cycLeft - n }

/-- Offer a task to core `k` (R276): the code, and the state in which an accepted task has its entry. -/
def State.admitTask (s : State) (k : Nat) (o : Offer) : State × Nat :=
  match s.admitCode k o o.resv with
  | (s, 0) => (((s.noteCode k 0).reserveCycles (siteOfCore k) o.region o.ltile o.resv).enqueue k o 0, 0)
  | (s, code) => (s.noteCode k code, code)

/-- The cores of a site. -/
def coresOf (site : Nat) : List Nat := rangeFrom (8 * site) 8

/-- The codes of the cores' tests of a gang's offer (R279), each with its core. -/
def State.gangCodes (s : State) (o : Offer) : List Nat → State × List (Nat × Nat)
  | [] => (s, [])
  | k :: r =>
    let q := s.admitCode k o (8 * o.resv)
    let t := q.1.gangCodes o r
    (t.1, (k, q.2) :: t.2)

/-- Offer a gang task to a site (R279): all eight cores accept, or none keeps an entry, each notes the code of its own test, and the
lowest-numbered refusing core's is returned. -/
def State.admitGang (s : State) (site : Nat) (o : Offer) : State × Nat :=
  let o := { o with gang := true }
  let q := s.gangCodes o (coresOf site)
  match q.2.find? fun p => p.2 != 0 with
  | none =>
    let id := q.1.nextGang
    let s := ({ q.1 with nextGang := id + 1 } : State).reserveCycles site o.region o.ltile (8 * o.resv)
    ((coresOf site).foldl (fun s k => (s.noteCode k 0).enqueue k o id) s, 0)
  | some p => (q.2.foldl (fun s x => s.noteCode x.1 x.2) q.1, p.2)

end Sys2Proof.Machine
end

