-- ==== Sys2Proof/Machine/Vector.lean ====
section
/-! DEFINITION. Vector instructions, OP 0x30 to 0x34 (R143 to R155), and the lane pool (R145 to R147). -/

namespace Sys2Proof.Machine

/-- The 32-bit lane of element `e` of a type (R78). -/
def laneOf (t e : Nat) : Nat := e * tSize t / 4

/-- Element `e` of a register, of type `t`. -/
def el (t : Nat) (v : VWord) (e : Nat) : Nat := vElem v (tSize t) e

/-- Write the enabled elements of vD with the values and flags that `f` gives (R143). -/
def vecMap (s : State) (t : Nat) (d : BitVec 5) (f : Nat → Nat × BitVec 6) : Out :=
  let rs := (s.lanesOn t).map fun e => (e, f e)
  withLanes s (rs.map fun p => (laneOf t p.1, p.2.2)) fun s =>
    done (s.wv d (vPut (s.rv d) (tSize t) (rs.map fun p => (p.1, p.2.1))))

/-- Write enabled elements that raise nothing. -/
def vecBits (s : State) (t : Nat) (d : BitVec 5) (f : Nat → Nat) : Out :=
  done (s.wv d (vPut (s.rv d) (tSize t) ((s.lanesOn t).map fun e => (e, f e))))

/-- An element-wise operation: exact on integers, rounded once on floating types (R143). -/
def arith2 (s : State) (t : BitVec 4) (b a d : BitVec 5) (fi : Int → Int → Int → Int)
    (ff : Nat → FNum → FNum → FNum → FNum × BitVec 6) : Out :=
  let ty := t.toNat
  let va := s.rv a
  let vb := s.rv b
  let vd := s.rv d
  let mode := s.rmode.toNat
  let sat := s.grp.pfx.sat
  vecMap s ty d fun e =>
    let x := el ty va e
    let y := el ty vb e
    let z := el ty vd e
    if tFloat ty then
      let f := tFmt ty
      let r := ff mode (f.decode x) (f.decode y) (f.decode z)
      let q := f.ofArith mode sat r.1
      (q.1, r.2 ||| q.2)
    else tOfInt ty sat (fi (tInt ty x) (tInt ty y) (tInt ty z))

/-- R149. -/
def execVadd (t : BitVec 4) (b a d : BitVec 5) (s : State) : Out :=
  arith2 s t b a d (fun x y _ => x + y) (fun m x y _ => FNum.add m x y)
/-- R149. -/
def execVsub (t : BitVec 4) (b a d : BitVec 5) (s : State) : Out :=
  arith2 s t b a d (fun x y _ => x - y) (fun m x y _ => FNum.sub m x y)
/-- R149. -/
def execVmul (t : BitVec 4) (b a d : BitVec 5) (s : State) : Out :=
  arith2 s t b a d (fun x y _ => x * y) (fun _ x y _ => FNum.mul x y)
/-- R149: one rounding. -/
def execVfma (t : BitVec 4) (b a d : BitVec 5) (s : State) : Out :=
  arith2 s t b a d (fun x y z => x * y + z) (fun m x y z => FNum.fma m x y z)

/-- The lesser or greater of two elements (R149). -/
def elMinmax (t : Nat) (big : Bool) (x y : Nat) : Nat × BitVec 6 :=
  if tFloat t then (tFmt t).minmax big x y
  else (if big then (if tInt t x ≤ tInt t y then y else x) else (if tInt t x ≤ tInt t y then x else y), 0)

/-- R149. -/
def execVmin (t : BitVec 4) (b a d : BitVec 5) (s : State) : Out :=
  vecMap s t.toNat d fun e => elMinmax t.toNat false (el t.toNat (s.rv a) e) (el t.toNat (s.rv b) e)
/-- R149. -/
def execVmax (t : BitVec 4) (b a d : BitVec 5) (s : State) : Out :=
  vecMap s t.toNat d fun e => elMinmax t.toNat true (el t.toNat (s.rv a) e) (el t.toNat (s.rv b) e)

/-- R150. -/
def execVand (t : BitVec 4) (b a d : BitVec 5) (s : State) : Out :=
  vecBits s t.toNat d fun e => el t.toNat (s.rv a) e &&& el t.toNat (s.rv b) e
/-- R150. -/
def execVor (t : BitVec 4) (b a d : BitVec 5) (s : State) : Out :=
  vecBits s t.toNat d fun e => el t.toNat (s.rv a) e ||| el t.toNat (s.rv b) e
/-- R150. -/
def execVxor (t : BitVec 4) (b a d : BitVec 5) (s : State) : Out :=
  vecBits s t.toNat d fun e => el t.toNat (s.rv a) e ^^^ el t.toNat (s.rv b) e

/-- The shift amount of element `e` (R150). -/
def vAmt (t : Nat) (v : VWord) (e : Nat) : Nat := el t v e % (8 * tSize t)

/-- R150: under `.sat` an element whose value changes clamps. -/
def execVshl (t : BitVec 4) (b a d : BitVec 5) (s : State) : Out :=
  if 5 < t.toNat then illegal s
  else vecMap s t.toNat d fun e => tOfInt t.toNat s.grp.pfx.sat (tInt t.toNat (el t.toNat (s.rv a) e) * 2 ^ vAmt t.toNat (s.rv b) e)
/-- R150: zero fill. -/
def execVshr (t : BitVec 4) (b a d : BitVec 5) (s : State) : Out :=
  if 5 < t.toNat then illegal s
  else vecBits s t.toNat d fun e => el t.toNat (s.rv a) e / 2 ^ vAmt t.toNat (s.rv b) e
/-- R150: sign fill. -/
def execVsar (t : BitVec 4) (b a d : BitVec 5) (s : State) : Out :=
  if 5 < t.toNat then illegal s
  else vecBits s t.toNat d fun e =>
    (BitVec.ofInt (8 * tSize t.toNat) (sint (8 * tSize t.toNat) (el t.toNat (s.rv a) e) / (2 ^ vAmt t.toNat (s.rv b) e : Int))).toNat

/-- R148. -/
def execVmov (t : BitVec 4) (a d : BitVec 5) (s : State) : Out := vecBits s t.toNat d fun e => el t.toNat (s.rv a) e
/-- R148. -/
def execVbcast (t : BitVec 4) (a d : BitVec 5) (s : State) : Out := vecBits s t.toNat d fun _ => (s.rg a).toNat
/-- An element extended to a general register (R148, R154): sign-extended for I types, zero-extended for U and floating types. -/
def elToG (t x : Nat) : Word :=
  if tSigned t then BitVec.ofInt 64 (sint (8 * tSize t) x) else BitVec.ofNat 64 (x % 2 ^ (8 * tSize t))
/-- R148. -/
def execVext (t : BitVec 4) (b a d : BitVec 5) (s : State) : Out :=
  writeG s d (elToG t.toNat (el t.toNat (s.rv a) ((s.rg b).toNat % tCount t.toNat)))
/-- R148. -/
def execVins (t : BitVec 4) (b a d : BitVec 5) (s : State) : Out :=
  done (s.wv d (vSet (s.rv d) (tSize t.toNat) ((s.rg b).toNat % tCount t.toNat) (s.rg a).toNat))

/-- The conditions of R151 on two elements. -/
def vcond (t c x y : Nat) : Bool :=
  if tFloat t then
    let a := (tFmt t).decode x
    let b := (tFmt t).decode y
    let un := a.isNan || b.isNan
    match c with
    | 0 => a.eqv b
    | 1 => !a.eqv b
    | 2 => a.lt b
    | 3 => !un && !b.lt a
    | 4 => b.lt a
    | 5 => !un && !a.lt b
    | 6 => un
    | _ => !un
  else
    let a := tInt t x
    let b := tInt t y
    match c with
    | 0 => a == b
    | 1 => a != b
    | 2 => decide (a < b)
    | 3 => decide (a ≤ b)
    | 4 => decide (b < a)
    | 5 => decide (b ≤ a)
    | 6 => false
    | _ => true

/-- R151: the mask of the enabled elements for which the condition holds. -/
def execVcmp (t : BitVec 4) (c : BitVec 3) (b a : BitVec 5) (d : BitVec 3) (s : State) : Out :=
  let ty := t.toNat
  let on := s.lanesOn ty
  let x := fun e => el ty (s.rv a) e
  let y := fun e => el ty (s.rv b) e
  let fl := if tFloat ty then on.map fun e => (laneOf ty e, snanFlag [(tFmt ty).decode (x e), (tFmt ty).decode (y e)]) else []
  let m := (on.filter fun e => vcond ty c.toNat (x e) (y e)).foldl (fun acc e => acc + 2 ^ e) 0
  withLanes s fl fun s => done (s.setCtx (s.ctx.wm d.toNat (BitVec.ofNat 64 m)))

/-- R152: the mask chooses the source. -/
def execVsel (t : BitVec 4) (b a d : BitVec 5) (s : State) : Out :=
  let ty := t.toNat
  done (s.wv d (vPut (s.rv d) (tSize ty) ((List.range (tCount ty)).map fun e =>
    (e, if bit s.maskOf e then el ty (s.rv a) e else el ty (s.rv b) e))))

/-- R152. -/
def execVperm (t : BitVec 4) (b a d : BitVec 5) (s : State) : Out :=
  vecBits s t.toNat d fun e => el t.toNat (s.rv a) (el t.toNat (s.rv b) e % tCount t.toNat)

/-- One element converted from type `u` to type `t` (R153). -/
def elConvert (t u mode : Nat) (sat : Bool) (x : Nat) : Nat × BitVec 6 :=
  match tFloat u, tFloat t with
  | true, true => (tFmt t).ofNum mode sat ((tFmt u).decode x)
  | true, false =>
    let r := ((tFmt u).decode x).toRange mode sat (tLo t) (tHi t)
    ((BitVec.ofInt (8 * tSize t) r.1).toNat, r.2)
  | false, true => (tFmt t).ofNum mode sat (numOfInt (tInt u x))
  | false, false => tOfInt t sat (tInt u x)

/-- R153. -/
def execVcvt (t u : BitVec 4) (a d : BitVec 5) (s : State) : Out :=
  let ty := t.toNat
  let uy := u.toNat
  if 8 < uy || uy = ty then illegal s
  else
    let k := Nat.min (tCount ty) (tCount uy)
    let mode := s.rmode.toNat
    let rs := (s.lanesOn ty).map fun e =>
      (e, if e < k then elConvert ty uy mode s.grp.pfx.sat (el uy (s.rv a) e) else (0, 0))
    withLanes s (rs.map fun p => (laneOf uy p.1, p.2.2)) fun s =>
      done (s.wv d (vPut (s.rv d) (tSize ty) (rs.map fun p => (p.1, p.2.1))))

/-! Reductions (R101, R102, R154). -/

/-- One level of the pairwise tree. -/
def treeLevel (f : Nat → Nat → Nat × BitVec 6) : List (Nat × BitVec 6) → List (Nat × BitVec 6)
  | x :: y :: r =>
    let z := f x.1 y.1
    (z.1, x.2 ||| y.2 ||| z.2) :: treeLevel f r
  | l => l

/-- The pairwise tree over a list of values with the flags of their combinations. -/
def treeFold (f : Nat → Nat → Nat × BitVec 6) : Nat → List (Nat × BitVec 6) → Nat × BitVec 6
  | 0, l => l.headD (0, 0)
  | n + 1, l => treeFold f n (treeLevel f l)

/-- The combination of two values of operation `o`: 0 add, 1 min, 2 max, 3 and, 4 or, 5 xor. Integer sums are kept at 64 bits. -/
def redOp (t o mode : Nat) (x y : Nat) : Nat × BitVec 6 :=
  match o with
  | 0 =>
    if tFloat t then
      let r := FNum.add mode ((tFmt t).decode x) ((tFmt t).decode y)
      let q := (tFmt t).ofArith mode false r.1
      (q.1, r.2 ||| q.2)
    else ((x + y) % 2 ^ 64, 0)
  | 1 => elMinmax t false x y
  | 2 => elMinmax t true x y
  | 3 => (x &&& y, 0)
  | 4 => (x ||| y, 0)
  | _ => (x ^^^ y, 0)

/-- The identity of an operation (R101). -/
def redId (t o : Nat) : Nat :=
  let w := 8 * tSize t
  match o with
  | 0 => if tFloat t then 2 ^ (w - 1) else 0
  | 1 => if tFloat t then (tFmt t).infBits false else (BitVec.ofInt w (tHi t)).toNat
  | 2 => if tFloat t then (tFmt t).infBits true else (BitVec.ofInt w (tLo t)).toNat
  | 3 => 2 ^ w - 1
  | _ => 0

/-- The reduction of a register under a mask, and its flags (R101). -/
def vreduce (t o mode : Nat) (mask : Word) (v : VWord) : Nat × BitVec 6 :=
  let wide := o = 0 && !tFloat t
  treeFold (redOp t o mode) 6 ((List.range (tCount t)).map fun e =>
    let x := el t v e
    (if bit mask e then (if wide then (BitVec.ofInt 64 (tInt t x)).toNat else x) else redId t o, 0))

/-- The result of a reduction as it is written to gD (R154). -/
def redToG (t o x : Nat) : Word := if o = 0 && !tFloat t then BitVec.ofNat 64 x else elToG t x

/-- R154. -/
def execVred (t : BitVec 4) (o : BitVec 3) (a d : BitVec 5) (s : State) : Out :=
  if 5 < o.toNat then illegal s
  else
    let r := vreduce t.toNat o.toNat s.rmode.toNat s.maskOf (s.rv a)
    withLanes s [(0, r.2)] fun s => writeG s d (redToG t.toNat o.toNat r.1)

/-! Quantisation (R155). -/

/-- x × 2^e. -/
def FNum.scale (x : FNum) (k : Int) : FNum :=
  match x with
  | .fin n m e => .fin n m (e + k)
  | x => x

/-- One element in format FMT of R155: the bits, and the flags. A clamped element raises SAT alone. -/
def qElem (fmt mode : Nat) (x : FNum) : Nat × BitVec 6 :=
  let r : Nat × BitVec 6 := match fmt with
    | 0 => let q := x.toRange mode true (-128) 127; ((BitVec.ofInt 8 q.1).toNat, q.2)
    | 1 => smOfNum 8 mode x
    | 2 => smOfNum 4 mode x
    | 3 => smOfNum 2 mode x
    | 4 => F8N.ofNum mode true x
    | _ => F8W.ofNum mode true x
  let fl := if x.isNan then flNV else r.2
  (r.1, if fl &&& flSAT ≠ 0 then flSAT else fl)

/-- Bits of one element of FMT. -/
def qBits (fmt : Nat) : Nat := match fmt with
  | 2 => 4
  | 3 => 2
  | _ => 8

/-- The exponent of a scale word (R155). -/
def scaleE (w : Word) : Int := max (-126) (sint 8 (bits w 0 8))

/-- R155. -/
def execQcvt (t : BitVec 4) (b a d : BitVec 5) (s : State) : Out :=
  let fmt := bits (s.rg b) 8 3
  if 5 < fmt then illegal s
  else
    let ty := t.toNat
    let rs := (s.lanesOn ty).map fun e =>
      (e, qElem fmt s.rmode.toNat (((tFmt ty).decode (el ty (s.rv a) e)).scale (scaleE (s.rg b))))
    withLanes s (rs.map fun p => (laneOf ty p.1, p.2.2)) fun s =>
      done (s.wv d (BitVec.ofNat 512 (rs.foldl (fun acc p => acc + p.2.1 % 2 ^ qBits fmt * 2 ^ (qBits fmt * p.1)) 0)))

/-! The lane pool (R145, R146). -/

/-- The claim of core `k`, with context `except` left out. -/
def State.claimOf (s : State) (k : Nat) (except : Option Nat) : Nat :=
  ((rangeFrom (4 * k) 4).filter fun c => some c != except && (s.ctxAt c).st != .free).foldl (fun acc c => Nat.max acc (s.ctxAt c).vgrant) 0

/-- C(k): 2 when every context of the core is FREE (R145). -/
def State.coreClaim (s : State) (k : Nat) : Nat :=
  if (rangeFrom (4 * k) 4).all fun c => (s.ctxAt c).st == .free then 2 else s.claimOf k none

/-- The grant test of R145 for a claim of `g` lanes by context `c`. -/
def State.grantPasses (s : State) (c g : Nat) : Bool :=
  let k := coreOfCtx c
  let others := ((rangeFrom (8 * siteOfCore k) 8).filter (· != k)).map s.coreClaim
  decide (Nat.max g (s.claimOf k (some c)) + sumNat others ≤ 64)

/-- The grant that a request gets: halved until it passes or is 2 (R146). -/
def State.grantFor (s : State) (c : Nat) : Nat → Nat → Nat
  | 0, g => g
  | n + 1, g => if g ≤ 2 || s.grantPasses c g then g else s.grantFor c n (g / 2)

/-- R146. -/
def execVclaim (r d : BitVec 5) (s : State) : Out :=
  if !(r = 2 || r = 4 || r = 8 || r = 16) then illegal s
  else
    let g := s.grantFor s.cur 4 r.toNat
    writeG (s.setCtx { s.ctx with vgrant := g }) d (BitVec.ofNat 64 g)

end Sys2Proof.Machine
end

