-- ==== Sys2Proof/Machine/Gang.lean ====
section
/-! DEFINITION. Gang instructions, OP 0x38 to 0x3B, and the gang line (R102, R156 to R162). -/

namespace Sys2Proof.Machine

/-- A gang group. -/
def isGang : Instr → Bool
  | .gshuf _ _ _ _ => true
  | .gbcast _ _ _ _ => true
  | .gvote _ _ _ _ => true
  | .gmatch _ _ _ => true
  | .gred _ _ _ _ => true
  | .gscan _ _ _ _ => true
  | .gmax _ _ _ _ => true
  | .gbar _ _ => true
  | _ => false

/-- A group that joins the eight members: a gang group, MGO or MGOT (R156, R172). -/
def joins : Instr → Bool
  | .mgo _ _ _ => true
  | .mgot _ _ _ => true
  | i => isGang i

/-- The member of a site's gang on core `k` (0 to 7): its context. -/
def State.member (s : State) (site k : Nat) : Option Nat :=
  (rangeFrom (32 * site + 4 * k) 4).find? fun c => (s.ctxAt c).gang && (s.ctxAt c).st != .free

/-- The members' contexts, in the order of their cores. -/
def State.members (s : State) (site : Nat) : List Nat := (List.range 8).filterMap (s.member site)

/-- The mask of the absent members (R157): those whose task has ended. -/
def State.absentMask (s : State) (site : Nat) : Nat :=
  match (s.tileAt site).gangLive with
  | some (_, _, live) => 255 - live.toNat
  | none => ((List.range 8).filter fun k => (s.member site k).isNone).foldl (fun acc k => acc + 2 ^ k) 0

/-- The context waits at the gang line. -/
def Ctx.atLine (c : Ctx) : Bool := c.wait.any fun p => joins p.1

/-- Every waiting member traps GANG with the mask of absent members (R157). -/
def State.gangAbsent (s : State) (site : Nat) : State :=
  (s.members site).foldl (fun s c =>
    match (s.ctxAt c).wait with
    | some (i, g) => if joins i then s.enterTrapAt c cGANG (BitVec.ofNat 64 (s.absentMask site)) g.pc0 false false none else s
    | none => s) s

/-- A member issues a gang group (R156, R157): it waits at the line, and the eighth releases it by event `e`. -/
def gangIssue (i : Instr) (e : Instr) (s : State) : Out :=
  let site := s.siteNo
  if !s.ctx.gang then trap s cGANG (BitVec.ofNat 64 (255 - 2 ^ (s.coreNo % 8)))
  else if s.absentMask site ≠ 0 then trap s cGANG (BitVec.ofNat 64 (s.absentMask site))
  else
    let s' := s.setCtx { s.ctx with st := .stalled, wait := some (i, s.grp), stallAt := s.time }
    if (List.range 8).all fun k => (s'.member site k).any fun c => (s'.ctxAt c).atLine then .next (s'.post 0 e { x := site }) else .next s'

/-- R158. -/
def execGshuf (t : BitVec 4) (b a d : BitVec 5) (s : State) : Out := gangIssue (.gshuf t b a d) .gangLineJoin s
/-- R158. -/
def execGbcast (t : BitVec 4) (b a d : BitVec 5) (s : State) : Out := gangIssue (.gbcast t b a d) .gangLineJoin s
/-- R159. -/
def execGvote (t : BitVec 4) (v : BitVec 2) (a : BitVec 3) (d : BitVec 5) (s : State) : Out := gangIssue (.gvote t v a d) .gangLineJoin s
/-- R159. -/
def execGmatch (t : BitVec 4) (a d : BitVec 5) (s : State) : Out := gangIssue (.gmatch t a d) .gangLineJoin s
/-- R160. -/
def execGred (t : BitVec 4) (o : BitVec 3) (a d : BitVec 5) (s : State) : Out := gangIssue (.gred t o a d) .gangLineJoin s
/-- R160. -/
def execGscan (t : BitVec 4) (o : BitVec 3) (a d : BitVec 5) (s : State) : Out := gangIssue (.gscan t o a d) .gangLineJoin s
/-- R161: FMT is checked at the member's own issue, before the join. A task that is no gang member traps GANG first (R157). -/
def execGmax (t : BitVec 4) (b a d : BitVec 5) (s : State) : Out :=
  if s.ctx.gang && 5 < bits (s.rg b) 8 3 then illegal s else gangIssue (.gmax t b a d) .gangLineJoin s
/-- R162: REQ is checked at issue, before R157's test of the gang: the spec does not order the two (DESIGN CHOICE, log 80). -/
def execGbar (r d : BitVec 5) (s : State) : Out :=
  if !(r = 0 || r = 2 || r = 4 || r = 8 || r = 16) then illegal s else gangIssue (.gbar r d) .gangLineJoin s

/-! The join. -/

/-- A member at the line: its context, instruction and group. -/
structure Joined where
  ctx : Nat
  instr : Instr
  grp : Group
  deriving Repr

/-- The members at the line, in the order of their cores; empty unless all eight wait there. -/
def State.joined (s : State) (site : Nat) : List Joined :=
  let ms := (s.members site).filterMap fun c => (s.ctxAt c).wait.map fun p => ({ ctx := c, instr := p.1, grp := p.2 } : Joined)
  if ms.length = 8 && ms.all fun m => joins m.instr then ms else []

/-- OP, LS and F of an instruction (R157). -/
def opF (i : Instr) : Nat × Nat :=
  let w := (encode i).headD 0
  (w % 256, w / 2 ^ 23)

/-- The mask of the members whose OP or F differs from core 0's (R157). -/
def mismatch (ms : List Joined) : Nat :=
  match ms.head? with
  | none => 0
  | some m0 => (ms.zipIdx.filter fun p => opF p.1.instr != opF m0.instr).foldl (fun acc p => acc + 2 ^ p.2) 0

/-- The group of context `c` trapped instead of completing. -/
def State.memberTrapped (s : State) (m : Joined) : Bool :=
  (s.ctxAt m.ctx).tookTrap m.grp.pc0 (s.coreAt (coreOfCtx m.ctx)).svec (s.mvecOf (colOfSite (siteOfCtx m.ctx)))

/-- Let member `m` end its group by `k`: the context in hand, the group in hand, and the rest as for a group of its own; its core counts
the group where it completes (R396). -/
def State.endMember (s : State) (m : Joined) (k : State → Out) : State :=
  let x := s.ctxAt m.ctx
  let s1 := { s.setCtxAt m.ctx { x with st := .issuing, wait := none } with cur := m.ctx, grp := m.grp }
  match k s1 with
  | .next t =>
    let c := t.coreAt (coreOfCtx m.ctx)
    let t := if t.memberTrapped m then t else t.setCoreAt (coreOfCtx m.ctx) { c with groups := c.groups + 1 }
    { t with cur := s.cur, grp := s.grp }
  | _ => s

/-- Every member traps GANG with TRAPVAL `v`. -/
def State.gangTrap (s : State) (ms : List Joined) (v : Nat) : State :=
  ms.foldl (fun s m => s.enterTrapAt m.ctx cGANG (BitVec.ofNat 64 v) m.grp.pc0 false false none) s

/-- The rounding code in force for a member's group (R156). -/
def State.modeOf (s : State) (m : Joined) : Nat := (if m.grp.pfx.rm = 6 then (s.ctxAt m.ctx).rm else m.grp.pfx.rm).toNat

/-- The mask of a member's group. -/
def State.maskFor (s : State) (m : Joined) : Word := (s.ctxAt m.ctx).rmk m.grp.pfx.mask.toNat

/-- The union of flags of a list of results. -/
def flagsOf (l : List (Nat × BitVec 6)) : BitVec 6 := l.foldl (fun acc p => acc ||| p.2) 0

/-- s_c of each member for a reduction (R160). -/
def State.partials (s : State) (ms : List Joined) (t o : Nat) (reg : Joined → Nat) : List (Nat × BitVec 6) :=
  ms.map fun m => vreduce t o (s.modeOf m) (s.maskFor m) ((s.ctxAt m.ctx).rv (reg m))

/-- The greater of two magnitudes for GMAX: a NaN, then an infinity, then the larger value. That a NaN goes before numbers is the model's
choice: R99 lets amax be a NaN, and R129's maximum would drop it (DESIGN CHOICE, log 80). -/
def maxMag (x y : FNum) : FNum :=
  match x, y with
  | .nan b, _ => .nan b
  | _, .nan b => .nan b
  | x, y => if x.lt y then y else x

/-- T of a scale's FMT (R99). -/
def scaleLimit (fmt : Nat) : Nat := match fmt with
  | 2 => 7
  | 3 => 1
  | 4 => 240
  | 5 => 57344
  | _ => 127

/-- The largest e with amax·2^e ≤ T, clamped (R99). -/
def scaleFor (amax : FNum) (t : Nat) : Int :=
  match amax with
  | .fin _ m x =>
    if m = 0 then 0
    else
      let k : Int := (bitLen t : Int) - bitLen m
      let le (y : Int) : Bool := if 0 ≤ y then decide (m * 2 ^ y.toNat ≤ t) else decide (m ≤ t * 2 ^ (-y).toNat)
      max (-126) (min 127 ((if le k then k else k - 1) - x))
  | _ => 0

/-- GMAX's result: amax over members and enabled elements (R161). -/
def State.gmaxOf (s : State) (ms : List Joined) (t : Nat) (reg : Joined → Nat) : FNum :=
  (ms.flatMap fun m => ((List.range (tCount t)).filter fun e => bit (s.maskFor m) e).map fun e =>
    ((tFmt t).decode (el t ((s.ctxAt m.ctx).rv (reg m)) e)).abs).foldl maxMag (.fin false 0 0)

/-- The 6-bit OR of FPFLAGS and every lane byte of a context (R162). -/
def Ctx.allFlags (c : Ctx) : BitVec 6 :=
  (List.range 8).foldl (fun acc l => acc ||| BitVec.ofNat 6 (bits c.vflags0 (8 * l) 6) ||| BitVec.ofNat 6 (bits c.vflags1 (8 * l) 6)) c.fpflags

/-- End every member with the value `v` of its position, and the operation's flags `fl` in lane 0 (R156). A flag that only
some members' TRAPEN enables traps FP on those members, and the others write their destinations (DESIGN CHOICE, log 80). -/
def State.endAll (s : State) (ms : List Joined) (fl : BitVec 6) (k : Nat → Joined → State → Out) : State :=
  ms.zipIdx.foldl (fun s p => s.endMember p.1 fun s => withLanes s [(0, fl)] (k p.2 p.1)) s

/-- The destination register of a gang group. -/
def gangD : Instr → BitVec 5
  | .gshuf _ _ _ d => d
  | .gbcast _ _ _ d => d
  | .gvote _ _ _ d => d
  | .gmatch _ _ d => d
  | .gred _ _ _ d => d
  | .gscan _ _ _ d => d
  | .gmax _ _ _ d => d
  | .gbar _ d => d
  | _ => 0

/-- The A register of a gang group, and its B register. -/
def gangA : Instr → Nat
  | .gshuf _ _ a _ => a.toNat
  | .gbcast _ _ a _ => a.toNat
  | .gvote _ _ a _ => a.toNat
  | .gmatch _ a _ => a.toNat
  | .gred _ _ a _ => a.toNat
  | .gscan _ _ a _ => a.toNat
  | .gmax _ _ a _ => a.toNat
  | _ => 0
def gangB : Instr → Nat
  | .gshuf _ b _ _ => b.toNat
  | .gbcast _ b _ _ => b.toNat
  | .gmax _ b _ _ => b.toNat
  | .gbar r _ => r.toNat
  | _ => 0

/-- vA of member number `c`, as it stood at issue. -/
def State.srcV (s : State) (ms : List Joined) (c : Nat) : VWord :=
  match ms[c]? with
  | some m => (s.ctxAt m.ctx).rv (gangA m.instr)
  | none => 0

/-- The operation of the gang line on the joined members; `i0` is core 0's group (R156 to R162). GVOTE and GMATCH write gD and no mask
register, as R159 says; R65's list of what changes m1 to m7 names them too (DESIGN CHOICE, log 80). -/
def State.gangDo (s : State) (ms : List Joined) (i0 : Instr) : State :=
  let s0 := s
  match i0 with
  | .gshuf t _ _ _ =>
    let ty := t.toNat
    let n := tCount ty
    s.endAll ms 0 fun _ m s =>
      vecBits s ty (gangD m.instr) fun e =>
        let g := el ty ((s0.ctxAt m.ctx).rv (gangB m.instr)) e % (8 * n)
        el ty (s0.srcV ms (g / n)) (g % n)
  | .gbcast t _ _ _ =>
    let ty := t.toNat
    s.endAll ms 0 fun _ m s =>
      vecBits s ty (gangD m.instr) fun e => el ty (s0.srcV ms (((s0.ctxAt m.ctx).rg (gangB m.instr)).toNat % 8)) e
  | .gvote t v _ _ =>
    let n := tCount t.toNat
    let p := ms.map fun m => ((s0.ctxAt m.ctx).rmk (gangA m.instr)).toNat % 2 ^ n
    let r := match v.toNat with
      | 0 => b2n (p.all fun x => x == 2 ^ n - 1)
      | 1 => b2n (p.any fun x => x != 0)
      | 2 => b2n (p.all fun x => some x == p.head?)
      | _ => (p.zipIdx.map fun x => ((List.range n).filter fun e => nbits x.1 e 1 == 1).length * 2 ^ (8 * x.2)).foldl (· + ·) 0
    s.endAll ms 0 fun _ m s => writeG s (gangD m.instr) (BitVec.ofNat 64 r)
  | .gmatch t _ _ =>
    let w := 8 * tSize t.toNat
    let xs := ms.map fun m => ((s0.ctxAt m.ctx).rg (gangA m.instr)).toNat % 2 ^ w
    s.endAll ms 0 fun k m s =>
      writeG s (gangD m.instr)
        (BitVec.ofNat 64 ((xs.zipIdx.filter fun p => p.1 == xs.getD k 0).foldl (fun acc p => acc + 2 ^ p.2) 0))
  | .gred t o _ _ =>
    let ps := s.partials ms t.toNat o.toNat fun m => gangA m.instr
    let r := treeFold (redOp t.toNat o.toNat ((ms.head?.map s.modeOf).getD 0)) 3 ps
    s.endAll ms (r.2 ||| flagsOf ps) fun _ m s => writeG s (gangD m.instr) (redToG t.toNat o.toNat r.1)
  | .gscan t o _ _ =>
    let ps := s.partials ms t.toNat o.toNat fun m => gangA m.instr
    let rs := (List.range 8).map fun k => treeFold (redOp t.toNat o.toNat ((ms.head?.map s.modeOf).getD 0)) 3 (ps.take (k + 1))
    s.endAll ms (flagsOf rs ||| flagsOf ps) fun k m s => writeG s (gangD m.instr) (redToG t.toNat o.toNat ((rs.getD k (0, 0)).1))
  | .gmax t _ _ _ =>
    let fmt := bits ((ms.head?.map fun m => (s0.ctxAt m.ctx).rg (gangB m.instr)).getD 0) 8 3
    let x := s.gmaxOf ms t.toNat fun m => gangA m.instr
    let e := scaleFor x (scaleLimit fmt)
    let fl := match x with
      | .fin _ _ _ => 0
      | _ => flNV
    let w := mkWord [(32, (F32.ofArith 0 false x).1), (8, fmt), (0, (BitVec.ofInt 8 e).toNat)]
    s.endAll ms fl fun _ m s => writeG s (gangD m.instr) w
  | .gbar _ _ =>
    let fl := ms.foldl (fun acc m => acc ||| (s0.ctxAt m.ctx).allFlags) 0
    ms.foldl (fun s m => s.endMember m fun s =>
      let s := if gangB m.instr = 0 then s
        else s.setCtx { s.ctx with vgrant := s.grantFor m.ctx 4 (gangB m.instr) }
      writeG s (gangD m.instr) (fl.setWidth 64)) s
  | _ => s

/-- Members' accesses to their own tile that are still under way (R162). -/
def State.tilePending (s : State) (ms : List Joined) : Bool := ms.any fun m => s.tileBusy m.ctx

/-- GANG_LINE_JOIN (R156): the gang line joins the eight members of a site and releases them. -/
def execGangLineJoin (s : State) : Out :=
  let site := s.ev.x
  let ms := s.joined site
  match ms with
  | [] => .next s
  | m0 :: _ =>
    if mismatch ms ≠ 0 then .next (s.gangTrap ms (mismatch ms))
    else match m0.instr with
      | .gbar _ _ => if s.tilePending ms then .next (s.post 1 .gangLineJoin { x := site }) else .next (s.gangDo ms m0.instr)
      | i => .next (s.gangDo ms i)

end Sys2Proof.Machine
end

