-- ==== Sys2Proof/Machine/Deliver.lean ====
section
/-! DEFINITION. Deliveries to channels: reports and CTL credits (R294, R359, R450, R451), the inbox (R359), offers to admission
(R294, R360), the stage a record waits for (R308, R310), and the ready ring (R275, R301). -/

namespace Sys2Proof.Machine

/-! Reports. -/

/-- Send a CTL-class delivery to a destination word of a region: its slot credit is asked for first (R359). -/
def State.sendCtl (s : State) (region dw a1 a2 : Word) (bytes : List Byte) (forced : Option (BitVec 2 × Option Nat)) (report : Bool)
    (srcRegion : Word) : State :=
  let l := bits dw 32 14
  let id := s.nextPkt
  (s.inject { id := id, op := .credit, dst := (s.rmEntry region l).site, unit := bits dw 29 3, ch := bits dw 10 6, region := region,
              ltile := l, arg1 := a1, arg2 := a2, data := bytes, len := bytes.length, forced := forced, report := report, ctl := true,
              priv := 2, srcRegion := srcRegion, addr := dw, agent := 4 }).post 0 .ctlCreditRequest { x := id }

/-- The region of the supervisor channel of a region (R412). -/
def Region.supOf (r : Region) : Word := if r.supRegion = 0 then r.parent else r.supRegion

/-- A report to the supervisor channel of a region; one that cannot be delivered is recorded in the fault log alone, under `cause`
(R294, R451). -/
def State.reportAs (s : State) (region a1 a2 : Word) (cause : Nat) : State :=
  let r := s.regionAt region
  if s.rmLen r.supOf ≤ bits r.supDest 32 14 then s.reportLog region 0 4 a2 cause
  else s.sendCtl r.supOf r.supDest a1 a2 [] none true region

/-- A report of a code and a destination word (R294). -/
def State.report (s : State) (region a1 a2 : Word) : State := s.reportAs region a1 a2 (a1.toNat % 128)

/-- A pipeline report (R450). -/
def State.pipeReport (s : State) (region : Word) (pipe cause seq : Nat) (g2 : Word) : State :=
  s.reportAs region (mkWord [(48, pipe), (32, cause), (0, seq)]) g2 cause

/-! The inbox (R359). -/

/-- Physical address of a byte of a core's scratchpad of a logical tile, wherever its home is (R186). -/
def State.scratchHome (s : State) (region : Word) (ltile core off : Nat) : Nat :=
  s.homeOf region ltile (s.rmEntry region ltile) 0 core off

/-- The role-space address of a scratchpad byte. -/
def roleAddr (ltile core off : Nat) : Word := mkWord [(50, 2 ^ 14 - 1), (32, ltile), (29, core), (0, off)]

/-- The first byte of an inbox slot in its core's scratchpad. -/
def Core.slotOff (k : Core) (slot : Nat) : Nat := 128 * k.chBase + 1024 * slot

/-- A delivery of a packet in a slot, its payload written there. -/
def State.placeIn (s : State) (k slot : Nat) (p : Packet) (taken : Bool) : State :=
  let c := s.coreAt k
  let d : Delivery :=
    { slot := slot, off := c.slotOff slot, channel := p.ch, order := c.inboxOrder, arg1 := p.arg1, arg2 := p.arg2, len := p.data.length,
      g3 := if p.data.isEmpty then 0 else roleAddr p.ltile (k % 8) (c.slotOff slot), record := p.record, mark := p.mark, region := p.region,
      ltile := p.ltile, num := p.id, at_ := s.time, forced := p.forced, src := p.src, agent := p.agent, priv := p.priv, srcRegion := p.srcRegion,
      dest := p.addr, ctl := p.ctl, report := p.report, taken := taken }
  let s := s.setCoreAt k { c with inbox := c.inbox ++ [d], inboxOrder := c.inboxOrder + 1 }
  s.writeBytes (s.scratchHome p.region p.ltile (k % 8) (c.slotOff slot)) p.data

/-- A slot frees: a kept credit request is granted, and waiting packets may go on. -/
def State.freeSlot (s : State) (k slot : Nat) : State :=
  let c := s.coreAt k
  let s := s.setCoreAt k { c with inbox := c.inbox.filter fun d => d.slot != slot }
  match c.creditReqs with
  | [] => s.wakeHeld
  | id :: r =>
    if (c.slotsFor true).contains slot then
      ((s.setCoreAt k { s.coreAt k with creditReqs := r }).post 0 .ctlCreditRequest { x := id }).wakeHeld
    else s.wakeHeld

/-- Change the delivery in a slot. -/
def State.modDelivery (s : State) (k slot : Nat) (f : Delivery → Delivery) : State :=
  let c := s.coreAt k
  s.setCoreAt k { c with inbox := modFirst (fun d => d.slot == slot) f c.inbox }

/-- A host command ends with a STATUS and a DETAIL (R329). -/
def State.cmdDone (s : State) (q num status detail : Nat) : State :=
  let h := tget s.queues q {}
  ({ s with queues := tput s.queues q { h with cmds := modFirst (fun c => c.num == num) (fun c => { c with fin := some (status, detail) }) h.cmds } }
    : State).post 0 .commandComplete { x := q, y := num }

/-- An AMSG is answered (R330): its command is named by the source of its message, which a NOTIFY names by 0. -/
def State.amsgDone (s : State) (src code : Nat) : State :=
  s.cmdDone (src / 36 % 2 ^ 20) (src / 36 / 2 ^ 20) (if code = 10 then 6 else code) 0

/-- DREJ of the engine that sent a wake-up: the code its last one got, 0 for ACCEPT (R179, R229), while the engine is still at the region
whose work sent it (R68). -/
def State.putDrej (s : State) (agent src : Nat) (region : Word) (code : Nat) : State :=
  let site := siteOfCtx src
  let t := s.tileAt site
  if agent = 1 && t.mx.region = region then s.setTileAt site { t with mx := { t.mx with drej := BitVec.ofNat 3 code } }
  else if agent = 2 && t.cp.region = region then s.setTileAt site { t with cp := { t.cp with drej := BitVec.ofNat 3 code } }
  else s

/-- What a dropped delivery leaves: DREJ of its engine for a wake-up that admission refused (R179, R229), else a report. -/
def State.tellDrop (s : State) (agent src : Nat) (srcRegion dest : Word) (report : Bool) (code : Nat) : State :=
  if code < 8 && (agent = 1 || agent = 2) then s.putDrej agent src srcRegion code
  else if agent = 5 && src / 36 / 2 ^ 20 ≠ 0 then s.amsgDone src code
  else if report then s.reportLog srcRegion src 4 dest code
  else s.report srcRegion (BitVec.ofNat 64 code) dest

def State.dropDelivery (s : State) (k : Nat) (d : Delivery) (code : Nat) : State :=
  (s.freeSlot k d.slot).tellDrop d.agent d.src d.srcRegion d.dest d.report code

/-! Stages (R307, R308). -/

/-- A pipeline control block (R307). -/
structure PipeBlk where
  epoch : Word
  head : Word
  step : Nat
  gen0 : Nat
  deriving DecidableEq, Repr

def State.pipeBlk (s : State) (region : Word) (pipe : Nat) : PipeBlk :=
  let a := globalPhys (s.regionAt region).pipeBase + 64 * pipe
  { epoch := s.readWord a, head := s.readWord (a + 8), step := s.readNat (a + 16) 4, gen0 := s.readNat (a + 24) 1 }

/-- A stage descriptor at a physical address: its words (R308). -/
structure StageDesc where
  pa : Nat
  w0 : Word
  w1 : Word
  handler : Word
  w3 : Word
  w4 : Word
  /-- A reserved field is nonzero. -/
  rsv : Bool
  deriving DecidableEq, Repr

def StageDesc.pipe (d : StageDesc) : Nat := bits d.w0 48 16
def StageDesc.gen (d : StageDesc) : Nat := bits d.w0 40 8
def StageDesc.mode (d : StageDesc) : Nat := bits d.w0 38 2
def StageDesc.first (d : StageDesc) : Bool := bit d.w0 37
def StageDesc.lastSeq (d : StageDesc) : Nat := bits d.w0 0 32
def StageDesc.toEng (d : StageDesc) : Bool := bit d.w1 63
def StageDesc.next (d : StageDesc) : Word := mkWord [(10, bits d.w1 10 36)]
def StageDesc.hasState (d : StageDesc) : Bool := bit d.w3 7
def StageDesc.state (d : StageDesc) : Nat := bits d.w3 0 6
def StageDesc.doff (d : StageDesc) : Nat := bits d.w4 32 32
def StageDesc.budget (d : StageDesc) : Nat := bits d.w4 0 32

/-- The home of a W0 role-space scratchpad or panel-store address of a region. -/
def State.rolePhys (s : State) (region ea : Word) : Nat :=
  let l := bits ea 32 14
  s.homeOf region l (s.rmEntry region l) (bits ea 28 1) (bits ea 29 3) (bits ea 0 24)

def State.stageDesc (s : State) (region ea : Word) : StageDesc :=
  let a := s.rolePhys region ea
  let w0 := s.readWord a
  let w1 := s.readWord (a + 8)
  let w3 := s.readWord (a + 24)
  { pa := a, w0 := w0, w1 := w1, handler := s.readWord (a + 16), w3 := w3, w4 := s.readWord (a + 32),
    rsv := bits w0 32 5 ≠ 0 || bits w1 46 17 ≠ 0 || bits w1 0 10 ≠ 0 || bits w3 8 56 ≠ 0 || bit w3 6 || s.readWord (a + 40) ≠ 0 ||
      s.readWord (a + 48) ≠ 0 || s.readWord (a + 56) ≠ 0 }

def State.putStage (s : State) (d : StageDesc) : State :=
  ((((s.writeWord d.pa d.w0).writeWord (d.pa + 8) d.w1).writeWord (d.pa + 16) d.handler).writeWord (d.pa + 24) d.w3).writeWord (d.pa + 32) d.w4

/-- R308: every record that arrives at such a stage is dropped and reported. -/
def State.badStage (s : State) (k : Nat) (region : Word) (ltile : Nat) (d : StageDesc) : Bool :=
  d.rsv || (d.hasState &&
    (((s.tileAt (siteOfCore k)).tabsOf region ltile).bufAt d.state).holder.toNat ≠ k % 8)

def recSeq (d : Delivery) : Nat := bits d.arg2 32 32
/-- `a` is behind `b` modulo 2^32. -/
def seqBehind (a b : Nat) : Bool := a != b && decide ((b + 2 ^ 32 - a) % 2 ^ 32 < 2 ^ 31)

/-- The record may be taken at a stage (R310). -/
def canTake (d : StageDesc) (x : Delivery) : Bool :=
  if x.record = 1 then recSeq x == (d.lastSeq + 1) % 2 ^ 32
  else recSeq x == d.lastSeq || (d.first && seqBehind (recSeq x) d.lastSeq)

/-- The order of R310 among records that may be taken: SEQ, DATA last, arrival. -/
def takeKey (d : StageDesc) (x : Delivery) : Nat :=
  (if x.record = 1 then 2 ^ 32 else 2 ^ 32 - 1 - (d.lastSeq + 2 ^ 32 - recSeq x) % 2 ^ 32) * 2 ^ 64 + x.order

/-- The channel entry of a core. -/
def State.chanOf (s : State) (k : Nat) (region : Word) (ltile ch : Nat) : Channel :=
  tget ((s.tileAt (siteOfCore k)).tabsOf region ltile).chan (64 * (k % 8) + ch) {}
def State.setChan (s : State) (k : Nat) (region : Word) (ltile ch : Nat) (c : Channel) : State :=
  let t := s.tileAt (siteOfCore k)
  let tabs := t.tabsOf region ltile
  s.setTileAt (siteOfCore k) (t.setTabs region ltile { tabs with chan := tput tabs.chan (64 * (k % 8) + ch) c })

/-- Records that wait for a stage. -/
def State.stageRecs (s : State) (k : Nat) (region : Word) (ltile ch : Nat) : List Delivery :=
  (s.coreAt k).inbox.filter fun d => d.record ≠ 0 && !d.taken && d.channel == ch && d.region == region && d.ltile == ltile

/-- The record that a stage takes next; none while a record task of it runs, or while the next one is held refused (R310). -/
def State.stagePick (s : State) (k : Nat) (region : Word) (ltile ch : Nat) : Option Delivery :=
  let c := s.chanOf k region ltile ch
  if !c.valid || !c.stage || c.blocked then none
  else
    let d := s.stageDesc region c.handler
    let rs := s.stageRecs k region ltile ch
    (if s.badStage k region ltile d || 2 ≤ d.mode then rs.head? else minBy (takeKey d) (rs.filter (canTake d))).filter fun x => !x.refused

/-- Make the stage act on the record it takes next. -/
def State.stageOffer (s : State) (k : Nat) (region : Word) (ltile ch : Nat) : State :=
  match s.stagePick k region ltile ch with
  | none => s
  | some x =>
    let d := s.stageDesc region (s.chanOf k region ltile ch).handler
    let e : Instr := if d.mode = 1 && x.record ≠ 2 && !s.badStage k region ltile d then .passThroughForward
      else match x.record with
        | 1 => .stageTakeData
        | 2 => .spliceApply
        | _ => .stageTakeAbort
    s.post 0 e { x := k, y := ch, z := ltile, w := region.toNat }

/-! Offers (R294, R360). -/

/-- What a delivery on a plain channel offers to admission. A supervisor message and a notice come from the machine itself, so their
source is the region that takes them (log 23). -/
def deliveryOffer (c : Channel) (d : Delivery) : Offer :=
  let cls := (d.forced.map (·.1)).getD c.cls
  let budget := ((d.forced.bind (·.2)).getD c.budget.toNat)
  { entry := c.handler, arg1 := d.arg1, arg2 := d.arg2, msg := d.g3, channel := d.channel, record := d.record ≠ 0, len := d.len,
    deadline := if cls = 2 then BitVec.allOnes 64 else BitVec.ofNat 64 (d.at_ + c.reldl.toNat), rem := budget,
    resv := if cls = 0 then 0 else budget, cls := cls, region := d.region, ltile := d.ltile, priv := d.priv,
    srcRegion := if d.ctl then d.region else d.srcRegion, inbox := some d.slot }

/-- Offer the delivery in a slot. A watchdog message whose supervisor channel lies in a stopped domain waits for the restart (R406). -/
def State.offerOne (s : State) (k : Nat) (d : Delivery) : State :=
  let c := s.chanOf k d.region d.ltile d.channel
  if !c.valid then s.dropDelivery k d 8
  else if c.stage then (if d.record = 0 then s.dropDelivery k d 8 else s.stageOffer k d.region d.ltile d.channel)
  else if c.blocked then s
  else match s.admitTask k (deliveryOffer c d) with
    | (s, 0) =>
      let s := (s.modDelivery k d.slot fun d => { d with taken := true }).putDrej d.agent d.src d.srcRegion 0
      if d.agent = 5 && d.src / 36 / 2 ^ 20 ≠ 0 then s.amsgDone d.src 0 else s
    | (s, code) =>
      let wake := d.agent = 1 || d.agent = 2
      let held := code = 1 || code = 2 || code = 4 || (code = 6 && (s.rmEntry d.region d.ltile).state = 2) ||
        (code = 5 && d.ctl && d.forced == some (0, none))
      if held && !wake then s.modDelivery k d.slot fun d => { d with refused := true } else s.dropDelivery k d code

/-- A delivery that waits in a slot may be offered: no earlier one of its stream is held, in whatever inbox of the column (R241, R294). A
record at a stage has an order of its own (R310). -/
def State.mayOffer (s : State) (k : Nat) (d : Delivery) : Bool :=
  let c := s.chanOf k d.region d.ltile d.channel
  !d.taken && !d.refused && (d.ctl || (c.stage && d.record != 0) || !s.heldAhead (colOfSite (siteOfCore k)) d.key d.num)

/-- Offer deliveries that wait in slots, in arrival order. -/
def State.offerList (s : State) (k : Nat) : List Delivery → State
  | [] => s
  | d :: r => (if s.mayOffer k d then s.offerOne k d else s).offerList k r

/-- A delivery of the column that waits for nothing any more: neither its channel nor its stream holds it. -/
def State.freedOf (s : State) (col : Nat) : Option (Nat × Delivery) :=
  s.cores.findSome? fun p => if colOfSite (siteOfCore p.1) = col then
      (p.2.inbox.find? fun d =>
        let c := s.chanOf p.1 d.region d.ltile d.channel
        s.mayOffer p.1 d && !(c.valid && (c.blocked || (c.stage && d.record != 0)))).map fun d => (p.1, d)
    else none

/-- Offer, one after the other, what the end of a hold has freed in other inboxes of the column. -/
def State.offerFreed (s : State) (col : Nat) : Nat → State
  | 0 => s
  | n + 1 => match s.freedOf col with
    | none => s
    | some (k, d) => (s.offerOne k d).offerFreed col n

/-- The inbox of a core is offered, and what waits in others of the column for its deliveries. -/
def State.offerInbox (s : State) (k : Nat) : State :=
  let col := colOfSite (siteOfCore k)
  let n := ((s.cores.filter fun p => colOfSite (siteOfCore p.1) == col).map fun p => p.2.inbox.length).foldl (· + ·) 0
  ((s.offerList k (s.coreAt k).inbox).offerFreed col n).wakeHeld

/-- What was held on a core is offered again, and the queue dispatches (R275, R294): all of it, or only what is of one account. -/
def State.kickWhere (s : State) (k : Nat) (acct : Option (Word × Nat)) : State :=
  let c := s.coreAt k
  let of (region : Word) (l : Nat) : Bool := acct.all fun a => a.1 == region && a.2 == l
  let head := c.ready.head?.all fun x => of x.2.1 (bits x.1 32 14)
  let s := s.setCoreAt k { c with
    readyHeld := c.readyHeld && !head
    inbox := c.inbox.map fun d => if of d.region d.ltile then { d with refused := false } else d }
  ((s.offerInbox k).post 0 .readyRingOffer { x := k }).post 0 .dispatch { x := k }

/-- After a TEND, save, demotion or commit. -/
def State.kickCore (s : State) (k : Nat) : State := s.kickWhere k none

/-- A delivery of a packet arrives at its core (R359): it takes a slot and is offered. -/
def State.arrive (s : State) (p : Packet) : State :=
  let k := 8 * p.dst + p.unit
  let c := s.coreAt k
  let got := s.setCoreAt k { c with msgRecv := c.msgRecv + 1, credits := if p.ctl then c.credits - 1 else c.credits }
  if c.chSize = 0 then (got.consume p).tellDrop p.agent p.src p.srcRegion p.addr p.report 1
  else match c.slotFree p.ctl with
    | none => s.standBy p
    | some sl => (((got.placeIn k sl p false).consume p).offerInbox k)

/-! The ready ring (R275, R301). -/

/-- Put a codelet at the end of the ready ring of a core, or of its overflow list, which is linked through memory (R301). -/
def State.linkReady (s : State) (k : Nat) (a region : Word) (priv : BitVec 2) : State :=
  let c := s.coreAt k
  if c.ready.length < 32 && c.overflow.isEmpty then s.setCoreAt k { c with ready := c.ready ++ [(a, region, priv)] }
  else
    let s := s.writeWord (s.rolePhys region a + 56) 0
    let s := match c.overflow.getLast? with
      | some t => s.writeWord (s.rolePhys t.2.1 t.1 + 56) a
      | none => s
    s.setCoreAt k { c with overflow := c.overflow ++ [(a, region, priv)] }

/-- LINK of each codelet of the overflow list of a core names the next one, and that of the last is 0 (R301). -/
def State.relink (s : State) : List (Word × Word × BitVec 2) → State
  | [] => s
  | q :: r => (s.writeWord (s.rolePhys q.2.1 q.1 + 56) ((r.head?.map (·.1)).getD 0)).relink r

/-- Codelets that `keep` does not select leave the ready ring and the overflow list of a core, and the list's head moves into the ring as far
as there is room (R301). -/
def State.sievedReady (s : State) (k : Nat) (keep : Word × Word × BitVec 2 → Bool) : State :=
  let c := s.coreAt k
  if (c.ready ++ c.overflow).all keep then s
  else
    let all := c.ready.filter keep ++ c.overflow.filter keep
    ((s.setCoreAt k { c with ready := all.take 32, overflow := all.drop 32, readyHeld := c.readyHeld && c.ready.head?.all keep }).relink
      (all.drop 32)).post 0 .readyRingOffer { x := k }

/-- Push a codelet onto the ready ring of a core. -/
def State.pushReady (s : State) (k : Nat) (a region : Word) (priv : BitVec 2) : State :=
  let c := s.coreAt k
  ((s.setCoreAt k { c with msgRecv := c.msgRecv + 1 }).linkReady k a region priv).post 0 .readyRingOffer { x := k }

/-- The head leaves the ring, and the overflow list's head moves in. -/
def Core.popReady (c : Core) : Core :=
  match c.overflow with
  | [] => { c with ready := c.ready.drop 1 }
  | x :: r => { c with ready := c.ready.drop 1 ++ [x], overflow := r }

/-- What a codelet offers, read at the offer; none for a malformed descriptor (R301). -/
def State.codeletOffer (s : State) (a region : Word) (priv : BitVec 2) : Option Offer :=
  let b := s.rolePhys region a
  let w5 := s.readWord (b + 40)
  let entry := s.readWord (b + 8)
  let cls := bits w5 62 2
  if cls = 3 || bits w5 0 32 = 0 || bits w5 32 30 ≠ 0 || bits entry 0 2 ≠ 0 then none
  else some { entry := entry, arg1 := s.readWord (b + 16), arg2 := s.readWord (b + 24), msg := s.readWord (b + 48),
              deadline := if cls = 2 then BitVec.allOnes 64 else s.readWord (b + 32), rem := bits w5 0 32,
              resv := if cls = 0 then 0 else bits w5 0 32, cls := BitVec.ofNat 2 cls, region := region, ltile := bits a 32 14,
              priv := priv, srcRegion := region }

/-- READY_RING_OFFER (R275): the head of the ready ring is offered to admission. -/
def execReadyRingOffer (s : State) : Out :=
  let k := s.ev.x
  let c := s.coreAt k
  if c.readyHeld then .next s
  else match c.ready with
    | [] => .next s
    | (a, region, priv) :: _ =>
      let gone (s : State) : State := (s.setCoreAt k (s.coreAt k).popReady).post 0 .readyRingOffer { x := k }
      match s.codeletOffer a region priv with
      | none => .next ((gone s).report region 8 a)
      | some o =>
        match s.admitTask k o with
        | (s, 0) => .next (gone s)
        | (s, code) =>
          if code = 1 || code = 2 || code = 4 then .next (s.setCoreAt k { s.coreAt k with readyHeld := true })
          else .next ((gone s).report region (BitVec.ofNat 64 code) a)

/-- CTL_CREDIT_REQUEST (R359), once its source has let it into the mesh: the destination NI grants a reserved slot, keeps the request, or answers with a retry; with SIZE 0
it refuses, and the delivery is dropped and reported. -/
def execCtlCreditRequest (s : State) : Out :=
  match s.pkt s.ev.x with
  | none => .next s
  | some p =>
    let k := 8 * p.dst + p.unit
    let c := s.coreAt k
    let used := (c.inbox.filter fun d => d.ctl).length + c.credits
    if !s.mayGo p then .next (s.standBy p)
    else if c.chSize = 0 then .next ((s.consume p).tellDrop p.agent p.src p.srcRegion p.addr p.report 1)
    else if used < 2 then
      .next (((s.setCoreAt k { c with credits := c.credits + 1 }).setPkt p.id fun q => { q with op := .send }).post 0 .sendArrival { x := p.id })
    else if c.creditReqs.length < 64 then .next (s.setCoreAt k { c with creditReqs := c.creditReqs ++ [p.id] })
    else .next ((s.setPkt p.id fun q => { q with op := .creditRetry }).post 1000 .ctlCreditRetry { x := p.id })

/-- CTL_CREDIT_RETRY (R359): the source asks again 1 µs later. -/
def execCtlCreditRetry (s : State) : Out :=
  match s.pkt s.ev.x with
  | none => .next s
  | some p => .next ((s.setPkt p.id fun q => { q with op := .credit }).post 0 .ctlCreditRequest { x := p.id })

end Sys2Proof.Machine
end

