-- ==== Sys2Proof/Machine/Channels.lean ====
section
/-! DEFINITION. Blocks in memory that an instruction hands over (R292), and the instructions of the channel and match tables (R361 to
R365). -/

namespace Sys2Proof.Machine

/-- An instruction below its privilege level traps PRIVILEGE (R7); the spec gives no TRAPVAL for it, which is a free value (log 10). -/
def needS (s : State) (k : Out) : Out := if s.ctx.priv = 0 then trap s.free.2 cPRIVILEGE s.free.1 else k

/-- A block of `n` bytes in the tile memory of the issuing logical tile (R292), `al`-aligned, read whole. A block in another
party's buffer traps after the other checks, with TRAPVAL gB as R292 says; R367 would have the handle and its holder there (log 80). -/
def withBlock (s : State) (ea : Word) (n al : Nat) (i : Instr) (k : State → List Byte → Out) : Out :=
  let formed (r : Out) : Out :=
    if bits ea 24 4 ≠ 0 || bits ea 32 14 ≠ s.ctx.ltile then trap s cPROTECT ea else if ea.toNat % al ≠ 0 then trap s cALIGN ea else r
  if classOf ea ≠ .role then trap s cPROTECT ea
  else match s.resolveNow s.me ea (.block n) .read with
    | (s, .bad c v) => if c = cOWNER then formed (trap (s.logBad s.me ea (.block n) c) c ea) else trap (s.logBad s.me ea (.block n) c) c v
    | (s, .err c v) => trap (s.logRefused s.me ea n c) c v
    | (s, .hold) => park s i
    | (s, .ok l) => formed (if s.mustWait s.cur l.pa n then park s i else k s (memRead s.mem l.pa n))

/-- Word `i` of a block. -/
def blockWord (bs : List Byte) (i : Nat) : Word := BitVec.ofNat 64 (leNat ((bs.drop (8 * i)).take 8))

/-- The channel that gA names (R361). -/
def withChan (s : State) (a : BitVec 5) (k : Nat → Out) : Out := if (s.rg a).toNat < 512 then k (s.rg a).toNat else trap s cPROTECT (s.rg a)

/-- The core, and the channel on it, of a channel name. -/
def State.nameCore (s : State) (n : Nat) : Nat := 8 * s.siteNo + n / 64

/-- The block is no channel entry (R362). -/
def chanBad (w0 w1 w2 w3 : Word) : Bool :=
  let c := Channel.ofWords w0 w1 w2
  bits w1 32 27 ≠ 0 || bits w2 32 32 ≠ 0 || w3 ≠ 0 || c.cls = 3 || (c.valid && c.budget = 0 && !c.stage) ||
  bits w0 0 (if c.stage then 6 else 2) ≠ 0 || (c.stage && c.cls ≠ 1) || (c.cls = 2 && c.reldl ≠ 0)

/-- R362. -/
def execChcfg (b a d : BitVec 5) (s : State) : Out :=
  needS s <| withChan s a fun n =>
    let ea := s.rg b
    withBlock s ea 32 32 (.chcfg b a d) fun s bs =>
      let w0 := blockWord bs 0
      let w1 := blockWord bs 1
      let w2 := blockWord bs 2
      if chanBad w0 w1 w2 (blockWord bs 3) then trap s cPROTECT ea
      else
        let t := s.myTabs
        let old := (tget t.chan n {}).w1
        let s := s.setMyTabs { t with chan := tput t.chan n (Channel.ofWords w0 w1 w2) }
        writeG (s.offerInbox (s.nameCore n)) d old

/-- Set BLOCKED of a plain channel (R363). -/
def setBlocked (s : State) (a : BitVec 5) (v : Bool) : Out :=
  withChan s a fun n =>
    let t := s.myTabs
    let c := tget t.chan n {}
    if c.stage then trap s cPROTECT (s.rg a)
    else
      let s := s.setMyTabs { t with chan := tput t.chan n { c with blocked := v } }
      done (if v then s else s.offerInbox (s.nameCore n))

/-- R363. -/
def execChblk (a : BitVec 5) (s : State) : Out := setBlocked s a true
/-- R363. -/
def execChunb (a : BitVec 5) (s : State) : Out := setBlocked s a false

/-- R365. -/
def execMatchTbl (b a d : BitVec 5) (s : State) : Out :=
  let x := s.rg a
  let t := s.myTabs
  if bit x 63 then
    let i := bits x 0 5
    if bits x 42 21 ≠ 0 || bits x 5 7 ≠ 0 || s.rg b ≠ 0 then trap s cPROTECT x
    else
      let e := tget t.mtch i {}
      if e.valid then writeG (s.setMyTabs { t with mtch := tput t.mtch i { e with valid := false } }) d 1 else writeG s d 0
  else if bits x 42 21 ≠ 0 || bits x 6 6 ≠ 0 || bits x 21 21 = 0 || !(t.bufAt (bits x 0 6)).valid then trap s cPROTECT x
  else match (List.range 32).find? fun i => !(tget t.mtch i {}).valid with
    | none => writeG s d (BitVec.allOnes 64)
    | some i =>
      let e : MatchE := { valid := true, buf := bits x 0 6, core := bits x 12 3, channel := bits x 15 6, count := bits x 21 21, arg := s.rg b }
      writeG (s.setMyTabs { t with mtch := tput t.mtch i e }) d (BitVec.ofNat 64 i)

end Sys2Proof.Machine
end

