-- ==== Sys2Proof/Machine/RoleMap.lean ====
section
/-! DEFINITION. The instructions of OP 0x3D (R352 to R357): ROLE, RMAP, LEASE, LREL, NOTACK. -/

namespace Sys2Proof.Machine

/-- A region that exists: it was created and has not ended. -/
def State.regionExists (s : State) (r : Word) : Bool := thas s.regions r.toNat && !(s.regionAt r).ended

/-- R353: the NI's cached word 0 with VALID, or 0 and a fill. Either is a use of the entry (R336). -/
def execRole (a d : BitVec 5) (s : State) : Out :=
  let x := s.rg a
  let l := x.toNat
  if s.rmLen s.ctx.region ≤ l || 2 ^ 14 ≤ l then trap s cPROTECT x
  else match s.tile.rmCache.find? fun c => c.region == s.ctx.region && c.ltile == l with
    | some c => writeG (s.fillRm s.siteNo s.ctx.region l) d (setField (setField c.w0 0 38 0) 0 1 1)
    | none => writeG (s.fillRm s.siteNo s.ctx.region l) d 0

/-- A REQUEST for an entry is pending. -/
def State.reqPending (s : State) (region : Word) (l : Nat) : Bool :=
  s.cols.any fun c => c.2.reqs.any fun q => q.region == region && q.ltile == l && q.op == 1

/-- The entry is in the wrong state for REQUEST or RELEASE (R354). -/
def State.rmapRefused (s : State) (region : Word) (l op : Nat) : Bool :=
  let r := s.regionAt region
  let e := s.rmEntry region l
  r.rmCap ≤ l ||
  (if op = 1 then s.reqPending region l || !((l < r.rmLen && e.state = 3) || l = r.rmLen)
   else r.rmLen ≤ l || e.state ≠ 0 || e.leased)

/-- R354. -/
def execRmap (b a d : BitVec 5) (s : State) : Out :=
  needS s <|
    let x := s.rg a
    let region := if s.rg b = 0 then s.ctx.region else s.rg b
    let l := bits x 32 14
    let op := bits x 0 4
    if bits x 46 18 ≠ 0 || bits x 10 22 ≠ 0 || bits x 4 4 ≠ 0 || bits x 8 2 = 3 || 2 < op ||
        !(region == s.ctx.region || (s.regionExists region && s.descends s.ctx.region region)) then trap s cPROTECT x
    else if op = 0 then
      let t := s.tile
      writeG (s.setTile { t with rmCache := t.rmCache.filter fun c => c.region != region }) d 0
    else if s.rmapRefused region l op then writeG s d 1
    else
      let c := s.colAt s.colNo
      let s := s.setColAt s.colNo { c with reqs := c.reqs ++ [{ region := region, ltile := l, role := bits x 8 2, op := op }] }
      writeG (s.post 0 .rmapAction { x := s.colNo }) d 0

/-- R355: the request goes to the census with its lease block. -/
def execLease (b a : BitVec 5) (s : State) : Out :=
  let ea := s.rg a
  if classOf ea == .role && bit ea 28 then trap s cPROTECT ea
  else withBlock s ea 16 16 (.lease b a) fun s bs =>
    let d := s.takeDelay
    let id := d.1.nextPkt
    done ((d.1.inject { id := id, op := .lease, src := s.cur, region := s.ctx.region, ltile := s.ctx.ltile, addr := ea,
                        arg1 := blockWord bs 0, arg2 := s.rg b, time := s.time }).post d.2 .leaseRequest { x := id })

/-- R356. -/
def execLrel (a : BitVec 5) (s : State) : Out :=
  let x := s.rg a
  if 63 < x.toNat then trap s cPROTECT x
  else done (s.post 0 .lrelArrival { x := s.ctx.region.toNat, y := x.toNat })

/-- What the reading of a NOTACK table gives: its words, zeros for a refused read, a trap, or a wait. -/
inductive TableRead where
  | words (ws : List Word)
  | zeros
  | bad (cause : BitVec 8) (val : Word)
  | hold
  deriving DecidableEq, Repr

/-- Read `n` words of the table from an address upward. -/
def State.tableWords (s : State) : Nat → Word → State × TableRead
  | 0, _ => (s, .words [])
  | n + 1, ea =>
    match s.resolveNow s.me ea (.block 8) .read with
    | (s, .bad c v) => (s.logBad s.me ea (.block 8) c, .bad c v)
    | (s, .err c _) => (s.logRefused s.me ea 8 c, .zeros)
    | (s, .hold) => (s, .hold)
    | (s, .ok l) =>
      if s.mustWait s.cur l.pa 8 then (s, .hold) else
      let w := BitVec.ofNat 64 (s.readLoc l 8)
      match s.tableWords n (ea + 8) with
      | (s, .words ws) => (s, .words (w :: ws))
      | r => r

/-- The forms that a destination table's address may take (R357). -/
def State.tableForm (s : State) (ea : Word) : Bool :=
  match classOf ea with
  | .role => bits ea 24 4 = 0 && !bit ea 28 && bits ea 32 14 = s.ctx.ltile
  | .paged | .global => true
  | _ => false

/-- The answer of the census to a NOTACK (R357). -/
def State.notack (s : State) (nid : Nat) (ws : List Word) : State × Nat :=
  let mine (p : MoveEnt) : Bool := p.region == s.ctx.region && p.nid == nid
  match s.tiles.find? fun t => t.2.leaving.any fun m => m.phase < 3 && m.ents.any mine with
  | none => (s, 1)
  | some (t, x) =>
    match x.leaving with
    | none => (s, 1)
    | some m =>
      if m.leaveAt ≤ s.time then (s, 2)
      else
        let l := ((m.ents.find? mine).map (·.ltile)).getD 0
        let acks := (m.acks.filter fun q => !(q.1 == s.ctx.region && q.2.1 == l)) ++ [(s.ctx.region, l, ws)]
        (s.setTileAt t { x with leaving := some { m with acks := acks } }, 0)

/-- R357. -/
def execNotack (b a d : BitVec 5) (s : State) : Out :=
  let x := s.rg a
  let ea := s.rg b
  let answer (s : State) (ws : List Word) : Out :=
    match s.notack x.toNat ws with
    | (s, r) => writeG s d (BitVec.ofNat 64 r)
  if 2 ^ 16 ≤ x.toNat then trap s cPROTECT x
  else if ea = 0 then answer s (List.replicate 64 0)
  else if !s.tableForm ea then trap s cPROTECT ea
  else if ea.toNat % 8 ≠ 0 then trap s cALIGN ea
  else match s.tableWords 64 ea with
    | (s, .words ws) => answer s ws
    | (s, .zeros) => answer s (List.replicate 64 0)
    | (s, .bad c v) => trap s c v
    | (s, .hold) => park s (.notack b a d)

end Sys2Proof.Machine
end

