-- ==== Sys2Proof/Machine/Sched.lean ====
section
/-! DEFINITION. Task start and end, dispatch, preemption, saves and restores, gangs, refills (R66, R69, R120, R280 to R288, R419 to
R422), and the traps of budgets and engines (R80, R283, R410). -/

namespace Sys2Proof.Machine

/-! Register images (R72 to R82). -/

def stCode : CtxState → Nat
  | .free => 0
  | .issuing => 1
  | .stalled => 2
  | .stopped => 3

/-- CTXSTAT (R72). -/
def Ctx.ctxstat (c : Ctx) : Word := mkWord [(6, c.cls.toNat), (4, c.priv.toNat), (3, b2n c.gang), (2, b2n c.inTrap), (0, stCode c.st)]

/-- TRAPSTAT (R74). -/
def TrapRegs.stat (t : TrapRegs) : Word := mkWord [(6, t.ppriv.toNat), (5, b2n t.decode), (4, b2n t.engine), (3, b2n t.nested)]

/-- Trap registers from their four words. -/
def trapRegsOf (cause pc val stat : Word) : TrapRegs :=
  { cause := cause.setWidth 8, pc := pc, val := val, ppriv := BitVec.ofNat 2 (bits stat 6 2), decode := bit stat 5, engine := bit stat 4,
    nested := bit stat 3 }

/-- RMODE (R76): a write of RM 6 or 7 stores 0. -/
def Ctx.rmode (c : Ctx) : Word := mkWord [(4, c.trapen.toNat), (0, c.rm.toNat)]
def Ctx.setRmode (c : Ctx) (w : Word) : Ctx :=
  { c with trapen := BitVec.ofNat 5 (bits w 4 5), rm := if 6 ≤ bits w 0 3 then 0 else BitVec.ofNat 3 (bits w 0 3) }

/-- REPSTATE (R82). -/
def RepState.word (r : RepState) : Word :=
  mkWord [(32, r.pass.toNat), (31, b2n r.active), (27, r.n.toNat), (24, r.group.toNat), (0, r.offset.toNat)]
def repOf (w : Word) : RepState :=
  { pass := BitVec.ofNat 32 (bits w 32 32), active := bit w 31, n := BitVec.ofNat 4 (bits w 27 4), group := BitVec.ofNat 3 (bits w 24 3),
    offset := BitVec.ofNat 6 (bits w 0 6) }

/-! Saves and restores (R419 to R421). -/

/-- Write words from an address upward. -/
def State.writeWords (s : State) (a : Nat) : List Word → State
  | [] => s
  | w :: r => (s.writeWord a w).writeWords (a + 8) r

/-- The words of the fixed part of a save area (R419), words 0 to 13, PENDING 0. -/
def Ctx.saveWords (c : Ctx) : List Word :=
  [c.pc, c.ctxstat, c.trap.cause.setWidth 64, c.trap.pc, c.trap.val, c.trap.stat, BitVec.ofNat 64 c.vgrant, c.budgetRem, c.deadline, c.region,
   c.taskinfo, c.dirty.setWidth 64, BitVec.ofNat 64 (bits c.dirty 64 8), 0]

/-- Save a context into an area: the fixed words, the nested registers in a handler, and the marked registers (R420). -/
def State.saveCtx (s : State) (a : Nat) (c : Ctx) : State :=
  let s := s.writeWords a c.saveWords
  let s := if c.inTrap then s.writeWords (a + 0x80) [c.ntrap.cause.setWidth 64, c.ntrap.pc, c.ntrap.val, c.ntrap.stat] else s
  let s := (rangeFrom 1 31).foldl (fun s i => if bit c.dirty (i - 1) then s.writeWord (a + 0x100 + 8 * i) (c.rg i) else s) s
  let s := (List.range 32).foldl (fun s j => if bit c.dirty (31 + j) then s.writeNat (a + 0x400 + 64 * j) 64 (c.rv j).toNat else s) s
  let s := (rangeFrom 1 7).foldl (fun s k => if bit c.dirty (62 + k) then s.writeWord (a + 0x200 + 8 * k) (c.rmk k) else s) s
  let s := if bit c.dirty 70 then s.writeWords (a + 0xA0) [c.rmode, c.fpflags.setWidth 64, c.vflags0, c.vflags1] else s
  if bit c.dirty 71 then s.writeWord (a + 0xC0) c.rep.word else s

/-- Write a register without marking it. -/
def Ctx.putG (c : Ctx) (r : Nat) (x : Word) : Ctx := { c with g := tput c.g r x }

/-- The registers that a context's previous task left, zeroed for a task of another region (R66). -/
def Ctx.inherited (c : Ctx) (region : Word) : Ctx := if c.prevRegion = some region then c else { c with g := [], v := [], m := [] }

/-- The values that a new task starts with (R65, R71), on a context. -/
def Ctx.start (c : Ctx) (e : RqEntry) : Ctx :=
  let x := c.inherited e.region
  let x := ((((x.putG 1 e.arg1).putG 2 e.arg2).putG 3 e.msg).putG 4 e.info).putG 30 e.stack
  { x with
    pc := e.entry, cls := e.cls, priv := 0, gang := e.gang, inTrap := false, st := .issuing, dirty := 0, trapen := 0, rm := 0, fpflags := 0,
    vflags0 := 0, vflags1 := 0, vgrant := 2, budgetRem := e.rem, deadline := e.deadline, region := e.region, taskinfo := e.info, rep := {},
    taskCyc := 0, startBudget := e.startBudget, wait := none, fetchWait := false, held := e.held, trapWork := none, ntrapWork := none, pend := e.pend,
    slot := some e.slot, saving := false }

/-- The lane bytes of VFLAGS hold 6 bits each (R78); TASKINFO without its reserved bits [51:46] and [28:11] (R5, R81). -/
def vflagMask : Word := 0x3F3F3F3F3F3F3F3F
def infoMask : Word := 0xFFF03FFFE00007FF

/-- Cycles that the copy of a context's registers to or from its area takes, at 64 bytes a cycle (R420). -/
def Ctx.copyCycles (c : Ctx) : Nat :=
  let marked (lo n : Nat) : Nat := ((rangeFrom lo n).filter fun i => bit c.dirty i).length
  (112 + (if c.inTrap then 32 else 0) + 8 * marked 0 31 + 64 * marked 31 32 + 8 * marked 63 7 + 32 * marked 70 1 + 8 * marked 71 1 + 63) / 64

/-- PRIV of a CTXSTAT word in a save area: a 3, which no save writes, is taken as a write of 3 is, as 2 (R72; DESIGN CHOICE, log 83). -/
def privOf (stat : Word) : BitVec 2 := if bits stat 4 2 = 3 then 2 else BitVec.ofNat 2 (bits stat 4 2)

/-- The grant that a VGRANT word in a save area asks for: one of 2, 4, 8 and 16 in its bits [4:0] (R79); any other value, which no save
writes, counts as 2 (DESIGN CHOICE, log 83). -/
def wantOf (w : Word) : Nat := if bits w 0 5 = 4 || bits w 0 5 = 8 || bits w 0 5 = 16 then bits w 0 5 else 2

/-- The registers of a restored task (R421), from its area in memory. Reserved bits of the area read as zero (R5, R78, R81). The trap in
PENDING stands among the held ones where it was raised (R410). -/
def State.restored (s : State) (c : Ctx) (e : RqEntry) (a : Nat) : Ctx :=
  let w (i : Nat) : Word := s.readWord (a + 8 * i)
  let dirty : BitVec 72 := BitVec.ofNat 72 ((w 11).toNat + (w 12).toNat % 256 * 2 ^ 64)
  let stat := w 1
  let inTrap := bit stat 2
  let info := setField (w 10 &&& infoMask) 32 14 e.ltile
  let x := c.inherited e.region
  let x := ((((x.putG 1 e.arg1).putG 2 e.arg2).putG 3 e.msg).putG 4 info).putG 30 e.stack
  let x := (rangeFrom 1 31).foldl (fun x i => if bit dirty (i - 1) then x.putG i (s.readWord (a + 0x100 + 8 * i)) else x) x
  let x := (List.range 32).foldl
    (fun x j => if bit dirty (31 + j) then { x with v := tput x.v j (BitVec.ofNat 512 (s.readNat (a + 0x400 + 64 * j) 64)) } else x) x
  let x := (rangeFrom 1 7).foldl (fun x k => if bit dirty (62 + k) then { x with m := tput x.m k (s.readWord (a + 0x200 + 8 * k)) } else x) x
  let fl := bit dirty 70
  let x := { x with
    pc := w 0, cls := e.cls, priv := privOf stat, gang := bit stat 3, inTrap := inTrap, st := .issuing,
    trap := trapRegsOf (w 2) (w 3) (w 4) (w 5)
    ntrap := if inTrap then trapRegsOf (w 16) (w 17) (w 18) (w 19) else x.ntrap
    dirty := dirty, trapen := 0, rm := 0, fpflags := if fl then (w 21).setWidth 6 else 0, vflags0 := if fl then w 22 &&& vflagMask else 0,
    vflags1 := if fl then w 23 &&& vflagMask else 0, vgrant := 2, budgetRem := w 7, deadline := w 8, region := w 9, taskinfo := info,
    rep := if bit dirty 71 then repOf (w 24) else {}, taskCyc := e.taskCyc, startBudget := e.startBudget, wait := none, fetchWait := false,
    held := e.held.take e.pendPos ++ (if bit (w 13) 63 then [{ cause := (w 13).setWidth 8, val := w 14, pc := some (w 15) }] else []) ++
      e.held.drop e.pendPos,
    trapWork := e.trapWork, ntrapWork := e.ntrapWork, pend := e.pend.map fun q => { q with soft := true }, slot := some e.slot, saving := false }
  if fl then x.setRmode (w 20) else x

/-- Change the entry in a slot of a core. -/
def State.modEntry (s : State) (k slot : Nat) (f : RqEntry → RqEntry) : State :=
  let c := s.coreAt k
  s.setCoreAt k { c with rq := modFirst (fun e => e.slot == slot) f c.rq }
def State.entryAt (s : State) (k slot : Nat) : Option RqEntry := (s.coreAt k).rq.find? fun e => e.slot == slot

/-- What a start or a restore does to the core: the instruction cache with its guard bits is read afresh (R53), and SVEC is copied
for a task of another region (R83). -/
def State.coreTakes (s : State) (k : Nat) (region : Word) : State :=
  let s := s.reloadGuards k (region :: s.ctxRegions k)
  let c := s.coreAt k
  let svec := (s.regionAt region).svec &&& ~~~ 3
  s.setCoreAt k { c with svec := if c.svecRegion = some region then c.svec else svec, svecRegion := some region }

/-- A context takes an entry (R285): a new task starts; a saved one is restored, and charged the cycles of that (R282). -/
def State.runEntry (s : State) (ctx : Nat) (e : RqEntry) : State :=
  let k := coreOfCtx ctx
  let c := s.ctxAt ctx
  let zero := c.prevRegion != some e.region
  let s := s.coreTakes k e.region
  let s := s.modEntry k e.slot fun x => { x with st := .running, ctx := some ctx, started := true, startedAt := s.cycles, pend := [], held := [], pendPos := 0, undecided := false }
  let s := if e.started then
      let a := globalPhys e.save
      let want := wantOf (s.readWord (a + 48))
      let s := s.setCtxAt ctx (s.restored c e a)
      let s := s.writeWord (a + 0x68) 0
      let s := s.setCtxAt ctx { s.ctxAt ctx with vgrant := if want ≤ 2 then 2 else s.grantFor ctx 4 want }
      s.chargeCtx ctx (s.ctxAt ctx).copyCycles false
    else s.setCtxAt ctx (c.start e)
  if zero then s.chargeCtx ctx 8 false else s

/-! Dispatch and preemption (R285 to R287). -/

/-- The order of R285. -/
def RqEntry.key (e : RqEntry) : Nat := (e.cls.toNat * 2 ^ 64 + e.deadline.toNat) * 2 ^ 32 + e.seq

/-- An entry that a context may take: queued or saved, not stopped (R415), on a tile whose row serves (R337, R342). -/
def State.waiting (s : State) (k : Nat) (e : RqEntry) : Bool :=
  let site := siteOfCore k
  (e.st == .queued || e.st == .saved) && !e.stopped && !e.armed && !s.domainStopped (colOfSite site) e.region &&
  !((s.tileAt site).tenants.any fun t => t.region == e.region && t.ltile == e.ltile && t.incoming) &&
  (s.rmEntry e.region e.ltile).state != 2

/-- The gang that may reserve contexts on a core: the first gang task admitted and not yet running (R287). -/
def State.firstGang (s : State) (k : Nat) : Option RqEntry := minBy RqEntry.key ((s.coreAt k).rq.filter fun e => e.gang && s.waiting k e)

/-- The entry that a context of core `k` which becomes free takes: the first gang task, until a context is held for it (R287), else the
first of the other entries (R285). -/
def State.firstEntry (s : State) (k : Nat) : Option RqEntry :=
  let g := if thas (s.tileAt (siteOfCore k)).gangHold (k % 8) then none else s.firstGang k
  g.orElse fun _ => minBy RqEntry.key ((s.coreAt k).rq.filter fun e => !e.gang && s.waiting k e)

/-- A context of the core that is FREE and not held for a gang. -/
def State.freeCtx (s : State) (k : Nat) : Option Nat :=
  (rangeFrom (4 * k) 4).find? fun c =>
    (s.ctxAt c).st == .free && !(s.ctxAt c).saving && tfind (s.tileAt (siteOfCore k)).gangHold (k % 8) != some c

/-- A stop request for the context is on its way. -/
def State.claimed (s : State) (c : Nat) : Bool := (s.ctxAt c).saving || s.agenda.any fun p => p.2.1 == .stopRequest && p.2.2.x == c

/-- The victim of R286: running, not urgent, last by class and DEADLINE, the latest started among equals. -/
def State.victim (s : State) (k : Nat) : Option Nat :=
  let cs := (rangeFrom (4 * k) 4).filter fun c =>
    let x := s.ctxAt c
    (x.st == .issuing || x.st == .stalled) && x.slot.isSome && x.cls != 0 && !s.claimed c
  let key (c : Nat) : Nat :=
    let x := s.ctxAt c
    let started := ((x.slot.bind (s.entryAt k)).map (·.startedAt)).getD 0
    2 ^ 200 - ((x.cls.toNat * 2 ^ 64 + x.deadline.toNat) * 2 ^ 64 + started)
  minBy key cs

/-- Whether a queued entry preempts a victim (R286). -/
def preempts (e : RqEntry) (v : Ctx) : Bool :=
  e.cls == 0 || (e.cls == 1 && (v.cls == 2 || decide (e.deadline.toNat < v.deadline.toNat)))

/-- Ask a context to stop: 0 preemption, 1 whistle tree, 2 a site that leaves, 3 a STOPPED context to be saved; `cause` the number of
the task that takes the context, 0 for none. A gang stops as a whole (R156, R286). -/
def State.askStop (s : State) (c why cause : Nat) : State :=
  let x := s.ctxAt c
  let cs := if x.gang then (s.members (siteOfCtx c)).filter fun m => !s.claimed m else [c]
  cs.foldl (fun s m => s.post 0 .stopRequest { x := m, y := why, z := cause }) s

/-- The decision of R286 for an entry that finds no FREE context. -/
def State.preemptFor (s : State) (k : Nat) (e : RqEntry) : State :=
  match s.victim k with
  | none => s
  | some v => if preempts e (s.ctxAt v) then s.askStop v 0 e.task else s

/-- A decision of R286 is due for an entry: none was taken since it was admitted, or since its gang was saved, and it waits; of gangs,
for the first one that has no context on the core yet (R287). -/
def State.toDecide (s : State) (k : Nat) (e : RqEntry) : Bool :=
  e.undecided && s.waiting k e &&
  (!e.gang || ((s.firstGang k).any (fun g => g.slot == e.slot) && !thas (s.tileAt (siteOfCore k)).gangHold (k % 8)))

/-- The entries of a list in the order of R285. -/
def inKeyOrder (l : List RqEntry) : List RqEntry := sortBy RqEntry.key l

/-- What an admission that finds no context FREE leads to: a STOPPED context is saved first, where an entry can take it (R415); else the
decisions of R286, in the order of their entries. -/
def State.decideAll (s : State) (k : Nat) : State :=
  match (rangeFrom (4 * k) 4).find? fun c => (s.ctxAt c).st == .stopped && (s.ctxAt c).slot.isSome && !s.claimed c with
  | some c => match s.firstEntry k with
    | some e => s.askStop c 3 e.task
    | none => s
  | none =>
    let c := s.coreAt k
    let es := inKeyOrder (c.rq.filter (s.toDecide k))
    es.foldl (fun s e => s.preemptFor k e)
      (s.setCoreAt k { c with rq := c.rq.map fun e => if s.toDecide k e then { e with undecided := false } else e })

/-- DISPATCH (R285): a free context takes the first entry, or is held for its gang (R287); with none free, R286 decides. -/
def execDispatch (s : State) : Out :=
  let k := s.ev.x
  let site := siteOfCore k
  match s.freeCtx k with
  | none => .next (s.decideAll k)
  | some c =>
    match s.firstEntry k with
    | none => .next s
    | some e =>
      if e.gang then
        let t := s.tileAt site
        let s := s.setTileAt site { t with gangHold := tput t.gangHold (k % 8) c }
        .next ((s.post 0 .gangStart { x := site }).post 0 .dispatch { x := k })
      else .next ((s.runEntry c e).post 0 .dispatch { x := k })

/-- The entries of a gang on a site, with their cores. -/
def State.gangEntries (s : State) (site id : Nat) : List (Nat × RqEntry) :=
  (coresOf site).filterMap fun k => ((s.coreAt k).rq.find? fun e => e.gang && e.gangId == id).map fun e => (k, e)

/-- The panels of gang `id` of a site are in its save area, or about to be. -/
def State.hasSave (s : State) (site id : Nat) : Bool := ((s.tileAt site).gangSaves.any fun g => g.1 == id) || s.saveDue site id

/-- GANG_START (R287): once a context is held on every core of the gang, its members start in one cycle, and a resumed gang's panels
come back (R67). While another gang runs on the tile it waits: a tile has one gang task (log 40). -/
def execGangStart (s : State) : Out :=
  let site := s.ev.x
  let t := s.tileAt site
  match t.gangHold with
  | [] => .next s
  | (k0, _) :: _ =>
    match s.firstGang (8 * site + k0) with
    | none => .next ((coresOf site).foldl (fun s k => s.post 0 .dispatch { x := k }) (s.setTileAt site { t with gangHold := [] }))
    | some g =>
      let es := s.gangEntries site g.gangId
      if t.gangLive.isNone && es.all fun p => thas t.gangHold (p.1 % 8) then
        let s := es.foldl (fun s p => match tfind t.gangHold (p.1 % 8) with
          | some c => s.runEntry c p.2
          | none => s) s
        let live := es.foldl (fun acc p => acc + 2 ^ (p.1 % 8)) 0
        let t := s.tileAt site
        let s := s.setTileAt site { t with gangHold := [], gangLive := some (g.region, g.ltile, BitVec.ofNat 8 live), gangNow := g.gangId }
        let s := if s.hasSave site g.gangId then
            s.post 0 .gangPanelRestore { x := site, y := g.region.toNat, z := g.ltile, w := g.gangId } else s
        .next ((coresOf site).foldl (fun s k => s.post 0 .dispatch { x := k }) s)
      else .next s

/-! Stops (R61, R286, R415, R420). -/

/-- A gang's panels are to be saved: its engine work stops and its state goes to the save area, once (R67, R185). -/
def State.saveGang (s : State) (site : Nat) : State :=
  let t := s.tileAt site
  match t.gangLive with
  | none => s
  | some (r, l, _) =>
    if s.hasSave site t.gangNow then s
    else s.post 0 .gangPanelSave { x := site, y := r.toNat, z := l, w := t.gangNow }

/-- STOP_REQUEST (R61, R415): the context stands at a boundary; a kind-W wait is abandoned. It is saved, or freezes for the whistle
tree; a gang's panels are saved either way (R67). Event operands: x the context, y the reason, z the task that caused it (see
`State.askStop`). -/
def execStopRequest (s : State) : Out :=
  let c := s.ev.x
  let x := s.ctxAt c
  if x.st == .free || x.saving then .next s
  else if s.ev.y = 1 then
    if x.st == .stopped then .next s
    else
      let s := if x.gang && x.slot.isSome then s.saveGang (siteOfCtx c) else s
      .next ((s.setCtxAt c { x with st := .stopped, wait := none, fetchWait := false }).post 0 .stopRecordWrite
        { x := coreOfCtx c, y := (s.regionAt x.region).fdom })
  else if x.slot.isNone then .next s
  else
    let s := if x.gang then s.saveGang (siteOfCtx c) else s
    .next ((s.setCtxAt c { x with st := .stalled, wait := none, fetchWait := false, saving := true }).post 0 .contextSaveDone
      { x := c, y := if x.st == .stopped then 3 else s.ev.y, z := s.ev.z })

/-- CONTEXT_SAVE_DONE (R420): the registers are in the save area, the entry goes to STATE 2 and the context is free; the errors that
came meanwhile go to PENDING. A victim of R286 is counted (R396), and the save is charged to the task that caused it (R282). A gang's
resumption asks for its contexts again (R287). Event operands: x the context, y the reason, z the task. -/
def execContextSaveDone (s : State) : Out :=
  let c := s.ev.x
  let x := s.ctxAt c
  let k := coreOfCtx c
  let site := siteOfCtx c
  match x.slot.bind (s.entryAt k) with
  | none => .next s
  | some e =>
    if !x.saving then .next s
    else
      let s := s.saveCtx (globalPhys e.save) x
      let s := s.modEntry k e.slot fun e => { e with
        st := .saved, ctx := none, rem := remOf x.budgetRem, deadline := x.deadline, cls := x.cls, pend := x.pend,
        held := x.held.filter fun h => !h.area, taskCyc := x.taskCyc, trapWork := x.trapWork, ntrapWork := x.ntrapWork,
        undecided := e.gang, stopped := s.ev.y = 3 && s.domainStopped (colOfSite site) x.region }
      let s := (x.held.filter (·.area)).foldl (fun s h => match s.entryAt k e.slot with
        | some e => s.pendTrap k e h.cause h.val (h.pc.getD x.pc)
        | none => s) s
      let s := s.setCtxAt c { x with st := .free, saving := false, slot := none, pend := [], held := [], gang := false, inTrap := false,
                                     prevRegion := some x.region }
      let s := if x.gang then (s.setTileAt site { s.tileAt site with gangLive := none }).post 0 .gangStart { x := site } else s
      let s := if s.ev.y = 0 then s.setCoreAt k { s.coreAt k with preempts := (s.coreAt k).preempts + 1 } else s
      let s := s.chargeCause k x.copyCycles s.ev.z
      .next (s.kickCore k)

/-! The end of a task (R120, R281, R397). -/

/-- Give RESV back where the task ends in the period of its admission (R281). -/
def State.giveBack (s : State) (site : Nat) (e : RqEntry) : State :=
  let r := s.regionAt e.region
  if r.periodStart e.admitted = r.periodStart s.time then
    s.modAccount site e.region e.ltile fun a => { a with cycLeft := Nat.min (2 ^ 32 - 1) (a.cycLeft + e.resv) }
  else s

/-- Count a deadline miss of an entry, once (R397). -/
def State.countMiss (s : State) (k : Nat) (e : RqEntry) (cls : BitVec 2) (dl : Word) : State :=
  if cls = 1 && !e.missed && decide (dl.toNat < s.time) then
    let c := s.coreAt k
    let s := s.setCoreAt k { c with dlMiss := c.dlMiss + 1 }
    let s := s.modEntry k e.slot fun e => { e with missed := true }
    s.modAccount (siteOfCore k) e.region e.ltile fun a => { a with dlMiss := (a.dlMiss + 1) % 2 ^ 32 }
  else s

/-- A task of a LAUNCH has ended (R330, R333): with the last one the command completes, or the module's share has ended. -/
def State.launchEnds (s : State) (l : Nat × Nat) : State :=
  if l.1 < 2 ^ 20 then
    let h := tget s.queues l.1 {}
    let cmds := modFirst (fun c => c.num == l.2) (fun c => { c with left := c.left - 1 }) h.cmds
    let s := { s with queues := tput s.queues l.1 { h with cmds := cmds } }
    if cmds.any fun c => c.num == l.2 && c.left = 0 then s.cmdDone l.1 l.2 0 0 else s
  else match tfind s.launches l.2 with
    | none => s
    | some x =>
      let s := { s with launches := tput s.launches l.2 { x with left := x.left - 1 } }
      if x.left = 1 then s.post 0 .launchAnswer { x := l.2, y := x.me, z := 17 } else s

/-- An entry ends: its budget, its slot and the slot it borrowed are given back. -/
def State.freeEntry (s : State) (k : Nat) (e : RqEntry) : State :=
  let s := s.giveBack (siteOfCore k) e
  let c := s.coreAt k
  let s := s.setCoreAt k { c with rq := c.rq.filter fun x => x.slot != e.slot }
  e.lentBy.foldl (fun s p => let c0 := s.coreAt p.1; s.setCoreAt p.1 { c0 with lent := c0.lent.filter fun x => x != p.2 }) s

/-- An entry ends, and its LAUNCH counts it. -/
def State.dropEntry (s : State) (k : Nat) (e : RqEntry) : State :=
  match e.launch with
  | none => s.freeEntry k e
  | some l => (s.freeEntry k e).launchEnds l

/-- A gang member has ended (R157): waiting members trap GANG. -/
def State.memberEnds (s : State) (site core : Nat) : State :=
  let t := s.tileAt site
  match t.gangLive with
  | none => s
  | some (r, l, live) =>
    let live := live &&& ~~~ BitVec.ofNat 8 (2 ^ core)
    if live = 0 then (coresOf site).foldl (fun s k => s.post 0 .dispatch { x := k })
      ((s.setTileAt site { t with gangLive := none, gangSaves := t.gangSaves.filter fun g => g.1 != t.gangNow }).post 0 .gangStart { x := site })
    else (s.setTileAt site { t with gangLive := some (r, l, live) }).gangAbsent site

/-- The paused work of a task on a site is abandoned: PBUSY clears, jobs end, a completion that waited is stored again. -/
def Tile.abandon (t : Tile) (task : Nat) : Tile :=
  { t with
    mx := { t.mx with ops := t.mx.ops.filter fun o => !(o.st == .paused && o.owner == some task) }
    cp := { t.cp with jobs := t.cp.jobs.map fun j => if j.st == .paused && j.owner == some task then
              { j with st := .running, ended := true, status := if j.ended then j.status else 2 } else j }
    tw := t.tw.map fun j => if j.st == .paused && j.owner == some task then
              { j with st := .running, ended := true, status := if j.ended then j.status else 2, recs := [] } else j }

/-- Ending a task abandons its paused operations (R181, R182, R284). -/
def State.abandonPaused (s : State) (task : Nat) : State :=
  s.tiles.foldl (fun s p =>
    let js := p.2.cp.jobs.filter fun j => j.st == .paused && j.owner == some task
    let ws := p.2.tw.filter fun j => j.st == .paused && j.owner == some task
    let s := s.setTileAt p.1 (p.2.abandon task)
    let s := if p.2.mx.ops.any fun o => o.st == .paused && o.owner == some task then s.post 0 .mxOpStart { x := p.1 } else s
    let s := js.foldl (fun s j => s.post 0 .copyJobComplete { x := p.1, y := j.ticket }) s
    ws.foldl (fun s j => s.post 0 .tileWalkJobComplete { x := p.1, y := j.pipe, z := j.ticket }) s) s

/-- The task of context `c` ends: the context is FREE, its outstanding responses are discarded, and its entry ends. -/
def State.endTask (s : State) (c : Nat) : State :=
  let x := s.ctxAt c
  let k := coreOfCtx c
  let s := s.setCtxAt c { x with st := .free, wait := none, pend := [], held := [], slot := none, gang := false, inTrap := false, rep := {},
                                 trapWork := none, ntrapWork := none, prevRegion := some x.region }
  match x.slot.bind (s.entryAt k) with
  | none => s.kickCore k
  | some e =>
    let s := s.countMiss k e x.cls x.deadline
    let s := (s.dropEntry k e).abandonPaused e.task
    let s := match e.inbox with
      | some sl => s.freeSlot k sl
      | none => s
    let s := if e.gang then s.memberEnds (siteOfCtx c) (k % 8) else s
    s.kickCore k

/-- Demotion to best-effort (R272, R283): DEADLINE becomes all ones on a deadline task. -/
def State.demote (s : State) (c : Nat) : State :=
  let x := s.ctxAt c
  let k := coreOfCtx c
  if x.cls ≠ 1 then s
  else
    let s := match x.slot.bind (s.entryAt k) with
      | none => s
      | some e => (s.countMiss k e x.cls x.deadline).modEntry k e.slot fun e => { e with cls := 2, deadline := BitVec.allOnes 64 }
    (s.setCtxAt c { x with cls := 2, deadline := BitVec.allOnes 64 }).kickCore k

/-! Refills, budgets, the watchdog's firing and held traps. -/

/-- PERIOD_REFILL (R280): CYCLEFT and ENGLEFT are refilled, and what the account refused is offered again. -/
def execPeriodRefill (s : State) : Out :=
  let site := s.ev.x
  let region := BitVec.ofNat 64 s.ev.y
  let r := s.regionAt region
  match acctOf (s.tileAt site).accounts region s.ev.z with
  | none => .next s
  | some a =>
    let start := r.periodStart s.time
    if r.periodOf = 0 || a.start = start then .next s
    else
      let s := s.modAccount site region s.ev.z fun a => { a with cycLeft := r.cycQuota, engLeft := r.engQuota, start := start }
      let s := s.postAt (start + r.periodOf) .periodRefill s.ev
      .next ((coresOf site).foldl (fun s k => s.kickWhere k (some (region, s.ev.z))) s)

/-- BUDGET_EXHAUSTED (R283): OVERRUN at this boundary, TRAPVAL the budget the task started with. -/
def execBudgetExhausted (s : State) : Out :=
  let c := s.ev.x
  let x := s.ctxAt c
  if x.inTrap || x.budgetRem ≠ 0 || x.st == .free then .next s
  else .next (s.enterTrapAt c cOVERRUN x.startBudget x.pc false false none)

/-- ASYNC_TRAP_TAKEN (R410): of the held traps, the one of the lowest cause code, the first raised among equals. -/
def execAsyncTrapTaken (s : State) : Out :=
  let c := s.ev.x
  let x := s.ctxAt c
  match minBy (fun h => h.cause.toNat) x.held with
  | none => .next s
  | some h =>
    if x.inTrap || x.st == .free then .next s
    else
      let s := s.setCtxAt c { x with held := x.held.erase h }
      .next (s.enterTrapAt c h.cause h.val (h.pc.getD x.pc) false h.engine h.work)

/-- WATCHDOG_FIRE (R406): the whistle tree stops the domain, and an urgent delivery goes to the supervisor channel. -/
def execWatchdogFire (s : State) : Out :=
  let region := BitVec.ofNat 64 s.ev.y
  let r := s.regionAt region
  let n := ((acctOf (s.tileAt s.ev.x).accounts region s.ev.z).map (·.wdCount)).getD 0
  let s := s.post 0 .whistleStop { x := r.fdom }
  if s.rmLen r.supOf ≤ bits r.supDest 32 14 then .next (s.report region 10 r.supDest)
  else .next (s.sendCtl r.supOf r.supDest region (mkWord [(32, s.ev.z), (0, n)]) [] (some (0, none)) false region)

end Sys2Proof.Machine
end

