-- ==== Sys2Proof/Machine/Counters.lean ====
section
/-! DEFINITION. BUDGET, BADD, HBEAT and CNTRD (R395 to R407). -/

namespace Sys2Proof.Machine

/-- The account of the issuing task; a task without one reads zeros. -/
def State.myAccount (s : State) : Account :=
  (acctOf s.tile.accounts s.ctx.region s.ctx.ltile).getD { region := s.ctx.region, ltile := s.ctx.ltile }

/-- SLACK (R399). -/
def State.slack (s : State) : Word :=
  let c := s.ctx
  if c.deadline = BitVec.allOnes 64 then BitVec.ofNat 64 (2 ^ 63 - 1)
  else BitVec.ofInt 64 (((c.deadline.toNat : Int) - s.time) * (s.cpt s.coreNo).toNat / 65536 - c.budgetRem.toNat)

/-- R399. -/
def execBudget (a d : BitVec 5) (s : State) : Out :=
  match (s.rg a).toNat with
  | 0 => writeG s d s.ctx.budgetRem
  | 1 => writeG s d s.slack
  | 2 => writeG s d (BitVec.ofNat 64 s.myAccount.cycLeft)
  | 3 => writeG s d (BitVec.ofNat 64 s.myAccount.engLeft)
  | 4 => writeG s d s.myAccount.reserve
  | _ => trap s cPROTECT (s.rg a)

/-- A counter by number (R396): its value, and whether it is a core's or tile's, read at S. -/
def State.counter (s : State) (n : Nat) : Option (Word × Bool) :=
  let a := s.myAccount
  let k := s.core
  let t := s.tile
  match n with
  | 0x00 => some (BitVec.ofNat 64 a.cycLeft, false)
  | 0x01 => some (BitVec.ofNat 64 a.engLeft, false)
  | 0x02 => some (BitVec.ofNat 64 a.wdCount, false)
  | 0x03 => some (BitVec.ofNat 64 a.dlMiss, false)
  | 0x08 => some (s.ctx.taskCyc, false)
  | 0x10 => some (k.cycles, true)
  | 0x11 => some (k.groups, true)
  | 0x12 => some (BitVec.ofNat 64 (s.cycles - k.occupied), true)
  | 0x13 => some (k.msgSent, true)
  | 0x14 => some (k.msgRecv, true)
  | 0x15 => some (k.preempts, true)
  | 0x16 => some (k.rejects, true)
  | 0x17 => some (k.dlMiss, true)
  | 0x20 => some (t.mxCyc, true)
  | 0x21 => some (t.cpCyc, true)
  | 0x22 => some (t.tlbMiss, true)
  | 0x23 => some (t.atomics, true)
  | _ => none

/-- R400. -/
def execCntrd (a d : BitVec 5) (s : State) : Out :=
  let x := s.rg a
  match s.counter x.toNat with
  | none => trap s cPROTECT x
  | some (v, high) => if high && s.ctx.priv = 0 then trap s cPRIVILEGE x else writeG s d v

/-- The target of a BADD by selector (R401). -/
def State.baddTarget (s : State) (sel : Nat) : Nat :=
  match sel with
  | 0 => s.ctx.budgetRem.toNat
  | 1 => s.myAccount.engLeft
  | _ => s.myAccount.cycLeft

/-- RESERVE of a region; none where the region has no RESERVE word (log 6). -/
def State.reserveOf (s : State) (region : Word) : Nat :=
  let r := s.regionAt region
  if r.reserve = 0 then 0 else (s.readWord (globalPhys r.reserve)).toNat

/-- The draw at RESERVE's home (R401): the grant, and what is left. It is an atomic there, and traced as one (R245). -/
def State.draw (s : State) (region : Word) (src seq time amount room : Nat) : State × Nat × Nat :=
  let have_ := s.reserveOf region
  let g := Nat.min amount (Nat.min have_ room)
  let r := s.regionAt region
  (if r.reserve = 0 then s else s.writeHome region src 0 (globalPhys r.reserve) (leBytes 8 (have_ - g)) 2 seq time, g, have_ - g)

/-- The home of RESERVE refuses the draw, which is an atomic (R189, R218, R267). -/
def State.drawBad (s : State) (pa : Nat) : Bool :=
  !s.physOk pa || nbits pa 60 4 = 4 || nbits pa 60 4 = 5 || s.poisoned pa 8

/-- A target after a grant. Two draws on their way may share one room; the target then stops at 2^32 − 1, and stays where it stands above
that (R401; log 6). -/
def granted (target g : Nat) : Nat := Nat.max target (Nat.min (2 ^ 32 - 1) (target + g))

/-- An account after a grant to it, and with its copy of RESERVE as the answer gives it (R395, R399). -/
def Account.granted (a : Account) (sel g left : Nat) : Account :=
  { a with
    reserve := BitVec.ofNat 64 left
    engLeft := if sel = 1 then Machine.granted a.engLeft g else a.engLeft
    cycLeft := if sel = 2 then Machine.granted a.cycLeft g else a.cycLeft }

/-- REM and RESV of an entry after a grant to its task (R274, R401). -/
def RqEntry.granted (e : RqEntry) (g : Nat) : RqEntry :=
  { e with rem := BitVec.ofNat 64 (Machine.granted e.rem.toNat g), resv := Machine.granted e.resv g }

/-- Credit a grant to the target of the task in a live context `c`; `left` is RESERVE after the draw. -/
def State.credit (s : State) (c sel g left : Nat) : State :=
  let x := s.ctxAt c
  let site := siteOfCtx c
  let s := s.modAccount site x.region x.ltile fun a => a.granted sel g left
  if sel ≠ 0 then s
  else
    let s := s.setCtxAt c { x with budgetRem := BitVec.ofNat 64 (granted x.budgetRem.toNat g) }
    match x.slot with
    | none => s
    | some sl => s.modEntry (coreOfCtx c) sl fun e => e.granted g

/-- R401, R402: performed at once, or by a packet whose response credits it; a refused draw grants 0 and raises PROTECT. -/
def execBadd (b a d : BitVec 5) (s : State) : Out :=
  needS s <|
    let sel := (s.rg a).toNat
    let amount := (s.rg b).toNat
    if 2 < sel then trap s cPROTECT (s.rg a)
    else if 2 ^ 32 ≤ amount then trap s cPROTECT (s.rg b)
    else
      let room := 2 ^ 32 - 1 - s.baddTarget sel
      let at_ := (s.regionAt s.ctx.region).reserve
      let pa := globalPhys at_
      let q := s.takeSeq s.cur pa
      let s := q.1
      if at_ ≠ 0 && s.atOnce s.cur && s.drawBad pa then
        writeG ((s.logRefused s.me at_ 8 (if s.poisoned pa 8 then cPOISON else cPROTECT)).holdTrap s.cur { cause := cPROTECT, val := at_ }) d 0
      else if s.atOnce s.cur && (at_ = 0 || !s.homeHeld pa) then
        match s.draw s.ctx.region s.cur q.2 s.time amount room with
        | (s, g, left) => writeG { s.credit s.cur sel g left with budgetGrant := if sel = 0 then g else 0 } d (BitVec.ofNat 64 g)
      else
        let id := s.nextPkt
        let dest : Dest := .badd d.toNat sel
        let p : Packet := { id := 0, op := .atomic, src := s.cur, owner := s.ownerOf s.cur, seq := q.2, region := s.ctx.region, ltile := s.ctx.ltile,
                            addr := at_, pa := pa, len := 8, time := s.time, arg1 := BitVec.ofNat 64 amount,
                            arg2 := BitVec.ofNat 64 room, dest := dest }
        let s := s.sendMem p 0
        let c := s.ctx.markDest dest
        done (s.setCtx { c with pend := c.pend ++ [{ pkt := id, dest := dest, pc0 := s.grp.pc0 }] })

/-- R405: WDCOUNT is cleared; what the earlier cycles of the group counted is judged with them (State.watch). -/
def execHbeat (s : State) : Out :=
  done { s.modAccount s.siteNo s.ctx.region s.ctx.ltile fun a => { a with wdCount := 0 } with beat := some s.myAccount.wdCount }

end Sys2Proof.Machine
end

