-- ==== Sys2Proof/Machine/Messages.lean ====
section
/-! DEFINITION. The message and task instructions of OP 0x3C (R290 to R306), as they are issued. -/

namespace Sys2Proof.Machine

/-! What the instructions share. -/

/-- A destination word with a bad field (R291): `task` for SPAWN and POST; `lim` the largest LEN. -/
def destBad (dw : Word) (task : Bool) (lim : Nat) : Bool :=
  bits dw 46 18 ≠ 0 || bits dw 16 13 ≠ 0 || (task && bits dw 10 6 ≠ 0) || lim < bits dw 0 10

/-- The destination word of a channel delivery, checked against the issuer's role map (R291). -/
def withDest (s : State) (dw : Word) (lim : Nat) (k : Out) : Out :=
  if destBad dw false lim || s.rmLen s.ctx.region ≤ bits dw 32 14 then trap s cPROTECT dw else k

/-- +1 to MSGSENT of the core in hand (R396). -/
def State.countSent (s : State) : State :=
  let k := s.core
  s.setCore { k with msgSent := k.msgSent + 1 }

/-- Accesses of the task in hand that a release at MODULE scope waits for (R302, R244). -/
def State.moduleHolds (s : State) : List Nat :=
  (s.net.filter fun q => q.underWay && s.mine s.cur q && s.scopeHas s.cur 3 (s.homeNow q)).map (·.id)

/-- Put a message packet of the context in hand into the mesh, its arrival due, with its number in the SPAWN-class stream of its core
(R239). -/
def State.launchPkt (s : State) (p : Packet) : State :=
  let q := s.countSent.takeSpawnSeq s.coreNo p.dst
  let d := q.1.takeDelay
  let id := d.1.nextPkt
  let p := { p with id := id, seq := q.2, src := s.cur, owner := s.ownerOf s.cur, priv := s.ctx.priv, srcRegion := s.ctx.region, time := s.time }
  (d.1.inject p).post d.2 p.homeEvent { x := id }

/-- What admission answers where the named entry has no site (R276 checks 1 to 3, R335). -/
def State.vacantCode (s : State) (region : Word) (cls : BitVec 2) : Nat :=
  if spawnDenied cls s.ctx.priv s.ctx.region region || !s.descends s.ctx.region region then 7
  else if s.domainStopped s.colNo region then 5
  else 6

/-- The entry names a site. -/
def State.hasSite (s : State) (region : Word) (l : Nat) : Bool := (s.rmEntry region l).state != 3

/-- The entry of its NI that a send of the context in hand goes by, and the state with it used (R336). -/
def State.sendEntry (s : State) (region : Word) (l : Nat) : RmCache := s.niEntry s.siteNo region l
def State.usesEntry (s : State) (region : Word) (l : Nat) : State := s.fillRm s.siteNo region l

/-- A delivery of the context in hand to channel CHANNEL of the core that a destination word names, to the site and with the GEN that its
NI's entry holds (R336). A VACANT entry names no site, and the delivery is refused NOT_COMPUTE (R335, R451). -/
def State.sendMsg (s : State) (p : Packet) (dw : Word) : State :=
  let region := s.ctx.region
  let l := bits dw 32 14
  let c := s.sendEntry region l
  let s := s.usesEntry region l
  if !c.vacant then
    s.launchPkt { p with dst := c.site, gen := c.gen, unit := bits dw 29 3, ch := bits dw 10 6, region := region, ltile := l, addr := dw,
                         len := p.data.length }
  else if p.record = 0 then s.report region (BitVec.ofNat 64 (s.vacantCode region 1)) dw
  else s.pipeReport region (bits p.arg1 48 16) (s.vacantCode region 1) (bits p.arg2 32 32) (mkWord [(10, bits dw 10 36)])

/-! SEND, KICK, RECFWD, SPLICE. -/

/-- R295. -/
def execSend (b a : BitVec 5) (s : State) : Out :=
  let dw := s.rg a
  withDest s dw 1008 <| withBlock s (s.rg b) (16 + bits dw 0 10) 8 (.send b a) fun s bs =>
    done (s.sendMsg { id := 0, op := .send, arg1 := blockWord bs 0, arg2 := blockWord bs 1, data := bs.drop 16 } dw)

/-- The bytes of a scratchpad or of the panel store that the issuing logical tile has (R186). -/
def State.ownExtent (s : State) (space : Nat) : Nat :=
  let r := s.regionAt s.ctx.region
  let e := s.rmEntry s.ctx.region s.ctx.ltile
  if e.home ≠ 0 || e.shared then (if space = 1 then r.psFoot else r.spFoot) else winExtent space 0

/-- An acknowledgement address that KICK refuses (R302). -/
def State.ackBad (s : State) (x : Word) : Bool :=
  x ≠ 0 && (classOf x != .role || bits x 24 4 ≠ 0 || x.toNat % 8 ≠ 0 || bits x 32 14 ≠ s.ctx.ltile || (bit x 28 && bits x 29 3 ≠ 0) ||
    decide (s.ownExtent (bits x 28 1) < bits x 0 24 + 8))

/-- R302. -/
def execKick (b a d : BitVec 5) (s : State) : Out :=
  let ack := s.rg d
  if s.ackBad ack then trap s cPROTECT ack
  else withDest s (s.rg a) 0 (done (s.sendMsg { id := 0, op := .kick, arg1 := s.rg b, arg2 := ack, holdAck := s.moduleHolds } (s.rg a)))

/-- R306: the checks of header word 0. -/
def headerBad (w : Word) (splice : Bool) : Bool :=
  bits w 38 2 = 3 || (splice && bits w 38 2 ≠ 1) || 1008 < bits w 0 10 || bits w 10 28 ≠ 0

/-- R305, R306. -/
def recordOp (splice : Bool) (b a : BitVec 5) (i : Instr) (s : State) : Out :=
  let ea := s.rg b
  withDest s (s.rg a) 0 <| withBlock s ea 16 8 i fun s h =>
    let w := blockWord h 0
    if headerBad w splice then trap s cPROTECT ea
    else withBlock s ea (16 + bits w 0 10) 8 i fun s bs =>
      done (s.sendMsg { id := 0, op := .record, arg1 := w, arg2 := blockWord bs 1, data := bs, record := bits w 38 2 + 1,
                        holdAck := if splice then s.moduleHolds else [] } (s.rg a))

/-- R306. -/
def execSplice (b a : BitVec 5) (s : State) : Out := recordOp true b a (.splice b a) s
/-- R306. -/
def execRecfwd (b a : BitVec 5) (s : State) : Out := recordOp false b a (.recfwd b a) s

/-! SPAWN and POST. -/

/-- Region of a spawn block (R296). -/
def State.spawnRegion (s : State) (bs : List Byte) : Word := if blockWord bs 5 = 0 then s.ctx.region else blockWord bs 5

/-- R291, R292, R296: the checks of SPAWN and POST; `k` goes on with the block. -/
def withSpawn (s : State) (b a : BitVec 5) (i : Instr) (k : State → List Byte → Out) : Out :=
  let dw := s.rg a
  let ea := s.rg b
  if destBad dw true 976 then trap s cPROTECT dw
  else withBlock s ea (48 + bits dw 0 10) 8 i fun s bs =>
    let w4 := blockWord bs 4
    let region := s.spawnRegion bs
    if bits (blockWord bs 0) 0 2 ≠ 0 then trap s cALIGN ea
    else if bits w4 62 2 = 3 || bits w4 32 30 ≠ 0 || bits w4 0 32 = 0 then trap s cPROTECT ea
    else if !(region == s.ctx.region || s.regionExists region) then trap s cPROTECT ea
    else if s.rmLen region ≤ bits dw 32 14 then trap s cPROTECT dw
    else k s bs

/-- The packet of a SPAWN or POST. -/
def State.spawnPkt (s : State) (op : PktOp) (dw : Word) (bs : List Byte) : Packet :=
  let region := s.spawnRegion bs
  let l := bits dw 32 14
  { id := 0, op := op, dst := (s.sendEntry region l).site, gen := (s.sendEntry region l).gen, unit := bits dw 29 3, region := region, ltile := l, addr := dw, data := bs,
    len := bits dw 0 10 }

/-- Class of a spawn block. -/
def spawnCls (bs : List Byte) : BitVec 2 := BitVec.ofNat 2 (bits (blockWord bs 4) 62 2)

/-- R297: gD gets the code with the response; a VACANT entry is answered at once. -/
def execSpawn (b a d : BitVec 5) (s : State) : Out :=
  let dw := s.rg a
  withSpawn s b a (.spawn b a d) fun s bs =>
    let region := s.spawnRegion bs
    let p := s.spawnPkt .spawn dw bs
    let c := s.sendEntry region (bits dw 32 14)
    let s := s.usesEntry region (bits dw 32 14)
    if !c.vacant then
      let id := s.nextPkt
      let dest : Dest := .gpr d.toNat 8 false
      .next (((s.launchPkt { p with dest := dest }).await id dest).finish)
    else writeG s d (BitVec.ofNat 64 (s.vacantCode region (spawnCls bs)))

/-- R298. -/
def execPost (b a : BitVec 5) (s : State) : Out :=
  let dw := s.rg a
  withSpawn s b a (.post b a) fun s bs =>
    let region := s.spawnRegion bs
    let p := s.spawnPkt .post dw bs
    let c := s.sendEntry region (bits dw 32 14)
    let s := s.usesEntry region (bits dw 32 14)
    done (if !c.vacant then s.launchPkt p
          else s.report s.ctx.region (BitVec.ofNat 64 (s.vacantCode region (spawnCls bs))) dw)

/-! DECR and ACKX. -/

/-- Perform a DECR at its home (R300): the transition to exactly zero pushes the descriptor onto its core's ready ring. -/
def State.applyDecr (s : State) (p : Packet) : State :=
  match s.applyAtomic { p with aop := 0, arg1 := 0 - p.arg1, len := 8 } with
  | (s, old) =>
    if BitVec.ofNat 64 old = p.arg1 && p.arg1 ≠ 0 then
      s.pushReady (8 * (s.rmEntry p.region (bits p.addr 32 14)).site + bits p.addr 29 3) p.addr p.region p.priv
    else s

/-- R300. -/
def execDecr (b a : BitVec 5) (s : State) : Out :=
  let ea := s.rg a
  if classOf ea ≠ .role || bit ea 28 || bits ea 24 4 ≠ 0 then trap s cPROTECT ea
  else if ea.toNat % 64 ≠ 0 then trap s cALIGN ea
  else posted s ea (.atomic 8) .both (.decr b a) fun s l =>
    let q := s.takeSeq s.cur l.pa
    let s := q.1
    let p := { s.accessPkt .decr ea l 8 with seq := q.2, arg1 := s.rg b, priv := s.ctx.priv }
    done (if s.atOnce s.cur then s.applyDecr p else s.sendMem p 0)

/-- R303: STF with a release at MODULE scope. -/
def execAckx (b a : BitVec 5) (s : State) : Out :=
  let ea := s.rg a
  posted s ea .fe .write (.ackx b a) fun s l =>
    let q := s.takeSeq s.cur l.pa
    let s := q.1
    let p := { s.accessPkt .ackx ea l 8 with seq := q.2, data := leBytes 8 (s.rg b).toNat, stf := true, kind := 3 }
    done (if s.atOnce s.cur then s.applyWrite p else s.sendMem p 3)

/-! TWPOST. -/

/-- An engine word with a bad field (R304). -/
def engineWordBad (w : Word) : Bool :=
  let kind := bits w 62 2
  let pipe := bits w 16 16
  let count := bits w 0 16
  bits w 46 16 ≠ 0 || (kind = 1 && count = 0) || (kind = 0 && (if pipe = 0 then 0 else 1) < count) || (kind = 2 && (count ≠ 0 || pipe = 0))

/-- The packet of a TWPOST. -/
def State.twPkt (s : State) (op : PktOp) (w : Word) : Packet :=
  { id := 0, op := op, dst := (s.sendEntry s.ctx.region (bits w 32 14)).site, gen := (s.sendEntry s.ctx.region (bits w 32 14)).gen, unit := 10, region := s.ctx.region, ltile := bits w 32 14,
    addr := w, arg1 := w, srcLtile := s.ctx.ltile }

/-- R304: the ticket of a JOB comes with its response; PERMIT and END are posted. The issuer's stores to its own tile go before the job
(R243). -/
def execTwpost (b a d : BitVec 5) (s : State) : Out :=
  let w := s.rg a
  let kind := bits w 62 2
  if kind = 3 then trap s cPROTECT w
  else if kind = 2 && s.ctx.priv = 0 then trap s cPRIVILEGE w
  else if engineWordBad w || s.rmLen s.ctx.region ≤ bits w 32 14 then trap s cPROTECT w
  else if kind = 1 && s.rg b ≠ 0 then trap s cPROTECT (s.rg b)
  else if kind = 2 && s.rg b ≠ 0 then trap s cPROTECT w
  else if (s.sendEntry s.ctx.region (bits w 32 14)).vacant then
    trap (s.usesEntry s.ctx.region (bits w 32 14)) cROLE (BitVec.ofNat 64 (bits w 32 14))
  else if kind = 0 then (if s.tileBusy s.cur then park s (.twpost b a d) else withBlock s (s.rg b) 96 8 (.twpost b a d) fun s bs =>
    let p := s.twPkt .twJob w
    let s := s.usesEntry s.ctx.region (bits w 32 14)
    let id := s.nextPkt
    let dest : Dest := .gpr d.toNat 8 false
    .next (((s.launchPkt { p with data := bs, dest := dest }).await id dest).finish))
  else
    let p := s.twPkt (if kind = 1 then .twPermit else .twEnd) w
    writeG ((s.usesEntry s.ctx.region (bits w 32 14)).launchPkt p) d 0

end Sys2Proof.Machine
end

