-- ==== Sys2Proof/Machine/Net.lean ====
section
/-! DEFINITION. Packets at router ports and homes (R237 to R240, R248, R249, R337, R345, R347, R374), and the responses that reach
contexts, live or saved (R207, R288, R402, R420). -/

namespace Sys2Proof.Machine

/-! Responses. -/

/-- A packet turns into its response. -/
def State.reply (s : State) (p : Packet) (bs : List Byte) : State :=
  let d := ((s.setPkt p.id fun q => { q with op := .response, data := bs, arrived := false }).wakeHeld).takeDelay
  d.1.post d.2 .responseArrival { x := p.id }

/-- A packet turns into an error response. -/
def State.replyErr (s : State) (p : Packet) (cause : BitVec 8) (val : Word) : State :=
  let d := ((s.setPkt p.id fun q => { q with op := .errResponse, cause := cause.toNat, arg1 := val, arrived := false }).wakeHeld).takeDelay
  d.1.post d.2 .errorResponseArrival { x := p.id }

def Dest.isBadd : Dest → Bool
  | .badd _ _ => true
  | _ => false

/-- The context that awaits packet `id`, and the saved entry that does (core, entry). -/
def State.awaiting (s : State) (id : Nat) : Option Nat := (s.ctxs.find? fun c => c.2.pend.any fun q => q.pkt == id).map (·.1)
def State.savedAwaiting (s : State) (id : Nat) : Option (Nat × RqEntry) :=
  s.cores.findSome? fun k => (k.2.rq.find? fun e => e.pend.any fun q => q.pkt == id).map fun e => (k.1, e)

/-- The responses of the access that packet `id` answers, but those of BADDs. -/
def accessOf (ps : List Pend) (id : Nat) : List Pend :=
  match ps.find? fun q => q.pkt == id with
  | none => []
  | some q => ps.filter fun r => !r.dest.isBadd && r.pc0 == q.pc0 && r.soft == q.soft

/-- What is still awaited without the responses `got`. -/
def notOf (ps got : List Pend) : List Pend := ps.filter fun q => !(got.any fun r => r.pkt == q.pkt)

/-- Whether every response but those of BADDs is here. -/
def State.allHere (s : State) (ps : List Pend) : Bool :=
  ps.all fun q => q.dest.isBadd || (s.pkt q.pkt).any fun p => p.op == .response && p.acked

/-- A context goes on once nothing keeps it stalled. -/
def Ctx.goOn (c : Ctx) : Ctx :=
  if c.st == .stalled && c.wait.isNone && !c.fetchWait && !c.saving && c.pend.all (fun q => q.soft || q.dest.isBadd) then { c with st := .issuing }
  else c

/-- Write the responses of an access into a live context's registers, and go on (R207). -/
def State.deliverLive (s : State) (c : Nat) (got : List Pend) : State :=
  let x := s.ctxAt c
  let y := got.foldl (fun x q => x.deliver q.dest (((s.pkt q.pkt).map (·.data)).getD [])) x
  let s := s.setCtxAt c { y with pend := notOf x.pend got }.goOn
  (got.foldl (fun s q => s.dropPkt q.pkt) s).wakeHeld

/-- Elements of `n` bytes written into the slot of a vector register at address `a`. -/
def State.slotElems (s : State) (a n : Nat) : List Nat → List Byte → State
  | [], _ => s
  | e :: r, bs => (s.writeBytes (a + n * e) (bs.take n)).slotElems a n r (bs.drop n)

/-- Write a response into the save area at `a` (R288, R419). -/
def State.deliverSlot (s : State) (a : Nat) (d : Dest) (bs : List Byte) : State :=
  match d with
  | .drop => s
  | .gpr r n signed => if r = 0 then s else s.writeWord (a + 0x100 + 8 * r) (extend n signed (leNat bs))
  | .vec r es n => s.slotElems (a + 0x400 + 64 * r) n es bs
  | .badd _ _ => s

/-- Write the responses of an access into a saved task's slots (R288). -/
def State.deliverSaved (s : State) (k : Nat) (e : RqEntry) (got : List Pend) : State :=
  let s := got.foldl (fun s q => s.deliverSlot (globalPhys e.save) q.dest (((s.pkt q.pkt).map (·.data)).getD [])) s
  let s := s.modEntry k e.slot fun e => { e with pend := notOf e.pend got }
  (got.foldl (fun s q => s.dropPkt q.pkt) s).wakeHeld

/-- RESPONSE_ARRIVAL (R207, R288): once every response of the access is here, they are written, each exactly once; those of a task that
has ended are discarded (R120). -/
def execResponseArrival (s : State) : Out :=
  let id := s.ev.x
  let s := s.setPkt id fun q => { q with acked := true }
  match s.awaiting id with
  | some c =>
    let got := accessOf (s.ctxAt c).pend id
    .next (if s.allHere got then s.deliverLive c got else s)
  | none => match s.savedAwaiting id with
    | some (k, e) =>
      let got := accessOf e.pend id
      .next (if s.allHere got then s.deliverSaved k e got else s)
    | none => .next (s.dropPkt id).wakeHeld

/-- A refused BADD (R402): a grant of 0, and PROTECT at the next boundary. -/
def State.baddRefused (s : State) (id : Nat) (val : Word) : State :=
  let h : HeldTrap := { cause := cPROTECT, val := val }
  match s.awaiting id with
  | some c =>
    let x := s.ctxAt c
    let r : Option Dest := (x.pend.find? fun q => q.pkt == id).map (·.dest)
    let x := { x with pend := x.pend.filter fun q => q.pkt != id }.goOn
    (s.setCtxAt c (match r with
      | some (.badd r _) => x.wg r 0
      | _ => x)).holdTrap c { h with area := x.saving }
  | none => match s.savedAwaiting id with
    | some (k, e) =>
      let s := match (e.pend.find? fun q => q.pkt == id).map (·.dest) with
        | some (.badd r _) => s.deliverSlot (globalPhys e.save) (.gpr r 8 false) (leBytes 8 0)
        | _ => s
      (s.modEntry k e.slot fun e => { e with pend := e.pend.filter fun q => q.pkt != id }).pendTrap k e h.cause h.val
        (s.readWord (globalPhys e.save))
    | none => s

/-- The responses of an access that failed are no longer awaited, and its destination keeps its value (R207). -/
def State.forget (s : State) (ps : List Pend) : State :=
  ps.foldl (fun s q => if q.dest.isBadd then s else s.dropPkt q.pkt) s

/-- ERROR_RESPONSE_ARRIVAL (R207, R248, R288): the trap of a waiting access at its own group, or in a saved task's area; of a posted one
at the next boundary (R192). A stopped context takes it when its domain goes on (R415). In a REP body REPSTATE is again what it was at the access, so that TRAPRET runs that group in the same pass
(R119). -/
def execErrorResponseArrival (s : State) : Out :=
  match s.pkt s.ev.x with
  | none => .next s
  | some p =>
    let cause := BitVec.ofNat 8 p.cause
    let s1 := s.dropPkt p.id
    if p.dest.isBadd then .next (s1.baddRefused p.id p.arg1).wakeHeld
    else match s.awaiting p.id with
      | some c =>
        let x := s.ctxAt c
        let pc0 := ((x.pend.find? fun q => q.pkt == p.id).map (·.pc0)).getD x.pc
        let got := accessOf x.pend p.id
        let rep := ((x.pend.find? fun q => q.pkt == p.id).map (·.rep)).getD x.rep
        let x := { x with rep := rep }
        let s1 := (s1.forget got).setCtxAt c { x with pend := notOf x.pend got }
        if x.saving || x.st == .stopped || (x.pend.any fun q => q.pkt == p.id && q.soft) then
          .next (s1.setCtxAt c ({ s1.ctxAt c with
            held := x.held ++ [{ cause := cause, val := p.arg1, engine := false, pc := some pc0, area := x.saving }] } : Ctx).goOn).wakeHeld
        else .next (s1.enterTrapAt c cause p.arg1 pc0 false false none).wakeHeld
      | none => match s.savedAwaiting p.id with
        | some (k, e) =>
          let q : Option Pend := e.pend.find? fun q => q.pkt == p.id
          let pc0 := (q.map (·.pc0)).getD 0
          let s1 := match q with
            | some q => if q.rep.active then s1.writeWord (globalPhys e.save + 0xC0) q.rep.word else s1
            | none => s1
          let got := accessOf e.pend p.id
          let s1 := (s1.forget got).modEntry k e.slot fun e => { e with pend := notOf e.pend got }
          .next (s1.pendTrap k e cause p.arg1 pc0).wakeHeld
        | none =>
          if p.dest = .drop && p.agent = 0 then .next (s1.raiseOn (s.ownerNow p.src p.owner) { cause := cause, val := p.arg1 }).wakeHeld
          else .next s1.wakeHeld

/-- BADD_GRANT (R401, R402): the response writes gD and the target. -/
def execBaddGrant (s : State) : Out :=
  match s.pkt s.ev.x with
  | none => .next s
  | some p =>
    let g := leNat (p.data.take 8)
    let left := leNat (p.data.drop 8)
    let s1 := s.dropPkt p.id
    match p.dest, s.awaiting p.id with
    | .badd r sel, some c =>
      let x := s.ctxAt c
      .next (((s1.setCtxAt c ({ x with pend := x.pend.filter fun q => q.pkt != p.id }.goOn.wg r (BitVec.ofNat 64 g))).credit c sel g left)).wakeHeld
    | .badd r sel, none => match s.savedAwaiting p.id with
      | some (k, e) =>
        let a := globalPhys e.save
        let s1 := s1.deliverSlot a (.gpr r 8 false) (leBytes 8 g)
        let s1 := if sel = 0 then s1.writeWord (a + 0x38) (BitVec.ofNat 64 (granted (s1.readWord (a + 0x38)).toNat g)) else s1
        let s1 := s1.modAccount (siteOfCore k) e.region e.ltile fun t => t.granted sel g left
        .next (s1.modEntry k e.slot fun e => { (if sel = 0 then e.granted g else e) with pend := e.pend.filter fun q => q.pkt != p.id }).wakeHeld
      | none => .next s1.wakeHeld
    | _, _ => .next s1.wakeHeld

/-! Packets at their homes. -/

/-- A packet whose access the home refuses (R189, R248): logged by the owner, answered with an error response, applied as nothing. -/
def State.refuseAt (s : State) (p : Packet) (cause : BitVec 8) : State :=
  let s := if cause = cPOISON then s else s.faultEntry p.region p.src p.agent p.pa p.len cause.toNat p.class p.seq p.time
  s.replyErr p cause p.addr

/-- A packet's acknowledgement is on its way. -/
def State.ackPkt (s : State) (p : Packet) : State :=
  let d := ((s.setPkt p.id fun q => { q with op := .writeAck, arrived := false }).wakeHeld).takeDelay
  d.1.post d.2 .writeAckArrival { x := p.id }

/-- A home or a port answers MOVED: the stream counts the packet as applied (R240). -/
def State.answerMoved (s : State) (p : Packet) : State :=
  ((s.setPkt p.id fun q => { q with noop := true, arrived := false }).wakeHeld).post 0 .movedArrival { x := p.id }

/-- A packet at its home: it waits for what it must wait for, and the home may refuse it. -/
def atHome (s : State) (k : Packet → State) : Out :=
  match s.pkt s.ev.x with
  | none => .next s
  | some p =>
    if !s.mayGo p then .next (s.standBy p)
    else if p.aclass = some .paged && s.demotedAt p.pa then .next (s.answerMoved p)
    else if !s.physOk p.pa || s.cxlDead p.pa then .next (s.refuseAt p cPROTECT)
    else .next (k p)

/-- WRITE_AT_HOME (R238). -/
def execWriteAtHome (s : State) : Out := atHome s fun p => (s.applyWrite p).ackPkt p

/-- RELEASE_HOLD_END (R240): every packet that the release waited for is applied or acknowledged. -/
def execReleaseHoldEnd (s : State) : Out := atHome s fun p => (s.applyWrite p).ackPkt p

/-- ACKX_AT_HOME (R303). -/
def execAckxAtHome (s : State) : Out := atHome s fun p => (s.applyWrite p).ackPkt p

/-- DECR_AT_HOME (R300): an atomic, whose read a poisoned block refuses (R267). -/
def execDecrAtHome (s : State) : Out :=
  atHome s fun p => if s.poison.contains (p.pa / 128) then s.refuseAt p cPOISON else (s.applyDecr p).ackPkt p

/-- READ_AT_HOME (R237): the bytes at this moment, or POISON (R267). -/
def execReadAtHome (s : State) : Out :=
  atHome s fun p =>
    if s.poison.contains (p.pa / 128) then s.refuseAt p cPOISON
    else if p.win = 0 then s.reply p (if nbits p.pa 60 4 = 5 then leBytes p.len (s.readLoc { pa := p.pa } p.len) else memRead s.mem p.pa p.len)
    else s.reply p (leBytes 4 (s.readLoc { pa := p.pa, win := p.win, sub := p.sub } 4))

/-- ATOMIC_AT_UNIT (R217, R218): one indivisible step; BADD's draw is one too (R401). -/
def execAtomicAtUnit (s : State) : Out :=
  atHome s fun p =>
    match p.dest with
    | .badd _ _ =>
      if p.addr ≠ 0 && s.drawBad p.pa then s.refuseAt p (if s.poisoned p.pa 8 then cPOISON else cPROTECT)
      else match s.draw p.region p.src p.seq p.time p.arg1.toNat p.arg2.toNat with
      | (s, g, left) =>
        let d := ((s.setPkt p.id fun q => { q with op := .baddGrant, data := leBytes 8 g ++ leBytes 8 left, arrived := false }).wakeHeld).takeDelay
        d.1.post d.2 .baddGrant { x := p.id }
    | _ =>
      if s.poison.contains (p.pa / 128) then s.refuseAt p cPOISON
      else
        let r := s.applyAtomic p
        if p.dest = .drop then r.1.ackPkt p else r.1.reply p (leBytes p.len r.2)

/-- WRITE_ACK_ARRIVAL (R240): the source knows the write performed, and what it held for it goes on. -/
def execWriteAckArrival (s : State) : Out := .next (s.dropPkt s.ev.x).wakeHeld

/-! Router ports (R337, R345). -/

/-- The logical tile that a packet is aimed at; none for a physical access. -/
def Packet.aim (p : Packet) : Option Nat :=
  if p.isMem then (if p.aclass = some .role then some (bits p.addr 32 14) else none) else some p.ltile

/-- What a router port does with a packet. -/
inductive PortFate where
  | serve
  | hold
  | forward (site : Nat)
  | moved
  deriving DecidableEq, Repr

/-- The fate of a packet aimed at a logical tile at the port of a site: by the tenancy table, and by the phase of a move (R345). `mem`
for an access of memory, `task` for SPAWN and POST, which admission bounces. -/
def State.portFate (s : State) (site : Nat) (region : Word) (l : Nat) (mem task : Bool) : PortFate :=
  let t := s.tileAt site
  if t.resetting then .hold
  else match t.tenants.find? fun x => x.region == region && x.ltile == l with
    | some x =>
      if mem then (if x.incoming || t.copying then .hold else .serve)
      else if (s.rmEntry region l).state = 2 && !x.incoming && !task then .moved
      else .serve
    | none => match t.leaving with
      | some m =>
        let e := s.rmEntry region l
        if m.phase = 3 && e.state ≠ 3 && m.old.any (fun x => x.region == region && x.ltile == l) then .forward e.site else .moved
      | none => .moved

/-- Aim a packet at the home or site that the role map names now. -/
def State.reaim (s : State) (p : Packet) (site : Nat) (f : Packet → Packet) : State :=
  s.setPkt p.id fun q => f (if p.isMem then { q with pa := s.rehome p, dst := site } else { q with dst := site })

/-- Hold a packet at a port. -/
def State.holdAtPort (s : State) (site : Nat) (p : Packet) : State :=
  let t := s.tileAt site
  s.setTileAt site { t with heldPkts := t.heldPkts ++ [p.id] }

/-- What a port held goes on. -/
def State.releasePort (s : State) (site : Nat) : State :=
  let t := s.tileAt site
  t.heldPkts.foldl (fun s id => match s.pkt id with
    | some p => s.post 0 p.arrivalEvent { x := id }
    | none => s) (s.setTileAt site { t with heldPkts := [] })

/-- A packet that has been aimed afresh passes the port of its home. -/
def State.passPort (s : State) (id : Nat) : State :=
  match s.pkt id with
  | none => s
  | some p => s.post 0 p.arrivalEvent { x := id }

/-- A CTL-class delivery that does not take its slot gives its credit back, and a kept request is looked at (R359, R376). -/
def State.uncredit (s : State) (p : Packet) : State :=
  if p.ctl && p.op == .send then
    let k := 8 * p.dst + p.unit
    let c := s.coreAt k
    let s := s.setCoreAt k { c with credits := c.credits - 1, creditReqs := c.creditReqs.drop 1 }
    match c.creditReqs with
    | [] => s
    | id :: _ => s.post 0 .ctlCreditRequest { x := id }
  else s

/-- A delivery goes to another site; one of class CTL asks for a slot credit there first (R376). -/
def State.sendOn (s : State) (p : Packet) (site : Nat) (f : Packet → Packet) : State :=
  if p.ctl && p.op == .send then
    ((s.uncredit p).reaim p site fun q => { f q with op := .credit }).post 0 .ctlCreditRequest { x := p.id }
  else (s.reaim p site f).post 0 p.homeEvent { x := p.id }

/-- A forwarded packet goes on to the new site (R345), in class FWD (R375); its write is a forwarded one in the trace (R246). -/
def State.forwardPkt (s : State) (p : Packet) (site : Nat) : State :=
  if p.isMem then
    (s.reaim p site fun q => { q with fwd := true, kind := if q.op == .read then q.kind else 5 }).passPort p.id
  else s.sendOn p site fun q => { q with fwd := true }

/-- PORT_PACKET_ARRIVAL (R337, R345, R384): the port of another site accepts, holds or forwards a packet, or answers MOVED. -/
def execPortPacketArrival (s : State) : Out :=
  match s.pkt s.ev.x with
  | none => .next s
  | some p =>
    match p.aim with
    | none => .next (if (s.tileAt p.dst).resetting then s.holdAtPort p.dst p else s.post 0 p.homeEvent { x := p.id })
    | some l =>
      match s.portFate p.dst p.region l p.isMem (p.op == .spawn || p.op == .post) with
      | .serve => .next (s.post 0 p.homeEvent { x := p.id })
      | .hold => .next (s.holdAtPort p.dst p)
      | .forward site => .next (s.forwardPkt p site)
      | .moved => .next (s.answerMoved p)

/-! MOVED (R240, R260, R347, R442). -/

/-- The role that a packet needs: any where it is for a tile-walk engine (R304), else COMPUTE. -/
def Packet.roleOk (p : Packet) (role : Nat) : Bool :=
  match p.op with
  | .twJob | .twPermit | .twEnd => role ≤ 2
  | .record => if p.unit = 10 then role ≤ 2 else role = 0
  | _ => role = 0

/-- The words of R450 that name a stage or a loader. -/
def stageWord (n : Nat) : Word :=
  if n < 2 ^ 23 then mkWord [(32, n / 512), (29, n / 64 % 8), (10, n % 64)] else mkWord [(63, 1), (32, (n - 2 ^ 23) / 512)]

/-- A packet whose logical tile has no site of the role it needs: ROLE on the issuing context, at its group or at its next boundary; a
delivery of no context is dropped and reported. -/
def State.roleLost (s : State) (p : Packet) (l : Nat) : State :=
  if p.agent ≠ 0 then
    if p.record ≠ 0 then (s.consume p).pipeReport p.region (bits p.arg1 48 16) 20 (bits p.arg2 32 32) (stageWord p.stage)
    else (s.consume p).tellDrop p.agent p.src p.srcRegion p.addr p.report 6
  else if p.dest = .drop then
    (s.consume p).raiseOn (s.ownerNow p.src p.owner) { cause := cROLE, val := BitVec.ofNat 64 l }
  else s.replyErr p cROLE (BitVec.ofNat 64 l)

/-- The sender's NI reads the entry afresh (R347). -/
def State.refreshRm (s : State) (site : Nat) (region : Word) (l : Nat) : State :=
  let t := s.tileAt site
  (s.setTileAt site { t with rmCache := t.rmCache.filter fun c => !(c.region == region && c.ltile == l) }).fillRm site region l

/-- With the entry refreshed: one resend, or ROLE. -/
def State.resendOrRole (s : State) (p : Packet) (l : Nat) : State :=
  let e := s.rmEntry p.region l
  if e.state ≠ 3 && p.roleOk e.role then
    let f (q : Packet) : Packet := { q with resend := true, fwd := false, gen := e.gen, arrSeq := 0 }
    if p.isMem then (s.reaim p e.site f).passPort p.id else s.sendOn p e.site f
  else (s.uncredit p).roleLost p l

/-- MOVED answers a paged access (R270, R390): the page's entries are dropped, and one resend uses a fresh walk. -/
def State.rewalk (s : State) (p : Packet) : State :=
  let k := coreOfCtx p.src
  let va := p.addr.toNat
  let want : Want := match p.op with
    | .read => .read
    | .atomic => .both
    | _ => .write
  let r := ({ (s.dropPage k p.region va) with cur := p.src } : State).translateAt k p.region p.priv va want
  match (({ r.1 with cur := s.cur } : State), r.2) with
  | (s, .bad c) => s.refuseAt p c
  | (s, .moving) => s.post 1000 .movedArrival { x := p.id }
  | (s, .ok pa _) => (s.setPkt p.id fun q => { q with pa := rawPhys pa, resend := true, arrSeq := 0 }).post 0 p.homeEvent { x := p.id }

/-- MOVED_ARRIVAL (R347): the sender's NI refreshes its entry; a NOTICED or LEAVING one holds the packet; a second MOVED ends it (R260). -/
def execMovedArrival (s : State) : Out :=
  match s.pkt s.ev.x with
  | none => .next s
  | some p =>
    let l := p.aim.getD 0
    if p.isMem && p.aclass = some .paged then .next (s.rewalk p) else
    let s := if p.agent = 5 then s else s.refreshRm (siteOfCtx p.src) p.region l
    let e := s.rmEntry p.region l
    if p.resend then .next ((s.uncredit p).roleLost p l)
    else if e.state = 1 || e.state = 2 then .next (s.post 1000 .movedReread { x := p.id, y := e.gen })
    else .next (s.resendOrRole p l)

/-- MOVED_REREAD (R347): every 1 µs until GEN changes. -/
def execMovedReread (s : State) : Out :=
  match s.pkt s.ev.x with
  | none => .next s
  | some p =>
    let l := p.aim.getD 0
    let s := if p.agent = 5 then s else s.refreshRm (siteOfCtx p.src) p.region l
    let e := s.rmEntry p.region l
    if e.gen = s.ev.y && (e.state = 1 || e.state = 2) then .next (s.post 1000 .movedReread s.ev)
    else .next (s.resendOrRole p l)

/-! Lost packets (R249, R374, R383). -/

/-- A packet is lost: dropped unperformed, counted as applied, and entered as LOST in its source's log. -/
def State.losePkt (s : State) (p : Packet) : State :=
  (s.faultEntry p.region p.src p.agent (if p.isMem then p.pa else p.addr.toNat) p.len 0 p.class p.seq p.time).consume p

/-- The unit that a packet is for (DUNIT, R374). -/
def Packet.dunit (p : Packet) : Nat :=
  if p.isMem then
    match p.pa / 2 ^ 60 with
    | 0 | 4 => 13
    | 5 => 15
    | _ => if p.op == .atomic || p.op == .decr then 11 else 12
  else match p.op with
    | .lease | .lrel => 14
    | .credit | .creditRetry => 12
    | _ => p.unit

/-- The number of an operation in OP, which R374 leaves to the issuing instruction or engine: the model's own (log 83). -/
def PktOp.code (o : PktOp) : Nat :=
  match o with
  | .read => 0
  | .write => 1
  | .release => 2
  | .atomic => 3
  | .response => 4
  | .errResponse => 5
  | .writeAck => 6
  | .moved => 7
  | .send => 8
  | .kick => 9
  | .record => 10
  | .spawn => 11
  | .post => 12
  | .decr => 13
  | .ackx => 14
  | .twJob => 15
  | .twPermit => 16
  | .twEnd => 17
  | .baddGrant => 18
  | .lease => 19
  | .lrel => 20
  | .credit => 21
  | .creditRetry => 22

/-- Words 0 to 7 of the header beat of a packet (R374). A home in a column's memory has no site of its own: its column's first stands for
it (log 83). -/
def State.header (s : State) (p : Packet) : List Word :=
  let dst := if p.isMem then (if p.pa / 2 ^ 60 = 0 || 4 ≤ p.pa / 2 ^ 60 then 1440 * nbits p.pa 44 4 else siteOfPhys p.pa) else p.dst
  let dmod := if p.isMem then nbits p.pa 48 12 else s.module
  let src := siteOfCtx p.src
  let inl := decide (p.data.length ≤ 64)
  [mkWord [(52, dmod), (45, mwX dst), (38, mwY dst), (34, p.dunit), (31, p.class), (15, p.seq % 2 ^ 16), (4, if inl then 0 else p.data.length)],
   mkWord [(52, s.module % 4096), (45, mwX src), (38, mwY src), (35, coreOfCtx p.src % 8), (33, p.src % 4), (30, p.agent), (0, p.id % 2 ^ 16)],
   mkWord [(56, p.op.code), (55, b2n p.poison), (54, b2n p.resend)],
   p.region, mkWord [(32, p.ltile), (0, p.gen % 2 ^ 16)], if p.isMem && !p.phys then BitVec.ofNat 64 p.pa else p.addr, BitVec.ofNat 64 p.time,
   mkWord [(0, if inl then p.data.length else 0)]]

/-- A header that a router drops (R374): a reserved bit set, CLASS 6 or 7, DX above 119, or DY above 107. -/
def beatBad (h : List Word) : Bool :=
  let w (i : Nat) : Word := h.getD i 0
  bits (w 0) 0 4 ≠ 0 || 6 ≤ bits (w 0) 31 3 || 119 < bits (w 0) 45 7 || 107 < bits (w 0) 38 7 || bits (w 1) 16 14 ≠ 0 || bits (w 2) 0 53 ≠ 0 ||
  bits (w 4) 46 18 ≠ 0 || bits (w 4) 16 16 ≠ 0 || bits (w 7) 7 57 ≠ 0

/-- MALFORMED_HEADER_DROP (R374): a router receives the header of packet x with word y as `val` has it, drops the packet where the header is
bad, and sends a LOST report. -/
def execMalformedHeaderDrop (s : State) : Out :=
  match s.pkt s.ev.x with
  | none => .next s
  | some p => if beatBad ((s.header p).set s.ev.y s.ev.val) then .next (s.losePkt p) else .next s

/-! Deliveries on their way (R294, R297, R298, R302, R451). -/

/-- The arrival of a delivery at the port of its site, then at its core. A record to a tile-walk engine is not this (unit 10). -/
def State.deliver (s : State) (p : Packet) (k : State → Packet → State) : State :=
  let drop (code : Nat) : State :=
    let s := (s.uncredit p).consume p
    if p.record ≠ 0 then s.pipeReport p.region (bits p.arg1 48 16) 20 (bits p.arg2 32 32) (stageWord p.stage)
    else s.tellDrop p.agent p.src p.srcRegion p.addr p.report code
  if s.rmLen p.region ≤ p.ltile then drop 10
  else if p.agent ≠ 0 && !s.hasSite p.region p.ltile then drop 6
  else if !s.mayGo p then s.standBy p
  else match s.portFate p.dst p.region p.ltile false (p.op == .spawn || p.op == .post) with
    | .serve => k s p
    | .hold => s.holdAtPort p.dst p
    | .forward site => s.forwardPkt p site
    | .moved => s.post 0 .movedArrival { x := p.id }

/-- The event of a delivery. -/
def delivered (s : State) (k : State → Packet → State) : Out :=
  match s.pkt s.ev.x with
  | none => .next s
  | some p => .next (s.deliver p k)

/-- SEND_ARRIVAL (R294, R295, R359). -/
def execSendArrival (s : State) : Out := delivered s fun s p => s.arrive p

/-- KICK_ARRIVAL (R302): the notice, held until the sender's earlier accesses are performed. -/
def execKickArrival (s : State) : Out := delivered s fun s p => s.arrive p

/-- The task that a SPAWN or POST packet offers (R296). -/
def spawnOffer (p : Packet) (msg : Word) (inbox : Option Nat) : Offer :=
  let w4 := blockWord p.data 4
  let cls := BitVec.ofNat 2 (bits w4 62 2)
  let budget := bits w4 0 32
  { entry := blockWord p.data 0, arg1 := blockWord p.data 1, arg2 := blockWord p.data 2, msg := msg, len := p.len,
    deadline := if cls = 2 then BitVec.allOnes 64 else blockWord p.data 3, rem := budget, resv := if cls = 0 then 0 else budget, cls := cls,
    region := p.region, ltile := p.ltile, priv := p.priv, srcRegion := p.srcRegion, inbox := inbox }

/-- Test a SPAWN or POST at core `k`: its payload takes a slot, which a refusal gives back. With SIZE 0 no slot is there, and the test is
FULL (R359) unless an earlier check of R276 refuses. -/
def State.testSpawn (s : State) (k : Nat) (p : Packet) : State × Nat :=
  if p.len = 0 then s.admitTask k (spawnOffer p 0 none)
  else
    let c := s.coreAt k
    match if c.chSize = 0 then none else c.slotFree false with
      | none =>
        let code := (s.admitCode k (spawnOffer p 0 none) (spawnOffer p 0 none).resv).2
        let code := if 5 ≤ code then code else 1
        (s.noteCode k code, code)
      | some sl =>
        let s := s.placeIn k sl { p with data := p.data.drop 48, ch := 0xFF } true
        match s.admitTask k (spawnOffer p (roleAddr p.ltile (k % 8) (c.slotOff sl)) (some sl)) with
        | (s, 0) => (s, 0)
        | (s, code) => (s.freeSlot k sl, code)

/-- SPAWN_ARRIVAL (R297): accepted, or bounced with its code; nothing is held. -/
def execSpawnArrival (s : State) : Out :=
  delivered s fun s p =>
    match s.testSpawn (8 * p.dst + p.unit) p with
    | (s, code) => s.reply p (leBytes 8 code)

/-- POST_ARRIVAL (R298): a refusal is reported. -/
def execPostArrival (s : State) : Out :=
  delivered s fun s p =>
    match s.testSpawn (8 * p.dst + p.unit) p with
    | (s, code) =>
      let s := s.consume p
      if code = 0 then s else s.report p.srcRegion (BitVec.ofNat 64 code) p.addr

end Sys2Proof.Machine
end

