-- ==== Sys2Proof/Machine/Tier.lean ====
section
/-! DEFINITION. The tier engine (R262 to R270, R391), protection changes (R191, R263, R264), errors of backed blocks (R267), the DRAM
clock ratio (R271) and spare rows (R430). -/

namespace Sys2Proof.Machine

/-! Bytes of frames. -/

/-- Copy the `n` bytes at `a` to `b`. -/
def copyMem (m : Tab Byte) (a b n : Nat) : Tab Byte :=
  (m.filter fun p => decide (a ≤ p.1) && decide (p.1 < a + n)).foldl (fun m p => tput m (p.1 - a + b) p.2)
    (m.filter fun p => !(decide (b ≤ p.1) && decide (p.1 < b + n)))

/-- Clear `n` bytes at `a`. -/
def clearMem (m : Tab Byte) (a n : Nat) : Tab Byte := m.filter fun p => !(decide (a ≤ p.1) && decide (p.1 < a + n))

/-- The frame whose bytes a frame is: SPACE 4 has one offset through the module, whatever the COLUMN (R188). -/
def rawFrame (f : Nat) : Nat := rawPhys (65536 * f) / 65536

/-- Copy `n` frames, with the poison of their blocks. -/
def State.copyFrames (s : State) (a b n : Nat) : State :=
  let a := rawFrame a
  let b := rawFrame b
  let inA (x : Nat) : Bool := decide (512 * a ≤ x) && decide (x < 512 * (a + n))
  let inB (x : Nat) : Bool := decide (512 * b ≤ x) && decide (x < 512 * (b + n))
  { s with mem := copyMem s.mem (65536 * a) (65536 * b) (65536 * n)
           poison := ((s.poison.filter inA).map fun x => x - 512 * a + 512 * b).foldl sinsert (s.poison.filter fun x => !inB x) }

/-! Page-table entries. -/

/-- A leaf entry in memory: its address, level and words. -/
structure LeafAt where
  at_ : Nat
  level : Nat
  w0 : Nat
  w1 : Nat
  deriving DecidableEq, Repr

def LeafAt.frame (e : LeafAt) : Nat := e.w0 / 65536
def LeafAt.gen (e : LeafAt) : Nat := nbits e.w0 1 15
def LeafAt.moving (e : LeafAt) : Bool := nbits e.w1 10 1 = 1
def LeafAt.frames (e : LeafAt) : Nat := 16 ^ (3 * e.level)

/-- The leaf entry that maps an address, below the table at `base`. -/
def leafFrom (m : Tab Byte) (va : Nat) : Nat → Nat → Option LeafAt
  | l, base =>
    let a := base + 16 * ptIndex l va
    let w0 := leNat (memRead m a 8)
    let w1 := leNat (memRead m (a + 8) 8)
    if w0 % 2 = 0 then none
    else if nbits w1 11 1 = 1 then (if leafOk l w0 w1 then some { at_ := a, level := l, w0 := w0, w1 := w1 } else none)
    else match l with
      | 0 => none
      | l + 1 => if tableOk w0 w1 then leafFrom m va l (w0 / 65536 * 65536) else none

def State.leafOf (s : State) (region : Word) (va : Nat) : Option LeafAt := leafFrom s.mem va 3 (globalPhys (s.regionAt region).ptRoot)

/-- Every leaf entry below the table of level `l` at `base`, with the first address that it maps: V is bit 0 of an entry's first byte. -/
def leavesFrom (m : Tab Byte) : Nat → Nat → Nat → List (Nat × LeafAt)
  | l, base, va =>
    (m.filter fun p => decide (base ≤ p.1) && decide (p.1 < base + (if l = 3 then 512 else 65536)) && (p.1 - base) % 16 == 0 && p.2.toNat % 2 == 1).flatMap
      fun p =>
        let w0 := leNat (memRead m p.1 8)
        let w1 := leNat (memRead m (p.1 + 8) 8)
        let va := va + (p.1 - base) / 16 * ptSize l
        if nbits w1 11 1 = 1 then (if leafOk l w0 w1 then [(va, { at_ := p.1, level := l, w0 := w0, w1 := w1 })] else [])
        else match l with
          | 0 => []
          | l + 1 => if tableOk w0 w1 then leavesFrom m l (w0 / 65536 * 65536) va else []

/-- The pages of a region. -/
def State.pagesOf (s : State) (r : Region) : List (Nat × LeafAt) := leavesFrom s.mem 3 (globalPhys r.ptRoot) 0

/-- Every leaf entry of the module's page tables. -/
def State.leaves (s : State) : List LeafAt :=
  (s.regions.flatMap fun r => if r.2.ended then [] else (s.pagesOf r.2).map (·.2)).eraseDups

/-- Rewrite FRAME with GEN + 1, TIER, and MOVING cleared (R391 steps 4 and 5). -/
def State.putLeaf (s : State) (e : LeafAt) (frame tier : Nat) : State :=
  (s.writeNat e.at_ 8 (65536 * frame + (e.gen + 1) % 2 ^ 15 * 2 + 1)).writeNat (e.at_ + 8) 8
    (setField (setField (BitVec.ofNat 64 e.w1) 6 3 tier) 10 1 0).toNat

/-- Set or clear MOVING of an entry in memory. -/
def State.markMoving (s : State) (at_ v : Nat) : State := s.writeWord (at_ + 8) (setField (s.readWord (at_ + 8)) 10 1 v)

/-! Frames. -/

/-- The 24 frames of a storage site (R193). -/
def storageFrames (module site : Nat) : List Nat :=
  rangeFrom ((3 * 2 ^ 60 + module * 2 ^ 48 + colOfSite site * 2 ^ 44 + txOf site * 2 ^ 38 + tyOf site * 2 ^ 32) / 65536) 24

/-- The tier of a frame by its SPACE (R262). -/
def tierOfFrame (f : Nat) : Nat :=
  match f / 2 ^ 44 % 16 with
  | 3 => 1
  | 0 => 2
  | _ => 3

/-- The backing frame of a page that software mapped to a storage tile's frame `f` itself, in the DRAM of the same column (R262; log 59): each
frame of the column's storage tiles has one of its own. -/
def softBack (f : Nat) : Nat :=
  let site := f / 2 ^ 22 % 64 * 36 + f / 2 ^ 16 % 64
  f / 2 ^ 28 % 2 ^ 16 * 2 ^ 28 + (Config.backingFrame (f / 2 ^ 28 % 2 ^ 16) + 24 * site + f % 32) % 1572864

/-- A frame is reserved as backing of a page (R262). -/
def State.reserved (s : State) (leaves : List LeafAt) (x : Nat) : Bool :=
  s.cols.any (fun c => c.2.backing.any fun b => decide (b.back ≤ x) && decide (x < b.back + b.n)) ||
  leaves.any fun e => tierOfFrame e.frame == 1 && softBack e.frame == x

/-- `n` free frames of a tier in a column, aligned and in a row, that no page table maps and no page has as its backing (log 17). -/
def State.findFrames (s : State) (col tier n : Nat) : Option Nat :=
  let free := (s.colAt col).freeFrames
  let used := s.leaves
  if tier = 1 && n ≠ 1 then none
  else free.find? fun f => tierOfFrame f == tier && f % n == 0 && (rangeFrom f n).all fun x =>
    free.contains x && !s.reserved used x && !used.any fun e => decide (e.frame ≤ x) && decide (x < e.frame + e.frames)

def State.takeFrames (s : State) (col f n : Nat) : State :=
  let c := s.colAt col
  s.setColAt col { c with freeFrames := c.freeFrames.filter fun x => !(decide (f ≤ x) && decide (x < f + n)) }

def State.giveFrames (s : State) (f n : Nat) : State :=
  let col := f / 2 ^ 28 % 16
  let c := s.colAt col
  s.setColAt col { c with freeFrames := (rangeFrom f n).foldl sinsert c.freeFrames }

/-- The backing of the page whose first frame is `f`; every page in storage tiles has one (R262). -/
def State.backOf (s : State) (f : Nat) : Option Backed :=
  match (s.colAt (f / 2 ^ 28 % 16)).backing.find? fun b => b.frame == f with
  | some b => some b
  | none => if tierOfFrame f = 1 then some { frame := f, n := 1, back := softBack f } else none

def State.dropBack (s : State) (f : Nat) : State :=
  let col := f / 2 ^ 28 % 16
  let c := s.colAt col
  s.setColAt col { c with backing := c.backing.filter fun b => b.frame != f }
def State.addBack (s : State) (b : Backed) : State :=
  let col := b.frame / 2 ^ 28 % 16
  let c := s.colAt col
  s.setColAt col { c with backing := c.backing ++ [b] }

/-! Pins (R265, R269). -/

/-- The object that a page is: its first backing frame (R269). -/
def State.object (s : State) (l : LeafAt) : Nat := ((s.backOf l.frame).map (·.back)).getD l.frame

/-- An entry covers a byte of the page at `va`. -/
def TierEntry.meets (e : TierEntry) (va n : Nat) : Bool := decide (e.base.toNat < va + n) && decide (va < e.base.toNat + 65536 * e.len)

/-- A region pins the page that it maps at `va`: for an entry of its schedule, or for PF. -/
def Region.pinsAt (r : Region) (va n : Nat) : Bool :=
  (r.tiers.any fun e => e.pinned && e.meets va n) || r.pfs.any fun p => p.pin && decide (va ≤ 65536 * p.page) && decide (65536 * p.page < va + n)

/-- Some region pins the object of the page of `va`, through whatever address it maps it at. -/
def State.pinnedBy (s : State) (region : Word) (va : Nat) : Bool :=
  match s.leafOf region va with
  | none => false
  | some l =>
    let o := s.object l
    s.regions.any fun r => !r.2.ended && (r.2.tiers.any (·.pinned) || r.2.pfs.any (·.pin)) && (s.pagesOf r.2).any fun q =>
      decide (s.object q.2 < o + l.frames) && decide (o < s.object q.2 + q.2.frames) && r.2.pinsAt q.1 (ptSize q.2.level)

def State.modTier (s : State) (region : Word) (i : Nat) (f : TierEntry → TierEntry) : State :=
  let r := s.regionAt region
  match r.tiers[i]? with
  | none => s
  | some e => s.setRegion { r with tiers := r.tiers.set i (f e) }

/-! Moves (R268, R391). An object may be mapped by entries of several regions: each is rewritten. The commit event: x region, y address, z old
frame, w the number of frames, v new frame, flag a move up, list the entries: address and word 0 of each, the mover's own first. -/

/-- The entries that a move of the page of `e` rewrites: its own, and the others that map the same frames. -/
def State.moved (s : State) (e : LeafAt) : List LeafAt := e :: s.leaves.filter fun x => x != e && x.frame == e.frame && x.level == e.level

/-- The entries of a commit event: address and word 0 of each. -/
def entriesOf : List Nat → List (Nat × Nat)
  | a :: w :: r => (a, w) :: entriesOf r
  | _ => []

/-- The longest TLIFE of the regions that map frame `f`, the mover's `region` among them: no cached translation of the page is used after it. -/
def State.tlifeOver (s : State) (region : Word) (f : Nat) : Nat :=
  ((s.regions.filter fun r => !r.2.ended && (s.pagesOf r.2).any fun q => q.2.frame == f).map fun r => r.2.tlifeOf).foldl Nat.max
    (s.regionAt region).tlifeOf

/-- Steps 1 and 2 of R391: word 0 is kept, MOVING is set, and TLIFE passes, after which no cached translation of the page is used. -/
def State.beginMove (s : State) (region : Word) (va : Nat) (e : LeafAt) (new : Nat) (up : Bool) : State :=
  let es := s.moved e
  (es.foldl (fun s x => s.markMoving x.at_ 1) s).post (s.tlifeOver region e.frame + 1) .tierMoveCommit
    { x := region.toNat, y := va, z := e.frame, w := e.frames, v := new, flag := up, list := es.flatMap fun x => [x.at_, x.w0] }

/-! Requests on one object are served in the order in which they reach the engine (R269): one that waits keeps its place. -/

/-- No earlier request waits on the object. -/
def State.tierTurn (s : State) (o : Nat) (q : Instr × Ev) : Bool := (s.tierQ.find? fun p => p.1 == o).all fun p => p.2 == q

/-- A request waits on an object, and looks again 1 µs later. -/
def State.tierWait (s : State) (o : Nat) (q : Instr × Ev) : State :=
  let s := if s.tierQ.contains (o, q) then s else { s with tierQ := (s.tierQ.filter fun p => p.2 != q) ++ [(o, q)] }
  s.post 1000 q.1 q.2

/-- A request waits no more. -/
def State.tierServed (s : State) (q : Instr × Ev) : State := { s with tierQ := s.tierQ.filter fun p => p.2 != q }

/-- A move up is queued for the object. -/
def State.upQueued (s : State) (o : Nat) : Bool := s.tierQ.any fun p => p.1 == o && p.2.1 == .tierFetchStart

/-- What a request to move a page up comes to: it has begun, or there is nothing to move; no room; an earlier request on the object is in
hand, and it waits (R269). -/
inductive UpRes where
  | served | noRoom | queued
  deriving DecidableEq, Repr

/-- Start a move up of the page of `va`, for request `q`. -/
def State.moveUp (s : State) (region : Word) (va tier col : Nat) (q : Instr × Ev) : State × UpRes :=
  match s.leafOf region va with
  | none => (s.tierServed q, .served)
  | some e =>
    if e.moving || !s.tierTurn (s.object e) q then (s.tierWait (s.object e) q, .queued)
    else
    let s := s.tierServed q
    if inTier tier col (65536 * e.frame) || (tier = 1 && e.level ≠ 0) then (s, .served)
    else match s.findFrames col tier e.frames with
      | none => (s, .noRoom)
      | some f => ((s.takeFrames col f e.frames).beginMove region va e f true, .served)

/-- The address after the page of `va`. -/
def State.nextPage (s : State) (region : Word) (va : Nat) : Nat :=
  let n := (s.leafOf region va).elim 65536 fun e => ptSize e.level
  (va / n + 1) * n

/-- A request of PF is for the page of `va`, as the page stands now or as it stood at PF. -/
def State.pfOf (s : State) (region : Word) (va : Nat) (p : PfReq) : Bool := p.page == s.pageUnit region va || p.page == va / 65536

/-- PF's request for a page is done with (R220): the PFWAITs of this tick see how it ended (R221). -/
def State.endPf (s : State) (region : Word) (va : Nat) : State :=
  let r := s.regionAt region
  let mine (p : PfReq) : Bool := s.pfOf region va p && p.done.isNone
  if r.pfs.any mine then s.setRegion { r with pfs := r.pfs.map fun p => if mine p then { p with done := some s.time } else p } else s

/-- A fetch aimed at storage tiles found no room (SPRESS, R338). -/
def State.countNoRoom (s : State) (tier col : Nat) : State :=
  if tier = 1 then let c := s.colAt col; s.setColAt col { c with noRoom := c.noRoom + 1 } else s

/-- The entry whose fetch is to start: of those due and not started, the one needed first, the first in schedule order (R265). -/
def State.dueEntry (s : State) (r : Region) : Option Nat :=
  (minBy (fun q : Nat × TierEntry => q.2.needed) ((List.zip (List.range r.tiers.length) r.tiers).filter fun q =>
    q.2.usable && !q.2.pinned && decide (q.2.needed - q.2.lead ≤ s.time) && decide (s.time ≤ q.2.needed + q.2.hold))).map (·.1)

/-- What tells an entry from one that a store has put in its place. -/
def TierEntry.key (e : TierEntry) : List Nat := [e.base.toNat, e.len, e.tier, e.column, e.needed, e.hold]

/-- The fetch of entry `i` at frame `v` of its range. -/
def fetchEv (region : Word) (i v : Nat) (e : TierEntry) : Ev := { x := region.toNat, y := i, v := v, flag := true, list := e.key }

/-- Fetch the pages of the entry `i` of `key` from frame `v` of its range on. A fetch that still runs at NEEDED, or at the end of the pin,
goes on (R265). -/
def State.fetchRange (s : State) (region : Word) (i v : Nat) (key : List Nat) : State :=
  match (s.regionAt region).tiers[i]? with
  | none => s
  | some e =>
    let q : Instr × Ev := (.tierFetchStart, fetchEv region i v e)
    let va := e.base.toNat + 65536 * v
    if e.key ≠ key then { s with tierQ := s.tierQ.filter fun p => p.2 != (.tierFetchStart, { fetchEv region i v e with list := key }) }
    else if !e.usable || e.len ≤ v then s.tierServed q
    else match s.moveUp region va e.tier e.column q with
      | (s', .noRoom) => (s'.countNoRoom e.tier e.column).post 1000 q.1 q.2
      | (s', .queued) => s'
      | (s', .served) => s'.post 0 .tierFetchStart (fetchEv region i ((s.nextPage region va - e.base.toNat) / 65536) e)

/-- PF's request for the page of `va` (R220): the region's pin, then the move (R269). -/
def State.fetchPage (s : State) (region : Word) (va : Nat) : State :=
  let q : Instr × Ev := (.tierFetchStart, { x := region.toNat, y := 1024, z := va })
  let r := s.regionAt region
  match r.pfs.find? fun p => p.page == va / 65536 && p.done.isNone with
  | none => s.tierServed q
  | some p =>
    let s := s.setRegion { r with pfs := r.pfs.map fun x => if x = p then { x with pin := true } else x }
    match s.moveUp region va p.tier p.column q with
    | (s', .served) => if (s'.leafOf region va).any (·.moving) then s' else s'.endPf region va
    | (s', .noRoom) => (s'.countNoRoom p.tier p.column).endPf region va
    | (s', .queued) => s'

/-- TIER_FETCH_START (R265, R220): PF's request; or, for an entry that falls due, the pin that is held until TIME passes NEEDED + HOLD,
and the fetch of its range, which goes on until every page has been asked for. Event operands: x region; y entry, or 1024 for PF's
request for the page of z; flag: the fetch of entry y goes on at frame v of its range, list what tells
the entry. -/
def execTierFetchStart (s : State) : Out :=
  let region := BitVec.ofNat 64 s.ev.x
  if s.ev.y = 1024 then .next (s.fetchPage region s.ev.z)
  else if s.ev.flag then .next (s.fetchRange region s.ev.y s.ev.v s.ev.list)
  else match s.dueEntry (s.regionAt region) with
    | none => .next s
    | some i =>
      let s := s.modTier region i fun e => { e with pinned := true }
      let e := ((s.regionAt region).tiers[i]?).getD { base := 0, len := 0, tier := 0, needed := 0, lead := 0, hold := 0 }
      .next ((s.postAt (e.needed + e.hold + 1) .tierPinExpiry { x := s.ev.x, y := i }).fetchRange region i 0 e.key)

/-- An access to the frames of a page is under way. -/
def State.busyFrames (s : State) (f n : Nat) : Bool := s.net.any fun p => p.isMem && p.overlaps (65536 * f) (65536 * n)

/-- The memory of some of `n` frames from `f` on holds accesses (R22, R264, R267, R271). -/
def State.framesHeld (s : State) (f n : Nat) : Bool :=
  let c := s.colAt (f / 2 ^ 28 % 16)
  let inF (x : Nat) : Bool := decide (f % 2 ^ 28 ≤ x) && decide (x < f % 2 ^ 28 + n)
  s.cxlWaits (65536 * f) ||
    (tierOfFrame f == 2 && (c.dramHeld || (c.prot.any fun p => p.2.2 && inF p.1) || c.refetch.any fun b => inF (b / 512 % 2 ^ 28)))

/-- Clear MOVING of the entries of a commit event. -/
def State.endMoving (s : State) (es : List (Nat × Nat)) : State := es.foldl (fun s p => s.markMoving p.1 0) s

/-- Steps 4 and 5 of R391 on one entry: it names frame `new`, and is MOVING no more, where word 0 is as it was; else it keeps what software
wrote. -/
def State.commitLeaf (s : State) (new : Nat) (p : Nat × Nat) : State :=
  if s.readNat p.1 8 = p.2 then s.putLeaf { at_ := p.1, level := 0, w0 := p.2, w1 := s.readNat (p.1 + 8) 8 } new (tierOfFrame new)
  else s.markMoving p.1 0

/-- TIER_MOVE_COMMIT (R268, R269, R391): the frames are copied and the entries rewritten, where the mover's own is as it was. A demotion of a
page that is pinned again, or that a move up is queued for, is abandoned, and so is a move whose memory a failed CXL port holds (log 59). The
copy waits while an access to the page is under way (R262), or while its memory holds accesses. -/
def execTierMoveCommit (s : State) : Out :=
  match entriesOf s.ev.list with
  | [] => .next s
  | p :: r =>
    let region := BitVec.ofNat 64 s.ev.x
    let va := s.ev.y
    let f := s.ev.z
    let n := s.ev.w
    let e : LeafAt := { at_ := p.1, level := 0, w0 := p.2, w1 := 0 }
    if s.readNat p.1 8 ≠ p.2 || (!s.ev.flag && (s.pinnedBy region va || s.upQueued (s.object e))) ||
        s.cxlDead (65536 * f) || s.cxlDead (65536 * s.ev.v) then
      .next (((if s.ev.flag then s.giveFrames s.ev.v n else s).endMoving (p :: r)).endPf region va)
    else if s.busyFrames f n || s.framesHeld f n || s.framesHeld s.ev.v n then .next (s.post 1000 .tierMoveCommit s.ev)
    else
      let old := s.backOf f
      let s' := (p :: r).foldl (fun s x => s.commitLeaf s.ev.v x) (s.copyFrames f s.ev.v n)
      let s' := if old.isSome then (s'.dropBack f).giveFrames f n else s'
      let s' := if s.ev.flag then s'.addBack { frame := s.ev.v, n := n, back := (old.map (·.back)).getD f } else s'
      .next (s'.endPf region va)

/-- TIER_PIN_EXPIRY (R265): the region's pin drops once TIME is past NEEDED + HOLD. -/
def execTierPinExpiry (s : State) : Out :=
  let region := BitVec.ofNat 64 s.ev.x
  match (s.regionAt region).tiers[s.ev.y]? with
  | none => .next s
  | some e =>
    if e.pinned && e.needed + e.hold < s.time then
      .next ((s.modTier region s.ev.y fun e => { e with pinned := false }).post 0 .tierEvict
        { x := s.ev.x, y := s.ev.y, z := e.base.toNat / 65536, w := e.len, flag := true })
    else .next s

/-- The region's pin for PF on the page of `va` drops. -/
def State.unpinPf (s : State) (region : Word) (va : Nat) : State :=
  let r := s.regionAt region
  let mine (p : PfReq) : Bool := s.pfOf region va p && p.pin
  if r.pfs.any mine then s.setRegion { r with pfs := r.pfs.map fun p => if mine p then { p with pin := false } else p } else s

/-- A page of a range whose pin has dropped goes to its backing frames where nothing pins it and no move up is queued for it (R269); none
while an earlier request has it in hand, for which the eviction `q` waits. -/
def State.evictPage (s : State) (region : Word) (va : Nat) (q : Instr × Ev) : Option State :=
  match s.leafOf region va with
  | none => some s
  | some l =>
    if s.pinnedBy region va || s.upQueued (s.object l) then some s
    else if l.moving || !s.tierTurn (s.object l) q then none
    else some ((s.backOf l.frame).elim s fun b => s.beginMove region va l b.back false)

/-- TIER_EVICT (R269): each page of the range in turn; one that an earlier request has in hand is seen again 1 µs later. Event operands: x
region; z the range's first page, w its frames; v the frames already seen. -/
def execTierEvict (s : State) : Out :=
  let region := BitVec.ofNat 64 s.ev.x
  let va := 65536 * (s.ev.z + s.ev.v)
  if s.ev.w ≤ s.ev.v then .next s
  else
    let s := s.unpinPf region va
    match s.evictPage region va (.tierEvict, s.ev) with
    | none => .next (s.tierWait ((s.leafOf region va).elim 0 s.object) (.tierEvict, s.ev))
    | some s' => .next ((s'.tierServed (.tierEvict, s.ev)).post 0 .tierEvict { s.ev with v := s.nextPage region va / 65536 - s.ev.z })

/-! Storage sites and frames that go (R270, R430, R431). -/

/-- Ranges that lost a page are placed again: the fetch of each pinned entry starts over (R270). -/
def State.replace (s : State) : State :=
  s.regions.foldl (fun s r =>
    (List.range r.2.tiers.length).foldl (fun s i => match r.2.tiers[i]? with
      | some e => if e.pinned then s.post 0 .tierFetchStart (fetchEv r.2.id i 0 e) else s
      | none => s) s) s

/-- Demote the page at `b`: its entries are rewritten, and accesses on their way draw MOVED. One that no entry maps any more is not
copied: nothing but its record goes. -/
def State.demoteNow (s : State) (b : Backed) : State :=
  let es := s.leaves.filter fun e => e.frame == b.frame
  let s := if es.isEmpty then s else es.foldl (fun s e => s.putLeaf e b.back (tierOfFrame b.back)) (s.copyFrames b.frame b.back b.n)
  let col := b.frame / 2 ^ 28 % 16
  let c := s.colAt col
  s.setColAt col { c with backing := c.backing.filter fun x => x.frame != b.frame, demoted := (rangeFrom b.frame b.n).foldl sinsert c.demoted }

/-- Moves under way from frames that `p` selects, or up to them, end without effect, and what of their new frames `p` does not select is
free again (R270). -/
def State.cancelMoves (s : State) (p : Nat → Bool) : State :=
  let off (i : Instr) (v : Ev) : Bool := i == .tierMoveCommit && (p v.z || (v.flag && p v.v))
  let mine := s.agenda.filter fun x => off x.2.1 x.2.2
  mine.foldl (fun s x =>
    ((if x.2.2.flag && !p x.2.2.v then s.giveFrames x.2.2.v x.2.2.w else s).endMoving (entriesOf x.2.2.list)).endPf
      (BitVec.ofNat 64 x.2.2.x) x.2.2.y) (s.unpost off)

/-- Demote every page of a column that `p` selects by its frame: those that the tier engine holds there, and those that software mapped to
storage tiles itself. -/
def State.demoteAll (s : State) (col : Nat) (p : Nat → Bool) : State :=
  let own := (s.colAt col).backing.filter fun b => p b.frame
  let soft := (s.leaves.map (·.frame)).eraseDups.filter fun f => p f && f / 2 ^ 28 % 16 == col && tierOfFrame f == 1 && !own.any fun b => b.frame == f
  ((own ++ soft.filterMap s.backOf).foldl State.demoteNow (s.cancelMoves p)).replace

/-- R270: every page mapped to a site's SPACE 3 is demoted, moves on their way there are called off, and its frames are no longer free. -/
def State.demoteSite (s : State) (site : Nat) : State :=
  let col := colOfSite site
  let fs := storageFrames s.module site
  let c := s.colAt col
  (s.setColAt col { c with freeFrames := c.freeFrames.filter fun f => !fs.contains f }).demoteAll col fs.contains

/-- A site becomes STORAGE: its frames are free. -/
def State.offerSite (s : State) (site : Nat) : State :=
  let col := colOfSite site
  let fs := storageFrames s.module site
  let c := s.colAt col
  s.setColAt col { c with freeFrames := fs.foldl sinsert c.freeFrames, demoted := c.demoted.filter fun f => !fs.contains f }

/-! Protection of frames (R263, R264). -/

/-- Whether the lower and the upper half of gleaned page `g` would be present if frame `f` had protection `p` (R191). -/
def Column.halves (c : Column) (g f p : Nat) : Bool × Bool :=
  let ps := (gleanFrames g).map fun x => if x = f then p else (tget c.prot x (0, false)).1
  (ps.all fun x => 1 ≤ x, ps.all fun x => x == 2)

/-- A page table maps a byte of [a, a+n). -/
def State.mapsInto (s : State) (a n : Nat) : Bool :=
  s.leaves.any fun e => decide (65536 * e.frame < a + n) && decide (a < 65536 * e.frame + ptSize e.level)

/-- The physical address of gleaned page `g` of a column. -/
def State.gleanAddr (s : State) (col g : Nat) : Nat := s.module * 2 ^ 48 + col * 2 ^ 44 + 0x1800000000 + 65536 * g

/-- PROT_WRITE (R264, R191): 3 is ignored, and so is a write while BUSY or one that would withdraw a mapped half. The change completes
within 40 µs. -/
def execProtWrite (s : State) : Out :=
  let c := s.colAt s.ev.x
  let f := s.ev.y
  let p := s.ev.z
  let old := tget c.prot f (0, false)
  let g := f / 8
  let was := c.halves g f old.1
  let will := c.halves g f p
  let a := s.gleanAddr s.ev.x g
  if 3 ≤ p || 1572864 ≤ f || old.2 || (was.1 && !will.1 && s.mapsInto a 32768) || (was.2 && !will.2 && s.mapsInto (a + 32768) 32768) then .next s
  else .next ((s.setColAt s.ev.x { c with prot := tput c.prot f (old.1, true) }).post 40000 .protChangeDone s.ev)

/-- PROT_CHANGE_DONE (R264): event operands: x column, y frame, z PROT. A change of the clock ratio delays it (R271). Contents of a
withdrawn half are lost (R191). -/
def execProtChangeDone (s : State) : Out :=
  let c := s.colAt s.ev.x
  let f := s.ev.y
  let old := tget c.prot f (0, false)
  if !old.2 then .next s
  else if c.dramHeld then .next (s.post 2000 .protChangeDone s.ev)
  else
    let g := f / 8
    let was := c.halves g f old.1
    let will := c.halves g f s.ev.z
    let a := s.gleanAddr s.ev.x g
    let s := s.setColAt s.ev.x { c with prot := tput c.prot f (s.ev.z, false) }
    let s := if was.1 && !will.1 then { s with mem := clearMem s.mem a 32768 } else s
    let s := if was.2 && !will.2 then { s with mem := clearMem s.mem (a + 32768) 32768 } else s
    .next s.wakeHeld

/-! The DRAM clock ratio (R271). -/

/-- DRAM_RATIO_CHANGE: new requests are held; a second request waits for the first. -/
def execDramRatioChange (s : State) : Out :=
  let c := s.colAt s.ev.x
  if c.dramHeld then .next (s.post 100 .dramRatioChange s.ev)
  else .next ((s.setColAt s.ev.x { c with dramHeld := true, dramReq := some s.ev.y }).post 2000 .dramRelock { x := s.ev.x })

/-- DRAM_RELOCK: the new ratio holds, and held requests go on in arrival order. -/
def execDramRelock (s : State) : Out :=
  let c := s.colAt s.ev.x
  .next (s.setColAt s.ev.x { c with dramHeld := false, dramRatio := c.dramReq.getD c.dramRatio, dramReq := none }).wakeHeld

/-! Uncorrectable errors (R267). -/

/-- The backing of a block: the block that its page's backing frames hold. -/
def State.backBlock (s : State) (block : Nat) : Option Nat :=
  ((s.colAt (block / 2 ^ 37 % 16)).backing.find? fun b => decide (512 * b.frame ≤ block) && decide (block < 512 * (b.frame + b.n))).map fun b =>
    block - 512 * b.frame + 512 * rawFrame b.back

/-- What the protection of a block's frame makes of failed bits (R263): true returned as read, false corrected, none uncorrectable. A
gleaned page is NONE storage (R191); errors elsewhere are their device's own. Bits are numbered in the block; with none given, more
symbols have failed than the protection corrects. -/
def State.protect (s : State) (block : Nat) (bad : List Nat) : Option Bool :=
  let frame := block % 2 ^ 37 / 512
  let symbols := (bad.map (· / 8)).eraseDups.length
  if block / 2 ^ 53 ≠ 0 then none
  else if 1572864 ≤ frame then some true
  else match (tget (s.colAt (block / 2 ^ 37 % 16)).prot frame (0, false)).1 with
    | 0 => if symbols = 1 then some false else none
    | 1 => if bad.length = 1 then some false else none
    | _ => some true

/-- The bits of a block as they stand once `bad` have failed. -/
def State.flipBits (s : State) (block : Nat) (bad : List Nat) : State :=
  bad.foldl (fun s i =>
    let a := 128 * block + i % 1024 / 8
    s.writeNat a 1 ((BitVec.ofNat 8 (s.readNat a 1)) ^^^ (1#8 <<< (i % 8))).toNat) s

/-- An uncorrectable error of a site's SRAM, or a core check that failed (R428): FAULTS rises, and a site that gains two in one scout window
is retired (R429). -/
def State.countFault (s : State) (site : Nat) : State :=
  let t := s.tileAt site
  let s := s.setTileAt site { t with faults := BitVec.ofNat 8 (Nat.min 255 (t.faults.toNat + 1)), winFaults := t.winFaults + 1 }
  if t.winFaults + 1 = 2 then s.post 0 .siteRetire { x := site, flag := true } else s

/-- The row of a block goes to a spare of its bank (R430). -/
def State.spareRow (s : State) (block : Nat) : State :=
  let r := Config.dramRow block
  s.post 0 .rowSpareRemap { x := block / 2 ^ 37 % 16, y := r.1, z := r.2, w := block / 512 }

/-- A corrected error is counted, and one too many of a row sends it to a spare (R263, R430). -/
def State.countCorrected (s : State) (block : Nat) : State :=
  let col := block / 2 ^ 37 % 16
  let c := s.colAt col
  let r := Config.dramRow block
  let l := c.rowErrs ++ [r]
  let s := s.setColAt col { c with corrected := c.corrected + 1, rowErrs := l }
  if c.rowThresh.toNat < l.count r then s.spareRow block else s

/-- UNCORRECTABLE_READ (R263, R267): a read meets failed bits. Those that the frame's protection corrects are counted; those of a frame
without protection are returned as they stand; otherwise a block of bonded DRAM with a backing frame is refetched, and any other is
poisoned; one of a site's SRAM counts as a fault of the site (R428). Event operands: x block, list the failed bits. -/
def execUncorrectableRead (s : State) : Out :=
  let block := s.ev.x
  let col := block / 2 ^ 37 % 16
  let c := s.colAt col
  match s.protect block s.ev.list with
  | some true => .next (s.flipBits block s.ev.list)
  | some false => .next (s.countCorrected block)
  | none =>
    if block / 2 ^ 53 = 0 && (s.backBlock block).isSome then
      if c.refetch.contains block then .next s
      else .next ((s.setColAt col { c with refetch := c.refetch ++ [block] }).post 20000 .refetchDone { x := block, flag := true })
    else
      let s : State := { s with poison := sinsert s.poison block }
      .next (if 1 ≤ block / 2 ^ 53 && block / 2 ^ 53 ≤ 3 then s.countFault (siteOfPhys (128 * block)) else s)

/-- REFETCH_DONE: event operands: x block, flag whether the copy succeeded; one from a poisoned block fails. Held accesses go on, and the row
of a block that the copy repaired goes to a spare (R430). -/
def execRefetchDone (s : State) : Out :=
  let block := s.ev.x
  let col := block / 2 ^ 37 % 16
  let c := s.colAt col
  if !c.refetch.contains block then .next s
  else if c.dramHeld then .next (s.post 2000 .refetchDone s.ev)
  else
    let s := s.setColAt col { c with refetch := c.refetch.filter fun b => b != block }
    match (s.backBlock block).filter fun b => s.ev.flag && !s.poison.contains b with
    | some b =>
      .next (({ s with mem := copyMem s.mem (128 * b) (128 * block) 128, poison := s.poison.filter fun x => x != block } : State).spareRow block).wakeHeld
    | none => .next ({ s with poison := sinsert s.poison block } : State).wakeHeld

/-- ROW_SPARE_REMAP (R430): a spare of the bank takes the row, whose accesses wait for 2 µs meanwhile; with none of the 32 left, the frame
that holds the row is withdrawn. Event operands: x column, y bank, z row, w that frame (physical address div 65536), flag the end of the copy. -/
def execRowSpareRemap (s : State) : Out :=
  let c := s.colAt s.ev.x
  let r := (s.ev.y, s.ev.z)
  if s.ev.flag then .next (s.setColAt s.ev.x { c with rowBusy := c.rowBusy.filter fun q => q != r }).wakeHeld
  else if c.spares.contains r then .next s
  else if (c.spares.filter fun p => p.1 == s.ev.y).length < 32 then
    .next ((s.setColAt s.ev.x { c with
      spares := c.spares ++ [r], rowBusy := c.rowBusy ++ [r], rowErrs := c.rowErrs.filter fun q => q != r }).post 2000 .rowSpareRemap { s.ev with flag := true })
  else
    let f := s.ev.w
    let s := s.setColAt s.ev.x { c with freeFrames := c.freeFrames.filter fun x => x != f }
    match c.backing.find? fun b => decide (b.frame ≤ f) && decide (f < b.frame + b.n) with
    | some b => .next (s.demoteNow b).replace
    | none => .next { s with poison := (rangeFrom (512 * f) 512).foldl sinsert s.poison }

end Sys2Proof.Machine
end

