-- ==== Sys2Proof/Machine/Pipelines.lean ====
section
/-! DEFINITION. Pipelines: stages, splices, and the end of a record task (R307 to R323, R443, R444, R450). -/

namespace Sys2Proof.Machine

/-- A stage: its core, channel, logical tile and region. -/
structure StageAt where
  k : Nat
  ch : Nat
  l : Nat
  region : Word
  deriving DecidableEq, Repr

/-- The stage that the event in hand names. -/
def State.evStage (s : State) : StageAt := { k := s.ev.x, ch := s.ev.y, l := s.ev.z, region := BitVec.ofNat 64 s.ev.w }

/-- LTILE, CORE and CHANNEL of a stage as R291 lays them out, and as one number. -/
def StageAt.word (g : StageAt) : Word := mkWord [(32, g.l), (29, g.k % 8), (10, g.ch)]
def StageAt.num (g : StageAt) : Nat := 512 * g.l + 64 * (g.k % 8) + g.ch

def State.stChan (s : State) (g : StageAt) : Channel := s.chanOf g.k g.region g.l g.ch
def State.stDesc (s : State) (g : StageAt) : StageDesc := s.stageDesc g.region (s.stChan g).handler
def State.stPick (s : State) (g : StageAt) : Option Delivery := s.stagePick g.k g.region g.l g.ch
def State.stOffer (s : State) (g : StageAt) : State := s.stageOffer g.k g.region g.l g.ch

/-- The first byte of the slot of a delivery. -/
def State.slotPhys (s : State) (k : Nat) (x : Delivery) : Nat := s.scratchHome x.region x.ltile (k % 8) x.off

/-- The payload of a waiting record. -/
def State.recPayload (s : State) (k : Nat) (x : Delivery) : List Byte := memRead s.mem (s.slotPhys k x + 16) (x.len - 16)

def StageDesc.setLast (d : StageDesc) (seq : Nat) : StageDesc := { d with w0 := setField d.w0 0 32 seq }
def StageDesc.setGen (d : StageDesc) (gen : Nat) : StageDesc := { d with w0 := setField d.w0 40 8 gen }

/-- A pipeline report of a stage (R450). -/
def State.stageReport (s : State) (g : StageAt) (cause : Nat) (h0 : Word) (seq : Nat) : State :=
  s.pipeReport g.region (bits h0 48 16) cause seq g.word

/-! Forwarding (R312, R313). -/

/-- A record with its header words and payload, as bytes. -/
def recordBytes (h0 h1 : Word) (payload : List Byte) : List Byte := leBytes 8 h0.toNat ++ leBytes 8 h1.toNat ++ payload

/-- The stage's NI sends a record in its core's stream to NEXT, or to the storer engine; a successor without a site drops it (R312). -/
def State.forwardRec (s : State) (g : StageAt) (d : StageDesc) (h0 h1 : Word) (payload : List Byte) (mark : Nat) : State :=
  let l := bits d.w1 32 14
  let h0 := setField h0 0 10 payload.length
  if s.rmLen g.region ≤ l || !s.hasSite g.region l then s.stageReport g 20 h0 (bits h1 32 32)
  else
    let c := s.coreAt g.k
    let dst := (s.rmEntry g.region l).site
    let q := (s.setCoreAt g.k { c with msgSent := c.msgSent + 1 }).takeSpawnSeq g.k dst
    let d' := q.1.takeDelay
    let id := d'.1.nextPkt
    (d'.1.inject { id := id, seq := q.2, op := .record, src := 4 * g.k, agent := 4, region := g.region, srcRegion := g.region, ltile := l,
                   dst := dst, unit := if d.toEng then 10 else bits d.w1 29 3, ch := bits d.w1 10 6, arg1 := h0,
                   arg2 := h1, addr := d.next, data := recordBytes h0 h1 payload, len := payload.length + 16,
                   record := bits h0 38 2 + 1, stage := g.num, mark := mark, time := s.time }).post d'.2 .recordArrival { x := id }

/-! Taking records (R308, R310, R311). -/

/-- A record dropped at its stage: reported, and counted as taken when it was the next DATA record (R308, R310). -/
def State.dropRec (s : State) (g : StageAt) (x : Delivery) (cause : Nat) : State :=
  let d := s.stDesc g
  let s := if x.record = 1 && recSeq x = (d.lastSeq + 1) % 2 ^ 32 then s.putStage (d.setLast (recSeq x)) else s
  ((s.stageReport g cause x.arg1 (recSeq x)).freeSlot g.k x.slot).stOffer g

/-- Why a stage drops every record (R308, R323): 16 BADDESC, 17 STAGEOFF. -/
def State.stageOff (s : State) (g : StageAt) : Option Nat :=
  let d := s.stDesc g
  if s.badStage g.k g.region g.l d then some 16 else if 2 ≤ d.mode then some 17 else none

/-- What a record task offers to admission (R311). -/
def State.recordOffer (s : State) (g : StageAt) (d : StageDesc) (x : Delivery) (h0 : Word) : Offer :=
  let b := s.pipeBlk g.region (bits h0 48 16)
  { entry := d.handler, arg1 := h0, arg2 := x.arg2, msg := x.g3, channel := g.ch, record := true, len := x.len,
    deadline := b.epoch + BitVec.ofNat 64 (bits x.arg2 0 32 + d.doff), rem := d.budget, resv := d.budget, cls := 1, region := g.region,
    ltile := g.l, priv := x.priv, srcRegion := x.srcRegion, inbox := some x.slot }

/-- Admission of a record task: PAST runs it as best-effort (R294). -/
def State.admitRecord (s : State) (k : Nat) (o : Offer) : State × Nat :=
  match s.admitTask k o with
  | (s, 3) => s.admitTask k { o with cls := 2, deadline := BitVec.allOnes 64 }
  | r => r

/-- A record whose task is refused stays in its slot (R294). -/
def State.recHeld (s : State) (g : StageAt) (code : Nat) : Bool :=
  code = 1 || code = 2 || code = 4 || (code = 6 && (s.rmEntry g.region g.l).state = 2)

/-- A stage admits the task of a record: the channel is blocked until it ends (R311). -/
def State.startRecord (s : State) (g : StageAt) (x : Delivery) : State :=
  (s.setChan g.k g.region g.l g.ch { s.stChan g with blocked := true }).modDelivery g.k x.slot fun x => { x with taken := true }

/-- Act on the record that a stage takes, if it is one that this event is for. -/
def takeRecord (s : State) (want : StageDesc → Delivery → Bool) (act : StageAt → StageDesc → Delivery → State) : Out :=
  let g := s.evStage
  match s.stPick g with
  | none => .next s
  | some x =>
    match s.stageOff g with
    | some cause => .next (s.dropRec g x cause)
    | none => if want (s.stDesc g) x then .next (act g (s.stDesc g) x) else .next (s.stOffer g)

/-- STAGE_TAKE_DATA (R311): the record's task is offered to admission. -/
def execStageTakeData (s : State) : Out :=
  takeRecord s (fun d x => x.record = 1 && d.mode = 0) fun g d x =>
    match s.admitRecord g.k (s.recordOffer g d x x.arg1) with
    | (s, 0) => s.startRecord g x
    | (s, code) => if s.recHeld g code then s.modDelivery g.k x.slot (fun x => { x with refused := true }) else s.dropRec g x code

/-- The stage logic forwards a record that it takes, with the descriptor's GEN, and its slot is freed. -/
def State.passOn (s : State) (g : StageAt) (d : StageDesc) (x : Delivery) (h0 h1 : Word) (payload : List Byte) (mark : Nat) : State :=
  ((s.forwardRec g d (setField h0 40 8 d.gen) h1 payload mark).freeSlot g.k x.slot).stOffer g

/-- The header word 1 of a record at its stage: a late SPLICE or ABORT takes LASTSEQ at the FIRST stage (R310). -/
def lateSeq (d : StageDesc) (x : Delivery) : Word :=
  if x.record ≠ 1 && d.first && seqBehind (recSeq x) d.lastSeq then setField x.arg2 32 32 d.lastSeq else x.arg2

/-- PASS_THROUGH_FORWARD (R313). -/
def execPassThroughForward (s : State) : Out :=
  takeRecord s (fun d x => d.mode = 1 && x.record ≠ 2) fun g d x =>
    let pay := s.recPayload g.k x
    let s := if x.record = 1 then s.putStage (d.setLast (recSeq x)) else s
    s.passOn g d x x.arg1 (lateSeq d x) pay x.mark

/-- STAGE_TAKE_ABORT (R316): GEN stays, and the record goes on. -/
def execStageTakeAbort (s : State) : Out :=
  takeRecord s (fun d x => x.record = 3 && d.mode = 0) fun g d x => s.passOn g d x x.arg1 (lateSeq d x) (s.recPayload g.k x) x.mark

/-! Splices (R315 to R319, R443). -/

/-- The payload words of a SPLICE record (R315). -/
structure SpliceRec where
  action : Nat
  inherit_ : Nat
  rsv : Nat
  target : Word
  cword : Word
  newdest : Word
  arg : Word
  init : List Byte
  len : Nat
  deriving DecidableEq, Repr

def spliceOf (pay : List Byte) : SpliceRec :=
  let w := blockWord pay
  { action := bits (w 0) 56 8, inherit_ := bits (w 0) 48 8, rsv := bits (w 0) 0 48, target := w 1, cword := w 2, newdest := w 3, arg := w 4,
    init := pay.drop 40, len := pay.length }

/-- Bits of a stage word that are reserved: all but LTILE, CORE and CHANNEL. -/
def stageRsv (w : Word) : Bool := bits w 46 18 ≠ 0 || bits w 16 13 ≠ 0 || bits w 0 10 ≠ 0

/-- The target names this stage (R315). -/
def StageAt.named (g : StageAt) (w : Word) : Bool := bits w 32 14 == g.l && bits w 29 3 == g.k % 8 && bits w 10 6 == g.ch

/-- A buffer of a logical tile of a region, and where its bytes lie. -/
def State.tileBuf (s : State) (region : Word) (l h : Nat) : Buf := ((s.tileAt (s.rmEntry region l).site).tabsOf region l).bufAt h
def State.setTileBuf (s : State) (region : Word) (l h : Nat) (b : Buf) : State :=
  let site := (s.rmEntry region l).site
  let t := s.tileAt site
  s.setTileAt site (t.setTabs region l ((t.tabsOf region l).setBuf h b))
def State.bufPhys (s : State) (region : Word) (l : Nat) (b : Buf) : Nat :=
  s.homeOf region l (s.rmEntry region l) b.space.toNat b.core.toNat b.base.toNat
def Buf.bytes (b : Buf) : Nat := 64 * b.size.toNat

/-- Size of the state block of a descriptor on a logical tile; 0 without one. -/
def State.stateSize (s : State) (region : Word) (l : Nat) (d : StageDesc) : Nat :=
  if d.hasState then (let b := s.tileBuf region l d.state; if b.valid then b.bytes else 0) else 0

/-- The stage that a stage word names. -/
def State.stageAt (s : State) (region w : Word) : StageAt :=
  { k := 8 * (s.rmEntry region (bits w 32 14)).site + bits w 29 3, ch := bits w 10 6, l := bits w 32 14, region := region }

/-- The logical tile is in COMPUTE under the region's role map (R25): ACTIVE or NOTICED. -/
def State.inCompute (s : State) (region : Word) (l : Nat) : Bool :=
  let e := s.rmEntry region l
  l < s.rmLen region && e.role = 0 && e.state ≤ 1

/-- A completion word's address (R315): 0, or a multiple of 8 in DRAM, named in global form (R192) or through a page: bonded DRAM that
exists (R190), or a page of storage tiles, whose object lies in DRAM (R262; DEDUCED, log 81). -/
def State.inDram (s : State) (region a : Word) : Bool :=
  a = 0 || (a.toNat % 8 = 0 && match classOf a with
    | .global => decide (bits a 44 4 ≤ 8) && (s.colAt (bits a 44 4)).dramOk (bits a 0 44)
    | .paged => match s.leafFrame region a.toNat with
      | some f => f / 2 ^ 44 % 16 = 0 || f / 2 ^ 44 % 16 = 3
      | none => false
    | _ => false)

/-- An address of window 0 of role space, where a descriptor lies (R315). -/
def isW0 (a : Word) : Bool := classOf a == .role && bits a 24 4 = 0

/-- Order 1 of R317: a field of R315 is invalid for the action. -/
def State.spliceBad (s : State) (region : Word) (p : SpliceRec) (d : StageDesc) : Bool :=
  p.len < 40 || p.rsv ≠ 0 || stageRsv p.target || !s.inDram region p.cword ||
  (match p.action with
   | 1 => 1 < p.inherit_ || stageRsv p.newdest || !isW0 p.arg || (p.inherit_ = 1 && (d.mode = 1 || !d.hasState))
   | 2 =>
     2 < p.inherit_ || d.mode = 1 ||
     (if p.inherit_ = 0 then stageRsv p.newdest || bits p.newdest 10 6 ≠ 0 || bits p.arg 6 58 ≠ 0 else p.newdest ≠ 0 || p.arg ≠ 0)
   | 3 => p.inherit_ ≠ 0 || d.mode = 1 || p.newdest ≠ 0 || bits p.arg 0 2 ≠ 0
   | _ => true)

/-- Orders 2 to 5 of R317 for INSERT. -/
def State.insertCheck (s : State) (g : StageAt) (d : StageDesc) (p : SpliceRec) (x : Delivery) (h1 : Word) : Nat :=
  let n := s.stageAt g.region p.newdest
  let nc := s.stChan n
  let nd := s.stageDesc g.region p.arg
  let need := if p.inherit_ = 0 then p.init.length else s.stateSize g.region g.l d
  let nb := s.tileBuf g.region n.l nd.state
  if !s.inCompute g.region n.l then 6
  else if !nc.valid || !nc.stage || nc.handler ≠ p.arg then 9
  else if nd.hasState && (!nb.valid || nb.state ≠ 0 || nb.bytes < need) then 8
  else
    let o := s.recordOffer n nd { x with arg2 := h1 } x.arg1
    (s.admitCode n.k o o.resv).2

/-- Order 2 of R317 for REMOVE. -/
def State.removeCheck (s : State) (g : StageAt) (d : StageDesc) (p : SpliceRec) : Nat :=
  let size := s.stateSize g.region g.l d
  match p.inherit_ with
  | 0 =>
    let b := s.tileBuf g.region (bits p.newdest 32 14) (bits p.arg 0 6)
    if !b.valid || b.state ≠ 0 || b.bytes < size then 8 else 0
  | 1 =>
    let u := s.stageAt g.region d.next
    let uc := s.stChan u
    let ud := s.stageDesc g.region uc.handler
    let ub := s.tileBuf g.region u.l ud.state
    if d.toEng || !uc.valid || !uc.stage || ud.mode ≠ 0 || !ud.hasState || !ub.valid || ub.bytes < size then 8 else 0
  | _ => 0

/-- The checks of R317: 0, or the status of the first that fails. -/
def State.spliceCheck (s : State) (g : StageAt) (d : StageDesc) (p : SpliceRec) (x : Delivery) (h1 : Word) : Nat :=
  if s.spliceBad g.region p d then 9
  else match p.action with
    | 1 => s.insertCheck g d p x h1
    | 2 => s.removeCheck g d p
    | _ => 0

/-- A copy of the stage logic (R318): engine work of its NI (R246), 64 bytes a cycle (log 19), and every word it writes is set full. -/
def State.copyState (s : State) (g : StageAt) (dst : Nat) (bs : List Byte) : State :=
  let n := (bs.length + 63) / 64
  let s := (List.range n).foldl (fun s i =>
    let q := s.takeSeq (4 * g.k) (dst + 64 * i)
    q.1.writeHome g.region (4 * g.k) 4 (dst + 64 * i) ((bs.drop (64 * i)).take 64) 4 q.2 s.time) s
  (s.setFullRange true dst bs.length).chargeEngine (siteOfCore g.k) g.region g.l n

/-- Place bytes into a buffer, which goes READY and is held by a core. -/
def State.placeState (s : State) (g : StageAt) (l h core : Nat) (bs : List Byte) : State :=
  let b := s.tileBuf g.region l h
  (s.copyState g (s.bufPhys g.region l b) bs).setTileBuf g.region l h { b with state := 2, holder := BitVec.ofNat 4 core }

/-- The bytes of a stage's state block. -/
def State.stateBytes (s : State) (g : StageAt) (d : StageDesc) : List Byte :=
  if d.hasState then (let b := s.tileBuf g.region g.l d.state; if b.valid then memRead s.mem (s.bufPhys g.region g.l b) b.bytes else []) else []

/-- The actions of R318: the state, the stage's descriptor afterwards, and the mark of the record. -/
def State.spliceApply (s : State) (g : StageAt) (d : StageDesc) (p : SpliceRec) (h0 : Word) (seq : Nat) : State × StageDesc × Nat :=
  let own := s.stateBytes g d
  match p.action with
  | 1 =>
    let n := s.stageAt g.region p.newdest
    let nd := s.stageDesc g.region p.arg
    let s := if nd.hasState then s.placeState g n.l nd.state (n.k % 8) (if p.inherit_ = 0 then p.init else own) else s
    let s := s.putStage { nd with w0 := mkWord [(48, bits h0 48 16), (40, d.gen), (0, seq)], w1 := d.w1 }
    (s, { d with w1 := mkWord [(10, bits p.newdest 10 36)] }, 2)
  | 2 =>
    let u := s.stageAt g.region d.next
    let s := match p.inherit_ with
      | 0 => s.placeState g (bits p.newdest 32 14) (bits p.arg 0 6) (u.k % 8) own
      | 1 =>
        let ud := s.stageDesc g.region (s.stChan u).handler
        s.copyState g (s.bufPhys g.region u.l (s.tileBuf g.region u.l ud.state)) own
      | _ => s
    let s := if d.hasState then s.setTileBuf g.region g.l d.state { s.tileBuf g.region g.l d.state with state := 0, holder := 15 } else s
    (s, { d with w0 := setField d.w0 38 2 1, w3 := setField d.w3 7 1 0 }, if p.inherit_ = 0 && !d.toEng then 3 else 1)
  | _ => (s, { d with handler := p.arg }, 1)

/-- The merge task of a REMOVE at u (R318): a record task, or the splice goes on at once. -/
def State.mergeTask (s : State) (g : StageAt) (d : StageDesc) (x : Delivery) (h0 h1 : Word) (pay : List Byte) : State :=
  match s.admitRecord g.k (s.recordOffer g d { x with arg2 := h1 } h0) with
  | (s, 0) => (s.putStage d).startRecord g x
  | (s, code) =>
    if s.recHeld g code then s.modDelivery g.k x.slot fun x => { x with refused := true }
    else ((s.stageReport g code h0 (bits h1 32 32)).putStage d).passOn g d x h0 h1 pay 1

/-- A stage acts on a SPLICE (R316). A record with mark 2 is at the stage it inserted, which does not step GEN (R443). -/
def State.takeSplice (s : State) (g : StageAt) (d : StageDesc) (x : Delivery) : State :=
  let pay := s.recPayload g.k x
  let p := spliceOf pay
  let h1 := lateSeq d x
  let d' := if x.mark = 2 then d else d.setGen ((d.gen + 1) % 256)
  if x.mark = 3 && d.mode = 0 then s.mergeTask g d' x x.arg1 h1 pay
  else if x.mark ≠ 0 || !g.named p.target then (s.putStage d').passOn g d' x x.arg1 h1 pay (Nat.min x.mark 1)
  else match s.spliceCheck g d p x h1 with
    | 0 =>
      match s.spliceApply g d' p x.arg1 (bits h1 32 32) with
      | (s, d'', mark) => (s.putStage d'').passOn g d'' x x.arg1 h1 pay mark
    | st =>
      let pay := if pay.length < 8 then pay ++ List.replicate (8 - pay.length) 0 else pay
      s.passOn g d x (setField x.arg1 38 2 2) h1 (pay.set 5 (BitVec.ofNat 8 st)) 1

/-- SPLICE_APPLY (R316 to R318). -/
def execSpliceApply (s : State) : Out := takeRecord s (fun _ x => x.record = 2) fun g d x => s.takeSplice g d x

/-! The end of a record task (R312). -/

/-- The stage forwards the slot's record when its task ends; `shed` when the task ended by TEND in a handler. -/
def State.recordEnds (s : State) (k : Nat) (x : Delivery) (shed : Bool) : State :=
  let g : StageAt := { k := k, ch := x.channel, l := x.ltile, region := x.region }
  let c := s.stChan g
  if x.record = 0 || !c.stage || !c.valid then s
  else
    let s := s.setChan k x.region x.ltile x.channel { c with blocked := false }
    let a := s.slotPhys k x
    let n := s.readNat a 8 % 1024
    let s := if 1008 < n then s.stageReport g 18 x.arg1 (recSeq x) else s
    let d := s.stDesc g
    let h1 := lateSeq d x
    let pay := if shed || 1008 < n then [] else memRead s.mem (a + 16) n
    let d := if x.record = 1 then d.setLast (recSeq x) else d
    let s := s.putStage d
    if 2 ≤ d.mode then s.stageReport g 17 x.arg1 (bits h1 32 32)
    else s.forwardRec g d (mkWord [(48, bits x.arg1 48 16), (40, d.gen), (38, x.record - 1)]) h1 pay (if x.record = 1 then 0 else 1)

/-- TEND (R120): its cycle is charged to the task (R282), the record goes on, the task ends, and gang members that wait for it trap
(R157). -/
def execTend (s : State) : Out :=
  let c := s.cur
  let k := s.coreNo
  let x := (s.ctx.slot.bind (s.entryAt k)).bind fun e => e.inbox.bind fun sl => (s.coreAt k).inbox.find? fun d => d.slot == sl
  let s := match x with
    | some d => s.recordEnds k d s.ctx.inTrap
    | none => s
  .next ((s.chargeTask c s.paceCycles false 0).endTask c)

end Sys2Proof.Machine
end

