-- ==== Sys2Proof/Machine/TileWalk.lean ====
section
/-! DEFINITION. The tile-walk engines in the router ports (R304, R309, R314, R320, R440 to R442) and the arrival of records (R310). -/

namespace Sys2Proof.Machine

/-! Jobs. -/

def permitKey (region : Word) (pipe : Nat) : Nat := region.toNat * 2 ^ 16 + pipe

/-- The job that a tile-walk engine runs, or is to start: the first accepted one, once those before it are complete. -/
def Tile.twCurrent (t : Tile) : Option TwJob := if t.tw.any (·.ended) then none else t.tw.head?

def State.twJob (s : State) (site ticket : Nat) : Option TwJob := (s.tileAt site).tw.find? fun j => j.ticket == ticket
def State.setTw (s : State) (site : Nat) (j : TwJob) : State :=
  let t := s.tileAt site
  s.setTileAt site { t with tw := modFirst (fun x => x.ticket == j.ticket && x.owner == j.owner && x.ctx == j.ctx) (fun _ => j) t.tw }

/-- The event that carries a job on. -/
def TwJob.event (j : TwJob) : Instr :=
  if j.pipe = 0 then .tileWalkJobComplete else if j.loader then .loaderEmitRecord else .storerTakeRecord

/-- The current job goes on in `dt` ticks. -/
def State.kickTw (s : State) (site dt : Nat) : State :=
  match (s.tileAt site).twCurrent with
  | some j => if j.st == .paused || j.halted then s else s.post dt j.event { x := site, y := j.pipe, z := j.ticket }
  | none => s

/-- A job ends: its completion is due (R229). -/
def State.endTw (s : State) (site : Nat) (j : TwJob) (status : Nat) (cause : BitVec 8) : State :=
  (s.setTw site { j with ended := true, status := status, cause := cause, recs := [] }).post 0 .tileWalkJobComplete
    { x := site, y := j.pipe, z := j.ticket }

def TwJob.walker (j : TwJob) (site : Nat) : Walker := { site := site, region := j.region, ltile := j.named, holder := 10, agent := 3, src := j.ctx }

/-- An error of a job (R181, R304): PAGE pauses it, any other abandons it. -/
def State.twError (s : State) (site : Nat) (j : TwJob) (cause : BitVec 8) (val : Word) : State :=
  let w := s.ownerNow j.ctx j.owner
  let s := if cause = cPAGE && w ≠ .gone then s.setTw site { j with st := .paused, cause := cause } else s.endTw site j 2 cause
  s.raiseOn w { cause := cause, val := val, work := some { unit := 2, num := j.ticket, site := site } }

/-- Charge a job's cycles to the issuer's account (R184, R304). -/
def State.chargeTw (s : State) (j : TwJob) (n : Nat) : State := s.chargeEngine (siteOfCtx j.ctx) j.region j.ltile n

/-- A job waits for translation, a buffer or a home, and looks again; its cycle is charged (R184). -/
def State.twWaits (s : State) (site : Nat) (j : TwJob) : State := ((s.setTw site { j with st := .running }).chargeTw j 1).kickTw site 1

/-- A job outside any pipeline moves some elements (R228). -/
def State.runTw (s : State) (site : Nat) (j : TwJob) : State :=
  match s.walkElems (j.walker site) j.layout walkChunk { pos := j.pos, count := j.count, flags := 0 } with
  | (s, a, e) =>
    let n0 := j.pos
    let j := { j with pos := a.pos, count := a.count, st := .running }
    let s := (s.setTw site j).chargeTw j (walkCycles (a.pos - n0) e (e == .wait && s.elemMoves j.region j.layout a.pos))
    match e with
    | .more | .wait => s.kickTw site 1
    | .finished => s.endTw site j 0 0
    | .err c v => s.twError site j c v

/-- TILE_WALK_JOB_COMPLETE (R229, R304): a job outside any pipeline moves on to its end; a job that has ended writes its completion
word and leaves the engine, which wakes nothing. A PAGE fault of the word pauses the job. -/
def execTileWalkJobComplete (s : State) : Out :=
  let site := s.ev.x
  match (s.tileAt site).tw.find? fun j => j.ticket == s.ev.z && j.ended && j.st != .paused with
  | some j =>
    match s.putCword (j.walker site) j.layout (completion j.count j.ticket j.cause.toNat j.status) with
    | (s, none) => .next (s.post 1 .tileWalkJobComplete s.ev)
    | (s, some e) =>
      let o := s.ownerNow j.ctx j.owner
      let h (c : BitVec 8) (v : Word) : HeldTrap := { cause := c, val := v, work := some { unit := 2, num := j.ticket, site := site } }
      if e.any (fun p => p.1 = cPAGE) && o ≠ .gone then
        .next ((s.setTw site { j with st := .paused }).raiseOn o (h cPAGE (lw j.layout 10)))
      else
      let s := match e with
        | some (c, v) => s.raiseOn o (h c v)
        | none => s
      let t := s.tileAt site
      .next (((s.setTileAt site { t with tw := t.tw.erase j }).kickTw site 0).wakeHeld)
  | none => match (s.tileAt site).twCurrent with
    | some j => if j.pipe = 0 && j.ticket == s.ev.z && j.st != .paused && !j.halted then .next (s.runTw site j) else .next s
    | none => .next s

/-! Requests (R304, R442). -/

/-- A TWPOST packet goes to the site that its entry names: it takes the row of R345 that SEND takes, and needs any role. -/
def twArrival (s : State) (k : State → Packet → State) : Out :=
  match s.pkt s.ev.x with
  | none => .next s
  | some p =>
    if !s.mayGo p then .next (s.standBy p)
    else
      let e := s.rmEntry p.region p.ltile
      if e.state = 2 then .next (s.post 0 .movedArrival { x := p.id })
      else if e.state = 3 then .next (s.roleLost p p.ltile)
      else if e.site ≠ p.dst then .next (s.post 0 .movedArrival { x := p.id })
      else .next (k s p)

/-- Elements of one record, of the dimensions below the highest, and how many records there are (R309). -/
def recPer (l : List Word) : Nat := ((List.range (recNd l - 1)).map (recWin l)).foldl (· * ·) 1
def recRecords (l : List Word) : Nat := recWin l (recNd l - 1)
/-- Payload bytes of a loader's record. -/
def recBytes (l : List Word) : Nat := (recPer l * fmtBits (recDfmt l) + 7) / 8

/-- The checks of a job's record: those of R227, and a loader's slice (R309). -/
def twCheck (l : List Word) (loader : Bool) : Option (Nat × Nat) :=
  match recCheck l with
  | some p => some p
  | none => if loader && 1008 < recBytes l then some (6, 0) else none

/-- TWPOST_JOB_ARRIVAL (R304): the record is checked, and the job queued with its ticket, halted where its domain is stopped (R415); a full
queue holds the request. -/
def execTwpostJobArrival (s : State) : Out :=
  twArrival s fun s p =>
    let site := p.dst
    let t := s.tileAt site
    let l := (List.range 12).map (blockWord p.data)
    let pipe := bits p.arg1 16 16
    let loader := pipe ≠ 0 && bits p.arg1 0 16 = 0
    match twCheck l loader with
    | some q => s.replyErr p cLAYOUT (layoutVal q)
    | none =>
      if 8 ≤ (t.tw.filter fun j => j.st == .queued && !j.ended).length then s.standBy p
      else
        let b := s.pipeBlk p.region pipe
        let j : TwJob := { ticket := t.twNext.toNat, loader := loader, pipe := pipe, layout := l, region := p.region, ltile := p.srcLtile,
                           ctx := p.src, owner := p.owner, named := p.ltile, head := b.head, step := b.step, gen := b.gen0,
                           halted := s.domainStopped (colOfSite site) p.region }
        let s := s.setTileAt site { t with tw := t.tw ++ [j], twNext := t.twNext + 1 }
        (s.reply p (leBytes 8 j.ticket)).kickTw site 0

/-- Add permits to an engine; the count stays at 2^32 − 1. -/
def State.addPermits (s : State) (site : Nat) (region : Word) (pipe n : Nat) : State :=
  let t := s.tileAt site
  let key := permitKey region pipe
  (s.setTileAt site { t with permits := tput t.permits key (Nat.min (2 ^ 32 - 1) (tget t.permits key 0 + n)) }).kickTw site 0

/-- TWPOST_PERMIT_ARRIVAL (R304). -/
def execTwpostPermitArrival (s : State) : Out :=
  twArrival s fun s p => (s.consume p).addPermits p.dst p.region (bits p.arg1 16 16) (bits p.arg1 0 16)

/-- TWPOST_END_ARRIVAL (R304): the jobs of the pipeline end at this record boundary with STATUS 1; with none, nothing changes. -/
def execTwpostEndArrival (s : State) : Out :=
  twArrival s fun s p =>
    let site := p.dst
    let pipe := bits p.arg1 16 16
    let s := s.consume p
    let js := (s.tileAt site).tw.filter fun j => j.pipe == pipe && j.region == p.region && !j.ended
    if js.isEmpty then s
    else
      let s := js.foldl (fun s j => s.endTw site j 1 0) s
      let t := s.tileAt site
      s.setTileAt site { t with permits := tput t.permits (permitKey p.region pipe) 0 }

/-! The loader (R309). -/

/-- The elements of record positions as packed bits, lowest first: a number, and how far the reading came. -/
def State.loadSlice (s : State) (w : Walker) (l : List Word) : Nat → Nat → State × Except WalkEnd Nat
  | 0, _ => (s, .ok 0)
  | n + 1, p =>
    let b := fmtBits (recDfmt l)
    let v : State × Except WalkEnd (Nat × BitVec 6) :=
      if !recInside l p && recEdge l = 2 then (s, .ok (0, 0)) else s.walkValue w l p
    match v with
    | (s, .error e) => (s, .error e)
    | (s, .ok x) =>
      match s.loadSlice w l n (p + 1) with
      | (s, .error e) => (s, .error e)
      | (s, .ok r) => (s, .ok (x.1 % 2 ^ b + r * 2 ^ b))

/-- Send record `q` of a loader to HEAD; a HEAD without a site drops it (R312, R450). -/
def State.emitRecord (s : State) (site : Nat) (j : TwJob) (pay : List Byte) : State :=
  let l := bits j.head 32 14
  let num := 2 ^ 23 + 512 * j.named
  let h0 := mkWord [(48, j.pipe), (40, j.gen), (0, pay.length)]
  let h1 := mkWord [(32, j.seq % 2 ^ 32), (0, j.seq * j.step % 2 ^ 32)]
  if s.rmLen j.region ≤ l || !s.hasSite j.region l then s.pipeReport j.region j.pipe 20 (j.seq % 2 ^ 32) (stageWord num)
  else
    let d := s.takeDelay
    let id := d.1.nextPkt
    (d.1.inject { id := id, op := .record, src := 32 * site, agent := 3, region := j.region, srcRegion := j.region, ltile := l,
                  dst := (s.rmEntry j.region l).site, unit := bits j.head 29 3, ch := bits j.head 10 6, arg1 := h0, arg2 := h1,
                  addr := mkWord [(10, bits j.head 10 36)], data := recordBytes h0 h1 pay, len := pay.length + 16, record := 1, stage := num,
                  time := s.time }).post d.2 .recordArrival { x := id }

/-- LOADER_EMIT_RECORD (R309): one record for one permit. -/
def execLoaderEmitRecord (s : State) : Out :=
  let site := s.ev.x
  match (s.tileAt site).twCurrent with
  | none => .next s
  | some j =>
    if j.ticket ≠ s.ev.z || !j.loader || j.pipe = 0 || j.st == .paused || j.halted then .next s
    else
      let key := permitKey j.region j.pipe
      if tget (s.tileAt site).permits key 0 = 0 then .next (s.setTw site { j with st := .running })
      else
        let n := recPer j.layout
        match s.loadSlice (j.walker site) j.layout n (j.seq * n) with
        | (s, .error .wait) => .next (s.twWaits site j)
        | (s, .error (.err c v)) => .next (s.twError site j c v)
        | (s, .error _) => .next s
        | (s, .ok x) =>
          let t := s.tileAt site
          let s := s.setTileAt site { t with permits := tput t.permits key (tget t.permits key 0 - 1) }
          let s := s.emitRecord site j (leBytes (recBytes j.layout) x)
          let j := { j with seq := j.seq + 1, count := j.count + n, st := .running }
          let s := (s.setTw site j).chargeTw j n
          .next (if recRecords j.layout ≤ j.seq then s.endTw site j 0 0 else s.kickTw site 1)

/-! The storer (R314, R320). -/

/-- The record that a storer takes next, in the order of R310: `seq` counts the DATA records taken. -/
def TwJob.pick (j : TwJob) : Option (Word × Word × List Byte × Nat) :=
  let last := (j.seq + 2 ^ 32 - 1) % 2 ^ 32
  match j.recs.find? fun r => bits r.1 38 2 ≠ 0 && bits r.2.1 32 32 = last with
  | some r => some r
  | none => j.recs.find? fun r => bits r.1 38 2 = 0 && bits r.2.1 32 32 = j.seq % 2 ^ 32

/-- Element `i` of a record's payload, converted; none where the payload does not reach it. -/
def payElem (l : List Word) (pay : List Byte) (i : Nat) : Option (Nat × BitVec 6) :=
  let b := fmtBits (recSfmt l)
  if (i + 1) * b ≤ 8 * pay.length then some (recConvert l (leNat pay / 2 ^ (i * b) % 2 ^ b)) else none

/-- Write the positions of a record: its elements, then the fill unless EDGE is 2; elements written so far in `done_`. -/
def State.storeSlice (s : State) (w : Walker) (l : List Word) (pay : List Byte) (base : Nat) : Nat → Nat → Nat → State × Except WalkEnd Nat
  | 0, _, cnt => (s, .ok cnt)
  | n + 1, i, cnt =>
    let v := match payElem l pay i with
      | some x => some x.1
      | none => if recEdge l = 2 then none else some (bits (lw l 8) 0 32 % 2 ^ fmtBits (recDfmt l))
    match v with
    | none => s.storeSlice w l pay base n (i + 1) cnt
    | some x =>
      let a := recDst l (base + i)
      match s.walkRes w a.1 (fmtBytes (recDfmt l)) .write [0, 1] with
      | (s, .error e) => (s, .error e)
      | (s, .ok loc) => (s.walkWrite w a.1 loc a.2 (fmtBits (recDfmt l)) x).storeSlice w l pay base n (i + 1) (cnt + 1)

/-- The completion word of a SPLICE or ABORT (R320). -/
def spliceWord (r : Word × Word × List Byte × Nat) : Word :=
  let st := if bits r.1 38 2 = 2 then bits (blockWord r.2.2.1 0) 40 8 else if r.2.2.2 = 0 then 10 else 0
  mkWord [(32, bits r.2.1 32 32), (24, bits r.1 40 8), (0, st)]

/-- STORER_TAKE_RECORD (R314, R320). -/
def execStorerTakeRecord (s : State) : Out :=
  let site := s.ev.x
  match (s.tileAt site).twCurrent with
  | none => .next s
  | some j =>
    if j.ticket ≠ s.ev.z || j.loader || j.pipe = 0 || j.st == .paused || j.halted then .next s
    else match j.pick with
      | none => .next (s.setTw site { j with st := .running })
      | some r =>
        let rest := j.recs.erase r
        if bits r.1 38 2 ≠ 0 then
          let cw := blockWord r.2.2.1 2
          match s.putCword (j.walker site) [0, 0, 0, 0, 0, 0, 0, 0, 0, 0, cw] (spliceWord r) with
          | (s, none) => .next (s.kickTw site 1)
          | (s, some none) => .next ((s.setTw site { j with recs := rest, st := .running }).kickTw site 1)
          | (s, some (some (c, v))) => .next (s.twError site j c v)
        else if recRecords j.layout ≤ j.seq then .next ((s.setTw site { j with recs := rest, seq := j.seq + 1, st := .running }).kickTw site 1)
        else
          let n := recPer j.layout
          match s.storeSlice (j.walker site) j.layout r.2.2.1 (j.seq * n) n 0 0 with
          | (s, .error .wait) => .next (s.twWaits site j)
          | (s, .error (.err c v)) => .next (s.twError site j c v)
          | (s, .error _) => .next s
          | (s, .ok cnt) =>
            let j := { j with recs := rest, seq := j.seq + 1, count := j.count + cnt, st := .running }
            let s := (s.setTw site j).chargeTw j n
            .next (if recRecords j.layout ≤ j.seq then s.endTw site j 0 0 else s.kickTw site 1)

/-! Arrival of records (R310, R314). -/

/-- The engine of a pipeline's loader: the one that runs it, else the one that has counted the pipeline's permits, since a permit counts
with no job too (R304). -/
def State.loaderSite (s : State) (region : Word) (pipe : Nat) : Option Nat :=
  let runs := s.tiles.find? fun t => t.2.tw.any fun j => j.loader && j.pipe == pipe && j.region == region && !j.ended
  (runs.orElse fun _ => s.tiles.find? fun t => thas t.2.permits (permitKey region pipe)).map (·.1)

/-- A stored DATA record returns a permit to the loader (R314, R444). -/
def State.returnPermit (s : State) (region : Word) (pipe : Nat) : State :=
  match s.loaderSite region pipe with
  | some site => s.addPermits site region pipe 1
  | none => s

/-- A record reaches a storer engine, or none (R314). -/
def State.toStorer (s : State) (p : Packet) : State :=
  let pipe := bits p.arg1 48 16
  match (s.tileAt p.dst).tw.find? fun j => !j.loader && j.pipe == pipe && j.region == p.region && !j.ended with
  | none => (s.consume p).pipeReport p.region pipe 19 (bits p.arg2 32 32) (mkWord [(63, 1), (32, p.ltile)])
  | some j =>
    let s := (s.setTw p.dst { j with recs := j.recs ++ [(p.arg1, p.arg2, p.data.drop 16, p.mark)] }).consume p
    let s := if bits p.arg1 38 2 = 0 then s.returnPermit p.region pipe else s
    s.kickTw p.dst 0

/-- RECORD_ARRIVAL (R310): a record takes an inbox slot and waits for its turn, or reaches a storer. -/
def execRecordArrival (s : State) : Out := delivered s fun s p => if p.unit = 10 then s.toStorer p else s.arrive p

end Sys2Proof.Machine
end

