-- ==== Sys2Proof/Machine/Census.lean ====
section
/-! DEFINITION. The census: notices (R341), where the entries of a leaving site go (R342, R351), pressure decisions and requests (R338 to
R340, R350, R354, R429, R439). -/

namespace Sys2Proof.Machine

/-- The role codes of R335; 3 for a state that is no role. -/
def roleState (r : Nat) : SiteState :=
  match r with
  | 0 => .compute
  | 1 => .storage
  | _ => .routing
def SiteState.role (t : SiteState) : Nat :=
  match t with
  | .compute => 0
  | .storage => 1
  | .routing => 2
  | _ => 3

/-! Notices (R341). -/

/-- Word 0 of a notice. -/
def noticeWord (nid reason frm into ltile : Nat) : Word := mkWord [(48, nid), (40, reason), (38, frm), (36, into), (0, ltile)]

/-- Send a message to the notice channel of a region: an urgent task with NOTICEBUDGET, g3 its payload. -/
def State.noticeMsg (s : State) (region w0 w1 : Word) (gen count : Nat) (recs : List Word) : State :=
  let r := s.regionAt region
  let bytes := ([w0, w1, mkWord [(48, gen), (0, count)], 0] ++ recs).flatMap fun w => leBytes 8 w.toNat
  if s.rmLen region ≤ bits r.noticeDest 32 14 then s.report region 10 r.noticeDest
  else s.sendCtl region r.noticeDest w0 w1 bytes (some (0, some r.noticeBudget)) false region

/-- A fresh column-wide notice id. -/
def State.freshNid (s : State) (col : Nat) : State × Nat :=
  let c := s.colAt col
  let n := (c.nid + 1) % 2 ^ 16
  (s.setColAt col { c with nid := n }, n)

/-- An entry is NOTICED: its fields, its INCOMING row at the new site, its notice. -/
def State.noticeEnt (s : State) (site reason leaveAt : Nat) (m : MoveEnt) : State × MoveEnt :=
  match s.freshNid (colOfSite site) with
  | (s, nid) =>
    let e := s.rmEntry m.region m.ltile
    let role := if m.next.isSome then e.role else 3
    let s := s.setRmEntry m.region m.ltile { e with state := 1, next := m.next, torole := role, nid := nid, timemark := BitVec.ofNat 64 leaveAt }
    let s := match m.next with
      | some n => s.setTileAt n { (s.tileAt n) with
          tenants := (s.tileAt n).tenants ++ [({ region := m.region, ltile := m.ltile, slice := m.slice, incoming := true } : Tenant)] }
      | none => s
    (s.noticeMsg m.region (noticeWord nid reason e.role role m.ltile) (BitVec.ofNat 64 leaveAt) e.gen 0 [], { m with nid := nid })

def State.countCasts (s : State) (col n : Nat) : State :=
  let c := s.colAt col
  s.setColAt col { c with windowCount := c.windowCount + n }

/-- A move that has been noticed is under way on its site; LEAVING starts at `leaveAt`. -/
def State.setLeaving (s : State) (site : Nat) (m : Move) : State :=
  (s.setTileAt site { s.tileAt site with leaving := some m }).postAt m.leaveAt .leaveatReached { x := site }

/-! Sites that take the place of others. -/

/-- Clear memory bytes and their full/empty bits. -/
def State.clearRange (s : State) (a n : Nat) : State :=
  { s with mem := clearMem s.mem a n, full := s.full.filter fun w => !(decide (a ≤ 8 * w) && decide (8 * w < a + n)) }

/-- The SRAM of a site reads zero and empty (R204). -/
def State.zeroSite (s : State) (site : Nat) : State :=
  let off := s.module * 2 ^ 48 + colOfSite site * 2 ^ 44 + txOf site * 2 ^ 38 + tyOf site * 2 ^ 32
  ((s.clearRange (2 ^ 60 + off) (2 ^ 32)).clearRange (2 * 2 ^ 60 + off) (2 ^ 32)).clearRange (3 * 2 ^ 60 + off) (2 ^ 32)

/-- The sites of a column. -/
def sitesOf (col : Nat) : List Nat := rangeFrom (1440 * col) 1440

/-- A site that nothing moves. -/
def Tile.still (t : Tile) : Bool := t.leaving.isNone && !t.resetting

/-- BULLPEN sites of a column, the lowest first. -/
def State.bullpens (s : State) (col : Nat) : List Nat := (sitesOf col).filter fun t => (s.tileAt t).st == .bullpen && (s.tileAt t).still

/-- A site enters a role. A BULLPEN site has no task, content or entry, so its passage through LEAVING (R14, R342) takes no time: it
commits in the step that starts it. -/
def State.enterRole (s : State) (site role : Nat) : State :=
  let s := (s.setTileAt site { s.tileAt site with st := roleState role, rmCache := [], twNext := 0 }).zeroSite site
  if role = 1 then s.offerSite site else s

/-- A BULLPEN site takes a role, which counts in the window and needs no notice (R340). -/
def State.takeBullpen (s : State) (site role : Nat) : State := (s.enterRole site role).countCasts (colOfSite site) 1

/-- The ACTIVE COMPUTE logical tiles of a region, ascending. -/
def State.activeTiles (s : State) (region : Word) : List Nat :=
  (List.range (s.rmLen region)).filter fun l => (s.rmEntry region l).state = 0 && (s.rmEntry region l).role = 0

/-- The rows of a site that serve: its entries. -/
def State.rowsOf (s : State) (site : Nat) : List Tenant := (s.tileAt site).tenants.filter fun x => !x.incoming

/-- Some entry that names a site is held by a lease. -/
def State.siteLeased (s : State) (site : Nat) : Bool := (s.rowsOf site).any fun x => (s.rmEntry x.region x.ltile).leased

/-- Spatial preemption is to vacate a site (R350). -/
def State.toVacate (s : State) (site : Nat) : Bool := columns.any fun col => (s.colAt col).vacates.any fun v => v.site == site

/-- The host of R351 for a logical tile of a region that leaves `site`: its site, HOME and slice. A site that a lease holds, or that is to
be vacated too, is none (R349, R351). -/
def State.hostFor (s : State) (region : Word) (site : Nat) : Option (Nat × Nat × Nat) :=
  let r := s.regionAt region
  let ok (l : Nat) : Bool :=
    let e := s.rmEntry region l
    e.site != site && !s.siteLeased e.site && !s.toVacate e.site && (s.tileAt e.site).still && decide ((s.tileAt e.site).tenants.length < 8)
  (minBy (fun l => (s.tileAt (s.rmEntry region l).site).tenants.length) ((s.activeTiles region).filter ok)).map fun l =>
    let h := (s.rmEntry region l).site
    let rows := (s.tileAt h).tenants
    let t := rows.length + 1
    let slice := ((rangeFrom 1 7).find? fun k => !rows.any fun x => x.slice == k).getD 7
    (h, if t * (r.spFoot / 4096) ≤ 16 && t * (r.psFoot / 16384) ≤ 64 then 1 else 2, slice)

/-- Room in the window that a move of a site needs: one for the site and one for a BULLPEN site that replaces it (R340). -/
def State.castNeeds (s : State) (site : Nat) : Nat :=
  if !(s.rowsOf site).isEmpty && !(s.bullpens (colOfSite site)).isEmpty then 2 else 1

/-- Where an entry of a leaving site goes (R342): the replacement, for a COMPUTE entry else a host of R351, else nowhere. -/
def State.goal (s : State) (site : Nat) (rep : Option Nat) (share : Bool) (x : Tenant) : MoveEnt :=
  let e := s.rmEntry x.region x.ltile
  match rep with
  | some b => { region := x.region, ltile := x.ltile, next := some b, home := e.home, slice := x.slice }
  | none => match (if share && e.role = 0 then s.hostFor x.region site else none) with
    | some (h, home, slice) => { region := x.region, ltile := x.ltile, next := some h, home := home, slice := slice }
    | none => { region := x.region, ltile := x.ltile }

/-- Move a whole site into another state (R340 to R342): its entries are noticed and the move starts. A site that no role map names needs
no notice. -/
def State.castSite (s : State) (site reason : Nat) (into : SiteState) (lead : Nat) (replace share : Bool) : State :=
  let col := colOfSite site
  let t := s.tileAt site
  let rows := s.rowsOf site
  let rep := if replace && !rows.isEmpty then (s.bullpens col).head? else none
  let leaveAt := if rows.isEmpty then s.time else s.time + lead
  let s := s.countCasts col 1
  let s := match rep with
    | some b => s.takeBullpen b t.st.role
    | none => s
  let r := rows.foldl (fun (acc : State × List MoveEnt) x =>
    match acc.1.noticeEnt site reason leaveAt (acc.1.goal site rep share x) with
    | (s, m) => (s, acc.2 ++ [m])) (s, [])
  r.1.setLeaving site { reason := reason, frm := t.st, into := into, leaveAt := leaveAt, ents := r.2 }

/-- Move single entries off a site that stays as it is, or goes to BULLPEN when it served nothing else. -/
def State.castEnt (s : State) (site reason : Nat) (into : SiteState) (m : MoveEnt) (joins : Option Word) (cmd : Nat × Nat) : State :=
  let col := colOfSite site
  let leaveAt := s.time + 1000 * (s.colAt col).lead
  match (s.countCasts col 1).noticeEnt site reason leaveAt m with
  | (s, m) => s.setLeaving site { reason := reason, frm := (s.tileAt site).st, into := into, leaveAt := leaveAt, ents := [m], joins := joins, cmd := cmd }

/-! Entries of a role map. -/

/-- An entry becomes ACTIVE on a site that a region receives, and the region is told (GRANT). -/
def State.assign (s : State) (region : Word) (l site role : Nat) : State :=
  let r := s.regionAt region
  let e := s.rmEntry region l
  let gen := if l < r.rmLen then e.gen else 0
  let s := if r.rmLen ≤ l then s.setRegion { r with rmLen := l + 1 } else s
  let s := s.setRmEntry region l { gen := (gen + 1) % 2 ^ 16, role := role, torole := role, state := 0, site := site,
                                   timemark := BitVec.ofNat 64 (s.time + 64000) }
  let s := s.setTileAt site { s.tileAt site with tenants := (s.tileAt site).tenants ++ [({ region := region, ltile := l } : Tenant)] }
  match s.freshNid (colOfSite site) with
  | (s, nid) => s.noticeMsg region (noticeWord nid 6 3 role l) 0 ((gen + 1) % 2 ^ 16) 0 []

/-- The lowest entry that a region can fill: VACANT, or the next one within RMCAP (R350). -/
def State.lowestVacant (s : State) (region : Word) : Option Nat :=
  let r := s.regionAt region
  match (List.range r.rmLen).find? fun l => (s.rmEntry region l).state = 3 with
  | some l => some l
  | none => if r.rmLen < r.rmCap then some r.rmLen else none

/-- N falls past trailing VACANT entries (R354). -/
def trimLen (vacant : Nat → Bool) : Nat → Nat
  | 0 => 0
  | n + 1 => if vacant n then trimLen vacant n else n + 1

/-- Tasks of a region are queued or running on a site, or a tile-walk job of it runs there (R349, R440). -/
def State.worksOn (s : State) (region : Word) (site : Nat) : Bool :=
  ((List.range 8).any fun k => (s.coreAt (8 * site + k)).rq.any fun e => e.region == region) ||
  (s.tileAt site).tw.any fun j => j.region == region && !j.ended

/-! Requests in the order of R340. -/

/-- The claims on a site that is retired are dropped: it takes no role again (R13, R429). -/
def State.dropClaims (s : State) (site : Nat) : State :=
  let col := colOfSite site
  let c := s.colAt col
  s.setColAt col { c with claims := c.claims.filter fun x => x.site != site }

def State.room (s : State) (col : Nat) : Nat := 8 - (s.colAt col).windowCount

/-- Retirements (R429). A site that entries are still moving to is retired once they have arrived, so that none comes to name an OFF site
(R14); one that is OFF by now needs none. -/
def State.runRetires (s : State) (col : Nat) : State :=
  (s.colAt col).retires.foldl (fun s t =>
    if (s.tileAt t).st == .off then
      let c := s.colAt col
      s.setColAt col { c with retires := c.retires.filter fun x => x != t }
    else if (s.tileAt t).leaving.isSome || (s.tileAt t).tenants.any (·.incoming) || s.room col < s.castNeeds t || (s.colAt col).retires.head? != some t then s
    else
      let c := s.colAt col
      ((s.setColAt col { c with retires := c.retires.drop 1 }).dropClaims t).castSite t 3 .off (1000 * c.lead) true true) s

/-- A site is free of what keeps it from being vacated (R350). -/
def State.vacatable (s : State) (v : Vacate) : Bool :=
  let e := s.rmEntry v.region v.ltile
  e.state = 0 && e.site = v.site && !e.shared && !e.leased && (s.tileAt v.site).still

/-- Spatial preemption (R350, R351). -/
def State.runVacates (s : State) (col : Nat) : State :=
  (s.colAt col).vacates.foldl (fun s v =>
    if s.room col = 0 || !s.vacatable v then s
    else match s.hostFor v.region v.site with
      | none => s
      | some (h, home, slice) =>
        let c := s.colAt col
        (s.setColAt col { c with vacates := c.vacates.erase v }).castEnt v.site 2 .compute
          { region := v.region, ltile := v.ltile, next := some h, home := home, slice := slice } (some v.target) v.cmd) s

/-- A site that a REQUEST for a role may take: a BULLPEN site, else a pool site of that role; and whether it is in the role. -/
def State.siteFor (s : State) (col role : Nat) : Option (Nat × Bool) :=
  match (s.bullpens col).head? with
  | some t => some (t, false)
  | none =>
    if role = 0 then none
    else ((sitesOf col).find? fun t => (s.tileAt t).st == roleState role && (s.tileAt t).still && (s.tileAt t).tenants.isEmpty).map fun t => (t, true)

/-- An RMAP REQUEST or RELEASE that can be carried out now (R354). -/
def State.runReq (s : State) (col : Nat) (q : CensusReq) : Option State :=
  let e := s.rmEntry q.region q.ltile
  let r := s.regionAt q.region
  let drop (s : State) : State := let c := s.colAt col; s.setColAt col { c with reqs := c.reqs.erase q }
  if q.op = 1 then
    if !((q.ltile < r.rmLen && e.state = 3) || (q.ltile = r.rmLen && r.rmLen < r.rmCap)) then none
    else match s.siteFor col q.role with
      | none => none
      | some (t, true) => some ((drop s).assign q.region q.ltile t q.role)
      | some (t, false) => if s.room col = 0 then none else some (((drop s).takeBullpen t q.role).assign q.region q.ltile t q.role)
  else if r.rmLen ≤ q.ltile || e.state ≠ 0 || e.leased then some (drop s)
  else if s.room (colOfSite e.site) = 0 || (s.tileAt e.site).leaving.isSome then none
  else
    let alone := (s.tileAt e.site).tenants.length ≤ 1
    some ((drop s).castEnt e.site 4 (if alone then .bullpen else (s.tileAt e.site).st) { region := q.region, ltile := q.ltile } none (0, 0))

def State.runReqs (s : State) (col : Nat) : State := (s.colAt col).reqs.foldl (fun s q => (s.runReq col q).getD s) s

/-- Put a claim on the pending list: a second one on a site replaces the first, and a ninth the oldest (R439). -/
def Column.claim (c : Column) (site role : Nat) : Column :=
  let l := c.claims.filter fun x => x.site != site
  { c with claims := (if l.length < 8 then l else l.drop 1) ++ [{ site := site, role := role }] }

/-- Act on a claim whose lease has ended (R349, R439): the site takes the claimed role. A site that has been leased anew waits for that
lease (R15), and one that has left the roles is let be. -/
def State.runClaim (s : State) (col : Nat) (c : Claim) : State :=
  let t := s.tileAt c.site
  if 3 ≤ t.st.role then s.dropClaims c.site
  else if !t.still || s.siteLeased c.site || t.tenants.any (·.incoming) || s.room col < s.castNeeds c.site then s
  else
    let x := s.colAt col
    (s.setColAt col { x with claims := x.claims.filter fun y => y.site != c.site }).castSite c.site 1 (roleState c.role) (1000 * x.lead) true true

def State.runClaims (s : State) (col : Nat) : State := ((s.colAt col).claims.filter (·.due)).foldl (fun s c => s.runClaim col c) s

/-- A pressure move that found no room for its site and the replacement waits, last in the order of R340. -/
def State.runPending (s : State) (col : Nat) : State :=
  (s.colAt col).pending.foldl (fun s p =>
    let t := s.tileAt p.1
    let c := s.colAt col
    let drop := s.setColAt col { c with pending := c.pending.filter fun q => q != p }
    let ok := t.still && t.st.role < 3 && t.st.role != p.2 && !(t.tenants.any (·.incoming)) &&
      (s.rowsOf p.1).all fun x => (s.rmEntry x.region x.ltile).state = 0 && !(s.rmEntry x.region x.ltile).shared
    if !ok then drop
    else if s.siteLeased p.1 then drop.setColAt col ((drop.colAt col).claim p.1 p.2)
    else if s.room col < s.castNeeds p.1 then s
    else drop.castSite p.1 0 (roleState p.2) (1000 * c.lead) true true) s

/-- Carry out what the window has room for. -/
def State.censusRun (s : State) (col : Nat) : State :=
  let s := s.runRetires col
  if !(s.colAt col).retires.isEmpty && s.room col < 2 then s
  else (((s.runVacates col).runReqs col).runClaims col).runPending col

/-! Pressure (R340, R439). -/

/-- A column's counter of a role, with its thresholds. -/
def Column.wants (c : Column) (role : Nat) : Bool :=
  match role with
  | 0 => c.chi ≤ c.cpress
  | 1 => c.shi ≤ c.spress
  | _ => c.lhi ≤ c.lpress
def Column.yields (c : Column) (role : Nat) : Bool :=
  match role with
  | 0 => c.cpress ≤ c.clo
  | 1 => c.spress ≤ c.slo
  | _ => c.lpress ≤ c.llo

/-- A donor of a yielding role (R340), its lease aside. -/
def State.donorOk (s : State) (col role site : Nat) : Bool :=
  let t := s.tileAt site
  t.still && t.st.role < 3 && t.st.role != role && (s.colAt col).yields t.st.role && !(t.tenants.any (·.incoming)) &&
  (s.rowsOf site).all fun x => (s.rmEntry x.region x.ltile).state = 0 && !(s.rmEntry x.region x.ltile).shared

/-- The donors of a role in the order of R340. -/
def State.donors (s : State) (col role : Nat) : List Nat :=
  let ds := (sitesOf col).filter fun t => s.donorOk col role t && !(s.colAt col).pending.any fun p => p.1 == t
  (List.range 9).flatMap fun n => ds.filter fun t => (s.rowsOf t).length = n

/-- One site for a wanting role: whether one was found, and the sites refused LEASED in this decision. A donor whose move needs room for its
replacement too waits for it (R340). -/
def State.pressureStep (s : State) (col role : Nat) (refused : List Nat) : State × Bool × List Nat :=
  let c := s.colAt col
  let bs := s.bullpens col
  if c.bullMin < bs.length && 1 ≤ s.room col then (s.takeBullpen (bs.headD 0) role, true, refused)
  else
    let ds := (s.donors col role).filter fun t => !refused.contains t
    let leased := ds.takeWhile s.siteLeased
    let s := leased.foldl (fun s t => s.setColAt col ((s.colAt col).claim t role)) s
    match (ds.dropWhile s.siteLeased).head? with
    | none => (s, false, refused ++ leased)
    | some t =>
      if s.room col < s.castNeeds t then
        let c := s.colAt col
        (s.setColAt col { c with pending := c.pending ++ [(t, role)] }, false, refused ++ leased)
      else (s.castSite t 0 (roleState role) (1000 * c.lead) true true, true, refused ++ leased)

/-- Turns of the wanting roles, `n` re-casts left. -/
def State.pressure (s : State) (col : Nat) : Nat → Nat → List Nat → List Nat → State
  | 0, _, _, _ => s
  | fuel + 1, n, roles, refused =>
    match roles with
    | [] => s
    | role :: roles =>
      if n = 0 || s.room col = 0 then s
      else
        let q := s.pressureStep col role refused
        if q.2.1 then q.1.pressure col fuel (n - 1) (roles ++ [role]) q.2.2 else q.1.pressure col fuel n roles q.2.2

/-- Run-queue entries, queued or saved, for each COMPUTE core of a column, in units of 1/256 (CPRESS, R338). -/
def State.cpressNow (s : State) (col : Nat) : Nat :=
  let ts := s.tiles.filter fun t => colOfSite t.1 == col && t.2.st == .compute
  let n := sumNat (ts.map fun t => sumNat ((coresOf t.1).map fun k => ((s.coreAt k).rq.filter fun e => e.st == .queued || e.st == .saved).length))
  if ts.isEmpty then 0 else 256 * n / (8 * ts.length)

/-- SCOUT_SAMPLE (R338): every 1,024 base-die cycles. The model holds no flits, so the occupancy of the send windows is a free value of at
most 256 (log 20). -/
def execScoutSample (s : State) : Out :=
  let col := s.ev.x
  let f := s.free
  let c := f.2.colAt col
  .next ((f.2.setColAt col { c with samples := c.samples + 1, cSum := c.cSum + s.cpressNow col, lSum := c.lSum + f.1.toNat % 257 }).post 512
    .scoutSample { x := col })

/-- Guests that can go back to sites of their own, the highest slice first (R351). -/
def State.homeMoves (s : State) (col : Nat) : State :=
  let gs := (sitesOf col).filterMap fun t =>
    if (s.tileAt t).still then
      (minBy (fun (x : Tenant) => 8 - x.slice) ((s.rowsOf t).filter fun x => (s.rmEntry x.region x.ltile).home ≠ 0 &&
        (s.rmEntry x.region x.ltile).state = 0 && !(s.rmEntry x.region x.ltile).leased)).map fun x => (t, x)
    else none
  gs.foldl (fun s p =>
    match s.bullpens col with
    | [] => s
    | b :: _ =>
      if s.room col < 2 then s
      else (s.takeBullpen b 0).castEnt p.1 5 .compute { region := p.2.region, ltile := p.2.ltile, next := some b } none (0, 0)) s

/-- Requests that found no site by the end of the window are refused (R354). -/
def State.refuseReqs (s : State) (col : Nat) : State :=
  let c := s.colAt col
  let bad (q : CensusReq) : Bool :=
    q.op = 1 && ((s.siteFor col q.role).isNone || (s.rmEntry q.region q.ltile).state ≠ 3 && q.ltile < s.rmLen q.region)
  (c.reqs.filter bad).foldl (fun s q =>
    match s.freshNid col with
    | (s, nid) => s.noticeMsg q.region (noticeWord nid 7 3 q.role q.ltile) 0 (s.rmEntry q.region q.ltile).gen 0 [])
    (s.setColAt col { c with reqs := c.reqs.filter fun q => !bad q })

/-- A scout window counts the faults of its sites anew (R429). -/
def State.newFaults (s : State) (col : Nat) : State :=
  { s with tiles := s.tiles.map fun p => (p.1, if colOfSite p.1 = col then { p.2 with winFaults := 0 } else p.2) }

/-- SCOUT_WINDOW_END (R338, R340): the counters are loaded, and the decisions of a window are taken. -/
def execScoutWindowEnd (s : State) : Out :=
  let col := s.ev.x
  let s := (s.censusRun col).refuseReqs col
  let c := s.colAt col
  let n := Nat.max 1 c.samples
  let s := s.setColAt col { c with
    cpress := c.cSum / n % 2 ^ 32, spress := c.noRoom % 2 ^ 32, lpress := c.lSum / n % 2 ^ 32, samples := 0, cSum := 0, lSum := 0, noRoom := 0
    windowCount := 0 }
  let s := s.newFaults col
  let s := s.censusRun col
  let s := ((s.colAt col).claims.filter fun c => !s.siteLeased c.site).foldl (fun s c => s.runClaim col c) s
  let c := s.colAt col
  let s := if c.enable then s.pressure col 64 c.maxRecast ([0, 1, 2].filter c.wants) [] else s
  .next ((s.homeMoves col).post 524288 .scoutWindowEnd { x := col })

/-- RMAP_ACTION (R354). -/
def execRmapAction (s : State) : Out := .next (s.censusRun s.ev.x)

end Sys2Proof.Machine
end

