-- ==== Sys2Proof/Machine/Integer.lean ====
section
/-! DEFINITION. Integer register instructions, OP 0x01 to 0x03 (R103 to R108). -/

namespace Sys2Proof.Machine

/-- R106: gA + gB. -/
def execAdd (w : BitVec 1) (b a d : BitVec 5) (s : State) : Out := writeSat s w d (srcS w (s.rg a) + srcS w (s.rg b))

/-- R106: gA − gB. -/
def execSub (w : BitVec 1) (b a d : BitVec 5) (s : State) : Out := writeSat s w d (srcS w (s.rg a) - srcS w (s.rg b))

/-- R106: bitwise and. -/
def execAnd (w : BitVec 1) (b a d : BitVec 5) (s : State) : Out := writeG s d (resW w (s.rg a &&& s.rg b).toInt)

/-- R106: bitwise or. -/
def execOr (w : BitVec 1) (b a d : BitVec 5) (s : State) : Out := writeG s d (resW w (s.rg a ||| s.rg b).toInt)

/-- R106: bitwise exclusive or. -/
def execXor (w : BitVec 1) (b a d : BitVec 5) (s : State) : Out := writeG s d (resW w (s.rg a ^^^ s.rg b).toInt)

/-- R106: gA and not gB. -/
def execAndn (w : BitVec 1) (b a d : BitVec 5) (s : State) : Out := writeG s d (resW w (s.rg a &&& ~~~ s.rg b).toInt)

/-- R106: left shift; under `.sat` it clamps when a bit shifted out or into the sign differs from the sign (R105). -/
def execShl (w : BitVec 1) (b a d : BitVec 5) (s : State) : Out := writeSat s w d (srcS w (s.rg a) * 2 ^ shAmt w (s.rg b))

/-- R106: right shift, zero fill. -/
def execShr (w : BitVec 1) (b a d : BitVec 5) (s : State) : Out := writeG s d (resW w (srcU w (s.rg a) / 2 ^ shAmt w (s.rg b) : Nat))

/-- R106: right shift, sign fill. -/
def execSar (w : BitVec 1) (b a d : BitVec 5) (s : State) : Out := writeG s d (resW w (srcS w (s.rg a) / (2 ^ shAmt w (s.rg b) : Int)))

/-- R106: rotation left. -/
def execRol (w : BitVec 1) (b a d : BitVec 5) (s : State) : Out :=
  let x := srcU w (s.rg a) * 2 ^ shAmt w (s.rg b)
  writeG s d (resW w (x % 2 ^ widthW w + x / 2 ^ widthW w : Nat))

/-- R106: the signed lesser. -/
def execMin (w : BitVec 1) (b a d : BitVec 5) (s : State) : Out :=
  writeG s d (resW w (if srcS w (s.rg a) ≤ srcS w (s.rg b) then srcS w (s.rg a) else srcS w (s.rg b)))

/-- R106: the signed greater. -/
def execMax (w : BitVec 1) (b a d : BitVec 5) (s : State) : Out :=
  writeG s d (resW w (if srcS w (s.rg a) ≤ srcS w (s.rg b) then srcS w (s.rg b) else srcS w (s.rg a)))

/-- R106: the unsigned lesser. -/
def execMinu (w : BitVec 1) (b a d : BitVec 5) (s : State) : Out :=
  writeG s d (resW w (if srcU w (s.rg a) ≤ srcU w (s.rg b) then srcU w (s.rg a) else srcU w (s.rg b) : Nat))

/-- R106: the unsigned greater. -/
def execMaxu (w : BitVec 1) (b a d : BitVec 5) (s : State) : Out :=
  writeG s d (resW w (if srcU w (s.rg a) ≤ srcU w (s.rg b) then srcU w (s.rg b) else srcU w (s.rg a) : Nat))

/-- 1 for true, as a word. -/
def wordOf (p : Bool) : Word := if p then 1 else 0

/-- R106: signed less than. -/
def execSlt (w : BitVec 1) (b a d : BitVec 5) (s : State) : Out := writeG s d (wordOf (decide (srcS w (s.rg a) < srcS w (s.rg b))))

/-- R106: unsigned less than. -/
def execSltu (w : BitVec 1) (b a d : BitVec 5) (s : State) : Out := writeG s d (wordOf (decide (srcU w (s.rg a) < srcU w (s.rg b))))

/-- R106: equal. -/
def execSeq (w : BitVec 1) (b a d : BitVec 5) (s : State) : Out := writeG s d (wordOf (srcU w (s.rg a) == srcU w (s.rg b)))

/-- R107: the product; `.sat` clamps the exact product. -/
def execMul (w : BitVec 1) (b a d : BitVec 5) (s : State) : Out := writeSat s w d (srcS w (s.rg a) * srcS w (s.rg b))

/-- R107: the high half of the signed product. -/
def execMulh (w : BitVec 1) (b a d : BitVec 5) (s : State) : Out :=
  writeG s d (resW w (srcS w (s.rg a) * srcS w (s.rg b) / (2 ^ widthW w : Int)))

/-- R107: the high half of the unsigned product. -/
def execMulhu (w : BitVec 1) (b a d : BitVec 5) (s : State) : Out :=
  writeG s d (resW w (srcU w (s.rg a) * srcU w (s.rg b) / 2 ^ widthW w : Nat))

/-- R107: signed quotient truncated toward zero; INT_DIV for a zero divisor. -/
def execDiv (w : BitVec 1) (b a d : BitVec 5) (s : State) : Out :=
  if srcS w (s.rg b) = 0 then trap s cINT_DIV 0 else writeSat s w d (Int.tdiv (srcS w (s.rg a)) (srcS w (s.rg b)))

/-- R107: unsigned quotient. -/
def execDivu (w : BitVec 1) (b a d : BitVec 5) (s : State) : Out :=
  if srcU w (s.rg b) = 0 then trap s cINT_DIV 0 else writeG s d (resW w (srcU w (s.rg a) / srcU w (s.rg b) : Nat))

/-- R107: signed remainder, with the sign of gA. -/
def execRem (w : BitVec 1) (b a d : BitVec 5) (s : State) : Out :=
  if srcS w (s.rg b) = 0 then trap s cINT_DIV 0 else writeG s d (resW w (Int.tmod (srcS w (s.rg a)) (srcS w (s.rg b))))

/-- R107: unsigned remainder. -/
def execRemu (w : BitVec 1) (b a d : BitVec 5) (s : State) : Out :=
  if srcU w (s.rg b) = 0 then trap s cINT_DIV 0 else writeG s d (resW w (srcU w (s.rg a) % srcU w (s.rg b) : Nat))

/-- Bits of a number, lowest first, in a list of length `n`. -/
def bitList (n x : Nat) : List Bool := (List.range n).map fun i => x.testBit i

/-- The number whose bits, lowest first, are the list. -/
def natOfBits : List Bool → Nat
  | [] => 0
  | b :: r => b2n b + 2 * natOfBits r

/-- The number of zero bits before the first one. -/
def leadingZeros (l : List Bool) : Nat := (l.takeWhile fun b => !b).length

/-- R108: leading zeros. -/
def execClz (w : BitVec 1) (a d : BitVec 5) (s : State) : Out :=
  writeG s d (BitVec.ofNat 64 (leadingZeros (bitList (widthW w) (srcU w (s.rg a))).reverse))

/-- R108: trailing zeros. -/
def execCtz (w : BitVec 1) (a d : BitVec 5) (s : State) : Out :=
  writeG s d (BitVec.ofNat 64 (leadingZeros (bitList (widthW w) (srcU w (s.rg a)))))

/-- R108: number of one bits. -/
def execPopc (w : BitVec 1) (a d : BitVec 5) (s : State) : Out :=
  writeG s d (BitVec.ofNat 64 ((bitList (widthW w) (srcU w (s.rg a))).filter id).length)

/-- R108: bits reversed. -/
def execBrev (w : BitVec 1) (a d : BitVec 5) (s : State) : Out :=
  writeG s d (resW w (natOfBits (bitList (widthW w) (srcU w (s.rg a))).reverse : Nat))

/-- R108: POS and LEN of gB. -/
def bfPos (x : Word) : Nat := bits x 0 6
def bfLen (x : Word) : Nat := Nat.min (bits x 8 7) 64

/-- R108: the field of gA, zero-extended; W = 1 traps ILLEGAL (R104). -/
def execBext (w : BitVec 1) (b a d : BitVec 5) (s : State) : Out :=
  if w = 0 then writeG s d (BitVec.ofNat 64 (nbits (s.rg a).toNat (bfPos (s.rg b)) (bfLen (s.rg b)))) else illegal s

/-- R108: gD with the field replaced by the low bits of gA. -/
def execBins (w : BitVec 1) (b a d : BitVec 5) (s : State) : Out :=
  if w = 0 then
    let pos := bfPos (s.rg b)
    let len := Nat.min (bfLen (s.rg b)) (64 - pos)
    writeG s d (setField (s.rg d) pos len (s.rg a).toNat)
  else illegal s

/-- R108: gA if gD ≠ 0, else gB. -/
def execSel (w : BitVec 1) (b a d : BitVec 5) (s : State) : Out :=
  if w = 0 then writeG s d (if s.rg d ≠ 0 then s.rg a else s.rg b) else illegal s

end Sys2Proof.Machine
end

