-- ==== Sys2Proof/Machine/Control.lean ====
section
/-! DEFINITION. Branches, jumps, REP and POOL (R40, R52, R113 to R119). -/

namespace Sys2Proof.Machine

/-- A conditional branch (R113): taken to PC + 4·sext(offset14), else on at PC + 4. -/
def branchIf (s : State) (o : BitVec 14) (taken : Bool) : Out :=
  jumpTo s (if taken then targetB s.grp o else s.grp.npc)

/-- R113: equal. -/
def execBeq (o : BitVec 14) (a d : BitVec 5) (s : State) : Out := branchIf s o (s.rg d == s.rg a)
/-- R113: not equal. -/
def execBne (o : BitVec 14) (a d : BitVec 5) (s : State) : Out := branchIf s o (s.rg d != s.rg a)
/-- R113: first < second, signed. -/
def execBlt (o : BitVec 14) (a d : BitVec 5) (s : State) : Out := branchIf s o (decide ((s.rg d).toInt < (s.rg a).toInt))
/-- R113: first ≥ second, signed. -/
def execBge (o : BitVec 14) (a d : BitVec 5) (s : State) : Out := branchIf s o (decide ((s.rg a).toInt ≤ (s.rg d).toInt))
/-- R113: first < second, unsigned. -/
def execBltu (o : BitVec 14) (a d : BitVec 5) (s : State) : Out := branchIf s o (decide ((s.rg d).toNat < (s.rg a).toNat))
/-- R113: first ≥ second, unsigned. -/
def execBgeu (o : BitVec 14) (a d : BitVec 5) (s : State) : Out := branchIf s o (decide ((s.rg a).toNat ≤ (s.rg d).toNat))

/-- R114. -/
def execJmp (o : BitVec 24) (s : State) : Out := jumpTo s (targetJ s.grp o)
/-- R114: g31 := PC + 4 first. -/
def execJal (o : BitVec 24) (s : State) : Out := jumpTo (s.wg 31 (s.grp.wpc + 4)) (targetJ s.grp o)

/-- R115: a misaligned target traps ALIGN before any register changes. -/
def execJr (a : BitVec 5) (s : State) : Out :=
  let t := s.rg a
  if bits t 0 2 ≠ 0 then trap s cALIGN t else jumpTo s t

/-- R115: the target is read before the link is written. -/
def execJalr (a d : BitVec 5) (s : State) : Out :=
  let t := s.rg a
  if bits t 0 2 ≠ 0 then trap s cALIGN t else jumpTo (s.wg d (s.grp.wpc + 4)) t

/-- R116, R117: start a replay of n = NM1 + 1 groups. -/
def execRep (c : BitVec 14) (_ : BitVec 4) (_ _ _ : BitVec 1) (n : BitVec 3) (s : State) : Out :=
  let x := s.ctx
  if x.inTrap || x.rep.active || c = 0 then illegal s
  else
    let r : RepState := { pass := 0, active := true, n := BitVec.ofNat 4 (n.toNat + 1), group := 0, offset := 1 }
    jumpTo (s.setCtx { x with rep := r, dirty := x.dirty ||| BitVec.ofNat 72 (2 ^ 71) }) (s.grp.wpc + 4)

/-- R52: skip N pool words. -/
def execPool (n : BitVec 12) (s : State) : Out :=
  if n = 0 then illegal s else jumpTo s (s.grp.wpc + BitVec.ofNat 64 (4 * (n.toNat + 1)))

/-- R55: every base word with OP 0x00 traps ILLEGAL while it is decoded (R47, R74). -/
def execIll (_ : BitVec 24) (s : State) : Out := .next (s.decodeTrap cILLEGAL s.grp.wpc s.grp.pc0)

end Sys2Proof.Machine
end

