-- ==== Sys2Proof/Machine/Matrix.lean ====
section
/-! DEFINITION. The matrix engine (R163 to R185, R449): its registers, the queue of operations, the arrays, drains, and the saving
of a gang's panels (R67). -/

namespace Sys2Proof.Machine

/-! Registers. -/

/-- An accepted operation of kind `k` has started. -/
def Mx.busyKind (m : Mx) (k : MxKind) : Bool := m.ops.any fun o => o.kind == k && o.st != .queued
def Mx.qlen (m : Mx) : Nat := (m.ops.filter fun o => o.st == .queued).length
/-- An operation is paused: by its own trap (R182), by the whistle tree (R415), or by a home that moves (R186). -/
def MxOp.isPaused (o : MxOp) : Bool := o.st == .paused || (o.st == .running && (o.halted || o.homeWait))
def Mx.paused (m : Mx) : Bool := m.ops.any MxOp.isPaused
/-- An MGO or MGOT, which carries a ROW (R449). -/
def MxOp.hasRow (o : MxOp) : Bool := o.kind == .mgo || o.kind == .mgot
/-- MX.ROW shows the ROW of an operation that was accepted, committed a group or paused (R167, R449). -/
def Mx.show (m : Mx) (o : MxOp) : Mx := if o.hasRow then { m with row := BitVec.ofNat 32 o.row, shown := some o.num } else m
def Mx.busy (m : Mx) : Bool := m.busyKind .mgo || m.busyKind .mgot || m.busyKind .mdrain
def Mx.pending (m : Mx) : Bool := m.ops.any fun o => o.hasRow && !o.consumed
def Mx.pbusy (m : Mx) : Nat := ((List.range 4).filter fun p => m.ops.any fun o => o.panel == p).foldl (fun acc p => acc + 2 ^ p) 0

/-- MX.STAT (R166). -/
def Mx.stat (m : Mx) : Word :=
  mkWord [(37, m.drej.toNat), (32, m.typ.toNat), (24, m.err.toNat), (16, m.flags.toNat), (12, m.pbusy), (8, m.qlen),
    (7, b2n m.paused), (6, b2n m.pending), (2, b2n (m.busyKind .mdrain)), (1, b2n (m.busyKind .mgot)), (0, b2n (m.busyKind .mgo))]

/-- A register by number (R60). -/
def Mx.reg (m : Mx) (r : Nat) : Word :=
  match r with
  | 0 => m.abase
  | 1 => m.astride
  | 2 => m.bbase
  | 3 => m.bstride
  | 4 => m.k.setWidth 64
  | 5 => m.fmt
  | 6 => m.row.setWidth 64
  | _ => m.stat

/-- Fields of a format word (R165). -/
def fmtA (f : Word) : Nat := bits f 0 4
def fmtB (f : Word) : Nat := bits f 4 4
def fmtDsat (f : Word) : Bool := bit f 12
def fmtDrm (f : Word) : Nat := bits f 13 3

/-- An element of a panel. -/
def Mx.elem (m : Mx) (p r c : Nat) : BitVec 32 := tget m.acc (256 * p + 16 * r + c) 0

def State.mx (s : State) (site : Nat) : Mx := (s.tileAt site).mx
def State.setMx (s : State) (site : Nat) (m : Mx) : State := s.setTileAt site { s.tileAt site with mx := m }
def State.op (s : State) (site n : Nat) : Option MxOp := (s.mx site).ops.find? fun o => o.num == n
def State.setOp (s : State) (site : Nat) (o : MxOp) : State :=
  let m := s.mx site
  s.setMx site { m with ops := modFirst (fun x => x.num == o.num) (fun _ => o) m.ops }
def State.dropOp (s : State) (site n : Nat) : State :=
  let m := s.mx site
  s.setMx site { m with ops := m.ops.filter fun x => x.num != n }

/-- The next operation may be able to start. -/
def State.kickMx (s : State) (site : Nat) : State := s.post 0 .mxOpStart { x := site }

/-! What every matrix group passes first (R67, R68, R164). -/

/-- The engine's state is at the region of the context in hand, and no save or restore of panels is due; else the group waits. -/
def mxReady (s : State) (i : Instr) (k : State → Out) : Out :=
  let site := s.siteNo
  if s.panelBusy site then park s i
  else if (s.mx site).region ≠ s.ctx.region then
    park (s.post 0 .engineRegionZero { x := site, y := s.ctx.region.toNat, z := s.ctx.ltile }) i
  else k s

/-- A group that only the admitted gang, or any task on a tile without one, may issue (R164). -/
def mxOwned (s : State) (i : Instr) (k : State → Out) : Out :=
  if !s.isMember s.siteNo s.cur then trap s cGANG 0 else mxReady s i k

/-- The paused operation whose ROW an MSET writes (R449). -/
def Mx.pausedOp (m : Mx) (c : Ctx) : Option MxOp :=
  let ps := m.ops.filter fun o => o.isPaused && o.hasRow
  match c.trapWork with
  | some w => if c.inTrap && w.unit = 0 then (ps.find? fun o => o.num == w.num).orElse fun _ => minBy (fun o => 2 ^ 64 - o.pausedAt) ps
              else minBy (fun o => 2 ^ 64 - o.pausedAt) ps
  | none => minBy (fun o => 2 ^ 64 - o.pausedAt) ps

/-- MSET of MX.ROW (R85, R171, R449): a paused operation goes on from the k-group named, and reads its operands again. -/
def State.setRow (s : State) (site : Nat) (v : BitVec 32) : State :=
  let m := s.mx site
  if m.paused then
    match m.pausedOp s.ctx with
    | none => s
    | some o =>
      let s := s.setOp site { o with row := v.toNat, consumed := false, final := [] }
      if m.shown = some o.num then s.setMx site { s.mx site with row := v } else s
  else if m.busy then s
  else s.setMx site { m with row := v }

/-- R171. -/
def execMset (r : BitVec 9) (a : BitVec 5) (s : State) : Out :=
  mxOwned s (.mset r a) fun s =>
    let site := s.siteNo
    let m := s.mx site
    let x := s.rg a
    match r.toNat with
    | 0 => done (s.setMx site { m with abase := x })
    | 1 => done (s.setMx site { m with astride := x })
    | 2 => done (s.setMx site { m with bbase := x })
    | 3 => done (s.setMx site { m with bstride := x })
    | 4 => done (s.setMx site { m with k := x.setWidth 21 })
    | 5 => done (s.setMx site { m with fmt := x &&& 0xF0FF })
    | 6 => done (s.setRow site (x.setWidth 32))
    | _ => illegal s

/-- R171. It reads matrix registers alone: R84 has CP.L0 to CP.STAT read by MGET, but R60 makes MGET of them ILLEGAL, which is followed
(DESIGN CHOICE, log 80). -/
def execMget (r : BitVec 3) (d : BitVec 5) (s : State) : Out :=
  mxOwned s (.mget r d) fun s => writeG s d ((s.mx s.siteNo).reg r.toNat)

/-- R171: two elements of a panel row. -/
def execMgetPanel (p : BitVec 2) (a d : BitVec 5) (s : State) : Out :=
  mxOwned s (.mgetPanel p a d) fun s =>
    let x := s.rg a
    let m := s.mx s.siteNo
    let j := bits x 0 3
    let r := bits x 3 4
    writeG s d (mkWord [(32, (m.elem p.toNat r (2 * j + 1)).toNat), (0, (m.elem p.toNat r (2 * j)).toNat)])

/-- R176. -/
def execMwait (c : BitVec 1) (d : BitVec 5) (s : State) : Out :=
  mxReady s (.mwait c d) fun s =>
    let m := s.mx s.siteNo
    let ready := if c = 0 then m.pbusy = 0 && m.qlen = 0 && !m.busy && !m.paused else !m.pending
    if ready then writeG (s.setMx s.siteNo { m with err := 0, flags := 0 }) d m.stat else park s (.mwait c d)

/-! The queue (R168). -/

/-- Accept an operation of the context in hand. -/
def State.acceptOp (s : State) (o : MxOp) : State :=
  let site := s.siteNo
  let m := s.mx site
  let o := { o with num := m.next, ctx := s.cur, region := s.ctx.region, ltile := s.ctx.ltile, core := s.coreNo % 8, owner := s.ownerOf s.cur }
  (s.setMx site { m with ops := m.ops ++ [o], next := m.next + 1 }).kickMx site

/-- R177: accepted at issue; a full queue makes the group wait before issue. -/
def execMzero (p : BitVec 2) (s : State) : Out :=
  mxOwned s (.mzero p) fun s =>
    if 4 ≤ (s.mx s.siteNo).qlen then .next (s.waitIssue (.mzero p))
    else done (s.acceptOp { num := 0, kind := .mzero, panel := p.toNat })

/-- R178: the checks in their order, then the drain is accepted; the issuer's stores to its own tile go before it (R243). -/
def execMdrain (c : BitVec 6) (w : BitVec 1) (p : BitVec 2) (b a : BitVec 5) (s : State) : Out :=
  let i : Instr := .mdrain c w p b a
  if w = 0 && c ≠ 0 then illegal s
  else mxOwned s i fun s =>
    let x := s.rg a
    let win := bits x 24 4
    let m := s.mx s.siteNo
    if classOf x ≠ .role || bit x 28 || 10 < win then trap s cPROTECT x
    else if bits x 0 24 % 64 ≠ 0 then trap s cALIGN x
    else if 0x10000 < winByte win (bits x 0 24) + (if win = 0 then 1024 else 256 * winBits win / 8) then trap s cPROTECT x
    else if win ≠ 0 && 5 < fmtDrm m.fmt then illegal s
    else if 4 ≤ m.qlen || s.tileBusy s.cur then .next (s.waitIssue i)
    else done (s.acceptOp { num := 0, kind := .mdrain, panel := p.toNat, dest := x, wake := w = 1, ch := c.toNat, fmt := m.fmt,
                            stride := s.rg b })

/-- R172: the member joins the gang line. -/
def execMgo (c : BitVec 1) (p : BitVec 2) (a : BitVec 5) (s : State) : Out := gangIssue (.mgo c p a) .mxJoin s
/-- R172: the member joins the gang line. -/
def execMgot (c : BitVec 1) (p : BitVec 2) (a : BitVec 5) (s : State) : Out := gangIssue (.mgot c p a) .mxJoin s

/-! The join (R172, R173). -/

/-- ACC, P and A of an MGO or MGOT, and whether it is MGOT. -/
def mxFields : Instr → Nat × Nat × Nat × Bool
  | .mgo c p a => (c.toNat, p.toNat, a.toNat, false)
  | .mgot c p a => (c.toNat, p.toNat, a.toNat, true)
  | _ => (0, 0, 0, false)

/-- The op tag of a member (R172). -/
def State.tagOf (s : State) (m : Joined) : Nat := bits ((s.ctxAt m.ctx).rg (mxFields m.instr).2.2.1) 0 16

/-- The members whose OP, F or op tag differs from core 0's (R172). -/
def State.mxMismatch (s : State) (ms : List Joined) : Nat :=
  match ms.head? with
  | none => 0
  | some m0 =>
    (ms.zipIdx.filter fun p => opF p.1.instr != opF m0.instr || s.tagOf p.1 != s.tagOf m0).foldl (fun acc p => acc + 2 ^ p.2) 0

/-- Check 1 of R173: the format pair. -/
def pairOk (ternary : Bool) (fmt : Word) : Bool :=
  if ternary then fmtA fmt == 5 && fmtB fmt == 4
  else (decide (fmtA fmt ≤ 3) && decide (fmtB fmt ≤ 3)) || (fmtA fmt == 4 && fmtB fmt == 4)

/-- The pair's panel type is I32. -/
def pairInt (fmt : Word) : Bool := fmtB fmt == 4

/-- Bytes of an element of a format code (R167, R173). -/
def codeSize (c : Nat) : Nat := if c ≤ 1 then 2 else 1

/-- Check 3 of R173: the base whose address or stride is misaligned. -/
def Mx.badBase (m : Mx) : Option Word :=
  let sa := codeSize (fmtA m.fmt)
  let sb := codeSize (fmtB m.fmt)
  if m.abase.toNat % sa ≠ 0 || m.astride.toNat % sa ≠ 0 then some m.abase
  else if m.bbase.toNat % sb ≠ 0 || m.bstride.toNat % sb ≠ 0 then some m.bbase
  else none

/-- MX_JOIN (R172): the eight members' groups join, are checked, and the operation is accepted. -/
def execMxJoin (s : State) : Out :=
  let site := s.ev.x
  let ms := s.joined site
  match ms with
  | [] => .next s
  | m0 :: _ =>
    let m := s.mx site
    let c0 := s.ctxAt m0.ctx
    let f := mxFields m0.instr
    if s.mxMismatch ms ≠ 0 then .next (s.gangTrap ms (s.mxMismatch ms))
    else if s.panelBusy site || s.tilePending ms then .next (s.post 1 .mxJoin { x := site })
    else if m.region ≠ c0.region then
      .next ((s.post 0 .engineRegionZero { x := site, y := c0.region.toNat, z := c0.ltile }).post 1 .mxJoin { x := site })
    else if 4 ≤ m.qlen then .next s
    else if !pairOk f.2.2.2 m.fmt || 2 ^ 20 < m.k.toNat then
      .next (ms.foldl (fun s q => s.enterTrapAt q.ctx cILLEGAL q.grp.wpc q.grp.pc0 false false none) s)
    else match m.badBase with
      | some b => .next (ms.foldl (fun s q => s.enterTrapAt q.ctx cALIGN b q.grp.pc0 false false none) s)
      | none =>
        let o : MxOp :=
          { num := m.next, kind := if f.2.2.2 then .mgot else .mgo, panel := f.2.1, acc := f.1 = 1, abase := m.abase, astride := m.astride,
            bbase := m.bbase, bstride := m.bstride, k := m.k.toNat, fmt := m.fmt, ctx := m0.ctx, region := c0.region,
            ltile := c0.ltile, core := 0, owner := s.ownerOf m0.ctx }
        let s := s.setMx site (Mx.show { m with ops := m.ops ++ [o], next := m.next + 1 } o)
        .next ((ms.foldl (fun s q => s.endMember q done) s).kickMx site)

/-! Starting operations (R168). -/

/-- The drain port serves MDRAIN and MZERO; the arrays MGO and MGOT. -/
def sameUnit (a b : MxKind) : Bool :=
  match a, b with
  | .mgo, .mgo => true
  | .mgot, .mgot => true
  | .mdrain, .mdrain | .mdrain, .mzero | .mzero, .mdrain | .mzero, .mzero => true
  | _, _ => false

/-- The first queued operation, if it can start: every earlier one has started, its unit is free, and no earlier one is on its panel. -/
def startable : List MxOp → List MxOp → Option MxOp
  | _, [] => none
  | before, o :: r =>
    if o.st == .queued then
      (if o.halted || before.any (fun b => b.panel == o.panel || sameUnit b.kind o.kind) then none else some o)
    else startable (before ++ [o]) r

/-- The cycles charged at an operation's start (R175, R177, R178). -/
def startCycles : MxKind → Nat
  | .mzero => 2
  | .mdrain => 64
  | _ => 12

def State.mxCycles (s : State) (site : Nat) (o : MxOp) (n : Nat) : State :=
  let t := s.tileAt site
  (s.setTileAt site { t with mxCyc := t.mxCyc + BitVec.ofNat 64 n }).chargeEngine site o.region o.ltile n

/-- The event that carries an operation on. -/
def MxOp.event (o : MxOp) : Instr :=
  match o.kind with
  | .mzero => .mzeroStart
  | .mdrain => .mdrainStart
  | _ => .mxGroupCommit

/-- MX_OP_START (R168): the next queued operation starts once it can. A join that waits for room is made again. -/
def execMxOpStart (s : State) : Out :=
  let site := s.ev.x
  match startable [] (s.mx site).ops with
  | none => .next s
  | some o =>
    let s := (s.setOp site { o with st := .running }).mxCycles site o (startCycles o.kind)
    let s := (s.post 0 o.event { x := site, y := o.num }).kickMx site
    .next (if (s.joined site).isEmpty then s else s.post 0 .mxJoin { x := site })

/-! Errors (R181, R182). -/

/-- An operation pauses after its last committed group. -/
def State.pauseOp (s : State) (site : Nat) (o : MxOp) : State :=
  (s.setMx site ((s.mx site).show o)).setOp site { o with st := .paused, pausedAt := s.time }

/-- An engine error of an operation: PAGE pauses it, any other abandons it. -/
def State.mxError (s : State) (site : Nat) (o : MxOp) (cause : BitVec 8) (val : Word) : State :=
  let s := s.setMx site { s.mx site with err := cause }
  let w := s.ownerNow o.ctx o.owner
  let s := if cause = cPAGE && w ≠ .gone then s.pauseOp site o
    else (s.dropOp site o.num).kickMx site
  s.raiseOn w { cause := cause, val := val, work := some { unit := 0, num := o.num, site := site } }

/-! The arrays (R100, R167, R174, R180). -/

def addrA (o : MxOp) (m k : Nat) : Word :=
  o.abase + BitVec.ofNat 64 m * o.astride + BitVec.ofNat 64 (if fmtA o.fmt = 5 then k / 4 else k * codeSize (fmtA o.fmt))
def addrB (o : MxOp) (k n : Nat) : Word :=
  o.bbase + BitVec.ofNat 64 k * o.bstride + BitVec.ofNat 64 (n * codeSize (fmtB o.fmt))

/-- The k indices of group `g`. -/
def groupKs (o : MxOp) (g : Nat) : List Nat := (rangeFrom (4 * g) 4).filter fun k => decide (k < o.k)

/-- An operand of a format code as a number. -/
def codeNum (c x : Nat) : FNum :=
  match c with
  | 0 => F16.decode x
  | 1 => BF16.decode x
  | 2 => F8W.decode x
  | _ => F8N.decode x

/-- An integer operand. -/
def codeInt (c k x : Nat) : Int := if c = 5 then sm2Decode (x / 4 ^ (k % 4)) else sint 8 x

/-- C + p0 + … + p3 in F32 with one rounding (R100). -/
def stepF (c : BitVec 32) (ps : List (FNum × BitVec 6)) : BitVec 32 × BitVec 6 :=
  let xs := F32.decode c.toNat :: ps.map (·.1)
  let fl := ps.foldl (fun acc p => acc ||| p.2) (snanFlag [F32.decode c.toNat])
  let pos := xs.any fun x => x == .inf false
  let neg := xs.any fun x => x == .inf true
  if xs.any FNum.isNan then (BitVec.ofNat 32 F32.cnan, fl)
  else if pos && neg then (BitVec.ofNat 32 F32.cnan, fl ||| flNV)
  else if pos || neg then (BitVec.ofNat 32 (F32.infBits neg), fl)
  else
    let e := xs.foldl (fun acc x => match x with
      | .fin _ m e => if m = 0 then acc else min acc e
      | _ => acc) (10000 : Int)
    let sum := xs.foldl (fun acc x => match x with
      | .fin n m x => if m = 0 then acc else let v : Int := (m * 2 ^ (x - e).toNat : Nat); acc + (if n then -v else v)
      | _ => acc) (0 : Int)
    if sum = 0 then
      (BitVec.ofNat 32 (F32.signBit (xs.all fun x => x.isZero && x.isNeg)), fl)
    else
      let r := F32.ofArith 0 false (.fin (decide (sum < 0)) sum.natAbs e)
      (BitVec.ofNat 32 r.1, fl ||| r.2)

/-- The I32 sum, clamped (R100). -/
def stepI (c : BitVec 32) (ps : List Int) : BitVec 32 × BitVec 6 :=
  let r := clampS 32 (ps.foldl (· + ·) c.toInt)
  (BitVec.ofInt 32 r.1, if r.2 then flSAT else 0)

/-- C before the next group of the operation: the panel, or zero before the first that an operation with ACC 0 commits (R174). -/
def Mx.before (m : Mx) (o : MxOp) (r c : Nat) : BitVec 32 := if o.acc || o.begun then m.elem o.panel r c else 0

/-- The panel after a group, from the operand values of A (16 rows by the group's k) and of B (the group's k by 16). -/
def Mx.group (m : Mx) (o : MxOp) (ks : List Nat) (av bv : List Nat) : List (BitVec 32 × BitVec 6) :=
  let n := ks.length
  (List.range 256).map fun e =>
    let r := e / 16
    let c := e % 16
    let pairs := ks.zipIdx.map fun q => (q.1, av.getD (r * n + q.2) 0, bv.getD (q.2 * 16 + c) 0)
    if pairInt o.fmt then
      stepI (m.before o r c) (pairs.map fun q => codeInt (fmtA o.fmt) q.1 q.2.1 * codeInt (fmtB o.fmt) q.1 q.2.2)
    else
      stepF (m.before o r c) ((pairs.map fun q => FNum.mul (codeNum (fmtA o.fmt) q.2.1) (codeNum (fmtB o.fmt) q.2.2)) ++
        List.replicate (4 - n) (.fin false 0 0, 0))

/-- Write a whole panel (R169). -/
def Mx.putPanel (m : Mx) (p : Nat) (xs : List (BitVec 32)) : Mx :=
  { m with acc := xs.zipIdx.foldl (fun t q => if q.1 = 0 then tdel t (256 * p + q.2) else tput t (256 * p + q.2) q.1) m.acc }

/-- The holders whose buffers the matrix engine reads (R180). -/
def mxHolders : List Nat := [0, 1, 2, 3, 4, 5, 6, 7, 9]

/-- Read a group's operands: A's then B's. -/
def State.mxFetch (s : State) (site : Nat) (o : MxOp) (ks : List Nat) : State × Fetched × Fetched :=
  let w := engWho site o.region o.ltile mxHolders o.ctx 1
  let a := s.engFetch w (codeSize (fmtA o.fmt)) [2] ((List.range 16).flatMap fun m => ks.map fun k => addrA o m k)
  let b := a.1.engFetch w (codeSize (fmtB o.fmt)) [2] (ks.flatMap fun k => (List.range 16).map fun n => addrB o k n)
  (b.1, a.2, b.2)

/-- G, the number of k-groups (R174). -/
def MxOp.groups (o : MxOp) : Nat := (o.k + 3) / 4

/-- The cycles of group `g` (R175). -/
def MxOp.groupCycles (o : MxOp) (g : Nat) : Nat :=
  if o.kind == .mgot then (if g % 2 = 0 then 1 else 0)
  else if fmtA o.fmt ≤ 1 || fmtB o.fmt ≤ 1 then 4 else 2

/-- The operation is complete: TYPE, PBUSY (R174). -/
def State.mxComplete (s : State) (site : Nat) (o : MxOp) : State :=
  let m := s.mx site
  let b := BitVec.ofNat 4 (2 ^ o.panel)
  let s := s.setMx site { m with typ := if pairInt o.fmt then m.typ ||| b else m.typ &&& ~~~ b }
  (s.dropOp site o.num).kickMx site

/-- An operation waits for translation, buffers or a home, and looks again: it pauses while the home moves (R186), and is charged else
(R184). -/
def State.opWaits (s : State) (site : Nat) (o : MxOp) (again : Instr) (moving : Bool) : State :=
  let s := if !moving then (s.setOp site { o with homeWait := false }).mxCycles site o 1
    else if o.homeWait then s
    else (s.setMx site ((s.mx site).show o)).setOp site { o with homeWait := true, pausedAt := s.time }
  s.post 1 again { x := site, y := o.num }

/-- An operand of a group lies in a home that is moving. -/
def State.operandMoves (s : State) (o : MxOp) (ks : List Nat) : Bool :=
  (List.range 16).any fun i => ks.any fun k => s.homeMoving o.region (addrA o i k) || s.homeMoving o.region (addrB o k i)

/-- Read and compute the next group of an operation; `k` uses the panel after it. -/
def withGroup (s : State) (site : Nat) (o : MxOp) (again : Instr) (k : State → List (BitVec 32 × BitVec 6) → State) : State :=
  let ks := groupKs o o.row
  match s.mxFetch site o ks with
  | (s, a, b) =>
    match worse a b with
    | .err c v => s.mxError site o c v
    | .wait => s.opWaits site o again (s.operandMoves o ks)
    | .vals _ =>
      match a, b with
      | .vals av, .vals bv => k s ((s.mx site).group o ks av bv)
      | _, _ => s

/-- The work of an operation may go on. -/
def MxOp.goes (o : MxOp) : Bool := o.st == .running && !o.halted

/-- MX_OPERANDS_CONSUMED (R183): the last group's operands are read, and PENDING clears. Its commit follows. -/
def execMxOperandsConsumed (s : State) : Out :=
  let site := s.ev.x
  match (s.op site s.ev.y).filter MxOp.goes with
  | none => .next s
  | some o =>
    if o.groups ≤ o.row then
      .next ((s.setOp site { o with consumed := true, homeWait := false }).post 0 .mxGroupCommit { x := site, y := o.num })
    else
      .next (withGroup s site o .mxOperandsConsumed fun s xs =>
        (s.setOp site { o with consumed := true, homeWait := false, final := xs.map (·.1), flags := flagsOfSteps xs }).post 0 .mxGroupCommit { x := site, y := o.num })
where
  /-- The flags of the 256 steps. -/
  flagsOfSteps (xs : List (BitVec 32 × BitVec 6)) : BitVec 6 := xs.foldl (fun acc p => acc ||| p.2) 0

/-- Commit one group: the panel, the flags, ROW (R174). -/
def State.mxCommit (s : State) (site : Nat) (o : MxOp) (xs : List (BitVec 32)) (fl : BitVec 6) : State :=
  let m := (s.mx site).putPanel o.panel xs
  let o' := { o with row := o.row + 1, begun := true, homeWait := false }
  let s := (s.setMx site (Mx.show { m with flags := m.flags ||| fl } o')).setOp site o'
  s.mxCycles site o (o.groupCycles o.row)

/-- MX_GROUP_COMMIT (R174): one k-group goes to all 256 elements of the panel; after the last the operation is complete. -/
def execMxGroupCommit (s : State) : Out :=
  let site := s.ev.x
  match (s.op site s.ev.y).filter MxOp.goes with
  | none => .next s
  | some o =>
    if o.groups = 0 || (o.consumed && o.groups ≤ o.row) then
      let m := s.mx site
      let s := if o.groups = 0 then
          s.setMx site (m.putPanel o.panel ((List.range 256).map fun e => m.before o (e / 16) (e % 16))) else s
      .next (s.mxComplete site o)
    else if o.consumed then
      let s := s.mxCommit site o o.final o.flags
      .next (s.mxComplete site { o with row := o.row + 1 })
    else if o.row + 1 < o.groups then
      .next (withGroup s site o .mxGroupCommit fun s xs =>
        (s.mxCommit site o (xs.map (·.1)) (xs.foldl (fun acc p => acc ||| p.2) 0)).post 1
          .mxGroupCommit { x := site, y := o.num })
    else .next (s.post 0 .mxOperandsConsumed { x := site, y := o.num })

/-- MZERO_START (R177): +0 to rows 2i and 2i+1 of the panel. -/
def execMzeroStart (s : State) : Out :=
  let site := s.ev.x
  match (s.op site s.ev.y).filter MxOp.goes with
  | none => .next s
  | some o =>
    let m := s.mx site
    let acc := (List.range 32).foldl (fun t j => tdel t (256 * o.panel + 32 * o.core + j)) m.acc
    .next (((s.setMx site { m with acc := acc }).dropOp site o.num).kickMx site)

/-! Drains (R178, R179). -/

/-- An element of a panel encoded for window `win` from panel type I32 or F32 (R178). -/
def drainEncode (win : Nat) (int : Bool) (mode : Nat) (sat : Bool) (x : Nat) : Nat × BitVec 6 :=
  let toInt (n : Nat) (lo hi : Int) : Nat × BitVec 6 :=
    let r := (F32.decode x).toRange mode sat lo hi
    ((BitVec.ofInt n r.1).toNat, r.2)
  if win = 0 then (x, 0)
  else if int then
    match win with
    | 1 => F16.ofNum mode sat (numOfInt (sint 32 x))
    | 2 => BF16.ofNum mode sat (numOfInt (sint 32 x))
    | 3 => F8W.ofNum mode sat (numOfInt (sint 32 x))
    | 4 => F8N.ofNum mode sat (numOfInt (sint 32 x))
    | _ => winEncode win mode sat x
  else
    match win with
    | 5 => smOfNum 8 mode (F32.decode x)
    | 6 => smOfNum 4 mode (F32.decode x)
    | 7 => smOfNum 2 mode (F32.decode x)
    | 8 => toInt 8 (-128) 127
    | 9 => toInt 8 0 255
    | 10 => toInt 16 (-32768) 32767
    | _ => winEncode win mode sat x

/-- Write the elements from number `e` on, until the last or an error. -/
def State.drainFrom (s : State) (site : Nat) (o : MxOp) (w : Who) (int : Bool) : Nat → Nat → State × Option (BitVec 8 × Word) × Bool
  | 0, _ => (s, none, false)
  | n + 1, e =>
    let ea := o.dest + BitVec.ofNat 64 (4 * e)
    let m := s.mx site
    let x := (m.elem o.panel (e / 16) (e % 16)).toNat
    let win := bits o.dest 24 4
    match s.resolve w ea (.scalar 4) .write with
    | (s, .ok l) =>
      let r := drainEncode win int (fmtDrm o.fmt) (fmtDsat o.fmt) x
      let s := s.setMx site { m with flags := m.flags ||| r.2 }
      (s.engWrite o.region o.ctx 1 ea l 4 r.1).drainFrom site o w int n (e + 1)
    | (s, .hold) => (s, none, true)
    | (s, .bad c v) => (s.logBad w ea (.scalar 4) c, some (c, v), false)
    | (s, .err c v) => (s.logRefused w ea 4 c, some (c, v), false)

/-- The maker of a drain's writes: their destination may lie in another logical tile (R178). -/
def drainWho (site : Nat) (o : MxOp) : Who := { engWho site o.region o.ltile mxHolders o.ctx 1 with far := true }

/-- MDRAIN_START (R178): the panel is copied to its destination; its last write completes the drain. -/
def execMdrainStart (s : State) : Out :=
  let site := s.ev.x
  match (s.op site s.ev.y).filter MxOp.goes with
  | none => .next s
  | some o =>
    let w := drainWho site o
    match s.drainFrom site o w (bit (s.mx site).typ o.panel) 256 0 with
    | (s, none, false) => .next (s.post 0 .drainComplete { x := site, y := o.num })
    | (s, none, true) => .next (s.opWaits site o .mdrainStart (s.homeMoving o.region o.dest))
    | (s, some (c, v), _) => .next (s.mxError site o c v)

/-- DRAIN_COMPLETE (R179): every write is performed; the wake-up is sent, and the operation ends. -/
def execDrainComplete (s : State) : Out :=
  let site := s.ev.x
  match s.op site s.ev.y with
  | none => .next s
  | some o =>
    let l := bits o.dest 32 14
    let s := if o.wake then s.wakeUp (s.rmEntry o.region l).site (bits o.dest 29 3) o.ch o.region l o.ctx o.stride o.dest 1 else s
    .next ((s.dropOp site o.num).kickMx site)

/-! Regions and gangs (R67, R68, R185). -/

/-- An operation is of the gang of a region and logical tile: the gang's tasks issued it, as no other task of that tile did. -/
def State.ofGang (s : State) (site : Nat) (region : Word) (ltile : Nat) (o : MxOp) : Bool :=
  o.region == region && o.ltile == ltile && !(rangeFrom (8 * site) 8).any fun k => (s.coreAt k).rq.any fun e => !e.gang && o.owner == some e.task

/-- What goes to a gang's save area (R67, R185): the engine's state with the gang's operations, MX.ROW showing one that pauses now (R449);
zeros where the state is another region's, which no task of the gang may come to read (R68). -/
def Mx.saved (m : Mx) (region : Word) (ops : List MxOp) : Mx :=
  if m.region = region then
    (ops.filter fun o => o.st == .running && !o.isPaused).foldl Mx.show { m with ops := ops }
  else { typ := m.typ, next := m.next, region := region }

/-- GANG_PANEL_SAVE (R67, R185): operations pause after their group, started drains complete first, and the panels, registers and
queue go to the gang's save area, at 72 engine cycles. Event operands: y and z name the gang's region and logical tile, w its
number. -/
def execGangPanelSave (s : State) : Out :=
  let site := s.ev.x
  let region := BitVec.ofNat 64 s.ev.y
  let t := s.tileAt site
  let mine := t.mx.ops.filter (s.ofGang site region s.ev.z)
  if mine.any fun o => o.kind == .mdrain && o.st == .running then .next (s.post 1 .gangPanelSave s.ev)
  else
    let saves := t.gangSaves.filter fun g => g.1 != s.ev.w
    let s' := s.setTileAt site { t with
      gangSaves := saves ++ [(s.ev.w, t.mx.saved region mine)]
      mx := { t.mx with ops := t.mx.ops.filter fun o => !s.ofGang site region s.ev.z o } }
    .next ((s'.chargeEngine site region s.ev.z 72).kickMx site)

/-- GANG_PANEL_RESTORE (R67, R185): the panels, registers and queue of a resumed gang come back, and its operations continue from
their own ROW; a save of the gang that is still to come goes first, and so do the operations of other tasks (R68). -/
def execGangPanelRestore (s : State) : Out :=
  let site := s.ev.x
  let region := BitVec.ofNat 64 s.ev.y
  let t := s.tileAt site
  if s.saveDue site s.ev.w || !t.mx.ops.isEmpty then .next (s.post 1 .gangPanelRestore s.ev) else
  match t.gangSaves.find? fun g => g.1 == s.ev.w with
  | none => .next s
  | some g =>
    let m := g.2
    let ops := m.ops.map fun o =>
      match s.member site o.core with
      | some c => { o with ctx := c, owner := s.ownerOf c, halted := s.domainStopped (colOfSite site) o.region }
      | none => { o with halted := s.domainStopped (colOfSite site) o.region }
    let s' := s.setTileAt site { t with
      gangSaves := t.gangSaves.filter fun g => g.1 != s.ev.w
      mx := { m with region := region, ops := ops, next := Nat.max m.next t.mx.next } }
    let s' := ops.foldl (fun s o => if o.goes then s.post 0 o.event { x := site, y := o.num } else s) s'
    .next ((s'.chargeEngine site region s.ev.z 72).kickMx site)

/-- ENGINE_REGION_ZERO (R68): once no work of another region is queued or running, every item of the group is zeroed and the new
region recorded, at 16 engine cycles. Event operand z is the logical tile charged. -/
def execEngineRegionZero (s : State) : Out :=
  let site := s.ev.x
  let region := BitVec.ofNat 64 s.ev.y
  let t := s.tileAt site
  if s.ev.flag then
    if t.cp.region = region then .next s
    else if t.cp.jobs.any fun j => !j.ended then .next (s.post 1 .engineRegionZero s.ev)
    else
      .next ((s.setTileAt site { t with cp := { done := t.cp.done, next := t.cp.next, jobs := t.cp.jobs, region := region } }).chargeEngine
        site region s.ev.z 16)
  else
    if t.mx.region = region then .next s
    else if !t.mx.ops.isEmpty then .next (s.post 1 .engineRegionZero s.ev)
    else .next ((s.setTileAt site { t with mx := { typ := t.mx.typ, next := t.mx.next, region := region } }).chargeEngine site region s.ev.z 16)

end Sys2Proof.Machine
end

