-- ==== Sys2Proof/Machine/System.lean ====
section
/-! DEFINITION. System instructions (R121 to R124) and the system registers (R70 to R83). -/

namespace Sys2Proof.Machine

/-- R121: SYSCALL, TRAPVAL the F field. -/
def execSys (s : State) : Out := trap s cSYSCALL 0
/-- R121: BREAK, TRAPVAL the F field. -/
def execBrk (s : State) : Out := trap s cBREAK 2

/-- The work that a trap paused goes on (R182, R224, R284); the whistle tree's and a move's pauses stay. -/
def State.resumeWork (s : State) (w : Option WorkId) : State :=
  match w with
  | none => s
  | some w =>
    match w.unit with
    | 0 => match (s.op w.site w.num).filter fun o => o.st == .paused with
      | some o => (s.setOp w.site { o with st := .running }).post 0 o.event { x := w.site, y := o.num }
      | none => s
    | 1 => match (s.job w.site w.num).filter fun j => j.st == .paused with
      | some j =>
        if j.ended then (s.setJob w.site { j with st := .running }).post 0 .copyJobComplete { x := w.site, y := j.ticket }
        else (s.setJob w.site { j with st := .running, cause := 0 }).post 0 .copyJobStart { x := w.site }
      | none => s
    | _ =>
      let t := s.tileAt w.site
      match t.tw.find? fun j => j.ticket == w.num && j.st == .paused with
      | some j =>
        (s.setTileAt w.site { t with tw := modFirst (fun x => x.ticket == j.ticket) (fun x => { x with st := .running, cause := if j.ended then j.cause else 0 }) t.tw }).post 0
          (if j.pipe = 0 || j.ended then .tileWalkJobComplete else if j.loader then .loaderEmitRecord else .storerTakeRecord)
          { x := w.site, y := j.pipe, z := j.ticket }
      | none => s

/-- R122; it waits for a BADD of its context (R402). -/
def execTrapret (s : State) : Out :=
  if s.ctx.pend.any fun p => match p.dest with
    | .badd _ _ => true
    | _ => false
  then park s .trapret
  else s.trapReturn fun s w => .next (s.resumeWork w)

/-- R124. -/
def execIfence (s : State) : Out := done (s.reloadGuards s.coreNo (s.ctxRegions s.coreNo))

/-! System registers. -/

/-- Levels at which a system register is read and written (R70): 0 U, 1 S, 2 M; none for "—". -/
def srLevels (n : Nat) : Option (Nat × Option Nat) :=
  match n with
  | 0 => some (0, some 2)
  | 1 | 2 | 3 | 4 => some (1, some 1)
  | 5 | 6 => some (1, none)
  | 7 | 8 | 9 | 10 => some (0, some 0)
  | 11 => some (0, none)
  | 12 | 13 => some (0, some 1)
  | 14 => some (0, some 2)
  | 15 => some (0, none)
  | 16 => some (0, some 1)
  | 17 | 18 | 19 | 20 => some (2, some 2)
  | 32 => some (1, none)
  | 33 | 34 => some (1, some 1)
  | 35 => some (0, some 2)
  | 36 => some (1, some 2)
  | 64 => some (0, none)
  | _ => none

/-- RQSTAT (R83). -/
def State.rqstat (s : State) (k : Nat) : Word :=
  let c := s.coreAt k
  mkWord [(24, c.lastRej.toNat), (16, ((rangeFrom (4 * k) 4).filter fun i => (s.ctxAt i).st == .free).length), (8, c.ready.length), (0, c.qlen)]

/-- The value of a system register (R71 to R83, R86). -/
def State.srGet (s : State) (n : Nat) : Word :=
  let c := s.ctx
  let k := s.core
  match n with
  | 0 => c.ctxstat
  | 1 => c.trap.cause.setWidth 64
  | 2 => c.trap.pc
  | 3 => c.trap.val
  | 4 => c.trap.stat
  | 5 => c.dirty.setWidth 64
  | 6 => BitVec.ofNat 64 (bits c.dirty 64 8)
  | 7 => c.rmode
  | 8 => c.fpflags.setWidth 64
  | 9 => c.vflags0
  | 10 => c.vflags1
  | 11 => BitVec.ofNat 64 c.vgrant
  | 12 => c.budgetRem
  | 13 => c.deadline
  | 14 => c.region
  | 15 => c.taskinfo
  | 16 => c.rep.word
  | 17 => c.ntrap.cause.setWidth 64
  | 18 => c.ntrap.pc
  | 19 => c.ntrap.val
  | 20 => c.ntrap.stat
  | 32 => s.rqstat s.coreNo
  | 33 => mkWord [(16, k.margin.toNat), (0, b2n k.hold)]
  | 34 => mkWord [(24, k.chSize), (7, k.chBase)]
  | 35 => (s.cpt s.coreNo).setWidth 64
  | 36 => k.svec
  | _ => BitVec.ofNat 64 s.time

/-- SIZE of CHBASE as it is stored (R83). -/
def chSizeOf (size base : Nat) : Nat :=
  let n := if size = 0 then 0 else Nat.min 32 (Nat.max 3 size)
  if base * 128 + n * 1024 ≤ 65536 then n
  else
    let q := (65536 - base * 128) / 1024
    if q < 3 then 0 else q

/-- Write the entry of the running task, if it has one. -/
def State.modMyEntry (s : State) (f : RqEntry → RqEntry) : State :=
  match s.ctx.slot with
  | none => s
  | some sl => s.modEntry s.coreNo sl f

/-- CTXSTAT written at M (R72): every field but STATE; 3 is stored as 2 in CLASS and PRIV. -/
def State.putCtxstat (s : State) (x : Word) : State :=
  let two (n : Nat) : BitVec 2 := if n = 3 then 2 else BitVec.ofNat 2 n
  let c := s.ctx
  (s.setCtx { c with cls := two (bits x 6 2), priv := two (bits x 4 2), gang := bit x 3, inTrap := bit x 2 }).modMyEntry fun e =>
    { e with cls := two (bits x 6 2) }

/-- DEADLINE written (R80, R283): all ones demotes a deadline task. -/
def State.putDeadline (s : State) (x : Word) : State :=
  if x = BitVec.allOnes 64 && s.ctx.cls = 1 then s.demote s.cur
  else (s.setCtx { s.ctx with deadline := x }).modMyEntry fun e => { e with deadline := x }

/-- Write a system register, field by field (R6, R71 to R83). -/
def State.srPut (s : State) (n : Nat) (x : Word) : State :=
  let c := s.ctx
  let k := s.core
  match n with
  | 0 => s.putCtxstat x
  | 1 => s.setCtx { c with trap := { c.trap with cause := x.setWidth 8 } }
  | 2 => s.setCtx { c with trap := { c.trap with pc := x } }
  | 3 => s.setCtx { c with trap := { c.trap with val := x } }
  | 4 => s.setCtx { c with trap := trapRegsOf (c.trap.cause.setWidth 64) c.trap.pc c.trap.val x }
  | 7 => s.setCtx ((c.setRmode x).mark 70)
  | 8 => s.setCtx ({ c with fpflags := x.setWidth 6 }.mark 70)
  | 9 => s.setCtx ({ c with vflags0 := x &&& vflagMask }.mark 70)
  | 10 => s.setCtx ({ c with vflags1 := x &&& vflagMask }.mark 70)
  | 12 => { (s.setCtx { c with budgetRem := x }).modMyEntry (fun e => { e with rem := remOf x }) with budgetWritten := true }
  | 13 => s.putDeadline x
  | 14 => s.setCtx { c with region := x }
  | 16 => s.setCtx ({ c with rep := repOf x }.mark 71)
  | 17 => s.setCtx { c with ntrap := { c.ntrap with cause := x.setWidth 8 } }
  | 18 => s.setCtx { c with ntrap := { c.ntrap with pc := x } }
  | 19 => s.setCtx { c with ntrap := { c.ntrap with val := x } }
  | 20 => s.setCtx { c with ntrap := trapRegsOf (c.ntrap.cause.setWidth 64) c.ntrap.pc c.ntrap.val x }
  | 33 => s.setCore { k with margin := BitVec.ofNat 32 (bits x 16 32), hold := bit x 0 }
  | 34 => s.setCore { k with chSize := chSizeOf (bits x 24 8) (bits x 7 9), chBase := bits x 7 9 }
  | 35 => s.setCore { k with cycPerTick := some (x.setWidth 32) }
  | 36 => s.setCore { k with svec := x &&& ~~~ 3 }
  | _ => s

/-- The number of a system register (R58). -/
def srNum (b a : BitVec 5) : Nat := 32 * a.toNat + b.toNat

/-- R123, R70: the value at the issue cycle. -/
def execSrd (b a d : BitVec 5) (s : State) : Out :=
  let n := srNum b a
  match srLevels n with
  | none => trap s cILLEGAL (BitVec.ofNat 64 n)
  | some (r, _) => if s.ctx.priv.toNat < r then trap s cPRIVILEGE (BitVec.ofNat 64 n) else writeG s d (s.srGet n)

/-- The end of an SWR's group: the written value governs the later groups, so whether the group stands in a REP body is what it was
before the write (R82, R123). -/
def endSwr (s t : State) : Out := if s.ctx.rep.active && !s.ctx.inTrap then done t else jumpTo t s.grp.npc

/-- R123, R70. -/
def execSwr (b a d : BitVec 5) (s : State) : Out :=
  let n := srNum b a
  match srLevels n with
  | none => trap s cILLEGAL (BitVec.ofNat 64 n)
  | some (_, none) => trap s cILLEGAL (BitVec.ofNat 64 n)
  | some (_, some w) => if s.ctx.priv.toNat < w then trap s cPRIVILEGE (BitVec.ofNat 64 n) else endSwr s (s.srPut n (s.rg d))

end Sys2Proof.Machine
end

