-- ==== Sys2Proof/Machine/EngineStop.lean ====
section
/-! DEFINITION. Engine work that stops and goes on: the engine budget (R184, R284), and the pauses in place of the whistle tree and of
moves (R186, R415, R416). -/

namespace Sys2Proof.Machine

/-- ENGINE_OVERRUN of a work (R73: 0 matrix engine, 1 copy unit or tile walk), raised on its issuer. -/
def State.engineOverrun (s : State) (c : Nat) (owner : Option Nat) (w : WorkId) : State :=
  s.raiseOn (s.ownerNow c owner) { cause := cENGINE_OVERRUN, val := if w.unit = 0 then 0 else 1, work := some w }

/-- The work of a region on a site whose issuer's account has run dry pauses, each with a trap of its own (R182, R284). A work whose
issuer has ended is abandoned (R181, R224). -/
def State.pauseMx (s : State) (site : Nat) (o : MxOp) : State :=
  let s := s.setMx site { s.mx site with err := cENGINE_OVERRUN }
  if s.ownerNow o.ctx o.owner = .gone then (s.dropOp site o.num).kickMx site
  else (s.pauseOp site o).engineOverrun o.ctx o.owner { unit := 0, num := o.num, site := site }

def State.pauseCp (s : State) (site : Nat) (j : CpJob) : State :=
  if s.ownerNow j.ctx j.owner = .gone then
    ((s.setCp site { s.cp site with err := cENGINE_OVERRUN }).setJob site { j with ended := true, status := 2, cause := cENGINE_OVERRUN }).post 0
      .copyJobComplete { x := site, y := j.ticket }
  else
    let s := (s.setCp site { s.cp site with err := cENGINE_OVERRUN }).setJob site { j with st := .paused, cause := cENGINE_OVERRUN }
    s.engineOverrun j.ctx j.owner { unit := 1, num := j.ticket, site := site }

def State.pauseTw (s : State) (site : Nat) (j : TwJob) : State :=
  if s.ownerNow j.ctx j.owner = .gone then s.endTw site j 2 cENGINE_OVERRUN
  else (s.setTw site { j with st := .paused, cause := cENGINE_OVERRUN }).engineOverrun j.ctx j.owner { unit := 2, num := j.ticket, site := site }

/-- ENGINE_BUDGET_EXHAUSTED (R184, R284): ENGLEFT of an account is 0. -/
def execEngineBudgetExhausted (s : State) : Out :=
  let site := s.ev.x
  let region := BitVec.ofNat 64 s.ev.y
  match acctOf (s.tileAt site).accounts region s.ev.z with
  | none => .next s
  | some a =>
    if a.engLeft ≠ 0 then .next s
    else
      let ops := (s.mx site).ops.filter fun o => o.region == region && o.st == .running
      let s := ops.foldl (fun s o => s.pauseMx site o) s
      let js := (s.cp site).jobs.filter fun j => j.region == region && j.st == .running && !j.ended
      let s := js.foldl (fun s j => s.pauseCp site j) s
      let ws := s.tiles.flatMap fun t => (t.2.tw.filter fun j =>
        j.region == region && siteOfCtx j.ctx == site && j.st == .running && !j.ended).map fun j => (t.1, j)
      .next (ws.foldl (fun s p => s.pauseTw p.1 p.2) s)

/-- Writes of a region's tasks are still to be performed: of accesses under way, or of engine work that they started (R329). -/
def State.writesLeft (s : State) (region : Word) : Bool :=
  (s.net.any fun p => p.unacked && p.region == region) ||
  s.tiles.any fun t => (t.2.mx.ops.any fun o => o.region == region) || (t.2.cp.jobs.any fun j => j.region == region) ||
    t.2.tw.any fun j => j.region == region

/-! Pauses in place. -/

/-- A drain of the gang that runs on a tile, which has started: it completes before the gang's panels are saved (R185). -/
def Tile.gangDrain (t : Tile) (o : MxOp) : Bool :=
  o.kind == .mdrain && o.st == .running && t.gangLive.any fun g => g.1 == o.region && g.2.1 == o.ltile

/-- Halt the engine work of the regions that satisfy `p` on a site, without a trap, but for a gang's started drains (R185); MX.ROW shows the
ROW of an operation that pauses (R449). -/
def State.haltWork (s : State) (site : Nat) (p : Word → Bool) : State :=
  let t := s.tileAt site
  let halts (o : MxOp) : Bool := p o.region && !t.gangDrain o
  s.setTileAt site { t with
    mx := (t.mx.ops.filter fun o => halts o && o.st == .running && !o.isPaused).foldl Mx.show
      { t.mx with ops := t.mx.ops.map fun o => if halts o then { o with halted := true, pausedAt := if o.isPaused then o.pausedAt else s.time } else o }
    cp := { t.cp with jobs := t.cp.jobs.map fun j => if p j.region then { j with halted := true } else j }
    tw := t.tw.map fun j => if p j.region then { j with halted := true } else j }

/-- Make the work of a site go on that nothing pauses. -/
def State.driveWork (s : State) (site : Nat) : State :=
  let s := ((s.mx site).ops.filter fun o => o.goes).foldl (fun s o => s.post 0 o.event { x := site, y := o.num }) s
  ((s.kickMx site).kickCp site).kickTw site 0

/-- Halted work of a site goes on. -/
def State.unhaltWork (s : State) (site : Nat) (p : Word → Bool) : State :=
  let t := s.tileAt site
  (s.setTileAt site { t with
    mx := { t.mx with ops := t.mx.ops.map fun o => if p o.region then { o with halted := false } else o }
    cp := { t.cp with jobs := t.cp.jobs.map fun j => if p j.region then { j with halted := false } else j }
    tw := t.tw.map fun j => if p j.region then { j with halted := false } else j }).driveWork site

end Sys2Proof.Machine
end

