-- ==== Sys2Proof/Machine/Float.lean ====
section
/-! DEFINITION. Scalar floating point, OP 0x2C (R125 to R134). -/

namespace Sys2Proof.Machine

/-- The format that T names, and an operand in it (R125). -/
def fmtT (t : BitVec 1) : Fmt := if t = 0 then F32 else F64
def fval (s : State) (t : BitVec 1) (r : BitVec 5) : FNum := (fmtT t).decode ((s.rg r).toNat % 2 ^ (fmtT t).width)

/-- Deliver a floating result: flags, FP trap, gD (R125, R128). -/
def writeF (s : State) (d : BitVec 5) (r : Nat × BitVec 6) : Out :=
  withFlags s r.2 fun s => writeG s d (BitVec.ofNat 64 r.1)

/-- Round an exact result and deliver it (R128). -/
def arithF (s : State) (t : BitVec 1) (d : BitVec 5) (x : FNum × BitVec 6) : Out :=
  let r := (fmtT t).ofArith s.rmode.toNat s.grp.pfx.sat x.1
  writeF s d (r.1, x.2 ||| r.2)

/-- R128: sum. -/
def execFadd (t : BitVec 1) (b a d : BitVec 5) (s : State) : Out := arithF s t d (FNum.add s.rmode.toNat (fval s t a) (fval s t b))
/-- R128: difference. -/
def execFsub (t : BitVec 1) (b a d : BitVec 5) (s : State) : Out := arithF s t d (FNum.sub s.rmode.toNat (fval s t a) (fval s t b))
/-- R128: product. -/
def execFmul (t : BitVec 1) (b a d : BitVec 5) (s : State) : Out := arithF s t d (FNum.mul (fval s t a) (fval s t b))
/-- R128: quotient. -/
def execFdiv (t : BitVec 1) (b a d : BitVec 5) (s : State) : Out := arithF s t d (FNum.div (fval s t a) (fval s t b))
/-- R128: square root. -/
def execFsqrt (t : BitVec 1) (a d : BitVec 5) (s : State) : Out := arithF s t d (FNum.sqrt (fval s t a))
/-- R128: gA × gB + gD with one rounding. -/
def execFma (t : BitVec 1) (b a d : BitVec 5) (s : State) : Out :=
  arithF s t d (FNum.fma s.rmode.toNat (fval s t a) (fval s t b) (fval s t d))

/-- R129: the lesser. -/
def execFmin (t : BitVec 1) (b a d : BitVec 5) (s : State) : Out :=
  writeF s d ((fmtT t).minmax false (s.rg a).toNat (s.rg b).toNat)
/-- R129: the greater. -/
def execFmax (t : BitVec 1) (b a d : BitVec 5) (s : State) : Out :=
  writeF s d ((fmtT t).minmax true (s.rg a).toNat (s.rg b).toNat)
/-- R130: the comparison code. -/
def execFcmp (t : BitVec 1) (b a d : BitVec 5) (s : State) : Out :=
  writeF s d (cmpCode (fval s t a) (fval s t b), snanFlag [fval s t a, fval s t b])

/-- The class bit of R131. -/
def classBit (f : Fmt) (x : FNum) : Nat :=
  match x with
  | .nan sg => if sg then 256 else 512
  | .inf n => if n then 1 else 128
  | .fin n m _ =>
    if m = 0 then (if n then 8 else 16)
    else if m < 2 ^ f.mbits then (if n then 4 else 32)
    else (if n then 2 else 64)

/-- R131. -/
def execFclass (t : BitVec 1) (a d : BitVec 5) (s : State) : Out := writeG s d (BitVec.ofNat 64 (classBit (fmtT t) (fval s t a)))

/-- R132: only the sign bit changes. -/
def execFsgn (t : BitVec 1) (m a d : BitVec 5) (s : State) : Out :=
  let w := (fmtT t).width
  let sa := bit (s.rg a) (w - 1)
  let sd := bit (s.rg d) (w - 1)
  let put (b : Bool) : Out := writeG s d (BitVec.ofNat 64 ((s.rg a).toNat % 2 ^ (w - 1) + (if b then 2 ^ (w - 1) else 0)))
  match m.toNat with
  | 0 => put false
  | 1 => put (!sa)
  | 2 => put sd
  | 3 => put (sa != sd)
  | _ => illegal s

/-- The integer range of codes 1 to 4 and 5 to 8: width and signedness (R133). -/
def cvtInt (k : Nat) : Nat × Bool :=
  match k with
  | 0 => (32, true)
  | 1 => (32, false)
  | 2 => (64, true)
  | _ => (64, false)

/-- The narrow format of codes 9 to 12 and 13 to 16 (R133). -/
def cvtNarrow (k : Nat) : Fmt :=
  match k with
  | 0 => F16
  | 1 => BF16
  | 2 => F8W
  | _ => F8N

/-- R133, R134: the conversions by code. -/
def execFcvt (t : BitVec 1) (c a d : BitVec 5) (s : State) : Out :=
  let f := fmtT t
  let g := if t = 0 then F64 else F32
  let x := (s.rg a).toNat
  let mode := s.rmode.toNat
  let sat := s.grp.pfx.sat
  match c.toNat with
  | 0 => writeF s d (f.ofNum mode sat (g.decode (x % 2 ^ g.width)))
  | 1 | 2 | 3 | 4 =>
    let k := cvtInt (c.toNat - 1)
    let lo : Int := if k.2 then -(2 ^ (k.1 - 1) : Int) else 0
    let hi : Int := if k.2 then (2 ^ (k.1 - 1) : Int) - 1 else (2 ^ k.1 : Int) - 1
    let r := (fval s t a).toRange mode sat lo hi
    withFlags s r.2 fun s => writeG s d (BitVec.ofInt 64 r.1)
  | 5 | 6 | 7 | 8 =>
    let k := cvtInt (c.toNat - 5)
    let v : Int := if k.2 then sint k.1 x else (x % 2 ^ k.1 : Nat)
    writeF s d (f.ofNum mode sat (numOfInt v))
  | 9 | 10 | 11 | 12 => writeF s d ((cvtNarrow (c.toNat - 9)).ofNum mode sat (fval s t a))
  | 13 | 14 | 15 | 16 =>
    let g := cvtNarrow (c.toNat - 13)
    writeF s d (f.ofNum mode sat (g.decode (x % 2 ^ g.width)))
  | _ => illegal s

end Sys2Proof.Machine
end

