-- ==== Sys2Proof/Machine/Move.lean ====
section
/-! DEFINITION. The LEAVING protocol: tasks, contents, routing, storage, commit and grace (R342 to R346), retirement (R429), leases
(R348, R349, R355, R356). -/

namespace Sys2Proof.Machine

/-! Re-posting (R343). -/

/-- What an entry offers when it is posted again: its remaining values. -/
def reOffer (e : RqEntry) (ltile : Nat) : Offer :=
  { entry := e.entry, rem := e.rem.toNat, resv := e.resv, cls := e.cls, region := e.region, ltile := ltile, deadline := e.deadline,
    gang := e.gang, srcRegion := e.region, inbox := e.inbox, again := some { e with info := setField e.info 32 14 ltile } }

/-- The work of a task that has moved is charged, and logged, where the task now is. -/
def State.followTask (s : State) (task k' : Nat) : State :=
  { s with tiles := s.tiles.map fun t => (t.1, { t.2 with
      mx := { t.2.mx with ops := t.2.mx.ops.map fun o => if o.owner == some task then { o with ctx := 4 * k' } else o }
      cp := { t.2.cp with jobs := t.2.cp.jobs.map fun j => if j.owner == some task then { j with ctx := 4 * k' } else j }
      tw := t.2.tw.map fun j => if j.owner == some task then { j with ctx := 4 * k' } else j }) }

/-- Matrix work of a gang that moves is on the new site (R185). -/
def WorkId.atSite (w : WorkId) (site n : Nat) : WorkId := if w.unit = 0 && w.site = site then { w with site := n } else w
def RqEntry.workAt (e : RqEntry) (site n : Nat) : RqEntry :=
  { e with
    held := e.held.map fun h => { h with work := h.work.map fun w => w.atSite site n }
    trapWork := e.trapWork.map fun w => w.atSite site n
    ntrapWork := e.ntrapWork.map fun w => w.atSite site n }

/-- An entry leaves core `k` for core `k'`, where its offer was accepted; its old slot stays lent (R69), and its save area is
copied (R419). -/
def State.moveEntry (s : State) (k : Nat) (e : RqEntry) (k' : Nat) (o : Offer) (gangId : Nat) : State :=
  let c := s.coreAt k
  let s := s.setCoreAt k { c with rq := c.rq.filter fun x => x.slot != e.slot, lent := c.lent ++ [e.slot] }
  let o := { o with again := o.again.map fun a => { a with lentBy := e.lentBy ++ [(k, e.slot)] } }
  let s := if e.started then
      { s with mem := copyMem s.mem (globalPhys e.save) (globalPhys (s.saveAddr k' ((s.slotFor k' e.region o.ltile false).getD 0))) 3072 } else s
  ((s.noteCode k' 0).enqueue k' o gangId).followTask e.task k'

/-- A task gives up its inbox slot: a record there goes on to the successor (R312). -/
def State.leaveSlot (s : State) (k : Nat) (e : RqEntry) : State :=
  match e.inbox with
  | none => s
  | some sl =>
    let s := match (s.coreAt k).inbox.find? fun d => d.slot == sl with
      | some d => s.recordEnds k d false
      | none => s
    s.freeSlot k sl

/-- The account of a leaving logical tile goes to the account array, from where its new site takes it (R280, R343). -/
def State.flushAccount (s : State) (site : Nat) (region : Word) (ltile : Nat) : State :=
  match acctOf (s.tileAt site).accounts region ltile with
  | none => s
  | some a => s.writeBack a

/-- RESV of a task that leaves its logical tile goes back to that tile's account (R281, R343): the one that its new site has taken from the
account array, else the old site's and the array's image of it. -/
def State.returnResv (s : State) (site : Nat) (next : Option Nat) (e : RqEntry) : State :=
  match next.filter fun n => (acctOf (s.tileAt n).accounts e.region e.ltile).isSome with
  | some n => s.giveBack n e
  | none => (s.giveBack site e).flushAccount site e.region e.ltile

/-- A task that every core refuses ends, and its paused operations with it (R182); its record for REPOST_LIST (R341, R343). -/
def State.endRefused (s : State) (k : Nat) (e : RqEntry) : State := ((s.dropEntry k e).abandonPaused e.task).leaveSlot k e

def repostRec (e : RqEntry) (code : Nat) (save : Bool) : List Word :=
  [e.entry, e.arg1, e.arg2, e.deadline, mkWord [(32, e.rem.toNat % 2 ^ 32), (0, code)], if save && e.started then e.save else 0]

/-- Try an entry on the same core number of other logical tiles; the last code. -/
def State.tryTiles (s : State) (k : Nat) (e : RqEntry) : List Nat → Nat → State × Nat
  | [], code => (s, code)
  | l :: r, _ =>
    let k' := 8 * (s.rmEntry e.region l).site + k % 8
    let o := { reOffer e l with inbox := none }
    match s.admitCode k' o o.resv with
    | (s, 0) =>
      let s := (s.returnResv (siteOfCore k) none e).reserveCycles (siteOfCore k') e.region l e.resv
      ((s.leaveSlot k e).moveEntry k e k' o 0, 0)
    | (s, code) => (s.noteCode k' code).tryTiles k e r code

/-- The other ACTIVE COMPUTE logical tiles of a region, in the order of R343. -/
def State.otherTiles (s : State) (region : Word) (l : Nat) : List Nat :=
  let ts := s.activeTiles region
  (ts.filter fun x => l < x) ++ ts.filter fun x => x < l

/-- Post one entry again; none where it was accepted, else its record. -/
def State.repost (s : State) (m : MoveEnt) (k : Nat) (e : RqEntry) : State × Option (List Word) :=
  match m.next with
  | some n =>
    let k' := 8 * n + k % 8
    let o := reOffer e m.ltile
    match s.admitCode k' o o.resv with
    | (s, 0) => (s.moveEntry k e k' o 0, none)
    | (s, code) => (((s.noteCode k' code).returnResv (siteOfCore k) (some n) e).endRefused k e, some (repostRec e code true))
  | none =>
    match s.tryTiles k e (s.otherTiles e.region m.ltile) 6 with
    | (s, 0) => (s, none)
    | (s, code) => ((s.returnResv (siteOfCore k) none e).endRefused k e, some (repostRec e code true))

/-- Post a gang again: only to the new site of its own logical tile. -/
def State.repostGang (s : State) (site : Nat) (m : MoveEnt) (id : Nat) : State × List (List Word) :=
  let es := s.gangEntries site id
  let fail (s : State) (code : Nat) : State × List (List Word) :=
    (es.foldl (fun s p => (s.returnResv site m.next p.2).endRefused p.1 p.2) s, es.map fun p => repostRec p.2 code true)
  match m.next, es.head? with
  | some n, some (_, e0) =>
    let q := s.gangCodes (reOffer e0 m.ltile) (coresOf n)
    match q.2.find? fun p => p.2 != 0 with
    | none =>
      let new := q.1.nextGang
      let s := { q.1 with nextGang := new + 1 }
      let s := es.foldl (fun s p => s.moveEntry p.1 p.2 (8 * n + p.1 % 8) (reOffer (p.2.workAt site n) m.ltile) new) s
      let t := s.tileAt site
      let saves := (t.gangSaves.filter fun q => q.1 == id).map fun q => (new, q.2)
      let s := s.setTileAt site { t with gangSaves := t.gangSaves.filter fun q => q.1 != id }
      (s.setTileAt n { s.tileAt n with gangSaves := (s.tileAt n).gangSaves ++ saves }, [])
    | some p => fail (q.2.foldl (fun s x => s.noteCode x.1 x.2) q.1) p.2
  | _, _ => fail s 6

/-- Send the records of refused tasks to the notice channel, at most 20 in a message (R341). -/
def State.repostList (s : State) (mv : Move) (m : MoveEnt) (recs : List (List Word)) : State :=
  let e := s.rmEntry m.region m.ltile
  let w0 := noticeWord m.nid 8 mv.frm.role (if m.next.isSome then mv.frm.role else 3) m.ltile
  (List.range ((recs.length + 19) / 20)).foldl (fun s i =>
    let part := (recs.drop (20 * i)).take 20
    s.noticeMsg m.region w0 0 e.gen part.length part.flatten) s

/-- The entries of a logical tile on a core of a site, in order of admission. -/
def State.entriesOf (s : State) (k : Nat) (m : MoveEnt) : List RqEntry :=
  (s.coreAt k).rq.filter fun e => e.region == m.region && e.ltile == m.ltile

/-- Post every entry of a leaving logical tile again. -/
def State.repostAll (s : State) (site : Nat) (mv : Move) (m : MoveEnt) : State :=
  let s := s.flushAccount site m.region m.ltile
  let single := (coresOf site).flatMap fun k => (s.entriesOf k m).filterMap fun e => if e.gang then none else some (k, e)
  let gangs := ((coresOf site).flatMap fun k => (s.entriesOf k m).filterMap fun e => if e.gang then some e.gangId else none).eraseDups
  let a := single.foldl (fun (acc : State × List (List Word)) p =>
    match acc.1.repost m p.1 p.2 with
    | (s, none) => (s, acc.2)
    | (s, some r) => (s, acc.2 ++ [r])) (s, [])
  let b := gangs.foldl (fun (acc : State × List (List Word)) id =>
    match acc.1.repostGang site m id with
    | (s, rs) => (s, acc.2 ++ rs)) a
  b.1.repostList mv m b.2

/-! LEAVING (R342). -/

/-- Contexts of a site that run tasks of the leaving logical tiles. -/
def State.leavingCtxs (s : State) (site : Nat) (mv : Move) : List Nat :=
  (rangeFrom (32 * site) 32).filter fun c =>
    let x := s.ctxAt c
    x.st != .free && x.slot.isSome && mv.ents.any fun m => m.region == x.region && m.ltile == x.ltile

/-- LEAVEAT_REACHED (R342): the entries go LEAVING, storage pages are demoted and the tasks stop; once every context is saved and the
express plane is drained, the entries are posted again and the contents wait to be moved. -/
def execLeaveatReached (s : State) : Out :=
  let site := s.ev.x
  let t := s.tileAt site
  match t.leaving with
  | none => .next s
  | some mv =>
    if mv.phase = 0 then
      if s.time < mv.leaveAt then .next s
      else
        let s := mv.ents.foldl (fun s m => s.setRmEntry m.region m.ltile { s.rmEntry m.region m.ltile with state := 2 }) s
        let s := s.setTileAt site { t with leaving := some { mv with phase := 1 } }
        let s := if mv.frm = .storage then s.demoteSite site else s
        let s := if mv.frm = .routing then s.postAt (mv.leaveAt + 1000 * (s.colAt (colOfSite site)).drainLim) .expressDrainLimit { x := site } else s
        .next (s.post 0 .leaveatReached { x := site })
    else if mv.phase = 1 then
      let cs := s.leavingCtxs site mv
      if !cs.isEmpty then
        .next (((cs.filter fun c => !s.claimed c).foldl (fun s c => s.askStop c 2 0) s).post 1 .leaveatReached { x := site })
      else if s.panelBusy site || (mv.frm == .routing && !mv.drained && !t.heldPkts.isEmpty) then .next (s.post 1 .leaveatReached { x := site })
      else
        let s := mv.ents.foldl (fun s m => s.repostAll site mv m) s
        .next ((s.setTileAt site { s.tileAt site with leaving := some { mv with phase := 2, acks := (((s.tileAt site).leaving.map (·.acks)).getD []) } }).post 0
          .moveCommit { x := site })
    else .next s

/-- EXPRESS_DRAIN_LIMIT (R346): packets that the site still holds go on over the base mesh. -/
def execExpressDrainLimit (s : State) : Out :=
  let site := s.ev.x
  let t := s.tileAt site
  match t.leaving with
  | none => .next s
  | some mv => if mv.phase = 1 then .next ((s.setTileAt site { t with leaving := some { mv with drained := true } }).releasePort site) else .next s

/-! Contents (R344). -/

/-- Copy bytes with their full/empty bits. -/
def State.copyRange (s : State) (a b n : Nat) : State :=
  let inA (w : Nat) : Bool := decide (a ≤ 8 * w) && decide (8 * w < a + n)
  let inB (w : Nat) : Bool := decide (b ≤ 8 * w) && decide (8 * w < b + n)
  { s with mem := copyMem s.mem a b n
           full := ((s.full.filter inA).map fun w => w - a / 8 + b / 8).foldl sinsert (s.full.filter fun w => !inB w) }

/-- The homes of a logical tile: first byte and length of each core's scratchpad and of the panel store. -/
def State.ranges (s : State) (region : Word) (l : Nat) (e : RmEntry) : List (Nat × Nat) :=
  let r := s.regionAt region
  ((List.range 8).map fun c => (s.homeOf region l e 0 c 0, r.spFoot)) ++ [(s.homeOf region l e 1 0 0, r.psFoot)]

/-- The whole of what a logical tile may hold in its own site. -/
def State.ownRanges (s : State) (region : Word) (l : Nat) (e : RmEntry) : List (Nat × Nat) :=
  if e.home = 0 && !e.shared then
    ((List.range 8).map fun c => (s.homeOf region l e 0 c 0, 0x10000)) ++ [(s.homeOf region l e 1 0 0, 0x100000)]
  else s.ranges region l e

/-- The role-map entry that a move leads to. -/
def MoveEnt.after (m : MoveEnt) (e : RmEntry) : RmEntry := { e with site := m.next.getD e.site, home := m.home, slice := m.slice }

/-- The original tenant of a host is confined to its footprint from the first guest's commit on (R351). -/
def State.confine (s : State) (m : MoveEnt) : State :=
  match m.next with
  | none => s
  | some n =>
    if m.home = 0 then s
    else
      ((s.tileAt n).tenants.filter fun x => !x.incoming && x.slice = 0).foldl (fun s x =>
        let e := s.rmEntry x.region x.ltile
        if e.shared || e.home ≠ 0 then s
        else
          let r := s.regionAt x.region
          let s := (List.range 8).foldl (fun s c => s.clearRange (spPhys s.module n c r.spFoot) (0x10000 - r.spFoot)) s
          (s.clearRange (psPhys s.module n r.psFoot) (0x100000 - r.psFoot)).setRmEntry x.region x.ltile { e with shared := true }) s

/-- The codelets of a logical tile that `keep` selects, by core and descriptor offset, go to the ready rings of its new site (R301, R344). -/
def State.moveReady (s : State) (site n : Nat) (m : MoveEnt) (keep : Nat → Nat → Bool) : State :=
  (List.range 8).foldl (fun s c =>
    let k := s.coreAt (8 * site + c)
    let mine (q : Word × Word × BitVec 2) : Bool := q.2.1 == m.region && bits q.1 32 14 == m.ltile && keep c (bits q.1 0 24)
    let qs := (k.ready ++ k.overflow).filter mine
    let s := s.sievedReady (8 * site + c) fun q => !mine q
    qs.foldl (fun s q => s.linkReady (8 * n + c) q.1 q.2.1 q.2.2) s) s

/-- PREEMPT and HOMEMOVE keep the footprint, the tables but the match table, and the ready ring. -/
def State.moveWhole (s : State) (site n : Nat) (m : MoveEnt) : State :=
  let e := s.rmEntry m.region m.ltile
  let s := ((s.ranges m.region m.ltile e).zip (s.ranges m.region m.ltile (m.after e))).foldl (fun s p =>
    if p.1.1 = p.2.1 then s else s.copyRange p.1.1 p.2.1 p.1.2) s
  let s := s.setTileAt n ((s.tileAt n).setTabs m.region m.ltile { (s.tileAt site).tabsOf m.region m.ltile with mtch := [] })
  s.moveReady site n m fun _ _ => true

/-- The NOTACK word of a buffer; 0 without a table. -/
def Move.ackWord (mv : Move) (m : MoveEnt) (h : Nat) : Word :=
  ((mv.acks.find? fun a => a.1 == m.region && a.2.1 == m.ltile).map fun a => a.2.2.getD h 0).getD 0

/-- Where `n` bytes of a buffer go under a destination word: none where it is invalid or unmapped (R344, R357). -/
def State.ackPlace (s : State) (m : MoveEnt) (d : Word) (b : Buf) (n : Nat) : Option Nat :=
  let r := s.regionAt m.region
  let e := s.rmEntry m.region m.ltile
  if d = 1 then m.next.map fun _ => s.homeOf m.region m.ltile (m.after e) b.space.toNat b.core.toNat b.base.toNat
  else match classOf d with
    | .global => if bits d 44 4 ≤ 8 && gwinOk r.windows d n .write && s.physOk (globalPhys d) then some (globalPhys d) else none
    | .role =>
      let l := bits d 32 14
      let e' := s.rmEntry m.region l
      let space := bits d 28 1
      let off := bits d 0 24
      let ext := if e'.home ≠ 0 || e'.shared then (if space = 1 then r.psFoot else r.spFoot) else if space = 1 then 0x100000 else 0x10000
      if l = m.ltile || r.rmLen ≤ l || e'.state ≠ 0 || e'.role ≠ 0 || bits d 24 4 ≠ 0 || ext < off + n || (space = 1 && bits d 29 3 ≠ 0) then none
      else some (s.homeOf m.region l e' space (bits d 29 3) off)
    | _ => none

/-- The retained buffers that NOTACK names are copied, and the channel tables follow the logical tile; the buffer entries kept are those
with value 1. A destination that is no good discards its buffer and is reported. A retirement with no lead keeps nothing (R429). -/
def State.moveRetained (s : State) (site : Nat) (mv : Move) (m : MoveEnt) : State :=
  let tabs := (s.tileAt site).tabsOf m.region m.ltile
  let e := s.rmEntry m.region m.ltile
  let bs := tabs.buf.filter fun p => p.2.valid && p.2.retain && mv.ackWord m p.1 ≠ 0
  let s := bs.foldl (fun s p =>
    let n := 64 * p.2.size.toNat
    match s.ackPlace m (mv.ackWord m p.1) p.2 n with
    | some b => s.copyRange (s.homeOf m.region m.ltile e p.2.space.toNat p.2.core.toNat p.2.base.toNat) b n
    | none => s.noticeMsg m.region (noticeWord m.nid 8 mv.frm.role (if m.next.isSome then mv.frm.role else 3) m.ltile) 0 e.gen 0 []) s
  match m.next with
  | none => s
  | some n => if mv.phase ≠ 2 then s else s.setTileAt n ((s.tileAt n).setTabs m.region m.ltile
      { chan := tabs.chan, buf := bs.filter fun p => mv.ackWord m p.1 = 1, rings := [], mtch := [] })

/-- The `n` bytes at an offset of a core's scratchpad lie in a buffer marked retain that goes to the new home with its bytes (R301,
R344). -/
def State.keepsBytes (s : State) (site : Nat) (mv : Move) (m : MoveEnt) (c off n : Nat) : Bool :=
  ((s.tileAt site).tabsOf m.region m.ltile).buf.any fun p =>
    p.2.valid && p.2.retain && mv.ackWord m p.1 = 1 && p.2.space = 0 && p.2.core.toNat == c &&
    decide (p.2.base.toNat ≤ off) && decide (off + n ≤ p.2.base.toNat + 64 * p.2.size.toNat)

/-- The move keeps a slot of an inbox (R294, R344). -/
def State.keepsSlot (s : State) (site : Nat) (mv : Move) (m : MoveEnt) (c : Nat) (d : Delivery) : Bool :=
  m.next.isSome && (mv.reason = 2 || mv.reason = 5 || s.keepsBytes site mv m c d.off 1024)

/-- A task that moved from core `k` has its payload in slot `new` now, if anywhere. -/
def RqEntry.moveSlot (e : RqEntry) (k slot ltile : Nat) (new : Option Nat) : RqEntry :=
  if e.inbox = some slot ∧ e.ltile = ltile ∧ e.lentBy.getLast?.map (·.1) = some k then { e with inbox := new } else e

/-- The number of a slot that comes to a core with a logical tile: its own where CHBASE puts it at the same bytes, else one beyond the
slots of CHBASE (R83). -/
def Core.adopts (k : Core) (d : Delivery) : Nat :=
  if k.slotOff d.slot = d.off && d.slot < k.chSize && !(k.inbox.any fun x => x.slot == d.slot) then d.slot else 64 + k.inboxOrder

/-- Deliveries of the inbox go with the logical tile where the move keeps their slot; any other is dropped and reported. A record whose
task runs goes with it in any case, so that it is forwarded when the task ends (R312): bytes that the move discards read as zero. -/
def State.moveInbox (s : State) (site : Nat) (mv : Move) (m : MoveEnt) (c : Nat) : State :=
  let k := 8 * site + c
  ((s.coreAt k).inbox.filter fun d => d.region == m.region && d.ltile == m.ltile).foldl (fun s d =>
    let k' := 8 * m.next.getD site + c
    let there := s.coreAt k'
    let s0 := s.setCoreAt k { s.coreAt k with inbox := (s.coreAt k).inbox.filter fun x => x.slot != d.slot }
    if s.keepsSlot site mv m c d || (d.taken && d.record != 0 && m.next.isSome) then
      if k' = k then s else
      let sl := there.adopts d
      s0.setCoreAt k' { there with inbox := there.inbox ++ [{ d with slot := sl, order := there.inboxOrder, refused := false }]
                                   inboxOrder := there.inboxOrder + 1
                                   rq := there.rq.map fun e => e.moveSlot k d.slot m.ltile (some sl) }
    else if d.taken then
      let s0 := if d.record ≠ 0 then s0.recordEnds k d true else s0
      let c' := s0.coreAt k'
      s0.setCoreAt k' { c' with rq := c'.rq.map fun e => e.moveSlot k d.slot m.ltile none }
    else if d.record ≠ 0 then s0.pipeReport d.region (bits d.arg1 48 16) 21 (bits d.arg2 32 32) d.dest
    else s0.tellDrop d.agent d.src d.srcRegion d.dest d.report 6) s

/-- Codelets that were pushed onto a ring of a discarded scratchpad, and that no retained buffer took to the new home, are discarded
(R301). -/
def State.dropReady (s : State) (site : Nat) (m : MoveEnt) : State :=
  (List.range 8).foldl (fun s c =>
    s.sievedReady (8 * site + c) fun q => !(q.2.1 == m.region && bits q.1 32 14 == m.ltile)) s

/-- The contents of an entry go where its move takes them, and nothing stays behind. -/
def State.moveContents (s : State) (site : Nat) (mv : Move) (m : MoveEnt) : State :=
  let e := s.rmEntry m.region m.ltile
  if e.role ≠ 0 then s
  else
    let old := s.ownRanges m.region m.ltile e
    let new := if m.next.isSome then (s.ranges m.region m.ltile (m.after e)).map (·.1) else []
    let s := (s.confine m)
    let s := if mv.reason = 2 || mv.reason = 5 then (match m.next with
        | some n => s.moveWhole site n m
        | none => s) else s.moveRetained site mv m
    let s := (List.range 8).foldl (fun s c => s.moveInbox site mv m c) s
    let s := match m.next with
      | some n => s.moveReady site n m fun c off => s.keepsBytes site mv m c off 64
      | none => s
    let s := s.dropReady site m
    old.foldl (fun s p => if new.contains p.1 then s else s.clearRange p.1 p.2) s

/-! Commit (R342 step 5). -/

/-- Matrix and copy work of a leaving logical tile that has not ended is abandoned with an engine ROLE, where no home follows or
its site goes OFF, whose engines are no longer there (log 21). -/
def State.abandonWork (s : State) (site : Nat) (m : MoveEnt) : State :=
  let s := ((s.mx site).ops.filter fun o => o.region == m.region && o.ltile == m.ltile).foldl (fun s o =>
    ((s.setMx site { s.mx site with err := cROLE }).raiseOn (s.ownerNow o.ctx o.owner)
      { cause := cROLE, val := BitVec.ofNat 64 m.ltile, work := some { unit := 0, num := o.num, site := site } }).dropOp site o.num) s
  ((s.cp site).jobs.filter fun j => j.region == m.region && j.ltile == m.ltile && !j.ended).foldl (fun s j =>
    (((s.setCp site { s.cp site with err := cROLE }).setJob site { j with ended := true, status := 2, cause := cROLE }).raiseOn
      (s.ownerNow j.ctx j.owner) { cause := cROLE, val := BitVec.ofNat 64 m.ltile, work := some { unit := 1, num := j.ticket, site := site } }).post 0
      .copyJobComplete { x := site, y := j.ticket }) s

/-- SHARED of the entries that name a site. -/
def State.refreshShared (s : State) (site : Nat) : State :=
  let rows := s.rowsOf site
  rows.foldl (fun s x => s.setRmEntry x.region x.ltile { s.rmEntry x.region x.ltile with shared := decide (1 < rows.length) }) s

/-- The commit of one entry; RELEASE lets N fall past trailing VACANT entries (R354). -/
def State.commitEnt (s : State) (site reason : Nat) (m : MoveEnt) : State :=
  let e := s.rmEntry m.region m.ltile
  let s := s.setRmEntry m.region m.ltile
    { e with gen := (e.gen + 1) % 2 ^ 16, state := if m.next.isSome then 0 else 3, role := if e.torole = 3 then e.role else e.torole
             leased := e.leased && m.next.isSome, shared := false, home := if m.next.isSome then m.home else 0
             slice := if m.next.isSome then m.slice else 0, site := m.next.getD e.site, timemark := BitVec.ofNat 64 (s.time + 64000) }
  let t := s.tileAt site
  let s := s.setTileAt site { t with
    tenants := t.tenants.filter fun x => !(x.region == m.region && x.ltile == m.ltile)
    tabs := t.tabs.filter fun p => p.1 != tabKey m.region m.ltile
    accounts := t.accounts.filter fun a => !(a.region == m.region && a.ltile == m.ltile) }
  match m.next with
  | some n => (s.setTileAt n { s.tileAt n with tenants := (s.tileAt n).tenants.map fun x =>
        if x.region == m.region && x.ltile == m.ltile then { x with incoming := false } else x }).refreshShared n
  | none => if reason ≠ 4 then s else s.setRegion { s.regionAt m.region with
        rmLen := trimLen (fun l => (s.rmEntry m.region l).state = 3) (s.regionAt m.region).rmLen }

/-- A tile-walk engine of a site that goes OFF: its jobs are abandoned, with an engine ROLE (R441). -/
def State.abandonTw (s : State) (site : Nat) : State :=
  ((s.tileAt site).tw.filter fun j => !j.ended).foldl (fun s j =>
    (s.endTw site j 2 cROLE).raiseOn (s.ownerNow j.ctx j.owner)
      { cause := cROLE, val := BitVec.ofNat 64 j.named, work := some { unit := 2, num := j.ticket, site := site } }) s

/-- A site that spatial preemption has vacated joins its target (R350); the command completes with the last one. -/
def State.joinTarget (s : State) (site : Nat) (mv : Move) : State :=
  match mv.joins with
  | none => s
  | some region =>
    let s := match s.lowestVacant region with
      | some l => s.assign region l site 0
      | none => s
    s.launchEnds mv.cmd

/-- A site takes up its new state at the commit: its SRAM is zeroed once no tenant is left, and what its old role held ends; `rows` are
the tenants that it had (R204, R342). -/
def State.enterState (s : State) (site : Nat) (mv : Move) (rows : List Tenant) : State :=
  let s := if (s.tileAt site).tenants.isEmpty then s.zeroSite site else s
  let s := if mv.into = .off then s.abandonTw site else s
  let t := s.tileAt site
  let s := s.setTileAt site { t with
    st := mv.into, leaving := some { mv with phase := 3, old := rows }, rmCache := [], twNext := if mv.into = mv.frm then t.twNext else 0 }
  let s := if mv.into = .storage then s.offerSite site else s
  if mv.into = .off && s.evacuated (colOfSite site) then s.demoteAll (colOfSite site) (fun _ => true) else s

/-- The commit of a move. -/
def State.commitMove (s : State) (site : Nat) (mv : Move) : State :=
  let s := mv.ents.foldl (fun s m => if m.next.isSome && mv.into ≠ .off then s else s.abandonWork site m) s
  let s := mv.ents.foldl (fun s m => s.moveContents site mv m) s
  let s := ((mv.ents.foldl (fun s m => s.commitEnt site mv.reason m) s).refreshShared site).enterState site mv (s.rowsOf site)
  let s := (s.joinTarget site mv).post 64000 .graceEnd { x := site }
  let s := (s.releasePort site).wakeHeld
  (mv.ents.filterMap (·.next)).foldl (fun s n => (coresOf n).foldl (fun s k => s.kickCore k) ((s.releasePort n).driveWork n)) (s.driveWork site)

/-- MOVE_COMMIT (R342 step 5, R344). -/
def execMoveCommit (s : State) : Out :=
  let site := s.ev.x
  match (s.tileAt site).leaving with
  | some mv => if mv.phase = 2 then .next (s.commitMove site mv) else .next s
  | none => .next s

/-- GRACE_END (R345): forwarding stops. -/
def execGraceEnd (s : State) : Out :=
  let site := s.ev.x
  let t := s.tileAt site
  match t.leaving with
  | some mv => if mv.phase = 3 then .next ((s.setTileAt site { t with leaving := none }).censusRun (colOfSite site)) else .next s
  | none => .next s

/-! Retirement (R429). -/

/-- End every entry of a failed site: it is listed with SAVE 0 and code 6, and its contexts are free. -/
def State.endEntries (s : State) (site : Nat) (mv : Move) (m : MoveEnt) : State :=
  let es := (coresOf site).flatMap fun k => (s.entriesOf k m).map fun e => (k, e)
  let s := es.foldl (fun s p =>
    let s := match p.2.ctx with
      | some c => s.setCtxAt c { s.ctxAt c with st := .free, wait := none, pend := [], held := [], slot := none, gang := false, inTrap := false,
                                                rep := {}, saving := false, prevRegion := some (s.ctxAt c).region }
      | none => s
    s.endRefused p.1 p.2) s
  s.repostList mv m (es.map fun p => repostRec p.2 6 false)

/-- The entries that were to move to a site that fails go to a BULLPEN site of their own, or nowhere (R14, R342, R429). -/
def State.redirect (s : State) (site : Nat) : State :=
  let col := colOfSite site
  let rows := (s.tileAt site).tenants.filter (·.incoming)
  let s := s.setTileAt site { s.tileAt site with tenants := s.rowsOf site }
  rows.foldl (fun s x =>
    let e := s.rmEntry x.region x.ltile
    let nxt := if 1 ≤ s.room col then (s.bullpens col).head? else none
    let s := match nxt with
      | some b =>
        let s := s.takeBullpen b e.role
        s.setTileAt b { s.tileAt b with tenants := (s.tileAt b).tenants ++ [({ region := x.region, ltile := x.ltile, incoming := true } : Tenant)] }
      | none => s
    let s := s.setRmEntry x.region x.ltile { e with next := nxt, torole := if nxt.isSome then e.role else 3 }
    let t := s.tileAt e.site
    s.setTileAt e.site { t with leaving := t.leaving.map fun mv => { mv with ents := mv.ents.map fun m =>
      if m.region == x.region && m.ltile == x.ltile then { m with next := nxt, home := 0, slice := 0 } else m } }) s

/-- SITE_RETIRE (R429, R431): an ordinary move with REASON RETIRE, or where the cores do not respond a commit at once. Event operands: x
site, flag its cores respond, y 1 where a core check has failed (R428). -/
def execSiteRetire (s : State) : Out :=
  let site := s.ev.x
  let col := colOfSite site
  let s := if s.ev.y = 1 then s.countFault site else s
  let t := s.tileAt site
  if t.st == .off then .next s
  else if s.ev.flag then
    let c := s.colAt col
    if c.retires.contains site then .next s
    else .next ((s.setColAt col { c with retires := c.retires ++ [site] }).censusRun col)
  else
    let s := if t.st == .storage then s.demoteSite site else s
    let coming := (t.tenants.filter (·.incoming)).map fun x => ({ region := x.region, ltile := x.ltile } : MoveEnt)
    let s := ((s.setTileAt site { t with leaving := none, gangLive := none, gangHold := [], gangSaves := [] }).dropClaims site).redirect site
    let s := s.castSite site 3 .off 0 (2 ≤ s.room col) (2 ≤ s.room col || (s.bullpens col).isEmpty)
    match (s.tileAt site).leaving with
    | none => .next s
    | some mv =>
      let s := (mv.ents ++ coming).foldl (fun s m => s.endEntries site mv m) s
      let s := mv.ents.foldl (fun s m => s.abandonWork site m) s
      .next ((s.zeroSite site).commitMove site mv)

/-! Leases (R348, R349, R355, R356). -/

/-- Set LEASED of the entries of a lease. -/
def State.setLeased (s : State) (region : Word) (first n : Nat) (v : Bool) (ix : Nat) : State :=
  (rangeFrom first n).foldl (fun s l => s.setRmEntry region l { s.rmEntry region l with leased := v, leaseIx := if v then ix else 0 }) s

def State.liveLease (s : State) (region : Word) (i : Nat) : Bool := (s.lease region i).valid

/-- The decision of R355: its code and index. -/
def State.leaseDecide (s : State) (region req : Word) (expiry : Nat) : State × Nat × Nat :=
  let first := bits req 32 14
  let n := bits req 0 15
  let live := (List.range 64).filter (s.liveLease region)
  let same (i : Nat) : Bool := (s.lease region i).first == first && (s.lease region i).count == n
  let laps (i : Nat) : Bool :=
    let l := s.lease region i
    decide (first < l.first + l.count) && decide (l.first < first + n)
  if bits req 46 18 ≠ 0 || bits req 15 17 ≠ 0 || n = 0 || s.rmLen region < first + n || live.any fun i => laps i && !same i then (s, 5, 0)
  else if expiry ≤ s.time || s.time + 2 ^ 32 < expiry then (s, 4, 0)
  else match live.find? same with
    | some i =>
      ((s.setLease region i { s.lease region i with expiry := BitVec.ofNat 64 expiry }).postAt (expiry + 1) .leaseExpiry
        { x := region.toNat, y := i }, 1, i)
    | none => match (List.range 64).find? fun i => !s.liveLease region i with
      | none => (s, 2, 0)
      | some i =>
        if (rangeFrom first n).any fun l => (s.rmEntry region l).state ≠ 0 then (s, 3, 0)
        else
          let s := (s.setLeased region first n true i).setLease region i { valid := true, first := first, count := n, expiry := BitVec.ofNat 64 expiry }
          (s.postAt (expiry + 1) .leaseExpiry { x := region.toNat, y := i }, 0, i)

/-- The result word of R355. -/
def leaseResult (code index : Nat) : Word := mkWord [(8, code), (0, index)]

/-- LEASE_REQUEST (R355): the result goes to word 1 of the lease block as an STF with release. -/
def execLeaseRequest (s : State) : Out :=
  match s.pkt s.ev.x with
  | none => .next s
  | some p =>
    match s.leaseDecide p.region p.arg1 p.arg2.toNat with
    | (s, code, i) =>
      let pa := s.rolePhys p.region (p.addr + 8)
      let e := s.rmEntry p.region (bits p.addr 32 14)
      let s := if e.state = 3 || e.role ≠ 0 then s
        else (s.writeHome p.region p.src 4 pa (leBytes 8 (leaseResult code i).toNat) 3 0 s.time).setFull pa true
      .next (s.consume p)

/-- A lease ends: LEASED is cleared on its entries. -/
def State.endLease (s : State) (region : Word) (i : Nat) : State :=
  let l := s.lease region i
  (s.setLeased region l.first l.count false 0).setLease region i { l with valid := false }

/-- LEASE_EXPIRY (R349, R439, R440): pending claims on its sites are acted on where the region has work there; the rest wait for the
next decision. -/
def execLeaseExpiry (s : State) : Out :=
  let region := BitVec.ofNat 64 s.ev.x
  let l := s.lease region s.ev.y
  if !l.valid || s.time ≤ l.expiry.toNat then .next s
  else
    let sites := (rangeFrom l.first l.count).map fun x => (s.rmEntry region x).site
    let s := s.endLease region s.ev.y
    .next ((List.range 9).foldl (fun s col =>
      let c := s.colAt col
      if c.claims.any fun x => sites.contains x.site && s.worksOn region x.site then
        (s.setColAt col { c with claims := c.claims.map fun x => if sites.contains x.site && s.worksOn region x.site then { x with due := true } else x }).censusRun col
      else s) s)

/-- LREL_ARRIVAL (R356). -/
def execLrelArrival (s : State) : Out :=
  let region := BitVec.ofNat 64 s.ev.x
  if (s.lease region s.ev.y).valid then .next (s.endLease region s.ev.y) else .next s

end Sys2Proof.Machine
end

