-- ==== Sys2Proof/Machine/Whistle.lean ====
section
/-! DEFINITION. The whistle tree: stops, resumes and stop records (R414 to R418, R423). -/

namespace Sys2Proof.Machine

/-- The fault domain of a region (R412). -/
def State.fdomOf (s : State) (region : Word) : Nat := (s.regionAt region).fdom

/-- Set STATE of a domain on every column, counting SEQ up where `up`. -/
def State.setDomain (s : State) (d st : Nat) (up : Bool) : State :=
  columns.foldl (fun s c =>
    let x := s.colAt c
    let o := tget x.dstat d {}
    s.setColAt c { x with dstat := tput x.dstat d { seq := if up then o.seq + 1 else o.seq, st := BitVec.ofNat 2 st } }) s

/-- SEQ of a domain. -/
def State.domainSeq (s : State) (d : Nat) : Nat := (tget (s.colAt 0).dstat d {}).seq.toNat

/-- Contexts that run a task of a domain. -/
def State.domainCtxs (s : State) (d : Nat) : List Nat := (s.ctxs.filter fun p => p.2.st != .free && s.fdomOf p.2.region == d).map (·.1)

/-- Cores that hold a context or an entry of a domain (R415). -/
def State.domainCores (s : State) (d : Nat) : List Nat :=
  ((s.cores.filter fun p => p.2.rq.any fun e => s.fdomOf e.region == d).map (·.1)).foldl sinsert
    (((s.domainCtxs d).map coreOfCtx).foldl sinsert [])

/-- STOP of a domain (R414, R415): one that is not running is left alone. -/
def State.stopDomain (s : State) (d : Nat) : State :=
  if (tget (s.colAt 0).dstat d {}).st ≠ 0 then s
  else
    let cores := s.domainCores d
    let s := s.setDomain d (if cores.isEmpty then 2 else 1) true
    let s := { s with owed := tput s.owed d cores }
    let s := (s.domainCtxs d).foldl (fun s c => s.post 0 .stopRequest { x := c, y := 1 }) s
    let s := cores.foldl (fun s k => s.post 0 .stopRecordWrite { x := k, y := d }) s
    (s.tiles.map (·.1)).foldl (fun s t => s.haltWork t fun r => s.fdomOf r == d) s

/-- WHISTLE_STOP (R415): event operand x domain. -/
def execWhistleStop (s : State) : Out := .next (s.stopDomain s.ev.x)

/-- Module `m` is reached from a column over a live link (R379, R383). -/
def State.moduleUp (s : State) (col m : Nat) : Bool :=
  let w := tget (s.colAt col).modRoute m 0
  nbits w 8 1 = 1 && tget (s.colAt (nbits w 4 4)).linksUp (nbits w 0 2) true

/-- A live link leads to module `m` from some column. -/
def State.linkTo (s : State) (m : Nat) : Bool := columns.any fun c => s.moduleUp c m

/-- A multi-module launch runs here whose coordinator no live link leads to (R414). -/
def State.cutOff (s : State) (x : LaunchSt) : Bool := x.phase = 1 && x.coord != s.module && !s.linkTo x.coord

/-- The 50 µs of R414 begin for the launches that are cut off now. -/
def State.watchLinks (s : State) : State :=
  s.launches.foldl (fun s p =>
    if s.cutOff p.2 && !s.agenda.any (fun e => e.2.1 == .linkLossStop && e.2.2.x == p.2.region.toNat) then
      s.post 50000 .linkLossStop { x := p.2.region.toNat } else s) s

/-- LINK_LOSS_STOP (R414): a multi-module launch of the region runs here, and for 50 µs no live link has led to its coordinator; its
domain stops, on this module alone. -/
def execLinkLossStop (s : State) : Out :=
  let region := BitVec.ofNat 64 s.ev.x
  if s.launches.any fun p => p.2.region == region && s.cutOff p.2 then .next (s.stopDomain (s.fdomOf region)) else .next s

/-- STOPK as it is taken (R412). -/
def Region.stopKOf (r : Region) : Nat := Nat.min 20 (Nat.max 6 r.stopK)

/-- A stop record of a core (R418). MID is 0: a step of the model runs a group to its end, so that a context stops at a boundary, as after
a group of a REP body (log 84). -/
def State.stopRecord (s : State) (k d : Nat) : List Word :=
  let site := siteOfCore k
  let c := s.coreAt k
  [mkWord [(32, s.domainSeq d), (20, d), (16, colOfSite site), (10, txOf site), (4, tyOf site), (0, k % 8)], BitVec.ofNat 64 s.time, c.msgSent,
   c.msgRecv] ++
  (rangeFrom (4 * k) 4).map fun i =>
    let x := s.ctxAt i
    if x.st != .free && s.fdomOf x.region == d then
      BitVec.ofNat 64 (x.pc.toNat / 4 * 4 + 1)
    else 0

/-- The region whose stop log takes a core's record of a domain. -/
def State.stopRegion (s : State) (k d : Nat) : Option Region :=
  let rs := ((rangeFrom (4 * k) 4).filterMap fun i => if (s.ctxAt i).st != .free then some (s.ctxAt i).region else none) ++
    (s.coreAt k).rq.map (·.region)
  (rs.find? fun r => s.fdomOf r == d && (s.regionAt r).stopBase ≠ 0).map s.regionAt

/-- Append a 64-byte record to a stop log (R413). -/
def State.stopPut (s : State) (r : Region) (ws : List Word) : State :=
  let b := globalPhys r.stopBase
  let h := s.readWord b
  let a := b + 64 + 64 * (h.toNat % 2 ^ r.stopKOf)
  (ws.foldl (fun (acc : State × Nat) w => (acc.1.writeWord acc.2 w, acc.2 + 8)) (s.writeWord b (h + 1), a)).1

/-- STOP_RECORD_WRITE (R415, R417): once all contexts of the domain on a core have stopped, its record is written; with the last record
STATE goes to 2. Event operands: x core, y domain. -/
def execStopRecordWrite (s : State) : Out :=
  let k := s.ev.x
  let d := s.ev.y
  let cores := tget s.owed d []
  if !cores.contains k then .next s
  else if (rangeFrom (4 * k) 4).any fun i =>
      let x := s.ctxAt i
      x.st != .free && s.fdomOf x.region == d && (x.st != .stopped || x.saving) then .next (s.post 1 .stopRecordWrite s.ev)
  else
    let s := match s.stopRegion k d with
      | some r => s.stopPut r (s.stopRecord k d)
      | none => s
    let cores := cores.filter fun x => x != k
    let s := { s with owed := tput s.owed d cores }
    .next (if cores.isEmpty then s.setDomain d 2 false else s)

/-- A stopped context goes on from where it stopped; one that awaits responses stalls again. -/
def Ctx.unstop (c : Ctx) : Ctx :=
  if c.st == .stopped && !c.saving then
    { c with st := if c.pend.all fun p => p.soft || match p.dest with
        | .badd _ _ => true
        | _ => false then .issuing else .stalled }
  else c

/-- The panels of a gang that stood stopped on a site come back (R67). -/
def State.resumePanels (s : State) (site d : Nat) : State :=
  let t := s.tileAt site
  match t.gangLive with
  | none => s
  | some (r, l, _) =>
    if s.fdomOf r = d && s.hasSave site t.gangNow then
      s.post 0 .gangPanelRestore { x := site, y := r.toNat, z := l, w := t.gangNow }
    else s

/-- RESUME and RESUME_TRAP (R416): every stopped task goes on, with the trap STOPPED held first where `trap`; an urgent entry that was
stopped is decided on anew (R286). -/
def State.resumeDomain (s : State) (d : Nat) (trap : Bool) : State :=
  if (tget (s.colAt 0).dstat d {}).st ≠ 3 then s
  else
    let h : HeldTrap := { cause := cSTOPPED, val := BitVec.ofNat 64 (s.domainSeq d), engine := false }
    let s := s.setDomain d 0 false
    let s := (s.domainCtxs d).foldl (fun s c =>
      let x := s.ctxAt c
      if x.st == .stopped then
        let s := s.setCtxAt c x.unstop
        if trap then s.holdTrap c h else s
      else s) s
    let s := s.cores.foldl (fun s p =>
      let c := s.coreAt p.1
      (s.setCoreAt p.1 { c with rq := c.rq.map fun e =>
        if e.stopped && s.fdomOf e.region == d then { e with stopped := false, undecided := e.undecided || e.cls == 0, held := if trap then e.held ++ [h] else e.held } else e }).kickCore
        p.1) s
    let s := (s.tiles.map (·.1)).foldl (fun s t => s.unhaltWork t fun r => s.fdomOf r == d) s
    (s.tiles.map (·.1)).foldl (fun s t => s.resumePanels t d) s

/-- The two steps of a resumption (R416): STATE goes to 3, and to 0 once every core has acted. -/
def State.resumeStep (s : State) (e : Instr) (trap : Bool) : State :=
  let d := s.ev.x
  if s.ev.flag then s.resumeDomain d trap
  else if (tget (s.colAt 0).dstat d {}).st = 2 then (s.setDomain d 3 false).post 0 e { x := d, flag := true }
  else s

/-- WHISTLE_RESUME (R416). Event operands: x domain, flag the cores act. -/
def execWhistleResume (s : State) : Out := .next (s.resumeStep .whistleResume false)

/-- WHISTLE_RESUME_TRAP (R416). Event operands: x domain, flag the cores act. -/
def execWhistleResumeTrap (s : State) : Out := .next (s.resumeStep .whistleResumeTrap true)

end Sys2Proof.Machine
end

