-- ==== Sys2Proof/Machine/Host.lean ====
section
/-! DEFINITION. Host queues: descriptors, slots, wake words, the reading of commands, completion (R324 to R329, R447, R448), and the
commands AMSG, SPLICE, LEASE, PREEMPT, SIGNAL and COPY (R330, R332, R350). -/

namespace Sys2Proof.Machine

/-! Descriptors (R325). -/

/-- The physical address of a word of a queue's descriptor. -/
def State.qWordAt (s : State) (q i : Nat) : Nat := globalPhys s.qtBase + 64 * q + 8 * i
def State.qWord (s : State) (q i : Nat) : Word := s.readWord (s.qWordAt q i)
def State.setQField (s : State) (q i lo n v : Nat) : State := s.writeWord (s.qWordAt q i) (setField (s.qWord q i) lo n v)

def State.qHead (s : State) (q : Nat) : Nat := bits (s.qWord q 1) 0 20
def State.qParent (s : State) (q : Nat) : Word := s.qWord q 2
def State.qSlot (s : State) (q : Nat) : Nat := bits (s.qWord q 3) 8 12
/-- Commands that the ring holds. -/
def State.qSize (s : State) (q : Nat) : Nat := 2 ^ (bits (s.qWord q 3) 4 4 + 4)
/-- STATE: 0 resident, 1 mapped, 2 paged out, 3 paging in. -/
def State.qState (s : State) (q : Nat) : Nat := bits (s.qWord q 3) 0 2

def State.hq (s : State) (q : Nat) : HostQueue := tget s.queues q {}
def State.setHq (s : State) (q : Nat) (h : HostQueue) : State := { s with queues := tput s.queues q h }

/-- A command in progress. -/
def State.hostCmd (s : State) (q num : Nat) : Option HostCmd := (s.hq q).cmds.find? fun c => c.num == num
def State.setCmd (s : State) (q : Nat) (c : HostCmd) : State :=
  s.setHq q { s.hq q with cmds := modFirst (fun x => x.num == c.num) (fun _ => c) (s.hq q).cmds }

/-- Word `i` of a command (R328). -/
def HostCmd.w (c : HostCmd) (i : Nat) : Word := c.words.getD i 0

/-! Accesses of an umpire core (R447, R448). -/

/-- What an umpire core's access comes to. -/
inductive HostRes where
  | ok (l : Loc)
  | wait
  | refused (cause : BitVec 8)
  deriving DecidableEq, Repr

/-- The column whose umpire core serves a queue (R326). -/
def State.qCol (s : State) (q : Nat) : Nat := s.qSlot q % 36 / 4

/-- The source of what a command does, as the logs name it. -/
def State.qSrc (s : State) (q num : Nat) : Nat := hostSrc q num (s.qSlot q)

/-- An access of an umpire core of a column for a command, under the windows and tables of its PARENT; a refused one is logged. -/
def State.umpireRes (s : State) (col : Nat) (parent : Word) (src : Nat) (ea : Word) (k : AKind) (want : Want) : State × HostRes :=
  let who : Who := { core := 8 * (1440 * col), region := parent, priv := 0, ltile := 2 ^ 14, eng := some [10] }
  match s.resolve who ea k want with
  | (s, .ok l) => (s, .ok l)
  | (s, .hold) => (s, .wait)
  | (s, .bad c _) => (s.faultLog parent src 5 ea k.size c.toNat 1, .refused c)
  | (s, .err c _) => (s.faultLog parent src 5 ea k.size c.toNat 1, .refused c)

/-- An access of `n` bytes for a command of a queue. -/
def State.hostRes (s : State) (q : Nat) (ea : Word) (n : Nat) (want : Want) : State × HostRes :=
  s.umpireRes (s.qCol q) (s.qParent q) (s.qSrc q 0) ea (.block n) want

/-- A write of a command at its home, as agent 5. -/
def State.hostWrite (s : State) (q pa : Nat) (bs : List Byte) (kind : Nat) : State :=
  s.writeHome (s.qParent q) (s.qSrc q 0) 5 pa bs kind 0 s.time

/-! Reading commands (R326, R328). -/

/-- An OPC or a reserved bit that makes a command BADCMD (R328, R330). -/
def cmdBad (ws : List Word) : Bool :=
  let w (i : Nat) : Word := ws.getD i 0
  let opc := bits (w 0) 0 8
  bits (w 0) 10 22 ≠ 0 || opc = 0 || 7 < opc ||
  (match opc with
   | 1 => bit (w 3) 63 || bits (w 3) 61 2 = 3
   | 2 => bits (w 4) 6 58 ≠ 0 || w 5 ≠ 0
   | 4 => w 3 ≠ 0
   | 6 => 2 < (w 3).toNat || (w 1).toNat % 8 ≠ 0
   | 7 => 2 ^ 32 < (w 3).toNat
   | _ => false)

/-- The step that starts a command. -/
def cmdEvent (ws : List Word) : Instr :=
  match bits (ws.getD 0 0) 0 8 with
  | 1 => .launch
  | 2 => .amsg
  | 3 => .hostSplice
  | 4 => .hostLease
  | 5 => .preempt
  | 6 => (match (ws.getD 3 0).toNat with
    | 0 => .signalStore
    | 1 => .signalAdd
    | _ => .signalWait)
  | _ => .copy

/-- The words of a byte string. -/
def wordsOf (n : Nat) (bs : List Byte) : List Word := (List.range n).map fun i => blockWord bs i

/-- A host-mode port is up, over which the umpire cores reach host memory (R324). -/
def State.hostLink (s : State) : Bool := s.ports.any fun p => !p.2.memMode && p.2.trained

/-- The command at HEAD: its words; all zero, which is BADCMD, where the ring read is refused. None while the read waits. -/
def State.ringRead (s : State) (q : Nat) : State × Option (List Word) :=
  let a := s.qWord q 0 + BitVec.ofNat 64 (64 * s.qHead q)
  if classOf a == .global then
    match s.hostRes q a 64 .read with
    | (s, .ok l) => (s, some (wordsOf 8 (memRead s.mem l.pa 64)))
    | (s, .wait) => (s, none)
    | (s, .refused _) => (s, some (List.replicate 8 0))
  else if s.hostLink then (s, some (wordsOf 8 (memRead s.hostMem a.toNat 64)))
  else (s, none)

/-- Take the next command of a mapped queue: HEAD moves on, and the command starts, or ends BADCMD. -/
def State.takeCmd (s : State) (q : Nat) (ws : List Word) : State :=
  let h := s.hq q
  let bad := h.bad || cmdBad ws
  let c : HostCmd := { num := h.next, words := ws, started := bad }
  let s := s.setHq q { h with todo := h.todo - 1, bad := h.bad && decide (1 < h.todo), next := h.next + 1, cmds := h.cmds ++ [c] }
  let s := s.setQField q 1 0 20 ((s.qHead q + 1) % s.qSize q)
  if bad then s.cmdDone q c.num 8 0 else s.post 0 (cmdEvent ws) { x := q, y := c.num }

/-- A queue takes slot `sl` (R326). -/
def State.mapSlot (s : State) (q sl : Nat) : State :=
  let s := { s with slots := tput s.slots sl q }
  (s.setQField q 3 8 12 sl).setQField q 3 0 2 1

/-- Commands from HEAD up to a value of TAIL (R327): modulo the ring's size, more than it for a TAIL that lies beyond. -/
def State.qAhead (s : State) (q v : Nat) : Nat :=
  let size := s.qSize q
  if v < size then (v + size - s.qHead q % size) % size else v - s.qHead q

/-- TAIL of a mapped queue is written. -/
def State.putTail (s : State) (q v : Nat) : State :=
  let d := s.qAhead q v
  (s.setHq q { s.hq q with todo := d, bad := decide (s.qSize q < d) }).setQField q 1 20 20 v

/-- The umpire core of a slot (R326). -/
def umpireOf (slot : Nat) : Nat := slot % 36

/-- The mapped slots of an umpire core, in its round from the one after the last served. -/
def State.roundOf (s : State) (u : Nat) : List Nat :=
  let last := tget s.umpLast u 0
  let mine := (s.slots.map (·.1)).filter fun sl => umpireOf sl == u
  (mine.filter fun sl => decide (last < sl)) ++ mine.filter fun sl => decide (sl ≤ last)

/-- An umpire core is about to start a command. -/
def State.starting (s : State) (u : Nat) : Bool :=
  s.agenda.any fun p => decide (p.1 ≤ s.time) && umpireOf (s.qSlot p.2.2.x) == u &&
    ((s.hostCmd p.2.2.x p.2.2.y).any fun c => !c.started && cmdEvent c.words == p.2.1)

/-- Try to start the next command of the queue in a slot (R328): once the one before it has started, and behind BARRIER once every earlier
one has completed. A refused or waiting ring read is tried again. -/
def State.tryStart (s : State) (sl : Nat) : State × Bool :=
  let q := tget s.slots sl 0
  let h := s.hq q
  if s.qState q ≠ 1 || h.todo = 0 || h.cmds.any (fun c => !c.started) then (s, false)
  else match s.ringRead q with
    | (s, none) => (s.post 1 .queueWake { x := q, y := bits (s.qWord q 1) 20 20, flag := true }, false)
    | (s, some ws) =>
      if bit (ws.getD 0 0) 8 && !h.cmds.isEmpty then (s, false)
      else (({ s with umpLast := tput s.umpLast (umpireOf sl) sl } : State).takeCmd q ws, true)

/-- Start a command of the first slot of a list that has one to start. -/
def State.startFirst (s : State) : List Nat → State
  | [] => s
  | sl :: r => match s.tryStart sl with
    | (s, true) => s
    | (s, false) => s.startFirst r

/-- The umpire core of a queue's slot serves its mapped slots in round robin, one command at a time (R326). -/
def State.serve (s : State) (q : Nat) : State :=
  let u := umpireOf (s.qSlot q)
  if s.starting u then s else s.startFirst (s.roundOf u)

/-- The lowest free slot. -/
def State.freeHostSlot (s : State) : Option Nat := (List.range 4096).find? fun i => !thas s.slots i

/-- A queue is unmapped and resident from now on, and is paged out once it has been for PAGEAGE ticks (R326). -/
def State.idleQueue (s : State) (q : Nat) : State :=
  (s.setHq q { s.hq q with stamp := s.time }).post s.pageAge.toNat .queuePageOut { x := q, y := s.time }

/-- A wake store to a resident queue: a slot is mapped, or the queue waits for one, with the last TAIL stored. -/
def State.wakeResident (s : State) (q v : Nat) : State :=
  let rest := s.pendWakes.filter fun p => p.1 != q
  if s.qAhead q v = 0 then ({ s with pendWakes := rest } : State).setQField q 1 20 20 v |>.idleQueue q
  else if s.pendWakes.any fun p => p.1 == q then { s with pendWakes := s.pendWakes.map fun p => if p.1 = q then (q, v) else p }
  else match s.freeHostSlot with
    | some sl => ((s.mapSlot q sl).putTail q v).serve q
    | none => { s with pendWakes := s.pendWakes ++ [(q, v)] }

/-- The table of R327, for STATE 0 and 1. -/
def State.wakeStore (s : State) (q v : Nat) : State :=
  if s.qState q = 1 then (s.putTail q v).serve q else s.wakeResident q v

/-- The queues with a descriptor in memory that no wake has reached: they are resident from the store to QTBASE on (log 28). -/
def State.freshQueues (s : State) : List Nat :=
  let b := globalPhys s.qtBase
  (((s.mem.filter fun p => decide (b ≤ p.1) && decide (p.1 < b + 2 ^ 26)).map fun p => (p.1 - b) / 64).eraseDups).filter fun q =>
    s.qState q == 0 && (tfind s.queues q).isNone

/-- QUEUE_PAGE_OUT (R326): a queue that has been unmapped and resident for PAGEAGE ticks; a wake store since then abandons it. Event
operands: x queue, y the TIME since when; or flag: every queue that no wake has reached. -/
def execQueuePageOut (s : State) : Out :=
  let q := s.ev.x
  if s.ev.flag then .next (s.freshQueues.foldl (fun s q => s.setQField q 3 0 2 2) s)
  else if s.qState q = 0 && (s.hq q).stamp = s.ev.y && !s.pendWakes.any (fun p => p.1 == q) then .next (s.setQField q 3 0 2 2) else .next s

/-- A queue with nothing to do gives its slot to the first pending wake (R326, R327). -/
def State.unmapDone (s : State) (q : Nat) : State :=
  let h := s.hq q
  if s.qState q ≠ 1 || h.todo ≠ 0 || !h.cmds.isEmpty then s
  else
    let sl := s.qSlot q
    let s := (({ s with slots := tdel s.slots sl } : State).setQField q 3 0 2 0).idleQueue q
    match s.pendWakes with
    | [] => s
    | (q', v) :: r => ({ s with pendWakes := r } : State).wakeStore q' v

/-- QUEUE_WAKE (R327). Event operands: x queue, y value, z 0 for a store to BLOCK 0x004 and p + 1 for one through the BAR of port p, which
a host-mode port that is up presents (R324); `flag`: the ring read of a mapped queue is tried again. -/
def execQueueWake (s : State) : Out :=
  let q := s.ev.x % 2 ^ 20
  let v := s.ev.y % 2 ^ 20
  let p := tget s.ports (s.ev.z - 1) {}
  if s.ev.flag then .next (s.serve q)
  else if s.ev.z ≠ 0 && (p.memMode || !p.trained) then .next s
  else
    let s := s.setHq q { s.hq q with wake := v }
    if s.qState q ≤ 1 then .next ((s.wakeStore q v).unmapDone q)
    else
      let s1 := s.setHq q { s.hq q with held := (s.hq q).held ++ [v] }
      .next (if s.qState q = 2 then (s1.setQField q 3 0 2 3).post 100000 .queuePageInDone { x := q } else s1)

/-- QUEUE_PAGE_IN_DONE (R327): the queue is resident, and the held wake stores apply in arrival order. -/
def execQueuePageInDone (s : State) : Out :=
  let q := s.ev.x
  if s.qState q ≠ 3 then .next s
  else
    let vs := (s.hq q).held
    let s := (s.setHq q { s.hq q with held := [] }).setQField q 3 0 2 0
    .next ((vs.foldl (fun s v => s.wakeStore q v) s).unmapDone q)

/-! Completion (R329). -/

/-- The completion word. -/
def completionWord (c : HostCmd) (status detail : Nat) : Word := mkWord [(32, bits (c.w 0) 32 32), (16, detail % 2 ^ 16), (0, status)]

/-- Write a word of the completion at an address of module or host memory; false while the access must wait. A refused word is recorded
in the fault log only. -/
def State.putHostWord (s : State) (q : Nat) (a x : Word) : State × Bool :=
  if a.toNat % 8 ≠ 0 then (s.faultLog (s.qParent q) (s.qSrc q 0) 5 a 8 cALIGN.toNat 1, true)
  else if classOf a == .global then
    match s.hostRes q a 8 .write with
    | (s, .ok l) => (s.hostWrite q l.pa (leBytes 8 x.toNat) 1, true)
    | (s, .wait) => (s, false)
    | (s, .refused _) => (s, true)
  else if s.hostLink then ({ s with hostMem := memWrite s.hostMem a.toNat (leBytes 8 x.toNat) }, true)
  else (s, false)

/-- The module status words of a GANG_FAULT (R333), then the completion word. -/
def State.putCompletion (s : State) (q : Nat) (c : HostCmd) (word : Word) : State × Bool :=
  if c.w 7 = 0 then (s, true)
  else
    let ws := (List.range c.mods.length).map fun j => (c.w 7 + BitVec.ofNat 64 (8 + 8 * j), BitVec.ofNat 64 (c.mods.getD j 0))
    (ws ++ [(c.w 7, word)]).foldl (fun acc p => if acc.2 then acc.1.putHostWord q p.1 p.2 else acc) (s, true)

/-- The completion message (R329): a SEND to NOTIFY in PARENT's region. -/
def State.notifyHost (s : State) (q : Nat) (c : HostCmd) (word : Word) : State :=
  let dw := c.w 6
  let region := s.qParent q
  if dw = 0 then s
  else if destBad dw false 0 then s.report region 10 dw
  else
    let l := bits dw 32 14
    let id := s.nextPkt
    (s.inject { id := id, op := .send, src := s.qSrc q 0, agent := 5, dst := (s.rmEntry region l).site, unit := bits dw 29 3, ch := bits dw 10 6,
                region := region, ltile := l, addr := dw, arg1 := word, arg2 := BitVec.ofNat 64 q, priv := 2, srcRegion := region,
                time := s.time }).post 0 .sendArrival { x := id }

/-- A LAUNCH of a zero dimension waits for every earlier command (R331); a LAUNCH's completion for its tasks' writes (R329). -/
def State.completionWaits (s : State) (q : Nat) (c : HostCmd) : Bool :=
  (c.marks && (s.hq q).cmds.any fun x => decide (x.num < c.num)) || c.region.any s.writesLeft

/-- What the completion of a command lets go on. -/
def State.afterCompletion (s : State) (q : Nat) : State :=
  let s := match (s.hq q).cmds.head? with
    | some c => if c.marks then s.post 0 .commandComplete { x := q, y := c.num } else s
    | none => s
  (s.serve q).unmapDone q

/-- COMMAND_COMPLETE (R329): the completion word with release at SYSTEM scope, the message, the interrupt. -/
def execCommandComplete (s : State) : Out :=
  let q := s.ev.x
  match s.hostCmd q s.ev.y with
  | none => .next s
  | some c => match c.fin with
    | none => .next s
    | some (status, detail) =>
      if s.completionWaits q c then .next (if c.marks then s else s.post 1 .commandComplete s.ev)
      else
        let word := completionWord c status detail
        match s.putCompletion q c word with
        | (s, false) => .next (s.post 1 .commandComplete s.ev)
        | (s, true) =>
          let s := s.notifyHost q c word
          let s := if bit (c.w 0) 9 then { s with outbox := s.outbox ++ [.msix q] } else s
          .next ((s.setHq q { s.hq q with cmds := (s.hq q).cmds.filter fun x => x.num != c.num }).afterCompletion q)

/-! Starting a command. -/

/-- The command of the event in hand starts: `k` does its work, and the queue goes on. -/
def startsCmd (s : State) (k : State → Nat → HostCmd → State) : Out :=
  let q := s.ev.x
  match (s.hostCmd q s.ev.y).filter fun c => !c.started with
  | none => .next s
  | some c => .next ((k (s.setCmd q { c with started := true }) q { c with started := true }).serve q)

/-- A command whose first access has to wait starts again one tick later. -/
def startsCmdAt (s : State) (k : State → Nat → HostCmd → Option State) : Out :=
  let q := s.ev.x
  match (s.hostCmd q s.ev.y).filter fun c => !c.started with
  | none => .next s
  | some c => match k (s.setCmd q { c with started := true }) q { c with started := true } with
    | some s => .next (s.serve q)
    | none => .next (s.post 1 (cmdEvent c.words) s.ev)

/-- Logical tile and core that AMSG picks (R332). -/
def State.amsgTarget (s : State) (region a : Word) : Nat × Nat :=
  if classOf a == .role then (bits a 32 14, if bit a 28 then bits a 7 3 else bits a 29 3)
  else ((a >>> 12 ^^^ a >>> 24).toNat % s.rmLen region, bits a 6 3)

/-- AMSG (R332): the message goes as a SEND to the channel; the admission answers. -/
def execAmsg (s : State) : Out :=
  startsCmd s fun s q c =>
    let region := s.qParent q
    let t := s.amsgTarget region (c.w 1)
    let ch := bits (c.w 4) 0 6
    if s.rmLen region ≤ t.1 then s.cmdDone q c.num 6 0
    else
      let id := s.nextPkt
      (s.inject { id := id, op := .send, src := s.qSrc q c.num, agent := 5, dst := (s.rmEntry region t.1).site, unit := t.2, ch := ch,
                  region := region, ltile := t.1, addr := destWord t.1 t.2 ch, arg1 := c.w 2, arg2 := c.w 3, priv := 2, srcRegion := region,
                  time := s.time }).post 0 .sendArrival { x := id }

/-- The record of a SPLICE command: none while its read waits. -/
def State.hostRecord (s : State) (q : Nat) (ea : Word) : State × Option (Except Nat (List Byte)) :=
  if classOf ea != .global then (s, some (.error cPROTECT.toNat))
  else match s.hostRes q ea 16 .read with
    | (s, .wait) => (s, none)
    | (s, .refused c) => (s, some (.error c.toNat))
    | (s, .ok l) =>
      let n := 16 + nbits (leNat (memRead s.mem l.pa 8)) 0 10
      match s.hostRes q ea n .read with
      | (s, .wait) => (s, none)
      | (s, .refused c) => (s, some (.error c.toNat))
      | (s, .ok l) => (s, some (.ok (memRead s.mem l.pa n)))

/-- HOST_SPLICE (R330): the record goes as SPLICE sends it (R306). -/
def execHostSplice (s : State) : Out :=
  startsCmdAt s fun s q c =>
    let dw := c.w 1
    let region := s.qParent q
    let l := bits dw 32 14
    if destBad dw false 0 || s.rmLen region ≤ l || (c.w 2).toNat % 8 ≠ 0 then some (s.cmdDone q c.num 8 0)
    else match s.hostRecord q (c.w 2) with
      | (_, none) => none
      | (s, some (.error cause)) => some (s.cmdDone q c.num 8 cause)
      | (s, some (.ok bs)) =>
        let w := blockWord bs 0
        if headerBad w true then some (s.cmdDone q c.num 8 0)
        else if !s.hasSite region l then
          some ((s.pipeReport region (bits w 48 16) 6 (bits (blockWord bs 1) 32 32) (mkWord [(10, bits dw 10 36)])).cmdDone q c.num 0 0)
        else
          let id := s.nextPkt
          let p : Packet := { id := id, op := .record, src := s.qSrc q 0, agent := 5, dst := (s.rmEntry region l).site, unit := bits dw 29 3,
                              ch := bits dw 10 6, region := region, ltile := l, addr := dw, len := bs.length, arg1 := w, arg2 := blockWord bs 1,
                              data := bs, record := 2, priv := 2, srcRegion := region, time := s.time }
          some (((s.inject p).post 0 p.homeEvent { x := id }).cmdDone q c.num 0 0)

/-- HOST_LEASE (R330, R355). -/
def execHostLease (s : State) : Out :=
  startsCmd s fun s q c =>
    match s.leaseDecide (s.qParent q) (c.w 1) (c.w 2).toNat with
    | (s, code, i) => s.cmdDone q c.num (if code ≤ 1 then 0 else 10) (256 * code + i)

/-! Spatial preemption (R350). -/

/-- The number of COMPUTE sites of a region (R350): those that its entries name, a NOTICED one's too. -/
def State.computeSites (s : State) (region : Word) : Nat :=
  (((List.range (s.rmLen region)).filter fun l => (s.rmEntry region l).state ≤ 1 && (s.rmEntry region l).role = 0).map fun l =>
    (s.rmEntry region l).site).eraseDups.length

/-- The candidates of one victim region, in descending LTILE, never its last COMPUTE site. -/
def State.victimsOf (s : State) (region target : Word) (cmd : Nat × Nat) : List Vacate :=
  let ok := (s.activeTiles region).reverse.filter fun l =>
    let e := s.rmEntry region l
    !e.shared && !e.leased && (s.tileAt e.site).still
  (ok.take (s.computeSites region - 1)).map fun l => { site := (s.rmEntry region l).site, region := region, ltile := l, target := target, cmd := cmd }

/-- Every candidate of a PREEMPT at a priority, in its order. -/
def State.preemptList (s : State) (priority : Nat) (target : Word) (cmd : Nat × Nat) : List Vacate :=
  let rs := (s.regions.map (·.2)).filter fun r => !r.ended && decide (r.priority < priority) && r.id != target
  let key (r : Region) : Nat := r.priority * 2 ^ 20 + (2 ^ 14 - s.computeSites r.id)
  (sortBy key rs).flatMap fun r => s.victimsOf r.id target cmd

/-- Entries that a region can still fill (R350). -/
def State.fillable (s : State) (region : Word) : Nat :=
  let r := s.regionAt region
  ((List.range r.rmLen).filter fun l => (s.rmEntry region l).state = 3).length + (r.rmCap - r.rmLen)

/-- PREEMPT (R350): all K sites are to be vacated, or the command is refused. -/
def execPreempt (s : State) : Out :=
  startsCmd s fun s q c =>
    let k := (c.w 1).toNat
    let vs := s.preemptList (c.w 2).toNat (c.w 3) (q, c.num)
    if vs.length < k || s.fillable (c.w 3) < k then s.cmdDone q c.num 10 0
    else if k = 0 then s.cmdDone q c.num 0 0
    else
      let s := s.setCmd q { c with left := k }
      let s := (vs.take k).foldl (fun s v =>
        let col := s.colAt (colOfSite v.site)
        s.setColAt (colOfSite v.site) { col with vacates := col.vacates ++ [v] }) s
      columns.foldl (fun s col => if (s.colAt col).vacates.isEmpty then s else s.censusRun col) s

/-! SIGNAL and COPY. -/

/-- A SIGNAL that writes: an AMO of R218 at the owner, which counts it (R396), with release at SYSTEM scope. -/
def signalWrite (s : State) (f : Word → Word → Word) : Out :=
  startsCmdAt s fun s q c =>
    match s.umpireRes (s.qCol q) (s.qParent q) (s.qSrc q 0) (c.w 1) (.atomic 8) .both with
    | (_, .wait) => none
    | (s, .refused cause) => some (s.cmdDone q c.num 8 cause.toNat)
    | (s, .ok l) =>
      some (((s.hostWrite q l.pa (leBytes 8 (f (s.readWord l.pa) (c.w 2)).toNat) 2).countAtomic l.pa none).cmdDone q c.num 0 0)

/-- SIGNAL_STORE (R330). -/
def execSignalStore (s : State) : Out := signalWrite s fun _ v => v
/-- SIGNAL_ADD (R330). -/
def execSignalAdd (s : State) : Out := signalWrite s fun x v => x + v

/-- SIGNAL_WAIT (R330): the word is polled. -/
def execSignalWait (s : State) : Out := startsCmd s fun s q c => s.post 0 .signalPoll { x := q, y := c.num }

/-- SIGNAL_POLL (R330): once every 1 µs, by an unsigned comparison. -/
def execSignalPoll (s : State) : Out :=
  let q := s.ev.x
  match (s.hostCmd q s.ev.y).filter fun c => c.fin.isNone with
  | none => .next s
  | some c =>
    match s.hostRes q (c.w 1) 8 .read with
    | (_, .wait) => .next (s.post 1000 .signalPoll s.ev)
    | (s, .refused cause) => .next (s.cmdDone q c.num 8 cause.toNat)
    | (s, .ok l) => if (c.w 2).toNat ≤ s.readNat l.pa 8 then .next (s.cmdDone q c.num 0 0) else .next (s.post 1000 .signalPoll s.ev)

/-- Copy up to `n` bytes of a COPY from position `pos` on: how far it comes, and how it ends. -/
def State.copyBytes (s : State) (q : Nat) (c : HostCmd) : Nat → Nat → State × Nat × HostRes
  | 0, pos => (s, pos, .wait)
  | n + 1, pos =>
    if (c.w 3).toNat ≤ pos then (s, pos, .ok { pa := 0 })
    else match s.hostRes q (c.w 1 + BitVec.ofNat 64 pos) 1 .read with
      | (s, .wait) => (s, pos, .wait)
      | (s, .refused cause) => (s, pos, .refused cause)
      | (s, .ok a) => match s.hostRes q (c.w 2 + BitVec.ofNat 64 pos) 1 .write with
        | (s, .wait) => (s, pos, .wait)
        | (s, .refused cause) => (s, pos, .refused cause)
        | (s, .ok b) => ((s.hostWrite q b.pa (memRead s.mem a.pa 1) 4).setFullRange (classOf (c.w 2 + BitVec.ofNat 64 pos) == .role) b.pa 1).copyBytes q c n (pos + 1)

/-- COPY (R330): the bytes move in ascending order, some in each step. -/
def execCopy (s : State) : Out :=
  let q := s.ev.x
  match (s.hostCmd q s.ev.y).filter fun c => c.fin.isNone with
  | none => .next s
  | some c =>
    match s.copyBytes q c 16 c.pos with
    | (s', pos, r) =>
      let s' := s'.setCmd q { c with started := true, pos := pos }
      let s' := match r with
        | .wait => s'.post 1 .copy s.ev
        | .refused cause => s'.cmdDone q c.num 8 cause.toNat
        | .ok _ => s'.cmdDone q c.num 0 0
      .next (if c.started then s' else s'.serve q)

end Sys2Proof.Machine
end

