-- ==== Sys2Proof/Machine/Immediate.lean ====
section
/-! DEFINITION. Immediate and address instructions, OP 0x04 to 0x0F, and their `.L` forms (R109 to R112). -/

namespace Sys2Proof.Machine

/-! The shared forms, over the immediate `v`. -/

def immAdd (s : State) (a d : BitVec 5) (v : Word) : Out := writeSat s 0 d ((s.rg a).toInt + v.toInt)
def immSlt (s : State) (a d : BitVec 5) (v : Word) : Out := writeG s d (wordOf (decide ((s.rg a).toInt < v.toInt)))
def immSltu (s : State) (a d : BitVec 5) (v : Word) : Out := writeG s d (wordOf (decide ((s.rg a).toNat < v.toNat)))

/-- The shifts need 0 ≤ v ≤ 63; any other value traps ILLEGAL (R109). -/
def immShift (s : State) (v : Word) (k : Nat → Out) : Out := if v.toNat ≤ 63 then k v.toNat else illegal s
def immShl (s : State) (a d : BitVec 5) (v : Word) : Out := immShift s v fun n => writeSat s 0 d ((s.rg a).toInt * 2 ^ n)
def immShr (s : State) (a d : BitVec 5) (v : Word) : Out := immShift s v fun n => writeG s d (s.rg a >>> n)
def immSar (s : State) (a d : BitVec 5) (v : Word) : Out := immShift s v fun n => writeG s d ((s.rg a).sshiftRight n)

/-- R109. -/
def execAddi (i : BitVec 14) (a d : BitVec 5) (s : State) : Out := immAdd s a d (immI s.grp.pfx i)
/-- R109. -/
def execAndi (i : BitVec 14) (a d : BitVec 5) (s : State) : Out := writeG s d (s.rg a &&& immI s.grp.pfx i)
/-- R109. -/
def execOri (i : BitVec 14) (a d : BitVec 5) (s : State) : Out := writeG s d (s.rg a ||| immI s.grp.pfx i)
/-- R109. -/
def execXori (i : BitVec 14) (a d : BitVec 5) (s : State) : Out := writeG s d (s.rg a ^^^ immI s.grp.pfx i)
/-- R109. -/
def execSlti (i : BitVec 14) (a d : BitVec 5) (s : State) : Out := immSlt s a d (immI s.grp.pfx i)
/-- R109. -/
def execSltui (i : BitVec 14) (a d : BitVec 5) (s : State) : Out := immSltu s a d (immI s.grp.pfx i)
/-- R109. -/
def execShli (i : BitVec 14) (a d : BitVec 5) (s : State) : Out := immShl s a d (sext 64 i)
/-- R109. -/
def execShri (i : BitVec 14) (a d : BitVec 5) (s : State) : Out := immShr s a d (sext 64 i)
/-- R109. -/
def execSari (i : BitVec 14) (a d : BitVec 5) (s : State) : Out := immSar s a d (sext 64 i)
/-- R109, R59. -/
def execAddiL (a d : BitVec 5) (e : BitVec 32) (s : State) : Out := immAdd s a d (immL e)
/-- R109, R59. -/
def execAndiL (a d : BitVec 5) (e : BitVec 32) (s : State) : Out := writeG s d (s.rg a &&& immL e)
/-- R109, R59. -/
def execOriL (a d : BitVec 5) (e : BitVec 32) (s : State) : Out := writeG s d (s.rg a ||| immL e)
/-- R109, R59. -/
def execXoriL (a d : BitVec 5) (e : BitVec 32) (s : State) : Out := writeG s d (s.rg a ^^^ immL e)
/-- R109, R59. -/
def execSltiL (a d : BitVec 5) (e : BitVec 32) (s : State) : Out := immSlt s a d (immL e)
/-- R109, R59. -/
def execSltuiL (a d : BitVec 5) (e : BitVec 32) (s : State) : Out := immSltu s a d (immL e)
/-- R109, R59. -/
def execShliL (a d : BitVec 5) (e : BitVec 32) (s : State) : Out := immShl s a d (immL e)
/-- R109, R59. -/
def execShriL (a d : BitVec 5) (e : BitVec 32) (s : State) : Out := immShr s a d (immL e)
/-- R109, R59. -/
def execSariL (a d : BitVec 5) (e : BitVec 32) (s : State) : Out := immSar s a d (immL e)

/-- R110: gD := (sext(imm14) << 32) + zext(bits(gA,31,0)). -/
def execLih (i : BitVec 14) (a d : BitVec 5) (s : State) : Out :=
  writeG s d ((sext 64 i <<< 32) + ((s.rg a).setWidth 32).setWidth 64)

/-- R111: gD := PC + 4·v, where PC is the address of the LEA word itself. -/
def execLea (i : BitVec 14) (d : BitVec 5) (s : State) : Out := writeG s d (s.grp.wpc + 4 * immI s.grp.pfx i)
/-- R111, R59. -/
def execLeaL (d : BitVec 5) (e : BitVec 32) (s : State) : Out := writeG s d (s.grp.wpc + 4 * immL e)

/-- R195: the role-space address of a byte. -/
def roleWord (ltile core space window off : Nat) : Word :=
  BitVec.ofNat 64 (0xFFFC000000000000 + ltile * 2 ^ 32 + core * 2 ^ 29 + space * 2 ^ 28 + window * 2 ^ 24 + off)

/-- R112: compose a global address; a bad sel traps while the group is decoded; must-be-zero bits of gA, or a column above
8 under KIND 2, trap PROTECT. -/
def execGadr (i : BitVec 14) (a d : BitVec 5) (s : State) : Out :=
  let x := s.rg a
  if !gadrSelOk i then .next (s.decodeTrap cILLEGAL s.grp.wpc s.grp.pc0)
  else match bits i 12 2 with
    | 0 =>
      if bits x 46 18 ≠ 0 || bits x 24 8 ≠ 0 then trap s cPROTECT x
      else writeG s d (roleWord (bits x 32 14) (bits i 5 3) (bits i 4 1) (bits i 8 4) (bits x 0 24))
    | 1 =>
      if bits x 44 20 ≠ 0 then trap s cPROTECT x
      else writeG s d (mkWord [(60, 7), (48, s.module % 4096), (44, bits i 0 4), (0, bits x 0 44)])
    | _ =>
      if bits x 60 4 ≠ 0 || 8 < bits x 44 4 then trap s cPROTECT x
      else writeG s d (mkWord [(60, 7), (0, bits x 0 60)])

end Sys2Proof.Machine
end

