-- ==== Sys2Proof/Machine/Launch.lean ====
section
/-! DEFINITION. LAUNCH (R330, R331) and launches that run on several modules (R333). -/

namespace Sys2Proof.Machine

/-! A region is created (R331; log 6). -/

/-- The tenancy rows of a region's entries that name sites (R337). -/
def State.enterRows (s : State) (r : Word) : State :=
  (List.range (s.rmLen r)).foldl (fun s l =>
    let e := s.rmEntry r l
    if 2 ≤ e.state then s
    else
      let t := s.tileAt e.site
      if t.tenants.any fun x => x.region == r && x.ltile == l then s
      else s.setTileAt e.site { t with tenants := t.tenants ++ [({ region := r, ltile := l, slice := e.slice } : Tenant)] }) s

/-- The fetches of a region's tier schedule fall due at NEEDED − LEAD, in ascending NEEDED (R265). -/
def State.enterTiers (s : State) (r : Region) : State :=
  (sortBy (fun i => ((r.tiers[i]?).map (·.needed)).getD 0) (List.range r.tiers.length)).foldl (fun s i =>
    match r.tiers[i]? with
    | none => s
    | some e => s.postAt (Nat.max s.time (e.needed - e.lead)) .tierFetchStart { x := r.id.toNat, y := i }) s

/-- The block of a child: each inherited field that it does not override is its parent's (R69, R280, R334, R385, R403, R412). -/
def Region.inherit (r p : Region) : Region :=
  let pick {α : Type} (f : Inherited) (x y : α) : α := if r.own.contains f then x else y
  { r with
    stackBase := pick .stackBase r.stackBase p.stackBase, stackK := pick .stackK r.stackK p.stackK
    period := pick .period r.period p.period, cycQuota := pick .cycQuota r.cycQuota p.cycQuota
    engQuota := pick .engQuota r.engQuota p.engQuota, reserve := pick .reserve r.reserve p.reserve
    noticeDest := pick .noticeDest r.noticeDest p.noticeDest, noticeBudget := pick .noticeBudget r.noticeBudget p.noticeBudget
    ptRoot := pick .ptRoot r.ptRoot p.ptRoot, tlife := pick .tlife r.tlife p.tlife, wdLimit := pick .wdLimit r.wdLimit p.wdLimit
    fdom := pick .fdom r.fdom p.fdom, supDest := pick .supDest r.supDest p.supDest, supRegion := pick .supRegion r.supRegion p.supRegion
    flogBase := pick .flogBase r.flogBase p.flogBase, flogK := pick .flogK r.flogK p.flogK
    stopBase := pick .stopBase r.stopBase p.stopBase, stopK := pick .stopK r.stopK p.stopK }

/-- A child region of PARENT from a prepared block: the fields that it inherits are its parent's at this TIME, and its tier schedule is
read from memory. -/
def State.createRegion (s : State) (r : Region) (parent : Word) : State :=
  let r := { r.inherit (s.regionAt parent) with parent := parent, ended := false }
  let r := { r with tiers := if r.tierBase = 0 then r.tiers else (List.range (Nat.min 1024 r.tierLen)).map (s.tierWords r) }
  ((s.setRegion r).enterRows r.id).enterTiers r

/-- A launch that was not kept leaves no region behind. -/
def State.removeRegion (s : State) (r : Word) : State :=
  let s := { s with regions := tdel s.regions r.toNat }
  let s := s.unpost fun i v => i == .tierFetchStart && v.x == r.toNat
  let s := { s with tierQ := s.tierQ.filter fun p => p.2.2.x != r.toNat }
  (s.tiles.map (·.1)).foldl (fun s t =>
    let x := s.tileAt t
    if x.tenants.any fun y => y.region == r then
      s.setTileAt t { x with tenants := x.tenants.filter fun y => y.region != r, accounts := x.accounts.filter fun a => a.region != r }
    else s) s

/-! The fields of a LAUNCH (R330). -/

def gridSize (ws : List Word) : Nat := bits (ws.getD 3 0) 0 16 * bits (ws.getD 3 0) 16 16 * bits (ws.getD 3 0) 32 16
def launchMods (ws : List Word) : Nat := bits (ws.getD 3 0) 48 12 + 1
def launchGang (ws : List Word) : Bool := bit (ws.getD 3 0) 60

/-- What task index `i` offers (R331). -/
def launchOffer (ws : List Word) (region parent : Word) (now : Nat) (tag : Nat × Nat) (i : Nat) : Offer :=
  let w4 := ws.getD 4 0
  let cls := BitVec.ofNat 2 (bits (ws.getD 3 0) 61 2)
  let budget := bits w4 32 32
  { entry := ws.getD 2 0, arg1 := BitVec.ofNat 64 i, arg2 := ws.getD 5 0, channel := 0xFE,
    deadline := if cls = 2 then BitVec.allOnes 64 else BitVec.ofNat 64 (now + bits w4 0 32), rem := budget,
    resv := if cls = 0 then 0 else budget, cls := cls, region := region, ltile := if launchGang ws then i else i / 8, priv := 2,
    srcRegion := parent, launch := some tag }

/-- Test one task of a launch, or one gang. -/
def State.admitIndex (s : State) (gang : Bool) (o : Offer) (i : Nat) : State × Nat :=
  let site := (s.rmEntry o.region o.ltile).site
  if gang then s.admitGang site o else s.admitTask (8 * site + i % 8) o

/-- Admit the tasks of a list of indices, each test counting the ones before it (R331): every one is tested, and the code and index are those
of the first refusal. -/
def State.admitAll (s : State) (ws : List Word) (region parent : Word) (now : Nat) (tag : Nat × Nat) : List Nat → State × Option (Nat × Nat)
  | [] => (s, none)
  | i :: r =>
    match s.admitIndex (launchGang ws) (launchOffer ws region parent now tag i) i with
    | (s, 0) => s.admitAll ws region parent now tag r
    | (s, code) => ((s.admitAll ws region parent now tag r).1, some (code, i))

/-- The block of a LAUNCH: none while its read waits; BADCMD with a DETAIL; or the block. -/
def State.launchBlock (s : State) (q : Nat) (ws : List Word) : State × Option (Except Nat Region) :=
  let a := ws.getD 1 0
  if classOf a != .global then (s, some (.error cPROTECT.toNat))
  else match s.hostRes q a 8 .read with
    | (s, .wait) => (s, none)
    | (s, .refused c) => (s, some (.error c.toNat))
    | (s, .ok _) => (s, some (match tfind s.rcbs a.toNat with
      | some r => .ok r
      | none => .error 0))

/-- What the cores noted of the tests made in `s'` (R276), and nothing else of it. -/
def State.keepNotes (s s' : State) : State :=
  s'.cores.foldl (fun s p => s.setCoreAt p.1 { s.coreAt p.1 with lastRej := p.2.lastRej, rejects := p.2.rejects }) s

/-- A module's part of a launch: the indices that it admits, all or none. The code: 0, a refusal code of R276, 8 for BADCMD; and the
entries. A launch that is not kept leaves only what the cores noted of its tests (R276). -/
def State.launchShare (s : State) (ws : List Word) (r : Region) (parent : Word) (tag : Nat × Nat) (is : List Nat) : State × Nat × Nat :=
  let n := gridSize ws
  if s.regionExists r.id || r.rmLen * (if launchGang ws then 1 else 8) < n then (s, 8, 0)
  else match (s.createRegion r parent).admitAll ws r.id parent s.time tag is with
    | (s', none) => (s', 0, if launchGang ws then 8 * is.length else is.length)
    | (s', some (code, _)) => (s.keepNotes s', code, 0)

/-! Several modules (R333). -/

def State.launchAt (s : State) (key : Nat) : Option LaunchSt := tfind s.launches key
def State.setLaunch (s : State) (key : Nat) (x : LaunchSt) : State := { s with launches := tput s.launches key x }

/-- The module of index `j`: modules are numbered upward from the coordinator (log 22). -/
def LaunchSt.moduleOf (x : LaunchSt) (j : Nat) : Nat := x.coord + j

/-- Send a message of a launch to a module: 0 ARM, 1 COMMIT, 2 DISARM, 3 STOP, 4 an answer. -/
def State.tellModule (s : State) (m kind : Nat) (ws : List Word) : State := { s with outbox := s.outbox ++ [.toModule m kind ws] }

/-- Every other module of a launch. -/
def State.tellOthers (s : State) (key : Nat) (x : LaunchSt) (kind : Nat) : State :=
  (rangeFrom 1 (x.mods - 1)).foldl (fun s j => s.tellModule (x.moduleOf j) kind [BitVec.ofNat 64 key]) s

/-- The coordinator starts a launch: each module admits its share. -/
def State.startModules (s : State) (q : Nat) (c : HostCmd) : State :=
  let k := launchMods c.words
  let key := 2 ^ 32 * s.module + s.nextLaunch
  let share := (gridSize c.words + k - 1) / k
  let x : LaunchSt := { words := c.words, parent := s.qParent q, coord := s.module, me := 0, share := share, mods := k, queue := q, cmd := c.num }
  let s := { s with nextLaunch := s.nextLaunch + 1 }
  let down := (rangeFrom 1 (k - 1)).filter fun j => !s.moduleUp (s.qCol q) (x.moduleOf j)
  let s := s.setLaunch key { x with answers := down.map fun j => (j, 99) }
  let s := s.post 0 .launchArm { x := key, y := s.module, w := share, list := c.words.map (·.toNat), val := x.parent }
  let s := (rangeFrom 1 (k - 1)).foldl (fun s j =>
    if down.contains j then s
    else s.tellModule (x.moduleOf j) 0 ([BitVec.ofNat 64 key, BitVec.ofNat 64 j, BitVec.ofNat 64 share, x.parent] ++ c.words)) s
  s.post 50000 .launchArmTimeout { x := key }

/-- An answer of this module to the coordinator of a launch. -/
def State.answerLaunch (s : State) (key : Nat) (x : LaunchSt) (code : Nat) : State :=
  if x.coord = s.module then s.post 0 .launchAnswer { x := key, y := x.me, z := code }
  else s.tellModule x.coord 4 [BitVec.ofNat 64 key, BitVec.ofNat 64 x.me, BitVec.ofNat 64 code]

/-- Change the entries of a launch on every core. -/
def State.mapLaunch (s : State) (key : Nat) (f : RqEntry → RqEntry) : State :=
  { s with cores := s.cores.map fun p =>
      (p.1, { p.2 with rq := p.2.rq.map fun e => if e.launch = some (2 ^ 20, key) then f e else e }) }

/-- The block of a launch as a module reads it that arms its share: the coordinator's umpire core has read it already (`launchBlock`), and
another module's reads it under PARENT's windows there (R447). None while the read waits; no block where it is refused. -/
def State.armBlock (s : State) (x : LaunchSt) : State × Option (Option Region) :=
  let a := x.words.getD 1 0
  if x.coord = s.module then (s, some (tfind s.rcbs a.toNat))
  else if classOf a != .global then (s, some none)
  else match s.umpireRes (bits a 44 4) x.parent 0 a (.block 8) .read with
    | (s, .wait) => (s, none)
    | (s, .refused _) => (s, some none)
    | (s, .ok _) => (s, some (tfind s.rcbs a.toNat))

/-- LAUNCH_ARM (R333): the module admits its share and keeps its entries reserved. Event operands: x launch, y coordinator, z this
module's index, w indices per module, val PARENT, list the command's words. -/
def execLaunchArm (s : State) : Out :=
  let key := s.ev.x
  let ws := s.ev.list.map fun n => BitVec.ofNat 64 n
  let x : LaunchSt := (s.launchAt key).getD
    { words := ws, parent := s.ev.val, coord := s.ev.y, me := s.ev.z, share := s.ev.w, mods := launchMods ws }
  let lo := x.me * x.share
  let is := rangeFrom lo (Nat.min (gridSize x.words) (lo + x.share) - lo)
  match s.armBlock x with
  | (_, none) => .next (s.post 1 .launchArm s.ev)
  | (s, some none) => .next (s.answerLaunch key x 8)
  | (s, some (some r)) =>
    match s.launchShare x.words r x.parent (2 ^ 20, key) is with
    | (s, 0, n) =>
      let x := { x with region := r.id, left := n }
      .next (((s.setLaunch key x).mapLaunch key fun e => { e with armed := true }).answerLaunch key x 0)
    | (s, code, _) => .next (s.answerLaunch key x code)

/-- LAUNCH_COMMIT (R333): the module starts its tasks and acknowledges. -/
def execLaunchCommit (s : State) : Out :=
  let key := s.ev.x
  match s.launchAt key with
  | none => .next s
  | some x =>
    let s := (s.setLaunch key { x with phase := 1 }).mapLaunch key fun e => { e with armed := false }
    let s := s.cores.foldl (fun s p => s.post 0 .dispatch { x := p.1 }) s
    let s := s.answerLaunch key x 16
    .next (if x.left = 0 then s.answerLaunch key x 17 else s).watchLinks

/-- LAUNCH_DISARM (R333): the module releases its reservation. -/
def execLaunchDisarm (s : State) : Out :=
  let key := s.ev.x
  match s.launchAt key with
  | none => .next s
  | some x =>
    let es := s.cores.flatMap fun p => (p.2.rq.filter fun e => e.launch = some (2 ^ 20, key)).map fun e => (p.1, e)
    let s := es.foldl (fun s p => s.freeEntry p.1 p.2) s
    let s := s.setLaunch key { x with phase := 2, left := 0 }
    .next (if x.region = 0 then s else s.removeRegion x.region)

/-- The launch is over on the coordinator. -/
def State.endLaunch (s : State) (key : Nat) (x : LaunchSt) (status detail : Nat) (mods : List Nat) : State :=
  let s := s.setLaunch key { x with phase := 2 }
  let s := match s.hostCmd x.queue x.cmd with
    | some c => s.setCmd x.queue { c with mods := mods, region := if x.phase = 1 then some x.region else none }
    | none => s
  s.cmdDone x.queue x.cmd status detail

/-- Every module is sent DISARM. -/
def State.disarmAll (s : State) (key : Nat) (x : LaunchSt) : State := (s.tellOthers key x 2).post 0 .launchDisarm { x := key }

/-- LAUNCH_ANSWER (R333), at the coordinator: z is 0 for ARMED, a refusal code, 16 for a COMMIT acknowledgement, 17 once every task of
the share has ended, and every write of them is performed (R329). -/
def execLaunchAnswer (s : State) : Out :=
  let key := s.ev.x
  match s.launchAt key with
  | none => .next s
  | some x =>
    if s.ev.z = 17 && s.ev.y = x.me && x.region ≠ 0 && s.writesLeft x.region then .next (s.post 1 .launchAnswer s.ev)
    else if x.coord ≠ s.module then .next (if s.ev.z = 17 then s.answerLaunch key x 17 else s)
    else if x.phase = 0 then
      if s.ev.z ≠ 0 then .next (if s.ev.z < 16 then (s.disarmAll key x).endLaunch key x s.ev.z 0 [] else s)
      else
        let x := { x with answers := tput x.answers s.ev.y 0 }
        if (List.range x.mods).all fun j => tfind x.answers j = some 0 then
          .next ((((s.setLaunch key { x with phase := 1 }).tellOthers key x 1).post 0 .launchCommit { x := key }).post 50000
            .launchCommitTimeout { x := key })
        else .next (s.setLaunch key x)
    else if x.phase = 1 then
      let x := if s.ev.z = 16 then { x with acks := sinsert x.acks s.ev.y } else if s.ev.z = 17 then { x with ended := sinsert x.ended s.ev.y } else x
      if x.acks.length = x.mods && x.ended.length = x.mods then .next (s.endLaunch key x 0 0 [])
      else .next (s.setLaunch key x)
    else .next s

/-- LAUNCH_ARM_TIMEOUT (R333): a module has not answered within 50 µs; every module is sent DISARM. -/
def execLaunchArmTimeout (s : State) : Out :=
  let key := s.ev.x
  match s.launchAt key with
  | none => .next s
  | some x =>
    if x.phase ≠ 0 then .next s
    else
      let st := (List.range x.mods).map fun j => match tfind x.answers j with
        | some 0 => 0
        | some 99 => 3
        | _ => 1
      .next ((s.disarmAll key x).endLaunch key x 9 (st.filter (· != 0)).length st)

/-- A stop message of the whistle tree to a module; one whose link is dead is held (R333, R414). -/
def State.stopModule (s : State) (col m d : Nat) : State :=
  let ws := [BitVec.ofNat 64 d]
  if s.moduleUp col m then s.tellModule m 3 ws else { s with heldStops := s.heldStops ++ [(m, ws)] }

/-- LAUNCH_COMMIT_TIMEOUT (R333): an acknowledgement is missing 50 µs after COMMIT; the region's fault domain is whistled on every
module. -/
def execLaunchCommitTimeout (s : State) : Out :=
  let key := s.ev.x
  match s.launchAt key with
  | none => .next s
  | some x =>
    if x.phase ≠ 1 || (List.range x.mods).all fun j => x.acks.contains j then .next s
    else
      let st := (List.range x.mods).map fun j => if x.acks.contains j then 0 else 1
      let d := s.fdomOf x.region
      let s := (rangeFrom 1 (x.mods - 1)).foldl (fun s j => s.stopModule (s.qCol x.queue) (x.moduleOf j) d) (s.stopDomain d)
      .next (s.endLaunch key x 9 (st.filter (· != 0)).length st)

/-- LAUNCH (R331, R333). -/
def execLaunch (s : State) : Out :=
  startsCmdAt s fun s q c =>
    if gridSize c.words = 0 then some ((s.setCmd q { c with marks := true }).cmdDone q c.num 0 0)
    else match s.launchBlock q c.words with
      | (_, none) => none
      | (s, some (.error detail)) => some (s.cmdDone q c.num 8 detail)
      | (s, some (.ok r)) =>
        if 1 < launchMods c.words then some (s.startModules q c)
        else match s.launchShare c.words r (s.qParent q) (q, c.num) (List.range (gridSize c.words)) with
          | (s, 0, n) => some (s.setCmd q { c with left := n, region := some r.id })
          | (s, code, _) => some (s.cmdDone q c.num code 0)

end Sys2Proof.Machine
end

