-- ==== Sys2Proof/Machine/LongAcc.lean ====
section
/-! DEFINITION. The long accumulator, OP 0x2D (R98, R135 to R142). -/

namespace Sys2Proof.Machine

/-- The checks of R136 on an accumulator address; `rd` where its words are read; `i` is issued again when a wait ends. -/
def withAcc (s : State) (ea : Word) (rd : Bool) (i : Instr) (go : State → Nat → Out) : Out :=
  if ea.toNat % 8 ≠ 0 then trap s cALIGN ea
  else match classOf ea with
    | .paged =>
      match s.translateAt s.coreNo s.ctx.region s.ctx.priv ea.toNat .both with
      | (s, .bad c) => trap s c ea
      | (s, .moving) => park s i
      | (s, .ok _ _) => trap s cPROTECT ea
    | .role =>
      if bits ea 32 14 ≠ s.ctx.ltile || bits ea 29 3 ≠ s.coreNo % 8 || bits ea 24 5 ≠ 0 then trap s cPROTECT ea
      else match s.resolveNow s.me ea (.block 48) (if rd then .both else .write) with
        | (s, .bad c v) => trap (s.logBad s.me ea (.block 48) c) c v
        | (s, .err c v) => trap (s.logRefused s.me ea 48 c) c v
        | (s, .hold) => park s i
        | (s, .ok l) => if s.mustWait s.cur l.pa 48 then park s i else go s l.pa
    | _ => trap s cPROTECT ea

/-- The accumulator at a location, as an integer (R98). -/
def State.readAcc (s : State) (pa : Nat) : Int := sint 384 (s.readNat pa 48)

/-- Write the words of an accumulator that differ (R139). -/
def State.writeAcc (s : State) (pa : Nat) (x : Int) : State :=
  let n := (BitVec.ofInt 384 x).toNat
  (List.range 6).foldl (fun s k =>
    if s.readNat (pa + 8 * k) 8 = nbits n (64 * k) 64 then s
    else s.writeHome s.ctx.region s.cur 0 (pa + 8 * k) (leBytes 8 (nbits n (64 * k) 64)) 0 0 s.time) s

/-- The sum in the range of LA384, and its flag (R139). -/
def accSum (sat : Bool) (x : Int) : Int × BitVec 6 :=
  let r := clampS 384 x
  if r.2 then (if sat then (r.1, flSAT) else (x, flOF)) else (x, 0)

/-- Write all six words of an accumulator (R138, R141). -/
def State.writeAccAll (s : State) (pa : Nat) (x : Int) : State :=
  let n := (BitVec.ofInt 384 x).toNat
  (List.range 6).foldl (fun s k => s.writeHome s.ctx.region s.cur 0 (pa + 8 * k) (leBytes 8 (nbits n (64 * k) 64)) 0 0 s.time) s

/-- R138: zero in one cycle; nothing is read. -/
def execXclr (a : BitVec 5) (s : State) : Out :=
  withAcc s (s.rg a) false (.xclr a) fun s pa => done (s.writeAccAll pa 0)

/-- The value of R139: its bits by TYPE. -/
def xaccVal (t : BitVec 5) (x : Word) : FNum :=
  match t.toNat with
  | 0 => F32.decode (x.toNat % 2 ^ 32)
  | 1 => F64.decode x.toNat
  | _ => numOfInt x.toInt

/-- The words of an accumulator `a` that adding `q` reads (R140): from the one with the lowest set bit of |q| through the highest that |q|
overlaps or that a carry or borrow changes; none for 0. -/
def accReads (a q : Int) : List Nat :=
  if q = 0 then []
  else
    let n := q.natAbs
    let word (x : Int) (k : Nat) : Nat := nbits (BitVec.ofInt 384 x).toNat (64 * k) 64
    let touched (k : Nat) : Bool := n / 2 ^ (64 * k) != 0 || word a k != word (a + q) k
    (List.range 6).filter fun k => n % 2 ^ (64 * (k + 1)) != 0 && (rangeFrom k (6 - k)).any touched

/-- R139, R140: add a value exactly; only the words that it needs are read, and bad data among them traps (R267). -/
def execXacc (b a t : BitVec 5) (s : State) : Out :=
  if 2 < t.toNat then illegal s
  else withAcc s (s.rg a) false (.xacc b a t) fun s pa =>
    match xaccVal t (s.rg b) with
    | .nan _ => withFlags s flNV done
    | .inf _ => withFlags s flOF done
    | .fin n m e =>
      let q := roundInt s.rmode.toNat n m (e + 160)
      let r := accSum s.grp.pfx.sat (s.readAcc pa + q.1)
      if (accReads (s.readAcc pa) q.1).any fun k => s.poisoned (pa + 8 * k) 8 then trap s cPOISON (s.rg a)
      else withFlags s ((if q.2 then flNX else 0) ||| r.2) fun s => done (s.writeAcc pa r.1)

/-- R141: the sum of two accumulators. The destination's address is checked before the source's, and the overlap of the two blocks
after every check of both, a place that R136 does not give (log 18). -/
def execXmerge (a d : BitVec 5) (s : State) : Out :=
  let i : Instr := .xmerge a d
  withAcc s (s.rg d) true i fun s pd =>
    withAcc s (s.rg a) true i fun s pa =>
      if pd ≠ pa && pd < pa + 48 && pa < pd + 48 then trap s cPROTECT (s.rg d)
      else
        let r := accSum s.grp.pfx.sat (s.readAcc pd + s.readAcc pa)
        withFlags s r.2 fun s => done (s.writeAccAll pd r.1)

/-- R142: round the accumulator out. -/
def execXrnd (t a d : BitVec 5) (s : State) : Out :=
  if 1 < t.toNat then illegal s
  else withAcc s (s.rg a) true (.xrnd t a d) fun s pa =>
    let x := s.readAcc pa
    let f := if t = 0 then F32 else F64
    writeF s d (f.ofArith s.rmode.toNat s.grp.pfx.sat (.fin (decide (x < 0)) x.natAbs (-160)))

end Sys2Proof.Machine
end

