-- ==== Sys2Proof/Machine/Service.lean ====
section
/-! DEFINITION. Bring-up, the management port, power, CXL ports, links, containment resets, the time base (R22, R86, R379 to R384, R424 to
R427, R433 to R435), and stores to module registers (R6, R194). -/

namespace Sys2Proof.Machine

/-! Bring-up (R424 to R426). -/

/-- MODULE_RESET (R424): every item of state goes to its reset value, and self-test runs; what lies outside the module stays. Event
operands: flag the self-test passed, else x UNIT, y DETAIL, z COLUMN; list the sites that it found bad, bytes the boot image. -/
def execModuleReset (s : State) : Out :=
  let ev := s.ev
  let tiles := (s.tiles.filter fun p => p.2.shipOff).map fun p => (p.1, ({ shipOff := true } : Tile))
  let s : State := { State.reset with
    module := s.module, hostMem := s.hostMem, tiles := tiles, freeCtr := s.freeCtr, delays := s.delays,
    outbox := s.outbox, ev := ev, paceCycles := s.paceCycles, paceTicks := s.paceTicks,
    agenda := s.agenda.filter fun p => p.2.1 == .statusRequest || p.2.1 == .moduleReset || p.2.1 == .attestationReport }
  if ev.flag then .next ({ s with bootPhase := 1 }.post 0 .harvest { list := ev.list, bytes := ev.bytes })
  else .next (s.enterSafe { phase := 1, unit := ev.x, column := ev.z, detail := BitVec.ofNat 64 ev.y, time := s.time })

/-- All the sites of the module. -/
def allSites : List Nat := List.range 12960

/-- Bring-up fails in a phase (R424, R425). -/
def State.bootFails (s : State) (phase unit : Nat) (detail : Word) : State :=
  s.enterSafe { phase := phase, unit := unit, detail := detail, time := s.time }

/-- The periodic work of the columns and of the governor, which runs from phase 2 on (R338, R433). -/
def State.periodic (s : State) : State :=
  (columns.foldl (fun s c => (s.post 512 .scoutSample { x := c }).post 524288 .scoutWindowEnd { x := c }) s).post 10000 .governorStep {}

/-- HARVEST (R424): failing and fused sites are OFF, the others BULLPEN, and TIME starts at 0. The UNIT of a module with too few sites
is a free value. Event operand: list the failing sites. -/
def execHarvest (s : State) : Out :=
  if s.bootPhase ≠ 1 then .next s
  else
    let off := allSites.filter fun t => s.ev.list.contains t || (s.tileAt t).shipOff
    let s := off.foldl (fun s t => s.setTileAt t { s.tileAt t with st := .off }) s
    let s := { s with time := 0, slew := 0, harvested := off.length }
    if 12600 ≤ allSites.length - off.length then .next (({ s with bootPhase := 2 } : State).periodic.post 0 .bootFetch { bytes := s.ev.bytes })
    else .next (s.free.2.bootFails 2 (bits s.free.1 0 8) (BitVec.ofNat 64 (allSites.length - off.length)))

/-- A module link is live. -/
def State.anyLink (s : State) : Bool := columns.any fun c => (List.range 4).any fun l => tget (s.colAt c).linksUp l true

/-- BOOT_FETCH (R424): the image over the first live module link; none where it cannot be read. Event operand: bytes the image. -/
def execBootFetch (s : State) : Out :=
  if s.bootPhase ≠ 2 then .next s
  else if !s.anyLink then .next (s.bootFails 3 2 0)
  else match s.ev.bytes with
    | none => .next (s.bootFails 3 6 0)
    | some bs => .next ({ s with bootPhase := 3, bootImage := some bs }.post 0 .bootVerify {})

/-- The physical address of offset `a` of the column 0 DRAM of a module, where a boot image is loaded (R426). -/
def bootPhys (module : Nat) (a : Word) : Nat := module * 2 ^ 48 + a.toNat % 0x1800000000

/-- The ROM routine verifies an image (R426): its digest joins those of the images verified since reset (R427). -/
def State.noteImage (s : State) (bs : List Byte) : State := { s with verified := s.verified ++ Config.sm3 (Config.bootBody bs) }

/-- BOOT_VERIFY (R426): a verified image is loaded and entered at M on umpire core 0 of column 0; otherwise phase 4 fails with UNIT 7.
Once firmware runs, it is the ROM routine that firmware calls for a further image. Event operand: bytes that image. -/
def execBootVerify (s : State) : Out :=
  if s.bootPhase = 5 then
    match s.ev.bytes with
    | some bs => .next (if Config.sm2Check Config.keyDigest bs then s.noteImage bs else s)
    | none => .next s
  else if s.bootPhase ≠ 3 then .next s
  else match s.bootImage with
    | none => .next (s.bootFails 4 7 0)
    | some bs =>
      if Config.sm2Check Config.keyDigest bs then
        let s := (s.writeBytes (bootPhys s.module (Config.bootLoad bs)) (Config.bootBody bs)).noteImage bs
        .next { s with bootPhase := 5, umpirePc := some (Config.bootEntry bs) }
      else .next (s.bootFails 4 7 0)

/-! The management port (R425, R427). -/

/-- The 32 bytes of a failure record. -/
def FailRec.words (r : FailRec) : List Word :=
  [mkWord [(56, r.phase), (48, r.unit), (44, r.column), (0, bits r.detail 0 32)], BitVec.ofNat 64 r.time, 0, 0]

/-- STATUS_REQUEST (R425). -/
def execStatusRequest (s : State) : Out :=
  .next { s with outbox := s.outbox ++ [.status ((s.failRec.map FailRec.words).getD [])] }

/-- ATTESTATION_REPORT (R427): serial number, TIME, the digests in load order, the harvest count, the nonce, and the signature. Event
operand: list the nonce's four words. -/
def execAttestationReport (s : State) : Out :=
  let ws := [Config.serial, BitVec.ofNat 64 s.time] ++ s.verified ++ [BitVec.ofNat 64 s.harvested] ++
    (s.ev.list.take 4).map fun n => BitVec.ofNat 64 n
  .next { s with outbox := s.outbox ++ [.report (ws ++ Config.sm2Sign (ws.flatMap fun w => leBytes 8 w.toNat))] }

/-! Power (R433 to R435). The governor is the module's; its fields are held with column 0. -/

/-- Set FSTEP, and CYPERTICK of every core with it. -/
def State.setFstep (s : State) (f : Nat) : State :=
  let c := s.colAt 0
  let s := s.setColAt 0 { c with fstep := f, throttled := decide (f < 108) }
  if f = c.fstep then s
  else { s with cptBase := BitVec.ofNat 32 (f * 25 * 65536 / 1000), cores := s.cores.map fun p => (p.1, { p.2 with cycPerTick := none }) }

/-- FSTEP after a step of the governor. -/
def Column.nextFstep (c : Column) : Nat :=
  if c.thermal then 54
  else if c.limit < c.draw then Nat.max 54 (c.fstep - 1)
  else if 100 * c.draw < 95 * c.limit then Nat.min 108 (c.fstep + 1)
  else c.fstep

/-- GOVERNOR_STEP (R433): every 10 µs. Event operand: x the mean input power. -/
def execGovernorStep (s : State) : Out :=
  let c := { s.colAt 0 with draw := s.ev.x % 2 ^ 16 }
  let s := ((s.setColAt 0 c).setFstep c.nextFstep).unpost fun i _ => i == .governorStep
  .next (s.post 10000 .governorStep { x := s.ev.x })

/-- THERMAL_THROTTLE (R435): a die above 95 °C. -/
def execThermalThrottle (s : State) : Out := .next ((s.setColAt 0 { s.colAt 0 with thermal := true }).setFstep 54)

/-- THERMAL_RECOVERY (R435): all dies are below 90 °C; the governor raises FSTEP again. -/
def execThermalRecovery (s : State) : Out := .next (s.setColAt 0 { s.colAt 0 with thermal := false })

/-- THERMAL_SHUTDOWN (R435): a die above 105 °C. Event operand: x column. -/
def execThermalShutdown (s : State) : Out := .next (s.enterSafe { phase := 5, unit := 9, column := s.ev.x, detail := 0, time := s.time })

/-! CXL ports (R21, R22, R324). -/

def State.port (s : State) (p : Nat) : CxlPort := tget s.ports p {}
def State.setPort (s : State) (p : Nat) (x : CxlPort) : State := { s with ports := tput s.ports p x }

/-- A port's mode is set before it trains (R324); a later store leaves it. -/
def State.setPortMode (s : State) (p : Nat) (mem : Bool) : State :=
  if (s.port p).trained || (s.port p).retrainSince.isSome then s else s.setPort p { s.port p with memMode := mem }

/-- The rate that a port trains to: 0 to 6 for 2.5, 5, 8, 16, 32, 64, 128 GT/s; the last only with a PCIe 7.0-class partner. -/
def trainRate (rates : List Nat) (phy7 : Bool) : Option Nat := minBy (fun r => 6 - r) (rates.filter fun r => r ≤ 5 || (r = 6 && phy7))

/-- The width that a port falls back to; none below ×4. -/
def trainLanes (n : Nat) : Option Nat := if 16 ≤ n then some 16 else if 8 ≤ n then some 8 else if 4 ≤ n then some 4 else none

/-- CXL_LINK_TRAINING (R22): the highest common rate, at the widest width that works. Event operands: x port, list the partner's rates
(see `trainRate`), flag its PHY class, y working lanes, z the protocols that the peer negotiates: bit 0 CXL.io, bit 1 CXL.mem, bit 2
CXL.cache, which is refused (R21). A port narrower than ×4 is held down. -/
def execCxlLinkTraining (s : State) : Out :=
  if 12 ≤ s.ev.x then .next s
  else
    let p := s.port s.ev.x
    match trainRate s.ev.list s.ev.flag, trainLanes s.ev.y with
    | some r, some n => .next (s.setPort s.ev.x { p with
        trained := true, heldDown := false, rate := r, lanes := n, protos := s.ev.z % 4, retrainSince := none, timedOut := false }).wakeHeld
    | _, _ => .next (s.setPort s.ev.x { p with trained := false, heldDown := decide (s.ev.y < 4), rate := 0, lanes := s.ev.y, protos := 0 })

/-- CXL_LINK_LOSS (R22): the port retrains from the lowest rate, and CXL.mem accesses wait for at most 100 ms. -/
def execCxlLinkLoss (s : State) : Out :=
  let p := s.port s.ev.x
  if 12 ≤ s.ev.x then .next s
  else .next ((s.setPort s.ev.x { p with trained := false, rate := 0, retrainSince := some s.time, timedOut := false }).post 100000000 .cxlMemTimeout
    { x := s.ev.x })

/-- CXL_MEM_TIMEOUT (R22): accesses that have waited 100 ms draw error responses. -/
def execCxlMemTimeout (s : State) : Out :=
  let p := s.port s.ev.x
  match (if 12 ≤ s.ev.x then none else p.retrainSince) with
  | some t => if t + 100000000 ≤ s.time then .next (s.setPort s.ev.x { p with timedOut := true }).wakeHeld else .next s
  | none => .next s

/-! Links (R379 to R383). -/

def State.link (s : State) (site d : Nat) : Link := tget (s.tileAt site).links d {}
def State.setLink (s : State) (site d : Nat) (l : Link) : State :=
  s.setTileAt site { s.tileAt site with links := tput (s.tileAt site).links d l }

/-- LANE_SPARE (R380): after 16 failed replays the failing lanes are spared, or with no spare lane left the link is dead. Event operands:
x site, y link as LINK_DEAD names it, flag whether a spare lane is left, list the packets cut off where none is. -/
def execLaneSpare (s : State) : Out :=
  let l := s.link s.ev.x s.ev.y
  if s.ev.flag then .next (s.setLink s.ev.x s.ev.y { l with spared := l.spared + 1 })
  else .next (s.post 0 .linkDead { x := s.ev.x, y := s.ev.y, list := s.ev.list })

/-- The sender of a window compares an audit's FREED with CREDRET (R382): the same D in two audits in a row repairs the window. -/
def VcWin.audit (v : VcWin) : VcWin × Bool :=
  let d := sint 32 ((v.freed + 2 ^ 32 - v.credRet % 2 ^ 32) % 2 ^ 32)
  let next := (v.lastSeq.map fun n => n + 1) = some v.auditNo
  if d ≠ 0 && next && v.lastD = d then
    ({ v with credits := v.credits + d, credRet := v.freed % 2 ^ 32, lastSeq := some v.auditNo, lastD := 0 }, true)
  else ({ v with lastSeq := some v.auditNo, lastD := d }, false)

/-- The audit of a window after this one comes 4,096 base-die cycles later (R382). -/
def State.nextAudit (s : State) (x y z : Nat) : State :=
  if s.agenda.any fun p => p.2.1 == .linkAudit && p.2.2.flag && p.2.2.x == x && p.2.2.y == y && p.2.2.z == z then s
  else s.post 2048 .linkAudit { x := x, y := y, z := z, flag := true }

/-- LINK_AUDIT (R382). Event operands: x site, y direction, z virtual channel; flag the next audit is due, of what the window holds; else w
the audit's number, v FREED, list the sender's credits and CREDRET at this moment, where beats have moved them since. -/
def execLinkAudit (s : State) : Out :=
  let l := s.link s.ev.x s.ev.y
  let old := tget l.vcs s.ev.z {}
  let v : VcWin := if s.ev.flag then { old with auditNo := old.auditNo + 1 } else
    { old with auditNo := s.ev.w, freed := s.ev.v, credits := ((s.ev.list[0]?).map Int.ofNat).getD old.credits,
               credRet := (s.ev.list[1]?).getD old.credRet }
  .next ((s.setLink s.ev.x s.ev.y { l with
    repairs := l.repairs + b2n v.audit.2, vcs := tput l.vcs s.ev.z v.audit.1 }).nextAudit s.ev.x s.ev.y s.ev.z)

/-- An ESCAPE word with every entry that uses a port replaced from `x`. -/
def escapeWith (old x : Word) (port : Nat) : Word :=
  mkWord ((List.range 16).map fun j => (4 * j, if bits old (4 * j) 4 = port then bits x (4 * j) 4 else bits old (4 * j) 4))

/-- The umpire cores of a column recompute the entries that use a dead link (R383): ESCAPE entries of router `r` for a port, MODROUTE
entries for a module link. What they write is a free value. -/
def State.reEscape (s : State) (col r port : Nat) : State :=
  (List.range 810).foldl (fun s w =>
    let c := s.colAt col
    let old := tget c.escapes (810 * r + w) (escapeReset col r w)
    if (List.range 16).any fun j => bits old (4 * j) 4 = port then
      s.free.2.setColAt col { c with escapes := tput c.escapes (810 * r + w) (escapeWith old s.free.1 port) }
    else s) s
def State.reModRoute (s : State) (col dead l : Nat) : State :=
  (s.colAt col).modRoute.foldl (fun s p =>
    let c := s.colAt col
    if nbits p.2 8 1 = 1 && nbits p.2 4 4 = dead && nbits p.2 0 2 = l then
      s.free.2.setColAt col { c with modRoute := tput c.modRoute p.1 (bits s.free.1 0 9 - 4 * bits s.free.1 2 2) }
    else s) s

/-- The packets that a loss cut off are dropped and reported LOST (R249, R383, R384). -/
def State.loseAll (s : State) (ids : List Nat) : State :=
  ids.foldl (fun s id => match s.pkt id with
    | some p => s.losePkt p
    | none => s) s

/-- Every column's NIs pause, for at most 200 µs (R383). -/
def State.pauseAll (s : State) : State :=
  columns.foldl (fun s c => (s.setColAt c { s.colAt c with injPause := true }).post 200000 .injctlPause { x := c }) s

/-- The link of a direction crosses a seam between columns, where two links join each pair of sites (R20). -/
def seamLink (site d : Nat) : Bool :=
  match d with
  | 0 => txOf site == 39
  | 1 => txOf site == 0
  | 2 => tyOf site == 35
  | _ => tyOf site == 0

/-- BASE of LINKSTATE after link `w` of direction `d` is dead: its own bit at a seam, the lower bit for link 0; the direction's two
where one link joins the sites (R20, R379, R383). -/
def baseWithout (old site d w : Nat) : Nat :=
  let sh := 6 - 2 * d
  if seamLink site d then old - nbits old (sh + w) 1 * 2 ^ (sh + w) else old - nbits old sh 2 * 2 ^ sh

/-- LINK_DEAD (R383). Event operands: x site, y direction (0 +x, 1 −x, 2 +y, 3 −y; 4 more for the second link of a seam pair; 8 + l module
link l of the site's column; 12 more for an express link, which no escape route uses), list the packets cut off on the link. -/
def execLinkDead (s : State) : Out :=
  let col := colOfSite s.ev.x
  let r := s.ev.x % 1440
  let c := s.colAt col
  let ids := s.ev.list
  if s.ev.y < 8 then
    let d := s.ev.y % 4
    let old := tget c.linkState r 0xFF
    let s := s.setColAt col { c with linkState := tput c.linkState r (baseWithout old s.ev.x d (s.ev.y / 4)) }
    let s := s.setLink s.ev.x s.ev.y { s.link s.ev.x s.ev.y with dead := true }
    let port := d + 1
    .next (((s.loseAll ids).pauseAll).reEscape col r port)
  else if 12 ≤ s.ev.y then .next ((s.setLink s.ev.x s.ev.y { s.link s.ev.x s.ev.y with dead := true }).loseAll ids)
  else
    let l := s.ev.y - 8
    let s := s.setColAt col { c with linksUp := tput c.linksUp l false }
    let s := columns.foldl (fun s k => s.reModRoute k col l) ((s.loseAll ids).pauseAll)
    .next s.watchLinks

/-- The packets that stand by in the NIs of a column leave them (R379). -/
def State.letGo (s : State) (col : Nat) : State :=
  { s with net := s.net.map fun p => { p with ni := p.ni && p.srcCol != col } }

/-- INJCTL_PAUSE (R379): while PAUSE is 1 new packets stand by in their NIs, and the clear sends them. Event operands: x column, flag
PAUSE. -/
def execInjctlPause (s : State) : Out :=
  let s := s.setColAt s.ev.x { s.colAt s.ev.x with injPause := s.ev.flag }
  .next (if s.ev.flag then s else (s.letGo s.ev.x).wakeHeld)

/-- MODULE_LINK_RESTORED (R333, R414): stop messages held for the link go out, and the 50 µs of a coordinator that is reached again
count no further. Event operands: x column, y link. -/
def execModuleLinkRestored (s : State) : Out :=
  let c := s.colAt s.ev.x
  let s := (s.setColAt s.ev.x { c with linksUp := tput c.linksUp s.ev.y true }).wakeHeld
  let s := s.unpost fun i e => i == .linkLossStop && s.launches.any fun p => p.2.region.toNat == e.x && s.linkTo p.2.coord
  let go := s.heldStops.filter fun p => s.moduleUp s.ev.x p.1
  .next { s with heldStops := s.heldStops.filter fun p => !s.moduleUp s.ev.x p.1, outbox := s.outbox ++ go.map fun p => .toModule p.1 3 p.2 }

/-! Containment resets (R384). -/

/-- A core after a reset of its tile: its streams go on in sequence, its counters count on (R396: they are 0 at module reset alone), and
the port keeps the credit requests (R384). -/
def Core.contained (k : Core) : Core :=
  { streams := k.streams, creditReqs := k.creditReqs, cycles := k.cycles, groups := k.groups, occupied := k.occupied, msgSent := k.msgSent,
    msgRecv := k.msgRecv, preempts := k.preempts, rejects := k.rejects, dlMiss := k.dlMiss }

/-- TILE_RESET (R384): the tile's cores and engines are reset; its router port, with windows, tenancy rows, tile-walk engine and held
packets, and the site's state are not. Packets that the tile had partly injected or received are lost. Its entries have ended. Event
operands: x site, list those packets. -/
def execTileReset (s : State) : Out :=
  let site := s.ev.x
  let s := s.loseAll s.ev.list
  let es := (coresOf site).flatMap fun k => (s.coreAt k).rq.map fun e => (k, e)
  let s := es.foldl (fun s p => s.dropEntry p.1 p.2) s
  let s := (rangeFrom (32 * site) 32).foldl (fun s c => s.setCtxAt c {}) s
  let s := (coresOf site).foldl (fun s k => s.setCoreAt k (s.coreAt k).contained) s
  let t := s.tileAt site
  .next (s.setTileAt site
    { st := t.st, leaving := t.leaving, faults := t.faults, winFaults := t.winFaults, shipOff := t.shipOff, tenants := t.tenants, tw := t.tw, twNext := t.twNext,
      permits := t.permits, twTlb := t.twTlb, atomics := t.atomics, atomLast := t.atomLast, links := t.links, heldPkts := t.heldPkts,
      resetting := true })

/-- The credit requests that a core kept are made again. -/
def State.askAgain (s : State) (k : Nat) : State :=
  (s.coreAt k).creditReqs.foldl (fun s id => s.post 0 .ctlCreditRequest { x := id }) (s.setCoreAt k { s.coreAt k with creditReqs := [] })

/-- TILE_RESET_EXIT (R384): the port delivers the packets that it held. -/
def execTileResetExit (s : State) : Out :=
  let site := s.ev.x
  let t := s.tileAt site
  if t.resetting then .next ((coresOf site).foldl State.askAgain ((s.setTileAt site { t with resetting := false }).releasePort site)).wakeHeld
  else .next s

/-- TIME_SYNC (R86): a correction reaches the copy: a copy ahead by the event's number holds still, one behind gains. -/
def execTimeSync (s : State) : Out := .next { s with slew := s.slew + s.ev.int }

/-! Stores to module registers (R6, R194). -/

/-- `old` with `n` bytes at byte `off` replaced by those of `x`. -/
def mergeReg (old : Word) (off n : Nat) (x : Word) : Word := setField old (8 * off) (8 * n) x.toNat

/-- WHISTLE was written with OP among the bytes (R414). -/
def State.whistleWrite (s : State) (w : Word) : State :=
  let d : Ev := { x := bits w 0 12 }
  match bits w 62 2 with
  | 1 => s.post 0 .whistleStop d
  | 2 => s.post 0 .whistleResume d
  | 3 => s.post 0 .whistleResumeTrap d
  | _ => s

/-- Write word `w` to a register; `clr` holds the bits written as 1, for W1C; `top` whether the highest byte is written. -/
def State.regPut (s : State) (col block reg : Nat) (w clr : Word) (top : Bool) : State :=
  let c := s.colAt col
  match block with
  | 0 =>
    if reg = 0 then s.setColAt col { c with
        drainLim := Nat.max 1 (bits w 32 10), lead := Nat.max 20 (bits w 22 10), bullMin := bits w 12 10, maxRecast := Nat.min 8 (bits w 1 4),
        enable := bit w 0 }
    else if reg = 8 then s.setColAt col { c with chi := bits w 48 16, clo := bits w 32 16, shi := bits w 16 16, slo := bits w 0 16 }
    else if reg = 0x10 then s.setColAt col { c with lhi := bits w 16 16, llo := bits w 0 16 }
    else s
  | 1 =>
    if reg = 0 then
      let s := s.setColAt col { c with whistle := mkWord [(62, bits w 62 2), (0, bits w 0 12)] }
      if top then s.whistleWrite w else s
    else if 0x20000000 ≤ reg then s.setColAt col { c with savePool := tput c.savePool ((reg - 0x20000000) / 8) w }
    else s
  | 2 =>
    if reg = Config.correctedReg then s
    else if reg = Config.dramRatioReg then s.post 0 .dramRatioChange { x := col, y := w.toNat }
    else if reg = Config.rowThreshReg then s.setColAt col { c with rowThresh := w }
    else s
  | 3 =>
    if reg < 8 * 1440 then
      let old := tget c.linkState (reg / 8) 0xFF
      s.setColAt col { c with linkState := tput c.linkState (reg / 8) (old - (old &&& bits clr 0 8)) }
    else if reg < 0x02000000 then s.setColAt col { c with escapes := tput c.escapes ((reg - 0x01000000) / 8) w }
    else if reg < 0x03000000 then
      (s.setColAt col { c with modRoute := tput c.modRoute ((reg - 0x02000000) / 8) (bits w 4 5 * 16 + bits w 0 2) }).watchLinks
    else s.post 0 .injctlPause { x := col, flag := bit w 0 }
  | 4 =>
    if 0x10000000 ≤ reg && reg < 0x10000000 + 8 * 2 ^ 20 then s.post 0 .queueWake { x := (reg - 0x10000000) / 8, y := bits w 0 20 }
    else if reg = Config.qtBaseReg then ({ s with qtBase := w } : State).post s.pageAge.toNat .queuePageOut { flag := true }
    else if reg = Config.pageAgeReg then { s with pageAge := w }
    else match portOfReg reg with
      | some p => s.setPortMode p (Config.portMode w)
      | none => s
  | 6 => s.setColAt 0 { s.colAt 0 with limit := Nat.min 5500 (bits w 32 16) }
  | 7 => s.setColAt col { c with mvec := some (w &&& ~~~ 3) }
  | _ => s

/-- Stores to the bytes of a protection table: each is a PROT_WRITE of its frame (R263, R264). -/
def State.protBytes (s : State) (col f : Nat) (x : Word) (n : Nat) : State :=
  (List.range n).foldl (fun s i => s.post 0 .protWrite { x := col, y := f + i, z := bits x (8 * i) 2 }) s

/-- REGISTER_WRITE (R6, R194): each field takes the store by its access code. Event operands: x address, y bytes, val the value. -/
def execRegisterWrite (s : State) : Out :=
  let pa := s.ev.x
  let n := s.ev.y
  let col := nbits pa 44 4
  let block := nbits pa 32 12
  let reg := nbits pa 0 32
  let off := reg % 8
  if protReg block reg then .next (s.protBytes col (reg - 0x01000000) s.ev.val n)
  else match s.regWord col block (reg - off) with
    | none => .next s
    | some old =>
      .next (s.regPut col block (reg - off) (mergeReg old off n s.ev.val) (mergeReg 0 off n s.ev.val) (off + n = 8))

end Sys2Proof.Machine
end

