-- ==== Sys2Proof/Machine/Translate.lean ====
section
/-! DEFINITION. Walks that wait at a MOVING leaf: coalescing in the tile TLB and in the column's pool (R391, R392). -/

namespace Sys2Proof.Machine

/-- The event of the agenda that a walk under way is. -/
def isWalkOf (col : Nat) (region : Word) (page : Nat) (e : Instr) (v : Ev) : Bool :=
  (e == .walkComplete || e == .walkMovingRetry) && colOfSite v.x == col && v.y == region.toNat && v.z / 65536 == page

/-- Start the walks that the pool of 256 has room for. -/
def State.startWalks (s : State) (col : Nat) : State :=
  let c := s.colAt col
  (c.walkKeys.take 256).foldl (fun s q =>
    if s.agenda.any fun p => isWalkOf col q.1 q.2 p.2.1 p.2.2 then s
    else
      let site := ((c.walks.find? fun w => w.2.1 == q.1 && w.2.2 == q.2).map (·.1)).getD 0
      s.post 0 .walkComplete { x := site, y := q.1.toNat, z := 65536 * q.2 }) s

/-- PAGE_WALK (R392): a miss takes one of the 32 miss entries of the tile TLB, or joins one; the pool merges equal requests. A requester
that finds no miss entry stalls. -/
def execPageWalk (s : State) : Out :=
  let site := s.ev.x
  let region := BitVec.ofNat 64 s.ev.y
  let t := s.tileAt site
  if t.missing region s.ev.z || 32 ≤ t.misses.length then .next s
  else
    let col := colOfSite site
    let s := s.setTileAt site { t with misses := t.misses ++ [(region, s.ev.z / 65536)] }
    let c := s.colAt col
    .next ((s.setColAt col { c with walks := c.walks ++ [(site, region, s.ev.z / 65536)] }).startWalks col)

/-- A walk ends: the requests of the region for pages that satisfy `p` are answered, with an entry for their tile TLBs, or every one with the
same fault (R392). -/
def State.endWalk (s : State) (col : Nat) (region : Word) (p : Nat → Bool) (r : TlbEntry ⊕ BitVec 8) : State :=
  let c := s.colAt col
  let mine (q : Nat × Word × Nat) : Bool := q.2.1 == region && p q.2.2
  let s := s.setColAt col { c with walks := c.walks.filter fun q => !mine q }
  let s := (c.walks.filter mine).foldl (fun s q =>
    let t := s.tileAt q.1
    let t := { t with misses := t.misses.filter fun m => !(m.1 == region && p m.2) }
    match r with
    | .inl e => (s.setTileAt q.1 { t with merged := t.merged.filter fun m => !(m.region == region && p m.page) }).fillTile q.1 e
    | .inr c =>
      let ms := t.merged.map fun m => if m.region == region && p m.page then { m with fault := some (m.fault.getD c) } else m
      s.setTileAt q.1 { t with merged := ms }) s
  let s := s.unpost fun i v =>
    (i == .walkComplete || i == .walkMovingRetry) && colOfSite v.x == col && v.y == region.toNat && p (v.z / 65536)
  s.startWalks col

/-- A walk at its end (R388, R391, R392): a MOVING leaf, or a table whose home holds accesses, is read again 1 µs later; a leaf answers
every request within it; a fault answers every request for the page. -/
def State.walkEnds (s : State) : State :=
  let col := colOfSite s.ev.x
  let region := BitVec.ofNat 64 s.ev.y
  let va := s.ev.z
  match s.walkAt col region va with
  | (s, .held, _) => s.post 1000 .walkMovingRetry s.ev
  | (s, .bad c, _) => s.endWalk col region (fun p => p == va / 65536) (.inr c)
  | (s, .leaf l w0 w1, exp) =>
    if nbits w1 10 1 = 1 then s.post 1000 .walkMovingRetry s.ev
    else if !frameOk l w0 2 then s.endWalk col region (fun p => p == va / 65536) (.inr cPROTECT)
    else s.endWalk col region (fun p => p * 65536 / ptSize l == va / ptSize l) (.inl { tlbOfLeaf region va l w0 w1 with expiry := exp })

/-- WALK_COMPLETE. -/
def execWalkComplete (s : State) : Out := .next s.walkEnds

/-- WALK_MOVING_RETRY. -/
def execWalkMovingRetry (s : State) : Out := .next s.walkEnds

end Sys2Proof.Machine
end

