-- ==== Sys2Proof/Machine/VecMem.lean ====
section
/-! DEFINITION. Vector loads and stores, OP 0x35 and 0x36 (R211 to R213). -/

namespace Sys2Proof.Machine

/-- An element's access: its number, address and result. -/
abbrev ElAcc := Nat × Word × ARes

/-- The checks of every listed element, in order (R211). -/
def State.resolveAll (s : State) (w : Who) (n : Nat) (want : Want) : List (Nat × Word) → State × List ElAcc
  | [] => (s, [])
  | p :: r =>
    let q := s.resolve w p.2 (.vec n) want
    let t := q.1.resolveAll w n want r
    (t.1, (p.1, p.2, q.2) :: t.2)

/-- The first trap of a list of element accesses. -/
def firstBad (l : List ElAcc) : Option (Word × BitVec 8 × Word) :=
  l.findSome? fun p => match p.2.2 with
    | .bad c v => some (p.2.1, c, v)
    | _ => none

/-- The first error response. -/
def firstErr (l : List ElAcc) : Option (Word × BitVec 8 × Word) :=
  l.findSome? fun p => match p.2.2 with
    | .err c v => some (p.2.1, c, v)
    | _ => none

/-- The accesses that may go on. -/
def okLocs (l : List ElAcc) : List (Nat × Word × Loc) :=
  l.filterMap fun p => match p.2.2 with
    | .ok x => some (p.1, p.2.1, x)
    | _ => none

/-- The addresses of the enabled elements (R212): `f` gives element e's. -/
def State.vaddrs (s : State) (t : Nat) (f : Nat → Word) : List (Nat × Word) := (s.lanesOn t).map fun e => (e, f e)

/-- Element addresses of VLD and VST, VLDS and VSTS, VLDX and VSTX (R212). -/
def addrUnit (s : State) (t : Nat) (sh : BitVec 2) (b a : BitVec 5) (e : Nat) : Word := eaR s sh b a + BitVec.ofNat 64 (e * tSize t)
def addrStride (s : State) (sh : BitVec 2) (b a : BitVec 5) (e : Nat) : Word :=
  s.rg a + disp24 s.grp.pfx + BitVec.ofNat 64 e * (s.rg b <<< sh.toNat)
def addrIndex (s : State) (t : Nat) (sh : BitVec 2) (b a : BitVec 5) (e : Nat) : Word :=
  s.rg a + disp24 s.grp.pfx + (BitVec.ofNat 64 (el t (s.rv b) e) <<< sh.toNat)

/-- A vector load: every check before any access; then the elements, at once or by packets (R207, R211). TRAPVAL of ROLE and OWNER is the
logical tile, and the handle with its holder, as R73 and R196 say; R211 speaks of the element's address (DESIGN CHOICE, log 80). -/
def vload (t : Nat) (d : BitVec 5) (f : Nat → Word) (i : Instr) (s : State) : Out :=
  withPhys s fun s =>
    let n := tSize t
    let q := s.resolveAll s.me n .read (s.vaddrs t f)
    let s := q.1
    match firstBad q.2 with
    | some (ea, c, v) => trap (s.logBad s.me ea (.vec n) c) c v
    | none =>
      if q.2.any (fun p => p.2.2 == .hold) then park s i
      else match firstErr q.2 with
        | some (ea, c, v) => trap (s.logRefused s.me ea n c) c v
        | none =>
          if s.atOnce s.cur then
            done (s.wv d (vPut (s.rv d) n ((okLocs q.2).map fun p => (p.1, s.readLoc p.2.2 n))))
          else
            let s := (okLocs q.2).foldl (fun s p =>
              let k := s.takeSeq s.cur p.2.2.pa
              k.1.request { k.1.accessPkt .read p.2.1 p.2.2 n with seq := k.2, acq := acqOf s.grp.pfx } (.vec d.toNat [p.1] n)) s
            done (s.setCtx (s.ctx.mark (31 + d.toNat)))

/-- The value that element `e` stores, encoded for a decoding window (R201), with the flags. -/
def vstoreVal (s : State) (n : Nat) (l : Loc) (x : Nat) : Nat × BitVec 6 :=
  if l.win = 0 then (x % 2 ^ (8 * n), 0) else winEncode l.win s.ctx.rm.toNat true x

/-- The write of one element: under way, it stays behind the elements `ids` of its instruction that go to the same home (R212). -/
def State.commitElem (s : State) (ids : List Nat) (ea : Word) (l : Loc) (n x : Nat) : State × List Nat :=
  let id := s.nextPkt
  let s' := s.commitWrite ea l n x false
  let same (k : Nat) : Bool := (s.pkt k).any fun q => streamOf q.pa == streamOf l.pa && portNo q.pa == portNo l.pa
  if !((s'.pkt id).any fun q => q.isMem) then (s', ids)
  else (s'.setPkt id fun q => { q with holdFor := q.holdFor ++ ids.filter same }, ids ++ [id])

/-- A vector store: every check before any access, then the enabled elements in ascending order (R211, R212). Elements that their
homes refuse make one posted trap, that of the first (log 24). -/
def vstore (t : Nat) (d : BitVec 5) (f : Nat → Word) (i : Instr) (s : State) : Out :=
  withPhys s fun s =>
    let n := tSize t
    let q := s.resolveAll s.me n .write (s.vaddrs t f)
    let s := q.1
    match firstBad q.2 with
    | some (ea, c, v) => trap (s.logBad s.me ea (.vec n) c) c v
    | none =>
      if q.2.any fun p => p.2.2 == .hold then park s i
      else
        let xs := (okLocs q.2).map fun p => (p, vstoreVal s n p.2.2 (el t (s.rv d) p.1))
        withLanes s (xs.map fun p => (laneOf t p.1.1, p.2.2)) fun s =>
          let s := (xs.foldl (fun (acc : State × List Nat) p => acc.1.commitElem acc.2 p.1.2.1 p.1.2.2 n p.2.1) (s, [])).1
          let s := q.2.foldl (fun s p => match p.2.2 with
            | .err c _ => s.logRefused s.me p.2.1 n c
            | _ => s) s
          match q.2.findSome? fun p => match p.2.2 with
            | .err c v => some (c, v)
            | _ => none with
          | some (c, v) => done (s.postedError s.cur c v)
          | none => done s

/-- R212. -/
def execVld (t : BitVec 4) (sh : BitVec 2) (b a d : BitVec 5) (s : State) : Out :=
  vload t.toNat d (addrUnit s t.toNat sh b a) (.vld t sh b a d) s
/-- R212. -/
def execVlds (t : BitVec 4) (sh : BitVec 2) (b a d : BitVec 5) (s : State) : Out :=
  vload t.toNat d (addrStride s sh b a) (.vlds t sh b a d) s
/-- R212. -/
def execVldx (t : BitVec 4) (sh : BitVec 2) (b a d : BitVec 5) (s : State) : Out :=
  vload t.toNat d (addrIndex s t.toNat sh b a) (.vldx t sh b a d) s
/-- R212. -/
def execVst (t : BitVec 4) (sh : BitVec 2) (b a d : BitVec 5) (s : State) : Out :=
  vstore t.toNat d (addrUnit s t.toNat sh b a) (.vst t sh b a d) s
/-- R212. -/
def execVsts (t : BitVec 4) (sh : BitVec 2) (b a d : BitVec 5) (s : State) : Out :=
  vstore t.toNat d (addrStride s sh b a) (.vsts t sh b a d) s
/-- R212. -/
def execVstx (t : BitVec 4) (sh : BitVec 2) (b a d : BitVec 5) (s : State) : Out :=
  vstore t.toNat d (addrIndex s t.toNat sh b a) (.vstx t sh b a d) s

/-- A fragment access of R213: element `e` of register `j` and its address. -/
def fragAddrs (s : State) (t : Nat) (base pitch : Word) : List (Nat × Nat × Word) :=
  (List.range 8).flatMap fun j => (s.lanesOn t).map fun e =>
    let c := (if tSize t = 2 then 2 else 4) * j + e / 16
    (j, e, base + BitVec.ofNat 64 (e % 16) * pitch + BitVec.ofNat 64 (c * tSize t))

/-- The address lies in the panel store of the context's own logical tile, through W0 (R213); under PHYS, a physical address that does
(R446). -/
def ownPanel (s : State) (a : Word) : Bool :=
  if s.grp.pfx.phys then (bits a 60 4 != 2 || bits a 24 4 == 0) && s.tilePart s.cur a.toNat == some 8
  else classOf a == .role && bits a 32 14 == s.ctx.ltile && bit a 28 && bits a 24 4 == 0

/-- R213: a transposed fragment into eight registers. -/
def execVldt (t : BitVec 4) (sh : BitVec 2) (b a d : BitVec 5) (s : State) : Out :=
  let ty := t.toNat
  let n := tSize ty
  let base := s.rg a + disp24 s.grp.pfx
  let pitch := s.rg b <<< sh.toNat
  if !(n = 1 || n = 2) || d.toNat % 8 ≠ 0 then illegal s
  else withPhys s fun s =>
    if base.toNat % 32 ≠ 0 || pitch.toNat % 32 ≠ 0 || pitch.toNat < 32 || 65536 < pitch.toNat then trap s cALIGN base
    else
      let fs := fragAddrs s ty base pitch
      match fs.find? fun p => !ownPanel s p.2.2 with
      | some p => trap s cPROTECT p.2.2
      | none =>
        if !ownPanel s base then trap s cPROTECT base
        else
          let q := s.resolveAll s.me n .read (fs.map fun p => (64 * p.1 + p.2.1, p.2.2))
          let s := q.1
          match firstBad q.2 with
          | some (ea, c, v) => trap (s.logBad s.me ea (.vec n) c) c v
          | none =>
            if q.2.any (fun p => p.2.2 == .hold) || (okLocs q.2).any (fun p => s.niHolds s.me p.2.2 || s.mustWait s.cur p.2.2.pa n) then park s (.vldt t sh b a d)
            else
              match firstErr q.2 with
              | some (ea, c, v) => trap (s.logRefused s.me ea n c) c v
              | none =>
              let ls := okLocs q.2
              let s := (List.range 8).foldl (fun s j =>
                let r : BitVec 5 := d + BitVec.ofNat 5 j
                s.wv r (vPut (s.rv r) n ((ls.filter fun p => p.1 / 64 == j).map fun p => (p.1 % 64, s.readLoc p.2.2 n)))) s
              done s

end Sys2Proof.Machine
end

