-- ==== Sys2Proof/Machine/Rerun.lean ====
section
/-! DEFINITION. The meanings of the encoded instructions again, for a group that has waited (R62): a wait is over when the group no longer
waits. Events never wait. -/

namespace Sys2Proof.Machine

/-- The meaning of an encoded instruction. -/
def rerun (i : Instr) (s : State) : Out :=
  match i with
  | .ill x => execIll x s
  | .add w b a d => execAdd w b a d s
  | .sub w b a d => execSub w b a d s
  | .and w b a d => execAnd w b a d s
  | .or w b a d => execOr w b a d s
  | .xor w b a d => execXor w b a d s
  | .andn w b a d => execAndn w b a d s
  | .shl w b a d => execShl w b a d s
  | .shr w b a d => execShr w b a d s
  | .sar w b a d => execSar w b a d s
  | .rol w b a d => execRol w b a d s
  | .min w b a d => execMin w b a d s
  | .max w b a d => execMax w b a d s
  | .minu w b a d => execMinu w b a d s
  | .maxu w b a d => execMaxu w b a d s
  | .slt w b a d => execSlt w b a d s
  | .sltu w b a d => execSltu w b a d s
  | .seq w b a d => execSeq w b a d s
  | .mul w b a d => execMul w b a d s
  | .mulh w b a d => execMulh w b a d s
  | .mulhu w b a d => execMulhu w b a d s
  | .div w b a d => execDiv w b a d s
  | .divu w b a d => execDivu w b a d s
  | .rem w b a d => execRem w b a d s
  | .remu w b a d => execRemu w b a d s
  | .clz w a d => execClz w a d s
  | .ctz w a d => execCtz w a d s
  | .popc w a d => execPopc w a d s
  | .brev w a d => execBrev w a d s
  | .bext w b a d => execBext w b a d s
  | .bins w b a d => execBins w b a d s
  | .sel w b a d => execSel w b a d s
  | .addi imm a d => execAddi imm a d s
  | .andi imm a d => execAndi imm a d s
  | .ori imm a d => execOri imm a d s
  | .xori imm a d => execXori imm a d s
  | .slti imm a d => execSlti imm a d s
  | .sltui imm a d => execSltui imm a d s
  | .shli imm a d => execShli imm a d s
  | .shri imm a d => execShri imm a d s
  | .sari imm a d => execSari imm a d s
  | .lih imm a d => execLih imm a d s
  | .lea imm d => execLea imm d s
  | .gadr imm a d => execGadr imm a d s
  | .addiL a d e => execAddiL a d e s
  | .andiL a d e => execAndiL a d e s
  | .oriL a d e => execOriL a d e s
  | .xoriL a d e => execXoriL a d e s
  | .sltiL a d e => execSltiL a d e s
  | .sltuiL a d e => execSltuiL a d e s
  | .shliL a d e => execShliL a d e s
  | .shriL a d e => execShriL a d e s
  | .sariL a d e => execSariL a d e s
  | .leaL d e => execLeaL d e s
  | .beq o a d => execBeq o a d s
  | .bne o a d => execBne o a d s
  | .blt o a d => execBlt o a d s
  | .bge o a d => execBge o a d s
  | .bltu o a d => execBltu o a d s
  | .bgeu o a d => execBgeu o a d s
  | .jmp o => execJmp o s
  | .jal o => execJal o s
  | .jr a => execJr a s
  | .jalr a d => execJalr a d s
  | .rep c sh b a d n => execRep c sh b a d n s
  | .pool n => execPool n s
  | .tend => execTend s
  | .sys => execSys s
  | .trapret => execTrapret s
  | .brk => execBrk s
  | .srd b a d => execSrd b a d s
  | .swr b a d => execSwr b a d s
  | .ifence => execIfence s
  | .lb imm a d => execLb imm a d s
  | .lh imm a d => execLh imm a d s
  | .lw imm a d => execLw imm a d s
  | .ld imm a d => execLd imm a d s
  | .sb imm a d => execSb imm a d s
  | .sh imm a d => execSh imm a d s
  | .sw imm a d => execSw imm a d s
  | .sd imm a d => execSd imm a d s
  | .lbL sh b a d e => execLbL sh b a d e s
  | .lhL sh b a d e => execLhL sh b a d e s
  | .lwL sh b a d e => execLwL sh b a d e s
  | .ldL sh b a d e => execLdL sh b a d e s
  | .sbL sh b a d e => execSbL sh b a d e s
  | .shL sh b a d e => execShL sh b a d e s
  | .swL sh b a d e => execSwL sh b a d e s
  | .sdL sh b a d e => execSdL sh b a d e s
  | .lbu sh b a d e => execLbu sh b a d e s
  | .lhu sh b a d e => execLhu sh b a d e s
  | .lwu sh b a d e => execLwu sh b a d e s
  | .amoadd sh b a d => execAmoadd sh b a d s
  | .amomin sh b a d => execAmomin sh b a d s
  | .amomax sh b a d => execAmomax sh b a d s
  | .amominu sh b a d => execAmominu sh b a d s
  | .amomaxu sh b a d => execAmomaxu sh b a d s
  | .amoand sh b a d => execAmoand sh b a d s
  | .amoor sh b a d => execAmoor sh b a d s
  | .amoxor sh b a d => execAmoxor sh b a d s
  | .amoswap sh b a d => execAmoswap sh b a d s
  | .amocas sh b a d => execAmocas sh b a d s
  | .amofadd sh b a d => execAmofadd sh b a d s
  | .fence => execFence s
  | .ldf sh b a d => execLdf sh b a d s
  | .ldfe sh b a d => execLdfe sh b a d s
  | .stf sh b a d => execStf sh b a d s
  | .pf sh b a => execPf sh b a s
  | .pfwait sh b a d => execPfwait sh b a d s
  | .cinv => execCinv s
  | .fadd t b a d => execFadd t b a d s
  | .fsub t b a d => execFsub t b a d s
  | .fmul t b a d => execFmul t b a d s
  | .fdiv t b a d => execFdiv t b a d s
  | .fsqrt t a d => execFsqrt t a d s
  | .fma t b a d => execFma t b a d s
  | .fmin t b a d => execFmin t b a d s
  | .fmax t b a d => execFmax t b a d s
  | .fcmp t b a d => execFcmp t b a d s
  | .fclass t a d => execFclass t a d s
  | .fsgn t m a d => execFsgn t m a d s
  | .fcvt t c a d => execFcvt t c a d s
  | .xclr a => execXclr a s
  | .xacc b a t => execXacc b a t s
  | .xmerge a d => execXmerge a d s
  | .xrnd t a d => execXrnd t a d s
  | .vclaim r d => execVclaim r d s
  | .vmov t a d => execVmov t a d s
  | .vbcast t a d => execVbcast t a d s
  | .vext t b a d => execVext t b a d s
  | .vins t b a d => execVins t b a d s
  | .vadd t b a d => execVadd t b a d s
  | .vsub t b a d => execVsub t b a d s
  | .vmul t b a d => execVmul t b a d s
  | .vfma t b a d => execVfma t b a d s
  | .vmin t b a d => execVmin t b a d s
  | .vmax t b a d => execVmax t b a d s
  | .vand t b a d => execVand t b a d s
  | .vor t b a d => execVor t b a d s
  | .vxor t b a d => execVxor t b a d s
  | .vshl t b a d => execVshl t b a d s
  | .vshr t b a d => execVshr t b a d s
  | .vsar t b a d => execVsar t b a d s
  | .vcmp t c b a d => execVcmp t c b a d s
  | .vsel t b a d => execVsel t b a d s
  | .vperm t b a d => execVperm t b a d s
  | .vcvt t sh a d => execVcvt t sh a d s
  | .qcvt t b a d => execQcvt t b a d s
  | .vred t o a d => execVred t o a d s
  | .vld t sh b a d => execVld t sh b a d s
  | .vlds t sh b a d => execVlds t sh b a d s
  | .vldx t sh b a d => execVldx t sh b a d s
  | .vldt t sh b a d => execVldt t sh b a d s
  | .vst t sh b a d => execVst t sh b a d s
  | .vsts t sh b a d => execVsts t sh b a d s
  | .vstx t sh b a d => execVstx t sh b a d s
  | .gshuf t b a d => execGshuf t b a d s
  | .gbcast t b a d => execGbcast t b a d s
  | .gvote t v a d => execGvote t v a d s
  | .gmatch t a d => execGmatch t a d s
  | .gred t o a d => execGred t o a d s
  | .gscan t o a d => execGscan t o a d s
  | .gmax t b a d => execGmax t b a d s
  | .gbar r d => execGbar r d s
  | .send b a => execSend b a s
  | .spawn b a d => execSpawn b a d s
  | .post b a => execPost b a s
  | .decr b a => execDecr b a s
  | .kick b a d => execKick b a d s
  | .ackx b a => execAckx b a s
  | .twpost b a d => execTwpost b a d s
  | .splice b a => execSplice b a s
  | .recfwd b a => execRecfwd b a s
  | .chcfg b a d => execChcfg b a d s
  | .chblk a => execChblk a s
  | .chunb a => execChunb a s
  | .matchTbl b a d => execMatchTbl b a d s
  | .role a d => execRole a d s
  | .rmap b a d => execRmap b a d s
  | .lease b a => execLease b a s
  | .lrel a => execLrel a s
  | .notack b a d => execNotack b a d s
  | .budget a d => execBudget a d s
  | .badd b a d => execBadd b a d s
  | .hbeat => execHbeat s
  | .cntrd a d => execCntrd a d s
  | .mset r a => execMset r a s
  | .mget r d => execMget r d s
  | .mgetPanel p a d => execMgetPanel p a d s
  | .mgo c p a => execMgo c p a s
  | .mgot c p a => execMgot c p a s
  | .mwait c d => execMwait c d s
  | .mzero p => execMzero p s
  | .mdrain c w p b a => execMdrain c w p b a s
  | .cset r a => execCset r a s
  | .cgo d => execCgo d s
  | .cpoll r d => execCpoll r d s
  | .cwait a d => execCwait a d s
  | .ccancel a d => execCcancel a d s
  | .bstate a d => execBstate a d s
  | .bgive b a => execBgive b a s
  | .btake a d => execBtake a d s
  | .bmarkState b a => execBmarkState b a s
  | .bmarkDefine b a => execBmarkDefine b a s
  | .bmarkRetain b a => execBmarkRetain b a s
  | .bmarkFree b a => execBmarkFree b a s
  | .bwaitBuffer sh a d => execBwaitBuffer sh a d s
  | .bwaitRing sh b a d => execBwaitRing sh b a d s
  | .badv sh b a d => execBadv sh b a d s
  | .bring b a => execBring b a s
  | _ => .next s

end Sys2Proof.Machine
end

