-- ==== Sys2Proof/Machine/Waits.lean ====
section
/-! DEFINITION. The end of a kind-W wait (R62, R63), and the groups that wait for a register that is pending (R207, R402). -/

namespace Sys2Proof.Machine

/-- Context `c` about to issue the group it waits with. -/
def State.awake (s : State) (c : Nat) (g : Group) : State :=
  let x := s.ctxAt c
  { s.setCtxAt c { x with wait := none, st := .issuing } with cur := c, grp := g }

/-- The state after a context's waiting group has run again; none where it waits on, or waits for other members of its gang. -/
def State.retry (s : State) (c : Nat) : Option State :=
  match (s.ctxAt c).wait with
  | none => none
  | some (i, g) =>
    if joins i then none
    else match rerun i (s.awake c g) with
      | .next t => if (t.ctxAt c).wait.isSome then none else some t
      | _ => none

/-- Whether the wait of context `c` would now end. -/
def State.waitReady (s : State) (c : Nat) : Bool :=
  let x := s.ctxAt c
  x.st == .stalled && !x.saving && (s.retry c).isSome

/-- W_WAIT_SATISFIED (R62, R63): the awaited condition holds and the group completes. -/
def execWWaitSatisfied (s : State) : Out := .next ((s.retry s.ev.x).getD s)

/-- A group of `i` that waits does so before it issues (R177, R178, R224): it takes its turn as any group once it can go on (R285). -/
def preIssue : Instr → Bool
  | .mzero _ => true
  | .mdrain _ _ _ _ _ => true
  | .cgo _ => true
  | _ => false

/-- The context waits with a group that has not issued. -/
def Ctx.preIssued (c : Ctx) : Bool := c.wait.any fun p => preIssue p.1

/-- The order in which waits end: of BTAKEs by ascending core (R369), of others the longest first. -/
def waitKey (p : Nat × Ctx) : Nat :=
  match p.2.wait with
  | some (.btake _ _, _) => p.1
  | _ => 2 ^ 20 + p.2.stallAt

/-- The context of a group whose wait would end. -/
def State.readyWait (s : State) : Option Nat :=
  (minBy waitKey (s.ctxs.filter fun p => p.2.wait.isSome && !p.2.preIssued && s.waitReady p.1)).map (·.1)

/-- The context can issue in this cycle: at a boundary, or with a group whose wait before issue would end. -/
def State.mayTurn (s : State) (p : Nat × Ctx) : Bool := p.2.canIssue || (p.2.preIssued && s.waitReady p.1)

/-- The context of core `k` that issues, the waits before issue among them (R285). -/
def State.coreTurn (s : State) (k : Nat) : Option Nat :=
  (minBy (issueKey (s.coreAt k).lastCtx) (s.ctxs.filter fun q => coreOfCtx q.1 == k && s.mayTurn q)).map (·.1)

/-- The context that issues now: of the core whose turn it is, where one can issue there, else of the next core that has one (log 7). -/
def State.issuer (s : State) : Option Nat :=
  (s.coreTurn s.coreNo).orElse fun _ =>
    let cs := s.ctxs.filter s.mayTurn
    ((minBy (fun p => p.1) (cs.filter fun p => s.coreNo < coreOfCtx p.1)).orElse fun _ => minBy (fun p => p.1) cs).bind fun p =>
      s.coreTurn (coreOfCtx p.1)

/-- The registers that the word of an instruction names; JAL writes g31. -/
def namedRegs (i : Instr) : List Nat :=
  let w := (encode i).headD 0
  let f := regFields i
  (if f.1 then [nbits w 8 5] else []) ++ (if f.2.1 then [nbits w 13 5] else []) ++ (if f.2.2 then [nbits w 18 5] else []) ++
  (match i with
   | .jal _ => [31]
   | _ => [])

/-- OP of the word of an instruction in the base and 64-bit spaces; none in another (R41). -/
def coreOp (i : Instr) : Option Nat :=
  let w := (encode i).headD 0
  if w % 4 = 0 || w % 4 = 3 then some (w / 4 % 64) else none

/-- A vector operand of an instruction of OP 0x30 to 0x34 stands in one of three fields. -/
def namesVec (i : Instr) (r : Nat) : Bool :=
  let w := (encode i).headD 0
  (coreOp i).any (fun op => 0x30 ≤ op && op ≤ 0x34) && (nbits w 8 5 == r || nbits w 13 5 == r || nbits w 18 5 == r)

/-- A restored task waits with `i` for a response whose destination `i` names (R288); its accesses stay in order behind it by R236. -/
def softBlocks (i : Instr) (d : Dest) : Bool :=
  match d with
  | .gpr r _ _ => r != 0 && (namedRegs i).contains r
  | .vec r _ _ => namesVec i r
  | _ => false

/-- The context in hand waits for a response before it issues `i`: of an access of this run, of one before its task was saved
(R288), or of a BADD whose register `i` names. -/
def State.pendBlocks (s : State) (i : Instr) : Bool :=
  s.ctx.pend.any fun p => match p.dest with
    | .badd r _ => r != 0 && (namedRegs i).contains r
    | d => !p.soft || softBlocks i d

/-! A write of BLOCKED and an offer in one cycle (R360). -/

/-- A write of BLOCKED of a channel. -/
def writesBlocked : Instr → Bool
  | .chcfg _ _ _ => true
  | .chblk _ => true
  | .chunb _ => true
  | _ => false

/-- An event that offers a delivery on a channel. -/
def offers : Instr → Bool
  | .sendArrival => true
  | .kickArrival => true
  | .recordArrival => true
  | _ => false

/-- The group that issues now writes BLOCKED of a channel. -/
def State.blocksNow (s : State) : Bool :=
  match s.issuer with
  | none => false
  | some c =>
    let t : State := { s with cur := c }
    !t.ctx.preIssued && !t.ctx.asyncDue && !t.ctx.overrunDue && match t.decodeGroup.2 with
      | .run i => writesBlocked i && !t.pendBlocks i
      | _ => false

/-- An offer in the tick of such a group comes after it (R360). -/
def State.offerWaits (s : State) (e : Instr) : Bool := offers e && (s.agenda.head?.any fun p => p.1 = s.time) && s.blocksNow

/-- The context in hand waits for a response. -/
def State.awaitPend (s : State) : State := s.setCtx { s.ctx with st := .stalled, fetchWait := false, stallAt := s.time }

/-- A context that waits to fetch can do so now: its next group no longer waits (R391). -/
def State.fetchReady (s : State) (c : Nat) : Bool :=
  let x := s.ctxAt c
  x.st == .stalled && x.fetchWait && !x.saving && (({ s with cur := c } : State).decodeGroup).2 != .wait

/-- A context whose wait to fetch ends now. -/
def State.readyFetch (s : State) : Option Nat := (s.ctxs.find? fun p => p.2.fetchWait && s.fetchReady p.1).map (·.1)

/-- What is a request to the atomic engine of a site: the site, and its core that makes it, none for one from the network (R219). -/
def State.atomicReq (s : State) (i : Instr) (v : Ev) : Option (Nat × Option Nat) :=
  match i with
  | .atomicAtUnit | .decrAtHome => (s.pkt v.x).bind fun p =>
    if 1 ≤ p.pa / 2 ^ 60 && p.pa / 2 ^ 60 ≤ 3 then
      some (siteOfPhys p.pa, if siteOfCtx p.src = siteOfPhys p.pa then some (coreOfCtx p.src % 8) else none)
    else none
  | _ => none

/-- The event that goes first where `p` heads the agenda. Of requests that are due at a site's atomic engine, that is the one that its round
serves next (R219): up to four of the site's own cores, round robin after the last one served, then one from the network. -/
def State.serveFirst (s : State) (p : Nat × Instr × Ev) : Nat × Instr × Ev :=
  match s.atomicReq p.2.1 p.2.2 with
  | none => p
  | some (site, _) =>
    let t := s.tileAt site
    let due := s.agenda.filter fun q => q.1 ≤ s.time && (s.atomicReq q.2.1 q.2.2).any fun r => r.1 == site
    let coreOf (q : Nat × Instr × Ev) : Option Nat := (s.atomicReq q.2.1 q.2.2).bind (·.2)
    let own := minBy (fun q => ((coreOf q).getD 0 + 7 - t.atomLast) % 8) (due.filter fun q => (coreOf q).isSome)
    let far := due.find? fun q => (coreOf q).isNone
    ((if t.atomRound < 4 then own.orElse fun _ => far else far.orElse fun _ => own)).getD p

/-- The event that is due first, and the state without it. -/
def State.due (s : State) : Option (Instr × State) :=
  match s.agenda with
  | [] => none
  | p :: r =>
    if p.1 ≤ s.time then
      let q := s.serveFirst p
      some (q.2.1, { s with agenda := if q = p then r else s.agenda.erase q, ev := q.2.2 })
    else none

end Sys2Proof.Machine
end

