-- ==== Sys2Proof/Machine/Dispatch.lean ====
section
/-! DEFINITION. One arm for each instruction: its meaning, or a refusal by name. -/

namespace Sys2Proof.Machine

open Host

/-- The meaning of an instruction (R50: a group is indivisible). -/
def exec (i : Instr) (s : State) : Host.Outcome State Fault Refusal :=
  match i with
  | .ill x => Sys2Proof.Machine.execIll x s
  | .add w b a d => Sys2Proof.Machine.execAdd w b a d s
  | .sub w b a d => Sys2Proof.Machine.execSub w b a d s
  | .and w b a d => Sys2Proof.Machine.execAnd w b a d s
  | .or w b a d => Sys2Proof.Machine.execOr w b a d s
  | .xor w b a d => Sys2Proof.Machine.execXor w b a d s
  | .andn w b a d => Sys2Proof.Machine.execAndn w b a d s
  | .shl w b a d => Sys2Proof.Machine.execShl w b a d s
  | .shr w b a d => Sys2Proof.Machine.execShr w b a d s
  | .sar w b a d => Sys2Proof.Machine.execSar w b a d s
  | .rol w b a d => Sys2Proof.Machine.execRol w b a d s
  | .min w b a d => Sys2Proof.Machine.execMin w b a d s
  | .max w b a d => Sys2Proof.Machine.execMax w b a d s
  | .minu w b a d => Sys2Proof.Machine.execMinu w b a d s
  | .maxu w b a d => Sys2Proof.Machine.execMaxu w b a d s
  | .slt w b a d => Sys2Proof.Machine.execSlt w b a d s
  | .sltu w b a d => Sys2Proof.Machine.execSltu w b a d s
  | .seq w b a d => Sys2Proof.Machine.execSeq w b a d s
  | .mul w b a d => Sys2Proof.Machine.execMul w b a d s
  | .mulh w b a d => Sys2Proof.Machine.execMulh w b a d s
  | .mulhu w b a d => Sys2Proof.Machine.execMulhu w b a d s
  | .div w b a d => Sys2Proof.Machine.execDiv w b a d s
  | .divu w b a d => Sys2Proof.Machine.execDivu w b a d s
  | .rem w b a d => Sys2Proof.Machine.execRem w b a d s
  | .remu w b a d => Sys2Proof.Machine.execRemu w b a d s
  | .clz w a d => Sys2Proof.Machine.execClz w a d s
  | .ctz w a d => Sys2Proof.Machine.execCtz w a d s
  | .popc w a d => Sys2Proof.Machine.execPopc w a d s
  | .brev w a d => Sys2Proof.Machine.execBrev w a d s
  | .bext w b a d => Sys2Proof.Machine.execBext w b a d s
  | .bins w b a d => Sys2Proof.Machine.execBins w b a d s
  | .sel w b a d => Sys2Proof.Machine.execSel w b a d s
  | .addi imm a d => Sys2Proof.Machine.execAddi imm a d s
  | .andi imm a d => Sys2Proof.Machine.execAndi imm a d s
  | .ori imm a d => Sys2Proof.Machine.execOri imm a d s
  | .xori imm a d => Sys2Proof.Machine.execXori imm a d s
  | .slti imm a d => Sys2Proof.Machine.execSlti imm a d s
  | .sltui imm a d => Sys2Proof.Machine.execSltui imm a d s
  | .shli imm a d => Sys2Proof.Machine.execShli imm a d s
  | .shri imm a d => Sys2Proof.Machine.execShri imm a d s
  | .sari imm a d => Sys2Proof.Machine.execSari imm a d s
  | .lih imm a d => Sys2Proof.Machine.execLih imm a d s
  | .lea imm d => Sys2Proof.Machine.execLea imm d s
  | .gadr imm a d => Sys2Proof.Machine.execGadr imm a d s
  | .addiL a d e => Sys2Proof.Machine.execAddiL a d e s
  | .andiL a d e => Sys2Proof.Machine.execAndiL a d e s
  | .oriL a d e => Sys2Proof.Machine.execOriL a d e s
  | .xoriL a d e => Sys2Proof.Machine.execXoriL a d e s
  | .sltiL a d e => Sys2Proof.Machine.execSltiL a d e s
  | .sltuiL a d e => Sys2Proof.Machine.execSltuiL a d e s
  | .shliL a d e => Sys2Proof.Machine.execShliL a d e s
  | .shriL a d e => Sys2Proof.Machine.execShriL a d e s
  | .sariL a d e => Sys2Proof.Machine.execSariL a d e s
  | .leaL d e => Sys2Proof.Machine.execLeaL d e s
  | .beq o a d => Sys2Proof.Machine.execBeq o a d s
  | .bne o a d => Sys2Proof.Machine.execBne o a d s
  | .blt o a d => Sys2Proof.Machine.execBlt o a d s
  | .bge o a d => Sys2Proof.Machine.execBge o a d s
  | .bltu o a d => Sys2Proof.Machine.execBltu o a d s
  | .bgeu o a d => Sys2Proof.Machine.execBgeu o a d s
  | .jmp o => Sys2Proof.Machine.execJmp o s
  | .jal o => Sys2Proof.Machine.execJal o s
  | .jr a => Sys2Proof.Machine.execJr a s
  | .jalr a d => Sys2Proof.Machine.execJalr a d s
  | .rep c sh b a d n => Sys2Proof.Machine.execRep c sh b a d n s
  | .pool n => Sys2Proof.Machine.execPool n s
  | .tend => Sys2Proof.Machine.execTend s
  | .sys => Sys2Proof.Machine.execSys s
  | .trapret => Sys2Proof.Machine.execTrapret s
  | .brk => Sys2Proof.Machine.execBrk s
  | .srd b a d => Sys2Proof.Machine.execSrd b a d s
  | .swr b a d => Sys2Proof.Machine.execSwr b a d s
  | .ifence => Sys2Proof.Machine.execIfence s
  | .lb imm a d => Sys2Proof.Machine.execLb imm a d s
  | .lh imm a d => Sys2Proof.Machine.execLh imm a d s
  | .lw imm a d => Sys2Proof.Machine.execLw imm a d s
  | .ld imm a d => Sys2Proof.Machine.execLd imm a d s
  | .sb imm a d => Sys2Proof.Machine.execSb imm a d s
  | .sh imm a d => Sys2Proof.Machine.execSh imm a d s
  | .sw imm a d => Sys2Proof.Machine.execSw imm a d s
  | .sd imm a d => Sys2Proof.Machine.execSd imm a d s
  | .lbL sh b a d e => Sys2Proof.Machine.execLbL sh b a d e s
  | .lhL sh b a d e => Sys2Proof.Machine.execLhL sh b a d e s
  | .lwL sh b a d e => Sys2Proof.Machine.execLwL sh b a d e s
  | .ldL sh b a d e => Sys2Proof.Machine.execLdL sh b a d e s
  | .sbL sh b a d e => Sys2Proof.Machine.execSbL sh b a d e s
  | .shL sh b a d e => Sys2Proof.Machine.execShL sh b a d e s
  | .swL sh b a d e => Sys2Proof.Machine.execSwL sh b a d e s
  | .sdL sh b a d e => Sys2Proof.Machine.execSdL sh b a d e s
  | .lbu sh b a d e => Sys2Proof.Machine.execLbu sh b a d e s
  | .lhu sh b a d e => Sys2Proof.Machine.execLhu sh b a d e s
  | .lwu sh b a d e => Sys2Proof.Machine.execLwu sh b a d e s
  | .amoadd sh b a d => Sys2Proof.Machine.execAmoadd sh b a d s
  | .amomin sh b a d => Sys2Proof.Machine.execAmomin sh b a d s
  | .amomax sh b a d => Sys2Proof.Machine.execAmomax sh b a d s
  | .amominu sh b a d => Sys2Proof.Machine.execAmominu sh b a d s
  | .amomaxu sh b a d => Sys2Proof.Machine.execAmomaxu sh b a d s
  | .amoand sh b a d => Sys2Proof.Machine.execAmoand sh b a d s
  | .amoor sh b a d => Sys2Proof.Machine.execAmoor sh b a d s
  | .amoxor sh b a d => Sys2Proof.Machine.execAmoxor sh b a d s
  | .amoswap sh b a d => Sys2Proof.Machine.execAmoswap sh b a d s
  | .amocas sh b a d => Sys2Proof.Machine.execAmocas sh b a d s
  | .amofadd sh b a d => Sys2Proof.Machine.execAmofadd sh b a d s
  | .fence => Sys2Proof.Machine.execFence s
  | .ldf sh b a d => Sys2Proof.Machine.execLdf sh b a d s
  | .ldfe sh b a d => Sys2Proof.Machine.execLdfe sh b a d s
  | .stf sh b a d => Sys2Proof.Machine.execStf sh b a d s
  | .pf sh b a => Sys2Proof.Machine.execPf sh b a s
  | .pfwait sh b a d => Sys2Proof.Machine.execPfwait sh b a d s
  | .cinv => Sys2Proof.Machine.execCinv s
  | .fadd t b a d => Sys2Proof.Machine.execFadd t b a d s
  | .fsub t b a d => Sys2Proof.Machine.execFsub t b a d s
  | .fmul t b a d => Sys2Proof.Machine.execFmul t b a d s
  | .fdiv t b a d => Sys2Proof.Machine.execFdiv t b a d s
  | .fsqrt t a d => Sys2Proof.Machine.execFsqrt t a d s
  | .fma t b a d => Sys2Proof.Machine.execFma t b a d s
  | .fmin t b a d => Sys2Proof.Machine.execFmin t b a d s
  | .fmax t b a d => Sys2Proof.Machine.execFmax t b a d s
  | .fcmp t b a d => Sys2Proof.Machine.execFcmp t b a d s
  | .fclass t a d => Sys2Proof.Machine.execFclass t a d s
  | .fsgn t m a d => Sys2Proof.Machine.execFsgn t m a d s
  | .fcvt t c a d => Sys2Proof.Machine.execFcvt t c a d s
  | .xclr a => Sys2Proof.Machine.execXclr a s
  | .xacc b a t => Sys2Proof.Machine.execXacc b a t s
  | .xmerge a d => Sys2Proof.Machine.execXmerge a d s
  | .xrnd t a d => Sys2Proof.Machine.execXrnd t a d s
  | .vclaim r d => Sys2Proof.Machine.execVclaim r d s
  | .vmov t a d => Sys2Proof.Machine.execVmov t a d s
  | .vbcast t a d => Sys2Proof.Machine.execVbcast t a d s
  | .vext t b a d => Sys2Proof.Machine.execVext t b a d s
  | .vins t b a d => Sys2Proof.Machine.execVins t b a d s
  | .vadd t b a d => Sys2Proof.Machine.execVadd t b a d s
  | .vsub t b a d => Sys2Proof.Machine.execVsub t b a d s
  | .vmul t b a d => Sys2Proof.Machine.execVmul t b a d s
  | .vfma t b a d => Sys2Proof.Machine.execVfma t b a d s
  | .vmin t b a d => Sys2Proof.Machine.execVmin t b a d s
  | .vmax t b a d => Sys2Proof.Machine.execVmax t b a d s
  | .vand t b a d => Sys2Proof.Machine.execVand t b a d s
  | .vor t b a d => Sys2Proof.Machine.execVor t b a d s
  | .vxor t b a d => Sys2Proof.Machine.execVxor t b a d s
  | .vshl t b a d => Sys2Proof.Machine.execVshl t b a d s
  | .vshr t b a d => Sys2Proof.Machine.execVshr t b a d s
  | .vsar t b a d => Sys2Proof.Machine.execVsar t b a d s
  | .vcmp t c b a d => Sys2Proof.Machine.execVcmp t c b a d s
  | .vsel t b a d => Sys2Proof.Machine.execVsel t b a d s
  | .vperm t b a d => Sys2Proof.Machine.execVperm t b a d s
  | .vcvt t sh a d => Sys2Proof.Machine.execVcvt t sh a d s
  | .qcvt t b a d => Sys2Proof.Machine.execQcvt t b a d s
  | .vred t o a d => Sys2Proof.Machine.execVred t o a d s
  | .vld t sh b a d => Sys2Proof.Machine.execVld t sh b a d s
  | .vlds t sh b a d => Sys2Proof.Machine.execVlds t sh b a d s
  | .vldx t sh b a d => Sys2Proof.Machine.execVldx t sh b a d s
  | .vldt t sh b a d => Sys2Proof.Machine.execVldt t sh b a d s
  | .vst t sh b a d => Sys2Proof.Machine.execVst t sh b a d s
  | .vsts t sh b a d => Sys2Proof.Machine.execVsts t sh b a d s
  | .vstx t sh b a d => Sys2Proof.Machine.execVstx t sh b a d s
  | .gshuf t b a d => Sys2Proof.Machine.execGshuf t b a d s
  | .gbcast t b a d => Sys2Proof.Machine.execGbcast t b a d s
  | .gvote t v a d => Sys2Proof.Machine.execGvote t v a d s
  | .gmatch t a d => Sys2Proof.Machine.execGmatch t a d s
  | .gred t o a d => Sys2Proof.Machine.execGred t o a d s
  | .gscan t o a d => Sys2Proof.Machine.execGscan t o a d s
  | .gmax t b a d => Sys2Proof.Machine.execGmax t b a d s
  | .gbar r d => Sys2Proof.Machine.execGbar r d s
  | .send b a => Sys2Proof.Machine.execSend b a s
  | .spawn b a d => Sys2Proof.Machine.execSpawn b a d s
  | .post b a => Sys2Proof.Machine.execPost b a s
  | .decr b a => Sys2Proof.Machine.execDecr b a s
  | .kick b a d => Sys2Proof.Machine.execKick b a d s
  | .ackx b a => Sys2Proof.Machine.execAckx b a s
  | .twpost b a d => Sys2Proof.Machine.execTwpost b a d s
  | .splice b a => Sys2Proof.Machine.execSplice b a s
  | .recfwd b a => Sys2Proof.Machine.execRecfwd b a s
  | .chcfg b a d => Sys2Proof.Machine.execChcfg b a d s
  | .chblk a => Sys2Proof.Machine.execChblk a s
  | .chunb a => Sys2Proof.Machine.execChunb a s
  | .matchTbl b a d => Sys2Proof.Machine.execMatchTbl b a d s
  | .role a d => Sys2Proof.Machine.execRole a d s
  | .rmap b a d => Sys2Proof.Machine.execRmap b a d s
  | .lease b a => Sys2Proof.Machine.execLease b a s
  | .lrel a => Sys2Proof.Machine.execLrel a s
  | .notack b a d => Sys2Proof.Machine.execNotack b a d s
  | .budget a d => Sys2Proof.Machine.execBudget a d s
  | .badd b a d => Sys2Proof.Machine.execBadd b a d s
  | .hbeat => Sys2Proof.Machine.execHbeat s
  | .cntrd a d => Sys2Proof.Machine.execCntrd a d s
  | .mset r a => Sys2Proof.Machine.execMset r a s
  | .mget r d => Sys2Proof.Machine.execMget r d s
  | .mgetPanel p a d => Sys2Proof.Machine.execMgetPanel p a d s
  | .mgo c p a => Sys2Proof.Machine.execMgo c p a s
  | .mgot c p a => Sys2Proof.Machine.execMgot c p a s
  | .mwait c d => Sys2Proof.Machine.execMwait c d s
  | .mzero p => Sys2Proof.Machine.execMzero p s
  | .mdrain c w p b a => Sys2Proof.Machine.execMdrain c w p b a s
  | .cset r a => Sys2Proof.Machine.execCset r a s
  | .cgo d => Sys2Proof.Machine.execCgo d s
  | .cpoll r d => Sys2Proof.Machine.execCpoll r d s
  | .cwait a d => Sys2Proof.Machine.execCwait a d s
  | .ccancel a d => Sys2Proof.Machine.execCcancel a d s
  | .bstate a d => Sys2Proof.Machine.execBstate a d s
  | .bgive b a => Sys2Proof.Machine.execBgive b a s
  | .btake a d => Sys2Proof.Machine.execBtake a d s
  | .bmarkState b a => Sys2Proof.Machine.execBmarkState b a s
  | .bmarkDefine b a => Sys2Proof.Machine.execBmarkDefine b a s
  | .bmarkRetain b a => Sys2Proof.Machine.execBmarkRetain b a s
  | .bmarkFree b a => Sys2Proof.Machine.execBmarkFree b a s
  | .bwaitBuffer sh a d => Sys2Proof.Machine.execBwaitBuffer sh a d s
  | .bwaitRing sh b a d => Sys2Proof.Machine.execBwaitRing sh b a d s
  | .badv sh b a d => Sys2Proof.Machine.execBadv sh b a d s
  | .bring b a => Sys2Proof.Machine.execBring b a s
  | .moduleReset => Sys2Proof.Machine.execModuleReset s
  | .harvest => Sys2Proof.Machine.execHarvest s
  | .bootFetch => Sys2Proof.Machine.execBootFetch s
  | .bootVerify => Sys2Proof.Machine.execBootVerify s
  | .statusRequest => Sys2Proof.Machine.execStatusRequest s
  | .attestationReport => Sys2Proof.Machine.execAttestationReport s
  | .governorStep => Sys2Proof.Machine.execGovernorStep s
  | .thermalThrottle => Sys2Proof.Machine.execThermalThrottle s
  | .thermalShutdown => Sys2Proof.Machine.execThermalShutdown s
  | .cxlLinkTraining => Sys2Proof.Machine.execCxlLinkTraining s
  | .cxlLinkLoss => Sys2Proof.Machine.execCxlLinkLoss s
  | .cxlMemTimeout => Sys2Proof.Machine.execCxlMemTimeout s
  | .stopRequest => Sys2Proof.Machine.execStopRequest s
  | .wWaitSatisfied => Sys2Proof.Machine.execWWaitSatisfied s
  | .asyncTrapTaken => Sys2Proof.Machine.execAsyncTrapTaken s
  | .responseArrival => Sys2Proof.Machine.execResponseArrival s
  | .errorResponseArrival => Sys2Proof.Machine.execErrorResponseArrival s
  | .baddGrant => Sys2Proof.Machine.execBaddGrant s
  | .writeAtHome => Sys2Proof.Machine.execWriteAtHome s
  | .readAtHome => Sys2Proof.Machine.execReadAtHome s
  | .atomicAtUnit => Sys2Proof.Machine.execAtomicAtUnit s
  | .releaseHoldEnd => Sys2Proof.Machine.execReleaseHoldEnd s
  | .writeAckArrival => Sys2Proof.Machine.execWriteAckArrival s
  | .movedArrival => Sys2Proof.Machine.execMovedArrival s
  | .movedReread => Sys2Proof.Machine.execMovedReread s
  | .portPacketArrival => Sys2Proof.Machine.execPortPacketArrival s
  | .malformedHeaderDrop => Sys2Proof.Machine.execMalformedHeaderDrop s
  | .sendArrival => Sys2Proof.Machine.execSendArrival s
  | .spawnArrival => Sys2Proof.Machine.execSpawnArrival s
  | .postArrival => Sys2Proof.Machine.execPostArrival s
  | .decrAtHome => Sys2Proof.Machine.execDecrAtHome s
  | .kickArrival => Sys2Proof.Machine.execKickArrival s
  | .ackxAtHome => Sys2Proof.Machine.execAckxAtHome s
  | .twpostJobArrival => Sys2Proof.Machine.execTwpostJobArrival s
  | .twpostPermitArrival => Sys2Proof.Machine.execTwpostPermitArrival s
  | .twpostEndArrival => Sys2Proof.Machine.execTwpostEndArrival s
  | .ctlCreditRequest => Sys2Proof.Machine.execCtlCreditRequest s
  | .ctlCreditRetry => Sys2Proof.Machine.execCtlCreditRetry s
  | .readyRingOffer => Sys2Proof.Machine.execReadyRingOffer s
  | .dispatch => Sys2Proof.Machine.execDispatch s
  | .contextSaveDone => Sys2Proof.Machine.execContextSaveDone s
  | .gangStart => Sys2Proof.Machine.execGangStart s
  | .budgetExhausted => Sys2Proof.Machine.execBudgetExhausted s
  | .engineBudgetExhausted => Sys2Proof.Machine.execEngineBudgetExhausted s
  | .periodRefill => Sys2Proof.Machine.execPeriodRefill s
  | .watchdogFire => Sys2Proof.Machine.execWatchdogFire s
  | .gangLineJoin => Sys2Proof.Machine.execGangLineJoin s
  | .mxJoin => Sys2Proof.Machine.execMxJoin s
  | .mxOpStart => Sys2Proof.Machine.execMxOpStart s
  | .mxGroupCommit => Sys2Proof.Machine.execMxGroupCommit s
  | .mxOperandsConsumed => Sys2Proof.Machine.execMxOperandsConsumed s
  | .mzeroStart => Sys2Proof.Machine.execMzeroStart s
  | .mdrainStart => Sys2Proof.Machine.execMdrainStart s
  | .drainComplete => Sys2Proof.Machine.execDrainComplete s
  | .gangPanelSave => Sys2Proof.Machine.execGangPanelSave s
  | .gangPanelRestore => Sys2Proof.Machine.execGangPanelRestore s
  | .engineRegionZero => Sys2Proof.Machine.execEngineRegionZero s
  | .copyJobStart => Sys2Proof.Machine.execCopyJobStart s
  | .copyJobComplete => Sys2Proof.Machine.execCopyJobComplete s
  | .copyCancelStop => Sys2Proof.Machine.execCopyCancelStop s
  | .loaderEmitRecord => Sys2Proof.Machine.execLoaderEmitRecord s
  | .storerTakeRecord => Sys2Proof.Machine.execStorerTakeRecord s
  | .stageTakeData => Sys2Proof.Machine.execStageTakeData s
  | .passThroughForward => Sys2Proof.Machine.execPassThroughForward s
  | .spliceApply => Sys2Proof.Machine.execSpliceApply s
  | .stageTakeAbort => Sys2Proof.Machine.execStageTakeAbort s
  | .pageWalk => Sys2Proof.Machine.execPageWalk s
  | .walkComplete => Sys2Proof.Machine.execWalkComplete s
  | .walkMovingRetry => Sys2Proof.Machine.execWalkMovingRetry s
  | .tierFetchStart => Sys2Proof.Machine.execTierFetchStart s
  | .tierMoveCommit => Sys2Proof.Machine.execTierMoveCommit s
  | .tierPinExpiry => Sys2Proof.Machine.execTierPinExpiry s
  | .tierEvict => Sys2Proof.Machine.execTierEvict s
  | .protWrite => Sys2Proof.Machine.execProtWrite s
  | .protChangeDone => Sys2Proof.Machine.execProtChangeDone s
  | .dramRatioChange => Sys2Proof.Machine.execDramRatioChange s
  | .dramRelock => Sys2Proof.Machine.execDramRelock s
  | .uncorrectableRead => Sys2Proof.Machine.execUncorrectableRead s
  | .refetchDone => Sys2Proof.Machine.execRefetchDone s
  | .rowSpareRemap => Sys2Proof.Machine.execRowSpareRemap s
  | .scoutSample => Sys2Proof.Machine.execScoutSample s
  | .scoutWindowEnd => Sys2Proof.Machine.execScoutWindowEnd s
  | .leaveatReached => Sys2Proof.Machine.execLeaveatReached s
  | .moveCommit => Sys2Proof.Machine.execMoveCommit s
  | .graceEnd => Sys2Proof.Machine.execGraceEnd s
  | .expressDrainLimit => Sys2Proof.Machine.execExpressDrainLimit s
  | .leaseRequest => Sys2Proof.Machine.execLeaseRequest s
  | .leaseExpiry => Sys2Proof.Machine.execLeaseExpiry s
  | .lrelArrival => Sys2Proof.Machine.execLrelArrival s
  | .rmapAction => Sys2Proof.Machine.execRmapAction s
  | .siteRetire => Sys2Proof.Machine.execSiteRetire s
  | .whistleStop => Sys2Proof.Machine.execWhistleStop s
  | .whistleResume => Sys2Proof.Machine.execWhistleResume s
  | .whistleResumeTrap => Sys2Proof.Machine.execWhistleResumeTrap s
  | .stopRecordWrite => Sys2Proof.Machine.execStopRecordWrite s
  | .linkLossStop => Sys2Proof.Machine.execLinkLossStop s
  | .queueWake => Sys2Proof.Machine.execQueueWake s
  | .queuePageInDone => Sys2Proof.Machine.execQueuePageInDone s
  | .queuePageOut => Sys2Proof.Machine.execQueuePageOut s
  | .launch => Sys2Proof.Machine.execLaunch s
  | .amsg => Sys2Proof.Machine.execAmsg s
  | .hostSplice => Sys2Proof.Machine.execHostSplice s
  | .hostLease => Sys2Proof.Machine.execHostLease s
  | .preempt => Sys2Proof.Machine.execPreempt s
  | .signalStore => Sys2Proof.Machine.execSignalStore s
  | .signalAdd => Sys2Proof.Machine.execSignalAdd s
  | .signalWait => Sys2Proof.Machine.execSignalWait s
  | .signalPoll => Sys2Proof.Machine.execSignalPoll s
  | .copy => Sys2Proof.Machine.execCopy s
  | .commandComplete => Sys2Proof.Machine.execCommandComplete s
  | .launchArm => Sys2Proof.Machine.execLaunchArm s
  | .launchCommit => Sys2Proof.Machine.execLaunchCommit s
  | .launchDisarm => Sys2Proof.Machine.execLaunchDisarm s
  | .launchArmTimeout => Sys2Proof.Machine.execLaunchArmTimeout s
  | .launchCommitTimeout => Sys2Proof.Machine.execLaunchCommitTimeout s
  | .laneSpare => Sys2Proof.Machine.execLaneSpare s
  | .linkAudit => Sys2Proof.Machine.execLinkAudit s
  | .linkDead => Sys2Proof.Machine.execLinkDead s
  | .tileReset => Sys2Proof.Machine.execTileReset s
  | .injctlPause => Sys2Proof.Machine.execInjctlPause s
  | .registerWrite => Sys2Proof.Machine.execRegisterWrite s
  | .recordArrival => Sys2Proof.Machine.execRecordArrival s
  | .tileWalkJobComplete => Sys2Proof.Machine.execTileWalkJobComplete s
  | .tileResetExit => Sys2Proof.Machine.execTileResetExit s
  | .moduleLinkRestored => Sys2Proof.Machine.execModuleLinkRestored s
  | .launchAnswer => Sys2Proof.Machine.execLaunchAnswer s
  | .timeSync => Sys2Proof.Machine.execTimeSync s
  | .thermalRecovery => Sys2Proof.Machine.execThermalRecovery s

end Sys2Proof.Machine
end

