-- ==== Sys2Proof/Machine/Step.lean ====
section
/-! DEFINITION. One step of the machine. In order: an event that is due; a wait whose condition holds; a stall that gives way to a stop
request; a held trap or a spent budget of the context that issues next; its next group, or one that waited before issue; and where no
context can issue, TIME passes. A stop request of the whistle tree or the scheduler is the last event of its tick, and a wait that is met
by then ends before it (R63). -/

namespace Sys2Proof.Machine

open Host

/-- The requests that the management port still answers in the safe state (R425, R427). -/
def isManagement : Instr → Bool
  | .statusRequest => true
  | .moduleReset => true
  | .attestationReport => true
  | _ => false

/-- In the safe state only a management request does anything. -/
def stepSafe (s : State) : Outcome State Fault Refusal :=
  match s.due with
  | some (e, s') => if isManagement e then exec e s' else .next s'
  | none => if s.agenda.any (fun p => isManagement p.2.1) then .next s.idleStep else .fault .safeState

/-- Run a meaning for the context `c`, and charge its group. -/
def stepRun (c : Nat) (o : Outcome State Fault Refusal) : Outcome State Fault Refusal :=
  match o with
  | .next t => .next (if (t.ctxAt c).preIssued then ({ t with cur := c } : State).afterWait else ({ t with cur := c } : State).afterGroup true)
  | .fault r => .fault r
  | .refused r => .refused r

/-- The next group of the context in hand. -/
def stepGroup (s : State) : Outcome State Fault Refusal :=
  match s.decodeGroup with
  | (s', .trapped) => .next (s'.afterGroup false)
  | (s', .wait) => .next s'.waitFetch.afterWait
  | (s', .run i) => if s'.pendBlocks i then .next s'.awaitPend.afterWait else stepRun s'.cur (exec i s')

/-- A context stands at a group boundary and issues, or takes a trap there first. -/
def stepCtx (s : State) : Outcome State Fault Refusal :=
  if s.ctx.asyncDue then exec .asyncTrapTaken { s with ev := { x := s.cur } }
  else if s.ctx.overrunDue then exec .budgetExhausted { s with ev := { x := s.cur } }
  else stepGroup s

/-- A stop request, which a wait that is met in its cycle goes before (R63). -/
def isStop : Instr → Bool
  | .stopRequest => true
  | _ => false

/-- The event to run now: a stop request comes after a wait that is met in its tick (R63), an offer after a write of BLOCKED (R360). -/
def State.dueNow (s : State) : Option (Instr × State) :=
  s.due.filter fun p => !(isStop p.1 && s.readyWait.isSome) && !s.offerWaits p.1

def step (s : State) : Outcome State Fault Refusal :=
  if s.safe then stepSafe s
  else match s.dueNow with
    | some (e, s') => exec e s'
    | none =>
      match s.readyWait with
      | some c => stepRun c (exec .wWaitSatisfied { s with ev := { x := c } })
      | none =>
        match s.readyFetch with
        | some c => .next (s.setCtxAt c { s.ctxAt c with st := .issuing, fetchWait := false })
        | none =>
          match s.yielding with
          | some c => .next (s.setCtxAt c (s.ctxAt c).release)
          | none =>
            match s.issuer with
            | some c => if (s.ctxAt c).preIssued then stepRun c (exec .wWaitSatisfied { s with ev := { x := c } }) else stepCtx { s with cur := c }
            | none => .next s.idleStep

/-- Where `withFetchWord` places the instruction: virtual and physical address 0x2_0000. -/
def fetchBase : Word := 0x20000

/-- The page tables that map the first TiB of the paged space onto DRAM offsets 0 upward, with all rights (R386, R387). -/
def State.identityMap (s : State) : State :=
  (((s.writeNat 0 8 0x10001).writeNat 8 8 0).writeNat 0x10000 8 1).writeNat 0x10008 8 0x88F

/-- `s` with an instruction stored where `step` fetches next: context 0 of core 0 issues at `fetchBase` in region 0, whose page
tables map that page; no event is due, nothing is cached or waits, and the site is in COMPUTE (log 15: this stands for the launch
of a program from outside). -/
def State.withFetchWord (s : State) (nbits w : Nat) : State :=
  let c := s.ctxAt 0
  let s := { s with safe := false, agenda := [], cur := 0, ctxs := s.ctxs.map (fun (p : Nat × Ctx) =>
    (p.1, ({ p.2 with wait := none, held := [], slot := none, st := if 1 ≤ p.1 && p.1 < 4 then .free else p.2.st } : Ctx))) }
  let s := s.setCtxAt 0 { c with st := .issuing, pc := fetchBase, region := 0, slot := none, wait := none, fetchWait := false, held := [], rep := {} }
  let s := s.setRegion { s.regionAt 0 with ptRoot := 0, guards := [] }
  let s := s.setCoreAt 0 { s.coreAt 0 with icache := [], tlb := [], guards := [] }
  let s := s.setTileAt 0 { s.tileAt 0 with tlb := [], misses := [], merged := [], st := .compute }
  let c0 := s.colAt 0
  let used := [0, 0x10000 / 128, 0x20000 / 128]
  let s := s.setColAt 0 { c0 with walkCache := [], walks := [], dramHeld := false, refetch := c0.refetch.filter fun b => !used.contains b
                                  prot := c0.prot.map fun p => if p.1 < 3 then (p.1, (p.2.1, false)) else p }
  let s := { s with poison := s.poison.filter fun b => !used.contains b }
  s.identityMap.writeBytes 0x20000 (leBytes 8 (w % 2 ^ nbits))

end Sys2Proof.Machine
end

