-- ==== Sys2Proof/Safety.lean ====
section
/-! DEFINITION. What counts as a safe run, the invariants that every step keeps, and the terms in which claims say what an
instruction changes: frames over the context in hand, the place where it goes on, and the entry into a trap. -/

namespace Sys2Proof

open Sys2Proof.Machine

/-- The memory table is in its canonical form. -/
abbrev Memory.wf (s : State) : Prop := memWf s.mem = true

/-- A run is safe as long as the module has not entered the safe state (R425). -/
def SafeState (s : State) : Prop := s.safe = false

/-! Frames. -/

/-- Every byte of memory reads as before. -/
def SameMemory (s t : State) : Prop := ∀ a, memGet t.mem a = memGet s.mem a

/-- Nothing but the context in hand changes: no other context, core, site, column, region, packet, event, and no byte of memory. -/
def OnlyContext (s t : State) : Prop :=
  t = { s with ctxs := t.ctxs } ∧ (∀ c, c ≠ s.cur → t.ctxAt c = s.ctxAt c) ∧ SameMemory s t

/-- Nothing but gD of the context in hand, its DIRTYMAP, PC and REPSTATE changes: every other register, every flag, the mode, the trap
registers and memory stay. -/
def OnlyG (s t : State) (d : BitVec 5) : Prop :=
  OnlyContext s t ∧ (∀ r, r ≠ d.toNat → t.ctx.rg r = s.ctx.rg r) ∧
  t.ctx = { s.ctx with g := t.ctx.g, dirty := t.ctx.dirty, pc := t.ctx.pc, rep := t.ctx.rep }

/-- As `OnlyG`, but FPFLAGS may change too. -/
def OnlyGAndFlags (s t : State) (d : BitVec 5) : Prop :=
  OnlyContext s t ∧ (∀ r, r ≠ d.toNat → t.ctx.rg r = s.ctx.rg r) ∧
  t.ctx = { s.ctx with g := t.ctx.g, dirty := t.ctx.dirty, pc := t.ctx.pc, rep := t.ctx.rep, fpflags := t.ctx.fpflags }

/-- Nothing but vD, VFLAGS0, VFLAGS1, DIRTYMAP, PC and REPSTATE changes. -/
def OnlyV (s t : State) (d : BitVec 5) : Prop :=
  OnlyContext s t ∧ (∀ r, r ≠ d.toNat → t.ctx.rv r = s.ctx.rv r) ∧
  t.ctx = { s.ctx with v := t.ctx.v, dirty := t.ctx.dirty, pc := t.ctx.pc, rep := t.ctx.rep, vflags0 := t.ctx.vflags0,
                       vflags1 := t.ctx.vflags1 }

/-- Of all contexts only the one in hand changes, and in it nothing but gD, DIRTYMAP, PC and REPSTATE; memory stays. Caches, counters
and packets under way are not spoken of. -/
def ChangesG (s t : State) (d : BitVec 5) : Prop :=
  t.cur = s.cur ∧ (∀ c, c ≠ s.cur → t.ctxAt c = s.ctxAt c) ∧ (∀ r, r ≠ d.toNat → t.ctx.rg r = s.ctx.rg r) ∧
  t.ctx = { s.ctx with g := t.ctx.g, dirty := t.ctx.dirty, pc := t.ctx.pc, rep := t.ctx.rep } ∧ SameMemory s t

/-- Of all contexts only the one in hand changes, and in it nothing but DIRTYMAP, PC and REPSTATE: every register and flag stays. -/
def ChangesNoRegister (s t : State) : Prop :=
  t.cur = s.cur ∧ (∀ c, c ≠ s.cur → t.ctxAt c = s.ctxAt c) ∧
  t.ctx = { s.ctx with dirty := t.ctx.dirty, pc := t.ctx.pc, rep := t.ctx.rep }

/-- The bytes from physical address `a` upward hold `bs` in `t`, and every other byte of memory is as in `s`. -/
def Written (s t : State) (a : Nat) (bs : List Byte) : Prop :=
  (∀ i, i < bs.length → memGet t.mem (a + i) = bs.getD i 0) ∧ ∀ b, (b < a ∨ a + bs.length ≤ b) → memGet t.mem b = memGet s.mem b

/-- A store of `bs` from physical address `a` upward is done in `t`, but for the bits that a store leaves alone (R6, R325, R335, R348), and
every other byte of memory is as in `s`. -/
def Stored (s t : State) (a : Nat) (bs : List Byte) : Prop :=
  (∀ i, i < bs.length → memGet t.mem (a + i) = s.storedByte (a + i) (bs.getD i 0)) ∧
  ∀ b, (b < a ∨ a + bs.length ≤ b) → memGet t.mem b = memGet s.mem b

/-- An access of the context in hand passes the checks of R206 and lands at `l`; `s1` is the state after the checks (caches filled). -/
def Lands (s s1 : State) (ea : Word) (k : AKind) (w : Want) (l : Loc) : Prop :=
  s.grp.pfx.phys = false ∧ s.resolve s.me ea k w = (s1, .ok l)

/-- The location is plain memory: window 0, no register block, no constant page. -/
def PlainLoc (l : Loc) : Prop := l.win = 0 ∧ l.pa / 2 ^ 60 ≠ 5 ∧ l.konst = false

/-- The access is performed in the step that issues it: no packet of the core's accesses is under way, and the next is not delayed. -/
def Undelayed (s : State) (l : Loc) (n : Nat) : Prop := s.atOnce s.cur = true ∧ s.mustWait s.cur l.pa n = false

/-- Outside a REP body the context goes on after the group (R47). -/
def GoesOn (s t : State) : Prop :=
  (s.ctx.rep.active && !s.ctx.inTrap) = false → t.ctx.pc = s.grp.npc ∧ t.ctx.rep = s.ctx.rep

/-! What an instruction does. -/

/-- The instruction answers a next state in which gD holds `x` (g0 keeps 0), nothing else has changed, and the context goes on. -/
def WritesG (i : Instr) (s : State) (d : BitVec 5) (x : Word) : Prop :=
  ∃ t, exec i s = .next t ∧ t.rg d = (if d = 0 then 0 else x) ∧ OnlyG s t d ∧ GoesOn s t

/-- As `WritesG`, with flags `f` added to FPFLAGS. -/
def WritesGF (i : Instr) (s : State) (d : BitVec 5) (x : Word) (f : BitVec 6) : Prop :=
  ∃ t, exec i s = .next t ∧ t.rg d = (if d = 0 then 0 else x) ∧ t.ctx.fpflags = s.ctx.fpflags ||| f ∧ OnlyGAndFlags s t d ∧ GoesOn s t

/-- The instruction answers a next state in which vD holds `x`, nothing else but lane flags has changed, and the context goes on. -/
def WritesV (i : Instr) (s : State) (d : BitVec 5) (x : VWord) : Prop :=
  ∃ t, exec i s = .next t ∧ t.rv d = x ∧ OnlyV s t d ∧ GoesOn s t

/-- The context in hand of `t` stands where a trap taken from `s` begins (R408, R409): cause, TRAPPC and TRAPVAL saved, PRIV in PPRIV,
a trap inside a handler saved in the nested registers, INTRAP 1, and the level and vector of the trap. -/
def TrapEntered (s t : State) (cause : BitVec 8) (val pc : Word) : Prop :=
  t.ctx.trap.cause = cause ∧ t.ctx.trap.val = val ∧ t.ctx.trap.pc = pc ∧ t.ctx.trap.ppriv = s.ctx.priv ∧
  t.ctx.trap.nested = s.ctx.inTrap ∧ (s.ctx.inTrap = true → t.ctx.ntrap = s.ctx.trap) ∧ (s.ctx.inTrap = false → t.ctx.ntrap = s.ctx.ntrap) ∧
  t.ctx.inTrap = true ∧
  (if s.ctx.inTrap = true ∨ s.ctx.priv ≠ 0 then t.ctx.priv = 2 ∧ t.ctx.pc = s.mvecOf s.colNo
   else t.ctx.priv = 1 ∧ t.ctx.pc = s.core.svec) ∧
  t.ctx.g = s.ctx.g ∧ t.ctx.v = s.ctx.v ∧ t.ctx.m = s.ctx.m ∧ t.ctx.fpflags = s.ctx.fpflags ∧ t.ctx.vflags0 = s.ctx.vflags0 ∧
  t.ctx.vflags1 = s.ctx.vflags1 ∧ SameMemory s t

/-- The instruction takes a synchronous trap: TRAPPC is the pc0 of its group, and nothing is written. -/
def Traps (i : Instr) (s : State) (cause : BitVec 8) (val : Word) : Prop :=
  ∃ t, exec i s = .next t ∧ TrapEntered s t cause val s.grp.pc0

/-- Flags and a trap on an enabled one (R76, R128): a raised flag that TRAPEN enables traps FP with TRAPVAL the enabled flags and nothing
written; otherwise gD holds `x`, and the flags join FPFLAGS unless the group carries QUIET. -/
def Flagged (i : Instr) (s : State) (d : BitVec 5) (x : Word) (f : BitVec 6) : Prop :=
  (s.ctx.trapFlags f ≠ 0 → Traps i s cFP ((s.ctx.trapFlags f).setWidth 64)) ∧
  (s.ctx.trapFlags f = 0 → if s.grp.pfx.quiet then WritesG i s d x else WritesGF i s d x f)

/-- An accumulator address that passes the checks of R136, and where it lies; `w` says whether its words are read. -/
def AccAt (s s1 : State) (ea : Word) (w : Want) (pa : Nat) : Prop :=
  ea.toNat % 8 = 0 ∧ classOf ea = .role ∧ bits ea 32 14 = s.ctx.ltile ∧ bits ea 29 3 = s.coreNo % 8 ∧ bits ea 24 5 = 0 ∧
  s1.mustWait s.cur pa 48 = false ∧ ∃ l, s.resolveNow s.me ea (.block 48) w = (s1, .ok l) ∧ l.pa = pa

/-- The 48 bytes at `pa` come to hold `x` modulo 2^384, with flags `f` treated as in `Flagged`, and nothing else changes (R139). -/
def WritesAcc (i : Instr) (s : State) (pa : Nat) (x : Int) (f : BitVec 6) : Prop :=
  (s.ctx.trapFlags f ≠ 0 → Traps i s cFP ((s.ctx.trapFlags f).setWidth 64)) ∧
  (s.ctx.trapFlags f = 0 → ∃ t, exec i s = .next t ∧ Stored s t pa (leBytes 48 (BitVec.ofInt 384 x).toNat) ∧
    t.cur = s.cur ∧ (∀ c, c ≠ s.cur → t.ctxAt c = s.ctxAt c) ∧
    t.ctx = { s.ctx with dirty := t.ctx.dirty, pc := t.ctx.pc, rep := t.ctx.rep,
                         fpflags := if s.grp.pfx.quiet then s.ctx.fpflags else s.ctx.fpflags ||| f } ∧ GoesOn s t)

/-- The flags `f` of the elements `on` of type `t` join the lane bytes of VFLAGS0 and VFLAGS1, unless the group carries QUIET (R78). -/
def LanesFlagged (s u : State) (t : Nat) (on : List Nat) (f : Nat → BitVec 6) : Prop :=
  ∀ l, l < 16 → bits (if l < 8 then u.ctx.vflags0 else u.ctx.vflags1) (8 * (l % 8)) 8 =
    bits (if l < 8 then s.ctx.vflags0 else s.ctx.vflags1) (8 * (l % 8)) 8 |||
      (if s.grp.pfx.quiet then 0 else (on.filter fun e => laneOf t e == l).foldl (fun acc e => acc ||| (f e).toNat) 0)

/-- An element-wise vector result (R76, R78, R143): the enabled elements of type `t` of vD hold `r`, the others stay; the flags of the
enabled elements join the lane bytes of VFLAGS, by the lanes of type `tl`, unless the group carries QUIET; an enabled flag traps FP
with nothing written. -/
def WritesLanes (i : Instr) (s : State) (t tl : Nat) (d : BitVec 5) (r : Nat → Nat × BitVec 6) : Prop :=
  let on := s.lanesOn t
  let f := on.foldl (fun acc e => acc ||| (r e).2) 0
  (s.ctx.trapFlags f ≠ 0 → Traps i s cFP ((s.ctx.trapFlags f).setWidth 64)) ∧
  (s.ctx.trapFlags f = 0 → ∃ u, exec i s = .next u ∧ OnlyV s u d ∧ GoesOn s u ∧
    (∀ e, e < tCount t → el t (u.rv d) e = if bit s.maskOf e then (r e).1 % 2 ^ (8 * tSize t) else el t (s.rv d) e) ∧
    LanesFlagged s u tl on fun e => (r e).2)

/-- Every element access of the list passes the checks of R206 and R211; `s1` is the state after the checks, `acc` the accesses. -/
def VLands (s s1 : State) (n : Nat) (w : Want) (l : List (Nat × Word)) (acc : List ElAcc) : Prop :=
  s.grp.pfx.phys = false ∧ s.resolveAll s.me n w l = (s1, acc) ∧ ∀ p ∈ acc, ∃ x, p.2.2 = .ok x

/-- The instruction writes mask register mD (m0 keeps all ones) and nothing else (R151). -/
def WritesM (i : Instr) (s : State) (d : BitVec 3) (x : Word) : Prop :=
  ∃ t, exec i s = .next t ∧ t.ctx.rmk d.toNat = (if d = 0 then BitVec.allOnes 64 else x) ∧ OnlyContext s t ∧
    (∀ r, r ≠ d.toNat → t.ctx.rmk r = s.ctx.rmk r) ∧
    t.ctx = { s.ctx with m := t.ctx.m, dirty := t.ctx.dirty, pc := t.ctx.pc, rep := t.ctx.rep, vflags0 := t.ctx.vflags0,
                         vflags1 := t.ctx.vflags1 } ∧ GoesOn s t

/-- The instruction sends a packet of the context in hand that answers `f`; its arrival, event `e`, is due (R241, R242, R396). -/
def Sends (i : Instr) (s t : State) (e : Instr) (f : Packet → Prop) : Prop :=
  exec i s = .next t ∧ SameMemory s t ∧ t.core.msgSent = s.core.msgSent + 1 ∧
  ∃ p, t.net = s.net ++ [p] ∧ p.id = s.nextPkt ∧ p.src = s.cur ∧ p.priv = s.ctx.priv ∧ p.srcRegion = s.ctx.region ∧ p.time = s.time ∧ f p ∧
    (s.time + s.delays.headD 0, e, { x := p.id }) ∈ t.agenda

/-- A block of `n` bytes at `ea` that passes the checks of R292, and its bytes; `s1` is the state after the checks. -/
def BlockAt (s s1 : State) (ea : Word) (n al : Nat) (bs : List Byte) : Prop :=
  classOf ea = .role ∧ bits ea 24 4 = 0 ∧ bits ea 32 14 = s.ctx.ltile ∧ ea.toNat % al = 0 ∧
  ∃ l, s.resolveNow s.me ea (.block n) .read = (s1, .ok l) ∧ s1.mustWait s.cur l.pa n = false ∧ bs = memRead s.mem l.pa n

/-- A destination word of R291 with fields in order and an entry in the role map of region `r` which the sender's NI holds as one that names a
site (R336). -/
def DestOk (s : State) (r dw : Word) (task : Bool) (lim : Nat) : Prop :=
  destBad dw task lim = false ∧ bits dw 32 14 < s.rmLen r ∧ (s.sendEntry r (bits dw 32 14)).vacant = false

/-- The instruction answers a next state whose context goes on at `pc`, with nothing else changed. -/
def GoesTo (i : Instr) (s : State) (pc : Word) : Prop :=
  ∃ t, exec i s = .next t ∧ t.ctx.pc = pc ∧ OnlyContext s t ∧ t.ctx = { s.ctx with pc := pc }

end Sys2Proof
end

