-- ==== Sys2Proof/Certificates/Slice0/Obligations.lean ====
section
/-! DEFINITION. The statements for the provers. Frames and the words in which they say what an instruction does stand in
Sys2Proof/Safety.lean. -/

open Sys2Proof Sys2Proof.Machine

/-- Words that the spec writes out decode to the instructions they stand for. (R113, R115, R110, R123, R116, R121, R120, R59, spec/07_scalar_control_system.md) -/
def Obligations.DecodesSpecWords : Prop :=
  decodeWord 0x00280140 0 = some (.beq 10 0 1) ∧ decodeWord 0x0003E060 0 = some (.jr 31) ∧
  decodeWord 0x48D0A534 0 = some (.lih 0x1234 5 5) ∧ decodeWord 0x01804770 0 = some (.srd 0 2 7) ∧
  decodeWord 0x021C0570 0 = some (.swr 7 0 5) ∧ decodeWord 0x00106064 0 = some (.rep 4 1 1 0 0 0) ∧
  decodeWord 0x0028A504 0 = some (.add 0 10 5 5) ∧ decodeWord 0x70 0 = some .sys ∧ decodeWord 0x00800070 0 = some .trapret ∧
  decodeWord 0x01000070 0 = some .brk ∧ decodeWord 0x02800070 0 = some .ifence ∧ decodeWord 0x6C 0 = some .tend ∧
  decodeWord 0x0398A783 0 = some (.lbu 3 6 5 7 0)

/-- Every instruction that has words is read back from its bytes, with every operand at every value its fields admit. (R38, R39, R40, R41, R42, R56, R57, R58, R59, R60, spec/03_instruction_formats.md, spec/04_opcode_map.md) -/
def Obligations.EncodeThenDecode : Prop :=
  ∀ i : Instr, encode i ≠ [] → ∀ rest : List Byte, decodeBytes (encodeBytes i ++ rest) = .ok (i, rest)

/-- A word that the decoder accepts is the encoding of what it reads, so no reserved bit is dropped and no two words decode alike. (R41, R55, spec/03_instruction_formats.md) -/
def Obligations.AcceptedWordsAreEncodings : Prop :=
  (∀ w e i, decodeWord w e = some i → encode i = Sys2Proof.wordsOf i w e) ∧
  (∀ w w' e e' i, w % 4 ≠ 3 → w' % 4 ≠ 3 → decodeWord w e = some i → decodeWord w' e' = some i → w = w')

/-- A step of a context at a group boundary decodes the group at its PC and runs exec of the decoded instruction. (R47, R285, spec/03_instruction_formats.md) -/
def Obligations.StepRunsDecodedGroup : Prop :=
  ∀ (s s' : State) (c : Nat) (i : Instr), s.safe = false → s.dueNow = none → s.readyWait = none → s.readyFetch = none → s.yielding = none →
    s.issuer = some c → (s.ctxAt c).preIssued = false → (s.ctxAt c).asyncDue = false → (s.ctxAt c).overrunDue = false → ({ s with cur := c } : State).decodeGroup = (s', .run i) →
    s'.pendBlocks i = false →
    step s = match exec i s' with
      | .next t => .next (if (t.ctxAt s'.cur).preIssued then ({ t with cur := s'.cur } : State).afterWait
          else ({ t with cur := s'.cur } : State).afterGroup true)
      | .fault r => .fault r
      | .refused r => .refused r

/-- A fetched word is the four bytes in memory, lowest first, and a word without prefixes decodes to the group of its instruction. (R47, R48, R38, R54, R4, R124, R53, spec/03_instruction_formats.md) -/
def Obligations.FetchAndDecode : Prop :=
  (∀ (s s1 : State) (w : Nat) (i : Instr), (s.ctx.rep.active && !s.ctx.inTrap) = false →
    s.fetchWord s.ctx.pc = (s1, .word w false) → assignedOps i = true →
    (w % 4 < 2 → decodeWord w 0 = some i →
      s.decodeGroup = ({ s1 with grp := { pc0 := s.ctx.pc, wpc := s.ctx.pc, npc := s.ctx.pc + 4 } }, .run i)) ∧
    (∀ (s2 : State) (e : Nat), w % 4 = 3 → s1.fetchWord (s.ctx.pc + 4) = (s2, .word e false) → decodeWord w e = some i →
      (decodeLoose w 0).any assignedOps = true → uBad w = false →
      s.decodeGroup = ({ s2 with grp := { pc0 := s.ctx.pc, wpc := s.ctx.pc, npc := s.ctx.pc + 8 } }, .run i))) ∧
  (∀ (s s1 : State) (va : Word) (p pa : Nat) (k : Bool), classOf va = .paged → va.toNat % 4 = 0 → pa % 128 = va.toNat % 128 →
    s.translateAt s.coreNo s.ctx.region s.ctx.priv va.toNat .fetch = (s1, .ok p k) → pa = rawPhys p →
    (s1.core.icache.find? fun l => l.region == s.ctx.region && l.vline == va.toNat / 128) = none →
    s1.physOk pa = true → s1.cxlDead pa = false → s1.cxlWaits pa = false → s1.dramHolds pa = false → s1.poison.contains (pa / 128) = false →
    (s.fetchWord va).2 = .word (s1.readNat pa 4) ((s1.heldGuards s.ctx.region).any fun g => g.guards s1.mem va))

/-- Outside the safe state every step answers a next state, and it keeps the canonical form of memory. (R4, R235, R408, R425, spec/11_memory_map.md, spec/05_registers.md) -/
def Obligations.StepKeepsMemoryForm : Prop :=
  ∀ s : State, Memory.wf s →
    (s.safe = false → ∃ t, step s = .next t ∧ Memory.wf t) ∧ ∀ t, step s = .next t → Memory.wf t

/-- What module reset leaves: contexts FREE with every register 0, sites in BULLPEN, census and governor at reset values, memory in its form. (R66, R83, R339, R433, R381, R424, spec/05_registers.md, spec/20_role_map_census_leases.md, spec/26_boot_ras_power.md) -/
def Obligations.ResetValues : Prop :=
  ((∀ c r, (State.reset.ctxAt c).st = .free ∧ (State.reset.ctxAt c).pc = 0 ∧ (State.reset.ctxAt c).rg r = 0 ∧
    (State.reset.ctxAt c).rv r = 0 ∧ (r ≠ 0 → (State.reset.ctxAt c).rmk r = 0) ∧ (State.reset.ctxAt c).dirty = 0 ∧
    (State.reset.ctxAt c).fpflags = 0 ∧ (State.reset.ctxAt c).rep = {}) ∧
  (∀ k, (State.reset.coreAt k).rq = [] ∧ State.reset.cpt k = 0x2B333) ∧ (∀ t, (State.reset.tileAt t).st = .bullpen) ∧
  (∀ c, (State.reset.colAt c).drainLim = 8 ∧ (State.reset.colAt c).lead = 20 ∧ (State.reset.colAt c).maxRecast = 8 ∧
    (State.reset.colAt c).limit = 5500 ∧ (State.reset.colAt c).fstep = 108) ∧ State.reset.time = 0) ∧
  (Memory.wf State.reset ∧ SafeState State.reset)

/-- OP 0x01: every one-cycle integer operation writes its result at 64 bits and, at W = 1, the sign-extended 32-bit result, and nothing else. (R106) -/
def Obligations.IntegerOneCycleResults : Prop :=
  ∀ (s : State) (b a d : BitVec 5), s.grp.pfx.sat = false →
    let x := s.rg a
    let y := s.rg b
    let u : BitVec 32 := x.setWidth 32
    let v : BitVec 32 := y.setWidth 32
    (WritesG (.add 0 b a d) s d (x + y) ∧ WritesG (.sub 0 b a d) s d (x - y) ∧ WritesG (.and 0 b a d) s d (x &&& y) ∧
     WritesG (.or 0 b a d) s d (x ||| y) ∧ WritesG (.xor 0 b a d) s d (x ^^^ y) ∧ WritesG (.andn 0 b a d) s d (x &&& ~~~ y) ∧
     WritesG (.shl 0 b a d) s d (x <<< (y.toNat % 64)) ∧ WritesG (.shr 0 b a d) s d (x >>> (y.toNat % 64)) ∧
     WritesG (.sar 0 b a d) s d (x.sshiftRight (y.toNat % 64)) ∧ WritesG (.rol 0 b a d) s d (x.rotateLeft (y.toNat % 64)) ∧
     WritesG (.min 0 b a d) s d (if x.sle y then x else y) ∧ WritesG (.max 0 b a d) s d (if x.sle y then y else x) ∧
     WritesG (.minu 0 b a d) s d (if x ≤ y then x else y) ∧ WritesG (.maxu 0 b a d) s d (if x ≤ y then y else x) ∧
     WritesG (.slt 0 b a d) s d (if x.slt y then 1 else 0) ∧ WritesG (.sltu 0 b a d) s d (if x < y then 1 else 0) ∧
     WritesG (.seq 0 b a d) s d (if x = y then 1 else 0)) ∧
    (WritesG (.add 1 b a d) s d ((u + v).signExtend 64) ∧ WritesG (.sub 1 b a d) s d ((u - v).signExtend 64) ∧
     WritesG (.and 1 b a d) s d ((u &&& v).signExtend 64) ∧ WritesG (.or 1 b a d) s d ((u ||| v).signExtend 64) ∧
     WritesG (.xor 1 b a d) s d ((u ^^^ v).signExtend 64) ∧ WritesG (.andn 1 b a d) s d ((u &&& ~~~ v).signExtend 64) ∧
     WritesG (.shl 1 b a d) s d ((u <<< (y.toNat % 32)).signExtend 64) ∧ WritesG (.shr 1 b a d) s d ((u >>> (y.toNat % 32)).signExtend 64) ∧
     WritesG (.sar 1 b a d) s d ((u.sshiftRight (y.toNat % 32)).signExtend 64) ∧
     WritesG (.rol 1 b a d) s d ((u.rotateLeft (y.toNat % 32)).signExtend 64) ∧
     WritesG (.min 1 b a d) s d ((if u.sle v then u else v).signExtend 64) ∧
     WritesG (.max 1 b a d) s d ((if u.sle v then v else u).signExtend 64) ∧
     WritesG (.minu 1 b a d) s d ((if u ≤ v then u else v).signExtend 64) ∧
     WritesG (.maxu 1 b a d) s d ((if u ≤ v then v else u).signExtend 64) ∧
     WritesG (.slt 1 b a d) s d (if u.slt v then 1 else 0) ∧ WritesG (.sltu 1 b a d) s d (if u < v then 1 else 0) ∧
     WritesG (.seq 1 b a d) s d (if u = v then 1 else 0)) ∧
    ∀ (w : BitVec 1) (p : Instr × Nat), p ∈ [(.add w b a d, 0x00), (.sub w b a d, 0x01), (.and w b a d, 0x02), (.or w b a d, 0x03),
        (.xor w b a d, 0x04), (.andn w b a d, 0x05), (.shl w b a d, 0x06), (.shr w b a d, 0x07), (.sar w b a d, 0x08),
        (.rol w b a d, 0x09), (.min w b a d, 0x0A), (.max w b a d, 0x0B), (.minu w b a d, 0x0C), (.maxu w b a d, 0x0D),
        (.slt w b a d, 0x0E), (.sltu w b a d, 0x0F), (.seq w b a d, 0x10)] →
      encode p.1 = [pack [(9, 0x100 * w.toNat + p.2), (5, b.toNat), (5, a.toNat), (5, d.toNat), (6, 0x01), (2, 0)]]

/-- OP 0x02: products, high halves, quotients truncated toward zero and remainders; a zero divisor traps INT_DIV and changes no register. (R107, spec/07_scalar_control_system.md) -/
def Obligations.MultiplyDivideResults : Prop :=
  ∀ (s : State) (b a d : BitVec 5), s.grp.pfx.sat = false →
    let x := s.rg a
    let y := s.rg b
    let u : BitVec 32 := x.setWidth 32
    let v : BitVec 32 := y.setWidth 32
    (WritesG (.mul 0 b a d) s d (x * y) ∧
     WritesG (.mulh 0 b a d) s d (((x.signExtend 128 * y.signExtend 128) >>> 64).setWidth 64) ∧
     WritesG (.mulhu 0 b a d) s d (((x.setWidth 128 * y.setWidth 128) >>> 64).setWidth 64) ∧
     WritesG (.mul 1 b a d) s d ((u * v).signExtend 64) ∧
     WritesG (.mulh 1 b a d) s d ((((u.signExtend 64 * v.signExtend 64) >>> 32).setWidth 32 : BitVec 32).signExtend 64) ∧
     WritesG (.mulhu 1 b a d) s d ((((u.setWidth 64 * v.setWidth 64) >>> 32).setWidth 32 : BitVec 32).signExtend 64)) ∧
    (y ≠ 0 → WritesG (.div 0 b a d) s d (x.sdiv y) ∧ WritesG (.rem 0 b a d) s d (x.srem y) ∧
      WritesG (.divu 0 b a d) s d (x / y) ∧ WritesG (.remu 0 b a d) s d (x % y)) ∧
    (v ≠ 0 → WritesG (.div 1 b a d) s d ((u.sdiv v).signExtend 64) ∧ WritesG (.rem 1 b a d) s d ((u.srem v).signExtend 64) ∧
      WritesG (.divu 1 b a d) s d ((u / v).signExtend 64) ∧ WritesG (.remu 1 b a d) s d ((u % v).signExtend 64)) ∧
    (y = 0 → Traps (.div 0 b a d) s cINT_DIV 0 ∧ Traps (.rem 0 b a d) s cINT_DIV 0 ∧ Traps (.divu 0 b a d) s cINT_DIV 0 ∧
      Traps (.remu 0 b a d) s cINT_DIV 0) ∧
    (v = 0 → Traps (.div 1 b a d) s cINT_DIV 0 ∧ Traps (.rem 1 b a d) s cINT_DIV 0 ∧ Traps (.divu 1 b a d) s cINT_DIV 0 ∧
      Traps (.remu 1 b a d) s cINT_DIV 0)

/-- Under .sat the saturating integer forms clamp the exact result to the signed range of the width and raise FPFLAGS.SAT; nothing else changes. (R105, R88, R97, spec/07_scalar_control_system.md) -/
def Obligations.SaturatingFormsClamp : Prop :=
  ∀ (s : State) (b a d : BitVec 5), s.grp.pfx.sat = true →
    let n (w : BitVec 1) : Nat := if w = 0 then 64 else 32
    let val (w : BitVec 1) (r : BitVec 5) : Int := if w = 0 then (s.rg r).toInt else ((s.rg r).setWidth 32).toInt
    let clamps (i : Instr) (w : BitVec 1) (x : Int) : Prop :=
      (x < -(2 ^ (n w - 1)) → WritesGF i s d (BitVec.ofInt 64 (-(2 ^ (n w - 1)))) flSAT) ∧
      (2 ^ (n w - 1) ≤ x → WritesGF i s d (BitVec.ofInt 64 (2 ^ (n w - 1) - 1)) flSAT) ∧
      (-(2 ^ (n w - 1)) ≤ x → x < 2 ^ (n w - 1) → WritesGF i s d (BitVec.ofInt 64 x) 0)
    (∀ w, clamps (.add w b a d) w (val w a + val w b) ∧ clamps (.sub w b a d) w (val w a - val w b) ∧
      clamps (.mul w b a d) w (val w a * val w b) ∧ clamps (.shl w b a d) w (val w a * 2 ^ ((s.rg b).toNat % n w)) ∧
      (val w b ≠ 0 → clamps (.div w b a d) w (Int.tdiv (val w a) (val w b)))) ∧
    (∀ i, clamps (.addi i a d) 0 ((s.rg a).toInt + (immI s.grp.pfx i).toInt)) ∧
    (∀ e, clamps (.addiL a d e) 0 ((s.rg a).toInt + e.toInt)) ∧
    (∀ i : BitVec 14, i.toNat ≤ 63 → clamps (.shli i a d) 0 ((s.rg a).toInt * 2 ^ i.toNat)) ∧
    (∀ e : BitVec 32, e.toNat ≤ 63 → clamps (.shliL a d e) 0 ((s.rg a).toInt * 2 ^ e.toNat))

/-- OP 0x03: counts, reversal, bit-field extract and insert, select; BEXT, BINS and SEL at W = 1 trap ILLEGAL. (R108, R104, spec/07_scalar_control_system.md) -/
def Obligations.BitOperationResults : Prop :=
  ∀ (s : State) (b a d : BitVec 5),
    let x := s.rg a
    let u : BitVec 32 := x.setWidth 32
    let pos := ((s.rg b).extractLsb' 0 6).toNat
    let len := min ((s.rg b).extractLsb' 8 7).toNat 64
    (∃ n : Nat, WritesG (.clz 0 a d) s d (BitVec.ofNat 64 n) ∧ n ≤ 64 ∧ (∀ i, 64 - n ≤ i → i < 64 → x.getLsbD i = false) ∧
      (n < 64 → x.getLsbD (63 - n) = true)) ∧
    (∃ n : Nat, WritesG (.clz 1 a d) s d (BitVec.ofNat 64 n) ∧ n ≤ 32 ∧ (∀ i, 32 - n ≤ i → i < 32 → x.getLsbD i = false) ∧
      (n < 32 → x.getLsbD (31 - n) = true)) ∧
    (∃ n : Nat, WritesG (.ctz 0 a d) s d (BitVec.ofNat 64 n) ∧ n ≤ 64 ∧ (∀ i, i < n → x.getLsbD i = false) ∧
      (n < 64 → x.getLsbD n = true)) ∧
    (∃ n : Nat, WritesG (.ctz 1 a d) s d (BitVec.ofNat 64 n) ∧ n ≤ 32 ∧ (∀ i, i < n → x.getLsbD i = false) ∧
      (n < 32 → x.getLsbD n = true)) ∧
    WritesG (.popc 0 a d) s d (BitVec.ofNat 64 ((List.range 64).countP fun i => x.getLsbD i)) ∧
    WritesG (.popc 1 a d) s d (BitVec.ofNat 64 ((List.range 32).countP fun i => x.getLsbD i)) ∧
    WritesG (.brev 0 a d) s d x.reverse ∧ WritesG (.brev 1 a d) s d (u.reverse.signExtend 64) ∧
    (∃ r : Word, WritesG (.bext 0 b a d) s d r ∧ ∀ i, i < 64 → r.getLsbD i = (decide (i < len) && x.getLsbD (pos + i))) ∧
    (∃ r : Word, WritesG (.bins 0 b a d) s d r ∧ ∀ i, i < 64 →
      r.getLsbD i = (if pos ≤ i ∧ i < pos + len then x.getLsbD (i - pos) else (s.rg d).getLsbD i)) ∧
    WritesG (.sel 0 b a d) s d (if s.rg d ≠ 0 then x else s.rg b) ∧
    Traps (.bext 1 b a d) s cILLEGAL s.grp.wpc ∧ Traps (.bins 1 b a d) s cILLEGAL s.grp.wpc ∧
    Traps (.sel 1 b a d) s cILLEGAL s.grp.wpc

/-- Immediate forms, LIH, LEA and GADR write the results of their rules; a shift amount outside 0 to 63 traps ILLEGAL, a bad address field PROTECT. (R109, R45, R59, R110, R111, R112, R195, spec/07_scalar_control_system.md) -/
def Obligations.ImmediatesAndAddresses : Prop :=
  (∀ (s : State) (a d : BitVec 5), s.grp.pfx.sat = false →
    let x := s.rg a
    (∀ i : BitVec 14,
      let v : Word := match s.grp.pfx.ext with
        | none => i.signExtend 64
        | some e => (e ++ i).signExtend 64
      WritesG (.addi i a d) s d (x + v) ∧ WritesG (.andi i a d) s d (x &&& v) ∧ WritesG (.ori i a d) s d (x ||| v) ∧
      WritesG (.xori i a d) s d (x ^^^ v) ∧ WritesG (.slti i a d) s d (if x.slt v then 1 else 0) ∧
      WritesG (.sltui i a d) s d (if x < v then 1 else 0) ∧
      (i.toNat ≤ 63 → WritesG (.shli i a d) s d (x <<< i.toNat) ∧ WritesG (.shri i a d) s d (x >>> i.toNat) ∧
        WritesG (.sari i a d) s d (x.sshiftRight i.toNat)) ∧
      (63 < i.toNat → Traps (.shli i a d) s cILLEGAL s.grp.wpc ∧ Traps (.shri i a d) s cILLEGAL s.grp.wpc ∧
        Traps (.sari i a d) s cILLEGAL s.grp.wpc)) ∧
    (∀ e : BitVec 32,
      let v : Word := e.signExtend 64
      WritesG (.addiL a d e) s d (x + v) ∧ WritesG (.andiL a d e) s d (x &&& v) ∧ WritesG (.oriL a d e) s d (x ||| v) ∧
      WritesG (.xoriL a d e) s d (x ^^^ v) ∧ WritesG (.sltiL a d e) s d (if x.slt v then 1 else 0) ∧
      WritesG (.sltuiL a d e) s d (if x < v then 1 else 0) ∧
      (e.toNat ≤ 63 → WritesG (.shliL a d e) s d (x <<< e.toNat) ∧ WritesG (.shriL a d e) s d (x >>> e.toNat) ∧
        WritesG (.sariL a d e) s d (x.sshiftRight e.toNat)) ∧
      (63 < e.toNat → Traps (.shliL a d e) s cILLEGAL s.grp.wpc ∧ Traps (.shriL a d e) s cILLEGAL s.grp.wpc ∧
        Traps (.sariL a d e) s cILLEGAL s.grp.wpc))) ∧
  (∀ (s : State) (a d : BitVec 5),
    let x := s.rg a
    (∀ i : BitVec 14, WritesG (.lih i a d) s d ((i.signExtend 64 <<< 32) + (x.setWidth 32).setWidth 64)) ∧
    (∀ i : BitVec 14, WritesG (.lea i d) s d (s.grp.wpc + 4 * immI s.grp.pfx i)) ∧
    (∀ e : BitVec 32, WritesG (.leaL d e) s d (s.grp.wpc + 4 * e.signExtend 64)) ∧
    (∀ i : BitVec 14, gadrSelOk i = true →
      (bits i 12 2 = 0 → x.extractLsb' 46 18 = 0 → x.extractLsb' 24 8 = 0 →
        ∃ r : Word, WritesG (.gadr i a d) s d r ∧ r.extractLsb' 50 14 = 0x3FFF ∧ bits r 46 4 = 0 ∧ bits r 32 14 = bits x 32 14 ∧
          bits r 29 3 = bits i 5 3 ∧ bits r 28 1 = bits i 4 1 ∧ bits r 24 4 = bits i 8 4 ∧ bits r 0 24 = bits x 0 24) ∧
      (bits i 12 2 = 0 → (x.extractLsb' 46 18 ≠ 0 ∨ x.extractLsb' 24 8 ≠ 0) → Traps (.gadr i a d) s cPROTECT x) ∧
      (bits i 12 2 = 1 → x.extractLsb' 44 20 = 0 →
        ∃ r : Word, WritesG (.gadr i a d) s d r ∧ bits r 60 4 = 7 ∧ bits r 48 12 = s.module % 4096 ∧ bits r 44 4 = bits i 0 4 ∧
          bits r 0 44 = bits x 0 44) ∧
      (bits i 12 2 = 1 → x.extractLsb' 44 20 ≠ 0 → Traps (.gadr i a d) s cPROTECT x) ∧
      (bits i 12 2 = 2 → x.extractLsb' 60 4 = 0 → bits x 44 4 ≤ 8 →
        ∃ r : Word, WritesG (.gadr i a d) s d r ∧ bits r 60 4 = 7 ∧ bits r 0 60 = bits x 0 60) ∧
      (bits i 12 2 = 2 → (x.extractLsb' 60 4 ≠ 0 ∨ 8 < bits x 44 4) → Traps (.gadr i a d) s cPROTECT x)))

/-- Conditional branches go to PC + 4·offset where the comparison of gD with gA holds, else to PC + 4, and change nothing else. (R113) -/
def Obligations.BranchResults : Prop :=
  ∀ (s : State) (o : BitVec 14) (a d : BitVec 5), s.grp.npc = s.grp.wpc + 4 →
    let x := s.rg d
    let y := s.rg a
    let dest := s.grp.wpc + 4 * o.signExtend 64
    GoesTo (.beq o a d) s (if x = y then dest else s.grp.wpc + 4) ∧ GoesTo (.bne o a d) s (if x ≠ y then dest else s.grp.wpc + 4) ∧
    GoesTo (.blt o a d) s (if x.slt y then dest else s.grp.wpc + 4) ∧ GoesTo (.bge o a d) s (if y.sle x then dest else s.grp.wpc + 4) ∧
    GoesTo (.bltu o a d) s (if x < y then dest else s.grp.wpc + 4) ∧ GoesTo (.bgeu o a d) s (if y ≤ x then dest else s.grp.wpc + 4) ∧
    ∀ p : Instr × Nat, p ∈ [(.beq o a d, 0x10), (.bne o a d, 0x11), (.blt o a d, 0x12), (.bge o a d, 0x13), (.bltu o a d, 0x14),
        (.bgeu o a d, 0x15)] → encode p.1 = [pack [(14, o.toNat), (5, a.toNat), (5, d.toNat), (6, p.2), (2, 0)]]

/-- JMP and JAL go to PC + 4·offset24, JAL writing g31 := PC + 4 first; both are J form and control transfers. (R114) -/
def Obligations.JumpAndLink : Prop :=
  ∀ (s : State) (o : BitVec 24),
    GoesTo (.jmp o) s (s.grp.wpc + 4 * o.signExtend 64) ∧
    (∃ t, exec (.jal o) s = .next t ∧ t.ctx.pc = s.grp.wpc + 4 * o.signExtend 64 ∧ t.rg 31 = s.grp.wpc + 4 ∧ OnlyG s t 31) ∧
    encode (.jmp o) = [pack [(24, o.toNat), (6, 0x16), (2, 0)]] ∧ encode (.jal o) = [pack [(24, o.toNat), (6, 0x17), (2, 0)]] ∧
    (∀ i, i ∈ [Instr.jmp o, .jal o] → ∀ w, w ∈ encode i → controlTransfer w = true)

/-- JR and JALR go to the value that gA held before the link is written; a misaligned target traps ALIGN before any register changes. (R115, R54, spec/07_scalar_control_system.md) -/
def Obligations.IndirectJumps : Prop :=
  ∀ (s : State) (a d : BitVec 5),
    let x := s.rg a
    (x.extractLsb' 0 2 = 0 → GoesTo (.jr a) s x ∧
      ∃ t, exec (.jalr a d) s = .next t ∧ t.ctx.pc = x ∧ t.rg d = (if d = 0 then 0 else s.grp.wpc + 4) ∧ OnlyG s t d) ∧
    (x.extractLsb' 0 2 ≠ 0 → Traps (.jr a) s cALIGN x ∧ Traps (.jalr a d) s cALIGN x)

/-- REP starts a replay or traps ILLEGAL; a body group advances GROUP and OFFSET, the last one the pass, the last pass clears REPSTATE. (R116, R117, R75, R119, R82, spec/07_scalar_control_system.md) -/
def Obligations.RepReplaysItsBody : Prop :=
  (∀ (s : State) (c : BitVec 14) (st : BitVec 4) (mb ma md : BitVec 1) (n : BitVec 3),
    (s.ctx.inTrap = false → s.ctx.rep.active = false → c ≠ 0 →
      ∃ t, exec (.rep c st mb ma md n) s = .next t ∧ t.ctx.rep.pass = 0 ∧ t.ctx.rep.active = true ∧ t.ctx.rep.n.toNat = n.toNat + 1 ∧
        t.ctx.rep.group = 0 ∧ t.ctx.rep.offset = 1 ∧ t.ctx.dirty = s.ctx.dirty ||| BitVec.ofNat 72 (2 ^ 71) ∧
        t.ctx.pc = s.grp.wpc + 4 ∧ OnlyContext s t ∧ t.ctx = { s.ctx with rep := t.ctx.rep, dirty := t.ctx.dirty, pc := t.ctx.pc }) ∧
    ((s.ctx.inTrap = true ∨ s.ctx.rep.active = true ∨ c = 0) → Traps (.rep c st mb ma md n) s cILLEGAL s.grp.wpc)) ∧
  ((∀ (c : Ctx) (g : Group) (k : Nat), c.rep.active = true → c.inTrap = false → 1 ≤ k → k ≤ 2 →
    g.npc = g.pc0 + BitVec.ofNat 64 (4 * k) → c.rep.offset.toNat + k < 64 →
    (c.rep.group.toNat + 1 ≠ c.rep.n.toNat → c.rep.group.toNat < 7 →
      (c.finish g).rep.group.toNat = c.rep.group.toNat + 1 ∧ (c.finish g).rep.offset.toNat = c.rep.offset.toNat + k ∧
      (c.finish g).rep.pass = c.rep.pass ∧ (c.finish g).rep.active = true ∧ (c.finish g).pc = g.npc) ∧
    (c.rep.group.toNat + 1 = c.rep.n.toNat → c.rep.pass.toNat + 1 ≠ g.repCount →
      (c.finish g).rep.group = 0 ∧ (c.finish g).rep.offset = 1 ∧ (c.finish g).rep.pass = c.rep.pass + 1 ∧
      (c.finish g).rep.active = true ∧ (c.finish g).pc = g.pc0 - BitVec.ofNat 64 (4 * c.rep.offset.toNat) + 4) ∧
    (c.rep.group.toNat + 1 = c.rep.n.toNat → c.rep.pass.toNat + 1 = g.repCount → (c.finish g).rep = {} ∧ (c.finish g).pc = g.npc) ∧
    (c.finish g).dirty = c.dirty ||| BitVec.ofNat 72 (2 ^ 71)) ∧
  (∀ (c : Ctx) (g : Group), (c.inTrap = true ∨ c.rep.active = false) → c.finish g = { c with pc := g.npc }) ∧
  (∀ (r : RepWord) (p w : Nat), w < 2 ^ 32 →
    (∀ lo sel, (lo, sel) ∈ [(8, r.md), (13, r.ma), (18, r.mb)] →
      (nbits (stagger r p w) lo 5 : Int) = if sel then ((nbits w lo 5 : Int) + r.stride * p).emod 32 else nbits w lo 5) ∧
    nbits (stagger r p w) 0 8 = nbits w 0 8 ∧ nbits (stagger r p w) 23 9 = nbits w 23 9))

/-- POOL jumps over its N data words and traps ILLEGAL with N = 0; a word with OP 0x00 traps ILLEGAL as a decode trap. (R52, R55, R47, R74, spec/03_instruction_formats.md) -/
def Obligations.PoolAndUnassignedWords : Prop :=
  ∀ s : State,
    (∀ n : BitVec 12, (n ≠ 0 → GoesTo (.pool n) s (s.grp.wpc + BitVec.ofNat 64 (4 * (n.toNat + 1)))) ∧
      (n = 0 → Traps (.pool n) s cILLEGAL s.grp.wpc)) ∧
    ∀ x : BitVec 24, ∃ t, exec (.ill x) s = .next t ∧ TrapEntered s t cILLEGAL s.grp.wpc s.grp.pc0 ∧ t.ctx.trap.decode = true

/-- SYS traps SYSCALL with TRAPVAL 0 and BRK traps BREAK with TRAPVAL 2, TRAPPC their own address; their words have no operands. (R121) -/
def Obligations.SystemCallAndBreak : Prop :=
  (∀ s : State, Traps .sys s cSYSCALL 0 ∧ Traps .brk s cBREAK 2) ∧ encode .sys = [0x70] ∧ encode .brk = [0x01000070] ∧
  ∀ d a b : BitVec 5, (d ≠ 0 ∨ a ≠ 0 ∨ b ≠ 0) →
    decodeWord (0x70 + d.toNat * 2 ^ 8 + a.toNat * 2 ^ 13 + b.toNat * 2 ^ 18) 0 = none ∧
    decodeWord (0x01000070 + d.toNat * 2 ^ 8 + a.toNat * 2 ^ 13 + b.toNat * 2 ^ 18) 0 = none

/-- TRAPRET returns to TRAPPC with PRIV restored, or back into the interrupted handler, after its four checks in order. (R122) -/
def Obligations.TrapReturn : Prop :=
  ∀ s : State, (∀ p, p ∈ s.ctx.pend → ∀ r sel, p.dest ≠ .badd r sel) →
    (s.ctx.priv = 0 → Traps .trapret s cPRIVILEGE s.grp.wpc) ∧
    (s.ctx.priv ≠ 0 → (s.ctx.inTrap = false ∨ s.ctx.trap.ppriv = 3) → Traps .trapret s cILLEGAL s.grp.wpc) ∧
    (s.ctx.priv ≠ 0 → s.ctx.inTrap = true → s.ctx.trap.ppriv ≠ 3 → s.ctx.priv < s.ctx.trap.ppriv → Traps .trapret s cPRIVILEGE s.grp.wpc) ∧
    (s.ctx.priv ≠ 0 → s.ctx.inTrap = true → s.ctx.trap.ppriv ≠ 3 → s.ctx.trap.ppriv ≤ s.ctx.priv → s.ctx.trap.pc.extractLsb' 0 2 ≠ 0 →
      Traps .trapret s cALIGN s.ctx.trap.pc) ∧
    (s.ctx.priv ≠ 0 → s.ctx.inTrap = true → s.ctx.trap.ppriv ≠ 3 → s.ctx.trap.ppriv ≤ s.ctx.priv → s.ctx.trap.pc.extractLsb' 0 2 = 0 →
      ∃ t, exec .trapret s = .next t ∧ t.ctx.pc = s.ctx.trap.pc ∧ t.ctx.priv = s.ctx.trap.ppriv ∧
        (s.ctx.trap.nested = true → t.ctx.trap = s.ctx.ntrap ∧ t.ctx.inTrap = true) ∧
        (s.ctx.trap.nested = false → t.ctx.trap = s.ctx.trap ∧ t.ctx.inTrap = false) ∧
        t.ctx.g = s.ctx.g ∧ t.ctx.v = s.ctx.v ∧ t.ctx.m = s.ctx.m ∧ t.ctx.fpflags = s.ctx.fpflags ∧ t.ctx.rep = s.ctx.rep ∧
        SameMemory s t) ∧ encode .trapret = [0x00800070] ∧
    ∀ d a b : BitVec 5, (d ≠ 0 ∨ a ≠ 0 ∨ b ≠ 0) → decodeWord (0x00800070 + d.toNat * 2 ^ 8 + a.toNat * 2 ^ 13 + b.toNat * 2 ^ 18) 0 = none

/-- Trap entry saves cause, value, PC and PRIV, a nested one the older trap too, raises the level and goes to SVEC or MVEC; nothing else changes. (R409) -/
def Obligations.TrapEntry : Prop :=
  ∀ (s : State) (c : Nat) (cause : BitVec 8) (val pc : Word) (dec eng : Bool) (w : Option WorkId),
    let x := s.ctxAt c
    let t := s.enterTrapAt c cause val pc dec eng w
    let y := t.ctxAt c
    (x.inTrap = true → y.ntrap = x.trap) ∧ (x.inTrap = false → y.ntrap = x.ntrap) ∧
    y.trap = { cause := cause, pc := pc, val := val, ppriv := x.priv, decode := dec, engine := eng, nested := x.inTrap } ∧
    y.inTrap = true ∧
    (x.priv = 0 → x.inTrap = false → y.priv = 1 ∧ y.pc = (s.coreAt (coreOfCtx c)).svec) ∧
    ((x.priv ≠ 0 ∨ x.inTrap = true) → y.priv = 2 ∧ y.pc = s.mvecOf (colOfSite (siteOfCtx c))) ∧
    y = { x with ntrap := y.ntrap, ntrapWork := y.ntrapWork, trap := y.trap, trapWork := y.trapWork, inTrap := true, priv := y.priv,
                 pc := y.pc, wait := none, fetchWait := false, st := .issuing } ∧
    (∀ d, d ≠ c → t.ctxAt d = s.ctxAt d) ∧ SameMemory s t

/-- A trap at M without firmware enters the safe state with a failure record; there nothing issues and no event acts but a management request. (R408, R425, R73, R427, spec/25_traps_stops_preemption.md, spec/26_boot_ras_power.md) -/
def Obligations.TheSafeState : Prop :=
  (∀ (s : State) (c : Nat) (cause : BitVec 8) (val pc : Word) (dec eng : Bool) (w : Option WorkId),
    let x := s.ctxAt c
    let col := colOfSite (siteOfCtx c)
    let t := s.enterTrapAt c cause val pc dec eng w
    ((x.priv ≠ 0 ∨ x.inTrap = true) → (s.colAt col).mvec = none →
      t.safe = true ∧ (∃ r, t.failRec = some r ∧ r.phase = 5 ∧ r.unit = 5 ∧ r.column = col ∧
        r.detail.toNat = cause.toNat * 2 ^ 24 + pc.toNat % 2 ^ 24 ∧ r.time = s.time) ∧ ∀ p, p ∈ t.ports → p.2.trained = false) ∧
    (((x.priv = 0 ∧ x.inTrap = false) ∨ (s.colAt col).mvec ≠ none) → t.safe = s.safe ∧ t.failRec = s.failRec)) ∧
  (∀ s : State, s.safe = true →
    (∀ e s', s.due = some (e, s') → (e = .statusRequest ∨ e = .attestationReport ∨ e = .moduleReset) → step s = exec e s') ∧
    (∀ e s', s.due = some (e, s') → e ≠ .statusRequest → e ≠ .attestationReport → e ≠ .moduleReset → step s = .next s') ∧
    (s.due = none → (∀ p, p ∈ s.agenda → p.2.1 ≠ .statusRequest ∧ p.2.1 ≠ .attestationReport ∧ p.2.1 ≠ .moduleReset) → step s = .fault .safeState) ∧
    (∀ t, step s = .next t → t.safe = true ∨ ∃ s', s.due = some (.moduleReset, s')))

/-- ASYNC_TRAP_TAKEN takes the held trap of the lowest cause, BUDGET_EXHAUSTED takes OVERRUN, and a satisfied wait completes its group. (R410, R80, R283, R62, spec/25_traps_stops_preemption.md) -/
def Obligations.TrapsAtGroupBoundaries : Prop :=
  ∀ s : State,
    let c := s.ev.x
    let x := s.ctxAt c
    (x.st ≠ .free → x.inTrap = false → x.held ≠ [] →
      ∃ h t, h ∈ x.held ∧ (∀ k, k ∈ x.held → h.cause.toNat ≤ k.cause.toNat) ∧ exec .asyncTrapTaken s = .next t ∧
        (t.ctxAt c).trap.cause = h.cause ∧ (t.ctxAt c).trap.val = h.val ∧ (t.ctxAt c).trap.pc = h.pc.getD x.pc ∧
        (t.ctxAt c).trap.engine = h.engine ∧ (t.ctxAt c).inTrap = true ∧ (t.ctxAt c).held = x.held.erase h ∧
        (t.ctxAt c).g = x.g ∧ SameMemory s t) ∧
    (x.st ≠ .free → x.inTrap = false → x.budgetRem = 0 →
      ∃ t, exec .budgetExhausted s = .next t ∧ (t.ctxAt c).trap.cause = cOVERRUN ∧ (t.ctxAt c).trap.val = x.startBudget ∧
        (t.ctxAt c).trap.pc = x.pc ∧ (t.ctxAt c).inTrap = true ∧ (t.ctxAt c).g = x.g ∧ SameMemory s t) ∧
    (∀ i g t, x.wait = some (i, g) → joins i = false → rerun i (s.awake c g) = .next t → (t.ctxAt c).wait = none →
      exec .wWaitSatisfied s = .next t) ∧
    (x.wait = none → exec .wWaitSatisfied s = .next s)

/-- SRD writes the value of the register it names at or above its read level, traps PRIVILEGE below it, and ILLEGAL for an unlisted number. (R70, R123, R72, R74, R76, R77, R79, R82, R83, spec/05_registers.md, spec/07_scalar_control_system.md) -/
def Obligations.SystemRegisterReads : Prop :=
  ∀ (s : State) (b a d : BitVec 5),
    let n := 32 * a.toNat + b.toNat
    let c := s.ctx
    let flag (x : Bool) : BitVec 1 := BitVec.ofBool x
    let stat (r : TrapRegs) : Word := 0#56 ++ r.ppriv ++ flag r.decode ++ flag r.engine ++ flag r.nested ++ 0#3
    let st : BitVec 2 := match c.st with
      | .free => 0
      | .issuing => 1
      | .stalled => 2
      | .stopped => 3
    let free := ((rangeFrom (4 * s.coreNo) 4).filter fun i => (s.ctxAt i).st == .free).length
    let table : List (Nat × BitVec 2 × Word) := [
      (0, 0, 0#56 ++ c.cls ++ c.priv ++ flag c.gang ++ flag c.inTrap ++ st), (1, 1, c.trap.cause.setWidth 64), (2, 1, c.trap.pc),
      (3, 1, c.trap.val), (4, 1, stat c.trap), (5, 1, c.dirty.extractLsb' 0 64), (6, 1, (c.dirty.extractLsb' 64 8).setWidth 64),
      (7, 0, 0#55 ++ c.trapen ++ 0#1 ++ c.rm), (8, 0, c.fpflags.setWidth 64), (9, 0, c.vflags0), (10, 0, c.vflags1),
      (11, 0, BitVec.ofNat 64 c.vgrant), (12, 0, c.budgetRem), (13, 0, c.deadline), (14, 0, c.region), (15, 0, c.taskinfo),
      (16, 0, c.rep.pass ++ flag c.rep.active ++ c.rep.n ++ c.rep.group ++ 0#18 ++ c.rep.offset), (17, 2, c.ntrap.cause.setWidth 64),
      (18, 2, c.ntrap.pc), (19, 2, c.ntrap.val), (20, 2, stat c.ntrap),
      (32, 1, BitVec.ofNat 64 (s.core.lastRej.toNat * 2 ^ 24 + free * 2 ^ 16 + s.core.ready.length * 2 ^ 8 + s.core.qlen)),
      (33, 1, 0#16 ++ s.core.margin ++ 0#15 ++ flag s.core.hold),
      (34, 1, BitVec.ofNat 64 (s.core.chSize * 2 ^ 24 + s.core.chBase * 2 ^ 7)), (35, 0, (s.core.cycPerTick.getD s.cptBase).setWidth 64),
      (36, 1, s.core.svec), (64, 0, BitVec.ofNat 64 s.time)]
    (∀ p, p ∈ table → n = p.1 → (p.2.1 ≤ c.priv → WritesG (.srd b a d) s d p.2.2) ∧
      (c.priv < p.2.1 → Traps (.srd b a d) s cPRIVILEGE (BitVec.ofNat 64 n))) ∧
    ((∀ p, p ∈ table → n ≠ p.1) → Traps (.srd b a d) s cILLEGAL (BitVec.ofNat 64 n))

/-- SWR writes the register it names field by field at or above its write level, traps PRIVILEGE below it and ILLEGAL where none may write it. (R70, R123, R72, R74, R76, R80, R82, R83, R75, R272, spec/05_registers.md, spec/07_scalar_control_system.md) -/
def Obligations.SystemRegisterWrites : Prop :=
  ∀ (s : State) (b a d : BitVec 5),
    let n := 32 * a.toNat + b.toNat
    let x := s.rg d
    let c := s.ctx
    let two (k : Nat) : BitVec 2 := if k = 3 then 2 else BitVec.ofNat 2 k
    let regs (r : TrapRegs) : TrapRegs := { r with ppriv := x.extractLsb' 6 2, decode := bit x 5, engine := bit x 4, nested := bit x 3 }
    let mark (k : Nat) : BitVec 72 := c.dirty ||| BitVec.ofNat 72 (2 ^ k)
    let ends (y : Ctx) : Ctx := if c.rep.active && !c.inTrap then y.finish s.grp else { y with pc := s.grp.npc }
    let completes (y : Ctx) (f : State → Prop) : Prop := ∃ t, exec (.swr b a d) s = .next t ∧ t.ctx = ends y ∧ t.cur = s.cur ∧
      (∀ i, i ≠ s.cur → t.ctxAt i = s.ctxAt i) ∧ (∀ k, k ≠ s.coreNo → t.coreAt k = s.coreAt k) ∧ t.mem = s.mem ∧ t.tiles = s.tiles ∧ f t
    let own (g : RqEntry → RqEntry) (t : State) : Prop := t.core = (match c.slot with
      | none => s.core
      | some sl => { s.core with rq := modFirst (fun e => e.slot == sl) g s.core.rq })
    let clsOk := bits x 6 2
    let table : List (Nat × BitVec 2 × Ctx × (State → Prop)) := [
      (0, 2, { c with cls := two clsOk, priv := two (bits x 4 2), gang := bit x 3, inTrap := bit x 2 }, own fun e => { e with cls := two clsOk }),
      (1, 1, { c with trap := { c.trap with cause := x.setWidth 8 } }, own id), (2, 1, { c with trap := { c.trap with pc := x } }, own id),
      (3, 1, { c with trap := { c.trap with val := x } }, own id), (4, 1, { c with trap := regs c.trap }, own id),
      (7, 0, { c with trapen := x.extractLsb' 4 5, rm := if 6 ≤ bits x 0 3 then 0 else x.extractLsb' 0 3, dirty := mark 70 }, own id),
      (8, 0, { c with fpflags := x.setWidth 6, dirty := mark 70 }, own id),
      (9, 0, { c with vflags0 := x &&& 0x3F3F3F3F3F3F3F3F, dirty := mark 70 }, own id),
      (10, 0, { c with vflags1 := x &&& 0x3F3F3F3F3F3F3F3F, dirty := mark 70 }, own id),
      (12, 1, { c with budgetRem := x }, own fun e => { e with rem := (x.setWidth 32).setWidth 64 }),
      (14, 2, { c with region := x }, own id),
      (16, 1, { c with rep := { pass := x.extractLsb' 32 32, active := bit x 31, n := x.extractLsb' 27 4, group := x.extractLsb' 24 3,
                                offset := x.extractLsb' 0 6 }, dirty := mark 71 }, own id),
      (17, 2, { c with ntrap := { c.ntrap with cause := x.setWidth 8 } }, own id), (18, 2, { c with ntrap := { c.ntrap with pc := x } }, own id),
      (19, 2, { c with ntrap := { c.ntrap with val := x } }, own id), (20, 2, { c with ntrap := regs c.ntrap }, own id),
      (33, 1, c, fun t => t.core = { s.core with margin := x.extractLsb' 16 32, hold := bit x 0 }),
      (34, 1, c, fun t => let base := bits x 7 9
        let size := if bits x 24 8 = 0 then 0 else min 32 (max 3 (bits x 24 8))
        let fits := (65536 - base * 128) / 1024
        t.core = { s.core with chBase := base, chSize := if base * 128 + size * 1024 ≤ 65536 then size else if fits < 3 then 0 else fits }),
      (35, 2, c, fun t => t.core = { s.core with cycPerTick := some (x.setWidth 32) }),
      (36, 2, c, fun t => t.core = { s.core with svec := x &&& ~~~ 3 })]
    (∀ p, p ∈ table → n = p.1 → (p.2.1 ≤ c.priv → completes p.2.2.1 p.2.2.2) ∧
      (c.priv < p.2.1 → Traps (.swr b a d) s cPRIVILEGE (BitVec.ofNat 64 n))) ∧
    (n = 13 →
      (1 ≤ c.priv → (x ≠ BitVec.allOnes 64 ∨ c.cls ≠ 1) → completes { c with deadline := x } (own fun e => { e with deadline := x })) ∧
      (1 ≤ c.priv → x = BitVec.allOnes 64 → c.cls = 1 → ∃ t, exec (.swr b a d) s = .next t ∧ t.ctx = ends { c with cls := 2, deadline := x } ∧
        (∀ i, i ≠ s.cur → t.ctxAt i = s.ctxAt i) ∧ ∀ sl e, c.slot = some sl → s.core.rq.find? (fun e => e.slot == sl) = some e →
          ∃ y ∈ t.core.rq, y.slot = sl ∧ y.cls = 2 ∧ y.deadline = x ∧ y.rem = e.rem ∧ y.entry = e.entry) ∧
      (c.priv = 0 → Traps (.swr b a d) s cPRIVILEGE 13)) ∧
    (n ≠ 13 → (∀ p, p ∈ table → n ≠ p.1) → Traps (.swr b a d) s cILLEGAL (BitVec.ofNat 64 n))

/-- TEND frees the context, keeps its registers and ends its entry; IFENCE empties the instruction cache of its core and takes the guard descriptors anew. (R120, R124, R53, R66, R281, spec/07_scalar_control_system.md) -/
def Obligations.TaskEndAndIfence : Prop :=
  ∀ s : State,
    let k := s.coreNo
    (∃ s1 : State, exec .tend s = .next (s1.kickCore k) ∧
      s1.ctx = { s.ctx with st := .free, wait := none, pend := [], held := [], slot := none, gang := false, inTrap := false, rep := {},
                            trapWork := none, ntrapWork := none, prevRegion := some s.ctx.region, budgetRem := s1.ctx.budgetRem,
                            taskCyc := s1.ctx.taskCyc } ∧
      s1.cur = s.cur ∧ (∀ sl, s.ctx.slot = some sl → ∀ e ∈ (s1.coreAt k).rq, e.slot ≠ sl) ∧
      ((∀ e, s.ctx.slot.bind (s.entryAt k) = some e → e.inbox = none ∧ e.launch = none ∧ e.gang = false) →
        SameMemory s s1 ∧ ∀ c, c ≠ s.cur → s1.ctxAt c = s.ctxAt c)) ∧
    ∃ t, exec .ifence s = .next t ∧
      t.core = { s.core with icache := [], guards := (s.ctxRegions k).map fun r => (r, (s.regionAt r).descriptors) } ∧
      (∀ i, i ≠ k → t.coreAt i = s.coreAt i) ∧ t = { s with ctxs := t.ctxs, cores := t.cores } ∧ ChangesNoRegister s t ∧ GoesOn s t

/-- A scalar load that passes the checks writes the little-endian bytes at its address to gD, sign- or zero-extended, and changes no memory. (R209, R206, R4, R59, R75, spec/12_memory_instructions.md) -/
def Obligations.LoadsReadMemory : Prop :=
  ∀ (s s1 : State) (l : Loc) (i : BitVec 14) (sh : BitVec 2) (b a d : BitVec 5) (e : BitVec 32) (p : Instr × Nat × Bool × Word),
    p ∈ [(.lb i a d, 1, true, eaI s i a), (.lh i a d, 2, true, eaI s i a), (.lw i a d, 4, true, eaI s i a), (.ld i a d, 8, true, eaI s i a),
      (.lbL sh b a d e, 1, true, eaX s sh b a e), (.lhL sh b a d e, 2, true, eaX s sh b a e), (.lwL sh b a d e, 4, true, eaX s sh b a e),
      (.ldL sh b a d e, 8, true, eaX s sh b a e), (.lbu sh b a d e, 1, false, eaX s sh b a e), (.lhu sh b a d e, 2, false, eaX s sh b a e),
      (.lwu sh b a d e, 4, false, eaX s sh b a e)] →
    Lands s s1 p.2.2.2 (.scalar p.2.1) .read l → PlainLoc l → Undelayed s1 l p.2.1 →
    let x : BitVec (8 * p.2.1) := BitVec.ofNat _ (leNat (memRead s.mem l.pa p.2.1))
    ∃ t, exec p.1 s = .next t ∧ t.rg d = (if d = 0 then 0 else if p.2.2.1 then x.signExtend 64 else x.setWidth 64) ∧
      ChangesG s t d ∧ GoesOn s t

/-- A scalar store that passes the checks writes the low bytes of gD at its location, the lowest first, and no other byte; no register changes. (R209, R206, R4, R59, R238, R245, spec/12_memory_instructions.md) -/
def Obligations.StoresWriteMemory : Prop :=
  ∀ (s s1 : State) (l : Loc) (i : BitVec 14) (sh : BitVec 2) (b a d : BitVec 5) (e : BitVec 32) (p : Instr × Nat × Word),
    p ∈ [(.sb i a d, 1, eaI s i a), (.sh i a d, 2, eaI s i a), (.sw i a d, 4, eaI s i a), (.sd i a d, 8, eaI s i a),
      (.sbL sh b a d e, 1, eaX s sh b a e), (.shL sh b a d e, 2, eaX s sh b a e), (.swL sh b a d e, 4, eaX s sh b a e),
      (.sdL sh b a d e, 8, eaX s sh b a e)] →
    (s.regionAt s.ctx.region).trace = false → Lands s s1 p.2.2 (.scalar p.2.1) .write l → PlainLoc l → s1.atOnce s1.cur = true →
    ∃ t, exec p.1 s = .next t ∧ Stored s t l.pa (leBytes p.2.1 (s.rg d).toNat) ∧ ChangesNoRegister s t ∧ GoesOn s t

/-- A misaligned access traps ALIGN, one at a reserved or non-canonical address PROTECT, and .phys below M PRIVILEGE; nothing is written. (R206, R446, R191, R73, spec/12_memory_instructions.md, spec/11_memory_map.md) -/
def Obligations.AccessesRefusedByTheirAddress : Prop :=
  ∀ (s : State) (i : BitVec 14) (sh : BitVec 2) (sz : BitVec 1) (b a d : BitVec 5) (e : BitVec 32) (p : Instr × Nat × Word),
    p ∈ [(.lb i a d, 1, eaI s i a), (.lh i a d, 2, eaI s i a), (.lw i a d, 4, eaI s i a), (.ld i a d, 8, eaI s i a),
      (.lbL sh b a d e, 1, eaX s sh b a e), (.lhL sh b a d e, 2, eaX s sh b a e), (.lwL sh b a d e, 4, eaX s sh b a e),
      (.ldL sh b a d e, 8, eaX s sh b a e), (.lbu sh b a d e, 1, eaX s sh b a e), (.lhu sh b a d e, 2, eaX s sh b a e),
      (.lwu sh b a d e, 4, eaX s sh b a e), (.sb i a d, 1, eaI s i a), (.sh i a d, 2, eaI s i a), (.sw i a d, 4, eaI s i a),
      (.sd i a d, 8, eaI s i a), (.sbL sh b a d e, 1, eaX s sh b a e), (.shL sh b a d e, 2, eaX s sh b a e),
      (.swL sh b a d e, 4, eaX s sh b a e), (.sdL sh b a d e, 8, eaX s sh b a e), (.ldf sh b a d, 8, eaR s sh b a),
      (.ldfe sh b a d, 8, eaR s sh b a), (.stf sh b a d, 8, eaR s sh b a), (.amoadd sz b a d, 4 * (1 + sz.toNat), s.rg a),
      (.amocas sz b a d, 4 * (1 + sz.toNat), s.rg a), (.amofadd sz b a d, 4 * (1 + sz.toNat), s.rg a),
      (.amoswap sz b a d, 4 * (1 + sz.toNat), s.rg a)] →
    (s.grp.pfx.phys = false → p.2.2.toNat % p.2.1 ≠ 0 → Traps p.1 s cALIGN p.2.2) ∧
    (s.grp.pfx.phys = false → p.2.2.toNat % p.2.1 = 0 → (classOf p.2.2 = .reserved ∨ classOf p.2.2 = .noncanon) →
      Traps p.1 s cPROTECT p.2.2) ∧
    (s.grp.pfx.phys = true → s.ctx.priv ≠ 2 → Traps p.1 s cPRIVILEGE s.grp.pfx.memAddr)

/-- An atomic that passes the checks writes the old value to gD and leaves the new value of its operation in memory, and nothing else. (R216, R217, R4, spec/12_memory_instructions.md) -/
def Obligations.AtomicsReturnOldAndStoreNew : Prop :=
  ∀ (s s1 : State) (l : Loc) (sz : BitVec 1) (b a d : BitVec 5), (s.regionAt s.ctx.region).trace = false →
    let n : Nat := 4 * (1 + sz.toNat)
    Lands s s1 (s.rg a) (.atomic n) .both l → Undelayed s1 l n →
    let o : BitVec (8 * n) := BitVec.ofNat _ (leNat (memRead s.mem l.pa n))
    let x : BitVec (8 * n) := (s.rg b).setWidth _
    let c : BitVec (8 * n) := (s.rg d).setWidth _
    ∀ p : Instr × Bool × BitVec (8 * n),
      p ∈ [(.amoadd sz b a d, true, o + x), (.amomin sz b a d, true, if o.sle x then o else x), (.amomax sz b a d, true, if o.sle x then x else o),
        (.amominu sz b a d, false, if o ≤ x then o else x), (.amomaxu sz b a d, false, if o ≤ x then x else o), (.amoand sz b a d, true, o &&& x),
        (.amoor sz b a d, true, o ||| x), (.amoxor sz b a d, true, o ^^^ x), (.amoswap sz b a d, true, x),
        (.amocas sz b a d, true, if o = c then x else o), (.amofadd sz b a d, false, BitVec.ofNat _ (amoNew 10 n o.toNat x.toNat 0))] →
      ∃ t, exec p.1 s = .next t ∧ t.rg d = (if d = 0 then 0 else if p.2.1 then o.signExtend 64 else o.setWidth 64) ∧
        Stored s t l.pa (leBytes n p.2.2.toNat) ∧ (∀ r, r ≠ d → t.rg r = s.rg r) ∧
        t.ctx = { s.ctx with g := t.ctx.g, dirty := t.ctx.dirty, pc := t.ctx.pc, rep := t.ctx.rep } ∧ GoesOn s t

/-- LDF and LDFE read a full word, LDFE empties it and STF fills it; FENCE completes when nothing it waits for is left; CINV empties its cache. (R214, R205, R215, R222, spec/12_memory_instructions.md) -/
def Obligations.FullEmptyAccesses : Prop :=
  ∀ (s s1 : State) (l : Loc) (sh : BitVec 2) (b a d : BitVec 5),
    (Lands s s1 (eaR s sh b a) .fe .read l → Undelayed s1 l 8 →
      (s1.isFull l.pa = true →
        (∃ t, exec (.ldf sh b a d) s = .next t ∧ t.rg d = (if d = 0 then 0 else s.readWord l.pa) ∧ t.isFull l.pa = true ∧ ChangesG s t d ∧ GoesOn s t) ∧
        ∃ t, exec (.ldfe sh b a d) s = .next t ∧ t.rg d = (if d = 0 then 0 else s.readWord l.pa) ∧ t.isFull l.pa = false ∧ ChangesG s t d ∧
          GoesOn s t) ∧
      (s1.isFull l.pa = false → ∀ i, i ∈ [Instr.ldf sh b a d, .ldfe sh b a d] →
        ∃ t, exec i s = .next t ∧ t.ctx.st = .stalled ∧ t.ctx.wait = some (i, s.grp) ∧ t.ctx.g = s.ctx.g ∧ SameMemory s t)) ∧
    (Lands s s1 (eaR s sh b a) .fe .write l → PlainLoc l → s1.atOnce s1.cur = true → (s.regionAt s.ctx.region).trace = false →
      ∃ t, exec (.stf sh b a d) s = .next t ∧ Stored s t l.pa (leBytes 8 (s.rg d).toNat) ∧ t.isFull l.pa = true ∧ ChangesNoRegister s t ∧
        GoesOn s t) ∧
    (s.fenceWaits (fenceOrder s.grp.pfx) (fenceScope s.grp.pfx) = false →
      ∃ t, exec .fence s = .next t ∧ OnlyContext s t ∧ ChangesNoRegister s t ∧ GoesOn s t) ∧
    ∃ t, exec .cinv s = .next t ∧ t.core = { s.core with konst := [] } ∧ ChangesNoRegister s t ∧ SameMemory s t ∧ GoesOn s t

/-- PF never traps, whatever its address: it changes no register and no memory and goes on; PFWAIT answers 0 or 1 for a page that is ready or late. (R220, R221, spec/12_memory_instructions.md) -/
def Obligations.PrefetchNeverTraps : Prop :=
  (∀ (s : State) (sh : BitVec 2) (b a : BitVec 5), ∃ t, exec (.pf sh b a) s = .next t ∧ ChangesNoRegister s t ∧ SameMemory s t ∧ GoesOn s t) ∧
  ∀ (s s1 : State) (sh : BitVec 2) (b a d : BitVec 5),
    (classOf (eaR s sh b a) = .global → WritesG (.pfwait sh b a d) s d 1) ∧
    ((classOf (eaR s sh b a) = .reserved ∨ classOf (eaR s sh b a) = .noncanon) → Traps (.pfwait sh b a d) s cPROTECT (eaR s sh b a)) ∧
    (∀ l, classOf (eaR s sh b a) = .role → s.roleRes s.me (eaR s sh b a) (.scalar 1) = .ok l → WritesG (.pfwait sh b a d) s d 1) ∧
    ∀ pa k x, classOf (eaR s sh b a) = .paged →
      s.translateAt s.coreNo s.ctx.region s.ctx.priv (eaR s sh b a).toNat .read = (s1, .ok pa k) →
      s1.pfwait s1.ctx.region (eaR s sh b a).toNat pa = some x →
      ∃ t, exec (.pfwait sh b a d) s = .next t ∧ x ≤ 1 ∧ t.rg d = (if d = 0 then 0 else BitVec.ofNat 64 x) ∧ ChangesG s t d ∧ GoesOn s t

/-- Scalar floating arithmetic rounds the exact result once, raises its flags, traps FP on an enabled flag and else writes gD alone. (R125, R127, R128, R129, R130, R76, spec/08_float_and_long_accumulator.md) -/
def Obligations.FloatArithmeticResults : Prop :=
  ∀ (s : State) (t : BitVec 1) (b a d : BitVec 5),
    let f := if t = 0 then F32 else F64
    let x := f.decode ((s.rg a).toNat % 2 ^ f.width)
    let y := f.decode ((s.rg b).toNat % 2 ^ f.width)
    let z := f.decode ((s.rg d).toNat % 2 ^ f.width)
    let m := s.rmode.toNat
    let rounded := fun (q : FNum × BitVec 6) => ((f.ofArith m s.grp.pfx.sat q.1).1, q.2 ||| (f.ofArith m s.grp.pfx.sat q.1).2)
    ∀ p : Instr × Nat × BitVec 6,
      p ∈ [(.fadd t b a d, rounded (FNum.add m x y)), (.fsub t b a d, rounded (FNum.sub m x y)), (.fmul t b a d, rounded (FNum.mul x y)),
        (.fdiv t b a d, rounded (FNum.div x y)), (.fsqrt t a d, rounded (FNum.sqrt x)), (.fma t b a d, rounded (FNum.fma m x y z)),
        (.fmin t b a d, f.minmax false (s.rg a).toNat (s.rg b).toNat), (.fmax t b a d, f.minmax true (s.rg a).toNat (s.rg b).toNat),
        (.fcmp t b a d, cmpCode x y, if x.isSnan || y.isSnan then flNV else 0)] →
      Flagged p.1 s d (BitVec.ofNat 64 p.2.1) p.2.2

/-- FCLASS names the class by one bit, FSGN changes the sign bit alone, and FCVT converts by its code; unlisted modes and codes trap ILLEGAL. (R131, R132, R133, R134, R96, spec/08_float_and_long_accumulator.md) -/
def Obligations.FloatClassSignConvert : Prop :=
  ∀ (s : State) (t : BitVec 1) (c m a d : BitVec 5),
    let x := s.rg a
    let w := if t = 0 then 32 else 64
    let f := if t = 0 then F32 else F64
    let g := if t = 0 then F64 else F32
    let md := s.rmode.toNat
    let st := s.grp.pfx.sat
    let sg := bit x (w - 1)
    let ex := if t = 0 then bits x 23 8 else bits x 52 11
    let top := if t = 0 then 255 else 2047
    let fr := if t = 0 then bits x 0 23 else bits x 0 52
    let q := if t = 0 then bit x 22 else bit x 51
    let lo := x.toNat % 2 ^ (w - 1)
    WritesG (.fclass t a d) s d (if ex = top then (if fr = 0 then (if sg then 1 else 128) else if q then 512 else 256)
      else if ex = 0 then (if fr = 0 then (if sg then 8 else 16) else (if sg then 4 else 32)) else (if sg then 2 else 64)) ∧
    (∀ p : BitVec 5 × Bool, p ∈ [(0, false), (1, !sg), (2, bit (s.rg d) (w - 1)), (3, sg != bit (s.rg d) (w - 1))] →
      WritesG (.fsgn t p.1 a d) s d (BitVec.ofNat 64 (lo + if p.2 then 2 ^ (w - 1) else 0))) ∧
    (4 ≤ m.toNat → Traps (.fsgn t m a d) s cILLEGAL s.grp.wpc) ∧
    (∀ p : BitVec 5 × Int × Int, p ∈ [(1, -2147483648, 2147483647), (2, 0, 4294967295), (3, -9223372036854775808, 9223372036854775807),
        (4, 0, 18446744073709551615)] →
      let r := (f.decode (x.toNat % 2 ^ w)).toRange md st p.2.1 p.2.2
      Flagged (.fcvt t p.1 a d) s d (BitVec.ofInt 64 r.1) r.2) ∧
    (∀ p : BitVec 5 × Nat × BitVec 6, p ∈ [(0, f.ofNum md st (g.decode (x.toNat % 2 ^ (96 - w)))),
        (5, f.ofNum md st (numOfInt (x.setWidth 32 : BitVec 32).toInt)), (6, f.ofNum md st (numOfInt ((x.setWidth 32 : BitVec 32).toNat : Int))),
        (7, f.ofNum md st (numOfInt x.toInt)), (8, f.ofNum md st (numOfInt (x.toNat : Int))),
        (9, F16.ofNum md st (f.decode (x.toNat % 2 ^ w))), (10, BF16.ofNum md st (f.decode (x.toNat % 2 ^ w))),
        (11, F8W.ofNum md st (f.decode (x.toNat % 2 ^ w))), (12, F8N.ofNum md st (f.decode (x.toNat % 2 ^ w))),
        (13, f.ofNum md st (F16.decode (x.toNat % 65536))), (14, f.ofNum md st (BF16.decode (x.toNat % 65536))),
        (15, f.ofNum md st (F8W.decode (x.toNat % 256))), (16, f.ofNum md st (F8N.decode (x.toNat % 256)))] →
      Flagged (.fcvt t p.1 a d) s d (BitVec.ofNat 64 p.2.1) p.2.2) ∧
    (17 ≤ c.toNat → Traps (.fcvt t c a d) s cILLEGAL s.grp.wpc)

/-- Rounding a value that a format represents gives back its bits and raises nothing, in every format, under every rounding code. (R91, R94, R95, spec/06_number_formats.md) -/
def Obligations.RepresentableValuesAreKept : Prop :=
  ∀ (f : Fmt) (x mode : Nat) (sat n : Bool) (m : Nat) (e : Int), f ∈ [F64, F32, F16, BF16, F8W, F8N] → x < 2 ^ f.width →
    f.decode x = .fin n m e → f.ofArith mode sat (.fin n m e) = (x, 0)

/-- XCLR zeroes the 48 bytes, XACC and XMERGE add exactly modulo 2^384, XRND rounds once; a bad address traps ALIGN or PROTECT. (R135, R136, R138, R139, R140, R141, R142, R98, spec/08_float_and_long_accumulator.md) -/
def Obligations.LongAccumulatorResults : Prop :=
  ∀ (s s1 s2 : State) (b a d ty : BitVec 5) (pa pd : Nat), (s.regionAt s.ctx.region).trace = false →
    let st := s.grp.pfx.sat
    let sum := fun (x : Int) => if x < -(2 ^ 383) ∨ 2 ^ 383 ≤ x then
      (if st then ((if x < 0 then -(2 ^ 383) else 2 ^ 383 - 1), flSAT) else (x, flOF)) else (x, (0 : BitVec 6))
    let val := fun (k : BitVec 5) => if k = 0 then F32.decode ((s.rg b).toNat % 2 ^ 32) else if k = 1 then F64.decode (s.rg b).toNat
      else numOfInt (s.rg b).toInt
    (AccAt s s1 (s.rg a) .write pa →
      (∃ t, exec (.xclr a) s = .next t ∧ Stored s t pa (List.replicate 48 0) ∧ ChangesNoRegister s t ∧ GoesOn s t) ∧
      (∀ k, k ∈ [0, 1, 2] → (∀ n m e, val k = .fin n m e →
          let q := roundInt s.rmode.toNat n m (e + 160)
          let r := sum (s.readAcc pa + q.1)
          let bad := (accReads (s.readAcc pa) q.1).any fun w => s.poisoned (pa + 8 * w) 8
          (bad = false → WritesAcc (.xacc b a k) s pa r.1 ((if q.2 then flNX else 0) ||| r.2)) ∧
          (bad = true → Traps (.xacc b a k) s cPOISON (s.rg a))) ∧
        ((val k).isNan = true → WritesAcc (.xacc b a k) s pa (s.readAcc pa) flNV) ∧
        (∀ n, val k = .inf n → WritesAcc (.xacc b a k) s pa (s.readAcc pa) flOF))) ∧
    (AccAt s s1 (s.rg a) .both pa →
      (∀ p : BitVec 5 × Fmt, p ∈ [(0, F32), (1, F64)] →
        let r := p.2.ofArith s.rmode.toNat st (.fin (decide (s.readAcc pa < 0)) (s.readAcc pa).natAbs (-160))
        (s.ctx.trapFlags r.2 ≠ 0 → Traps (.xrnd p.1 a d) s cFP ((s.ctx.trapFlags r.2).setWidth 64)) ∧
        (s.ctx.trapFlags r.2 = 0 → ∃ t, exec (.xrnd p.1 a d) s = .next t ∧ t.rg d = (if d = 0 then 0 else BitVec.ofNat 64 r.1) ∧
          t.cur = s.cur ∧ (∀ c, c ≠ s.cur → t.ctxAt c = s.ctxAt c) ∧ (∀ x, x ≠ d.toNat → t.ctx.rg x = s.ctx.rg x) ∧
          t.ctx = { s.ctx with g := t.ctx.g, dirty := t.ctx.dirty, pc := t.ctx.pc, rep := t.ctx.rep,
                               fpflags := if s.grp.pfx.quiet then s.ctx.fpflags else s.ctx.fpflags ||| r.2 } ∧ SameMemory s t ∧ GoesOn s t))) ∧
    (AccAt s s1 (s.rg d) .both pd → AccAt s1 s2 (s.rg a) .both pa →
      (pd = pa ∨ pd + 48 ≤ pa ∨ pa + 48 ≤ pd →
        WritesAcc (.xmerge a d) s pd (sum (s.readAcc pd + s.readAcc pa)).1 (sum (s.readAcc pd + s.readAcc pa)).2) ∧
      (pd ≠ pa → pd < pa + 48 → pa < pd + 48 → Traps (.xmerge a d) s cPROTECT (s.rg d))) ∧
    (∀ p : Instr × Word, p ∈ [(.xclr a, s.rg a), (.xacc b a 0, s.rg a), (.xacc b a 1, s.rg a), (.xacc b a 2, s.rg a), (.xrnd 0 a d, s.rg a),
        (.xrnd 1 a d, s.rg a), (.xmerge a d, s.rg d)] →
      (p.2.toNat % 8 ≠ 0 → Traps p.1 s cALIGN p.2) ∧
      (p.2.toNat % 8 = 0 → classOf p.2 ≠ .paged →
        (classOf p.2 ≠ .role ∨ bits p.2 32 14 ≠ s.ctx.ltile ∨ bits p.2 29 3 ≠ s.coreNo % 8 ∨ bits p.2 24 5 ≠ 0) →
        Traps p.1 s cPROTECT p.2)) ∧
    (3 ≤ ty.toNat → Traps (.xacc b a ty) s cILLEGAL s.grp.wpc) ∧ (2 ≤ ty.toNat → Traps (.xrnd ty a d) s cILLEGAL s.grp.wpc)

/-- Element-wise vector operations write their result to every enabled element of vD and leave the others; flags go to the elements' lanes. (R143, R148, R149, R150, R152, R153, R78, R88, spec/09_vector_and_gang.md) -/
def Obligations.VectorElementResults : Prop :=
  ∀ (s : State) (t u : BitVec 4) (b a d : BitVec 5), t.toNat ≤ 8 →
    let ty := t.toNat
    let uy := u.toNat
    let x := fun e => el ty (s.rv a) e
    let y := fun e => el ty (s.rv b) e
    let z := fun e => el ty (s.rv d) e
    let m := s.rmode.toNat
    let st := s.grp.pfx.sat
    let w := 8 * tSize ty
    let dec := fun n => (tFmt ty).decode n
    let rnd := fun (q : FNum × BitVec 6) => (((tFmt ty).ofArith m st q.1).1, q.2 ||| ((tFmt ty).ofArith m st q.1).2)
    (∀ p : Instr × (Nat → Nat), p ∈ [(.vmov t a d, x), (.vbcast t a d, fun _ => (s.rg a).toNat), (.vand t b a d, fun e => x e &&& y e),
        (.vor t b a d, fun e => x e ||| y e), (.vxor t b a d, fun e => x e ^^^ y e),
        (.vperm t b a d, fun e => el ty (s.rv a) (y e % tCount ty))] →
      WritesLanes p.1 s ty ty d (fun e => (p.2 e, 0))) ∧
    (∀ p : Instr × (Nat → Int), ty ≤ 5 → p ∈ [(.vadd t b a d, fun e => tInt ty (x e) + tInt ty (y e)),
        (.vsub t b a d, fun e => tInt ty (x e) - tInt ty (y e)), (.vmul t b a d, fun e => tInt ty (x e) * tInt ty (y e)),
        (.vfma t b a d, fun e => tInt ty (x e) * tInt ty (y e) + tInt ty (z e)), (.vshl t b a d, fun e => tInt ty (x e) * 2 ^ (y e % w))] →
      WritesLanes p.1 s ty ty d (fun e => if st ∧ p.2 e < tLo ty then ((BitVec.ofInt w (tLo ty)).toNat, flSAT)
        else if st ∧ tHi ty < p.2 e then ((BitVec.ofInt w (tHi ty)).toNat, flSAT) else ((BitVec.ofInt w (p.2 e)).toNat, 0))) ∧
    (ty ≤ 5 →
      WritesLanes (.vshr t b a d) s ty ty d (fun e => (x e / 2 ^ (y e % w), 0)) ∧
      WritesLanes (.vsar t b a d) s ty ty d (fun e => (((BitVec.ofNat w (x e)).sshiftRight (y e % w)).toNat, 0)) ∧
      WritesLanes (.vmin t b a d) s ty ty d (fun e => (if tInt ty (x e) ≤ tInt ty (y e) then x e else y e, 0)) ∧
      WritesLanes (.vmax t b a d) s ty ty d (fun e => (if tInt ty (x e) ≤ tInt ty (y e) then y e else x e, 0))) ∧
    (6 ≤ ty →
      WritesLanes (.vadd t b a d) s ty ty d (fun e => rnd (FNum.add m (dec (x e)) (dec (y e)))) ∧
      WritesLanes (.vsub t b a d) s ty ty d (fun e => rnd (FNum.sub m (dec (x e)) (dec (y e)))) ∧
      WritesLanes (.vmul t b a d) s ty ty d (fun e => rnd (FNum.mul (dec (x e)) (dec (y e)))) ∧
      WritesLanes (.vfma t b a d) s ty ty d (fun e => rnd (FNum.fma m (dec (x e)) (dec (y e)) (dec (z e)))) ∧
      WritesLanes (.vmin t b a d) s ty ty d (fun e => (tFmt ty).minmax false (x e) (y e)) ∧
      WritesLanes (.vmax t b a d) s ty ty d (fun e => (tFmt ty).minmax true (x e) (y e)) ∧
      ∀ i, i ∈ [Instr.vshl t b a d, .vshr t b a d, .vsar t b a d] → Traps i s cILLEGAL s.grp.wpc) ∧
    (uy ≤ 8 → uy ≠ ty → WritesLanes (.vcvt t u a d) s ty uy d (fun e =>
      if e < Nat.min (tCount ty) (tCount uy) then elConvert ty uy m st (el uy (s.rv a) e) else (0, 0))) ∧
    (9 ≤ uy ∨ uy = ty → Traps (.vcvt t u a d) s cILLEGAL s.grp.wpc)

/-- VEXT, VINS, VSEL, VCMP, VRED, QCVT and VCLAIM: the element moved, the mask or the reduction written, the lane grant taken. (R145, R146, R148, R151, R152, R154, R155, R101, R76, R78, spec/09_vector_and_gang.md) -/
def Obligations.VectorMovesMasksReductions : Prop :=
  ∀ (s : State) (t : BitVec 4) (c o : BitVec 3) (m : BitVec 3) (b a d : BitVec 5), t.toNat ≤ 8 →
    let ty := t.toNat
    let n := tCount ty
    let w := 8 * tSize ty
    let x := fun e => el ty (s.rv a) e
    let y := fun e => el ty (s.rv b) e
    let on := s.lanesOn ty
    let dec := fun z => (tFmt ty).decode z
    let union := fun (f : Nat → BitVec 6) => on.foldl (fun acc e => acc ||| f e) (0 : BitVec 6)
    let flagged := fun (i : Instr) (f : BitVec 6) (k : State → Prop) =>
      (s.ctx.trapFlags f ≠ 0 → Traps i s cFP ((s.ctx.trapFlags f).setWidth 64)) ∧
      (s.ctx.trapFlags f = 0 → ∃ u, exec i s = .next u ∧ OnlyContext s u ∧ GoesOn s u ∧ k u)
    let onlyV := fun (u : State) => OnlyV s u d ∧ u.ctx.vflags0 = s.ctx.vflags0 ∧ u.ctx.vflags1 = s.ctx.vflags1 ∧ GoesOn s u
    WritesG (.vext t b a d) s d (if ty = 0 ∨ ty = 2 ∨ ty = 4 then (BitVec.ofNat w (x ((s.rg b).toNat % n))).signExtend 64
      else BitVec.ofNat 64 (x ((s.rg b).toNat % n))) ∧
    (∃ u, exec (.vins t b a d) s = .next u ∧ onlyV u ∧ ∀ e, e < n → el ty (u.rv d) e =
      if e = (s.rg b).toNat % n then (s.rg a).toNat % 2 ^ w else el ty (s.rv d) e) ∧
    (∃ u, exec (.vsel t b a d) s = .next u ∧ onlyV u ∧ ∀ e, e < n → el ty (u.rv d) e = if bit s.maskOf e then x e else y e) ∧
    (let nan := fun e => (dec (x e)).isNan || (dec (y e)).isNan
     let holds := fun e => if ty ≤ 5 then
         (let p := tInt ty (x e)
          let q := tInt ty (y e)
          [decide (p = q), decide (p ≠ q), decide (p < q), decide (p ≤ q), decide (q < p), decide (q ≤ p), false, true].getD c.toNat true)
       else
         (let p := dec (x e)
          let q := dec (y e)
          [p.eqv q, !p.eqv q, p.lt q, !nan e && !q.lt p, q.lt p, !nan e && !p.lt q, nan e, !nan e].getD c.toNat true)
     let fl := fun e => if ty ≤ 5 then 0 else if (dec (x e)).isSnan || (dec (y e)).isSnan then flNV else 0
     flagged (.vcmp t c b a m) (union fl) fun u =>
       (m ≠ 0 → ∀ e, e < 64 → bit (u.ctx.rmk m.toNat) e = (decide (e < n) && bit s.maskOf e && holds e)) ∧
       (∀ k, k ≠ m.toNat → u.ctx.rmk k = s.ctx.rmk k) ∧ LanesFlagged s u ty on fl ∧
       u.ctx = { s.ctx with m := u.ctx.m, dirty := u.ctx.dirty, pc := u.ctx.pc, rep := u.ctx.rep, vflags0 := u.ctx.vflags0, vflags1 := u.ctx.vflags1 }) ∧
    (ty ≤ 5 →
      WritesG (.vred t 0 a d) s d (BitVec.ofInt 64 ((on.map fun e => tInt ty (x e)).foldl (· + ·) 0)) ∧
      WritesG (.vred t 1 a d) s d (BitVec.ofInt 64 ((on.map fun e => tInt ty (x e)).foldl min (tHi ty))) ∧
      WritesG (.vred t 2 a d) s d (BitVec.ofInt 64 ((on.map fun e => tInt ty (x e)).foldl max (tLo ty))) ∧
      WritesG (.vred t 3 a d) s d (elToG ty ((on.map x).foldl (· &&& ·) (2 ^ w - 1))) ∧
      WritesG (.vred t 4 a d) s d (elToG ty ((on.map x).foldl (· ||| ·) 0)) ∧
      WritesG (.vred t 5 a d) s d (elToG ty ((on.map x).foldl (· ^^^ ·) 0))) ∧
    (6 ≤ ty → o.toNat ≤ 5 →
      let r := vreduce ty o.toNat s.rmode.toNat s.maskOf (s.rv a)
      flagged (.vred t o a d) r.2 fun u => u.rg d = (if d = 0 then 0 else BitVec.ofNat 64 (r.1 % 2 ^ w)) ∧
        (∀ k, k ≠ d.toNat → u.ctx.rg k = s.ctx.rg k) ∧
        u.ctx.vflags0 = (if s.grp.pfx.quiet then s.ctx.vflags0 else s.ctx.vflags0 ||| r.2.setWidth 64) ∧
        u.ctx = { s.ctx with g := u.ctx.g, dirty := u.ctx.dirty, pc := u.ctx.pc, rep := u.ctx.rep, vflags0 := u.ctx.vflags0 }) ∧
    (6 ≤ o.toNat → Traps (.vred t o a d) s cILLEGAL s.grp.wpc) ∧
    (6 ≤ ty →
      let f := bits (s.rg b) 8 3
      let q := fun e => qElem f s.rmode.toNat ((dec (x e)).scale (max (-126) ((s.rg b).setWidth 8 : BitVec 8).toInt))
      let k := if f = 2 then 4 else if f = 3 then 2 else 8
      (6 ≤ f → Traps (.qcvt t b a d) s cILLEGAL s.grp.wpc) ∧
      (f ≤ 5 → flagged (.qcvt t b a d) (union fun e => (q e).2) fun u => OnlyV s u d ∧ LanesFlagged s u ty on (fun e => (q e).2) ∧
        ∀ e, e < 512 / k → nbits (u.rv d).toNat (k * e) k = if e < n ∧ bit s.maskOf e then (q e).1 % 2 ^ k else 0)) ∧
    (∀ r : BitVec 5, r ∈ [2, 4, 8, 16] → ∃ (g : Nat) (u : State), exec (.vclaim r d) s = .next u ∧ u.ctx.vgrant = g ∧
      u.rg d = (if d = 0 then 0 else BitVec.ofNat 64 g) ∧ g ∈ [2, 4, 8, 16] ∧ g ≤ r.toNat ∧ (g = 2 ∨ s.grantPasses s.cur g = true) ∧
      (∀ h, h ∈ [4, 8, 16] → g < h → h ≤ r.toNat → s.grantPasses s.cur h = false) ∧ OnlyContext s u ∧ (∀ k, k ≠ d.toNat → u.ctx.rg k = s.ctx.rg k) ∧
      u.ctx = { s.ctx with vgrant := g, g := u.ctx.g, dirty := u.ctx.dirty, pc := u.ctx.pc, rep := u.ctx.rep } ∧ GoesOn s u) ∧
    ∀ r : BitVec 5, r ∉ [2, 4, 8, 16] → Traps (.vclaim r d) s cILLEGAL s.grp.wpc

/-- Vector loads fill the enabled elements from their addresses, vector stores write them there in ascending order; a refused element traps first. (R211, R212, R213, R206, spec/12_memory_instructions.md) -/
def Obligations.VectorMemoryResults : Prop :=
  ∀ (s s1 : State) (t : BitVec 4) (sh : BitVec 2) (b a d : BitVec 5) (acc : List ElAcc), t.toNat ≤ 8 →
    let ty := t.toNat
    let n := tSize ty
    let unit := fun e => eaR s sh b a + BitVec.ofNat 64 (e * n)
    let stride := fun e => s.rg a + disp24 s.grp.pfx + BitVec.ofNat 64 e * (s.rg b <<< sh.toNat)
    let refused := fun (i : Instr) (ea : Word) (c : BitVec 8) (v : Word) => ∃ u, exec i s = .next u ∧ u.ctx.trap.cause = c ∧ u.ctx.trap.val = v ∧
      u.ctx.trap.pc = s.grp.pc0 ∧ u.ctx.g = s.ctx.g ∧ u.ctx.v = s.ctx.v ∧ u.mem = (s1.logBad s.me ea (.vec n) c).mem
    let index := fun e => s.rg a + disp24 s.grp.pfx + (BitVec.ofNat 64 (el ty (s.rv b) e) <<< sh.toNat)
    (∀ p : Instr × (Nat → Word), p ∈ [(.vld t sh b a d, unit), (.vlds t sh b a d, stride), (.vldx t sh b a d, index)] →
      let l := (s.lanesOn ty).map fun e => (e, p.2 e)
      (VLands s s1 n .read l acc → s1.atOnce s1.cur = true →
        ∃ u, exec p.1 s = .next u ∧ u.cur = s.cur ∧ (∀ c, c ≠ s.cur → u.ctxAt c = s.ctxAt c) ∧ SameMemory s u ∧ GoesOn s u ∧
          (∀ q ∈ okLocs acc, el ty (u.rv d) q.1 = s1.readLoc q.2.2 n % 2 ^ (8 * n)) ∧
          (∀ e, e < tCount ty → bit s.maskOf e = false → el ty (u.rv d) e = el ty (s.rv d) e) ∧ (∀ r, r ≠ d.toNat → u.ctx.rv r = s.ctx.rv r) ∧
          u.ctx = { s.ctx with v := u.ctx.v, dirty := u.ctx.dirty, pc := u.ctx.pc, rep := u.ctx.rep }) ∧
      (s.grp.pfx.phys = false → ∀ ea c v, s.resolveAll s.me n .read l = (s1, acc) → firstBad acc = some (ea, c, v) → refused p.1 ea c v)) ∧
    (∀ p : Instr × (Nat → Word), p ∈ [(.vst t sh b a d, unit), (.vsts t sh b a d, stride), (.vstx t sh b a d, index)] →
      let l := (s.lanesOn ty).map fun e => (e, p.2 e)
      (VLands s s1 n .write l acc → s1.atOnce s1.cur = true → (∀ q ∈ okLocs acc, PlainLoc q.2.2) →
        (s.regionAt s.ctx.region).trace = false →
        ∃ u, exec p.1 s = .next u ∧ ChangesNoRegister s u ∧ GoesOn s u ∧
          ∀ x, memGet u.mem x = memGet ((okLocs acc).foldl (fun m q => m.storeBytes q.2.2.pa (leBytes n (el ty (s.rv d) q.1))) s).mem x) ∧
      (s.grp.pfx.phys = false → ∀ ea c v, s.resolveAll s.me n .write l = (s1, acc) → firstBad acc = some (ea, c, v) → refused p.1 ea c v)) ∧
    (let base := s.rg a + disp24 s.grp.pfx
     let pitch := s.rg b <<< sh.toNat
     let at_ := fun j e => base + BitVec.ofNat 64 (e % 16) * pitch + BitVec.ofNat 64 (((if n = 2 then 2 else 4) * j + e / 16) * n)
     let l := (List.range 8).flatMap fun j => (s.lanesOn ty).map fun e => (64 * j + e, at_ j e)
     (4 ≤ n ∨ d.toNat % 8 ≠ 0 → Traps (.vldt t sh b a d) s cILLEGAL s.grp.wpc) ∧
     (n ≤ 2 → d.toNat % 8 = 0 → s.grp.pfx.phys = false → (base.toNat % 32 ≠ 0 ∨ pitch.toNat % 32 ≠ 0 ∨ pitch.toNat < 32 ∨ 65536 < pitch.toNat) →
       Traps (.vldt t sh b a d) s cALIGN base) ∧
     (n ≤ 2 → d.toNat % 8 = 0 → base.toNat % 32 = 0 → pitch.toNat % 32 = 0 → 32 ≤ pitch.toNat → pitch.toNat ≤ 65536 →
       ownPanel s base = true → (∀ q ∈ l, ownPanel s q.2 = true) → VLands s s1 n .read l acc →
       (∀ q ∈ okLocs acc, s1.mustWait s1.cur q.2.2.pa n = false ∧ s1.niHolds s1.me q.2.2 = false) →
       ∃ u, exec (.vldt t sh b a d) s = .next u ∧ u.cur = s.cur ∧ (∀ c, c ≠ s.cur → u.ctxAt c = s.ctxAt c) ∧ SameMemory s u ∧ GoesOn s u ∧
         (∀ q ∈ okLocs acc, el ty (u.ctx.rv (d.toNat + q.1 / 64)) (q.1 % 64) = s1.readLoc q.2.2 n % 2 ^ (8 * n)) ∧
         (∀ r, r < d.toNat ∨ d.toNat + 8 ≤ r → u.ctx.rv r = s.ctx.rv r) ∧
         u.ctx = { s.ctx with v := u.ctx.v, dirty := u.ctx.dirty, pc := u.ctx.pc, rep := u.ctx.rep }))

/-- A gang group waits at the line until the eighth member issues and the join is due; a task outside a gang or with members gone traps GANG. (R156, R157, R161, R162, spec/09_vector_and_gang.md) -/
def Obligations.GangGroupsWaitAtTheLine : Prop :=
  ∀ (s : State) (t : BitVec 4) (v : BitVec 2) (o : BitVec 3) (m : BitVec 3) (b a d : BitVec 5) (i : Instr),
    (i ∈ [Instr.gshuf t b a d, .gbcast t b a d, .gvote t v m d, .gmatch t a d, .gred t o a d, .gscan t o a d] ∨
      (i = .gmax t b a d ∧ bits (s.rg b) 8 3 ≤ 5) ∨ (i = .gbar b d ∧ b ∈ [(0 : BitVec 5), 2, 4, 8, 16])) →
    (s.ctx.gang = false → Traps i s cGANG (BitVec.ofNat 64 (255 - 2 ^ (s.coreNo % 8)))) ∧
    (s.ctx.gang = true → s.absentMask s.siteNo ≠ 0 → Traps i s cGANG (BitVec.ofNat 64 (s.absentMask s.siteNo))) ∧
    (s.ctx.gang = true → s.absentMask s.siteNo = 0 → ∃ u, exec i s = .next u ∧
      u.ctx = { s.ctx with st := .stalled, wait := some (i, s.grp), stallAt := s.time } ∧ (∀ c, c ≠ s.cur → u.ctxAt c = s.ctxAt c) ∧
      u = { s with ctxs := u.ctxs, agenda := u.agenda } ∧
      ((∀ k, k < 8 → ∃ c, u.member s.siteNo k = some c ∧ (u.ctxAt c).atLine = true) →
        u.agenda = agendaPut s.agenda s.time .gangLineJoin { x := s.siteNo }) ∧
      (∀ k, k < 8 → (∀ c, u.member s.siteNo k = some c → (u.ctxAt c).atLine = false) → u.agenda = s.agenda)) ∧
    (s.ctx.gang = true → 6 ≤ bits (s.rg b) 8 3 → Traps (.gmax t b a d) s cILLEGAL s.grp.wpc) ∧
    (b ∉ [(0 : BitVec 5), 2, 4, 8, 16] → Traps (.gbar b d) s cILLEGAL s.grp.wpc)

/-- The join gives every member its result: shuffle, broadcast, vote, match, reduction, scan, scale or barrier; members that differ trap GANG. (R102, R156, R157, R158, R159, R160, R161, R162, spec/09_vector_and_gang.md) -/
def Obligations.GangJoinResults : Prop :=
  ∀ (s : State) (m0 : Joined) (ms : List Joined), s.joined s.ev.x = m0 :: ms →
    let js := m0 :: ms
    let rd := fun (m : Joined) (r : Nat) => (s.ctxAt m.ctx).rg r
    let ends := fun (u : State) (f : Nat → Joined → Prop) => SameMemory s u ∧ u.cur = s.cur ∧ (∀ c, (∀ m ∈ js, m.ctx ≠ c) → u.ctxAt c = s.ctxAt c) ∧
      ∀ k m, js[k]? = some m → f k m ∧ (u.ctxAt m.ctx).st = .issuing ∧ (u.ctxAt m.ctx).wait = none ∧
        ((s.ctxAt m.ctx).rep.active = false → (u.ctxAt m.ctx).pc = m.grp.npc)
    let givesG := fun (f : Nat → Joined → Word) => ∃ u, exec .gangLineJoin s = .next u ∧ ends u fun k m =>
      (u.ctxAt m.ctx).rg (gangD m.instr).toNat = (if gangD m.instr = 0 then 0 else f k m) ∧
      (∀ r, r ≠ (gangD m.instr).toNat → (u.ctxAt m.ctx).rg r = rd m r) ∧ (u.ctxAt m.ctx).v = (s.ctxAt m.ctx).v
    let givesV := fun (ty : Nat) (f : Nat → Joined → Nat → Nat) => ∃ u, exec .gangLineJoin s = .next u ∧ ends u fun k m =>
      (∀ e, e < tCount ty → el ty ((u.ctxAt m.ctx).rv (gangD m.instr).toNat) e =
        if bit (s.maskFor m) e then f k m e else el ty ((s.ctxAt m.ctx).rv (gangD m.instr).toNat) e) ∧
      (∀ r, r ≠ (gangD m.instr).toNat → (u.ctxAt m.ctx).rv r = (s.ctxAt m.ctx).rv r) ∧ (u.ctxAt m.ctx).g = (s.ctxAt m.ctx).g
    let srcV := fun c => match js[c]? with
      | some (m : Joined) => (s.ctxAt m.ctx).rv (gangA m.instr)
      | none => 0
    (mismatch js ≠ 0 → ∃ u, exec .gangLineJoin s = .next u ∧ SameMemory s u ∧ ∀ m ∈ js, (u.ctxAt m.ctx).trap.cause = cGANG ∧
      (u.ctxAt m.ctx).trap.val = BitVec.ofNat 64 (mismatch js) ∧ (u.ctxAt m.ctx).trap.pc = m.grp.pc0) ∧
    (mismatch js = 0 → ∀ (t : BitVec 4) (v : BitVec 2) (o : BitVec 3) (p : BitVec 3) (b a d : BitVec 5), t.toNat ≤ 8 →
      let ty := t.toNat
      let n := tCount ty
      let pred := fun (m : Joined) => ((s.ctxAt m.ctx).rmk (gangA m.instr)).toNat % 2 ^ n
      let x := fun (m : Joined) => (rd m (gangA m.instr)).toNat % 2 ^ (8 * tSize ty)
      let mode := (s.modeOf m0)
      let parts := js.map fun m => vreduce ty o.toNat (s.modeOf m) (s.maskFor m) ((s.ctxAt m.ctx).rv (gangA m.instr))
      let red := fun k => treeFold (redOp ty o.toNat mode) 3 (parts.take k)
      let sumOf := fun (l : List Joined) => (l.flatMap fun m => ((List.range n).filter fun e => bit (s.maskFor m) e).map fun e =>
        tInt ty (el ty ((s.ctxAt m.ctx).rv (gangA m.instr)) e)).foldl (· + ·) 0
      let quiet := fun (f : BitVec 6) => ∀ m ∈ js, (s.ctxAt m.ctx).trapFlags f = 0
      (m0.instr = .gshuf t b a d → givesV ty fun _ m e =>
        let g := el ty ((s.ctxAt m.ctx).rv (gangB m.instr)) e % (8 * n)
        el ty (srcV (g / n)) (g % n)) ∧
      (m0.instr = .gbcast t b a d → givesV ty fun _ m e => el ty (srcV ((rd m (gangB m.instr)).toNat % 8)) e) ∧
      (m0.instr = .gvote t v p d → ∃ r : Word, (givesG fun _ _ => r) ∧
        r = if v = 0 then (if ∀ m ∈ js, pred m = 2 ^ n - 1 then 1 else 0) else if v = 1 then (if ∃ m ∈ js, pred m ≠ 0 then 1 else 0)
          else if v = 2 then (if ∀ m ∈ js, pred m = pred m0 then 1 else 0)
          else BitVec.ofNat 64 ((js.zipIdx.map fun q => ((List.range n).filter fun e => nbits (pred q.1) e 1 == 1).length * 2 ^ (8 * q.2)).foldl (· + ·) 0)) ∧
      (m0.instr = .gmatch t a d → ∃ r : Nat → Word, (givesG fun k _ => r k) ∧ ∀ j k mj mk, js[j]? = some mj → js[k]? = some mk →
        bit (r k) j = decide (x mj = x mk) ∧ (r k).toNat < 256) ∧
      (m0.instr = .gred t o a d → quiet ((red 8).2 ||| flagsOf parts) → (givesG fun _ _ => redToG ty o.toNat (red 8).1) ∧
        (o = 0 → ty ≤ 5 → givesG fun _ _ => BitVec.ofInt 64 (sumOf js))) ∧
      (m0.instr = .gscan t o a d → quiet (flagsOf ((List.range 8).map fun k => red (k + 1)) ||| flagsOf parts) →
        (givesG fun k _ => redToG ty o.toNat (red (k + 1)).1) ∧ (o = 0 → ty ≤ 5 → givesG fun k _ => BitVec.ofInt 64 (sumOf (js.take (k + 1))))) ∧
      (m0.instr = .gmax t b a d →
        let mag := s.gmaxOf js ty fun m => gangA m.instr
        let fmt := bits (rd m0 b.toNat) 8 3
        quiet flNV → givesG fun _ _ => mkWord [(32, (F32.ofArith 0 false mag).1), (8, fmt), (0, (BitVec.ofInt 8 (scaleFor mag (scaleLimit fmt))).toNat)]) ∧
      (m0.instr = .gbar b d → s.tilePending js = false →
        let fl := js.foldl (fun acc m => acc ||| (s.ctxAt m.ctx).allFlags) (0 : BitVec 6)
        ∃ u, exec .gangLineJoin s = .next u ∧ ends u fun _ m =>
          (u.ctxAt m.ctx).rg (gangD m.instr).toNat = (if gangD m.instr = 0 then 0 else fl.setWidth 64) ∧
          (∀ r, r ≠ (gangD m.instr).toNat → (u.ctxAt m.ctx).rg r = rd m r) ∧
          (gangB m.instr = 0 → (u.ctxAt m.ctx).vgrant = (s.ctxAt m.ctx).vgrant) ∧
          (gangB m.instr ∈ [2, 4, 8, 16] → 2 ≤ (u.ctxAt m.ctx).vgrant ∧ (u.ctxAt m.ctx).vgrant ≤ gangB m.instr)))

/-- SEND, KICK, RECFWD, SPLICE, SPAWN, POST and TWPOST put one packet into the network, addressed and filled as their operands say. (R290, R291, R292, R295, R296, R298, R302, R304, R305, R306, R336, spec/17_message_and_task_instructions.md) -/
def Obligations.MessagesAreSent : Prop :=
  ∀ (s s1 s2 : State) (b a d : BitVec 5) (bs h : List Byte),
    let dw := s.rg a
    let r := s.ctx.region
    let site := fun (u : State) (r : Word) => (u.sendEntry r (bits dw 32 14)).site
    let aims := fun (u : State) (p : Packet) (o : PktOp) => p.op = o ∧ p.dst = site u r ∧ p.unit = bits dw 29 3 ∧ p.ch = bits dw 10 6 ∧ p.region = r ∧
      p.ltile = bits dw 32 14 ∧ p.addr = dw
    let own := fun (u : State) => (u.net.filter fun q => q.underWay && u.mine u.cur q && u.scopeHas u.cur 3 (u.homeNow q)).map (·.id)
    let waits := fun (t : State) => t.cur = s.cur ∧ (∀ c, c ≠ s.cur → t.ctxAt c = s.ctxAt c) ∧ t.ctx.st = .stalled ∧ t.ctx.g = s.ctx.g ∧
      t.ctx.pend = s.ctx.pend ++ [{ pkt := s.nextPkt, dest := .gpr d.toNat 8 false, pc0 := s.grp.pc0, rep := s.ctx.rep }] ∧ GoesOn s t
    (BlockAt s s1 (s.rg b) (16 + bits dw 0 10) 8 bs → DestOk s1 r dw false 1008 →
      ∃ t, Sends (.send b a) s t .sendArrival (fun p => aims s1 p .send ∧ p.arg1 = blockWord bs 0 ∧ p.arg2 = blockWord bs 1 ∧ p.data = bs.drop 16) ∧
        ChangesNoRegister s t ∧ GoesOn s t) ∧
    (DestOk s r dw false 0 →
      (s.ackBad (s.rg d) = false →
        ∃ t, Sends (.kick b a d) s t .kickArrival (fun p => aims s p .kick ∧ p.arg1 = s.rg b ∧ p.arg2 = s.rg d ∧ p.data = [] ∧ p.holdAck = own s) ∧
          ChangesNoRegister s t ∧ GoesOn s t)) ∧
    (BlockAt s s1 (s.rg b) 16 8 h →
        let w := blockWord h 0
        BlockAt s1 s2 (s.rg b) (16 + bits w 0 10) 8 bs → DestOk s2 r dw false 0 → bits w 0 10 ≤ 1008 → bits w 10 28 = 0 →
        (bits w 38 2 ≤ 2 → ∃ t, Sends (.recfwd b a) s t .recordArrival (fun p => aims s2 p .record ∧ p.record = bits w 38 2 + 1 ∧ p.arg1 = w ∧ p.data = bs) ∧
          ChangesNoRegister s t ∧ GoesOn s t) ∧
        (bits w 38 2 = 1 → ∃ t, Sends (.splice b a) s t .recordArrival (fun p => aims s2 p .record ∧ p.record = 2 ∧ p.arg1 = w ∧ p.data = bs ∧
          p.holdAck = own s2) ∧ ChangesNoRegister s t ∧ GoesOn s t)) ∧
    (let q := s.spawnRegion bs
     let w4 := blockWord bs 4
     destBad dw true 976 = false → BlockAt s s1 (s.rg b) (48 + bits dw 0 10) 8 bs → bits (blockWord bs 0) 0 2 = 0 → bits w4 62 2 ≠ 3 →
     bits w4 32 30 = 0 → bits w4 0 32 ≠ 0 → (q = r ∨ s.regionExists q = true) →
     (DestOk s1 q dw true 976 →
       let goes := fun (p : Packet) (o : PktOp) => p.op = o ∧ p.dst = site s1 q ∧ p.unit = bits dw 29 3 ∧ p.region = q ∧ p.ltile = bits dw 32 14 ∧
         p.data = bs
       (∃ t, Sends (.spawn b a d) s t .spawnArrival (fun p => goes p .spawn ∧ p.dest = .gpr d.toNat 8 false) ∧ waits t) ∧
       ∃ t, Sends (.post b a) s t .postArrival (fun p => goes p .post) ∧ ChangesNoRegister s t ∧ GoesOn s t) ∧
     (bits dw 32 14 < s.rmLen q → (s1.sendEntry q (bits dw 32 14)).vacant = true →
       ∃ t, exec (.spawn b a d) s = .next t ∧ t.rg d = (if d = 0 then 0 else BitVec.ofNat 64 (s.vacantCode q (spawnCls bs))) ∧ ChangesG s t d ∧
         GoesOn s t)) ∧
    (engineWordBad dw = false → bits dw 32 14 < s.rmLen r → (s.sendEntry r (bits dw 32 14)).vacant = false →
      let goes := fun (p : Packet) (o : PktOp) => p.op = o ∧ p.dst = site s r ∧ p.unit = 10 ∧ p.region = r ∧ p.arg1 = dw ∧ p.srcLtile = s.ctx.ltile
      (bits dw 62 2 = 0 → s.tileBusy s.cur = false → BlockAt s s1 (s.rg b) 96 8 bs →
        ∃ t, Sends (.twpost b a d) s t .twpostJobArrival (fun p => goes p .twJob ∧ p.data = bs ∧ p.dest = .gpr d.toNat 8 false) ∧ waits t) ∧
      (∀ k : Nat × PktOp × Instr, k ∈ [(1, .twPermit, .twpostPermitArrival), (2, .twEnd, .twpostEndArrival)] → bits dw 62 2 = k.1 →
        s.rg b = 0 → (k.1 = 2 → s.ctx.priv ≠ 0) →
        ∃ t, Sends (.twpost b a d) s t k.2.2 (fun p => goes p k.2.1) ∧ t.rg d = 0 ∧ (∀ x, x ≠ d.toNat → t.ctx.rg x = s.ctx.rg x) ∧ GoesOn s t)) ∧
    (∀ p : Instr × Bool × Nat, p ∈ [(.send b a, false, 1008), (.recfwd b a, false, 0), (.splice b a, false, 0), (.spawn b a d, true, 976),
        (.post b a, true, 976)] → destBad dw p.2.1 p.2.2 = true → Traps p.1 s cPROTECT dw)

/-- DECR subtracts gB at its counter and makes the codelet ready just when the counter reaches 0; ACKX fills the word with gB; no register changes. (R300, R301, R303, R214, spec/17_message_and_task_instructions.md) -/
def Obligations.CountdownsAndAcknowledgements : Prop :=
  ∀ (s s1 : State) (l : Loc) (b a : BitVec 5),
    let ea := s.rg a
    let y := s.rg b
    (classOf ea = .role → bit ea 28 = false → bits ea 24 4 = 0 → ea.toNat % 64 = 0 → Lands s s1 ea (.atomic 8) .both l → PlainLoc l →
      s1.atOnce s1.cur = true → (s.regionAt s.ctx.region).trace = false →
      (let m := (s.regionAt s.ctx.region).rmAddr (bits ea 32 14); m + 32 ≤ l.pa ∨ l.pa + 8 ≤ m) →
      let k := 8 * (s.rmEntry s.ctx.region (bits ea 32 14)).site + bits ea 29 3
      let old := s.readWord l.pa
      ∃ t, exec (.decr b a) s = .next t ∧ ChangesNoRegister s t ∧ GoesOn s t ∧
        (old ≠ y ∨ y = 0 → Stored s t l.pa (leBytes 8 (old - y).toNat) ∧ ∀ c, (t.coreAt c).ready = (s.coreAt c).ready) ∧
        (old = y → y ≠ 0 → (∃ v, (s.time, .readyRingOffer, v) ∈ t.agenda ∧ v.x = k) ∧ (t.coreAt k).msgRecv = (s1.coreAt k).msgRecv + 1 ∧
          (((t.coreAt k).ready = (s1.coreAt k).ready ++ [(ea, s.ctx.region, s.ctx.priv)] ∧ Stored s t l.pa (List.replicate 8 0)) ∨
            (t.coreAt k).overflow = (s1.coreAt k).overflow ++ [(ea, s.ctx.region, s.ctx.priv)]))) ∧
    (Lands s s1 ea .fe .write l → PlainLoc l → s1.atOnce s1.cur = true → (s.regionAt s.ctx.region).trace = false →
      ∃ t, exec (.ackx b a) s = .next t ∧ Stored s t l.pa (leBytes 8 y.toNat) ∧ t.isFull l.pa = true ∧ ChangesNoRegister s t ∧ GoesOn s t) ∧
    (classOf ea ≠ .role ∨ bit ea 28 = true ∨ bits ea 24 4 ≠ 0 → Traps (.decr b a) s cPROTECT ea) ∧
    (classOf ea = .role → bit ea 28 = false → bits ea 24 4 = 0 → ea.toNat % 64 ≠ 0 → Traps (.decr b a) s cALIGN ea)

/-- CHCFG sets a channel entry and returns its old word, CHBLK and CHUNB its BLOCKED bit, MATCH takes or drops an entry; bad operands trap PROTECT. (R358, R361, R362, R363, R365, R292, R7, spec/21_tile_tables.md) -/
def Obligations.ChannelAndMatchTables : Prop :=
  ∀ (s s0 : State) (b a d : BitVec 5) (bs : List Byte),
    let x := s.rg a
    let n := x.toNat
    let y := s.rg b
    let idle := (s.coreAt (8 * s.siteNo + n / 64)).inbox = []
    let old := tget s.myTabs.chan n {}
    let keeps := fun (u : State) => u.cur = s.cur ∧ (∀ c, c ≠ s.cur → u.ctxAt c = s.ctxAt c) ∧ (∀ r, r ≠ d.toNat → u.ctx.rg r = s.ctx.rg r) ∧
      u.ctx = { s.ctx with g := u.ctx.g, dirty := u.ctx.dirty, pc := u.ctx.pc, rep := u.ctx.rep } ∧ GoesOn s u
    (s.ctx.priv ≠ 0 → n < 512 → BlockAt s s0 y 32 32 bs → chanBad (blockWord bs 0) (blockWord bs 1) (blockWord bs 2) (blockWord bs 3) = false →
      ∃ u, exec (.chcfg b a d) s = .next u ∧ u.rg d = (if d = 0 then 0 else old.w1) ∧ keeps u ∧
        (idle → tget u.myTabs.chan n {} = Channel.ofWords (blockWord bs 0) (blockWord bs 1) (blockWord bs 2))) ∧
    (s.ctx.priv = 0 → ∃ u, exec (.chcfg b a d) s = .next u ∧ u.ctx.trap.cause = cPRIVILEGE ∧ u.ctx.trap.pc = s.grp.pc0 ∧ u.ctx.g = s.ctx.g ∧
      u.tiles = s.tiles) ∧
    (n < 512 → old.stage = false →
      (∃ u, exec (.chblk a) s = .next u ∧ ChangesNoRegister s u ∧ GoesOn s u ∧ SameMemory s u ∧
        tget u.myTabs.chan n {} = { old with blocked := true }) ∧
      ∃ u, exec (.chunb a) s = .next u ∧ ChangesNoRegister s u ∧ GoesOn s u ∧ (idle → tget u.myTabs.chan n {} = { old with blocked := false })) ∧
    (512 ≤ n ∨ old.stage = true → Traps (.chblk a) s cPROTECT x ∧ Traps (.chunb a) s cPROTECT x) ∧
    (let m := s.myTabs.mtch
     let free := fun i => (tget m i {}).valid = false
     let set := fun (i : Nat) (e : MatchE) (r : Word) => ∃ u, exec (.matchTbl b a d) s = .next u ∧ u.rg d = (if d = 0 then 0 else r) ∧ keeps u ∧
       SameMemory s u ∧ tget u.myTabs.mtch i {} = e ∧ (∀ j, j ≠ i → tget u.myTabs.mtch j {} = tget m j {}) ∧ u.myTabs.chan = s.myTabs.chan ∧
       u.myTabs.buf = s.myTabs.buf
     let e0 : MatchE := { valid := true, buf := bits x 0 6, core := bits x 12 3, channel := bits x 15 6, count := bits x 21 21, arg := y }
     (bit x 63 = false → bits x 42 21 = 0 → bits x 6 6 = 0 → bits x 21 21 ≠ 0 → (s.myTabs.bufAt (bits x 0 6)).valid = true →
       (∀ i, i < 32 → free i → (∀ j, j < i → ¬ free j) → set i e0 (BitVec.ofNat 64 i)) ∧
       ((∀ i, i < 32 → ¬ free i) → WritesG (.matchTbl b a d) s d (BitVec.allOnes 64))) ∧
     (bit x 63 = true → bits x 42 21 = 0 → bits x 5 7 = 0 → y = 0 → let i := bits x 0 5
       (free i → WritesG (.matchTbl b a d) s d 0) ∧ (¬ free i → set i { tget m i {} with valid := false } 1)) ∧
     (bits x 42 21 ≠ 0 ∨ (bit x 63 = true ∧ y ≠ 0) → Traps (.matchTbl b a d) s cPROTECT x))

/-- ROLE reads the cached entry, RMAP queues a request or empties the cache, LEASE and LREL send theirs to the census, NOTACK records the table. (R336, R353, R354, R355, R356, R357, R7, spec/20_role_map_census_leases.md) -/
def Obligations.RoleMapInstructions : Prop :=
  ∀ (s s0 : State) (b a d : BitVec 5) (bs : List Byte),
    let x := s.rg a
    let y := s.rg b
    let r := s.ctx.region
    let q := if y = 0 then r else y
    let op := bits x 0 4
    let l := bits x 32 14
    let gives := fun (i : Instr) (v : Word) (f : State → Prop) => ∃ u, exec i s = .next u ∧ u.rg d = (if d = 0 then 0 else v) ∧ ChangesG s u d ∧
      GoesOn s u ∧ f u
    let last := fun (u : State) => ∃ c, u.tile.rmCache.head? = some c ∧ c.region = r ∧ c.ltile = x.toNat
    (x.toNat < s.rmLen r → x.toNat < 2 ^ 14 →
      (∀ c, s.tile.rmCache.find? (fun c => c.region == r && c.ltile == x.toNat) = some c →
        ∃ w : Word, gives (.role a d) w last ∧ bits w 38 26 = bits c.w0 38 26 ∧ bits w 0 38 = 1) ∧
      (s.tile.rmCache.find? (fun c => c.region == r && c.ltile == x.toNat) = none → gives (.role a d) 0 last)) ∧
    (s.rmLen r ≤ x.toNat → Traps (.role a d) s cPROTECT x) ∧
    (s.ctx.priv ≠ 0 → bits x 46 18 = 0 → bits x 10 22 = 0 → bits x 4 4 = 0 → bits x 8 2 ≠ 3 → op ≤ 2 →
      (q = r ∨ (s.regionExists q = true ∧ s.descends r q = true)) →
      (op = 0 → gives (.rmap b a d) 0 fun u => u.tile.rmCache = s.tile.rmCache.filter fun c => c.region != q) ∧
      (op ≠ 0 → s.rmapRefused q l op = true → WritesG (.rmap b a d) s d 1) ∧
      (op ≠ 0 → s.rmapRefused q l op = false → gives (.rmap b a d) 0 fun u =>
        (u.colAt s.colNo).reqs = (s.colAt s.colNo).reqs ++ [{ region := q, ltile := l, role := bits x 8 2, op := op }] ∧
        u.agenda = agendaPut s.agenda s.time .rmapAction { x := s.colNo })) ∧
    (s.ctx.priv ≠ 0 → bits x 46 18 ≠ 0 → Traps (.rmap b a d) s cPROTECT x) ∧
    (bit x 28 = false → BlockAt s s0 x 16 16 bs →
      ∃ u p, exec (.lease b a) s = .next u ∧ u.net = s.net ++ [p] ∧ p.op = .lease ∧ p.id = s.nextPkt ∧ p.src = s.cur ∧ p.region = r ∧
        p.ltile = s.ctx.ltile ∧ p.addr = x ∧ p.arg1 = blockWord bs 0 ∧ p.arg2 = y ∧
        (s.time + s.delays.headD 0, .leaseRequest, { x := p.id }) ∈ u.agenda ∧ ChangesNoRegister s u ∧ SameMemory s u ∧ GoesOn s u) ∧
    (x.toNat ≤ 63 → ∃ u, exec (.lrel a) s = .next u ∧ u.agenda = agendaPut s.agenda s.time .lrelArrival { x := r.toNat, y := x.toNat } ∧
      ChangesNoRegister s u ∧ SameMemory s u ∧ GoesOn s u) ∧
    (64 ≤ x.toNat → Traps (.lrel a) s cPROTECT x) ∧
    (x.toNat < 2 ^ 16 → ∀ s1 ws, (y = 0 ∧ s1 = s ∧ ws = List.replicate 64 0) ∨
        (y ≠ 0 ∧ s.tableForm y = true ∧ y.toNat % 8 = 0 ∧ s.tableWords 64 y = (s1, .words ws)) →
      let n := s1.notack x.toNat ws
      gives (.notack b a d) (BitVec.ofNat 64 n.2) fun u => u.tiles = n.1.tiles ∧ n.2 ≤ 2 ∧
        (n.2 = 0 → ∃ t m, (u.tileAt t).leaving = some m ∧ ∃ lt, (r, lt, ws) ∈ m.acks)) ∧
    (2 ^ 16 ≤ x.toNat → Traps (.notack b a d) s cPROTECT x)

/-- BUDGET and CNTRD read what their selector names, BADD draws from RESERVE what it holds and the counter can take, HBEAT clears the watchdog count. (R396, R399, R400, R401, R402, R405, R7, spec/24_counters.md) -/
def Obligations.BudgetsAndCounters : Prop :=
  ∀ (s : State) (b a d : BitVec 5),
    let x := s.rg a
    let y := s.rg b
    let r := s.regionAt s.ctx.region
    (∀ p : Word × Word, p ∈ [(0, s.ctx.budgetRem), (1, s.slack), (2, BitVec.ofNat 64 s.myAccount.cycLeft), (3, BitVec.ofNat 64 s.myAccount.engLeft),
        (4, s.myAccount.reserve)] → x = p.1 → WritesG (.budget a d) s d p.2) ∧
    (5 ≤ x.toNat → Traps (.budget a d) s cPROTECT x) ∧
    (∀ p : Nat × Word × Bool, p ∈ [(0x00, BitVec.ofNat 64 s.myAccount.cycLeft, false), (0x01, BitVec.ofNat 64 s.myAccount.engLeft, false),
        (0x02, BitVec.ofNat 64 s.myAccount.wdCount, false), (0x03, BitVec.ofNat 64 s.myAccount.dlMiss, false), (0x08, s.ctx.taskCyc, false),
        (0x10, s.core.cycles, true), (0x11, s.core.groups, true), (0x12, BitVec.ofNat 64 (s.cycles - s.core.occupied), true),
        (0x13, s.core.msgSent, true), (0x14, s.core.msgRecv, true), (0x15, s.core.preempts, true), (0x16, s.core.rejects, true),
        (0x17, s.core.dlMiss, true), (0x20, s.tile.mxCyc, true), (0x21, s.tile.cpCyc, true), (0x22, s.tile.tlbMiss, true),
        (0x23, s.tile.atomics, true)] → x.toNat = p.1 →
      if p.2.2 = true ∧ s.ctx.priv = 0 then Traps (.cntrd a d) s cPRIVILEGE x else WritesG (.cntrd a d) s d p.2.1) ∧
    (0x24 ≤ x.toNat ∨ x.toNat ∈ [4, 5, 6, 7, 9, 10, 11, 12, 13, 14, 15, 24, 25, 26, 27, 28, 29, 30, 31] → Traps (.cntrd a d) s cPROTECT x) ∧
    (s.ctx.priv ≠ 0 → x.toNat ≤ 2 → y.toNat < 2 ^ 32 → s.atOnce s.cur = true → r.trace = false →
      (r.reserve = 0 ∨ (s.drawBad (globalPhys r.reserve) = false ∧ s.homeHeld (globalPhys r.reserve) = false)) →
      let res := if r.reserve = 0 then 0 else (s.readWord (globalPhys r.reserve)).toNat
      let g := min y.toNat (min res (2 ^ 32 - 1 - s.baddTarget x.toNat))
      ∃ u, exec (.badd b a d) s = .next u ∧ u.rg d = (if d = 0 then 0 else BitVec.ofNat 64 g) ∧ (∀ k, k ≠ d.toNat → u.ctx.rg k = s.ctx.rg k) ∧
        (∀ c, c ≠ s.cur → u.ctxAt c = s.ctxAt c) ∧ GoesOn s u ∧
        u.ctx.budgetRem = (if x.toNat = 0 then s.ctx.budgetRem + BitVec.ofNat 64 g else s.ctx.budgetRem) ∧
        (if r.reserve = 0 then SameMemory s u else Stored s u (globalPhys r.reserve) (leBytes 8 (res - g))) ∧
        (∀ ac, acctOf s.tile.accounts s.ctx.region s.ctx.ltile = some ac → ∃ ac', acctOf u.tile.accounts s.ctx.region s.ctx.ltile = some ac' ∧
          ac'.cycLeft = (if x.toNat = 2 then ac.cycLeft + g else ac.cycLeft) ∧ ac'.engLeft = (if x.toNat = 1 then ac.engLeft + g else ac.engLeft) ∧
          ac'.reserve = BitVec.ofNat 64 (res - g))) ∧
    (s.ctx.priv ≠ 0 → x.toNat ≤ 2 → y.toNat < 2 ^ 32 → s.atOnce s.cur = true → r.reserve ≠ 0 → s.drawBad (globalPhys r.reserve) = true →
      ∃ u, exec (.badd b a d) s = .next u ∧ u.rg d = 0 ∧ (∀ k, k ≠ d.toNat → u.ctx.rg k = s.ctx.rg k) ∧ GoesOn s u ∧
        ∃ h ∈ u.ctx.held, h.cause = cPROTECT ∧ h.val = r.reserve) ∧
    (s.ctx.priv ≠ 0 → 3 ≤ x.toNat → Traps (.badd b a d) s cPROTECT x) ∧
    (s.ctx.priv ≠ 0 → x.toNat ≤ 2 → 2 ^ 32 ≤ y.toNat → Traps (.badd b a d) s cPROTECT y) ∧
    ∃ u, exec .hbeat s = .next u ∧ ChangesNoRegister s u ∧ SameMemory s u ∧ GoesOn s u ∧
      ∀ ac, acctOf s.tile.accounts s.ctx.region s.ctx.ltile = some ac →
        acctOf u.tile.accounts s.ctx.region s.ctx.ltile = some { ac with wdCount := 0 }

/-- MSET and MGET write and read the engine's registers and panels, MZERO and MDRAIN queue an operation, MWAIT ends when the engine is done, MGO and MGOT join. (R67, R68, R164, R165, R166, R168, R171, R172, R176, R177, R178, spec/10_matrix_engine.md) -/
def Obligations.MatrixInstructions : Prop :=
  ∀ (s : State) (r : BitVec 9) (r3 : BitVec 3) (c : BitVec 1) (ch : BitVec 6) (w : BitVec 1) (p : BitVec 2) (b a d : BitVec 5),
    let site := s.siteNo
    let m := s.mx site
    let x := s.rg a
    let changes := fun (i : Instr) (f : Mx → Prop) => ∃ t, exec i s = .next t ∧ f (t.mx site) ∧ ChangesNoRegister s t ∧ SameMemory s t ∧ GoesOn s t
    (s.isMember site s.cur = true → s.panelBusy site = false → m.region = s.ctx.region →
      (∀ q : BitVec 9 × Mx, q ∈ [(0, { m with abase := x }), (1, { m with astride := x }), (2, { m with bbase := x }), (3, { m with bstride := x }),
          (4, { m with k := x.setWidth 21 }), (5, { m with fmt := x &&& 0xF0FF })] → changes (.mset q.1 a) fun n => n = q.2) ∧
      (m.paused = false → m.busy = false → changes (.mset 6 a) fun n => n = { m with row := x.setWidth 32 }) ∧
      (m.paused = false → m.busy = true → changes (.mset 6 a) fun n => n = m) ∧
      (m.paused = true → m.pausedOp s.ctx = none → changes (.mset 6 a) fun n => n = m) ∧
      (m.paused = true → ∀ o, m.pausedOp s.ctx = some o → changes (.mset 6 a) fun n =>
        (n.ops.find? fun p => p.num == o.num) = some { o with row := (x.setWidth 32).toNat, consumed := false, final := [] } ∧
        (∀ j, j ≠ o.num → (n.ops.find? fun p => p.num == j) = m.ops.find? fun p => p.num == j) ∧
        n.row = (if m.shown = some o.num then x.setWidth 32 else m.row) ∧ n.acc = m.acc) ∧
      (7 ≤ r.toNat → Traps (.mset r a) s cILLEGAL s.grp.wpc) ∧
      WritesG (.mget r3 d) s d ([m.abase, m.astride, m.bbase, m.bstride, m.k.setWidth 64, m.fmt, m.row.setWidth 64, m.stat].getD r3.toNat 0) ∧
      WritesG (.mgetPanel p a d) s d ((m.elem p.toNat (bits x 3 4) (2 * bits x 0 3 + 1) ++ m.elem p.toNat (bits x 3 4) (2 * bits x 0 3) : BitVec 64)) ∧
      (m.qlen < 4 → changes (.mzero p) fun n => ∃ o, n.ops = m.ops ++ [o] ∧ o.num = m.next ∧ o.kind = .mzero ∧ o.panel = p.toNat ∧
        o.core = s.coreNo % 8 ∧ o.ctx = s.cur ∧ o.region = s.ctx.region ∧ o.st = .queued) ∧
      (m.qlen < 4 → s.tileBusy s.cur = false → (w = 1 ∨ ch = 0) → classOf x = .role → bit x 28 = false → bits x 0 24 % 64 = 0 →
        ((bits x 24 4 = 0 ∧ bits x 0 24 + 1024 ≤ 0x10000) ∨ (1 ≤ bits x 24 4 ∧ bits x 24 4 ≤ 10 ∧ fmtDrm m.fmt ≤ 5 ∧
          winByte (bits x 24 4) (bits x 0 24) + 256 * winBits (bits x 24 4) / 8 ≤ 0x10000)) →
        changes (.mdrain ch w p b a) fun n => ∃ o, n.ops = m.ops ++ [o] ∧ o.kind = .mdrain ∧ o.panel = p.toNat ∧ o.dest = x ∧
          o.wake = decide (w = 1) ∧ o.ch = ch.toNat ∧ o.stride = s.rg b ∧ o.fmt = m.fmt ∧ o.st = .queued) ∧
      (classOf x ≠ .role → (w = 1 ∨ ch = 0) → Traps (.mdrain ch w p b a) s cPROTECT x)) ∧
    (s.panelBusy site = false → m.region = s.ctx.region →
      let ready := if c = 0 then m.pbusy = 0 ∧ m.qlen = 0 ∧ m.busy = false ∧ m.paused = false else m.pending = false
      (ready → ∃ t, exec (.mwait c d) s = .next t ∧ t.rg d = (if d = 0 then 0 else m.stat) ∧ t.mx site = { m with err := 0, flags := 0 } ∧
        ChangesG s t d ∧ GoesOn s t) ∧
      (¬ ready → ∃ t, exec (.mwait c d) s = .next t ∧ t.ctx.st = .stalled ∧ t.ctx.wait = some (.mwait c d, s.grp) ∧ t.ctx.g = s.ctx.g ∧ t.mx site = m)) ∧
    (∀ i, i ∈ [Instr.mset r a, .mget r3 d, .mgetPanel p a d, .mzero p] → s.isMember site s.cur = false → Traps i s cGANG 0) ∧
    ∀ i, i ∈ [Instr.mgo c p a, .mgot c p a] →
      (s.ctx.gang = false → Traps i s cGANG (BitVec.ofNat 64 (255 - 2 ^ (s.coreNo % 8)))) ∧
      (s.ctx.gang = true → s.absentMask site = 0 → ∃ u, exec i s = .next u ∧
        u.ctx = { s.ctx with st := .stalled, wait := some (i, s.grp), stallAt := s.time } ∧ u = { s with ctxs := u.ctxs, agenda := u.agenda } ∧
        ((∀ k, k < 8 → ∃ c, u.member site k = some c ∧ (u.ctxAt c).atLine = true) →
          u.agenda = agendaPut s.agenda s.time .mxJoin { x := site }))

/-- CSET and CPOLL write and read the copy unit's registers, CGO queues a checked record and answers its ticket, CWAIT and CCANCEL act on a ticket. (R68, R223, R224, R227, R230, R231, R232, spec/12_memory_instructions.md) -/
def Obligations.CopyUnitInstructions : Prop :=
  ∀ (s : State) (r : BitVec 9) (a d : BitVec 5), (s.cp s.siteNo).region = s.ctx.region →
    let site := s.siteNo
    let c := s.cp site
    let x := s.rg a
    let n := r.toNat
    let rec_ := (List.range 12).map fun k => tget c.l k 0
    let gives := fun (i : Instr) (v : Word) (f : State → Prop) => ∃ t, exec i s = .next t ∧ t.rg d = (if d = 0 then 0 else v) ∧ ChangesG s t d ∧
      GoesOn s t ∧ f t
    (0x10 ≤ n → n < 0x1C → ∃ t, exec (.cset r a) s = .next t ∧ ChangesNoRegister s t ∧ SameMemory s t ∧ GoesOn s t ∧
      tget (t.cp site).l (n - 0x10) 0 = x ∧ (∀ k, k ≠ n - 0x10 → tget (t.cp site).l k 0 = tget c.l k 0) ∧ (t.cp site).job = c.job) ∧
    (n = 0x1C → ∃ t, exec (.cset r a) s = .next t ∧ ChangesNoRegister s t ∧ SameMemory s t ∧ GoesOn s t ∧
      t.cp site = { c with job := x &&& 0xFFFFFFFFBF000000 }) ∧
    (n < 0x10 ∨ 0x1C < n → Traps (.cset r a) s cILLEGAL s.grp.wpc) ∧
    (0x10 ≤ n → n ≤ 0x1D → WritesG (.cpoll r d) s d (if n < 0x1C then tget c.l (n - 0x10) 0 else if n = 0x1C then c.job else c.stat)) ∧
    (n < 0x10 ∨ 0x1D < n → Traps (.cpoll r d) s cILLEGAL s.grp.wpc) ∧
    (c.qlen < 8 → s.tileBusy s.cur = false → (∀ p, recCheck rec_ = some p → Traps (.cgo d) s cLAYOUT (mkWord [(8, p.1), (0, p.2)])) ∧
      (recCheck rec_ = none → gives (.cgo d) (c.next.setWidth 64) fun t => ∃ j, (t.cp site).jobs = c.jobs ++ [j] ∧ j.ticket = c.next.toNat ∧
        j.layout = rec_ ∧ j.job = c.job ∧ j.ctx = s.cur ∧ j.region = s.ctx.region ∧ j.st = .queued ∧ (t.cp site).next = c.next + 1 ∧
        t.agenda = agendaPut s.agenda s.time .copyJobStart { x := site })) ∧
    (8 ≤ c.qlen ∨ s.tileBusy s.cur = true → ∃ t, exec (.cgo d) s = .next t ∧ t.ctx = { s.ctx with st := .stalled, stallAt := s.time, fetchWait := false, wait := some (.cgo d, s.grp) } ∧
      t.tiles = s.tiles ∧ t.mem = s.mem) ∧
    (s.job site (bits x 0 16) = none → gives (.cwait a d) c.stat fun t => t.cp site = { c with err := 0, flags := 0 }) ∧
    (∀ j, s.job site (bits x 0 16) = some j →
      (∃ t, exec (.cwait a d) s = .next t ∧ t.ctx.st = .stalled ∧ t.ctx.wait = some (.cwait a d, s.grp) ∧ t.ctx.g = s.ctx.g) ∧
      (j.ended = true ∨ j.cancel = true → WritesG (.ccancel a d) s d 0) ∧
      (j.ended = false → j.cancel = false → gives (.ccancel a d) 1 fun t => ∃ k, t.job site (bits x 0 16) = some k ∧ k.cancel = true ∧
        (j.st = .queued → k.ended = true ∧ k.status = 1 ∧ t.agenda = agendaPut s.agenda s.time .copyJobComplete { x := site, y := j.ticket }) ∧
        (j.st ≠ .queued → k.ended = false ∧ t.agenda = agendaPut s.agenda s.time .copyCancelStop { x := site }))) ∧
    (s.job site (bits x 0 16) = none → WritesG (.ccancel a d) s d 0)

/-- BSTATE, BGIVE, BTAKE, BMARK, BWAIT, BRING and BADV read and change the buffer and ring entries as their rules say, and nothing else. (R366, R368, R369, R370, R371, R372, R373, R73, spec/21_tile_tables.md) -/
def Obligations.BufferAndRingInstructions : Prop :=
  ∀ (s : State) (m : BitVec 4) (b a d : BitVec 5),
    let x := s.rg a
    let v := s.rg b
    let h := x.toNat
    let tb := s.myTabs
    let bf := tb.bufAt h
    let me := s.coreNo % 8
    let sets := fun (t : State) (f : Buf) => t.myTabs.bufAt h = f ∧ (∀ k, k ≠ h → t.myTabs.bufAt k = tb.bufAt k) ∧ t.myTabs.chan = tb.chan ∧
      t.myTabs.rings = tb.rings
    let does := fun (i : Instr) (f : State → Prop) => ∃ t, exec i s = .next t ∧ f t ∧ ChangesNoRegister s t ∧ SameMemory s t ∧ GoesOn s t
    let gives := fun (i : Instr) (y : Word) (f : State → Prop) => ∃ t, exec i s = .next t ∧ f t ∧ t.rg d = (if d = 0 then 0 else y) ∧ ChangesG s t d ∧
      GoesOn s t
    (h < 64 → WritesG (.bstate a d) s d bf.image) ∧
    (h < 64 → bf.valid = true → bf.holder.toNat = me →
      (bf.inring = false → (v.toNat ≤ 11 ∨ v.toNat = 15) → s.fenceWaits 3 1 = false →
        does (.bgive b a) fun t => sets t { bf with holder := v.setWidth 4 } ∧ t.myTabs.mtch = tb.mtch) ∧
      (bf.inring = false → v.toNat ≤ 3 → (v.toNat = 2 → s.fenceWaits 3 1 = false) →
        does (.bmarkState b a) fun t => sets t { bf with state := v.setWidth 2 } ∧ t.myTabs.mtch = tb.mtch) ∧
      (does (.bmarkRetain b a) fun t => sets t { bf with retain := bit v 0 } ∧ t.myTabs.mtch = tb.mtch) ∧
      (bf.inring = false → does (.bmarkFree b a) fun t => sets t { bf with valid := false } ∧
        ∀ p ∈ t.myTabs.mtch, p.2.buf = h → p.2.valid = false)) ∧
    (h < 64 → bf.valid = true → bf.inring = false → (bf.holder = 15 ∨ bf.holder.toNat = me) →
      gives (.btake a d) ({ bf with holder := BitVec.ofNat 4 me } : Buf).image fun t => sets t { bf with holder := BitVec.ofNat 4 me }) ∧
    (h < 64 → bf.valid = false → ∀ f, defineOf v = some f → tb.bufOver f.space.toNat f.core.toNat f.base.toNat (64 * f.size.toNat) = none →
      does (.bmarkDefine b a) fun t => sets t { f with holder := BitVec.ofNat 4 me } ∧ f.valid = true ∧ f.state = 0 ∧ f.base.toNat = bits v 0 20 ∧
        f.size.toNat = bits v 29 15 ∧ f.core.toNat = bits v 44 3 ∧ f.space.toNat = bits v 47 1 ∧ f.window.toNat = bits v 48 4) ∧
    (∀ i, i ∈ [Instr.bgive b a, .btake a d, .bmarkState b a, .bmarkDefine b a, .bmarkRetain b a, .bmarkFree b a, .bwaitBuffer m a d, .bstate a d] →
      64 ≤ h → Traps i s cPROTECT x) ∧
    (∀ i, i ∈ [Instr.bgive b a, .bmarkState b a, .bmarkRetain b a, .bmarkFree b a] → h < 64 → bf.valid = true → bf.holder.toNat ≠ me →
      Traps i s cOWNER (mkWord [(8, bf.holder.toNat), (0, h)])) ∧
    (h < 64 → bf.valid = true → m.getLsbD bf.state.toNat = true → WritesG (.bwaitBuffer m a d) s d (bf.state.setWidth 64)) ∧
    (let k := v.toNat
     let r := s.ring h
     let ch := fun i => (r.first.toNat + i) % 64
     (h ≤ 7 → k ≠ 0 → k ≤ r.count →
       (k ≤ r.filled → WritesG (.bwaitRing 0 b a d) s d (BitVec.ofNat 64 (ch r.head))) ∧
       (k ≤ r.count - r.filled → WritesG (.bwaitRing 1 b a d) s d (BitVec.ofNat 64 (ch r.tail))) ∧
       (k ≤ r.filled → r.cons.toNat = me → gives (.badv 0 b a d) (BitVec.ofNat 64 (r.filled - k)) fun t =>
         t.ring h = { r with head := (r.head + k) % r.count, filled := r.filled - k } ∧
         (r.count ≤ 64 → ∀ j, j < k → (t.myTabs.bufAt (ch ((r.head + j) % r.count))).state = 0 ∧
           (t.myTabs.bufAt (ch ((r.head + j) % r.count))).holder = r.prod)) ∧
       (k ≤ r.count - r.filled → r.prod.toNat = me → s.fenceWaits 3 1 = false → gives (.badv 1 b a d) (BitVec.ofNat 64 (r.filled + k)) fun t =>
         t.ring h = { r with tail := (r.tail + k) % r.count, filled := r.filled + k } ∧
         (r.count ≤ 64 → ∀ j, j < k → (t.myTabs.bufAt (ch ((r.tail + j) % r.count))).state = 2 ∧
           (t.myTabs.bufAt (ch ((r.tail + j) % r.count))).holder = r.cons))) ∧
     (∀ sd, h ≤ 7 → (k = 0 ∨ r.count < k) → Traps (.bwaitRing sd b a d) s cPROTECT x ∧ Traps (.badv sd b a d) s cPROTECT x) ∧
     (h ≤ 7 → bits v 21 43 = 0 → bits v 6 7 ≤ 64 → bits v 13 4 ≤ 7 → bits v 17 4 ≤ 7 →
       (bits v 6 7 = 0 → does (.bring b a) fun t => t.ring h = {} ∧ (∀ i, i < r.count → (t.myTabs.bufAt (ch i)).inring = false)) ∧
       (1 ≤ bits v 6 7 → r.count = 0 → (∀ i, i < bits v 6 7 → let f := tb.bufAt ((bits v 0 6 + i) % 64)
           f.valid = true ∧ f.inring = false ∧ f.state = 0 ∧ f.holder.toNat = bits v 13 4) →
         does (.bring b a) fun t => (t.ring h).count = bits v 6 7 ∧ (t.ring h).first.toNat = bits v 0 6 ∧ (t.ring h).prod.toNat = bits v 13 4 ∧
           (t.ring h).cons.toNat = bits v 17 4 ∧ (t.ring h).head = 0 ∧ (t.ring h).tail = 0 ∧ (t.ring h).filled = 0 ∧
           ∀ i, i < bits v 6 7 → (t.myTabs.bufAt ((bits v 0 6 + i) % 64)).inring = true ∧
             (t.myTabs.bufAt ((bits v 0 6 + i) % 64)).ring.toNat = h)))

/-- A packet at its home writes, reads or changes memory and turns into its answer; a response writes its registers, an error traps, an acknowledgement ends. (R189, R207, R217, R237, R238, R240, R248, R267, R300, R303, R402, spec/13_ordering_axioms.md) -/
def Obligations.AccessesAndTheirResponses : Prop :=
  ∀ (s : State) (p : Packet), s.pkt s.ev.x = some p →
    let id := s.ev.x
    let gone := p.aclass = some .paged ∧ s.demotedAt p.pa = true
    let turns := fun (t : State) (o : PktOp) (e : Instr) (f : Packet → Prop) => (∃ q, t.pkt id = some q ∧ q.op = o ∧ f q) ∧
      (s.time + s.delays.headD 0, e, { x := id }) ∈ t.agenda
    (∀ e, e ∈ [Instr.writeAtHome, .releaseHoldEnd, .ackxAtHome, .decrAtHome, .readAtHome, .atomicAtUnit] →
      (s.mayGo p = false → ∃ t n, exec e s = .next t ∧ t = { s with net := t.net } ∧
        t.pkt id = some { p with arrived := true, arrSeq := n } ∧ (p.arrSeq ≠ 0 → n = p.arrSeq) ∧ (p.arrSeq = 0 → ∀ q ∈ s.net, q.arrSeq < n)) ∧
      (s.mayGo p = true → gone → ∃ t, exec e s = .next t ∧
        t.pkt id = some { p with noop := true, arrived := false } ∧ (s.time, .movedArrival, { x := id }) ∈ t.agenda ∧ SameMemory s t) ∧
      (s.mayGo p = true → ¬ gone → (s.physOk p.pa = false ∨ s.cxlDead p.pa = true) →
        ∃ t, exec e s = .next t ∧ turns t .errResponse .errorResponseArrival (fun q => q.cause = 7 ∧ q.arg1 = p.addr))) ∧
    (s.mayGo p = true → ¬ gone → s.physOk p.pa = true → s.cxlDead p.pa = false →
      (s.regionAt p.region).trace = false →
      let old := s.readNat p.pa p.len
      let bad := s.poison.contains (p.pa / 128)
      (∀ e, e ∈ [Instr.writeAtHome, .releaseHoldEnd, .ackxAtHome] → ∃ t, exec e s = .next t ∧ t.ctxs = s.ctxs ∧
        (p.pa / 2 ^ 60 ≠ 5 →
          Stored s t p.pa (s.storedBytes { pa := p.pa, win := p.win, sub := p.sub } p.len (leNat p.data)) ∧ (p.stf = true → t.isFull p.pa = true)) ∧
        (p.pa / 2 ^ 60 = 5 → SameMemory s t ∧
          (s.time, .registerWrite, { x := p.pa, y := p.len, z := p.src, val := BitVec.ofNat 64 (leNat p.data) }) ∈ t.agenda) ∧
        turns t .writeAck .writeAckArrival (fun _ => True)) ∧
      (let v := s.readWord p.pa
       bad = false → ∃ t, exec .decrAtHome s = .next t ∧ turns t .writeAck .writeAckArrival (fun _ => True) ∧
         (v ≠ p.arg1 ∨ p.arg1 = 0 → Stored s t p.pa (leBytes 8 (v - p.arg1).toNat)) ∧
         (v = p.arg1 → p.arg1 ≠ 0 → ∃ k, (s.time, .readyRingOffer, { x := k }) ∈ t.agenda)) ∧
      (bad = false → p.win = 0 → ∃ t, exec .readAtHome s = .next t ∧ t.ctxs = s.ctxs ∧ SameMemory s t ∧
        turns t .response .responseArrival (fun q => q.data =
          if nbits p.pa 60 4 = 5 then leBytes p.len (s.readLoc { pa := p.pa } p.len) else memRead s.mem p.pa p.len)) ∧
      (∀ e, e ∈ [Instr.readAtHome, .decrAtHome, .atomicAtUnit] → bad = true → (e = .atomicAtUnit → p.dest.isBadd = false) →
        ∃ t, exec e s = .next t ∧ SameMemory s t ∧ turns t .errResponse .errorResponseArrival (fun q => q.cause = 10 ∧ q.arg1 = p.addr)) ∧
      (p.dest = .drop → bad = false → ∃ t, exec .atomicAtUnit s = .next t ∧ turns t .writeAck .writeAckArrival (fun _ => True) ∧
        Stored s t p.pa (leBytes p.len (amoNew p.aop p.len old p.arg1.toNat p.arg2.toNat))) ∧
      (∀ r n sg, p.dest = .gpr r n sg → bad = false → ∃ t, exec .atomicAtUnit s = .next t ∧
        Stored s t p.pa (leBytes p.len (amoNew p.aop p.len old p.arg1.toNat p.arg2.toNat)) ∧
        turns t .response .responseArrival (fun q => q.data = leBytes p.len old)) ∧
      (∀ r sel, p.dest = .badd r sel →
        let g := min p.arg1.toNat (min (s.reserveOf p.region) p.arg2.toNat)
        ((p.addr = 0 ∨ s.drawBad p.pa = false) → ∃ t, exec .atomicAtUnit s = .next t ∧
          turns t .baddGrant .baddGrant (fun q => q.data = leBytes 8 g ++ leBytes 8 (s.reserveOf p.region - g))) ∧
        (p.addr ≠ 0 → s.drawBad p.pa = true → ∃ t, exec .atomicAtUnit s = .next t ∧
          turns t .errResponse .errorResponseArrival (fun q => q.cause = (if s.poisoned p.pa 8 then 10 else 7) ∧ q.arg1 = p.addr)))) ∧
    (∀ c, s.awaiting id = some c →
      let x := s.ctxAt c
      let got := accessOf x.pend id
      let soft := x.pend.any fun q => q.pkt == id && q.soft
      (p.op = .response → (∀ q ∈ got, q.pkt ≠ id → ∃ y, s.pkt q.pkt = some y ∧ y.op = .response ∧ y.acked = true) →
        ∃ t, exec .responseArrival s = .next t ∧ SameMemory s t ∧ (∀ k, k ≠ c → t.ctxAt k = s.ctxAt k) ∧
          let y : Ctx := got.foldl (fun y q => y.deliver q.dest (((s.pkt q.pkt).map (·.data)).getD [])) x
          t.ctxAt c = { y with pend := notOf x.pend got }.goOn) ∧
      (p.dest.isBadd = false → x.saving = false → x.st ≠ .stopped → soft = false → ∃ t, exec .errorResponseArrival s = .next t ∧ t.pkt id = none ∧
        (t.ctxAt c).trap.cause = BitVec.ofNat 8 p.cause ∧ (t.ctxAt c).trap.val = p.arg1 ∧ (t.ctxAt c).g = x.g ∧
        (∀ q, x.pend.find? (fun q => q.pkt == id) = some q → (t.ctxAt c).trap.pc = q.pc0 ∧ (t.ctxAt c).rep = q.rep)) ∧
      (p.dest.isBadd = false → (x.saving = true ∨ x.st = .stopped ∨ soft = true) → ∃ t h, exec .errorResponseArrival s = .next t ∧
        (t.ctxAt c).held = x.held ++ [h] ∧ h.cause = BitVec.ofNat 8 p.cause ∧ h.val = p.arg1 ∧ h.area = x.saving ∧ (t.ctxAt c).g = x.g) ∧
      (∀ r sel, p.dest = .badd r sel →
        let g := leNat (p.data.take 8)
        ∃ t, exec .baddGrant s = .next t ∧ t.pkt id = none ∧
        (t.ctxAt c).rg r = (if r = 0 then 0 else BitVec.ofNat 64 g) ∧ (∀ k, k ≠ r → (t.ctxAt c).rg k = x.rg k) ∧
        (t.ctxAt c).budgetRem = (if sel = 0 then BitVec.ofNat 64 (max x.budgetRem.toNat (min (2 ^ 32 - 1) (x.budgetRem.toNat + g)))
          else x.budgetRem))) ∧
    (s.awaiting id = none → s.savedAwaiting id = none → p.dest = .drop → p.agent = 0 → ∀ c, s.ownerNow p.src p.owner = .live c →
      ∃ t, exec .errorResponseArrival s = .next t ∧
        (t.ctxAt c).held = (s.ctxAt c).held ++ [{ cause := BitVec.ofNat 8 p.cause, val := p.arg1, area := (s.ctxAt c).saving }]) ∧
    ∃ t, exec .writeAckArrival s = .next t ∧ t.pkt id = none ∧ t.ctxs = s.ctxs ∧ SameMemory s t

/-- Ports serve, hold, forward or answer MOVED; a delivery takes an inbox slot, SPAWN and POST are admitted, credits are granted, ready codelets are offered. (R275, R291, R294, R297, R298, R301, R337, R345, R347, R359, R374, spec/17_message_and_task_instructions.md) -/
def Obligations.PacketsAndDeliveries : Prop :=
  (∀ (s : State) (p : Packet), s.pkt s.ev.x = some p →
    let id := s.ev.x
    let l := p.aim.getD 0
    let e := s.rmEntry p.region l
    let at_ := fun (site : Nat) (q : Packet) => q.dst = site ∧ (p.isMem = true → q.pa = s.rehome p)
    (let fate := s.portFate p.dst p.region l p.isMem (p.op == .spawn || p.op == .post)
     let resets := (s.tileAt p.dst).resetting = true
     ((p.aim = none ∧ ¬ resets) ∨ (p.aim ≠ none ∧ fate = .serve) → ∃ t, exec .portPacketArrival s = .next t ∧ t = s.post 0 p.homeEvent { x := id }) ∧
     ((p.aim = none ∧ resets) ∨ (p.aim ≠ none ∧ fate = .hold) → ∃ t, exec .portPacketArrival s = .next t ∧
       (t.tileAt p.dst).heldPkts = (s.tileAt p.dst).heldPkts ++ [id] ∧ t.net = s.net ∧ t.agenda = s.agenda) ∧
     (p.aim ≠ none → ∀ site, fate = .forward site → ∃ t q ev, exec .portPacketArrival s = .next t ∧ t.pkt id = some q ∧ at_ site q ∧
       (s.time, ev, { x := id }) ∈ t.agenda) ∧
     (p.aim ≠ none → fate = .moved → ∃ t, exec .portPacketArrival s = .next t ∧ t.pkt id = some { p with noop := true, arrived := false } ∧
       (s.time, .movedArrival, { x := id }) ∈ t.agenda ∧ SameMemory s t)) ∧
    (¬ (p.isMem = true ∧ p.aclass = some .paged) → p.resend = false →
      (e.state = 1 ∨ e.state = 2 → ∃ t, exec .movedArrival s = .next t ∧ (s.time + 1000, .movedReread, { x := id, y := e.gen }) ∈ t.agenda ∧ t.net = s.net) ∧
      (e.state = 0 → p.roleOk e.role = true → ∃ t q ev, exec .movedArrival s = .next t ∧ t.pkt id = some q ∧ at_ e.site q ∧ q.resend = true ∧
        (s.time, ev, { x := id }) ∈ t.agenda)) ∧
    (e.gen = s.ev.y → (e.state = 1 ∨ e.state = 2) → ∃ t, exec .movedReread s = .next t ∧ (s.time + 1000, .movedReread, s.ev) ∈ t.agenda ∧ t.net = s.net) ∧
    (e.state = 0 → p.roleOk e.role = true → ∃ t q ev, exec .movedReread s = .next t ∧ t.pkt id = some q ∧ at_ e.site q ∧ q.resend = true ∧
      (s.time, ev, { x := id }) ∈ t.agenda) ∧
    (let h := (s.header p).set s.ev.y s.ev.val
     (beatBad h = true → ∃ t, exec .malformedHeaderDrop s = .next t ∧ t.pkt id = none ∧ t.ctxs = s.ctxs) ∧
     (beatBad h = false → ∃ t, exec .malformedHeaderDrop s = .next t ∧ t = s)) ∧
    (let k := 8 * p.dst + p.unit
     let c := s.coreAt k
     let ch := s.chanOf k p.region p.ltile p.ch
     p.ltile < s.rmLen p.region → s.hasSite p.region p.ltile = true → s.mayGo p = true →
     s.portFate p.dst p.region p.ltile false (p.op == .spawn || p.op == .post) = .serve →
     (∀ e sl, e ∈ [Instr.sendArrival, .kickArrival, .recordArrival] → p.unit < 8 → c.chSize ≠ 0 → c.inbox = [] → c.slotFree p.ctl = some sl →
       ch.valid = true → ch.stage = false → ch.blocked = true → s.freedOf (colOfSite p.dst) = none →
       ∃ t d, exec e s = .next t ∧ (t.coreAt k).inbox = [d] ∧ d.slot = sl ∧ d.channel = p.ch ∧ d.arg1 = p.arg1 ∧ d.arg2 = p.arg2 ∧ d.taken = false ∧
         d.record = p.record ∧ Written s t (s.scratchHome p.region p.ltile (k % 8) (c.slotOff sl)) p.data ∧ (t.coreAt k).msgRecv = c.msgRecv + 1 ∧
         t.pkt id = none ∧ t.ctxs = s.ctxs) ∧
     (let r := (s.testSpawn k p).2
      let task := fun (t : State) => ∃ y ∈ (t.coreAt k).rq, y.entry = blockWord p.data 0 ∧ y.arg1 = blockWord p.data 1 ∧ y.arg2 = blockWord p.data 2 ∧
        y.region = p.region ∧ y.ltile = p.ltile ∧ y.st = .queued
      (∃ t q, exec .spawnArrival s = .next t ∧ t.pkt id = some q ∧ q.op = .response ∧ q.data = leBytes 8 r ∧
        (s.time + s.delays.headD 0, .responseArrival, { x := id }) ∈ t.agenda ∧ (r = 0 → task t)) ∧
      ∃ t, exec .postArrival s = .next t ∧ (r = 0 → t.pkt id = none ∧ task t))) ∧
    (let k := 8 * p.dst + p.unit
     let c := s.coreAt k
     let used := (c.inbox.filter fun d => d.ctl).length + c.credits
     s.mayGo p = true →
     (c.chSize ≠ 0 → used < 2 → ∃ t q, exec .ctlCreditRequest s = .next t ∧ (t.coreAt k).credits = c.credits + 1 ∧ t.pkt id = some q ∧ q.op = .send ∧
       (s.time, .sendArrival, { x := id }) ∈ t.agenda) ∧
     (c.chSize ≠ 0 → 2 ≤ used → c.creditReqs.length < 64 → ∃ t, exec .ctlCreditRequest s = .next t ∧ (t.coreAt k).creditReqs = c.creditReqs ++ [id]) ∧
     (c.chSize ≠ 0 → 2 ≤ used → 64 ≤ c.creditReqs.length → ∃ t, exec .ctlCreditRequest s = .next t ∧
       (s.time + 1000, .ctlCreditRetry, { x := id }) ∈ t.agenda)) ∧
    ∃ t q, exec .ctlCreditRetry s = .next t ∧ t.pkt id = some q ∧ q.op = .credit ∧ (s.time, .ctlCreditRequest, { x := id }) ∈ t.agenda) ∧
  ∀ (s s1 : State) (a r : Word) (pr : BitVec 2) (rest : List (Word × Word × BitVec 2)) (o : Offer),
    let k := s.ev.x
    (s.coreAt k).readyHeld = false → (s.coreAt k).ready = (a, r, pr) :: rest → s.codeletOffer a r pr = some o →
    (s.admitTask k o = (s1, 0) → ∃ t, exec .readyRingOffer s = .next t ∧ (t.coreAt k).ready = (s.coreAt k).popReady.ready ∧
      ∃ y ∈ (t.coreAt k).rq, y.entry = o.entry ∧ y.arg1 = o.arg1 ∧ y.arg2 = o.arg2 ∧ y.region = r ∧ y.cls = o.cls) ∧
    (∀ n, s.admitTask k o = (s1, n) → (n = 1 ∨ n = 2 ∨ n = 4) → ∃ t, exec .readyRingOffer s = .next t ∧ (t.coreAt k).readyHeld = true ∧
      (t.coreAt k).ready = (a, r, pr) :: rest)

/-- Tile-walk jobs queue, take permits, end and complete; loaders emit, storers store; stages start record tasks, pass records on, and act on splices. (R229, R304, R308, R309, R310, R311, R312, R313, R314, R315, R316, spec/18_pipelines_and_splices.md) -/
def Obligations.PipelinesAndTileWalkJobs : Prop :=
  (∀ (s : State) (p : Packet), s.pkt s.ev.x = some p → s.mayGo p = true →
    let e := s.rmEntry p.region p.ltile
    e.state ≠ 2 → e.state ≠ 3 → e.site = p.dst →
    let site := p.dst
    let t0 := s.tileAt site
    let l := (List.range 12).map (blockWord p.data)
    let pipe := bits p.arg1 16 16
    let loader := decide (pipe ≠ 0) && decide (bits p.arg1 0 16 = 0)
    let key := p.region.toNat * 2 ^ 16 + pipe
    (∀ q, twCheck l loader = some q → ∃ t y, exec .twpostJobArrival s = .next t ∧ t.pkt p.id = some y ∧ y.op = .errResponse ∧ y.cause = 9 ∧
      y.arg1 = layoutVal q ∧ t.tiles = s.tiles) ∧
    (twCheck l loader = none → (t0.tw.filter fun j => j.st == .queued && !j.ended).length < 8 →
      ∃ t y j, exec .twpostJobArrival s = .next t ∧ (t.tileAt site).tw = t0.tw ++ [j] ∧ j.ticket = t0.twNext.toNat ∧ j.loader = loader ∧ j.pipe = pipe ∧
        j.layout = l ∧ j.region = p.region ∧ j.ctx = p.src ∧ j.ended = false ∧ (t.tileAt site).twNext = t0.twNext + 1 ∧ t.pkt p.id = some y ∧
        y.op = .response ∧ y.data = leBytes 8 j.ticket) ∧
    (∃ t, exec .twpostPermitArrival s = .next t ∧ t.pkt p.id = none ∧
      tget (t.tileAt site).permits key 0 = min (2 ^ 32 - 1) (tget t0.permits key 0 + bits p.arg1 0 16)) ∧
    ((t0.tw.map (·.ticket)).Nodup → ∃ t, exec .twpostEndArrival s = .next t ∧ t.pkt p.id = none ∧
      (∀ j ∈ t0.tw, j.pipe = pipe → j.region = p.region → j.ended = false →
        ∃ y ∈ (t.tileAt site).tw, y.ticket = j.ticket ∧ y.ended = true ∧ y.status = 1) ∧
      ((∃ j ∈ t0.tw, j.pipe = pipe ∧ j.region = p.region ∧ j.ended = false) → tget (t.tileAt site).permits key 0 = 0))) ∧
  (∀ (s s1 : State) (j : TwJob),
    let site := s.ev.x
    let key := j.region.toNat * 2 ^ 16 + j.pipe
    let same := fun (y : TwJob) => y.ticket == j.ticket && y.owner == j.owner && y.ctx == j.ctx
    let n := recPer j.layout
    (((s.tileAt site).tw.find? fun y => y.ticket == s.ev.z && y.ended && y.st != .paused) = some j → s.putCword (j.walker site) j.layout
        (completion j.count j.ticket j.cause.toNat j.status) = (s1, some none) →
      ∃ t, exec .tileWalkJobComplete s = .next t ∧ (t.tileAt site).tw = (s1.tileAt site).tw.erase j) ∧
    ((s.tileAt site).twCurrent = some j → j.ticket = s.ev.z → j.st ≠ .paused → j.halted = false →
      (j.pipe = 0 → ∀ a,
        s.walkElems (j.walker site) j.layout walkChunk { pos := j.pos, count := j.count, flags := 0 } = (s1, a, .more) →
        ∃ t, exec .tileWalkJobComplete s = .next t ∧
          (t.tileAt site).tw = modFirst same (fun _ => { j with pos := a.pos, count := a.count, st := .running }) (s1.tileAt site).tw) ∧
      (j.pipe ≠ 0 → j.loader = true → tget (s.tileAt site).permits key 0 ≠ 0 → ∀ x, s.loadSlice (j.walker site) j.layout n (j.seq * n) = (s1, .ok x) →
        bits j.head 32 14 < s1.rmLen j.region → s1.hasSite j.region (bits j.head 32 14) = true →
        ∃ t p, exec .loaderEmitRecord s = .next t ∧ t.net = s1.net ++ [p] ∧ p.op = .record ∧ p.record = 1 ∧
          p.dst = (s1.rmEntry j.region (bits j.head 32 14)).site ∧ p.unit = bits j.head 29 3 ∧ p.ch = bits j.head 10 6 ∧
          p.data.drop 16 = leBytes (recBytes j.layout) x ∧ bits p.arg2 32 32 = j.seq % 2 ^ 32 ∧
          (j.gen < 256 → recBytes j.layout ≤ 1008 → bits p.arg1 48 16 = j.pipe % 2 ^ 16) ∧
          tget (t.tileAt site).permits key 0 = tget (s1.tileAt site).permits key 0 - 1) ∧
      (j.pipe ≠ 0 → j.loader = false → ∀ r cnt, j.pick = some r → bits r.1 38 2 = 0 → j.seq < recRecords j.layout →
        s.storeSlice (j.walker site) j.layout r.2.2.1 (j.seq * n) n 0 0 = (s1, .ok cnt) → j.seq + 1 < recRecords j.layout →
        ∃ t, exec .storerTakeRecord s = .next t ∧ t.mem = s1.mem ∧
          (t.tileAt site).tw = modFirst same (fun _ => { j with recs := j.recs.erase r, seq := j.seq + 1, count := j.count + cnt, st := .running })
            (s1.tileAt site).tw))) ∧
  ∀ (s s1 : State) (x : Delivery),
    let g := s.evStage
    let d := s.stDesc g
    let nx := bits d.w1 32 14
    let sent := fun (t : State) (a : State) (f : Packet → Prop) => ∃ p, p ∈ t.net ∧ p.id = a.nextPkt ∧ p.op = .record ∧
      p.dst = (a.rmEntry g.region nx).site ∧ p.unit = (if d.toEng then 10 else bits d.w1 29 3) ∧ p.ch = bits d.w1 10 6 ∧ f p
    s.stPick g = some x → s.stageOff g = none →
    (x.record = 1 → d.mode = 0 → s.admitRecord g.k (s.recordOffer g d x x.arg1) = (s1, 0) →
      ∃ t, exec .stageTakeData s = .next t ∧ (t.stChan g).blocked = true ∧ (t.stChan g).handler = (s1.stChan g).handler ∧
        (t.coreAt g.k).rq = (s1.coreAt g.k).rq) ∧
    (d.mode = 1 → x.record = 1 → nx < s.rmLen g.region → s.hasSite g.region nx = true →
      let a := s.putStage (d.setLast (recSeq x))
      a.rmEntry g.region nx = s.rmEntry g.region nx → ∃ t, exec .passThroughForward s = .next t ∧
        sent t a fun p => p.record = 1 + bits x.arg1 38 2 ∧ bits p.arg1 40 8 = d.gen ∧ p.data.drop 16 = s.recPayload g.k x) ∧
    (x.record = 3 → d.mode = 0 → nx < s.rmLen g.region → s.hasSite g.region nx = true → ∃ t, exec .stageTakeAbort s = .next t ∧
      sent t s fun p => bits p.arg1 40 8 = d.gen ∧ p.data.drop 16 = s.recPayload g.k x) ∧
    (x.record = 2 → x.mark = 0 →
      let p := spliceOf (s.recPayload g.k x)
      let gen := (d.gen + 1) % 256
      nx < s.rmLen g.region → s.hasSite g.region nx = true →
      (g.named p.target = false →
        let a := s.putStage (d.setGen gen)
        a.rmEntry g.region nx = s.rmEntry g.region nx → ∃ t, exec .spliceApply s = .next t ∧
          sent t a fun q => bits q.arg1 40 8 = gen ∧ q.mark = 0 ∧ q.data.drop 16 = s.recPayload g.k x) ∧
      (g.named p.target = true → s.spliceBad g.region p d = false → p.action = 3 →
        let a := s.putStage { d.setGen gen with handler := p.arg }
        a.rmEntry g.region nx = s.rmEntry g.region nx → ∃ t, exec .spliceApply s = .next t ∧
          sent t a fun q => bits q.arg1 40 8 = gen ∧ q.mark = 1 ∧ q.data.drop 16 = s.recPayload g.k x))

/-- The matrix engine joins, starts, commits, zeroes and drains its operations, panels are saved and restored, and copy jobs run, stop and complete. (R68, R168, R172, R173, R174, R177, R178, R179, R183, R224, R229, spec/10_matrix_engine.md) -/
def Obligations.EngineWorkSteps : Prop :=
  (∀ (s : State) (m0 : Joined) (ms : List Joined), s.joined s.ev.x = m0 :: ms →
    let site := s.ev.x
    let m := s.mx site
    let f := mxFields m0.instr
    let js := m0 :: ms
    (s.mxMismatch js ≠ 0 → ∃ t, exec .mxJoin s = .next t ∧ ∀ q ∈ js, (t.ctxAt q.ctx).trap.cause = cGANG ∧
      (t.ctxAt q.ctx).trap.val = BitVec.ofNat 64 (s.mxMismatch js)) ∧
    (s.mxMismatch js = 0 → s.panelBusy site = false → s.tilePending js = false → m.region = (s.ctxAt m0.ctx).region → m.qlen < 4 →
      (pairOk f.2.2.2 m.fmt = false ∨ 2 ^ 20 < m.k.toNat →
        ∃ t, exec .mxJoin s = .next t ∧ ∀ q ∈ js, (t.ctxAt q.ctx).trap.cause = cILLEGAL ∧ (t.ctxAt q.ctx).trap.val = q.grp.wpc) ∧
      (∀ b, pairOk f.2.2.2 m.fmt = true → m.k.toNat ≤ 2 ^ 20 → m.badBase = some b →
        ∃ t, exec .mxJoin s = .next t ∧ ∀ q ∈ js, (t.ctxAt q.ctx).trap.cause = cALIGN ∧ (t.ctxAt q.ctx).trap.val = b)) ∧
    (s.mxMismatch js = 0 → s.panelBusy site = false → s.tilePending js = false → m.region = (s.ctxAt m0.ctx).region → m.qlen < 4 →
      pairOk f.2.2.2 m.fmt = true → m.k.toNat ≤ 2 ^ 20 → m.badBase = none →
      ∃ t o, exec .mxJoin s = .next t ∧ (t.mx site).ops = m.ops ++ [o] ∧ o.kind = (if f.2.2.2 then .mgot else .mgo) ∧ o.panel = f.2.1 ∧
        o.acc = decide (f.1 = 1) ∧ o.abase = m.abase ∧ o.astride = m.astride ∧ o.bbase = m.bbase ∧ o.bstride = m.bstride ∧ o.k = m.k.toNat ∧
        o.fmt = m.fmt ∧ o.row = 0 ∧ o.st = .queued ∧ (t.mx site).row = 0 ∧ SameMemory s t ∧
        ∀ q ∈ js, (t.ctxAt q.ctx).st = .issuing ∧ (t.ctxAt q.ctx).wait = none ∧ (t.ctxAt q.ctx).g = (s.ctxAt q.ctx).g)) ∧
  (∀ (s s1 : State) (o : MxOp),
    let site := s.ev.x
    let m := s.mx site
    let ks := groupKs o o.row
    (startable [] m.ops = some o → ∃ t, exec .mxOpStart s = .next t ∧ t.op site o.num = some { o with st := .running } ∧
      (s.time, o.event, { x := site, y := o.num }) ∈ t.agenda) ∧
    (s.op site s.ev.y = some o → o.goes = true →
      (∃ t, exec .mzeroStart s = .next t ∧ t.op site o.num = none ∧ SameMemory s t ∧ ∀ i, tget (t.mx site).acc i 0 =
        if 256 * o.panel + 32 * o.core ≤ i ∧ i < 256 * o.panel + 32 * o.core + 32 then 0 else tget m.acc i 0) ∧
      (∀ av bv, s.mxFetch site o ks = (s1, .vals av, .vals bv) → o.consumed = false →
        let xs := (s1.mx site).group o ks av bv
        (o.hasRow = true → o.row + 1 < o.groups → ∃ t, exec .mxGroupCommit s = .next t ∧ t.mem = s1.mem ∧ (t.mx site).row = BitVec.ofNat 32 (o.row + 1) ∧
          (∀ e, e < 256 → (t.mx site).elem o.panel (e / 16) (e % 16) = (xs.getD e (0, 0)).1) ∧
          (∀ i, (i < 256 * o.panel ∨ 256 * o.panel + 256 ≤ i) → tget (t.mx site).acc i 0 = tget (s1.mx site).acc i 0) ∧
          (s1.time + 1, .mxGroupCommit, { x := site, y := o.num }) ∈ t.agenda) ∧
        (o.row < o.groups → ∃ t, exec .mxOperandsConsumed s = .next t ∧
          (t.mx site).ops = modFirst (fun y => y.num == o.num) (fun _ => { o with consumed := true, final := xs.map (·.1), flags := xs.foldl (fun acc p => acc ||| p.2) 0, homeWait := false })
            (s1.mx site).ops ∧ (s1.time, .mxGroupCommit, { x := site, y := o.num }) ∈ t.agenda)) ∧
      (o.consumed = false → o.row + 1 = o.groups → ∃ t, exec .mxGroupCommit s = .next t ∧ SameMemory s t ∧ t.tiles = s.tiles ∧
        (s.time, .mxOperandsConsumed, { x := site, y := o.num }) ∈ t.agenda) ∧
      ((o.groups = 0 ∨ o.consumed = true ∧ o.groups ≤ o.row) → o.panel < 4 → ∃ t, exec .mxGroupCommit s = .next t ∧ t.op site o.num = none ∧
        bit (t.mx site).typ o.panel = pairInt o.fmt ∧ ∀ e, e < 256 → (t.mx site).elem o.panel (e / 16) (e % 16) =
          if o.groups = 0 then m.before o (e / 16) (e % 16) else m.elem o.panel (e / 16) (e % 16)) ∧
      (o.groups ≤ o.row → ∃ t, exec .mxOperandsConsumed s = .next t ∧ t.op site o.num = some { o with consumed := true, homeWait := false } ∧
        (s.time, .mxGroupCommit, { x := site, y := o.num }) ∈ t.agenda) ∧
      (o.consumed = true → o.row < o.groups → o.final.length = 256 → o.panel < 4 → ∃ t, exec .mxGroupCommit s = .next t ∧ t.op site o.num = none ∧
        (∀ e, e < 256 → (t.mx site).elem o.panel (e / 16) (e % 16) = o.final.getD e 0) ∧ bit (t.mx site).typ o.panel = pairInt o.fmt) ∧
      (s.drainFrom site o (drainWho site o) (bit m.typ o.panel) 256 0 = (s1, none, false) →
        ∃ t, exec .mdrainStart s = .next t ∧ t.mem = s1.mem ∧ (s1.time, .drainComplete, { x := site, y := o.num }) ∈ t.agenda)) ∧
    (s.op site s.ev.y = some o → ∃ t, exec .drainComplete s = .next t ∧ t.op site o.num = none ∧ (o.wake = true → ∃ p ∈ t.net, p.id = s.nextPkt ∧
      p.op = .send ∧ p.dst = (s.rmEntry o.region (bits o.dest 32 14)).site ∧ p.unit = bits o.dest 29 3 ∧ p.ch = o.ch ∧ p.arg1 = o.stride ∧ p.arg2 = o.dest))) ∧
  (∀ s : State,
    let site := s.ev.x
    let t0 := s.tileAt site
    let r := BitVec.ofNat 64 s.ev.y
    let mine := t0.mx.ops.filter (s.ofGang site r s.ev.z)
    ((mine.any fun o => o.kind == .mdrain && o.st == .running) = false → ∃ t, exec .gangPanelSave s = .next t ∧
      ((t.tileAt site).gangSaves.find? fun g => g.1 == s.ev.w) = some (s.ev.w, t0.mx.saved r mine) ∧
      (t.mx site).ops = t0.mx.ops.filter fun o => !s.ofGang site r s.ev.z o) ∧
    (∀ g, (t0.gangSaves.find? fun g => g.1 == s.ev.w) = some g → s.saveDue site s.ev.w = false → t0.mx.ops = [] → ∃ t, exec .gangPanelRestore s = .next t ∧ (t.mx site).acc = g.2.acc ∧
      (t.mx site).abase = g.2.abase ∧ (t.mx site).fmt = g.2.fmt ∧ (t.mx site).ops.map (·.num) = g.2.ops.map (·.num) ∧
      ((t.tileAt site).gangSaves.find? fun g => g.1 == s.ev.w) = none) ∧
    ((s.ev.flag = false → t0.mx.region ≠ r → t0.mx.ops = [] → ∃ t, exec .engineRegionZero s = .next t ∧
       t.mx site = { typ := t0.mx.typ, next := t0.mx.next, region := r }) ∧
     (s.ev.flag = true → t0.cp.region ≠ r → (t0.cp.jobs.any fun j => !j.ended) = false → ∃ t, exec .engineRegionZero s = .next t ∧
       t.cp site = { done := t0.cp.done, next := t0.cp.next, jobs := t0.cp.jobs, region := r }))) ∧
  ∀ (s s1 : State) (j : CpJob),
    let site := s.ev.x
    let c := s.cp site
    let w : Walker := { site := site, region := j.region, ltile := j.ltile, holder := 8, agent := 2, src := j.ctx }
    ((c.running = some j ∧ j.st = .running ∧ j.cancel = false ∨ c.running = none ∧ (c.jobs.any fun j => j.ended) = false ∧ c.jobs.head? = some j) →
      j.halted = false → ∀ a, s.walkElems w j.layout walkChunk { pos := j.pos, count := j.count, flags := 0 } = (s1, a, .more) →
      ∃ t, exec .copyJobStart s = .next t ∧ t.mem = s1.mem ∧ (t.cp site).jobs =
        modFirst (fun x => x.ticket == j.ticket) (fun _ => { j with pos := a.pos, count := a.count, st := .running, homeWait := false }) (s1.cp site).jobs) ∧
    (c.running = some j → j.cancel = true → ∃ t, exec .copyCancelStop s = .next t ∧ t.ctxs = s.ctxs ∧
      (∃ k, t.job site j.ticket = some k ∧ k.ended = true ∧ k.status = 1) ∧ (s.time, .copyJobComplete, { x := site, y := j.ticket }) ∈ t.agenda) ∧
    (s.job site s.ev.y = some j → j.ended = true → j.st ≠ .paused → s.putCword w j.layout (completion j.count j.ticket j.cause.toNat j.status) = (s1, some none) →
      ∃ t, exec .copyJobComplete s = .next t ∧ (t.cp site).done = BitVec.ofNat 16 j.ticket ∧ t.job site j.ticket = none ∧
        (bit j.job 31 = true → ∃ p ∈ t.net, p.id = s1.nextPkt ∧ p.op = .send ∧ p.dst = site ∧ p.unit = j.core ∧ p.ch = bits j.job 24 6 ∧
          p.arg1 = BitVec.ofNat 64 (bits j.job 32 32) ∧ p.arg2 = BitVec.ofNat 64 j.ticket))

/-- Dispatch starts, restores, holds or preempts; gangs start together; stop requests stop and save; refills; an empty engine budget pauses; the watchdog stops. (R65, R66, R280, R282, R284, R285, R286, R287, R415, R420, R421, spec/16_run_queues_and_deadlines.md) -/
def Obligations.DispatchAndStops : Prop :=
  (∀ s : State,
    let k := s.ev.x
    (∀ c, s.freeCtx k = some c →
      let x := s.ctxAt c
      (s.firstEntry k = none → exec .dispatch s = .next s) ∧
      ∀ e, s.firstEntry k = some e →
        let wiped := if x.prevRegion = some e.region then 0 else 8
        let left := fun (y : Ctx) r => y.rg r = if x.prevRegion = some e.region then x.rg r else 0
        (e.gang = true → ∃ t, exec .dispatch s = .next t ∧ tfind (t.tileAt (siteOfCore k)).gangHold (k % 8) = some c ∧ t.ctxs = s.ctxs ∧
          SameMemory s t ∧ (s.time, .gangStart, { x := siteOfCore k }) ∈ t.agenda ∧ (s.time, .dispatch, { x := k }) ∈ t.agenda) ∧
        (e.gang = false → ∃ t, exec .dispatch s = .next t ∧ (∀ i, i ≠ c → t.ctxAt i = s.ctxAt i) ∧ (s.time, .dispatch, { x := k }) ∈ t.agenda ∧
          let y := t.ctxAt c
          let a := globalPhys e.save
          let w := fun i => s.readWord (a + 8 * i)
          y.st = .issuing ∧ y.cls = e.cls ∧ y.slot = some e.slot ∧ y.wait = none ∧
          (e.started = false → SameMemory s t ∧ (∀ r, r < 32 → r ∉ [1, 2, 3, 4, 30] → left y r) ∧ y.pc = e.entry ∧ y.rg 1 = e.arg1 ∧ y.rg 2 = e.arg2 ∧
            y.rg 3 = e.msg ∧ y.rg 4 = e.info ∧ y.rg 30 = e.stack ∧ y.priv = 0 ∧ y.deadline = e.deadline ∧ y.region = e.region ∧ y.taskinfo = e.info ∧
            y.vgrant = 2 ∧ y.dirty = 0 ∧ y.trapen = 0 ∧ y.rm = 0 ∧ y.fpflags = 0 ∧ y.vflags0 = 0 ∧ y.vflags1 = 0 ∧ y.inTrap = false ∧ y.rep = {} ∧
            y.budgetRem = (if wiped = 0 then e.rem else BitVec.ofNat 64 (e.rem.toNat - 8)) ∧ y.taskCyc = BitVec.ofNat 64 wiped) ∧
          (e.started = true → Written s t (a + 0x68) (leBytes 8 0) ∧
            (∀ r, r < 32 → r ∉ [1, 2, 3, 4, 30] → (r = 0 ∨ bit (w 11) (r - 1) = false) → left y r) ∧
            y.pc = w 0 ∧ y.priv = (if bits (w 1) 4 2 = 3 then 2 else BitVec.ofNat 2 (bits (w 1) 4 2)) ∧ y.inTrap = bit (w 1) 2 ∧ y.trap = trapRegsOf (w 2) (w 3) (w 4) (w 5) ∧
            y.deadline = w 8 ∧ y.region = w 9 ∧ y.taskinfo = setField (w 10 &&& infoMask) 32 14 e.ltile ∧
            (∀ r, 0 < r → r < 32 → bit (w 11) (r - 1) = true → y.rg r = s.readWord (a + 0x100 + 8 * r)) ∧
            (∀ j, j < 32 → bit y.dirty (31 + j) = true → y.rv j = BitVec.ofNat 512 (s.readNat (a + 0x400 + 64 * j) 64)) ∧
            (∀ m, 0 < m → m < 8 → bit y.dirty (62 + m) = true → y.rmk m = s.readWord (a + 0x200 + 8 * m)) ∧
            y.dirty.toNat = (w 11).toNat + (w 12).toNat % 256 * 2 ^ 64 ∧
            (if bit y.dirty 70 then y.fpflags = (w 21).setWidth 6 ∧ y.vflags0 = w 22 &&& vflagMask ∧ y.vflags1 = w 23 &&& vflagMask
             else y.trapen = 0 ∧ y.rm = 0 ∧ y.fpflags = 0 ∧ y.vflags0 = 0 ∧ y.vflags1 = 0)))) ∧
    (s.freeCtx k = none →
      let asks := fun (t : State) v (y z : Nat) => ∀ m, (if (s.ctxAt v).gang then m ∈ s.members (siteOfCtx v) else m = v) →
        s.claimed m = false → (s.time, .stopRequest, { x := m, y := y, z := z }) ∈ t.agenda
      let stopped := (rangeFrom (4 * k) 4).find? fun c => (s.ctxAt c).st == .stopped && (s.ctxAt c).slot.isSome && !s.claimed c
      let es := inKeyOrder ((s.coreAt k).rq.filter (s.toDecide k))
      ∃ t, exec .dispatch s = .next t ∧ t.ctxs = s.ctxs ∧ SameMemory s t ∧
        (∀ c, stopped = some c → (s.firstEntry k = none → t = s) ∧ ∀ e, s.firstEntry k = some e → asks t c 3 e.task) ∧
        (stopped = none → (t.coreAt k).rq = ((s.coreAt k).rq.map fun e => if s.toDecide k e then { e with undecided := false } else e) ∧
          (∀ e r v, es = e :: r → s.victim k = some v → preempts e (s.ctxAt v) = true → asks t v 0 e.task) ∧
          ((s.victim k = none ∨ ∃ v, s.victim k = some v ∧ ∀ e ∈ es, preempts e (s.ctxAt v) = false) → t.agenda = s.agenda)))) ∧
  (∀ s : State,
    let site := s.ev.x
    let t0 := s.tileAt site
    (t0.gangHold = [] → exec .gangStart s = .next s) ∧
    (∀ k c r, t0.gangHold = (k, c) :: r →
      (s.firstGang (8 * site + k) = none → ∃ t, exec .gangStart s = .next t ∧ (t.tileAt site).gangHold = [] ∧ t.ctxs = s.ctxs ∧ SameMemory s t ∧
        ∀ i ∈ coresOf site, (s.time, .dispatch, { x := i }) ∈ t.agenda) ∧
      ∀ g, s.firstGang (8 * site + k) = some g →
        let es := s.gangEntries site g.gangId
        if t0.gangLive.isNone && es.all fun p => thas t0.gangHold (p.1 % 8) then
          (∀ p ∈ es, ∀ c, tfind t0.gangHold (p.1 % 8) = some c → coreOfCtx c = p.1) → ∃ t, exec .gangStart s = .next t ∧
            (t.tileAt site).gangHold = [] ∧ (∃ live, (t.tileAt site).gangLive = some (g.region, g.ltile, live)) ∧
            (s.hasSave site g.gangId = true →
              (s.time, .gangPanelRestore, { x := site, y := g.region.toNat, z := g.ltile, w := g.gangId }) ∈ t.agenda) ∧
            ∀ p ∈ es, ∀ c, tfind t0.gangHold (p.1 % 8) = some c →
              let y := t.ctxAt c
              y.st = .issuing ∧ y.slot = some p.2.slot ∧ y.cls = p.2.cls ∧
              (p.2.started = false → y.pc = p.2.entry ∧ y.rg 1 = p.2.arg1 ∧ y.rg 2 = p.2.arg2 ∧ y.rg 3 = p.2.msg ∧ y.rg 4 = p.2.info ∧ y.priv = 0)
        else exec .gangStart s = .next s) ∧
    (let c := s.ev.x
     let x := s.ctxAt c
     let g := s.tileAt (siteOfCtx c)
     let panel := fun (t : State) => ∀ r l live, x.gang = true → g.gangLive = some (r, l, live) → (g.gangSaves.any fun q => q.1 == g.gangNow) = false →
       (∃ p ∈ t.agenda, p.2.1 = .gangPanelSave ∧ p.2.2.x = siteOfCtx c ∧ p.2.2.w = g.gangNow)
     ((x.st = .free ∨ x.saving = true) → exec .stopRequest s = .next s) ∧
     (x.st ≠ .free → x.saving = false →
       (s.ev.y = 1 → x.st = .stopped → exec .stopRequest s = .next s) ∧
       (s.ev.y = 1 → x.st ≠ .stopped → ∃ t, exec .stopRequest s = .next t ∧ t.ctxAt c = { x with st := .stopped, wait := none, fetchWait := false } ∧
         (∀ i, i ≠ c → t.ctxAt i = s.ctxAt i) ∧ SameMemory s t ∧ (x.slot ≠ none → panel t) ∧
         (s.time, .stopRecordWrite, { x := coreOfCtx c, y := (s.regionAt x.region).fdom }) ∈ t.agenda) ∧
       (s.ev.y ≠ 1 → x.slot = none → exec .stopRequest s = .next s) ∧
       (s.ev.y ≠ 1 → x.slot ≠ none → ∃ t, exec .stopRequest s = .next t ∧ t.ctxAt c = { x with st := .stalled, wait := none, fetchWait := false, saving := true } ∧
         (∀ i, i ≠ c → t.ctxAt i = s.ctxAt i) ∧ SameMemory s t ∧ panel t ∧
         (s.time, .contextSaveDone, { x := c, y := if x.st = .stopped then 3 else s.ev.y, z := s.ev.z }) ∈ t.agenda))) ∧
    (let c := s.ev.x
     let x := s.ctxAt c
     let k := coreOfCtx c
     ((x.slot.bind (s.entryAt k) = none ∨ x.saving = false) → exec .contextSaveDone s = .next s) ∧
     ∀ e, x.slot.bind (s.entryAt k) = some e → x.saving = true →
       let a := globalPhys e.save
       let late := x.held.filter fun h => h.area
       ∃ s1 : State, exec .contextSaveDone s = .next ((s1.chargeCause k x.copyCycles s.ev.z).kickCore k) ∧
         (∀ i, i < 13 → s1.readWord (a + 8 * i) = x.saveWords.getD i 0) ∧ (late = [] → s1.readWord (a + 0x68) = 0) ∧
         (∀ h, late = [h] → s1.readWord (a + 0x68) = mkWord [(63, 1), (0, h.cause.toNat)] ∧ s1.readWord (a + 0x70) = h.val ∧
           s1.readWord (a + 0x78) = h.pc.getD x.pc) ∧
         (∀ r, 0 < r → r < 32 → s1.readWord (a + 0x100 + 8 * r) = if bit x.dirty (r - 1) then x.rg r else s.readWord (a + 0x100 + 8 * r)) ∧
         (∀ j, j < 32 → s1.readNat (a + 0x400 + 64 * j) 64 = if bit x.dirty (31 + j) then (x.rv j).toNat else s.readNat (a + 0x400 + 64 * j) 64) ∧
         (∀ m, 0 < m → m < 8 → s1.readWord (a + 0x200 + 8 * m) = if bit x.dirty (62 + m) then x.rmk m else s.readWord (a + 0x200 + 8 * m)) ∧
         (bit x.dirty 70 = true → s1.readWord (a + 0xA0) = x.rmode ∧ s1.readWord (a + 0xA8) = x.fpflags.setWidth 64 ∧
           s1.readWord (a + 0xB0) = x.vflags0 ∧ s1.readWord (a + 0xB8) = x.vflags1) ∧
         (bit x.dirty 71 = true → s1.readWord (a + 0xC0) = x.rep.word) ∧
         (x.inTrap = true → s1.readWord (a + 0x80) = x.ntrap.cause.setWidth 64 ∧ s1.readWord (a + 0x88) = x.ntrap.pc ∧
           s1.readWord (a + 0x90) = x.ntrap.val ∧ s1.readWord (a + 0x98) = x.ntrap.stat) ∧
         (∀ b, (b < a ∨ a + 3072 ≤ b) → memGet s1.mem b = memGet s.mem b) ∧
         (∃ y, s1.entryAt k e.slot = some y ∧ y.st = .saved ∧ y.ctx = none ∧ y.rem = remOf x.budgetRem ∧ y.deadline = x.deadline ∧ y.cls = x.cls ∧
           y.pend = x.pend ∧ y.held = (x.held.filter fun h => !h.area) ∧
           y.stopped = (decide (s.ev.y = 3) && s.domainStopped (colOfSite (siteOfCtx c)) x.region)) ∧
         (s1.ctxAt c).st = .free ∧ (s1.ctxAt c).prevRegion = some x.region ∧ (∀ i, i ≠ c → s1.ctxAt i = s.ctxAt i) ∧
         (x.gang = true → (s1.tileAt (siteOfCtx c)).gangLive = none) ∧
         (s1.coreAt k).preempts = (if s.ev.y = 0 then (s.coreAt k).preempts + 1 else (s.coreAt k).preempts)) ∧
    (let region := BitVec.ofNat 64 s.ev.y
     let r := s.regionAt region
     let start := s.time / r.periodOf * r.periodOf
     (acctOf t0.accounts region s.ev.z = none → exec .periodRefill s = .next s) ∧
     ∀ a, acctOf t0.accounts region s.ev.z = some a →
       ((r.periodOf = 0 ∨ a.start = start) → exec .periodRefill s = .next s) ∧
       (r.periodOf ≠ 0 → a.start ≠ start → ∃ (s1 : State) (b : Account),
         exec .periodRefill s = .next ((coresOf site).foldl (fun s k => s.kickWhere k (some (region, s.ev.z))) s1) ∧
         acctOf (s1.tileAt site).accounts region s.ev.z = some b ∧ b = { a with cycLeft := r.cycQuota, engLeft := r.engQuota, start := start } ∧
         s1.ctxs = s.ctxs ∧ s1.cores = s.cores ∧ SameMemory s s1 ∧ (start + r.periodOf, .periodRefill, s.ev) ∈ s1.agenda)) ∧
    (let region := BitVec.ofNat 64 s.ev.y
     let r := s.regionAt region
     let n := ((acctOf t0.accounts region s.ev.z).map (·.wdCount)).getD 0
     ∃ t, exec .watchdogFire s = .next t ∧ (s.time, .whistleStop, { x := r.fdom }) ∈ t.agenda ∧ t.ctxs = s.ctxs ∧
       (bits r.supDest 32 14 < s.rmLen r.supOf → ∃ p, t.net = s.net ++ [p] ∧ p.ctl = true ∧ p.arg1 = region ∧
         p.arg2 = mkWord [(32, s.ev.z), (0, n)] ∧ p.len = 0 ∧ p.forced = some (0, none) ∧
         p.dst = (s.rmEntry r.supOf (bits r.supDest 32 14)).site ∧ p.unit = bits r.supDest 29 3 ∧ p.ch = bits r.supDest 10 6))) ∧
  ∀ s : State,
    let site := s.ev.x
    let region := BitVec.ofNat 64 s.ev.y
    (acctOf (s.tileAt site).accounts region s.ev.z = none → exec .engineBudgetExhausted s = .next s) ∧
    ∀ a, acctOf (s.tileAt site).accounts region s.ev.z = some a →
      (a.engLeft ≠ 0 → exec .engineBudgetExhausted s = .next s) ∧
      (a.engLeft = 0 → ((s.mx site).ops.map (·.num)).Nodup → ((s.cp site).jobs.map (·.ticket)).Nodup → ∃ t, exec .engineBudgetExhausted s = .next t ∧
        let told := fun ctx owner (v : Word) => (∀ c, s.ownerNow ctx owner = .live c → ∃ h ∈ (t.ctxAt c).held, h.cause = cENGINE_OVERRUN ∧ h.val = v) ∧
          (∀ k q, s.ownerNow ctx owner = .saved k q → ∃ e ∈ (t.coreAt k).rq, e.task = q ∧ ∃ h ∈ e.held, h.cause = cENGINE_OVERRUN ∧ h.val = v)
        (∀ o ∈ (s.mx site).ops, o.region = region → o.st = .running → told o.ctx o.owner 0 ∧
          if s.ownerNow o.ctx o.owner = .gone then t.op site o.num = none else ∃ y, t.op site o.num = some y ∧ y.st = .paused ∧ y.row = o.row) ∧
        (∀ j ∈ (s.cp site).jobs, j.region = region → j.st = .running → j.ended = false → told j.ctx j.owner 1 ∧
          ∃ y, t.job site j.ticket = some y ∧ if s.ownerNow j.ctx j.owner = .gone then y.ended = true ∧ y.status = 2 else y.st = .paused ∧ y.pos = j.pos) ∧
        (∀ i, ∀ j ∈ (s.tileAt i).tw, j.region = region → siteOfCtx j.ctx = site → j.st = .running → j.ended = false → told j.ctx j.owner 1) ∧
        (∀ o ∈ (s.mx site).ops, o.region ≠ region → o ∈ (t.mx site).ops) ∧ SameMemory s t)

/-- Walks coalesce, wait at a MOVING leaf and answer every request; a domain stops, its cores write their records, and it resumes, with STOPPED or without. (R388, R389, R391, R392, R414, R415, R416, R417, R418, spec/25_traps_stops_preemption.md) -/
def Obligations.WalksAndTheWhistleTree : Prop :=
  (∀ s : State,
    let site := s.ev.x
    let region := BitVec.ofNat 64 s.ev.y
    let page := s.ev.z / 65536
    let col := colOfSite site
    let c := s.colAt col
    ((s.tileAt site).missing region s.ev.z = true → exec .pageWalk s = .next s) ∧
    ((s.tileAt site).missing region s.ev.z = false → (s.tileAt site).misses.length < 32 → ∃ t, exec .pageWalk s = .next t ∧
      (t.tileAt site).misses = (s.tileAt site).misses ++ [(region, page)] ∧ (t.colAt col).walks = c.walks ++ [(site, region, page)] ∧
      ((c.walks.any fun w => w.2.1 == region && w.2.2 == page) = false → c.walkKeys.length < 256 →
        (s.agenda.any fun p => isWalkOf col region page p.2.1 p.2.2) = false →
        (s.time, .walkComplete, { x := site, y := region.toNat, z := 65536 * page }) ∈ t.agenda)) ∧
    (∀ e, e ∈ [Instr.walkComplete, .walkMovingRetry] → ∀ s1 r exp, s.walkAt col region s.ev.z = (s1, r, exp) →
      let answered := fun (t : State) (p : Nat → Bool) => (∀ w ∈ (t.colAt col).walks, ¬ (w.2.1 = region ∧ p w.2.2 = true)) ∧
        ∀ w ∈ c.walks, w.2.1 = region → p w.2.2 = true → ∀ m ∈ (t.tileAt w.1).misses, ¬ (m.1 = region ∧ p m.2 = true)
      let faults := fun (t : State) (q : BitVec 8) => answered t (fun p => p == page) ∧ (∀ i, (t.tileAt i).tlb = (s1.tileAt i).tlb) ∧
        ∀ w ∈ c.walks, w.2.1 = region → w.2.2 = page → ∀ m ∈ (s.tileAt w.1).merged, m.region = region → m.page = page →
          { m with fault := some (m.fault.getD q) } ∈ (t.tileAt w.1).merged
      (∀ l w0 w1, r = .leaf l w0 w1 → nbits w1 10 1 = 1 → exec e s = .next (s1.post 1000 .walkMovingRetry s.ev)) ∧
      (∀ l w0 w1, r = .leaf l w0 w1 → nbits w1 10 1 = 0 → frameOk l w0 2 = true → ∃ t, exec e s = .next t ∧
        answered t (fun p => p * 65536 / ptSize l == s.ev.z / ptSize l) ∧ ∀ w ∈ c.walks, w.2.1 = region → w.2.2 * 65536 / ptSize l = s.ev.z / ptSize l →
          { tlbOfLeaf region s.ev.z l w0 w1 with expiry := exp } ∈ (t.tileAt w.1).tlb) ∧
      (r = .held → exec e s = .next (s1.post 1000 .walkMovingRetry s.ev)) ∧
      (∀ l w0 w1, r = .leaf l w0 w1 → nbits w1 10 1 = 0 → frameOk l w0 2 = false → ∃ t, exec e s = .next t ∧ faults t cPROTECT) ∧
      (∀ q, r = .bad q → ∃ t, exec e s = .next t ∧ faults t q))) ∧
  ∀ s : State,
    let seq := fun (a : State) c d => (tget (a.colAt c).dstat d {}).seq
    let stOf := fun (a : State) c d => (tget (a.colAt c).dstat d {}).st
    let halted := fun (a : State) d b => ∀ site,
      (∀ o ∈ (a.mx site).ops, s.fdomOf o.region = d → o.halted = b ∨ (b = true ∧ (s.tileAt site).gangDrain o = true)) ∧
      (∀ j ∈ (a.cp site).jobs, s.fdomOf j.region = d → j.halted = b) ∧ ∀ j ∈ (a.tileAt site).tw, s.fdomOf j.region = d → j.halted = b
    let stops := fun (t : State) d =>
      (∀ c, c < 9 → seq t c d = seq s c d + 1 ∧ stOf t c d = if (s.domainCores d).isEmpty then 2 else 1) ∧ tget t.owed d [] = s.domainCores d ∧
      (∀ c ∈ s.domainCtxs d, (s.time, .stopRequest, { x := c, y := 1 }) ∈ t.agenda) ∧
      (∀ k ∈ s.domainCores d, (s.time, .stopRecordWrite, { x := k, y := d }) ∈ t.agenda) ∧ halted t d true ∧ t.ctxs = s.ctxs ∧ SameMemory s t
    (stOf s 0 s.ev.x = 0 → ∃ t, exec .whistleStop s = .next t ∧ stops t s.ev.x) ∧
    (stOf s 0 s.ev.x ≠ 0 → ∃ t, exec .whistleStop s = .next t ∧ t = s) ∧
    (let region := BitVec.ofNat 64 s.ev.x
     let cut := ∃ p ∈ s.launches, p.2.region = region ∧ p.2.phase = 1 ∧ p.2.coord ≠ s.module ∧ ∀ c, c < 9 → s.moduleUp c p.2.coord = false
     (cut → stOf s 0 (s.fdomOf region) = 0 → ∃ t, exec .linkLossStop s = .next t ∧ stops t (s.fdomOf region)) ∧
     (¬ cut ∨ stOf s 0 (s.fdomOf region) ≠ 0 → ∃ t, exec .linkLossStop s = .next t ∧ t = s)) ∧
    (let k := s.ev.x
     let d := s.ev.y
     let cores := tget s.owed d []
     let frozen := ∀ i, i < 4 → let x := s.ctxAt (4 * k + i)
       x.st = .free ∨ s.fdomOf x.region ≠ d ∨ (x.st = .stopped ∧ x.saving = false)
     k ∈ cores →
     (¬ frozen → exec .stopRecordWrite s = .next (s.post 1 .stopRecordWrite s.ev)) ∧
     (frozen → ∃ t, exec .stopRecordWrite s = .next t ∧ tget t.owed d [] = cores.filter (· ≠ k) ∧ t.ctxs = s.ctxs ∧
       ((∀ i ∈ cores, i = k) → ∀ c, c < 9 → stOf t c d = 2) ∧
       ((∃ i ∈ cores, i ≠ k) → t.cols = s.cols) ∧
       ∀ r, s.stopRegion k d = some r →
         let b := globalPhys r.stopBase
         let h := s.readWord b
         let a := b + 64 + 64 * (h.toNat % 2 ^ (Nat.min 20 (Nat.max 6 r.stopK)))
         t.readWord b = h + 1 ∧ t.readWord a = mkWord [(32, (seq s 0 d).toNat), (20, d), (16, colOfSite (siteOfCore k)), (10, txOf (siteOfCore k)),
             (4, tyOf (siteOfCore k)), (0, k % 8)] ∧ t.readWord (a + 8) = BitVec.ofNat 64 s.time ∧ t.readWord (a + 16) = (s.coreAt k).msgSent ∧
         t.readWord (a + 24) = (s.coreAt k).msgRecv ∧ ∀ i, i < 4 →
           let x := s.ctxAt (4 * k + i)
           t.readWord (a + 32 + 8 * i) = if x.st ≠ .free ∧ s.fdomOf x.region = d then
             BitVec.ofNat 64 (x.pc.toNat / 4 * 4 + 1) else 0)) ∧
    ∀ e, e ∈ [Instr.whistleResume, .whistleResumeTrap] →
      let d := s.ev.x
      (s.ev.flag = false → stOf s 0 d = 2 → ∃ t, exec e s = .next t ∧ (∀ c, c < 9 → stOf t c d = 3 ∧ seq t c d = seq s c d) ∧
        (s.time, e, { x := d, flag := true }) ∈ t.agenda ∧ t.ctxs = s.ctxs ∧ SameMemory s t) ∧
      (stOf s 0 d ≠ (if s.ev.flag then 3 else 2) → ∃ t, exec e s = .next t ∧ t = s) ∧
      (s.ev.flag = true → stOf s 0 d = 3 → ∃ t, exec e s = .next t ∧ (∀ c, c < 9 → stOf t c d = 0 ∧ seq t c d = seq s c d) ∧ halted t d false ∧
        (∀ c ∈ s.domainCtxs d, (s.ctxAt c).st = .stopped → (s.ctxAt c).saving = false → (t.ctxAt c).st ≠ .stopped ∧ (t.ctxAt c).pc = (s.ctxAt c).pc ∧
          (e = .whistleResumeTrap → ∃ h ∈ (t.ctxAt c).held, h.cause = cSTOPPED ∧ h.val = BitVec.ofNat 64 (seq s 0 d).toNat)) ∧
        ∀ k, ∀ x ∈ (s.coreAt k).rq, x.stopped = true → s.fdomOf x.region = d → ∃ y ∈ (t.coreAt k).rq, y.slot = x.slot ∧ y.stopped = false)

/-- The tier engine pins, moves, commits and demotes pages; protection, clock ratio, failed bits, refetch, poison and spare rows take effect. (R191, R220, R263, R264, R265, R267, R268, R269, R271, R391, R430, spec/15_memory_tiers.md) -/
def Obligations.TierEngineSteps : Prop :=
  (∀ s : State,
    let region := BitVec.ofNat 64 s.ev.x
    let r := s.regionAt region
    let begun := fun (a t : State) (va : Nat) (e : LeafAt) (new : Nat) (up : Bool) => bits (t.readWord (e.at_ + 8)) 10 1 = 1 ∧
      (s.time + (a.tlifeOver region e.frame + 1), .tierMoveCommit, { x := region.toNat, y := va, z := e.frame, w := e.frames, v := new, flag := up, list := (a.moved e).flatMap fun x => [x.at_, x.w0] }) ∈ t.agenda
    let waits := fun (q : Instr × Ev) (l : LeafAt) => l.moving = true ∨ s.tierTurn (s.object l) q = false
    let stays := fun (q : Instr × Ev) (va tier col : Nat) => ∀ l, s.leafOf region va = some l →
      ¬ waits q l ∧ (inTier tier col (65536 * l.frame) = true ∨ tier = 1 ∧ l.level ≠ 0)
    let mayMove := fun (q : Instr × Ev) (tier col : Nat) (l : LeafAt) => ¬ waits q l ∧ inTier tier col (65536 * l.frame) = false ∧ (tier = 1 → l.level = 0)
    let asked := fun (b t : State) (i v : Nat) (e : TierEntry) =>
      let va := e.base.toNat + 65536 * v
      let q : Instr × Ev := (.tierFetchStart, fetchEv region i v e)
      let on := (s.time, Instr.tierFetchStart, fetchEv region i ((s.nextPage region va - e.base.toNat) / 65536) e)
      let again := (s.time + 1000, Instr.tierFetchStart, fetchEv region i v e)
      (stays q va e.tier e.column → t.mem = s.mem ∧ on ∈ t.agenda) ∧
      ∀ l, s.leafOf region va = some l → (waits q l → t.mem = s.mem ∧ again ∈ t.agenda ∧ (s.object l, q) ∈ t.tierQ) ∧
        (mayMove q e.tier e.column l →
          (∀ f, b.findFrames e.column e.tier l.frames = some f → begun b t va l f true ∧ on ∈ t.agenda ∧
            ∀ i, i < l.frames → f + i ∉ (t.colAt e.column).freeFrames) ∧
          (b.findFrames e.column e.tier l.frames = none → t.mem = s.mem ∧ again ∈ t.agenda ∧
            (t.colAt e.column).noRoom = (s.colAt e.column).noRoom + if e.tier = 1 then 1 else 0))
    r.id = region →
    (s.ev.y = 1024 → (r.pfs.find? fun p => p.page == s.ev.z / 65536 && p.done.isNone) = none →
      ∃ t, exec .tierFetchStart s = .next t ∧ t = { s with tierQ := t.tierQ }) ∧
    (∀ p, s.ev.y = 1024 → (r.pfs.find? fun p => p.page == s.ev.z / 65536 && p.done.isNone) = some p → ∃ t, exec .tierFetchStart s = .next t ∧ t.ctxs = s.ctxs ∧
      let fin := t.mem = s.mem ∧ ∀ q ∈ (t.regionAt region).pfs, q.page = s.ev.z / 65536 → q.done ≠ none
      let q : Instr × Ev := (.tierFetchStart, { x := region.toNat, y := 1024, z := s.ev.z })
      (stays q s.ev.z p.tier p.column → fin) ∧
      ∀ l, s.leafOf region s.ev.z = some l →
        (waits q l → t.mem = s.mem ∧ (s.time + 1000, q) ∈ t.agenda ∧ (s.object l, q) ∈ t.tierQ) ∧
        (mayMove q p.tier p.column l → (∀ f, s.findFrames p.column p.tier l.frames = some f → begun s t s.ev.z l f true) ∧
          (s.findFrames p.column p.tier l.frames = none → fin))) ∧
    (s.ev.y ≠ 1024 → s.ev.flag = true →
      (∀ e, r.tiers[s.ev.y]? = some e → e.usable = true → e.key = s.ev.list → s.ev.v < e.len →
        ∃ t, exec .tierFetchStart s = .next t ∧ asked s t s.ev.y s.ev.v e) ∧
      ((∀ e, r.tiers[s.ev.y]? = some e → e.usable = false ∨ e.key ≠ s.ev.list ∨ e.len ≤ s.ev.v) →
        ∃ t, exec .tierFetchStart s = .next t ∧ t = { s with tierQ := t.tierQ })) ∧
    (s.ev.y ≠ 1024 → s.ev.flag = false → (s.dueEntry r = none → exec .tierFetchStart s = .next s) ∧
      ∀ i e, s.dueEntry r = some i → r.tiers[i]? = some e → e.usable = true ∧ e.pinned = false ∧ e.needed - e.lead ≤ s.time ∧ s.time ≤ e.needed + e.hold ∧
        ∃ t, exec .tierFetchStart s = .next t ∧ (∃ y, (t.regionAt region).tiers[i]? = some y ∧ y.pinned = true) ∧
          (e.needed + e.hold + 1, .tierPinExpiry, { x := s.ev.x, y := i }) ∈ t.agenda ∧
          (0 < e.len → asked (s.modTier region i fun e => { e with pinned := true }) t i 0 e)) ∧
    (let past := fun e : TierEntry => e.pinned = true ∧ e.needed + e.hold < s.time
     (∀ e, r.tiers[s.ev.y]? = some e → past e → ∃ t, exec .tierPinExpiry s = .next t ∧ (∃ y, (t.regionAt region).tiers[s.ev.y]? = some y ∧ y.pinned = false) ∧
       t.mem = s.mem ∧ (s.time, .tierEvict, { x := s.ev.x, y := s.ev.y, z := e.base.toNat / 65536, w := e.len, flag := true }) ∈ t.agenda) ∧
     ((∀ e, r.tiers[s.ev.y]? = some e → ¬ past e) → exec .tierPinExpiry s = .next s)) ∧
    (let va := 65536 * (s.ev.z + s.ev.v)
     let a := s.unpinPf region va
     let kept := fun (l : LeafAt) => a.pinnedBy region va = true ∨ a.upQueued (a.object l) = true
     let on := fun (t : State) => (s.time, Instr.tierEvict, { s.ev with v := s.nextPage region va / 65536 - s.ev.z }) ∈ t.agenda
     (s.ev.w ≤ s.ev.v → exec .tierEvict s = .next s) ∧
     (s.ev.v < s.ev.w → ∃ t, exec .tierEvict s = .next t ∧ t.ctxs = s.ctxs ∧
       (s.leafOf region va = none → t.mem = s.mem ∧ on t) ∧
       ∀ l, s.leafOf region va = some l →
         (kept l ∨ ¬ waits (.tierEvict, s.ev) l ∧ s.backOf l.frame = none → t.mem = s.mem ∧ on t) ∧
         (¬ kept l → waits (.tierEvict, s.ev) l → t.mem = s.mem ∧ (s.time + 1000, .tierEvict, s.ev) ∈ t.agenda) ∧
         ∀ b, s.backOf l.frame = some b → ¬ kept l → ¬ waits (.tierEvict, s.ev) l → begun a t va l b.back false ∧ on t)) ∧
    ((entriesOf s.ev.list = [] → exec .tierMoveCommit s = .next s) ∧
     ∀ at_ w0 rest, entriesOf s.ev.list = (at_, w0) :: rest →
      let f := s.ev.z
      let n := s.ev.w
      let v := s.ev.v
      let all := (at_, w0) :: rest
      let apart := all.Pairwise fun p q => p.1 + 16 ≤ q.1 ∨ q.1 + 16 ≤ p.1
      let off := s.readNat at_ 8 ≠ w0 ∨ s.ev.flag = false ∧
        (s.pinnedBy region s.ev.y = true ∨ s.upQueued (s.object { at_ := at_, level := 0, w0 := w0, w1 := 0 }) = true) ∨
        s.cxlDead (65536 * f) = true ∨ s.cxlDead (65536 * v) = true
      let held := s.busyFrames f n = true ∨ s.framesHeld f n = true ∨ s.framesHeld v n = true
      (off → apart → ∃ t, exec .tierMoveCommit s = .next t ∧ (∀ p ∈ all, bits (t.readWord (p.1 + 8)) 10 1 = 0 ∧ t.readNat p.1 8 = s.readNat p.1 8) ∧
        (s.ev.flag = true → ∀ i, i < n → v + i ∈ (t.colAt (v / 2 ^ 28 % 16)).freeFrames)) ∧
      (¬ off → held → exec .tierMoveCommit s = .next (s.post 1000 .tierMoveCommit s.ev)) ∧
      (¬ off → ¬ held → memWf s.mem = true → v < 2 ^ 48 → apart →
        (∀ p ∈ all, p.1 + 16 ≤ 65536 * rawFrame v ∨ 65536 * (rawFrame v + n) ≤ p.1) → ∃ t, exec .tierMoveCommit s = .next t ∧ t.ctxs = s.ctxs ∧
        (∀ i, i < 65536 * n → memGet t.mem (65536 * rawFrame v + i) = memGet s.mem (65536 * rawFrame f + i)) ∧
        (∀ b, (∀ p ∈ all, b < p.1 ∨ p.1 + 16 ≤ b) → (b < 65536 * rawFrame v ∨ 65536 * (rawFrame v + n) ≤ b) → memGet t.mem b = memGet s.mem b) ∧
        (∀ p ∈ all, bits (t.readWord (p.1 + 8)) 10 1 = 0 ∧
          (s.readNat p.1 8 = p.2 → t.readNat p.1 8 = 65536 * v + (nbits p.2 1 15 + 1) % 2 ^ 15 * 2 + 1 ∧ bits (t.readWord (p.1 + 8)) 6 3 = tierOfFrame v) ∧
          (s.readNat p.1 8 ≠ p.2 → t.readNat p.1 8 = s.readNat p.1 8)) ∧
        (s.ev.flag = true → ∃ b ∈ (t.colAt (v / 2 ^ 28 % 16)).backing, b.frame = v ∧ b.n = n ∧ b.back = ((s.backOf f).map (·.back)).getD f) ∧
        (s.backOf f ≠ none → ∀ i, i < n → f + i ∈ (t.colAt (f / 2 ^ 28 % 16)).freeFrames) ∧
        (s.ev.flag = false → s.backOf f ≠ none → ∀ b ∈ (t.colAt (f / 2 ^ 28 % 16)).backing, b.frame ≠ f)))) ∧
  ∀ s : State,
    let col := s.ev.x
    let c := s.colAt col
    (let f := s.ev.y
     let old := tget c.prot f (0, false)
     let was := c.halves (f / 8) f old.1
     let will := c.halves (f / 8) f s.ev.z
     let a := s.gleanAddr col (f / 8)
     let gone := (was.1 = true ∧ will.1 = false ∧ s.mapsInto a 32768 = true) ∨ (was.2 = true ∧ will.2 = false ∧ s.mapsInto (a + 32768) 32768 = true)
     (3 ≤ s.ev.z ∨ 1572864 ≤ f ∨ old.2 = true ∨ gone → exec .protWrite s = .next s) ∧
     (s.ev.z < 3 → f < 1572864 → old.2 = false → ¬ gone → ∃ t, exec .protWrite s = .next t ∧ tget (t.colAt col).prot f (0, false) = (old.1, true) ∧
       (s.time + 40000, .protChangeDone, s.ev) ∈ t.agenda ∧ SameMemory s t) ∧
     (old.2 = false → exec .protChangeDone s = .next s) ∧
     (old.2 = true → c.dramHeld = true → exec .protChangeDone s = .next (s.post 2000 .protChangeDone s.ev)) ∧
     (old.2 = true → c.dramHeld = false → ∃ t, exec .protChangeDone s = .next t ∧ tget (t.colAt col).prot f (0, false) = (s.ev.z, false) ∧
       (∀ b, memGet t.mem b = if (was.1 = true ∧ will.1 = false ∧ a ≤ b ∧ b < a + 32768) ∨
          (was.2 = true ∧ will.2 = false ∧ a + 32768 ≤ b ∧ b < a + 65536) then 0 else memGet s.mem b))) ∧
    (c.dramHeld = true → exec .dramRatioChange s = .next (s.post 100 .dramRatioChange s.ev)) ∧
    (c.dramHeld = false → ∃ t, exec .dramRatioChange s = .next t ∧ (t.colAt col).dramHeld = true ∧ (t.colAt col).dramReq = some s.ev.y ∧
      (s.time + 2000, .dramRelock, { x := col }) ∈ t.agenda) ∧
    (∃ t, exec .dramRelock s = .next t ∧ (t.colAt col).dramHeld = false ∧ (t.colAt col).dramRatio = c.dramReq.getD c.dramRatio ∧
      (t.colAt col).dramReq = none ∧ SameMemory s t) ∧
    (let block := s.ev.x
     let at_ := block / 2 ^ 37 % 16
     let x := s.colAt at_
     let backed := block < 2 ^ 53 ∧ s.backBlock block ≠ none
     (s.protect block s.ev.list = some true → ∃ t, exec .uncorrectableRead s = .next t ∧ t.poison = s.poison ∧ t.cols = s.cols ∧
       (∀ b, (b < 128 * block ∨ 128 * block + 128 ≤ b) → memGet t.mem b = memGet s.mem b) ∧
       (s.ev.list.Nodup → (∀ i ∈ s.ev.list, i < 1024) → ∀ i, i < 1024 → (memGet t.mem (128 * block + i / 8)).getLsbD (i % 8) =
         ((memGet s.mem (128 * block + i / 8)).getLsbD (i % 8) ^^ decide (i ∈ s.ev.list)))) ∧
     (s.protect block s.ev.list = some false → ∃ t, exec .uncorrectableRead s = .next t ∧ (t.colAt at_).corrected = x.corrected + 1 ∧
       t.poison = s.poison ∧ SameMemory s t) ∧
     (s.protect block s.ev.list = none →
       (backed → block ∈ x.refetch → exec .uncorrectableRead s = .next s) ∧
       (backed → block ∉ x.refetch → ∃ t, exec .uncorrectableRead s = .next t ∧ block ∈ (t.colAt at_).refetch ∧
         (s.time + 20000, .refetchDone, { x := block, flag := true }) ∈ t.agenda ∧ t.poison = s.poison ∧ SameMemory s t) ∧
       (¬ backed → ∃ t, exec .uncorrectableRead s = .next t ∧ block ∈ t.poison ∧ SameMemory s t ∧
         (1 ≤ block / 2 ^ 53 → block / 2 ^ 53 ≤ 3 → let site := siteOfPhys (128 * block)
           (t.tileAt site).faults = BitVec.ofNat 8 (min 255 ((s.tileAt site).faults.toNat + 1))))) ∧
     (block ∉ x.refetch → exec .refetchDone s = .next s) ∧
     (block ∈ x.refetch → x.dramHeld = true → exec .refetchDone s = .next (s.post 2000 .refetchDone s.ev)) ∧
     (block ∈ x.refetch → x.dramHeld = false → ∃ t, exec .refetchDone s = .next t ∧ block ∉ (t.colAt at_).refetch ∧
       (∀ b, s.backBlock block = some b → memWf s.mem = true → s.ev.flag = true → b ∉ s.poison → block ∉ t.poison ∧
         ∀ i, i < 128 → memGet t.mem (128 * block + i) = memGet s.mem (128 * b + i)) ∧
       ((s.ev.flag = false ∨ s.backBlock block = none ∨ ∃ b, s.backBlock block = some b ∧ b ∈ s.poison) → block ∈ t.poison ∧ SameMemory s t))) ∧
    (let spared := (c.spares.filter fun p => p.1 == s.ev.y).length
     (s.ev.flag = true → ∃ t, exec .rowSpareRemap s = .next t ∧ (s.ev.y, s.ev.z) ∉ (t.colAt col).rowBusy ∧ SameMemory s t) ∧
     (s.ev.flag = false → (s.ev.y, s.ev.z) ∈ c.spares → exec .rowSpareRemap s = .next s) ∧
     (s.ev.flag = false → (s.ev.y, s.ev.z) ∉ c.spares → spared < 32 → ∃ t, exec .rowSpareRemap s = .next t ∧
       (t.colAt col).spares = c.spares ++ [(s.ev.y, s.ev.z)] ∧ (s.ev.y, s.ev.z) ∈ (t.colAt col).rowBusy ∧
       (s.time + 2000, .rowSpareRemap, { s.ev with flag := true }) ∈ t.agenda ∧ SameMemory s t) ∧
     (s.ev.flag = false → (s.ev.y, s.ev.z) ∉ c.spares → 32 ≤ spared → ∃ t, exec .rowSpareRemap s = .next t ∧ t.ctxs = s.ctxs ∧ s.ev.w ∉ (t.colAt col).freeFrames ∧
       let holds := fun b : Backed => decide (b.frame ≤ s.ev.w) && decide (s.ev.w < b.frame + b.n)
       (∀ b, c.backing.find? holds = some b →
         (∀ y ∈ (t.colAt (b.frame / 2 ^ 28 % 16)).backing, y.frame ≠ b.frame) ∧ s.ev.w ∈ (t.colAt (b.frame / 2 ^ 28 % 16)).demoted) ∧
       (c.backing.find? holds = none → SameMemory s t ∧ ∀ i, i < 512 → 512 * s.ev.w + i ∈ t.poison)))

/-- Moves go from LEAVEAT over the stop of the tasks to the commit and the end of grace; leases are granted, renewed, refused and end; the census samples and grants. (R338, R340, R342, R344, R345, R346, R349, R354, R355, R356, R429, spec/20_role_map_census_leases.md) -/
def Obligations.MovesLeasesAndTheCensus : Prop :=
  (∀ s : State,
    let site := s.ev.x
    let t0 := s.tileAt site
    (t0.leaving = none → exec .leaveatReached s = .next s ∧ exec .expressDrainLimit s = .next s ∧ exec .moveCommit s = .next s ∧
      exec .graceEnd s = .next s) ∧
    ∀ mv : Move, t0.leaving = some mv →
    ((2 ≤ mv.phase ∨ mv.phase = 0 ∧ s.time < mv.leaveAt) → exec .leaveatReached s = .next s) ∧
    (mv.phase ≠ 1 → exec .expressDrainLimit s = .next s) ∧ (mv.phase ≠ 2 → exec .moveCommit s = .next s) ∧
    (mv.phase ≠ 3 → exec .graceEnd s = .next s) ∧
    (mv.phase = 0 → mv.leaveAt ≤ s.time → ∃ t, exec .leaveatReached s = .next t ∧
      (t.tileAt site).leaving = some { mv with phase := 1 } ∧ t.ctxs = s.ctxs ∧ (s.time, .leaveatReached, { x := site }) ∈ t.agenda ∧
      (∀ r, mv.frm ≠ .storage → (∀ m ∈ mv.ents, m.region = r) → ∀ m ∈ mv.ents, (t.rmEntry m.region m.ltile).state = 2) ∧
      (mv.frm = .storage → ∀ f ∈ storageFrames s.module site, f ∉ (t.colAt (colOfSite site)).freeFrames) ∧
      (mv.frm = .routing → (mv.leaveAt + 1000 * (s.colAt (colOfSite site)).drainLim, .expressDrainLimit, { x := site }) ∈ t.agenda)) ∧
    (mv.phase = 1 → s.leavingCtxs site mv ≠ [] → ∃ t, exec .leaveatReached s = .next t ∧ (s.time + 1, .leaveatReached, { x := site }) ∈ t.agenda ∧
      t.ctxs = s.ctxs ∧ SameMemory s t ∧ ∀ c ∈ s.leavingCtxs site mv, s.claimed c = false →
        ∀ m, (if (s.ctxAt c).gang then m ∈ s.members (siteOfCtx c) ∧ s.claimed m = false else m = c) → (s.time, .stopRequest, { x := m, y := 2 }) ∈ t.agenda) ∧
    (let busy := s.panelBusy site = true ∨ mv.frm = .routing ∧ mv.drained = false ∧ t0.heldPkts ≠ []
     mv.phase = 1 → s.leavingCtxs site mv = [] → (busy → exec .leaveatReached s = .next (s.post 1 .leaveatReached { x := site })) ∧
      (¬ busy → ∃ t, exec .leaveatReached s = .next t ∧ ((t.tileAt site).leaving.map (·.phase)) = some 2 ∧
        (s.time, .moveCommit, { x := site }) ∈ t.agenda)) ∧
    (mv.phase = 1 → ∃ t, exec .expressDrainLimit s = .next t ∧ (t.tileAt site).leaving = some { mv with drained := true } ∧ (t.tileAt site).heldPkts = [] ∧
      ∀ id ∈ t0.heldPkts, ∀ p, s.pkt id = some p → (s.time, p.arrivalEvent, { x := id }) ∈ t.agenda) ∧
    (mv.phase = 2 → ∃ t, exec .moveCommit s = .next t ∧ ((t.tileAt site).leaving.map (·.phase)) = some 3 ∧ (t.tileAt site).st = mv.into ∧
      (s.time + 64000, .graceEnd, { x := site }) ∈ t.agenda ∧
      ∀ m, mv.ents = [m] → mv.joins = none → mv.into ≠ .off → (s.rmEntry m.region m.ltile).role ≠ 0 → s.time + 64000 < 2 ^ 64 →
        let own := fun l : List Tenant => l.all fun x => x.region == m.region && x.ltile == m.ltile
        own t0.tenants = true → (∀ n, m.next = some n → own (s.tileAt n).tenants = true) →
        (s.regionAt m.region).rmAddr m.ltile + 32 ≤ 2 ^ 60 → (s.regionAt m.region).id = m.region →
          let e := t.rmEntry m.region m.ltile
          e.gen = ((s.rmEntry m.region m.ltile).gen + 1) % 2 ^ 16 ∧ (m.next = none → e.state = 3 ∧ e.leased = false) ∧
          ∀ n, m.next = some n → n < 12960 → (∀ k ∈ coresOf n, (s.coreAt k).inbox = []) → e.state = 0 ∧ e.site = n ∧ e.leased = (s.rmEntry m.region m.ltile).leased) ∧
    (mv.phase = 3 → ∃ s1 : State, exec .graceEnd s = .next (s1.censusRun (colOfSite site)) ∧ (s1.tileAt site).leaving = none ∧ s1.mem = s.mem)) ∧
  (∀ s : State,
    let site := s.ev.x
    let col := colOfSite site
    let n := if s.ev.y = 1 then s.countFault site else s
    (s.ev.y = 1 → (n.tileAt site).faults.toNat = min 255 ((s.tileAt site).faults.toNat + 1) ∧ n.ctxs = s.ctxs ∧ SameMemory s n) ∧
    ((s.tileAt site).st = .off → exec .siteRetire s = .next n) ∧
    ((s.tileAt site).st ≠ .off → s.ev.flag = true → site ∈ (s.colAt col).retires → exec .siteRetire s = .next n) ∧
    ((s.tileAt site).st ≠ .off → s.ev.flag = true → site ∉ (s.colAt col).retires → ∃ s1 : State, exec .siteRetire s = .next (s1.censusRun col) ∧
      (s1.colAt col).retires = (s.colAt col).retires ++ [site]) ∧
    ((s.tileAt site).st ≠ .off → s.ev.flag = false → ∃ t, exec .siteRetire s = .next t ∧ (t.tileAt site).st = .off)) ∧
  (∀ s : State, (s.pkt s.ev.x = none → exec .leaseRequest s = .next s) ∧ ∀ p : Packet, s.pkt s.ev.x = some p →
    let region := p.region
    let first := bits p.arg1 32 14
    let n := bits p.arg1 0 15
    let expiry := p.arg2.toNat
    let d := s.leaseDecide region p.arg1 expiry
    let code := d.2.1
    let live := fun i => i < 64 ∧ (s.lease region i).valid = true
    let equal := fun i => (s.lease region i).first = first ∧ (s.lease region i).count = n
    let laps := fun i => first < (s.lease region i).first + (s.lease region i).count ∧ (s.lease region i).first < first + n
    let bad := bits p.arg1 46 18 ≠ 0 ∨ bits p.arg1 15 17 ≠ 0 ∨ n = 0 ∨ s.rmLen region < first + n ∨ ∃ i, live i ∧ laps i ∧ ¬ equal i
    (bad → code = 5) ∧ (¬ bad → (expiry ≤ s.time ∨ s.time + 2 ^ 32 < expiry) → code = 4) ∧
    (¬ bad → s.time < expiry → expiry ≤ s.time + 2 ^ 32 →
      ((∃ i, live i ∧ equal i) → code = 1 ∧ live d.2.2 ∧ equal d.2.2 ∧ (d.1.lease region d.2.2).expiry = p.arg2) ∧
      ((∀ i, live i → ¬ equal i) → ((∀ i, i < 64 → live i) → code = 2) ∧
        ((∃ i, i < 64 ∧ ¬ live i) → ((∃ l, first ≤ l ∧ l < first + n ∧ (s.rmEntry region l).state ≠ 0) → code = 3) ∧
          ((∀ l, first ≤ l → l < first + n → (s.rmEntry region l).state = 0) → code = 0 ∧ ¬ live d.2.2 ∧
            d.1.lease region d.2.2 = { valid := true, first := first, count := n, expiry := p.arg2 } ∧
            (expiry + 1, .leaseExpiry, { x := region.toNat, y := d.2.2 }) ∈ d.1.agenda)))) ∧
    ∃ t, exec .leaseRequest s = .next t ∧ t.pkt p.id = none ∧ t.ctxs = s.ctxs ∧
      let e := d.1.rmEntry region (bits p.addr 32 14)
      let pa := d.1.rolePhys region (p.addr + 8)
      ((e.state = 3 ∨ e.role ≠ 0) → SameMemory d.1 t) ∧
      (e.state ≠ 3 → e.role = 0 → t.isFull pa = true ∧
        ((s.regionAt region).trace = false → Stored d.1 t pa (leBytes 8 (mkWord [(8, code), (0, d.2.2)]).toNat)))) ∧
  ∀ s : State,
    let region := BitVec.ofNat 64 s.ev.x
    let col := s.ev.x
    let c := s.colAt col
    let l := s.lease region s.ev.y
    ((l.valid = false ∨ s.time ≤ l.expiry.toNat) → exec .leaseExpiry s = .next s) ∧
    (l.valid = true → l.expiry.toNat < s.time → ∃ t, exec .leaseExpiry s = .next t ∧
      ((∀ k, k < 9 → ∀ x ∈ (s.colAt k).claims, ∀ i, l.first ≤ i → i < l.first + l.count → x.site ≠ (s.rmEntry region i).site) →
        (t.lease region s.ev.y).valid = false ∧ t.ctxs = s.ctxs)) ∧
    (l.valid = true → ∃ t, exec .lrelArrival s = .next t ∧ (t.lease region s.ev.y).valid = false ∧ t.ctxs = s.ctxs) ∧
    (l.valid = false → exec .lrelArrival s = .next s) ∧
    (c.retires = [] → c.vacates = [] → c.pending = [] → (∀ x ∈ c.claims, x.due = false) →
      (c.reqs = [] → exec .rmapAction s = .next s) ∧
      ∀ q, c.reqs = [q] →
      let e := s.rmEntry q.region q.ltile
      let len := s.rmLen q.region
      let fills := (q.ltile < len ∧ e.state = 3) ∨ (q.ltile = len ∧ len < (s.regionAt q.region).rmCap)
      let given := fun (t : State) b => ({ region := q.region, ltile := q.ltile } : Tenant) ∈ (t.tileAt b).tenants ∧ (t.colAt col).reqs = []
      let pool := (sitesOf col).find? fun t => (s.tileAt t).st == roleState q.role && (s.tileAt t).still && (s.tileAt t).tenants.isEmpty
      (∀ b r, q.op = 1 → fills → s.bullpens col = b :: r → c.windowCount < 8 → ∃ t, exec .rmapAction s = .next t ∧ given t b ∧
        (t.tileAt b).st = roleState q.role ∧ (colOfSite b = col → (t.colAt col).windowCount = c.windowCount + 1)) ∧
      (∀ b, q.op = 1 → fills → s.bullpens col = [] → q.role ≠ 0 → pool = some b → ∃ t, exec .rmapAction s = .next t ∧ given t b ∧
        (t.tileAt b).st = (s.tileAt b).st ∧ (t.colAt col).windowCount = c.windowCount) ∧
      (q.op = 1 → (¬ fills ∨ s.bullpens col ≠ [] ∧ 8 ≤ c.windowCount ∨ s.bullpens col = [] ∧ (q.role = 0 ∨ pool = none)) → exec .rmapAction s = .next s) ∧
      (q.op ≠ 1 → (len ≤ q.ltile ∨ e.state ≠ 0 ∨ e.leased = true) → ∃ t, exec .rmapAction s = .next t ∧ (t.colAt col).reqs = [] ∧ t.tiles = s.tiles ∧
        SameMemory s t) ∧
      (q.op ≠ 1 → q.ltile < len → e.state = 0 → e.leased = false →
        (((s.tileAt e.site).leaving ≠ none ∨ 8 ≤ (s.colAt (colOfSite e.site)).windowCount) → exec .rmapAction s = .next s) ∧
        ((s.tileAt e.site).leaving = none → (s.colAt (colOfSite e.site)).windowCount < 8 → ∃ t m, exec .rmapAction s = .next t ∧
          (t.tileAt e.site).leaving = some m ∧ m.reason = 4 ∧ m.leaveAt = s.time + 1000 * (s.colAt (colOfSite e.site)).lead ∧
          (t.colAt col).reqs = [] ∧ (m.leaveAt, .leaveatReached, { x := e.site }) ∈ t.agenda))) ∧
    (∃ t, exec .scoutSample s = .next t ∧ (t.colAt col).samples = c.samples + 1 ∧ (t.colAt col).cSum = c.cSum + s.cpressNow col ∧
      c.lSum ≤ (t.colAt col).lSum ∧ (t.colAt col).lSum ≤ c.lSum + 256 ∧ (s.time + 512, .scoutSample, { x := col }) ∈ t.agenda ∧ t.ctxs = s.ctxs ∧
      SameMemory s t) ∧
    (let n := Nat.max 1 c.samples
     ∃ t, exec .scoutWindowEnd s = .next t ∧ (s.time + 524288, .scoutWindowEnd, { x := col }) ∈ t.agenda ∧ (t.colAt col).samples = 0 ∧
      (t.colAt col).cpress = c.cSum / n % 2 ^ 32 ∧ (t.colAt col).spress = c.noRoom % 2 ^ 32 ∧ (t.colAt col).lpress = c.lSum / n % 2 ^ 32 ∧
      (c.retires = [] → c.vacates = [] → c.reqs = [] → c.claims = [] → c.pending = [] → c.enable = false → s.bullpens col = [] → (t.colAt col).windowCount = 0))

/-- Wake stores map queues and move TAIL, queues page in and out; commands send, splice, lease, preempt, signal, copy, and complete. (R306, R325, R326, R327, R328, R329, R330, R332, R350, R355, spec/19_host_queues_and_launch.md) -/
def Obligations.HostQueuesAndCommands : Prop :=
  (∀ s : State,
    let q := s.ev.x % 2 ^ 20
    let v := s.ev.y % 2 ^ 20
    let d := s.qAhead q v
    let tailed := fun (s1 : State) => (s1.hq q).todo = d ∧ (s1.hq q).wake = v ∧ bits (s1.qWord q 1) 20 20 = v
    (s.ev.flag = true → exec .queueWake s = .next (s.serve q)) ∧
    (s.ev.flag = false → s.ev.z ≠ 0 → (tget s.ports (s.ev.z - 1) {}).memMode = true ∨ (tget s.ports (s.ev.z - 1) {}).trained = false →
      exec .queueWake s = .next s) ∧
    (s.ev.flag = false → s.ev.z = 0 ∨ (tget s.ports (s.ev.z - 1) {}).memMode = false ∧ (tget s.ports (s.ev.z - 1) {}).trained = true →
      (s.qState q = 1 → ∃ s1 : State, exec .queueWake s = .next ((s1.serve q).unmapDone q) ∧ tailed s1) ∧
      (s.qState q = 0 → d = 0 → ∃ t, exec .queueWake s = .next t ∧ bits (t.qWord q 1) 20 20 = v ∧ t.pendWakes = s.pendWakes.filter (fun w => w.1 != q) ∧
        (t.hq q).stamp = s.time ∧ (s.time + s.pageAge.toNat, .queuePageOut, { x := q, y := s.time }) ∈ t.agenda) ∧
      (s.qState q = 0 → d ≠ 0 → (∃ w ∈ s.pendWakes, w.1 = q) → ∃ t, exec .queueWake s = .next t ∧ t.mem = s.mem ∧
        t.pendWakes = s.pendWakes.map fun w => if w.1 = q then (q, v) else w) ∧
      (s.qState q = 0 → d ≠ 0 → (∀ w ∈ s.pendWakes, w.1 ≠ q) →
        (∀ sl, s.freeHostSlot = some sl → ∃ s1 : State, exec .queueWake s = .next ((s1.serve q).unmapDone q) ∧ tailed s1 ∧
          tfind s1.slots sl = some q ∧ s1.qState q = 1 ∧ s1.qSlot q = sl) ∧
        (s.freeHostSlot = none → ∃ t, exec .queueWake s = .next t ∧ t.pendWakes = s.pendWakes ++ [(q, v)] ∧ t.mem = s.mem)) ∧
      (s.qState q = 2 → ∃ t, exec .queueWake s = .next t ∧ (t.hq q).held = (s.hq q).held ++ [v] ∧ t.qState q = 3 ∧
        (s.time + 100000, .queuePageInDone, { x := q }) ∈ t.agenda) ∧
      (s.qState q = 3 → ∃ t, exec .queueWake s = .next t ∧ (t.hq q).held = (s.hq q).held ++ [v] ∧ t.mem = s.mem)) ∧
    let p := s.ev.x
    (s.qState p = 3 → ∃ s1 : State, exec .queuePageInDone s = .next (((s.hq p).held.foldl (fun s v => s.wakeStore p v) s1).unmapDone p) ∧ s1.qState p = 0 ∧ (s1.hq p).held = []) ∧
    (s.ev.flag = true → ∃ t, exec .queuePageOut s = .next t ∧ (∀ k ∈ s.freshQueues, t.qState k = 2) ∧ t.queues = s.queues ∧ t.ctxs = s.ctxs) ∧
    (s.ev.flag = false → s.qState p = 0 → (s.hq p).stamp = s.ev.y → (∀ w ∈ s.pendWakes, w.1 ≠ p) → ∃ t, exec .queuePageOut s = .next t ∧ t.qState p = 2) ∧
    (s.ev.flag = false → s.qState p ≠ 0 ∨ (s.hq p).stamp ≠ s.ev.y ∨ (∃ w ∈ s.pendWakes, w.1 = p) → exec .queuePageOut s = .next s)) ∧
  ∀ (s : State) (c : HostCmd),
    let q := s.ev.x
    s.hostCmd q s.ev.y = some c →
    let region := s.qParent q
    let s0 := s.setCmd q { c with started := true }
    let ends := fun (s1 : State) (st dt : Nat) => (∃ k, s1.hostCmd q c.num = some k ∧ k.fin = some (st, dt)) ∧
      (s.time, .commandComplete, { x := q, y := c.num }) ∈ s1.agenda
    let runs := fun (e : Instr) (f : State → Prop) => ∃ s1 : State, exec e s = .next (s1.serve q) ∧ f s1
    let sends := fun (s1 : State) (o : PktOp) (l unit ch : Nat) (f : Packet → Prop) => ∃ p ∈ s1.net, p.op = o ∧ p.region = region ∧ p.ltile = l ∧
      p.dst = (s.rmEntry region l).site ∧ p.unit = unit ∧ p.ch = ch ∧ p.agent = 5 ∧ f p
    (c.started = false →
      (let a := c.w 1
       let dest := if classOf a = .role then (bits a 32 14, if bit a 28 then bits a 7 3 else bits a 29 3)
         else ((a >>> 12 ^^^ a >>> 24).toNat % s.rmLen region, bits a 6 3)
       (dest.1 < s.rmLen region → runs .amsg fun s1 => sends s1 .send dest.1 dest.2 (bits (c.w 4) 0 6) fun p => p.arg1 = c.w 2 ∧ p.arg2 = c.w 3) ∧
       (s.rmLen region ≤ dest.1 → runs .amsg fun s1 => ends s1 6 0)) ∧
      (let dw := c.w 1
       destBad dw false 0 = false → bits dw 32 14 < s.rmLen region → (c.w 2).toNat % 8 = 0 → ∀ s2 bs, s0.hostRecord q (c.w 2) = (s2, some (.ok bs)) →
         headerBad (blockWord bs 0) true = false → s2.hasSite region (bits dw 32 14) = true → s2.mem = s.mem → runs .hostSplice fun s1 => ends s1 0 0 ∧
           sends s1 .record (bits dw 32 14) (bits dw 29 3) (bits dw 10 6) fun p => p.record = 2 ∧ p.data = bs) ∧
      (let d := s.leaseDecide region (c.w 1) (c.w 2).toNat
       runs .hostLease fun s1 => ends s1 (if d.2.1 ≤ 1 then 0 else 10) (256 * d.2.1 + d.2.2)) ∧
      (let k := (c.w 1).toNat
       let vs := s.preemptList (c.w 2).toNat (c.w 3) (q, c.num)
       (vs.length < k ∨ s.fillable (c.w 3) < k → runs .preempt fun s1 => ends s1 10 0) ∧
       (k = 0 → runs .preempt fun s1 => ends s1 0 0) ∧
       (0 < k → k ≤ vs.length → k ≤ s.fillable (c.w 3) → ∃ s1 : State, exec .preempt s =
           .next ((columns.foldl (fun s col => if (s.colAt col).vacates.isEmpty then s else s.censusRun col) s1).serve q) ∧
         (∃ y, s1.hostCmd q c.num = some y ∧ y.left = k ∧ y.fin = c.fin) ∧ ∀ v ∈ vs.take k, v ∈ (s1.colAt (colOfSite v.site)).vacates)) ∧
      (∀ e, e ∈ [Instr.signalStore, .signalAdd] → ∀ s2,
        let r := s0.umpireRes (s0.qCol q) region (s0.qSrc q 0) (c.w 1) (.atomic 8) .both
        (∀ l, r = (s2, .ok l) → (s2.regionAt region).trace = false → s2.qParent q = region → runs e fun s1 => ends s1 0 0 ∧
          Stored s2 s1 l.pa (leBytes 8 (if e = .signalStore then c.w 2 else s2.readWord l.pa + c.w 2).toNat)) ∧
        (∀ cause, r = (s2, .refused cause) → runs e fun s1 => ends s1 8 cause.toNat)) ∧
      runs .signalWait fun s1 => (s.time, .signalPoll, { x := q, y := c.num }) ∈ s1.agenda) ∧
    (c.fin = none → ∀ s2,
      (∀ l, s.hostRes q (c.w 1) 8 .read = (s2, .ok l) →
        ((c.w 2).toNat ≤ s2.readNat l.pa 8 → ∃ t, exec .signalPoll s = .next t ∧ ends t 0 0) ∧
        (s2.readNat l.pa 8 < (c.w 2).toNat → exec .signalPoll s = .next (s2.post 1000 .signalPoll s2.ev))) ∧
      (∀ cause, s.hostRes q (c.w 1) 8 .read = (s2, .refused cause) → ∃ t, exec .signalPoll s = .next t ∧ ends t 8 cause.toNat) ∧
      ∀ pos r, s.copyBytes q c 16 c.pos = (s2, pos, r) → ∃ s1 : State, exec .copy s = .next (if c.started then s1 else s1.serve q) ∧ s1.mem = s2.mem ∧
        (∃ k, s1.hostCmd q c.num = some k ∧ k.pos = pos) ∧ (∀ l, r = .ok l → ends s1 0 0) ∧ (∀ cause, r = .refused cause → ends s1 8 cause.toNat) ∧
        (r = .wait → (s2.time + 1, .copy, s2.ev) ∈ s1.agenda)) ∧
    (∀ st dt, c.fin = some (st, dt) → s.completionWaits q c = false →
      let word := mkWord [(32, bits (c.w 0) 32 32), (16, dt % 2 ^ 16), (0, st)]
      let a := c.w 7
      let rest := fun (s2 s1 : State) => (s1.hq q).cmds = (s.hq q).cmds.filter (fun x => x.num != c.num) ∧
        (bit (c.w 0) 9 = true → .msix q ∈ s1.outbox) ∧ (c.w 6 ≠ 0 → destBad (c.w 6) false 0 = false → ∃ p ∈ s1.net, p.op = .send ∧ p.region = s2.qParent q ∧
          p.ltile = bits (c.w 6) 32 14 ∧ p.unit = bits (c.w 6) 29 3 ∧ p.ch = bits (c.w 6) 10 6 ∧ p.arg1 = word ∧ p.arg2 = BitVec.ofNat 64 q)
      (a = 0 → ∃ s1 : State, exec .commandComplete s = .next (s1.afterCompletion q) ∧ rest s s1 ∧ s1.hostMem = s.hostMem) ∧
      (a ≠ 0 → c.mods = [] → a.toNat % 8 = 0 → classOf a ≠ .global → s.hostLink = true → ∃ s1 : State, exec .commandComplete s = .next (s1.afterCompletion q) ∧ rest s s1 ∧
        s1.hostMem = memWrite s.hostMem a.toNat (leBytes 8 word.toNat)) ∧
      (a ≠ 0 → c.mods = [] → a.toNat % 8 = 0 → classOf a = .global → ∀ s2 l, s.hostRes q a 8 .write = (s2, .ok l) →
        (s2.regionAt (s2.qParent q)).trace = false → ∃ (s1 s3 : State), exec .commandComplete s = .next (s1.afterCompletion q) ∧ rest s3 s1 ∧
          Stored s2 s3 l.pa (leBytes 8 word.toNat)) ∧
      (a ≠ 0 → c.mods = [] → a.toNat % 8 = 0 → classOf a ≠ .global → s.hostLink = false → exec .commandComplete s = .next (s.post 1 .commandComplete s.ev)))

/-- LAUNCH admits all of its tasks or none; over several modules it arms, commits or disarms, and completes, GANG_FAULT where a module fails to answer. (R329, R330, R331, R333, R414, spec/19_host_queues_and_launch.md) -/
def Obligations.LaunchesOnOneAndSeveralModules : Prop :=
  (∀ (s : State) (c : HostCmd),
    let q := s.ev.x
    s.hostCmd q s.ev.y = some c → c.started = false →
    let s0 := s.setCmd q { c with started := true }
    let n := bits (c.w 3) 0 16 * bits (c.w 3) 16 16 * bits (c.w 3) 32 16
    let k := bits (c.w 3) 48 12 + 1
    let cmd := fun (s1 : State) (f : HostCmd → Prop) => ∃ y, s1.hostCmd q c.num = some y ∧ f y
    let runs := fun (f : State → Prop) => ∃ s1 : State, exec .launch s = .next (s1.serve q) ∧ f s1
    (n = 0 → runs fun s1 => cmd s1 (fun y => y.marks = true ∧ y.fin = some (0, 0)) ∧ s1.mem = s.mem ∧ s1.regions = s.regions) ∧
    (n ≠ 0 → ∀ s2,
      (∀ dt, s0.launchBlock q c.words = (s2, some (.error dt)) → runs fun s1 => cmd s1 fun y => y.fin = some (8, dt)) ∧
      (∀ r, s0.launchBlock q c.words = (s2, some (.ok r)) →
        (k = 1 → ∀ s3 code left, s2.launchShare c.words r (s2.qParent q) (q, c.num) (List.range n) = (s3, code, left) →
          (code = 0 → runs fun s1 => cmd s1 (fun y => y.left = left ∧ y.region = some r.id ∧ y.fin = c.fin) ∧ s1.cores = s3.cores) ∧
          (code ≠ 0 → runs fun s1 => cmd s1 fun y => y.fin = some (code, 0))) ∧
        (1 < k →
          let key := 2 ^ 32 * s2.module + s2.nextLaunch
          runs fun s1 => s1.nextLaunch = s2.nextLaunch + 1 ∧
            (∃ x, s1.launchAt key = some x ∧ x.mods = k ∧ x.me = 0 ∧ x.phase = 0 ∧ x.share = (n + k - 1) / k ∧ x.queue = q ∧ x.cmd = c.num) ∧
            (s2.time, .launchArm, { x := key, y := s2.module, w := (n + k - 1) / k, list := c.words.map (·.toNat), val := s2.qParent q }) ∈ s1.agenda ∧
            (∀ j, 0 < j → j < k → s2.moduleUp (s2.qCol q) (s2.module + j) = true →
              .toModule (s2.module + j) 0 ([BitVec.ofNat 64 key, BitVec.ofNat 64 j, BitVec.ofNat 64 ((n + k - 1) / k), s2.qParent q] ++ c.words) ∈ s1.outbox) ∧
            (s2.time + 50000, .launchArmTimeout, { x := key }) ∈ s1.agenda)))) ∧
  ∀ s : State,
    let key := s.ev.x
    let mine := fun (e : RqEntry) => e.launch = some (2 ^ 20, key)
    let answers := fun (t : State) (x : LaunchSt) (code : Nat) => (x.coord = s.module → (s.time, .launchAnswer, { x := key, y := x.me, z := code }) ∈ t.agenda) ∧
      (x.coord ≠ s.module → .toModule x.coord 4 [BitVec.ofNat 64 key, BitVec.ofNat 64 x.me, BitVec.ofNat 64 code] ∈ t.outbox)
    (let ws := s.ev.list.map fun n => BitVec.ofNat 64 n
     let x := (s.launchAt key).getD { words := ws, parent := s.ev.val, coord := s.ev.y, me := s.ev.z, share := s.ev.w, mods := launchMods ws }
     let lo := x.me * x.share
     ∀ s1, (s.armBlock x = (s1, none) → exec .launchArm s = .next (s.post 1 .launchArm s.ev)) ∧
     (s.armBlock x = (s1, some none) → ∃ t, exec .launchArm s = .next t ∧ answers t x 8 ∧ t.cores = s1.cores) ∧
     ∀ r, s.armBlock x = (s1, some (some r)) → ∀ s2 code n,
       s1.launchShare x.words r x.parent (2 ^ 20, key) (rangeFrom lo (Nat.min (gridSize x.words) (lo + x.share) - lo)) = (s2, code, n) →
       (code = 0 → ∃ t, exec .launchArm s = .next t ∧ answers t x 0 ∧ t.launchAt key = some { x with region := r.id, left := n } ∧
         ∀ k, ∀ e ∈ (t.coreAt k).rq, mine e → e.armed = true) ∧
       (code ≠ 0 → ∃ t, exec .launchArm s = .next t ∧ answers t x code)) ∧
    ∀ x, s.launchAt key = some x →
      let status := fun (t : State) (st dt : Nat) (mods : List Nat) => ∀ c, s.hostCmd x.queue x.cmd = some c →
        (∃ y, t.hostCmd x.queue x.cmd = some y ∧ y.fin = some (st, dt) ∧ y.mods = mods) ∧
        (s.time, .commandComplete, { x := x.queue, y := x.cmd }) ∈ t.agenda
      let others := fun (t : State) (kind : Nat) => ∀ j, 0 < j → j < x.mods → .toModule (x.coord + j) kind [BitVec.ofNat 64 key] ∈ t.outbox
      let written := ¬ (s.ev.y = x.me ∧ x.region ≠ 0 ∧ s.writesLeft x.region = true)
      let phase := fun (t : State) (p : Nat) => (t.launchAt key).map (·.phase) = some p
      (∃ t, exec .launchCommit s = .next t ∧ phase t 1 ∧ answers t x 16 ∧ (x.left = 0 → answers t x 17) ∧
        ∀ k, ∀ e ∈ (t.coreAt k).rq, mine e → e.armed = false) ∧
      (∃ t, exec .launchDisarm s = .next t ∧ phase t 2 ∧ (∀ k, ∀ e ∈ (t.coreAt k).rq, ¬ mine e) ∧
        (x.region ≠ 0 → thas t.regions x.region.toNat = false)) ∧
      (let st := (List.range x.mods).map fun j => match tfind x.answers j with
         | some 0 => 0
         | some 99 => 3
         | _ => 1
       x.phase = 0 → ∃ t, exec .launchArmTimeout s = .next t ∧ phase t 2 ∧ others t 2 ∧ (s.time, .launchDisarm, { x := key }) ∈ t.agenda ∧
         status t 9 (st.filter (· != 0)).length st) ∧
      (let st := (List.range x.mods).map fun j => if x.acks.contains j then 0 else 1
       x.phase = 1 → (∃ j, j < x.mods ∧ j ∉ x.acks) → ∃ t, exec .launchCommitTimeout s = .next t ∧ phase t 2 ∧ status t 9 (st.filter (· != 0)).length st ∧
         (tget (t.colAt 0).dstat (s.fdomOf x.region) {}).st ≠ 0) ∧
      (x.phase ≠ 0 → exec .launchArmTimeout s = .next s) ∧
      (x.coord = s.module →
        (x.phase = 0 → s.ev.z ≠ 0 → s.ev.z < 16 → ∃ t, exec .launchAnswer s = .next t ∧ phase t 2 ∧ others t 2 ∧
          (s.time, .launchDisarm, { x := key }) ∈ t.agenda ∧ status t s.ev.z 0 []) ∧
        (x.phase = 0 → s.ev.z = 0 → (∀ j, j < x.mods → j = s.ev.y ∨ tfind x.answers j = some 0) → ∃ t, exec .launchAnswer s = .next t ∧ phase t 1 ∧
          others t 1 ∧ (s.time, .launchCommit, { x := key }) ∈ t.agenda ∧ (s.time + 50000, .launchCommitTimeout, { x := key }) ∈ t.agenda) ∧
        (x.phase = 1 → s.ev.z = 17 → written → x.acks.length = x.mods → (sinsert x.ended s.ev.y).length = x.mods → ∃ t, exec .launchAnswer s = .next t ∧
          phase t 2 ∧ status t 0 0 [])) ∧
      (¬ written → s.ev.z = 17 → exec .launchAnswer s = .next (s.post 1 .launchAnswer s.ev)) ∧
      (x.coord ≠ s.module → s.ev.z = 17 → written → ∃ t, exec .launchAnswer s = .next t ∧
        .toModule x.coord 4 [BitVec.ofNat 64 key, BitVec.ofNat 64 x.me, 17] ∈ t.outbox)

/-- Reset, harvest, fetch and verification of the boot image, the management port's answers, TIME's correction, and stores to module registers. (R86, R194, R340, R379, R408, R414, R424, R425, R426, R427, R433, spec/26_boot_ras_power.md) -/
def Obligations.BringUpAndModuleRegisters : Prop :=
  (∀ s : State,
    let failed := fun (t : State) (phase unit : Nat) => t.safe = true ∧ ∃ r, t.failRec = some r ∧ r.phase = phase ∧ r.unit = unit
    (∃ t, exec .moduleReset s = .next t ∧ t.ctxs = State.reset.ctxs ∧ t.cores = State.reset.cores ∧ t.mem = State.reset.mem ∧ t.regions = State.reset.regions ∧
      t.net = State.reset.net ∧ t.queues = State.reset.queues ∧ t.hostMem = s.hostMem ∧ t.module = s.module ∧
      (s.ev.flag = true → t.bootPhase = 1 ∧ t.safe = State.reset.safe ∧ (t.time, .harvest, { list := s.ev.list, bytes := s.ev.bytes }) ∈ t.agenda) ∧
      (s.ev.flag = false → failed t 1 s.ev.x)) ∧
    (let off := allSites.filter fun i => s.ev.list.contains i || (s.tileAt i).shipOff
     s.bootPhase = 1 → ∃ t, exec .harvest s = .next t ∧ t.time = 0 ∧ t.harvested = off.length ∧ (∀ i ∈ off, (t.tileAt i).st = .off) ∧
       (∀ i, i ∉ off → (t.tileAt i).st = (s.tileAt i).st) ∧
       (12600 ≤ 12960 - off.length → t.bootPhase = 2 ∧ (0, .bootFetch, { bytes := s.ev.bytes }) ∈ t.agenda) ∧
       (12960 - off.length < 12600 → ∃ u, failed t 2 u)) ∧
    (s.bootPhase = 2 →
      (s.anyLink = false → ∃ t, exec .bootFetch s = .next t ∧ failed t 3 2) ∧
      (s.anyLink = true → s.ev.bytes = none → ∃ t, exec .bootFetch s = .next t ∧ failed t 3 6) ∧
      (∀ bs, s.anyLink = true → s.ev.bytes = some bs → ∃ t, exec .bootFetch s = .next t ∧ t.bootPhase = 3 ∧ t.bootImage = some bs ∧
        (s.time, .bootVerify, {}) ∈ t.agenda)) ∧
    (∀ bs, s.bootPhase = 3 → s.bootImage = some bs →
      (Config.sm2Check Config.keyDigest bs = true → ∃ t, exec .bootVerify s = .next t ∧ Written s t (bootPhys s.module (Config.bootLoad bs)) (Config.bootBody bs) ∧
        t.umpirePc = some (Config.bootEntry bs) ∧ t.verified = s.verified ++ Config.sm3 (Config.bootBody bs) ∧ t.bootPhase = 5 ∧ t.ctxs = s.ctxs) ∧
      (Config.sm2Check Config.keyDigest bs = false → ∃ t, exec .bootVerify s = .next t ∧ failed t 4 7)) ∧
    (∀ bs, s.bootPhase = 5 → s.ev.bytes = some bs →
      (Config.sm2Check Config.keyDigest bs = true → exec .bootVerify s = .next { s with verified := s.verified ++ Config.sm3 (Config.bootBody bs) }) ∧
      (Config.sm2Check Config.keyDigest bs = false → exec .bootVerify s = .next s)) ∧
    (∃ t ws, exec .statusRequest s = .next t ∧ t = { s with outbox := s.outbox ++ [.status ws] } ∧ (∀ r, s.failRec = some r →
      ws = [mkWord [(56, r.phase), (48, r.unit), (44, r.column), (0, bits r.detail 0 32)], BitVec.ofNat 64 r.time, 0, 0]) ∧ (s.failRec = none → ws = [])) ∧
    (∃ t ws, exec .attestationReport s = .next t ∧ t = { s with outbox := s.outbox ++ [.report (ws ++ Config.sm2Sign (ws.flatMap fun w => leBytes 8 w.toNat))] } ∧
      ws = [Config.serial, BitVec.ofNat 64 s.time] ++ s.verified ++ [BitVec.ofNat 64 s.harvested] ++ (s.ev.list.take 4).map (BitVec.ofNat 64)) ∧
    ∃ t, exec .timeSync s = .next t ∧ t = { s with slew := s.slew + s.ev.int }) ∧
  ∀ s : State,
    let pa := s.ev.x
    let col := nbits pa 44 4
    let block := nbits pa 32 12
    let reg := nbits pa 0 32
    let w := s.ev.val
    let writes := fun (f : State → Prop) => ∃ t, exec .registerWrite s = .next t ∧ t.ctxs = s.ctxs ∧ t.mem = s.mem ∧ f t
    (protReg block reg = true → writes fun t => ∀ i, i < s.ev.y →
      (s.time, .protWrite, { x := col, y := reg - 0x01000000 + i, z := bits w (8 * i) 2 }) ∈ t.agenda) ∧
    (s.ev.y = 8 → reg % 8 = 0 →
      (block = 0 → reg = 0 → writes fun t => let c := t.colAt col
        c.drainLim = Nat.max 1 (bits w 32 10) ∧ c.lead = Nat.max 20 (bits w 22 10) ∧ c.bullMin = bits w 12 10 ∧ c.maxRecast = Nat.min 8 (bits w 1 4) ∧
        c.enable = bit w 0) ∧
      (block = 0 → reg = 8 → writes fun t => let c := t.colAt col
        c.chi = bits w 48 16 ∧ c.clo = bits w 32 16 ∧ c.shi = bits w 16 16 ∧ c.slo = bits w 0 16) ∧
      (block = 0 → reg = 0x10 → writes fun t => (t.colAt col).lhi = bits w 16 16 ∧ (t.colAt col).llo = bits w 0 16) ∧
      (block = 1 → reg = 0 → writes fun t => (t.colAt col).whistle = mkWord [(62, bits w 62 2), (0, bits w 0 12)] ∧
        (bits w 62 2 = 1 → (s.time, .whistleStop, { x := bits w 0 12 }) ∈ t.agenda) ∧
        (bits w 62 2 = 2 → (s.time, .whistleResume, { x := bits w 0 12 }) ∈ t.agenda) ∧
        (bits w 62 2 = 3 → (s.time, .whistleResumeTrap, { x := bits w 0 12 }) ∈ t.agenda) ∧ (bits w 62 2 = 0 → t.agenda = s.agenda)) ∧
      (block = 1 → 0x20000000 ≤ reg → reg < 0x20000000 + 8 * 11520 → writes fun t => tget (t.colAt col).savePool ((reg - 0x20000000) / 8) 0 = w) ∧
      (block = 2 → reg = Config.dramRatioReg → reg ≠ Config.correctedReg → writes fun t =>
        (s.time, .dramRatioChange, { x := col, y := w.toNat }) ∈ t.agenda) ∧
      (block = 2 → reg = Config.rowThreshReg → reg ≠ Config.correctedReg → reg ≠ Config.dramRatioReg → writes fun t => (t.colAt col).rowThresh = w) ∧
      (block = 3 → 0x01000000 ≤ reg → reg < 0x01000000 + 8 * 810 * 1440 → writes fun t => tget (t.colAt col).escapes ((reg - 0x01000000) / 8) 0 = w) ∧
      (block = 3 → reg = 0x03000000 → writes fun t => (s.time, .injctlPause, { x := col, flag := bit w 0 }) ∈ t.agenda) ∧
      (block = 4 → 0x10000000 ≤ reg → reg < 0x10000000 + 8 * 2 ^ 20 → writes fun t =>
        (s.time, .queueWake, { x := (reg - 0x10000000) / 8, y := bits w 0 20 }) ∈ t.agenda) ∧
      (block = 4 → (reg < 0x10000000 ∨ 0x10000000 + 8 * 2 ^ 20 ≤ reg) →
        (reg = Config.qtBaseReg → writes fun t => t.qtBase = w ∧ (s.time + s.pageAge.toNat, .queuePageOut, { flag := true }) ∈ t.agenda) ∧
        (reg ≠ Config.qtBaseReg → reg = Config.pageAgeReg → writes fun t => t.pageAge = w) ∧
        (reg ≠ Config.qtBaseReg → reg ≠ Config.pageAgeReg → ∀ p, portOfReg reg = some p → writes fun t => (t.port p).memMode =
          if (s.port p).trained = true ∨ (s.port p).retrainSince ≠ none then (s.port p).memMode else Config.portMode w)) ∧
      (block = 6 → reg = 0 → writes fun t => (t.colAt 0).limit = Nat.min 5500 (bits w 32 16)) ∧
      (block = 7 → reg = 0 → writes fun t => t.mvecOf col = w &&& ~~~ 3))

/-- The governor steps FSTEP, dies throttle and shut down, CXL ports train and fail, links are spared, audited, lost and restored, and tiles are reset. (R22, R379, R380, R382, R383, R384, R414, R433, R434, R435, spec/26_boot_ras_power.md) -/
def Obligations.PowerLinksAndTileResets : Prop :=
  (∀ s : State,
    let c := s.colAt 0
    let draw := s.ev.x % 2 ^ 16
    let stepped := fun (t : State) (f : Nat) => (t.colAt 0).fstep = f ∧ t.ctxs = s.ctxs ∧
      (f ≠ c.fstep → ∀ k, t.cpt k = BitVec.ofNat 32 (f * 25 * 65536 / 1000)) ∧ (f = c.fstep → t.cores = s.cores)
    (∃ t, exec .governorStep s = .next t ∧ (t.colAt 0).draw = draw ∧ (s.time + 10000, .governorStep, { x := s.ev.x }) ∈ t.agenda ∧
      (c.thermal = true → stepped t 54) ∧ (c.thermal = false → c.limit < draw → stepped t (Nat.max 54 (c.fstep - 1))) ∧
      (c.thermal = false → draw ≤ c.limit → 100 * draw < 95 * c.limit → stepped t (Nat.min 108 (c.fstep + 1))) ∧
      (c.thermal = false → draw ≤ c.limit → 95 * c.limit ≤ 100 * draw → stepped t c.fstep)) ∧
    (∃ t, exec .thermalThrottle s = .next t ∧ (t.colAt 0).thermal = true ∧ stepped t 54) ∧
    (∃ t, exec .thermalRecovery s = .next t ∧ (t.colAt 0).thermal = false ∧ (t.colAt 0).fstep = c.fstep) ∧
    (∃ t, exec .thermalShutdown s = .next t ∧ t.safe = true ∧ t.ctxs = s.ctxs ∧
      t.failRec = some { phase := 5, unit := 9, column := s.ev.x, detail := 0, time := s.time })) ∧
  (∀ s : State,
    let p := s.port s.ev.x
    let works := fun r => r ∈ s.ev.list ∧ (r ≤ 5 ∨ (r = 6 ∧ s.ev.flag = true))
    (12 ≤ s.ev.x → ∀ e, e ∈ [Instr.cxlLinkTraining, .cxlLinkLoss, .cxlMemTimeout] → exec e s = .next s) ∧
    (s.ev.x < 12 → (∀ r, works r → (∀ r', works r' → r' ≤ r) → 4 ≤ s.ev.y → ∃ t, exec .cxlLinkTraining s = .next t ∧ (t.port s.ev.x).trained = true ∧
      (t.port s.ev.x).rate = r ∧ (t.port s.ev.x).lanes = (if 16 ≤ s.ev.y then 16 else if 8 ≤ s.ev.y then 8 else 4) ∧ (t.port s.ev.x).retrainSince = none ∧
      (t.port s.ev.x).protos = s.ev.z % 4 ∧ (t.port s.ev.x).memMode = p.memMode) ∧
    (s.ev.y < 4 ∨ (∀ r, ¬ works r) → ∃ t, exec .cxlLinkTraining s = .next t ∧ (t.port s.ev.x).trained = false ∧
      (t.port s.ev.x).heldDown = decide (s.ev.y < 4)) ∧
    (∃ t, exec .cxlLinkLoss s = .next t ∧ (t.port s.ev.x).trained = false ∧ (t.port s.ev.x).rate = 0 ∧ (t.port s.ev.x).retrainSince = some s.time ∧
      (s.time + 100000000, .cxlMemTimeout, { x := s.ev.x }) ∈ t.agenda) ∧
    ∀ t0, p.retrainSince = some t0 → (t0 + 100000000 ≤ s.time → ∃ t, exec .cxlMemTimeout s = .next t ∧ (t.port s.ev.x).timedOut = true) ∧
      (s.time < t0 + 100000000 → exec .cxlMemTimeout s = .next s))) ∧
  (∀ s : State,
    let site := s.ev.x
    let l := s.link site s.ev.y
    (s.ev.flag = true → ∃ t, exec .laneSpare s = .next t ∧ (t.link site s.ev.y).spared = l.spared + 1) ∧
    (s.ev.flag = false → exec .laneSpare s = .next (s.post 0 .linkDead { x := site, y := s.ev.y, list := s.ev.list })) ∧
    (let v := tget l.vcs s.ev.z {}
     let pick := fun {α : Type} (own told : α) => if s.ev.flag then own else told
     let credits := pick v.credits (((s.ev.list[0]?).map Int.ofNat).getD v.credits)
     let ret := pick v.credRet ((s.ev.list[1]?).getD v.credRet)
     let d := sint 32 ((pick v.freed s.ev.v + 2 ^ 32 - ret % 2 ^ 32) % 2 ^ 32)
     let again := d ≠ 0 ∧ v.lastSeq.map (· + 1) = some (pick (v.auditNo + 1) s.ev.w) ∧ v.lastD = d
     let due := fun (t : State) => ∃ e ∈ t.agenda, e.2.1 = Instr.linkAudit ∧ e.2.2.flag = true ∧ e.2.2.x = site ∧ e.2.2.y = s.ev.y ∧ e.2.2.z = s.ev.z
     (again → ∃ t, exec .linkAudit s = .next t ∧ due t ∧ (t.link site s.ev.y).repairs = l.repairs + 1 ∧
       (tget (t.link site s.ev.y).vcs s.ev.z {}).credits = credits + d) ∧
     (¬ again → ∃ t, exec .linkAudit s = .next t ∧ due t ∧ (t.link site s.ev.y).repairs = l.repairs ∧
       (tget (t.link site s.ev.y).vcs s.ev.z {}).credits = credits ∧ (tget (t.link site s.ev.y).vcs s.ev.z {}).lastD = d)) ∧
    (∃ t, exec .linkDead s = .next t ∧ (∀ id ∈ s.ev.list, t.pkt id = none) ∧ (s.ev.y < 12 → ∀ c, c < 9 → (t.colAt c).injPause = true ∧
        (s.time + 200000, .injctlPause, { x := c }) ∈ t.agenda) ∧ (12 ≤ s.ev.y → (t.link site s.ev.y).dead = true ∧ ∀ c, (t.colAt c).injPause = (s.colAt c).injPause) ∧
      (s.ev.y < 8 → (t.link site s.ev.y).dead = true ∧ tget (t.colAt (colOfSite site)).linkState (site % 1440) 0xFF =
        baseWithout (tget (s.colAt (colOfSite site)).linkState (site % 1440) 0xFF) site (s.ev.y % 4) (s.ev.y / 4)) ∧ (8 ≤ s.ev.y → s.ev.y < 12 → tget (t.colAt (colOfSite site)).linksUp (s.ev.y - 8) true = false)) ∧
    (∃ t, exec .injctlPause s = .next t ∧ (t.colAt s.ev.x).injPause = s.ev.flag) ∧
    ∃ t, exec .moduleLinkRestored s = .next t ∧ tget (t.colAt s.ev.x).linksUp s.ev.y true = true ∧
      ∀ h ∈ s.heldStops, t.moduleUp s.ev.x h.1 = true → .toModule h.1 3 h.2 ∈ t.outbox ∧ h ∉ t.heldStops) ∧
  ∀ s : State,
    let site := s.ev.x
    let t0 := s.tileAt site
    (∃ t, exec .tileReset s = .next t ∧ (∀ c, 32 * site ≤ c → c < 32 * site + 32 → t.ctxAt c = {}) ∧ (∀ k, k < 8 → (t.coreAt (8 * site + k)).rq = [] ∧
        (t.coreAt (8 * site + k)).inbox = [] ∧ (t.coreAt (8 * site + k)).chSize = ({} : Core).chSize) ∧ (t.tileAt site).resetting = true ∧
      (t.tileAt site).st = t0.st ∧ (t.tileAt site).tenants = t0.tenants ∧ (t.tileAt site).mx.ops = [] ∧ (t.tileAt site).accounts = []) ∧
    (t0.resetting = true → ∃ t, exec .tileResetExit s = .next t ∧ (t.tileAt site).resetting = false ∧ (t.tileAt site).heldPkts = []) ∧
    (t0.resetting = false → exec .tileResetExit s = .next s)
end

