-- ==== Sys2Proof/Laws/Encoding.lean ====
section
/-! SUPPORT. Words as segments: a field read back from a packed word is the value that was packed (R38, R39), and what follows for
whole instructions. -/

namespace Sys2Proof.Laws

/-- Every value of a list of segments fits its width. -/
def Fits : List (Nat × Nat) → Prop
  | [] => True
  | p :: r => p.2 < 2 ^ p.1 ∧ Fits r

theorem segWidth_append (l r : List (Nat × Nat)) : segWidth (l ++ r) = segWidth l + segWidth r := by
  induction l with
  | nil => simp [segWidth]
  | cons a l ih => simp [segWidth, ih, Nat.add_assoc]

theorem pack_append (l r : List (Nat × Nat)) : pack (l ++ r) = pack l * 2 ^ segWidth r + pack r := by
  induction l with
  | nil => simp [pack]
  | cons p l ih =>
    simp only [List.cons_append, pack, ih, segWidth_append, Nat.pow_add, Nat.add_mul]
    rw [← Nat.mul_assoc, Nat.add_assoc]

theorem pack_lt (l : List (Nat × Nat)) (h : Fits l) : pack l < 2 ^ segWidth l := by
  induction l with
  | nil => simp [pack, segWidth]
  | cons p r ih =>
    have h2 := ih h.2
    simp only [pack, segWidth, Nat.pow_add]
    calc p.2 * 2 ^ segWidth r + pack r < (p.2 + 1) * 2 ^ segWidth r := by rw [Nat.add_mul, Nat.one_mul]; omega
      _ ≤ 2 ^ p.1 * 2 ^ segWidth r := Nat.mul_le_mul_right _ h.1

/-- A segment is read back from its place. -/
theorem seg_pack (l : List (Nat × Nat)) (n v : Nat) (r : List (Nat × Nat)) (h : Fits ((n, v) :: r)) :
    pack (l ++ (n, v) :: r) / 2 ^ segWidth r % 2 ^ n = v := by
  have h1 := pack_lt r h.2
  rw [pack_append]
  simp only [pack, segWidth, Nat.pow_add]
  rw [show pack l * (2 ^ n * 2 ^ segWidth r) + (v * 2 ^ segWidth r + pack r) = pack r + (pack l * 2 ^ n + v) * 2 ^ segWidth r by
      rw [Nat.add_mul, Nat.mul_assoc]; omega,
    Nat.add_mul_div_right _ _ (Nat.two_pow_pos _), Nat.div_eq_of_lt h1, Nat.zero_add, Nat.mul_comm, Nat.mul_add_mod,
    Nat.mod_eq_of_lt h.1]

/-- A field is read back from its place. -/
theorem fld_pack (l : List (Nat × Nat)) (n : Nat) (x : BitVec n) (r : List (Nat × Nat)) (h : Fits r) :
    fld (pack (l ++ (n, x.toNat) :: r)) (segWidth r) n = x := by
  apply BitVec.eq_of_toNat_eq
  simp only [fld, BitVec.toNat_ofNat]
  exact seg_pack l n x.toNat r ⟨x.isLt, h⟩

/-- The last segment, a byte, is the word modulo 256. -/
theorem low_pack (l : List (Nat × Nat)) (v : Nat) (h : v < 256) : pack (l ++ [(8, v)]) % 256 = v := by
  simpa [segWidth] using seg_pack l 8 v [] ⟨h, trivial⟩

theorem leNat_leBytes (n x : Nat) : leNat (leBytes n x) = x % 256 ^ n := by
  induction n generalizing x with
  | zero => simp [leNat, leBytes, Nat.mod_one]
  | succ n ih =>
    simp only [leBytes, leNat, ih, BitVec.toNat_ofNat]
    rw [show 256 ^ (n + 1) = 256 * 256 ^ n by rw [Nat.pow_succ, Nat.mul_comm], Nat.mod_mul]

theorem length_leBytes (n x : Nat) : (leBytes n x).length = n := by
  induction n generalizing x with
  | zero => rfl
  | succ n ih => simp [leBytes, ih]

theorem decode_ok (i : Instr) (w e : Nat) (h : decodeLoose w e = some i) (h2 : encode i = wordsOf i w e) : decode w e = .ok i := by
  simp [decode, h, h2]

theorem leNat_append_take (w : Nat) (rest : List Byte) (h : w < 2 ^ 32) : leNat ((leBytes 4 w ++ rest).take 4) = w := by
  rw [List.take_append_of_le_length (by simp [length_leBytes]), List.take_of_length_le (by simp [length_leBytes]), leNat_leBytes]
  exact Nat.mod_eq_of_lt h

/-- An instruction of one word is read back from its bytes. -/
theorem bytes_one (i : Instr) (w : Nat) (he : encode i = [w]) (hw : w < 2 ^ 32) (v : Nat) (hl : w % 256 = v)
    (hv : v % 4 < 2) (hd : ∀ e, decodeLoose w e = some i) (rest : List Byte) : decodeBytes (encodeBytes i ++ rest) = .ok (i, rest) := by
  have hb : encodeBytes i = leBytes 4 w := by simp [encodeBytes, he]
  have h4 : ¬ w % 4 = 3 := by omega
  have h2 : ¬ w % 4 = 2 := by omega
  have hk : ∀ e, decode w e = .ok i := fun e =>
    decode_ok i w e (hd e) (by
      have : (encodeSegs i).length = 1 := by simpa [encode] using congrArg List.length he
      simp [wordsOf, this, he])
  simp only [decodeBytes, hb, leNat_append_take w rest hw, h4, h2, if_false, List.length_append, length_leBytes]
  rw [if_neg (by omega), hk]
  simp [length_leBytes]

/-- An instruction of two words is read back from its bytes. -/
theorem bytes_two (i : Instr) (w e : Nat) (he : encode i = [w, e]) (hw : w < 2 ^ 32) (hx : e < 2 ^ 32) (v : Nat) (hl : w % 256 = v)
    (hv : v % 4 = 3) (hd : decodeLoose w e = some i) (rest : List Byte) : decodeBytes (encodeBytes i ++ rest) = .ok (i, rest) := by
  have hb : encodeBytes i ++ rest = leBytes 4 w ++ (leBytes 4 e ++ rest) := by simp [encodeBytes, he]
  have h4 : w % 4 = 3 := by omega
  have h2 : ¬ w % 4 = 2 := by omega
  have hk : decode w e = .ok i :=
    decode_ok i w e hd (by
      have : (encodeSegs i).length = 2 := by simpa [encode] using congrArg List.length he
      simp [wordsOf, this, he])
  have hr : leNat (((leBytes 4 w ++ (leBytes 4 e ++ rest)).drop 4).take 4) = e := by
    rw [List.drop_append_of_le_length (by simp [length_leBytes]), List.drop_of_length_le (by simp [length_leBytes]), List.nil_append]
    exact leNat_append_take e rest hx
  simp only [decodeBytes, hb, leNat_append_take w _ hw, hr, h4, if_true, List.length_append, length_leBytes]
  rw [if_neg (by omega), if_neg (by omega), hk]
  have hd8 : List.drop 8 (leBytes 4 w ++ (leBytes 4 e ++ rest)) = rest := by
    rw [← List.append_assoc, List.drop_append_of_le_length (by simp [length_leBytes]),
      List.drop_of_length_le (by simp [length_leBytes]), List.nil_append]
  simp only [hd8]

end Sys2Proof.Laws
end

