-- ==== Sys2Proof/Laws/Tables.lean ====
section
/-! SUPPORT. The sparse tables: what is read after a record is written or removed. -/

namespace Sys2Proof.Machine

/-- A record read after a write: the one written at its number, any other as before. -/
theorem tget_tput {α : Type} (t : Tab α) (k j : Nat) (v d : α) : tget (tput t k v) j d = if k = j then v else tget t j d := by
  induction t with
  | nil => simp [tput, tget]
  | cons p r ih =>
    simp only [tput]
    split
    · simp [tget]
    · split
      · next h1 h2 => subst h2; simp only [tget]; split <;> simp_all
      · next h1 h2 =>
        simp only [tget, ih]
        by_cases h3 : p.1 = j
        · simp [h3]; intro h; omega
        · simp [h3]

@[simp] theorem tget_tput_self {α : Type} (t : Tab α) (k : Nat) (v d : α) : tget (tput t k v) k d = v := by simp [tget_tput]

theorem tget_tput_ne {α : Type} (t : Tab α) (k j : Nat) (v d : α) (h : k ≠ j) : tget (tput t k v) j d = tget t j d := by
  simp [tget_tput, h]

/-- A record read after another was removed. -/
theorem tget_tdel {α : Type} (t : Tab α) (k j : Nat) (d : α) : tget (tdel t k) j d = if k = j then d else tget t j d := by
  induction t with
  | nil => simp [tdel, tget]
  | cons p r ih =>
    simp only [tdel, List.filter_cons] at ih ⊢
    by_cases h1 : p.1 = k
    · simp only [h1, bne_self_eq_false, Bool.false_eq_true, if_false, ih, tget]
      by_cases h2 : k = j <;> simp [h2]
    · have : (p.1 != k) = true := by simp [h1]
      simp only [this, if_true, tget, ih]
      by_cases h2 : p.1 = j
      · have : ¬ k = j := fun h => h1 (h2.trans h.symm)
        simp [h2, this]
      · simp [h2]

end Sys2Proof.Machine
end

