-- ==== Sys2Proof/Laws/State.lean ====
section
/-! SUPPORT. One lemma per field and update of the state, of the records by number, and of a context's registers. -/

namespace Sys2Proof.Machine

/-! The updates of the state: every field that an update leaves alone. -/

@[simp] theorem State.setCtxAt_cores (s : State) (c : Nat) (x : Ctx) : (s.setCtxAt c x).cores = s.cores := rfl
@[simp] theorem State.setCtxAt_tiles (s : State) (c : Nat) (x : Ctx) : (s.setCtxAt c x).tiles = s.tiles := rfl
@[simp] theorem State.setCtxAt_cols (s : State) (c : Nat) (x : Ctx) : (s.setCtxAt c x).cols = s.cols := rfl
@[simp] theorem State.setCtxAt_regions (s : State) (c : Nat) (x : Ctx) : (s.setCtxAt c x).regions = s.regions := rfl
@[simp] theorem State.setCtxAt_rcbs (s : State) (c : Nat) (x : Ctx) : (s.setCtxAt c x).rcbs = s.rcbs := rfl
@[simp] theorem State.setCtxAt_mem (s : State) (c : Nat) (x : Ctx) : (s.setCtxAt c x).mem = s.mem := rfl
@[simp] theorem State.setCtxAt_full (s : State) (c : Nat) (x : Ctx) : (s.setCtxAt c x).full = s.full := rfl
@[simp] theorem State.setCtxAt_poison (s : State) (c : Nat) (x : Ctx) : (s.setCtxAt c x).poison = s.poison := rfl
@[simp] theorem State.setCtxAt_net (s : State) (c : Nat) (x : Ctx) : (s.setCtxAt c x).net = s.net := rfl
@[simp] theorem State.setCtxAt_nextPkt (s : State) (c : Nat) (x : Ctx) : (s.setCtxAt c x).nextPkt = s.nextPkt := rfl
@[simp] theorem State.setCtxAt_queues (s : State) (c : Nat) (x : Ctx) : (s.setCtxAt c x).queues = s.queues := rfl
@[simp] theorem State.setCtxAt_qtBase (s : State) (c : Nat) (x : Ctx) : (s.setCtxAt c x).qtBase = s.qtBase := rfl
@[simp] theorem State.setCtxAt_pageAge (s : State) (c : Nat) (x : Ctx) : (s.setCtxAt c x).pageAge = s.pageAge := rfl
@[simp] theorem State.setCtxAt_slots (s : State) (c : Nat) (x : Ctx) : (s.setCtxAt c x).slots = s.slots := rfl
@[simp] theorem State.setCtxAt_hostMem (s : State) (c : Nat) (x : Ctx) : (s.setCtxAt c x).hostMem = s.hostMem := rfl
@[simp] theorem State.setCtxAt_pendWakes (s : State) (c : Nat) (x : Ctx) : (s.setCtxAt c x).pendWakes = s.pendWakes := rfl
@[simp] theorem State.setCtxAt_beat (s : State) (c : Nat) (x : Ctx) : (s.setCtxAt c x).beat = s.beat := rfl
@[simp] theorem State.setCtxAt_tierQ (s : State) (c : Nat) (x : Ctx) : (s.setCtxAt c x).tierQ = s.tierQ := rfl
@[simp] theorem State.setCtxAt_umpLast (s : State) (c : Nat) (x : Ctx) : (s.setCtxAt c x).umpLast = s.umpLast := rfl
@[simp] theorem State.setCtxAt_launches (s : State) (c : Nat) (x : Ctx) : (s.setCtxAt c x).launches = s.launches := rfl
@[simp] theorem State.setCtxAt_nextLaunch (s : State) (c : Nat) (x : Ctx) : (s.setCtxAt c x).nextLaunch = s.nextLaunch := rfl
@[simp] theorem State.setCtxAt_ports (s : State) (c : Nat) (x : Ctx) : (s.setCtxAt c x).ports = s.ports := rfl
@[simp] theorem State.setCtxAt_module (s : State) (c : Nat) (x : Ctx) : (s.setCtxAt c x).module = s.module := rfl
@[simp] theorem State.setCtxAt_time (s : State) (c : Nat) (x : Ctx) : (s.setCtxAt c x).time = s.time := rfl
@[simp] theorem State.setCtxAt_slew (s : State) (c : Nat) (x : Ctx) : (s.setCtxAt c x).slew = s.slew := rfl
@[simp] theorem State.setCtxAt_cptBase (s : State) (c : Nat) (x : Ctx) : (s.setCtxAt c x).cptBase = s.cptBase := rfl
@[simp] theorem State.setCtxAt_bootPhase (s : State) (c : Nat) (x : Ctx) : (s.setCtxAt c x).bootPhase = s.bootPhase := rfl
@[simp] theorem State.setCtxAt_safe (s : State) (c : Nat) (x : Ctx) : (s.setCtxAt c x).safe = s.safe := rfl
@[simp] theorem State.setCtxAt_failRec (s : State) (c : Nat) (x : Ctx) : (s.setCtxAt c x).failRec = s.failRec := rfl
@[simp] theorem State.setCtxAt_bootImage (s : State) (c : Nat) (x : Ctx) : (s.setCtxAt c x).bootImage = s.bootImage := rfl
@[simp] theorem State.setCtxAt_verified (s : State) (c : Nat) (x : Ctx) : (s.setCtxAt c x).verified = s.verified := rfl
@[simp] theorem State.setCtxAt_harvested (s : State) (c : Nat) (x : Ctx) : (s.setCtxAt c x).harvested = s.harvested := rfl
@[simp] theorem State.setCtxAt_umpirePc (s : State) (c : Nat) (x : Ctx) : (s.setCtxAt c x).umpirePc = s.umpirePc := rfl
@[simp] theorem State.setCtxAt_owed (s : State) (c : Nat) (x : Ctx) : (s.setCtxAt c x).owed = s.owed := rfl
@[simp] theorem State.setCtxAt_heldStops (s : State) (c : Nat) (x : Ctx) : (s.setCtxAt c x).heldStops = s.heldStops := rfl
@[simp] theorem State.setCtxAt_agenda (s : State) (c : Nat) (x : Ctx) : (s.setCtxAt c x).agenda = s.agenda := rfl
@[simp] theorem State.setCtxAt_ev (s : State) (c : Nat) (x : Ctx) : (s.setCtxAt c x).ev = s.ev := rfl
@[simp] theorem State.setCtxAt_cur (s : State) (c : Nat) (x : Ctx) : (s.setCtxAt c x).cur = s.cur := rfl
@[simp] theorem State.setCtxAt_delays (s : State) (c : Nat) (x : Ctx) : (s.setCtxAt c x).delays = s.delays := rfl
@[simp] theorem State.setCtxAt_paceCycles (s : State) (c : Nat) (x : Ctx) : (s.setCtxAt c x).paceCycles = s.paceCycles := rfl
@[simp] theorem State.setCtxAt_paceTicks (s : State) (c : Nat) (x : Ctx) : (s.setCtxAt c x).paceTicks = s.paceTicks := rfl
@[simp] theorem State.setCtxAt_grp (s : State) (c : Nat) (x : Ctx) : (s.setCtxAt c x).grp = s.grp := rfl
@[simp] theorem State.setCtxAt_budgetWritten (s : State) (c : Nat) (x : Ctx) : (s.setCtxAt c x).budgetWritten = s.budgetWritten := rfl
@[simp] theorem State.setCtxAt_budgetGrant (s : State) (c : Nat) (x : Ctx) : (s.setCtxAt c x).budgetGrant = s.budgetGrant := rfl
@[simp] theorem State.setCtxAt_cycles (s : State) (c : Nat) (x : Ctx) : (s.setCtxAt c x).cycles = s.cycles := rfl
@[simp] theorem State.setCtxAt_nextGang (s : State) (c : Nat) (x : Ctx) : (s.setCtxAt c x).nextGang = s.nextGang := rfl
@[simp] theorem State.setCtxAt_nextTask (s : State) (c : Nat) (x : Ctx) : (s.setCtxAt c x).nextTask = s.nextTask := rfl
@[simp] theorem State.setCtxAt_freeCtr (s : State) (c : Nat) (x : Ctx) : (s.setCtxAt c x).freeCtr = s.freeCtr := rfl
@[simp] theorem State.setCtxAt_outbox (s : State) (c : Nat) (x : Ctx) : (s.setCtxAt c x).outbox = s.outbox := rfl

@[simp] theorem State.setCtx_cores (s : State) (x : Ctx) : (s.setCtx x).cores = s.cores := rfl
@[simp] theorem State.setCtx_tiles (s : State) (x : Ctx) : (s.setCtx x).tiles = s.tiles := rfl
@[simp] theorem State.setCtx_cols (s : State) (x : Ctx) : (s.setCtx x).cols = s.cols := rfl
@[simp] theorem State.setCtx_regions (s : State) (x : Ctx) : (s.setCtx x).regions = s.regions := rfl
@[simp] theorem State.setCtx_rcbs (s : State) (x : Ctx) : (s.setCtx x).rcbs = s.rcbs := rfl
@[simp] theorem State.setCtx_mem (s : State) (x : Ctx) : (s.setCtx x).mem = s.mem := rfl
@[simp] theorem State.setCtx_full (s : State) (x : Ctx) : (s.setCtx x).full = s.full := rfl
@[simp] theorem State.setCtx_poison (s : State) (x : Ctx) : (s.setCtx x).poison = s.poison := rfl
@[simp] theorem State.setCtx_net (s : State) (x : Ctx) : (s.setCtx x).net = s.net := rfl
@[simp] theorem State.setCtx_nextPkt (s : State) (x : Ctx) : (s.setCtx x).nextPkt = s.nextPkt := rfl
@[simp] theorem State.setCtx_queues (s : State) (x : Ctx) : (s.setCtx x).queues = s.queues := rfl
@[simp] theorem State.setCtx_qtBase (s : State) (x : Ctx) : (s.setCtx x).qtBase = s.qtBase := rfl
@[simp] theorem State.setCtx_pageAge (s : State) (x : Ctx) : (s.setCtx x).pageAge = s.pageAge := rfl
@[simp] theorem State.setCtx_slots (s : State) (x : Ctx) : (s.setCtx x).slots = s.slots := rfl
@[simp] theorem State.setCtx_hostMem (s : State) (x : Ctx) : (s.setCtx x).hostMem = s.hostMem := rfl
@[simp] theorem State.setCtx_pendWakes (s : State) (x : Ctx) : (s.setCtx x).pendWakes = s.pendWakes := rfl
@[simp] theorem State.setCtx_beat (s : State) (x : Ctx) : (s.setCtx x).beat = s.beat := rfl
@[simp] theorem State.setCtx_tierQ (s : State) (x : Ctx) : (s.setCtx x).tierQ = s.tierQ := rfl
@[simp] theorem State.setCtx_umpLast (s : State) (x : Ctx) : (s.setCtx x).umpLast = s.umpLast := rfl
@[simp] theorem State.setCtx_launches (s : State) (x : Ctx) : (s.setCtx x).launches = s.launches := rfl
@[simp] theorem State.setCtx_nextLaunch (s : State) (x : Ctx) : (s.setCtx x).nextLaunch = s.nextLaunch := rfl
@[simp] theorem State.setCtx_ports (s : State) (x : Ctx) : (s.setCtx x).ports = s.ports := rfl
@[simp] theorem State.setCtx_module (s : State) (x : Ctx) : (s.setCtx x).module = s.module := rfl
@[simp] theorem State.setCtx_time (s : State) (x : Ctx) : (s.setCtx x).time = s.time := rfl
@[simp] theorem State.setCtx_slew (s : State) (x : Ctx) : (s.setCtx x).slew = s.slew := rfl
@[simp] theorem State.setCtx_cptBase (s : State) (x : Ctx) : (s.setCtx x).cptBase = s.cptBase := rfl
@[simp] theorem State.setCtx_bootPhase (s : State) (x : Ctx) : (s.setCtx x).bootPhase = s.bootPhase := rfl
@[simp] theorem State.setCtx_safe (s : State) (x : Ctx) : (s.setCtx x).safe = s.safe := rfl
@[simp] theorem State.setCtx_failRec (s : State) (x : Ctx) : (s.setCtx x).failRec = s.failRec := rfl
@[simp] theorem State.setCtx_bootImage (s : State) (x : Ctx) : (s.setCtx x).bootImage = s.bootImage := rfl
@[simp] theorem State.setCtx_verified (s : State) (x : Ctx) : (s.setCtx x).verified = s.verified := rfl
@[simp] theorem State.setCtx_harvested (s : State) (x : Ctx) : (s.setCtx x).harvested = s.harvested := rfl
@[simp] theorem State.setCtx_umpirePc (s : State) (x : Ctx) : (s.setCtx x).umpirePc = s.umpirePc := rfl
@[simp] theorem State.setCtx_owed (s : State) (x : Ctx) : (s.setCtx x).owed = s.owed := rfl
@[simp] theorem State.setCtx_heldStops (s : State) (x : Ctx) : (s.setCtx x).heldStops = s.heldStops := rfl
@[simp] theorem State.setCtx_agenda (s : State) (x : Ctx) : (s.setCtx x).agenda = s.agenda := rfl
@[simp] theorem State.setCtx_ev (s : State) (x : Ctx) : (s.setCtx x).ev = s.ev := rfl
@[simp] theorem State.setCtx_cur (s : State) (x : Ctx) : (s.setCtx x).cur = s.cur := rfl
@[simp] theorem State.setCtx_delays (s : State) (x : Ctx) : (s.setCtx x).delays = s.delays := rfl
@[simp] theorem State.setCtx_paceCycles (s : State) (x : Ctx) : (s.setCtx x).paceCycles = s.paceCycles := rfl
@[simp] theorem State.setCtx_paceTicks (s : State) (x : Ctx) : (s.setCtx x).paceTicks = s.paceTicks := rfl
@[simp] theorem State.setCtx_grp (s : State) (x : Ctx) : (s.setCtx x).grp = s.grp := rfl
@[simp] theorem State.setCtx_budgetWritten (s : State) (x : Ctx) : (s.setCtx x).budgetWritten = s.budgetWritten := rfl
@[simp] theorem State.setCtx_budgetGrant (s : State) (x : Ctx) : (s.setCtx x).budgetGrant = s.budgetGrant := rfl
@[simp] theorem State.setCtx_cycles (s : State) (x : Ctx) : (s.setCtx x).cycles = s.cycles := rfl
@[simp] theorem State.setCtx_nextGang (s : State) (x : Ctx) : (s.setCtx x).nextGang = s.nextGang := rfl
@[simp] theorem State.setCtx_nextTask (s : State) (x : Ctx) : (s.setCtx x).nextTask = s.nextTask := rfl
@[simp] theorem State.setCtx_freeCtr (s : State) (x : Ctx) : (s.setCtx x).freeCtr = s.freeCtr := rfl
@[simp] theorem State.setCtx_outbox (s : State) (x : Ctx) : (s.setCtx x).outbox = s.outbox := rfl

@[simp] theorem State.wg_cores (s : State) (r : BitVec 5) (x : Word) : (s.wg r x).cores = s.cores := rfl
@[simp] theorem State.wg_tiles (s : State) (r : BitVec 5) (x : Word) : (s.wg r x).tiles = s.tiles := rfl
@[simp] theorem State.wg_cols (s : State) (r : BitVec 5) (x : Word) : (s.wg r x).cols = s.cols := rfl
@[simp] theorem State.wg_regions (s : State) (r : BitVec 5) (x : Word) : (s.wg r x).regions = s.regions := rfl
@[simp] theorem State.wg_rcbs (s : State) (r : BitVec 5) (x : Word) : (s.wg r x).rcbs = s.rcbs := rfl
@[simp] theorem State.wg_mem (s : State) (r : BitVec 5) (x : Word) : (s.wg r x).mem = s.mem := rfl
@[simp] theorem State.wg_full (s : State) (r : BitVec 5) (x : Word) : (s.wg r x).full = s.full := rfl
@[simp] theorem State.wg_poison (s : State) (r : BitVec 5) (x : Word) : (s.wg r x).poison = s.poison := rfl
@[simp] theorem State.wg_net (s : State) (r : BitVec 5) (x : Word) : (s.wg r x).net = s.net := rfl
@[simp] theorem State.wg_nextPkt (s : State) (r : BitVec 5) (x : Word) : (s.wg r x).nextPkt = s.nextPkt := rfl
@[simp] theorem State.wg_queues (s : State) (r : BitVec 5) (x : Word) : (s.wg r x).queues = s.queues := rfl
@[simp] theorem State.wg_qtBase (s : State) (r : BitVec 5) (x : Word) : (s.wg r x).qtBase = s.qtBase := rfl
@[simp] theorem State.wg_pageAge (s : State) (r : BitVec 5) (x : Word) : (s.wg r x).pageAge = s.pageAge := rfl
@[simp] theorem State.wg_slots (s : State) (r : BitVec 5) (x : Word) : (s.wg r x).slots = s.slots := rfl
@[simp] theorem State.wg_hostMem (s : State) (r : BitVec 5) (x : Word) : (s.wg r x).hostMem = s.hostMem := rfl
@[simp] theorem State.wg_pendWakes (s : State) (r : BitVec 5) (x : Word) : (s.wg r x).pendWakes = s.pendWakes := rfl
@[simp] theorem State.wg_beat (s : State) (r : BitVec 5) (x : Word) : (s.wg r x).beat = s.beat := rfl
@[simp] theorem State.wg_tierQ (s : State) (r : BitVec 5) (x : Word) : (s.wg r x).tierQ = s.tierQ := rfl
@[simp] theorem State.wg_umpLast (s : State) (r : BitVec 5) (x : Word) : (s.wg r x).umpLast = s.umpLast := rfl
@[simp] theorem State.wg_launches (s : State) (r : BitVec 5) (x : Word) : (s.wg r x).launches = s.launches := rfl
@[simp] theorem State.wg_nextLaunch (s : State) (r : BitVec 5) (x : Word) : (s.wg r x).nextLaunch = s.nextLaunch := rfl
@[simp] theorem State.wg_ports (s : State) (r : BitVec 5) (x : Word) : (s.wg r x).ports = s.ports := rfl
@[simp] theorem State.wg_module (s : State) (r : BitVec 5) (x : Word) : (s.wg r x).module = s.module := rfl
@[simp] theorem State.wg_time (s : State) (r : BitVec 5) (x : Word) : (s.wg r x).time = s.time := rfl
@[simp] theorem State.wg_slew (s : State) (r : BitVec 5) (x : Word) : (s.wg r x).slew = s.slew := rfl
@[simp] theorem State.wg_cptBase (s : State) (r : BitVec 5) (x : Word) : (s.wg r x).cptBase = s.cptBase := rfl
@[simp] theorem State.wg_bootPhase (s : State) (r : BitVec 5) (x : Word) : (s.wg r x).bootPhase = s.bootPhase := rfl
@[simp] theorem State.wg_safe (s : State) (r : BitVec 5) (x : Word) : (s.wg r x).safe = s.safe := rfl
@[simp] theorem State.wg_failRec (s : State) (r : BitVec 5) (x : Word) : (s.wg r x).failRec = s.failRec := rfl
@[simp] theorem State.wg_bootImage (s : State) (r : BitVec 5) (x : Word) : (s.wg r x).bootImage = s.bootImage := rfl
@[simp] theorem State.wg_verified (s : State) (r : BitVec 5) (x : Word) : (s.wg r x).verified = s.verified := rfl
@[simp] theorem State.wg_harvested (s : State) (r : BitVec 5) (x : Word) : (s.wg r x).harvested = s.harvested := rfl
@[simp] theorem State.wg_umpirePc (s : State) (r : BitVec 5) (x : Word) : (s.wg r x).umpirePc = s.umpirePc := rfl
@[simp] theorem State.wg_owed (s : State) (r : BitVec 5) (x : Word) : (s.wg r x).owed = s.owed := rfl
@[simp] theorem State.wg_heldStops (s : State) (r : BitVec 5) (x : Word) : (s.wg r x).heldStops = s.heldStops := rfl
@[simp] theorem State.wg_agenda (s : State) (r : BitVec 5) (x : Word) : (s.wg r x).agenda = s.agenda := rfl
@[simp] theorem State.wg_ev (s : State) (r : BitVec 5) (x : Word) : (s.wg r x).ev = s.ev := rfl
@[simp] theorem State.wg_cur (s : State) (r : BitVec 5) (x : Word) : (s.wg r x).cur = s.cur := rfl
@[simp] theorem State.wg_delays (s : State) (r : BitVec 5) (x : Word) : (s.wg r x).delays = s.delays := rfl
@[simp] theorem State.wg_paceCycles (s : State) (r : BitVec 5) (x : Word) : (s.wg r x).paceCycles = s.paceCycles := rfl
@[simp] theorem State.wg_paceTicks (s : State) (r : BitVec 5) (x : Word) : (s.wg r x).paceTicks = s.paceTicks := rfl
@[simp] theorem State.wg_grp (s : State) (r : BitVec 5) (x : Word) : (s.wg r x).grp = s.grp := rfl
@[simp] theorem State.wg_budgetWritten (s : State) (r : BitVec 5) (x : Word) : (s.wg r x).budgetWritten = s.budgetWritten := rfl
@[simp] theorem State.wg_budgetGrant (s : State) (r : BitVec 5) (x : Word) : (s.wg r x).budgetGrant = s.budgetGrant := rfl
@[simp] theorem State.wg_cycles (s : State) (r : BitVec 5) (x : Word) : (s.wg r x).cycles = s.cycles := rfl
@[simp] theorem State.wg_nextGang (s : State) (r : BitVec 5) (x : Word) : (s.wg r x).nextGang = s.nextGang := rfl
@[simp] theorem State.wg_nextTask (s : State) (r : BitVec 5) (x : Word) : (s.wg r x).nextTask = s.nextTask := rfl
@[simp] theorem State.wg_freeCtr (s : State) (r : BitVec 5) (x : Word) : (s.wg r x).freeCtr = s.freeCtr := rfl
@[simp] theorem State.wg_outbox (s : State) (r : BitVec 5) (x : Word) : (s.wg r x).outbox = s.outbox := rfl

@[simp] theorem State.wv_cores (s : State) (r : BitVec 5) (x : VWord) : (s.wv r x).cores = s.cores := rfl
@[simp] theorem State.wv_tiles (s : State) (r : BitVec 5) (x : VWord) : (s.wv r x).tiles = s.tiles := rfl
@[simp] theorem State.wv_cols (s : State) (r : BitVec 5) (x : VWord) : (s.wv r x).cols = s.cols := rfl
@[simp] theorem State.wv_regions (s : State) (r : BitVec 5) (x : VWord) : (s.wv r x).regions = s.regions := rfl
@[simp] theorem State.wv_rcbs (s : State) (r : BitVec 5) (x : VWord) : (s.wv r x).rcbs = s.rcbs := rfl
@[simp] theorem State.wv_mem (s : State) (r : BitVec 5) (x : VWord) : (s.wv r x).mem = s.mem := rfl
@[simp] theorem State.wv_full (s : State) (r : BitVec 5) (x : VWord) : (s.wv r x).full = s.full := rfl
@[simp] theorem State.wv_poison (s : State) (r : BitVec 5) (x : VWord) : (s.wv r x).poison = s.poison := rfl
@[simp] theorem State.wv_net (s : State) (r : BitVec 5) (x : VWord) : (s.wv r x).net = s.net := rfl
@[simp] theorem State.wv_nextPkt (s : State) (r : BitVec 5) (x : VWord) : (s.wv r x).nextPkt = s.nextPkt := rfl
@[simp] theorem State.wv_queues (s : State) (r : BitVec 5) (x : VWord) : (s.wv r x).queues = s.queues := rfl
@[simp] theorem State.wv_qtBase (s : State) (r : BitVec 5) (x : VWord) : (s.wv r x).qtBase = s.qtBase := rfl
@[simp] theorem State.wv_pageAge (s : State) (r : BitVec 5) (x : VWord) : (s.wv r x).pageAge = s.pageAge := rfl
@[simp] theorem State.wv_slots (s : State) (r : BitVec 5) (x : VWord) : (s.wv r x).slots = s.slots := rfl
@[simp] theorem State.wv_hostMem (s : State) (r : BitVec 5) (x : VWord) : (s.wv r x).hostMem = s.hostMem := rfl
@[simp] theorem State.wv_pendWakes (s : State) (r : BitVec 5) (x : VWord) : (s.wv r x).pendWakes = s.pendWakes := rfl
@[simp] theorem State.wv_beat (s : State) (r : BitVec 5) (x : VWord) : (s.wv r x).beat = s.beat := rfl
@[simp] theorem State.wv_tierQ (s : State) (r : BitVec 5) (x : VWord) : (s.wv r x).tierQ = s.tierQ := rfl
@[simp] theorem State.wv_umpLast (s : State) (r : BitVec 5) (x : VWord) : (s.wv r x).umpLast = s.umpLast := rfl
@[simp] theorem State.wv_launches (s : State) (r : BitVec 5) (x : VWord) : (s.wv r x).launches = s.launches := rfl
@[simp] theorem State.wv_nextLaunch (s : State) (r : BitVec 5) (x : VWord) : (s.wv r x).nextLaunch = s.nextLaunch := rfl
@[simp] theorem State.wv_ports (s : State) (r : BitVec 5) (x : VWord) : (s.wv r x).ports = s.ports := rfl
@[simp] theorem State.wv_module (s : State) (r : BitVec 5) (x : VWord) : (s.wv r x).module = s.module := rfl
@[simp] theorem State.wv_time (s : State) (r : BitVec 5) (x : VWord) : (s.wv r x).time = s.time := rfl
@[simp] theorem State.wv_slew (s : State) (r : BitVec 5) (x : VWord) : (s.wv r x).slew = s.slew := rfl
@[simp] theorem State.wv_cptBase (s : State) (r : BitVec 5) (x : VWord) : (s.wv r x).cptBase = s.cptBase := rfl
@[simp] theorem State.wv_bootPhase (s : State) (r : BitVec 5) (x : VWord) : (s.wv r x).bootPhase = s.bootPhase := rfl
@[simp] theorem State.wv_safe (s : State) (r : BitVec 5) (x : VWord) : (s.wv r x).safe = s.safe := rfl
@[simp] theorem State.wv_failRec (s : State) (r : BitVec 5) (x : VWord) : (s.wv r x).failRec = s.failRec := rfl
@[simp] theorem State.wv_bootImage (s : State) (r : BitVec 5) (x : VWord) : (s.wv r x).bootImage = s.bootImage := rfl
@[simp] theorem State.wv_verified (s : State) (r : BitVec 5) (x : VWord) : (s.wv r x).verified = s.verified := rfl
@[simp] theorem State.wv_harvested (s : State) (r : BitVec 5) (x : VWord) : (s.wv r x).harvested = s.harvested := rfl
@[simp] theorem State.wv_umpirePc (s : State) (r : BitVec 5) (x : VWord) : (s.wv r x).umpirePc = s.umpirePc := rfl
@[simp] theorem State.wv_owed (s : State) (r : BitVec 5) (x : VWord) : (s.wv r x).owed = s.owed := rfl
@[simp] theorem State.wv_heldStops (s : State) (r : BitVec 5) (x : VWord) : (s.wv r x).heldStops = s.heldStops := rfl
@[simp] theorem State.wv_agenda (s : State) (r : BitVec 5) (x : VWord) : (s.wv r x).agenda = s.agenda := rfl
@[simp] theorem State.wv_ev (s : State) (r : BitVec 5) (x : VWord) : (s.wv r x).ev = s.ev := rfl
@[simp] theorem State.wv_cur (s : State) (r : BitVec 5) (x : VWord) : (s.wv r x).cur = s.cur := rfl
@[simp] theorem State.wv_delays (s : State) (r : BitVec 5) (x : VWord) : (s.wv r x).delays = s.delays := rfl
@[simp] theorem State.wv_paceCycles (s : State) (r : BitVec 5) (x : VWord) : (s.wv r x).paceCycles = s.paceCycles := rfl
@[simp] theorem State.wv_paceTicks (s : State) (r : BitVec 5) (x : VWord) : (s.wv r x).paceTicks = s.paceTicks := rfl
@[simp] theorem State.wv_grp (s : State) (r : BitVec 5) (x : VWord) : (s.wv r x).grp = s.grp := rfl
@[simp] theorem State.wv_budgetWritten (s : State) (r : BitVec 5) (x : VWord) : (s.wv r x).budgetWritten = s.budgetWritten := rfl
@[simp] theorem State.wv_budgetGrant (s : State) (r : BitVec 5) (x : VWord) : (s.wv r x).budgetGrant = s.budgetGrant := rfl
@[simp] theorem State.wv_cycles (s : State) (r : BitVec 5) (x : VWord) : (s.wv r x).cycles = s.cycles := rfl
@[simp] theorem State.wv_nextGang (s : State) (r : BitVec 5) (x : VWord) : (s.wv r x).nextGang = s.nextGang := rfl
@[simp] theorem State.wv_nextTask (s : State) (r : BitVec 5) (x : VWord) : (s.wv r x).nextTask = s.nextTask := rfl
@[simp] theorem State.wv_freeCtr (s : State) (r : BitVec 5) (x : VWord) : (s.wv r x).freeCtr = s.freeCtr := rfl
@[simp] theorem State.wv_outbox (s : State) (r : BitVec 5) (x : VWord) : (s.wv r x).outbox = s.outbox := rfl

@[simp] theorem State.raise_cores (s : State) (f : BitVec 6) : (s.raise f).cores = s.cores := rfl
@[simp] theorem State.raise_tiles (s : State) (f : BitVec 6) : (s.raise f).tiles = s.tiles := rfl
@[simp] theorem State.raise_cols (s : State) (f : BitVec 6) : (s.raise f).cols = s.cols := rfl
@[simp] theorem State.raise_regions (s : State) (f : BitVec 6) : (s.raise f).regions = s.regions := rfl
@[simp] theorem State.raise_rcbs (s : State) (f : BitVec 6) : (s.raise f).rcbs = s.rcbs := rfl
@[simp] theorem State.raise_mem (s : State) (f : BitVec 6) : (s.raise f).mem = s.mem := rfl
@[simp] theorem State.raise_full (s : State) (f : BitVec 6) : (s.raise f).full = s.full := rfl
@[simp] theorem State.raise_poison (s : State) (f : BitVec 6) : (s.raise f).poison = s.poison := rfl
@[simp] theorem State.raise_net (s : State) (f : BitVec 6) : (s.raise f).net = s.net := rfl
@[simp] theorem State.raise_nextPkt (s : State) (f : BitVec 6) : (s.raise f).nextPkt = s.nextPkt := rfl
@[simp] theorem State.raise_queues (s : State) (f : BitVec 6) : (s.raise f).queues = s.queues := rfl
@[simp] theorem State.raise_qtBase (s : State) (f : BitVec 6) : (s.raise f).qtBase = s.qtBase := rfl
@[simp] theorem State.raise_pageAge (s : State) (f : BitVec 6) : (s.raise f).pageAge = s.pageAge := rfl
@[simp] theorem State.raise_slots (s : State) (f : BitVec 6) : (s.raise f).slots = s.slots := rfl
@[simp] theorem State.raise_hostMem (s : State) (f : BitVec 6) : (s.raise f).hostMem = s.hostMem := rfl
@[simp] theorem State.raise_pendWakes (s : State) (f : BitVec 6) : (s.raise f).pendWakes = s.pendWakes := rfl
@[simp] theorem State.raise_beat (s : State) (f : BitVec 6) : (s.raise f).beat = s.beat := rfl
@[simp] theorem State.raise_tierQ (s : State) (f : BitVec 6) : (s.raise f).tierQ = s.tierQ := rfl
@[simp] theorem State.raise_umpLast (s : State) (f : BitVec 6) : (s.raise f).umpLast = s.umpLast := rfl
@[simp] theorem State.raise_launches (s : State) (f : BitVec 6) : (s.raise f).launches = s.launches := rfl
@[simp] theorem State.raise_nextLaunch (s : State) (f : BitVec 6) : (s.raise f).nextLaunch = s.nextLaunch := rfl
@[simp] theorem State.raise_ports (s : State) (f : BitVec 6) : (s.raise f).ports = s.ports := rfl
@[simp] theorem State.raise_module (s : State) (f : BitVec 6) : (s.raise f).module = s.module := rfl
@[simp] theorem State.raise_time (s : State) (f : BitVec 6) : (s.raise f).time = s.time := rfl
@[simp] theorem State.raise_slew (s : State) (f : BitVec 6) : (s.raise f).slew = s.slew := rfl
@[simp] theorem State.raise_cptBase (s : State) (f : BitVec 6) : (s.raise f).cptBase = s.cptBase := rfl
@[simp] theorem State.raise_bootPhase (s : State) (f : BitVec 6) : (s.raise f).bootPhase = s.bootPhase := rfl
@[simp] theorem State.raise_safe (s : State) (f : BitVec 6) : (s.raise f).safe = s.safe := rfl
@[simp] theorem State.raise_failRec (s : State) (f : BitVec 6) : (s.raise f).failRec = s.failRec := rfl
@[simp] theorem State.raise_bootImage (s : State) (f : BitVec 6) : (s.raise f).bootImage = s.bootImage := rfl
@[simp] theorem State.raise_verified (s : State) (f : BitVec 6) : (s.raise f).verified = s.verified := rfl
@[simp] theorem State.raise_harvested (s : State) (f : BitVec 6) : (s.raise f).harvested = s.harvested := rfl
@[simp] theorem State.raise_umpirePc (s : State) (f : BitVec 6) : (s.raise f).umpirePc = s.umpirePc := rfl
@[simp] theorem State.raise_owed (s : State) (f : BitVec 6) : (s.raise f).owed = s.owed := rfl
@[simp] theorem State.raise_heldStops (s : State) (f : BitVec 6) : (s.raise f).heldStops = s.heldStops := rfl
@[simp] theorem State.raise_agenda (s : State) (f : BitVec 6) : (s.raise f).agenda = s.agenda := rfl
@[simp] theorem State.raise_ev (s : State) (f : BitVec 6) : (s.raise f).ev = s.ev := rfl
@[simp] theorem State.raise_cur (s : State) (f : BitVec 6) : (s.raise f).cur = s.cur := rfl
@[simp] theorem State.raise_delays (s : State) (f : BitVec 6) : (s.raise f).delays = s.delays := rfl
@[simp] theorem State.raise_paceCycles (s : State) (f : BitVec 6) : (s.raise f).paceCycles = s.paceCycles := rfl
@[simp] theorem State.raise_paceTicks (s : State) (f : BitVec 6) : (s.raise f).paceTicks = s.paceTicks := rfl
@[simp] theorem State.raise_grp (s : State) (f : BitVec 6) : (s.raise f).grp = s.grp := rfl
@[simp] theorem State.raise_budgetWritten (s : State) (f : BitVec 6) : (s.raise f).budgetWritten = s.budgetWritten := rfl
@[simp] theorem State.raise_budgetGrant (s : State) (f : BitVec 6) : (s.raise f).budgetGrant = s.budgetGrant := rfl
@[simp] theorem State.raise_cycles (s : State) (f : BitVec 6) : (s.raise f).cycles = s.cycles := rfl
@[simp] theorem State.raise_nextGang (s : State) (f : BitVec 6) : (s.raise f).nextGang = s.nextGang := rfl
@[simp] theorem State.raise_nextTask (s : State) (f : BitVec 6) : (s.raise f).nextTask = s.nextTask := rfl
@[simp] theorem State.raise_freeCtr (s : State) (f : BitVec 6) : (s.raise f).freeCtr = s.freeCtr := rfl
@[simp] theorem State.raise_outbox (s : State) (f : BitVec 6) : (s.raise f).outbox = s.outbox := rfl

@[simp] theorem State.finish_cores (s : State) : (s.finish).cores = s.cores := rfl
@[simp] theorem State.finish_tiles (s : State) : (s.finish).tiles = s.tiles := rfl
@[simp] theorem State.finish_cols (s : State) : (s.finish).cols = s.cols := rfl
@[simp] theorem State.finish_regions (s : State) : (s.finish).regions = s.regions := rfl
@[simp] theorem State.finish_rcbs (s : State) : (s.finish).rcbs = s.rcbs := rfl
@[simp] theorem State.finish_mem (s : State) : (s.finish).mem = s.mem := rfl
@[simp] theorem State.finish_full (s : State) : (s.finish).full = s.full := rfl
@[simp] theorem State.finish_poison (s : State) : (s.finish).poison = s.poison := rfl
@[simp] theorem State.finish_net (s : State) : (s.finish).net = s.net := rfl
@[simp] theorem State.finish_nextPkt (s : State) : (s.finish).nextPkt = s.nextPkt := rfl
@[simp] theorem State.finish_queues (s : State) : (s.finish).queues = s.queues := rfl
@[simp] theorem State.finish_qtBase (s : State) : (s.finish).qtBase = s.qtBase := rfl
@[simp] theorem State.finish_pageAge (s : State) : (s.finish).pageAge = s.pageAge := rfl
@[simp] theorem State.finish_slots (s : State) : (s.finish).slots = s.slots := rfl
@[simp] theorem State.finish_hostMem (s : State) : (s.finish).hostMem = s.hostMem := rfl
@[simp] theorem State.finish_pendWakes (s : State) : (s.finish).pendWakes = s.pendWakes := rfl
@[simp] theorem State.finish_beat (s : State) : (s.finish).beat = s.beat := rfl
@[simp] theorem State.finish_tierQ (s : State) : (s.finish).tierQ = s.tierQ := rfl
@[simp] theorem State.finish_umpLast (s : State) : (s.finish).umpLast = s.umpLast := rfl
@[simp] theorem State.finish_launches (s : State) : (s.finish).launches = s.launches := rfl
@[simp] theorem State.finish_nextLaunch (s : State) : (s.finish).nextLaunch = s.nextLaunch := rfl
@[simp] theorem State.finish_ports (s : State) : (s.finish).ports = s.ports := rfl
@[simp] theorem State.finish_module (s : State) : (s.finish).module = s.module := rfl
@[simp] theorem State.finish_time (s : State) : (s.finish).time = s.time := rfl
@[simp] theorem State.finish_slew (s : State) : (s.finish).slew = s.slew := rfl
@[simp] theorem State.finish_cptBase (s : State) : (s.finish).cptBase = s.cptBase := rfl
@[simp] theorem State.finish_bootPhase (s : State) : (s.finish).bootPhase = s.bootPhase := rfl
@[simp] theorem State.finish_safe (s : State) : (s.finish).safe = s.safe := rfl
@[simp] theorem State.finish_failRec (s : State) : (s.finish).failRec = s.failRec := rfl
@[simp] theorem State.finish_bootImage (s : State) : (s.finish).bootImage = s.bootImage := rfl
@[simp] theorem State.finish_verified (s : State) : (s.finish).verified = s.verified := rfl
@[simp] theorem State.finish_harvested (s : State) : (s.finish).harvested = s.harvested := rfl
@[simp] theorem State.finish_umpirePc (s : State) : (s.finish).umpirePc = s.umpirePc := rfl
@[simp] theorem State.finish_owed (s : State) : (s.finish).owed = s.owed := rfl
@[simp] theorem State.finish_heldStops (s : State) : (s.finish).heldStops = s.heldStops := rfl
@[simp] theorem State.finish_agenda (s : State) : (s.finish).agenda = s.agenda := rfl
@[simp] theorem State.finish_ev (s : State) : (s.finish).ev = s.ev := rfl
@[simp] theorem State.finish_cur (s : State) : (s.finish).cur = s.cur := rfl
@[simp] theorem State.finish_delays (s : State) : (s.finish).delays = s.delays := rfl
@[simp] theorem State.finish_paceCycles (s : State) : (s.finish).paceCycles = s.paceCycles := rfl
@[simp] theorem State.finish_paceTicks (s : State) : (s.finish).paceTicks = s.paceTicks := rfl
@[simp] theorem State.finish_grp (s : State) : (s.finish).grp = s.grp := rfl
@[simp] theorem State.finish_budgetWritten (s : State) : (s.finish).budgetWritten = s.budgetWritten := rfl
@[simp] theorem State.finish_budgetGrant (s : State) : (s.finish).budgetGrant = s.budgetGrant := rfl
@[simp] theorem State.finish_cycles (s : State) : (s.finish).cycles = s.cycles := rfl
@[simp] theorem State.finish_nextGang (s : State) : (s.finish).nextGang = s.nextGang := rfl
@[simp] theorem State.finish_nextTask (s : State) : (s.finish).nextTask = s.nextTask := rfl
@[simp] theorem State.finish_freeCtr (s : State) : (s.finish).freeCtr = s.freeCtr := rfl
@[simp] theorem State.finish_outbox (s : State) : (s.finish).outbox = s.outbox := rfl

@[simp] theorem State.setCoreAt_ctxs (s : State) (k : Nat) (x : Core) : (s.setCoreAt k x).ctxs = s.ctxs := rfl
@[simp] theorem State.setCoreAt_tiles (s : State) (k : Nat) (x : Core) : (s.setCoreAt k x).tiles = s.tiles := rfl
@[simp] theorem State.setCoreAt_cols (s : State) (k : Nat) (x : Core) : (s.setCoreAt k x).cols = s.cols := rfl
@[simp] theorem State.setCoreAt_regions (s : State) (k : Nat) (x : Core) : (s.setCoreAt k x).regions = s.regions := rfl
@[simp] theorem State.setCoreAt_rcbs (s : State) (k : Nat) (x : Core) : (s.setCoreAt k x).rcbs = s.rcbs := rfl
@[simp] theorem State.setCoreAt_mem (s : State) (k : Nat) (x : Core) : (s.setCoreAt k x).mem = s.mem := rfl
@[simp] theorem State.setCoreAt_full (s : State) (k : Nat) (x : Core) : (s.setCoreAt k x).full = s.full := rfl
@[simp] theorem State.setCoreAt_poison (s : State) (k : Nat) (x : Core) : (s.setCoreAt k x).poison = s.poison := rfl
@[simp] theorem State.setCoreAt_net (s : State) (k : Nat) (x : Core) : (s.setCoreAt k x).net = s.net := rfl
@[simp] theorem State.setCoreAt_nextPkt (s : State) (k : Nat) (x : Core) : (s.setCoreAt k x).nextPkt = s.nextPkt := rfl
@[simp] theorem State.setCoreAt_queues (s : State) (k : Nat) (x : Core) : (s.setCoreAt k x).queues = s.queues := rfl
@[simp] theorem State.setCoreAt_qtBase (s : State) (k : Nat) (x : Core) : (s.setCoreAt k x).qtBase = s.qtBase := rfl
@[simp] theorem State.setCoreAt_pageAge (s : State) (k : Nat) (x : Core) : (s.setCoreAt k x).pageAge = s.pageAge := rfl
@[simp] theorem State.setCoreAt_slots (s : State) (k : Nat) (x : Core) : (s.setCoreAt k x).slots = s.slots := rfl
@[simp] theorem State.setCoreAt_hostMem (s : State) (k : Nat) (x : Core) : (s.setCoreAt k x).hostMem = s.hostMem := rfl
@[simp] theorem State.setCoreAt_pendWakes (s : State) (k : Nat) (x : Core) : (s.setCoreAt k x).pendWakes = s.pendWakes := rfl
@[simp] theorem State.setCoreAt_beat (s : State) (k : Nat) (x : Core) : (s.setCoreAt k x).beat = s.beat := rfl
@[simp] theorem State.setCoreAt_tierQ (s : State) (k : Nat) (x : Core) : (s.setCoreAt k x).tierQ = s.tierQ := rfl
@[simp] theorem State.setCoreAt_umpLast (s : State) (k : Nat) (x : Core) : (s.setCoreAt k x).umpLast = s.umpLast := rfl
@[simp] theorem State.setCoreAt_launches (s : State) (k : Nat) (x : Core) : (s.setCoreAt k x).launches = s.launches := rfl
@[simp] theorem State.setCoreAt_nextLaunch (s : State) (k : Nat) (x : Core) : (s.setCoreAt k x).nextLaunch = s.nextLaunch := rfl
@[simp] theorem State.setCoreAt_ports (s : State) (k : Nat) (x : Core) : (s.setCoreAt k x).ports = s.ports := rfl
@[simp] theorem State.setCoreAt_module (s : State) (k : Nat) (x : Core) : (s.setCoreAt k x).module = s.module := rfl
@[simp] theorem State.setCoreAt_time (s : State) (k : Nat) (x : Core) : (s.setCoreAt k x).time = s.time := rfl
@[simp] theorem State.setCoreAt_slew (s : State) (k : Nat) (x : Core) : (s.setCoreAt k x).slew = s.slew := rfl
@[simp] theorem State.setCoreAt_cptBase (s : State) (k : Nat) (x : Core) : (s.setCoreAt k x).cptBase = s.cptBase := rfl
@[simp] theorem State.setCoreAt_bootPhase (s : State) (k : Nat) (x : Core) : (s.setCoreAt k x).bootPhase = s.bootPhase := rfl
@[simp] theorem State.setCoreAt_safe (s : State) (k : Nat) (x : Core) : (s.setCoreAt k x).safe = s.safe := rfl
@[simp] theorem State.setCoreAt_failRec (s : State) (k : Nat) (x : Core) : (s.setCoreAt k x).failRec = s.failRec := rfl
@[simp] theorem State.setCoreAt_bootImage (s : State) (k : Nat) (x : Core) : (s.setCoreAt k x).bootImage = s.bootImage := rfl
@[simp] theorem State.setCoreAt_verified (s : State) (k : Nat) (x : Core) : (s.setCoreAt k x).verified = s.verified := rfl
@[simp] theorem State.setCoreAt_harvested (s : State) (k : Nat) (x : Core) : (s.setCoreAt k x).harvested = s.harvested := rfl
@[simp] theorem State.setCoreAt_umpirePc (s : State) (k : Nat) (x : Core) : (s.setCoreAt k x).umpirePc = s.umpirePc := rfl
@[simp] theorem State.setCoreAt_owed (s : State) (k : Nat) (x : Core) : (s.setCoreAt k x).owed = s.owed := rfl
@[simp] theorem State.setCoreAt_heldStops (s : State) (k : Nat) (x : Core) : (s.setCoreAt k x).heldStops = s.heldStops := rfl
@[simp] theorem State.setCoreAt_agenda (s : State) (k : Nat) (x : Core) : (s.setCoreAt k x).agenda = s.agenda := rfl
@[simp] theorem State.setCoreAt_ev (s : State) (k : Nat) (x : Core) : (s.setCoreAt k x).ev = s.ev := rfl
@[simp] theorem State.setCoreAt_cur (s : State) (k : Nat) (x : Core) : (s.setCoreAt k x).cur = s.cur := rfl
@[simp] theorem State.setCoreAt_delays (s : State) (k : Nat) (x : Core) : (s.setCoreAt k x).delays = s.delays := rfl
@[simp] theorem State.setCoreAt_paceCycles (s : State) (k : Nat) (x : Core) : (s.setCoreAt k x).paceCycles = s.paceCycles := rfl
@[simp] theorem State.setCoreAt_paceTicks (s : State) (k : Nat) (x : Core) : (s.setCoreAt k x).paceTicks = s.paceTicks := rfl
@[simp] theorem State.setCoreAt_grp (s : State) (k : Nat) (x : Core) : (s.setCoreAt k x).grp = s.grp := rfl
@[simp] theorem State.setCoreAt_budgetWritten (s : State) (k : Nat) (x : Core) : (s.setCoreAt k x).budgetWritten = s.budgetWritten := rfl
@[simp] theorem State.setCoreAt_budgetGrant (s : State) (k : Nat) (x : Core) : (s.setCoreAt k x).budgetGrant = s.budgetGrant := rfl
@[simp] theorem State.setCoreAt_cycles (s : State) (k : Nat) (x : Core) : (s.setCoreAt k x).cycles = s.cycles := rfl
@[simp] theorem State.setCoreAt_nextGang (s : State) (k : Nat) (x : Core) : (s.setCoreAt k x).nextGang = s.nextGang := rfl
@[simp] theorem State.setCoreAt_nextTask (s : State) (k : Nat) (x : Core) : (s.setCoreAt k x).nextTask = s.nextTask := rfl
@[simp] theorem State.setCoreAt_freeCtr (s : State) (k : Nat) (x : Core) : (s.setCoreAt k x).freeCtr = s.freeCtr := rfl
@[simp] theorem State.setCoreAt_outbox (s : State) (k : Nat) (x : Core) : (s.setCoreAt k x).outbox = s.outbox := rfl

@[simp] theorem State.setCore_ctxs (s : State) (x : Core) : (s.setCore x).ctxs = s.ctxs := rfl
@[simp] theorem State.setCore_tiles (s : State) (x : Core) : (s.setCore x).tiles = s.tiles := rfl
@[simp] theorem State.setCore_cols (s : State) (x : Core) : (s.setCore x).cols = s.cols := rfl
@[simp] theorem State.setCore_regions (s : State) (x : Core) : (s.setCore x).regions = s.regions := rfl
@[simp] theorem State.setCore_rcbs (s : State) (x : Core) : (s.setCore x).rcbs = s.rcbs := rfl
@[simp] theorem State.setCore_mem (s : State) (x : Core) : (s.setCore x).mem = s.mem := rfl
@[simp] theorem State.setCore_full (s : State) (x : Core) : (s.setCore x).full = s.full := rfl
@[simp] theorem State.setCore_poison (s : State) (x : Core) : (s.setCore x).poison = s.poison := rfl
@[simp] theorem State.setCore_net (s : State) (x : Core) : (s.setCore x).net = s.net := rfl
@[simp] theorem State.setCore_nextPkt (s : State) (x : Core) : (s.setCore x).nextPkt = s.nextPkt := rfl
@[simp] theorem State.setCore_queues (s : State) (x : Core) : (s.setCore x).queues = s.queues := rfl
@[simp] theorem State.setCore_qtBase (s : State) (x : Core) : (s.setCore x).qtBase = s.qtBase := rfl
@[simp] theorem State.setCore_pageAge (s : State) (x : Core) : (s.setCore x).pageAge = s.pageAge := rfl
@[simp] theorem State.setCore_slots (s : State) (x : Core) : (s.setCore x).slots = s.slots := rfl
@[simp] theorem State.setCore_hostMem (s : State) (x : Core) : (s.setCore x).hostMem = s.hostMem := rfl
@[simp] theorem State.setCore_pendWakes (s : State) (x : Core) : (s.setCore x).pendWakes = s.pendWakes := rfl
@[simp] theorem State.setCore_beat (s : State) (x : Core) : (s.setCore x).beat = s.beat := rfl
@[simp] theorem State.setCore_tierQ (s : State) (x : Core) : (s.setCore x).tierQ = s.tierQ := rfl
@[simp] theorem State.setCore_umpLast (s : State) (x : Core) : (s.setCore x).umpLast = s.umpLast := rfl
@[simp] theorem State.setCore_launches (s : State) (x : Core) : (s.setCore x).launches = s.launches := rfl
@[simp] theorem State.setCore_nextLaunch (s : State) (x : Core) : (s.setCore x).nextLaunch = s.nextLaunch := rfl
@[simp] theorem State.setCore_ports (s : State) (x : Core) : (s.setCore x).ports = s.ports := rfl
@[simp] theorem State.setCore_module (s : State) (x : Core) : (s.setCore x).module = s.module := rfl
@[simp] theorem State.setCore_time (s : State) (x : Core) : (s.setCore x).time = s.time := rfl
@[simp] theorem State.setCore_slew (s : State) (x : Core) : (s.setCore x).slew = s.slew := rfl
@[simp] theorem State.setCore_cptBase (s : State) (x : Core) : (s.setCore x).cptBase = s.cptBase := rfl
@[simp] theorem State.setCore_bootPhase (s : State) (x : Core) : (s.setCore x).bootPhase = s.bootPhase := rfl
@[simp] theorem State.setCore_safe (s : State) (x : Core) : (s.setCore x).safe = s.safe := rfl
@[simp] theorem State.setCore_failRec (s : State) (x : Core) : (s.setCore x).failRec = s.failRec := rfl
@[simp] theorem State.setCore_bootImage (s : State) (x : Core) : (s.setCore x).bootImage = s.bootImage := rfl
@[simp] theorem State.setCore_verified (s : State) (x : Core) : (s.setCore x).verified = s.verified := rfl
@[simp] theorem State.setCore_harvested (s : State) (x : Core) : (s.setCore x).harvested = s.harvested := rfl
@[simp] theorem State.setCore_umpirePc (s : State) (x : Core) : (s.setCore x).umpirePc = s.umpirePc := rfl
@[simp] theorem State.setCore_owed (s : State) (x : Core) : (s.setCore x).owed = s.owed := rfl
@[simp] theorem State.setCore_heldStops (s : State) (x : Core) : (s.setCore x).heldStops = s.heldStops := rfl
@[simp] theorem State.setCore_agenda (s : State) (x : Core) : (s.setCore x).agenda = s.agenda := rfl
@[simp] theorem State.setCore_ev (s : State) (x : Core) : (s.setCore x).ev = s.ev := rfl
@[simp] theorem State.setCore_cur (s : State) (x : Core) : (s.setCore x).cur = s.cur := rfl
@[simp] theorem State.setCore_delays (s : State) (x : Core) : (s.setCore x).delays = s.delays := rfl
@[simp] theorem State.setCore_paceCycles (s : State) (x : Core) : (s.setCore x).paceCycles = s.paceCycles := rfl
@[simp] theorem State.setCore_paceTicks (s : State) (x : Core) : (s.setCore x).paceTicks = s.paceTicks := rfl
@[simp] theorem State.setCore_grp (s : State) (x : Core) : (s.setCore x).grp = s.grp := rfl
@[simp] theorem State.setCore_budgetWritten (s : State) (x : Core) : (s.setCore x).budgetWritten = s.budgetWritten := rfl
@[simp] theorem State.setCore_budgetGrant (s : State) (x : Core) : (s.setCore x).budgetGrant = s.budgetGrant := rfl
@[simp] theorem State.setCore_cycles (s : State) (x : Core) : (s.setCore x).cycles = s.cycles := rfl
@[simp] theorem State.setCore_nextGang (s : State) (x : Core) : (s.setCore x).nextGang = s.nextGang := rfl
@[simp] theorem State.setCore_nextTask (s : State) (x : Core) : (s.setCore x).nextTask = s.nextTask := rfl
@[simp] theorem State.setCore_freeCtr (s : State) (x : Core) : (s.setCore x).freeCtr = s.freeCtr := rfl
@[simp] theorem State.setCore_outbox (s : State) (x : Core) : (s.setCore x).outbox = s.outbox := rfl

@[simp] theorem State.setTileAt_ctxs (s : State) (k : Nat) (x : Tile) : (s.setTileAt k x).ctxs = s.ctxs := rfl
@[simp] theorem State.setTileAt_cores (s : State) (k : Nat) (x : Tile) : (s.setTileAt k x).cores = s.cores := rfl
@[simp] theorem State.setTileAt_cols (s : State) (k : Nat) (x : Tile) : (s.setTileAt k x).cols = s.cols := rfl
@[simp] theorem State.setTileAt_regions (s : State) (k : Nat) (x : Tile) : (s.setTileAt k x).regions = s.regions := rfl
@[simp] theorem State.setTileAt_rcbs (s : State) (k : Nat) (x : Tile) : (s.setTileAt k x).rcbs = s.rcbs := rfl
@[simp] theorem State.setTileAt_mem (s : State) (k : Nat) (x : Tile) : (s.setTileAt k x).mem = s.mem := rfl
@[simp] theorem State.setTileAt_full (s : State) (k : Nat) (x : Tile) : (s.setTileAt k x).full = s.full := rfl
@[simp] theorem State.setTileAt_poison (s : State) (k : Nat) (x : Tile) : (s.setTileAt k x).poison = s.poison := rfl
@[simp] theorem State.setTileAt_net (s : State) (k : Nat) (x : Tile) : (s.setTileAt k x).net = s.net := rfl
@[simp] theorem State.setTileAt_nextPkt (s : State) (k : Nat) (x : Tile) : (s.setTileAt k x).nextPkt = s.nextPkt := rfl
@[simp] theorem State.setTileAt_queues (s : State) (k : Nat) (x : Tile) : (s.setTileAt k x).queues = s.queues := rfl
@[simp] theorem State.setTileAt_qtBase (s : State) (k : Nat) (x : Tile) : (s.setTileAt k x).qtBase = s.qtBase := rfl
@[simp] theorem State.setTileAt_pageAge (s : State) (k : Nat) (x : Tile) : (s.setTileAt k x).pageAge = s.pageAge := rfl
@[simp] theorem State.setTileAt_slots (s : State) (k : Nat) (x : Tile) : (s.setTileAt k x).slots = s.slots := rfl
@[simp] theorem State.setTileAt_hostMem (s : State) (k : Nat) (x : Tile) : (s.setTileAt k x).hostMem = s.hostMem := rfl
@[simp] theorem State.setTileAt_pendWakes (s : State) (k : Nat) (x : Tile) : (s.setTileAt k x).pendWakes = s.pendWakes := rfl
@[simp] theorem State.setTileAt_beat (s : State) (k : Nat) (x : Tile) : (s.setTileAt k x).beat = s.beat := rfl
@[simp] theorem State.setTileAt_tierQ (s : State) (k : Nat) (x : Tile) : (s.setTileAt k x).tierQ = s.tierQ := rfl
@[simp] theorem State.setTileAt_umpLast (s : State) (k : Nat) (x : Tile) : (s.setTileAt k x).umpLast = s.umpLast := rfl
@[simp] theorem State.setTileAt_launches (s : State) (k : Nat) (x : Tile) : (s.setTileAt k x).launches = s.launches := rfl
@[simp] theorem State.setTileAt_nextLaunch (s : State) (k : Nat) (x : Tile) : (s.setTileAt k x).nextLaunch = s.nextLaunch := rfl
@[simp] theorem State.setTileAt_ports (s : State) (k : Nat) (x : Tile) : (s.setTileAt k x).ports = s.ports := rfl
@[simp] theorem State.setTileAt_module (s : State) (k : Nat) (x : Tile) : (s.setTileAt k x).module = s.module := rfl
@[simp] theorem State.setTileAt_time (s : State) (k : Nat) (x : Tile) : (s.setTileAt k x).time = s.time := rfl
@[simp] theorem State.setTileAt_slew (s : State) (k : Nat) (x : Tile) : (s.setTileAt k x).slew = s.slew := rfl
@[simp] theorem State.setTileAt_cptBase (s : State) (k : Nat) (x : Tile) : (s.setTileAt k x).cptBase = s.cptBase := rfl
@[simp] theorem State.setTileAt_bootPhase (s : State) (k : Nat) (x : Tile) : (s.setTileAt k x).bootPhase = s.bootPhase := rfl
@[simp] theorem State.setTileAt_safe (s : State) (k : Nat) (x : Tile) : (s.setTileAt k x).safe = s.safe := rfl
@[simp] theorem State.setTileAt_failRec (s : State) (k : Nat) (x : Tile) : (s.setTileAt k x).failRec = s.failRec := rfl
@[simp] theorem State.setTileAt_bootImage (s : State) (k : Nat) (x : Tile) : (s.setTileAt k x).bootImage = s.bootImage := rfl
@[simp] theorem State.setTileAt_verified (s : State) (k : Nat) (x : Tile) : (s.setTileAt k x).verified = s.verified := rfl
@[simp] theorem State.setTileAt_harvested (s : State) (k : Nat) (x : Tile) : (s.setTileAt k x).harvested = s.harvested := rfl
@[simp] theorem State.setTileAt_umpirePc (s : State) (k : Nat) (x : Tile) : (s.setTileAt k x).umpirePc = s.umpirePc := rfl
@[simp] theorem State.setTileAt_owed (s : State) (k : Nat) (x : Tile) : (s.setTileAt k x).owed = s.owed := rfl
@[simp] theorem State.setTileAt_heldStops (s : State) (k : Nat) (x : Tile) : (s.setTileAt k x).heldStops = s.heldStops := rfl
@[simp] theorem State.setTileAt_agenda (s : State) (k : Nat) (x : Tile) : (s.setTileAt k x).agenda = s.agenda := rfl
@[simp] theorem State.setTileAt_ev (s : State) (k : Nat) (x : Tile) : (s.setTileAt k x).ev = s.ev := rfl
@[simp] theorem State.setTileAt_cur (s : State) (k : Nat) (x : Tile) : (s.setTileAt k x).cur = s.cur := rfl
@[simp] theorem State.setTileAt_delays (s : State) (k : Nat) (x : Tile) : (s.setTileAt k x).delays = s.delays := rfl
@[simp] theorem State.setTileAt_paceCycles (s : State) (k : Nat) (x : Tile) : (s.setTileAt k x).paceCycles = s.paceCycles := rfl
@[simp] theorem State.setTileAt_paceTicks (s : State) (k : Nat) (x : Tile) : (s.setTileAt k x).paceTicks = s.paceTicks := rfl
@[simp] theorem State.setTileAt_grp (s : State) (k : Nat) (x : Tile) : (s.setTileAt k x).grp = s.grp := rfl
@[simp] theorem State.setTileAt_budgetWritten (s : State) (k : Nat) (x : Tile) : (s.setTileAt k x).budgetWritten = s.budgetWritten := rfl
@[simp] theorem State.setTileAt_budgetGrant (s : State) (k : Nat) (x : Tile) : (s.setTileAt k x).budgetGrant = s.budgetGrant := rfl
@[simp] theorem State.setTileAt_cycles (s : State) (k : Nat) (x : Tile) : (s.setTileAt k x).cycles = s.cycles := rfl
@[simp] theorem State.setTileAt_nextGang (s : State) (k : Nat) (x : Tile) : (s.setTileAt k x).nextGang = s.nextGang := rfl
@[simp] theorem State.setTileAt_nextTask (s : State) (k : Nat) (x : Tile) : (s.setTileAt k x).nextTask = s.nextTask := rfl
@[simp] theorem State.setTileAt_freeCtr (s : State) (k : Nat) (x : Tile) : (s.setTileAt k x).freeCtr = s.freeCtr := rfl
@[simp] theorem State.setTileAt_outbox (s : State) (k : Nat) (x : Tile) : (s.setTileAt k x).outbox = s.outbox := rfl

@[simp] theorem State.setTile_ctxs (s : State) (x : Tile) : (s.setTile x).ctxs = s.ctxs := rfl
@[simp] theorem State.setTile_cores (s : State) (x : Tile) : (s.setTile x).cores = s.cores := rfl
@[simp] theorem State.setTile_cols (s : State) (x : Tile) : (s.setTile x).cols = s.cols := rfl
@[simp] theorem State.setTile_regions (s : State) (x : Tile) : (s.setTile x).regions = s.regions := rfl
@[simp] theorem State.setTile_rcbs (s : State) (x : Tile) : (s.setTile x).rcbs = s.rcbs := rfl
@[simp] theorem State.setTile_mem (s : State) (x : Tile) : (s.setTile x).mem = s.mem := rfl
@[simp] theorem State.setTile_full (s : State) (x : Tile) : (s.setTile x).full = s.full := rfl
@[simp] theorem State.setTile_poison (s : State) (x : Tile) : (s.setTile x).poison = s.poison := rfl
@[simp] theorem State.setTile_net (s : State) (x : Tile) : (s.setTile x).net = s.net := rfl
@[simp] theorem State.setTile_nextPkt (s : State) (x : Tile) : (s.setTile x).nextPkt = s.nextPkt := rfl
@[simp] theorem State.setTile_queues (s : State) (x : Tile) : (s.setTile x).queues = s.queues := rfl
@[simp] theorem State.setTile_qtBase (s : State) (x : Tile) : (s.setTile x).qtBase = s.qtBase := rfl
@[simp] theorem State.setTile_pageAge (s : State) (x : Tile) : (s.setTile x).pageAge = s.pageAge := rfl
@[simp] theorem State.setTile_slots (s : State) (x : Tile) : (s.setTile x).slots = s.slots := rfl
@[simp] theorem State.setTile_hostMem (s : State) (x : Tile) : (s.setTile x).hostMem = s.hostMem := rfl
@[simp] theorem State.setTile_pendWakes (s : State) (x : Tile) : (s.setTile x).pendWakes = s.pendWakes := rfl
@[simp] theorem State.setTile_beat (s : State) (x : Tile) : (s.setTile x).beat = s.beat := rfl
@[simp] theorem State.setTile_tierQ (s : State) (x : Tile) : (s.setTile x).tierQ = s.tierQ := rfl
@[simp] theorem State.setTile_umpLast (s : State) (x : Tile) : (s.setTile x).umpLast = s.umpLast := rfl
@[simp] theorem State.setTile_launches (s : State) (x : Tile) : (s.setTile x).launches = s.launches := rfl
@[simp] theorem State.setTile_nextLaunch (s : State) (x : Tile) : (s.setTile x).nextLaunch = s.nextLaunch := rfl
@[simp] theorem State.setTile_ports (s : State) (x : Tile) : (s.setTile x).ports = s.ports := rfl
@[simp] theorem State.setTile_module (s : State) (x : Tile) : (s.setTile x).module = s.module := rfl
@[simp] theorem State.setTile_time (s : State) (x : Tile) : (s.setTile x).time = s.time := rfl
@[simp] theorem State.setTile_slew (s : State) (x : Tile) : (s.setTile x).slew = s.slew := rfl
@[simp] theorem State.setTile_cptBase (s : State) (x : Tile) : (s.setTile x).cptBase = s.cptBase := rfl
@[simp] theorem State.setTile_bootPhase (s : State) (x : Tile) : (s.setTile x).bootPhase = s.bootPhase := rfl
@[simp] theorem State.setTile_safe (s : State) (x : Tile) : (s.setTile x).safe = s.safe := rfl
@[simp] theorem State.setTile_failRec (s : State) (x : Tile) : (s.setTile x).failRec = s.failRec := rfl
@[simp] theorem State.setTile_bootImage (s : State) (x : Tile) : (s.setTile x).bootImage = s.bootImage := rfl
@[simp] theorem State.setTile_verified (s : State) (x : Tile) : (s.setTile x).verified = s.verified := rfl
@[simp] theorem State.setTile_harvested (s : State) (x : Tile) : (s.setTile x).harvested = s.harvested := rfl
@[simp] theorem State.setTile_umpirePc (s : State) (x : Tile) : (s.setTile x).umpirePc = s.umpirePc := rfl
@[simp] theorem State.setTile_owed (s : State) (x : Tile) : (s.setTile x).owed = s.owed := rfl
@[simp] theorem State.setTile_heldStops (s : State) (x : Tile) : (s.setTile x).heldStops = s.heldStops := rfl
@[simp] theorem State.setTile_agenda (s : State) (x : Tile) : (s.setTile x).agenda = s.agenda := rfl
@[simp] theorem State.setTile_ev (s : State) (x : Tile) : (s.setTile x).ev = s.ev := rfl
@[simp] theorem State.setTile_cur (s : State) (x : Tile) : (s.setTile x).cur = s.cur := rfl
@[simp] theorem State.setTile_delays (s : State) (x : Tile) : (s.setTile x).delays = s.delays := rfl
@[simp] theorem State.setTile_paceCycles (s : State) (x : Tile) : (s.setTile x).paceCycles = s.paceCycles := rfl
@[simp] theorem State.setTile_paceTicks (s : State) (x : Tile) : (s.setTile x).paceTicks = s.paceTicks := rfl
@[simp] theorem State.setTile_grp (s : State) (x : Tile) : (s.setTile x).grp = s.grp := rfl
@[simp] theorem State.setTile_budgetWritten (s : State) (x : Tile) : (s.setTile x).budgetWritten = s.budgetWritten := rfl
@[simp] theorem State.setTile_budgetGrant (s : State) (x : Tile) : (s.setTile x).budgetGrant = s.budgetGrant := rfl
@[simp] theorem State.setTile_cycles (s : State) (x : Tile) : (s.setTile x).cycles = s.cycles := rfl
@[simp] theorem State.setTile_nextGang (s : State) (x : Tile) : (s.setTile x).nextGang = s.nextGang := rfl
@[simp] theorem State.setTile_nextTask (s : State) (x : Tile) : (s.setTile x).nextTask = s.nextTask := rfl
@[simp] theorem State.setTile_freeCtr (s : State) (x : Tile) : (s.setTile x).freeCtr = s.freeCtr := rfl
@[simp] theorem State.setTile_outbox (s : State) (x : Tile) : (s.setTile x).outbox = s.outbox := rfl

@[simp] theorem State.setColAt_ctxs (s : State) (k : Nat) (x : Column) : (s.setColAt k x).ctxs = s.ctxs := rfl
@[simp] theorem State.setColAt_cores (s : State) (k : Nat) (x : Column) : (s.setColAt k x).cores = s.cores := rfl
@[simp] theorem State.setColAt_tiles (s : State) (k : Nat) (x : Column) : (s.setColAt k x).tiles = s.tiles := rfl
@[simp] theorem State.setColAt_regions (s : State) (k : Nat) (x : Column) : (s.setColAt k x).regions = s.regions := rfl
@[simp] theorem State.setColAt_rcbs (s : State) (k : Nat) (x : Column) : (s.setColAt k x).rcbs = s.rcbs := rfl
@[simp] theorem State.setColAt_mem (s : State) (k : Nat) (x : Column) : (s.setColAt k x).mem = s.mem := rfl
@[simp] theorem State.setColAt_full (s : State) (k : Nat) (x : Column) : (s.setColAt k x).full = s.full := rfl
@[simp] theorem State.setColAt_poison (s : State) (k : Nat) (x : Column) : (s.setColAt k x).poison = s.poison := rfl
@[simp] theorem State.setColAt_net (s : State) (k : Nat) (x : Column) : (s.setColAt k x).net = s.net := rfl
@[simp] theorem State.setColAt_nextPkt (s : State) (k : Nat) (x : Column) : (s.setColAt k x).nextPkt = s.nextPkt := rfl
@[simp] theorem State.setColAt_queues (s : State) (k : Nat) (x : Column) : (s.setColAt k x).queues = s.queues := rfl
@[simp] theorem State.setColAt_qtBase (s : State) (k : Nat) (x : Column) : (s.setColAt k x).qtBase = s.qtBase := rfl
@[simp] theorem State.setColAt_pageAge (s : State) (k : Nat) (x : Column) : (s.setColAt k x).pageAge = s.pageAge := rfl
@[simp] theorem State.setColAt_slots (s : State) (k : Nat) (x : Column) : (s.setColAt k x).slots = s.slots := rfl
@[simp] theorem State.setColAt_hostMem (s : State) (k : Nat) (x : Column) : (s.setColAt k x).hostMem = s.hostMem := rfl
@[simp] theorem State.setColAt_pendWakes (s : State) (k : Nat) (x : Column) : (s.setColAt k x).pendWakes = s.pendWakes := rfl
@[simp] theorem State.setColAt_beat (s : State) (k : Nat) (x : Column) : (s.setColAt k x).beat = s.beat := rfl
@[simp] theorem State.setColAt_tierQ (s : State) (k : Nat) (x : Column) : (s.setColAt k x).tierQ = s.tierQ := rfl
@[simp] theorem State.setColAt_umpLast (s : State) (k : Nat) (x : Column) : (s.setColAt k x).umpLast = s.umpLast := rfl
@[simp] theorem State.setColAt_launches (s : State) (k : Nat) (x : Column) : (s.setColAt k x).launches = s.launches := rfl
@[simp] theorem State.setColAt_nextLaunch (s : State) (k : Nat) (x : Column) : (s.setColAt k x).nextLaunch = s.nextLaunch := rfl
@[simp] theorem State.setColAt_ports (s : State) (k : Nat) (x : Column) : (s.setColAt k x).ports = s.ports := rfl
@[simp] theorem State.setColAt_module (s : State) (k : Nat) (x : Column) : (s.setColAt k x).module = s.module := rfl
@[simp] theorem State.setColAt_time (s : State) (k : Nat) (x : Column) : (s.setColAt k x).time = s.time := rfl
@[simp] theorem State.setColAt_slew (s : State) (k : Nat) (x : Column) : (s.setColAt k x).slew = s.slew := rfl
@[simp] theorem State.setColAt_cptBase (s : State) (k : Nat) (x : Column) : (s.setColAt k x).cptBase = s.cptBase := rfl
@[simp] theorem State.setColAt_bootPhase (s : State) (k : Nat) (x : Column) : (s.setColAt k x).bootPhase = s.bootPhase := rfl
@[simp] theorem State.setColAt_safe (s : State) (k : Nat) (x : Column) : (s.setColAt k x).safe = s.safe := rfl
@[simp] theorem State.setColAt_failRec (s : State) (k : Nat) (x : Column) : (s.setColAt k x).failRec = s.failRec := rfl
@[simp] theorem State.setColAt_bootImage (s : State) (k : Nat) (x : Column) : (s.setColAt k x).bootImage = s.bootImage := rfl
@[simp] theorem State.setColAt_verified (s : State) (k : Nat) (x : Column) : (s.setColAt k x).verified = s.verified := rfl
@[simp] theorem State.setColAt_harvested (s : State) (k : Nat) (x : Column) : (s.setColAt k x).harvested = s.harvested := rfl
@[simp] theorem State.setColAt_umpirePc (s : State) (k : Nat) (x : Column) : (s.setColAt k x).umpirePc = s.umpirePc := rfl
@[simp] theorem State.setColAt_owed (s : State) (k : Nat) (x : Column) : (s.setColAt k x).owed = s.owed := rfl
@[simp] theorem State.setColAt_heldStops (s : State) (k : Nat) (x : Column) : (s.setColAt k x).heldStops = s.heldStops := rfl
@[simp] theorem State.setColAt_agenda (s : State) (k : Nat) (x : Column) : (s.setColAt k x).agenda = s.agenda := rfl
@[simp] theorem State.setColAt_ev (s : State) (k : Nat) (x : Column) : (s.setColAt k x).ev = s.ev := rfl
@[simp] theorem State.setColAt_cur (s : State) (k : Nat) (x : Column) : (s.setColAt k x).cur = s.cur := rfl
@[simp] theorem State.setColAt_delays (s : State) (k : Nat) (x : Column) : (s.setColAt k x).delays = s.delays := rfl
@[simp] theorem State.setColAt_paceCycles (s : State) (k : Nat) (x : Column) : (s.setColAt k x).paceCycles = s.paceCycles := rfl
@[simp] theorem State.setColAt_paceTicks (s : State) (k : Nat) (x : Column) : (s.setColAt k x).paceTicks = s.paceTicks := rfl
@[simp] theorem State.setColAt_grp (s : State) (k : Nat) (x : Column) : (s.setColAt k x).grp = s.grp := rfl
@[simp] theorem State.setColAt_budgetWritten (s : State) (k : Nat) (x : Column) : (s.setColAt k x).budgetWritten = s.budgetWritten := rfl
@[simp] theorem State.setColAt_budgetGrant (s : State) (k : Nat) (x : Column) : (s.setColAt k x).budgetGrant = s.budgetGrant := rfl
@[simp] theorem State.setColAt_cycles (s : State) (k : Nat) (x : Column) : (s.setColAt k x).cycles = s.cycles := rfl
@[simp] theorem State.setColAt_nextGang (s : State) (k : Nat) (x : Column) : (s.setColAt k x).nextGang = s.nextGang := rfl
@[simp] theorem State.setColAt_nextTask (s : State) (k : Nat) (x : Column) : (s.setColAt k x).nextTask = s.nextTask := rfl
@[simp] theorem State.setColAt_freeCtr (s : State) (k : Nat) (x : Column) : (s.setColAt k x).freeCtr = s.freeCtr := rfl
@[simp] theorem State.setColAt_outbox (s : State) (k : Nat) (x : Column) : (s.setColAt k x).outbox = s.outbox := rfl

@[simp] theorem State.setRegion_ctxs (s : State) (x : Region) : (s.setRegion x).ctxs = s.ctxs := rfl
@[simp] theorem State.setRegion_cores (s : State) (x : Region) : (s.setRegion x).cores = s.cores := rfl
@[simp] theorem State.setRegion_tiles (s : State) (x : Region) : (s.setRegion x).tiles = s.tiles := rfl
@[simp] theorem State.setRegion_cols (s : State) (x : Region) : (s.setRegion x).cols = s.cols := rfl
@[simp] theorem State.setRegion_rcbs (s : State) (x : Region) : (s.setRegion x).rcbs = s.rcbs := rfl
@[simp] theorem State.setRegion_mem (s : State) (x : Region) : (s.setRegion x).mem = s.mem := rfl
@[simp] theorem State.setRegion_full (s : State) (x : Region) : (s.setRegion x).full = s.full := rfl
@[simp] theorem State.setRegion_poison (s : State) (x : Region) : (s.setRegion x).poison = s.poison := rfl
@[simp] theorem State.setRegion_net (s : State) (x : Region) : (s.setRegion x).net = s.net := rfl
@[simp] theorem State.setRegion_nextPkt (s : State) (x : Region) : (s.setRegion x).nextPkt = s.nextPkt := rfl
@[simp] theorem State.setRegion_queues (s : State) (x : Region) : (s.setRegion x).queues = s.queues := rfl
@[simp] theorem State.setRegion_qtBase (s : State) (x : Region) : (s.setRegion x).qtBase = s.qtBase := rfl
@[simp] theorem State.setRegion_pageAge (s : State) (x : Region) : (s.setRegion x).pageAge = s.pageAge := rfl
@[simp] theorem State.setRegion_slots (s : State) (x : Region) : (s.setRegion x).slots = s.slots := rfl
@[simp] theorem State.setRegion_hostMem (s : State) (x : Region) : (s.setRegion x).hostMem = s.hostMem := rfl
@[simp] theorem State.setRegion_pendWakes (s : State) (x : Region) : (s.setRegion x).pendWakes = s.pendWakes := rfl
@[simp] theorem State.setRegion_beat (s : State) (x : Region) : (s.setRegion x).beat = s.beat := rfl
@[simp] theorem State.setRegion_tierQ (s : State) (x : Region) : (s.setRegion x).tierQ = s.tierQ := rfl
@[simp] theorem State.setRegion_umpLast (s : State) (x : Region) : (s.setRegion x).umpLast = s.umpLast := rfl
@[simp] theorem State.setRegion_launches (s : State) (x : Region) : (s.setRegion x).launches = s.launches := rfl
@[simp] theorem State.setRegion_nextLaunch (s : State) (x : Region) : (s.setRegion x).nextLaunch = s.nextLaunch := rfl
@[simp] theorem State.setRegion_ports (s : State) (x : Region) : (s.setRegion x).ports = s.ports := rfl
@[simp] theorem State.setRegion_module (s : State) (x : Region) : (s.setRegion x).module = s.module := rfl
@[simp] theorem State.setRegion_time (s : State) (x : Region) : (s.setRegion x).time = s.time := rfl
@[simp] theorem State.setRegion_slew (s : State) (x : Region) : (s.setRegion x).slew = s.slew := rfl
@[simp] theorem State.setRegion_cptBase (s : State) (x : Region) : (s.setRegion x).cptBase = s.cptBase := rfl
@[simp] theorem State.setRegion_bootPhase (s : State) (x : Region) : (s.setRegion x).bootPhase = s.bootPhase := rfl
@[simp] theorem State.setRegion_safe (s : State) (x : Region) : (s.setRegion x).safe = s.safe := rfl
@[simp] theorem State.setRegion_failRec (s : State) (x : Region) : (s.setRegion x).failRec = s.failRec := rfl
@[simp] theorem State.setRegion_bootImage (s : State) (x : Region) : (s.setRegion x).bootImage = s.bootImage := rfl
@[simp] theorem State.setRegion_verified (s : State) (x : Region) : (s.setRegion x).verified = s.verified := rfl
@[simp] theorem State.setRegion_harvested (s : State) (x : Region) : (s.setRegion x).harvested = s.harvested := rfl
@[simp] theorem State.setRegion_umpirePc (s : State) (x : Region) : (s.setRegion x).umpirePc = s.umpirePc := rfl
@[simp] theorem State.setRegion_owed (s : State) (x : Region) : (s.setRegion x).owed = s.owed := rfl
@[simp] theorem State.setRegion_heldStops (s : State) (x : Region) : (s.setRegion x).heldStops = s.heldStops := rfl
@[simp] theorem State.setRegion_agenda (s : State) (x : Region) : (s.setRegion x).agenda = s.agenda := rfl
@[simp] theorem State.setRegion_ev (s : State) (x : Region) : (s.setRegion x).ev = s.ev := rfl
@[simp] theorem State.setRegion_cur (s : State) (x : Region) : (s.setRegion x).cur = s.cur := rfl
@[simp] theorem State.setRegion_delays (s : State) (x : Region) : (s.setRegion x).delays = s.delays := rfl
@[simp] theorem State.setRegion_paceCycles (s : State) (x : Region) : (s.setRegion x).paceCycles = s.paceCycles := rfl
@[simp] theorem State.setRegion_paceTicks (s : State) (x : Region) : (s.setRegion x).paceTicks = s.paceTicks := rfl
@[simp] theorem State.setRegion_grp (s : State) (x : Region) : (s.setRegion x).grp = s.grp := rfl
@[simp] theorem State.setRegion_budgetWritten (s : State) (x : Region) : (s.setRegion x).budgetWritten = s.budgetWritten := rfl
@[simp] theorem State.setRegion_budgetGrant (s : State) (x : Region) : (s.setRegion x).budgetGrant = s.budgetGrant := rfl
@[simp] theorem State.setRegion_cycles (s : State) (x : Region) : (s.setRegion x).cycles = s.cycles := rfl
@[simp] theorem State.setRegion_nextGang (s : State) (x : Region) : (s.setRegion x).nextGang = s.nextGang := rfl
@[simp] theorem State.setRegion_nextTask (s : State) (x : Region) : (s.setRegion x).nextTask = s.nextTask := rfl
@[simp] theorem State.setRegion_freeCtr (s : State) (x : Region) : (s.setRegion x).freeCtr = s.freeCtr := rfl
@[simp] theorem State.setRegion_outbox (s : State) (x : Region) : (s.setRegion x).outbox = s.outbox := rfl

@[simp] theorem State.writeBytes_ctxs (s : State) (a : Nat) (l : List Byte) : (s.writeBytes a l).ctxs = s.ctxs := rfl
@[simp] theorem State.writeBytes_cores (s : State) (a : Nat) (l : List Byte) : (s.writeBytes a l).cores = s.cores := rfl
@[simp] theorem State.writeBytes_tiles (s : State) (a : Nat) (l : List Byte) : (s.writeBytes a l).tiles = s.tiles := rfl
@[simp] theorem State.writeBytes_cols (s : State) (a : Nat) (l : List Byte) : (s.writeBytes a l).cols = s.cols := rfl
@[simp] theorem State.writeBytes_regions (s : State) (a : Nat) (l : List Byte) : (s.writeBytes a l).regions = s.regions := rfl
@[simp] theorem State.writeBytes_rcbs (s : State) (a : Nat) (l : List Byte) : (s.writeBytes a l).rcbs = s.rcbs := rfl
@[simp] theorem State.writeBytes_full (s : State) (a : Nat) (l : List Byte) : (s.writeBytes a l).full = s.full := rfl
@[simp] theorem State.writeBytes_poison (s : State) (a : Nat) (l : List Byte) : (s.writeBytes a l).poison = s.poison := rfl
@[simp] theorem State.writeBytes_net (s : State) (a : Nat) (l : List Byte) : (s.writeBytes a l).net = s.net := rfl
@[simp] theorem State.writeBytes_nextPkt (s : State) (a : Nat) (l : List Byte) : (s.writeBytes a l).nextPkt = s.nextPkt := rfl
@[simp] theorem State.writeBytes_queues (s : State) (a : Nat) (l : List Byte) : (s.writeBytes a l).queues = s.queues := rfl
@[simp] theorem State.writeBytes_qtBase (s : State) (a : Nat) (l : List Byte) : (s.writeBytes a l).qtBase = s.qtBase := rfl
@[simp] theorem State.writeBytes_pageAge (s : State) (a : Nat) (l : List Byte) : (s.writeBytes a l).pageAge = s.pageAge := rfl
@[simp] theorem State.writeBytes_slots (s : State) (a : Nat) (l : List Byte) : (s.writeBytes a l).slots = s.slots := rfl
@[simp] theorem State.writeBytes_hostMem (s : State) (a : Nat) (l : List Byte) : (s.writeBytes a l).hostMem = s.hostMem := rfl
@[simp] theorem State.writeBytes_pendWakes (s : State) (a : Nat) (l : List Byte) : (s.writeBytes a l).pendWakes = s.pendWakes := rfl
@[simp] theorem State.writeBytes_beat (s : State) (a : Nat) (l : List Byte) : (s.writeBytes a l).beat = s.beat := rfl
@[simp] theorem State.writeBytes_tierQ (s : State) (a : Nat) (l : List Byte) : (s.writeBytes a l).tierQ = s.tierQ := rfl
@[simp] theorem State.writeBytes_umpLast (s : State) (a : Nat) (l : List Byte) : (s.writeBytes a l).umpLast = s.umpLast := rfl
@[simp] theorem State.writeBytes_launches (s : State) (a : Nat) (l : List Byte) : (s.writeBytes a l).launches = s.launches := rfl
@[simp] theorem State.writeBytes_nextLaunch (s : State) (a : Nat) (l : List Byte) : (s.writeBytes a l).nextLaunch = s.nextLaunch := rfl
@[simp] theorem State.writeBytes_ports (s : State) (a : Nat) (l : List Byte) : (s.writeBytes a l).ports = s.ports := rfl
@[simp] theorem State.writeBytes_module (s : State) (a : Nat) (l : List Byte) : (s.writeBytes a l).module = s.module := rfl
@[simp] theorem State.writeBytes_time (s : State) (a : Nat) (l : List Byte) : (s.writeBytes a l).time = s.time := rfl
@[simp] theorem State.writeBytes_slew (s : State) (a : Nat) (l : List Byte) : (s.writeBytes a l).slew = s.slew := rfl
@[simp] theorem State.writeBytes_cptBase (s : State) (a : Nat) (l : List Byte) : (s.writeBytes a l).cptBase = s.cptBase := rfl
@[simp] theorem State.writeBytes_bootPhase (s : State) (a : Nat) (l : List Byte) : (s.writeBytes a l).bootPhase = s.bootPhase := rfl
@[simp] theorem State.writeBytes_safe (s : State) (a : Nat) (l : List Byte) : (s.writeBytes a l).safe = s.safe := rfl
@[simp] theorem State.writeBytes_failRec (s : State) (a : Nat) (l : List Byte) : (s.writeBytes a l).failRec = s.failRec := rfl
@[simp] theorem State.writeBytes_bootImage (s : State) (a : Nat) (l : List Byte) : (s.writeBytes a l).bootImage = s.bootImage := rfl
@[simp] theorem State.writeBytes_verified (s : State) (a : Nat) (l : List Byte) : (s.writeBytes a l).verified = s.verified := rfl
@[simp] theorem State.writeBytes_harvested (s : State) (a : Nat) (l : List Byte) : (s.writeBytes a l).harvested = s.harvested := rfl
@[simp] theorem State.writeBytes_umpirePc (s : State) (a : Nat) (l : List Byte) : (s.writeBytes a l).umpirePc = s.umpirePc := rfl
@[simp] theorem State.writeBytes_owed (s : State) (a : Nat) (l : List Byte) : (s.writeBytes a l).owed = s.owed := rfl
@[simp] theorem State.writeBytes_heldStops (s : State) (a : Nat) (l : List Byte) : (s.writeBytes a l).heldStops = s.heldStops := rfl
@[simp] theorem State.writeBytes_agenda (s : State) (a : Nat) (l : List Byte) : (s.writeBytes a l).agenda = s.agenda := rfl
@[simp] theorem State.writeBytes_ev (s : State) (a : Nat) (l : List Byte) : (s.writeBytes a l).ev = s.ev := rfl
@[simp] theorem State.writeBytes_cur (s : State) (a : Nat) (l : List Byte) : (s.writeBytes a l).cur = s.cur := rfl
@[simp] theorem State.writeBytes_delays (s : State) (a : Nat) (l : List Byte) : (s.writeBytes a l).delays = s.delays := rfl
@[simp] theorem State.writeBytes_paceCycles (s : State) (a : Nat) (l : List Byte) : (s.writeBytes a l).paceCycles = s.paceCycles := rfl
@[simp] theorem State.writeBytes_paceTicks (s : State) (a : Nat) (l : List Byte) : (s.writeBytes a l).paceTicks = s.paceTicks := rfl
@[simp] theorem State.writeBytes_grp (s : State) (a : Nat) (l : List Byte) : (s.writeBytes a l).grp = s.grp := rfl
@[simp] theorem State.writeBytes_budgetWritten (s : State) (a : Nat) (l : List Byte) : (s.writeBytes a l).budgetWritten = s.budgetWritten := rfl
@[simp] theorem State.writeBytes_budgetGrant (s : State) (a : Nat) (l : List Byte) : (s.writeBytes a l).budgetGrant = s.budgetGrant := rfl
@[simp] theorem State.writeBytes_cycles (s : State) (a : Nat) (l : List Byte) : (s.writeBytes a l).cycles = s.cycles := rfl
@[simp] theorem State.writeBytes_nextGang (s : State) (a : Nat) (l : List Byte) : (s.writeBytes a l).nextGang = s.nextGang := rfl
@[simp] theorem State.writeBytes_nextTask (s : State) (a : Nat) (l : List Byte) : (s.writeBytes a l).nextTask = s.nextTask := rfl
@[simp] theorem State.writeBytes_freeCtr (s : State) (a : Nat) (l : List Byte) : (s.writeBytes a l).freeCtr = s.freeCtr := rfl
@[simp] theorem State.writeBytes_outbox (s : State) (a : Nat) (l : List Byte) : (s.writeBytes a l).outbox = s.outbox := rfl

@[simp] theorem State.writeNat_ctxs (s : State) (a n x : Nat) : (s.writeNat a n x).ctxs = s.ctxs := rfl
@[simp] theorem State.writeNat_cores (s : State) (a n x : Nat) : (s.writeNat a n x).cores = s.cores := rfl
@[simp] theorem State.writeNat_tiles (s : State) (a n x : Nat) : (s.writeNat a n x).tiles = s.tiles := rfl
@[simp] theorem State.writeNat_cols (s : State) (a n x : Nat) : (s.writeNat a n x).cols = s.cols := rfl
@[simp] theorem State.writeNat_regions (s : State) (a n x : Nat) : (s.writeNat a n x).regions = s.regions := rfl
@[simp] theorem State.writeNat_rcbs (s : State) (a n x : Nat) : (s.writeNat a n x).rcbs = s.rcbs := rfl
@[simp] theorem State.writeNat_full (s : State) (a n x : Nat) : (s.writeNat a n x).full = s.full := rfl
@[simp] theorem State.writeNat_poison (s : State) (a n x : Nat) : (s.writeNat a n x).poison = s.poison := rfl
@[simp] theorem State.writeNat_net (s : State) (a n x : Nat) : (s.writeNat a n x).net = s.net := rfl
@[simp] theorem State.writeNat_nextPkt (s : State) (a n x : Nat) : (s.writeNat a n x).nextPkt = s.nextPkt := rfl
@[simp] theorem State.writeNat_queues (s : State) (a n x : Nat) : (s.writeNat a n x).queues = s.queues := rfl
@[simp] theorem State.writeNat_qtBase (s : State) (a n x : Nat) : (s.writeNat a n x).qtBase = s.qtBase := rfl
@[simp] theorem State.writeNat_pageAge (s : State) (a n x : Nat) : (s.writeNat a n x).pageAge = s.pageAge := rfl
@[simp] theorem State.writeNat_slots (s : State) (a n x : Nat) : (s.writeNat a n x).slots = s.slots := rfl
@[simp] theorem State.writeNat_hostMem (s : State) (a n x : Nat) : (s.writeNat a n x).hostMem = s.hostMem := rfl
@[simp] theorem State.writeNat_pendWakes (s : State) (a n x : Nat) : (s.writeNat a n x).pendWakes = s.pendWakes := rfl
@[simp] theorem State.writeNat_beat (s : State) (a n x : Nat) : (s.writeNat a n x).beat = s.beat := rfl
@[simp] theorem State.writeNat_tierQ (s : State) (a n x : Nat) : (s.writeNat a n x).tierQ = s.tierQ := rfl
@[simp] theorem State.writeNat_umpLast (s : State) (a n x : Nat) : (s.writeNat a n x).umpLast = s.umpLast := rfl
@[simp] theorem State.writeNat_launches (s : State) (a n x : Nat) : (s.writeNat a n x).launches = s.launches := rfl
@[simp] theorem State.writeNat_nextLaunch (s : State) (a n x : Nat) : (s.writeNat a n x).nextLaunch = s.nextLaunch := rfl
@[simp] theorem State.writeNat_ports (s : State) (a n x : Nat) : (s.writeNat a n x).ports = s.ports := rfl
@[simp] theorem State.writeNat_module (s : State) (a n x : Nat) : (s.writeNat a n x).module = s.module := rfl
@[simp] theorem State.writeNat_time (s : State) (a n x : Nat) : (s.writeNat a n x).time = s.time := rfl
@[simp] theorem State.writeNat_slew (s : State) (a n x : Nat) : (s.writeNat a n x).slew = s.slew := rfl
@[simp] theorem State.writeNat_cptBase (s : State) (a n x : Nat) : (s.writeNat a n x).cptBase = s.cptBase := rfl
@[simp] theorem State.writeNat_bootPhase (s : State) (a n x : Nat) : (s.writeNat a n x).bootPhase = s.bootPhase := rfl
@[simp] theorem State.writeNat_safe (s : State) (a n x : Nat) : (s.writeNat a n x).safe = s.safe := rfl
@[simp] theorem State.writeNat_failRec (s : State) (a n x : Nat) : (s.writeNat a n x).failRec = s.failRec := rfl
@[simp] theorem State.writeNat_bootImage (s : State) (a n x : Nat) : (s.writeNat a n x).bootImage = s.bootImage := rfl
@[simp] theorem State.writeNat_verified (s : State) (a n x : Nat) : (s.writeNat a n x).verified = s.verified := rfl
@[simp] theorem State.writeNat_harvested (s : State) (a n x : Nat) : (s.writeNat a n x).harvested = s.harvested := rfl
@[simp] theorem State.writeNat_umpirePc (s : State) (a n x : Nat) : (s.writeNat a n x).umpirePc = s.umpirePc := rfl
@[simp] theorem State.writeNat_owed (s : State) (a n x : Nat) : (s.writeNat a n x).owed = s.owed := rfl
@[simp] theorem State.writeNat_heldStops (s : State) (a n x : Nat) : (s.writeNat a n x).heldStops = s.heldStops := rfl
@[simp] theorem State.writeNat_agenda (s : State) (a n x : Nat) : (s.writeNat a n x).agenda = s.agenda := rfl
@[simp] theorem State.writeNat_ev (s : State) (a n x : Nat) : (s.writeNat a n x).ev = s.ev := rfl
@[simp] theorem State.writeNat_cur (s : State) (a n x : Nat) : (s.writeNat a n x).cur = s.cur := rfl
@[simp] theorem State.writeNat_delays (s : State) (a n x : Nat) : (s.writeNat a n x).delays = s.delays := rfl
@[simp] theorem State.writeNat_paceCycles (s : State) (a n x : Nat) : (s.writeNat a n x).paceCycles = s.paceCycles := rfl
@[simp] theorem State.writeNat_paceTicks (s : State) (a n x : Nat) : (s.writeNat a n x).paceTicks = s.paceTicks := rfl
@[simp] theorem State.writeNat_grp (s : State) (a n x : Nat) : (s.writeNat a n x).grp = s.grp := rfl
@[simp] theorem State.writeNat_budgetWritten (s : State) (a n x : Nat) : (s.writeNat a n x).budgetWritten = s.budgetWritten := rfl
@[simp] theorem State.writeNat_budgetGrant (s : State) (a n x : Nat) : (s.writeNat a n x).budgetGrant = s.budgetGrant := rfl
@[simp] theorem State.writeNat_cycles (s : State) (a n x : Nat) : (s.writeNat a n x).cycles = s.cycles := rfl
@[simp] theorem State.writeNat_nextGang (s : State) (a n x : Nat) : (s.writeNat a n x).nextGang = s.nextGang := rfl
@[simp] theorem State.writeNat_nextTask (s : State) (a n x : Nat) : (s.writeNat a n x).nextTask = s.nextTask := rfl
@[simp] theorem State.writeNat_freeCtr (s : State) (a n x : Nat) : (s.writeNat a n x).freeCtr = s.freeCtr := rfl
@[simp] theorem State.writeNat_outbox (s : State) (a n x : Nat) : (s.writeNat a n x).outbox = s.outbox := rfl

@[simp] theorem State.writeWord_ctxs (s : State) (a : Nat) (x : Word) : (s.writeWord a x).ctxs = s.ctxs := rfl
@[simp] theorem State.writeWord_cores (s : State) (a : Nat) (x : Word) : (s.writeWord a x).cores = s.cores := rfl
@[simp] theorem State.writeWord_tiles (s : State) (a : Nat) (x : Word) : (s.writeWord a x).tiles = s.tiles := rfl
@[simp] theorem State.writeWord_cols (s : State) (a : Nat) (x : Word) : (s.writeWord a x).cols = s.cols := rfl
@[simp] theorem State.writeWord_regions (s : State) (a : Nat) (x : Word) : (s.writeWord a x).regions = s.regions := rfl
@[simp] theorem State.writeWord_rcbs (s : State) (a : Nat) (x : Word) : (s.writeWord a x).rcbs = s.rcbs := rfl
@[simp] theorem State.writeWord_full (s : State) (a : Nat) (x : Word) : (s.writeWord a x).full = s.full := rfl
@[simp] theorem State.writeWord_poison (s : State) (a : Nat) (x : Word) : (s.writeWord a x).poison = s.poison := rfl
@[simp] theorem State.writeWord_net (s : State) (a : Nat) (x : Word) : (s.writeWord a x).net = s.net := rfl
@[simp] theorem State.writeWord_nextPkt (s : State) (a : Nat) (x : Word) : (s.writeWord a x).nextPkt = s.nextPkt := rfl
@[simp] theorem State.writeWord_queues (s : State) (a : Nat) (x : Word) : (s.writeWord a x).queues = s.queues := rfl
@[simp] theorem State.writeWord_qtBase (s : State) (a : Nat) (x : Word) : (s.writeWord a x).qtBase = s.qtBase := rfl
@[simp] theorem State.writeWord_pageAge (s : State) (a : Nat) (x : Word) : (s.writeWord a x).pageAge = s.pageAge := rfl
@[simp] theorem State.writeWord_slots (s : State) (a : Nat) (x : Word) : (s.writeWord a x).slots = s.slots := rfl
@[simp] theorem State.writeWord_hostMem (s : State) (a : Nat) (x : Word) : (s.writeWord a x).hostMem = s.hostMem := rfl
@[simp] theorem State.writeWord_pendWakes (s : State) (a : Nat) (x : Word) : (s.writeWord a x).pendWakes = s.pendWakes := rfl
@[simp] theorem State.writeWord_beat (s : State) (a : Nat) (x : Word) : (s.writeWord a x).beat = s.beat := rfl
@[simp] theorem State.writeWord_tierQ (s : State) (a : Nat) (x : Word) : (s.writeWord a x).tierQ = s.tierQ := rfl
@[simp] theorem State.writeWord_umpLast (s : State) (a : Nat) (x : Word) : (s.writeWord a x).umpLast = s.umpLast := rfl
@[simp] theorem State.writeWord_launches (s : State) (a : Nat) (x : Word) : (s.writeWord a x).launches = s.launches := rfl
@[simp] theorem State.writeWord_nextLaunch (s : State) (a : Nat) (x : Word) : (s.writeWord a x).nextLaunch = s.nextLaunch := rfl
@[simp] theorem State.writeWord_ports (s : State) (a : Nat) (x : Word) : (s.writeWord a x).ports = s.ports := rfl
@[simp] theorem State.writeWord_module (s : State) (a : Nat) (x : Word) : (s.writeWord a x).module = s.module := rfl
@[simp] theorem State.writeWord_time (s : State) (a : Nat) (x : Word) : (s.writeWord a x).time = s.time := rfl
@[simp] theorem State.writeWord_slew (s : State) (a : Nat) (x : Word) : (s.writeWord a x).slew = s.slew := rfl
@[simp] theorem State.writeWord_cptBase (s : State) (a : Nat) (x : Word) : (s.writeWord a x).cptBase = s.cptBase := rfl
@[simp] theorem State.writeWord_bootPhase (s : State) (a : Nat) (x : Word) : (s.writeWord a x).bootPhase = s.bootPhase := rfl
@[simp] theorem State.writeWord_safe (s : State) (a : Nat) (x : Word) : (s.writeWord a x).safe = s.safe := rfl
@[simp] theorem State.writeWord_failRec (s : State) (a : Nat) (x : Word) : (s.writeWord a x).failRec = s.failRec := rfl
@[simp] theorem State.writeWord_bootImage (s : State) (a : Nat) (x : Word) : (s.writeWord a x).bootImage = s.bootImage := rfl
@[simp] theorem State.writeWord_verified (s : State) (a : Nat) (x : Word) : (s.writeWord a x).verified = s.verified := rfl
@[simp] theorem State.writeWord_harvested (s : State) (a : Nat) (x : Word) : (s.writeWord a x).harvested = s.harvested := rfl
@[simp] theorem State.writeWord_umpirePc (s : State) (a : Nat) (x : Word) : (s.writeWord a x).umpirePc = s.umpirePc := rfl
@[simp] theorem State.writeWord_owed (s : State) (a : Nat) (x : Word) : (s.writeWord a x).owed = s.owed := rfl
@[simp] theorem State.writeWord_heldStops (s : State) (a : Nat) (x : Word) : (s.writeWord a x).heldStops = s.heldStops := rfl
@[simp] theorem State.writeWord_agenda (s : State) (a : Nat) (x : Word) : (s.writeWord a x).agenda = s.agenda := rfl
@[simp] theorem State.writeWord_ev (s : State) (a : Nat) (x : Word) : (s.writeWord a x).ev = s.ev := rfl
@[simp] theorem State.writeWord_cur (s : State) (a : Nat) (x : Word) : (s.writeWord a x).cur = s.cur := rfl
@[simp] theorem State.writeWord_delays (s : State) (a : Nat) (x : Word) : (s.writeWord a x).delays = s.delays := rfl
@[simp] theorem State.writeWord_paceCycles (s : State) (a : Nat) (x : Word) : (s.writeWord a x).paceCycles = s.paceCycles := rfl
@[simp] theorem State.writeWord_paceTicks (s : State) (a : Nat) (x : Word) : (s.writeWord a x).paceTicks = s.paceTicks := rfl
@[simp] theorem State.writeWord_grp (s : State) (a : Nat) (x : Word) : (s.writeWord a x).grp = s.grp := rfl
@[simp] theorem State.writeWord_budgetWritten (s : State) (a : Nat) (x : Word) : (s.writeWord a x).budgetWritten = s.budgetWritten := rfl
@[simp] theorem State.writeWord_budgetGrant (s : State) (a : Nat) (x : Word) : (s.writeWord a x).budgetGrant = s.budgetGrant := rfl
@[simp] theorem State.writeWord_cycles (s : State) (a : Nat) (x : Word) : (s.writeWord a x).cycles = s.cycles := rfl
@[simp] theorem State.writeWord_nextGang (s : State) (a : Nat) (x : Word) : (s.writeWord a x).nextGang = s.nextGang := rfl
@[simp] theorem State.writeWord_nextTask (s : State) (a : Nat) (x : Word) : (s.writeWord a x).nextTask = s.nextTask := rfl
@[simp] theorem State.writeWord_freeCtr (s : State) (a : Nat) (x : Word) : (s.writeWord a x).freeCtr = s.freeCtr := rfl
@[simp] theorem State.writeWord_outbox (s : State) (a : Nat) (x : Word) : (s.writeWord a x).outbox = s.outbox := rfl

@[simp] theorem State.post_ctxs (s : State) (dt : Nat) (i : Instr) (v : Ev) : (s.post dt i v).ctxs = s.ctxs := rfl
@[simp] theorem State.post_cores (s : State) (dt : Nat) (i : Instr) (v : Ev) : (s.post dt i v).cores = s.cores := rfl
@[simp] theorem State.post_tiles (s : State) (dt : Nat) (i : Instr) (v : Ev) : (s.post dt i v).tiles = s.tiles := rfl
@[simp] theorem State.post_cols (s : State) (dt : Nat) (i : Instr) (v : Ev) : (s.post dt i v).cols = s.cols := rfl
@[simp] theorem State.post_regions (s : State) (dt : Nat) (i : Instr) (v : Ev) : (s.post dt i v).regions = s.regions := rfl
@[simp] theorem State.post_rcbs (s : State) (dt : Nat) (i : Instr) (v : Ev) : (s.post dt i v).rcbs = s.rcbs := rfl
@[simp] theorem State.post_mem (s : State) (dt : Nat) (i : Instr) (v : Ev) : (s.post dt i v).mem = s.mem := rfl
@[simp] theorem State.post_full (s : State) (dt : Nat) (i : Instr) (v : Ev) : (s.post dt i v).full = s.full := rfl
@[simp] theorem State.post_poison (s : State) (dt : Nat) (i : Instr) (v : Ev) : (s.post dt i v).poison = s.poison := rfl
@[simp] theorem State.post_net (s : State) (dt : Nat) (i : Instr) (v : Ev) : (s.post dt i v).net = s.net := rfl
@[simp] theorem State.post_nextPkt (s : State) (dt : Nat) (i : Instr) (v : Ev) : (s.post dt i v).nextPkt = s.nextPkt := rfl
@[simp] theorem State.post_queues (s : State) (dt : Nat) (i : Instr) (v : Ev) : (s.post dt i v).queues = s.queues := rfl
@[simp] theorem State.post_qtBase (s : State) (dt : Nat) (i : Instr) (v : Ev) : (s.post dt i v).qtBase = s.qtBase := rfl
@[simp] theorem State.post_pageAge (s : State) (dt : Nat) (i : Instr) (v : Ev) : (s.post dt i v).pageAge = s.pageAge := rfl
@[simp] theorem State.post_slots (s : State) (dt : Nat) (i : Instr) (v : Ev) : (s.post dt i v).slots = s.slots := rfl
@[simp] theorem State.post_hostMem (s : State) (dt : Nat) (i : Instr) (v : Ev) : (s.post dt i v).hostMem = s.hostMem := rfl
@[simp] theorem State.post_pendWakes (s : State) (dt : Nat) (i : Instr) (v : Ev) : (s.post dt i v).pendWakes = s.pendWakes := rfl
@[simp] theorem State.post_beat (s : State) (dt : Nat) (i : Instr) (v : Ev) : (s.post dt i v).beat = s.beat := rfl
@[simp] theorem State.post_tierQ (s : State) (dt : Nat) (i : Instr) (v : Ev) : (s.post dt i v).tierQ = s.tierQ := rfl
@[simp] theorem State.post_umpLast (s : State) (dt : Nat) (i : Instr) (v : Ev) : (s.post dt i v).umpLast = s.umpLast := rfl
@[simp] theorem State.post_launches (s : State) (dt : Nat) (i : Instr) (v : Ev) : (s.post dt i v).launches = s.launches := rfl
@[simp] theorem State.post_nextLaunch (s : State) (dt : Nat) (i : Instr) (v : Ev) : (s.post dt i v).nextLaunch = s.nextLaunch := rfl
@[simp] theorem State.post_ports (s : State) (dt : Nat) (i : Instr) (v : Ev) : (s.post dt i v).ports = s.ports := rfl
@[simp] theorem State.post_module (s : State) (dt : Nat) (i : Instr) (v : Ev) : (s.post dt i v).module = s.module := rfl
@[simp] theorem State.post_time (s : State) (dt : Nat) (i : Instr) (v : Ev) : (s.post dt i v).time = s.time := rfl
@[simp] theorem State.post_slew (s : State) (dt : Nat) (i : Instr) (v : Ev) : (s.post dt i v).slew = s.slew := rfl
@[simp] theorem State.post_cptBase (s : State) (dt : Nat) (i : Instr) (v : Ev) : (s.post dt i v).cptBase = s.cptBase := rfl
@[simp] theorem State.post_bootPhase (s : State) (dt : Nat) (i : Instr) (v : Ev) : (s.post dt i v).bootPhase = s.bootPhase := rfl
@[simp] theorem State.post_safe (s : State) (dt : Nat) (i : Instr) (v : Ev) : (s.post dt i v).safe = s.safe := rfl
@[simp] theorem State.post_failRec (s : State) (dt : Nat) (i : Instr) (v : Ev) : (s.post dt i v).failRec = s.failRec := rfl
@[simp] theorem State.post_bootImage (s : State) (dt : Nat) (i : Instr) (v : Ev) : (s.post dt i v).bootImage = s.bootImage := rfl
@[simp] theorem State.post_verified (s : State) (dt : Nat) (i : Instr) (v : Ev) : (s.post dt i v).verified = s.verified := rfl
@[simp] theorem State.post_harvested (s : State) (dt : Nat) (i : Instr) (v : Ev) : (s.post dt i v).harvested = s.harvested := rfl
@[simp] theorem State.post_umpirePc (s : State) (dt : Nat) (i : Instr) (v : Ev) : (s.post dt i v).umpirePc = s.umpirePc := rfl
@[simp] theorem State.post_owed (s : State) (dt : Nat) (i : Instr) (v : Ev) : (s.post dt i v).owed = s.owed := rfl
@[simp] theorem State.post_heldStops (s : State) (dt : Nat) (i : Instr) (v : Ev) : (s.post dt i v).heldStops = s.heldStops := rfl
@[simp] theorem State.post_ev (s : State) (dt : Nat) (i : Instr) (v : Ev) : (s.post dt i v).ev = s.ev := rfl
@[simp] theorem State.post_cur (s : State) (dt : Nat) (i : Instr) (v : Ev) : (s.post dt i v).cur = s.cur := rfl
@[simp] theorem State.post_delays (s : State) (dt : Nat) (i : Instr) (v : Ev) : (s.post dt i v).delays = s.delays := rfl
@[simp] theorem State.post_paceCycles (s : State) (dt : Nat) (i : Instr) (v : Ev) : (s.post dt i v).paceCycles = s.paceCycles := rfl
@[simp] theorem State.post_paceTicks (s : State) (dt : Nat) (i : Instr) (v : Ev) : (s.post dt i v).paceTicks = s.paceTicks := rfl
@[simp] theorem State.post_grp (s : State) (dt : Nat) (i : Instr) (v : Ev) : (s.post dt i v).grp = s.grp := rfl
@[simp] theorem State.post_budgetWritten (s : State) (dt : Nat) (i : Instr) (v : Ev) : (s.post dt i v).budgetWritten = s.budgetWritten := rfl
@[simp] theorem State.post_budgetGrant (s : State) (dt : Nat) (i : Instr) (v : Ev) : (s.post dt i v).budgetGrant = s.budgetGrant := rfl
@[simp] theorem State.post_cycles (s : State) (dt : Nat) (i : Instr) (v : Ev) : (s.post dt i v).cycles = s.cycles := rfl
@[simp] theorem State.post_nextGang (s : State) (dt : Nat) (i : Instr) (v : Ev) : (s.post dt i v).nextGang = s.nextGang := rfl
@[simp] theorem State.post_nextTask (s : State) (dt : Nat) (i : Instr) (v : Ev) : (s.post dt i v).nextTask = s.nextTask := rfl
@[simp] theorem State.post_freeCtr (s : State) (dt : Nat) (i : Instr) (v : Ev) : (s.post dt i v).freeCtr = s.freeCtr := rfl
@[simp] theorem State.post_outbox (s : State) (dt : Nat) (i : Instr) (v : Ev) : (s.post dt i v).outbox = s.outbox := rfl

@[simp] theorem State.postAt_ctxs (s : State) (t : Nat) (i : Instr) (v : Ev) : (s.postAt t i v).ctxs = s.ctxs := rfl
@[simp] theorem State.postAt_cores (s : State) (t : Nat) (i : Instr) (v : Ev) : (s.postAt t i v).cores = s.cores := rfl
@[simp] theorem State.postAt_tiles (s : State) (t : Nat) (i : Instr) (v : Ev) : (s.postAt t i v).tiles = s.tiles := rfl
@[simp] theorem State.postAt_cols (s : State) (t : Nat) (i : Instr) (v : Ev) : (s.postAt t i v).cols = s.cols := rfl
@[simp] theorem State.postAt_regions (s : State) (t : Nat) (i : Instr) (v : Ev) : (s.postAt t i v).regions = s.regions := rfl
@[simp] theorem State.postAt_rcbs (s : State) (t : Nat) (i : Instr) (v : Ev) : (s.postAt t i v).rcbs = s.rcbs := rfl
@[simp] theorem State.postAt_mem (s : State) (t : Nat) (i : Instr) (v : Ev) : (s.postAt t i v).mem = s.mem := rfl
@[simp] theorem State.postAt_full (s : State) (t : Nat) (i : Instr) (v : Ev) : (s.postAt t i v).full = s.full := rfl
@[simp] theorem State.postAt_poison (s : State) (t : Nat) (i : Instr) (v : Ev) : (s.postAt t i v).poison = s.poison := rfl
@[simp] theorem State.postAt_net (s : State) (t : Nat) (i : Instr) (v : Ev) : (s.postAt t i v).net = s.net := rfl
@[simp] theorem State.postAt_nextPkt (s : State) (t : Nat) (i : Instr) (v : Ev) : (s.postAt t i v).nextPkt = s.nextPkt := rfl
@[simp] theorem State.postAt_queues (s : State) (t : Nat) (i : Instr) (v : Ev) : (s.postAt t i v).queues = s.queues := rfl
@[simp] theorem State.postAt_qtBase (s : State) (t : Nat) (i : Instr) (v : Ev) : (s.postAt t i v).qtBase = s.qtBase := rfl
@[simp] theorem State.postAt_pageAge (s : State) (t : Nat) (i : Instr) (v : Ev) : (s.postAt t i v).pageAge = s.pageAge := rfl
@[simp] theorem State.postAt_slots (s : State) (t : Nat) (i : Instr) (v : Ev) : (s.postAt t i v).slots = s.slots := rfl
@[simp] theorem State.postAt_hostMem (s : State) (t : Nat) (i : Instr) (v : Ev) : (s.postAt t i v).hostMem = s.hostMem := rfl
@[simp] theorem State.postAt_pendWakes (s : State) (t : Nat) (i : Instr) (v : Ev) : (s.postAt t i v).pendWakes = s.pendWakes := rfl
@[simp] theorem State.postAt_beat (s : State) (t : Nat) (i : Instr) (v : Ev) : (s.postAt t i v).beat = s.beat := rfl
@[simp] theorem State.postAt_tierQ (s : State) (t : Nat) (i : Instr) (v : Ev) : (s.postAt t i v).tierQ = s.tierQ := rfl
@[simp] theorem State.postAt_umpLast (s : State) (t : Nat) (i : Instr) (v : Ev) : (s.postAt t i v).umpLast = s.umpLast := rfl
@[simp] theorem State.postAt_launches (s : State) (t : Nat) (i : Instr) (v : Ev) : (s.postAt t i v).launches = s.launches := rfl
@[simp] theorem State.postAt_nextLaunch (s : State) (t : Nat) (i : Instr) (v : Ev) : (s.postAt t i v).nextLaunch = s.nextLaunch := rfl
@[simp] theorem State.postAt_ports (s : State) (t : Nat) (i : Instr) (v : Ev) : (s.postAt t i v).ports = s.ports := rfl
@[simp] theorem State.postAt_module (s : State) (t : Nat) (i : Instr) (v : Ev) : (s.postAt t i v).module = s.module := rfl
@[simp] theorem State.postAt_time (s : State) (t : Nat) (i : Instr) (v : Ev) : (s.postAt t i v).time = s.time := rfl
@[simp] theorem State.postAt_slew (s : State) (t : Nat) (i : Instr) (v : Ev) : (s.postAt t i v).slew = s.slew := rfl
@[simp] theorem State.postAt_cptBase (s : State) (t : Nat) (i : Instr) (v : Ev) : (s.postAt t i v).cptBase = s.cptBase := rfl
@[simp] theorem State.postAt_bootPhase (s : State) (t : Nat) (i : Instr) (v : Ev) : (s.postAt t i v).bootPhase = s.bootPhase := rfl
@[simp] theorem State.postAt_safe (s : State) (t : Nat) (i : Instr) (v : Ev) : (s.postAt t i v).safe = s.safe := rfl
@[simp] theorem State.postAt_failRec (s : State) (t : Nat) (i : Instr) (v : Ev) : (s.postAt t i v).failRec = s.failRec := rfl
@[simp] theorem State.postAt_bootImage (s : State) (t : Nat) (i : Instr) (v : Ev) : (s.postAt t i v).bootImage = s.bootImage := rfl
@[simp] theorem State.postAt_verified (s : State) (t : Nat) (i : Instr) (v : Ev) : (s.postAt t i v).verified = s.verified := rfl
@[simp] theorem State.postAt_harvested (s : State) (t : Nat) (i : Instr) (v : Ev) : (s.postAt t i v).harvested = s.harvested := rfl
@[simp] theorem State.postAt_umpirePc (s : State) (t : Nat) (i : Instr) (v : Ev) : (s.postAt t i v).umpirePc = s.umpirePc := rfl
@[simp] theorem State.postAt_owed (s : State) (t : Nat) (i : Instr) (v : Ev) : (s.postAt t i v).owed = s.owed := rfl
@[simp] theorem State.postAt_heldStops (s : State) (t : Nat) (i : Instr) (v : Ev) : (s.postAt t i v).heldStops = s.heldStops := rfl
@[simp] theorem State.postAt_ev (s : State) (t : Nat) (i : Instr) (v : Ev) : (s.postAt t i v).ev = s.ev := rfl
@[simp] theorem State.postAt_cur (s : State) (t : Nat) (i : Instr) (v : Ev) : (s.postAt t i v).cur = s.cur := rfl
@[simp] theorem State.postAt_delays (s : State) (t : Nat) (i : Instr) (v : Ev) : (s.postAt t i v).delays = s.delays := rfl
@[simp] theorem State.postAt_paceCycles (s : State) (t : Nat) (i : Instr) (v : Ev) : (s.postAt t i v).paceCycles = s.paceCycles := rfl
@[simp] theorem State.postAt_paceTicks (s : State) (t : Nat) (i : Instr) (v : Ev) : (s.postAt t i v).paceTicks = s.paceTicks := rfl
@[simp] theorem State.postAt_grp (s : State) (t : Nat) (i : Instr) (v : Ev) : (s.postAt t i v).grp = s.grp := rfl
@[simp] theorem State.postAt_budgetWritten (s : State) (t : Nat) (i : Instr) (v : Ev) : (s.postAt t i v).budgetWritten = s.budgetWritten := rfl
@[simp] theorem State.postAt_budgetGrant (s : State) (t : Nat) (i : Instr) (v : Ev) : (s.postAt t i v).budgetGrant = s.budgetGrant := rfl
@[simp] theorem State.postAt_cycles (s : State) (t : Nat) (i : Instr) (v : Ev) : (s.postAt t i v).cycles = s.cycles := rfl
@[simp] theorem State.postAt_nextGang (s : State) (t : Nat) (i : Instr) (v : Ev) : (s.postAt t i v).nextGang = s.nextGang := rfl
@[simp] theorem State.postAt_nextTask (s : State) (t : Nat) (i : Instr) (v : Ev) : (s.postAt t i v).nextTask = s.nextTask := rfl
@[simp] theorem State.postAt_freeCtr (s : State) (t : Nat) (i : Instr) (v : Ev) : (s.postAt t i v).freeCtr = s.freeCtr := rfl
@[simp] theorem State.postAt_outbox (s : State) (t : Nat) (i : Instr) (v : Ev) : (s.postAt t i v).outbox = s.outbox := rfl

@[simp] theorem State.unpost_ctxs (s : State) (p : Instr → Ev → Bool) : (s.unpost p).ctxs = s.ctxs := rfl
@[simp] theorem State.unpost_cores (s : State) (p : Instr → Ev → Bool) : (s.unpost p).cores = s.cores := rfl
@[simp] theorem State.unpost_tiles (s : State) (p : Instr → Ev → Bool) : (s.unpost p).tiles = s.tiles := rfl
@[simp] theorem State.unpost_cols (s : State) (p : Instr → Ev → Bool) : (s.unpost p).cols = s.cols := rfl
@[simp] theorem State.unpost_regions (s : State) (p : Instr → Ev → Bool) : (s.unpost p).regions = s.regions := rfl
@[simp] theorem State.unpost_rcbs (s : State) (p : Instr → Ev → Bool) : (s.unpost p).rcbs = s.rcbs := rfl
@[simp] theorem State.unpost_mem (s : State) (p : Instr → Ev → Bool) : (s.unpost p).mem = s.mem := rfl
@[simp] theorem State.unpost_full (s : State) (p : Instr → Ev → Bool) : (s.unpost p).full = s.full := rfl
@[simp] theorem State.unpost_poison (s : State) (p : Instr → Ev → Bool) : (s.unpost p).poison = s.poison := rfl
@[simp] theorem State.unpost_net (s : State) (p : Instr → Ev → Bool) : (s.unpost p).net = s.net := rfl
@[simp] theorem State.unpost_nextPkt (s : State) (p : Instr → Ev → Bool) : (s.unpost p).nextPkt = s.nextPkt := rfl
@[simp] theorem State.unpost_queues (s : State) (p : Instr → Ev → Bool) : (s.unpost p).queues = s.queues := rfl
@[simp] theorem State.unpost_qtBase (s : State) (p : Instr → Ev → Bool) : (s.unpost p).qtBase = s.qtBase := rfl
@[simp] theorem State.unpost_pageAge (s : State) (p : Instr → Ev → Bool) : (s.unpost p).pageAge = s.pageAge := rfl
@[simp] theorem State.unpost_slots (s : State) (p : Instr → Ev → Bool) : (s.unpost p).slots = s.slots := rfl
@[simp] theorem State.unpost_hostMem (s : State) (p : Instr → Ev → Bool) : (s.unpost p).hostMem = s.hostMem := rfl
@[simp] theorem State.unpost_pendWakes (s : State) (p : Instr → Ev → Bool) : (s.unpost p).pendWakes = s.pendWakes := rfl
@[simp] theorem State.unpost_beat (s : State) (p : Instr → Ev → Bool) : (s.unpost p).beat = s.beat := rfl
@[simp] theorem State.unpost_tierQ (s : State) (p : Instr → Ev → Bool) : (s.unpost p).tierQ = s.tierQ := rfl
@[simp] theorem State.unpost_umpLast (s : State) (p : Instr → Ev → Bool) : (s.unpost p).umpLast = s.umpLast := rfl
@[simp] theorem State.unpost_launches (s : State) (p : Instr → Ev → Bool) : (s.unpost p).launches = s.launches := rfl
@[simp] theorem State.unpost_nextLaunch (s : State) (p : Instr → Ev → Bool) : (s.unpost p).nextLaunch = s.nextLaunch := rfl
@[simp] theorem State.unpost_ports (s : State) (p : Instr → Ev → Bool) : (s.unpost p).ports = s.ports := rfl
@[simp] theorem State.unpost_module (s : State) (p : Instr → Ev → Bool) : (s.unpost p).module = s.module := rfl
@[simp] theorem State.unpost_time (s : State) (p : Instr → Ev → Bool) : (s.unpost p).time = s.time := rfl
@[simp] theorem State.unpost_slew (s : State) (p : Instr → Ev → Bool) : (s.unpost p).slew = s.slew := rfl
@[simp] theorem State.unpost_cptBase (s : State) (p : Instr → Ev → Bool) : (s.unpost p).cptBase = s.cptBase := rfl
@[simp] theorem State.unpost_bootPhase (s : State) (p : Instr → Ev → Bool) : (s.unpost p).bootPhase = s.bootPhase := rfl
@[simp] theorem State.unpost_safe (s : State) (p : Instr → Ev → Bool) : (s.unpost p).safe = s.safe := rfl
@[simp] theorem State.unpost_failRec (s : State) (p : Instr → Ev → Bool) : (s.unpost p).failRec = s.failRec := rfl
@[simp] theorem State.unpost_bootImage (s : State) (p : Instr → Ev → Bool) : (s.unpost p).bootImage = s.bootImage := rfl
@[simp] theorem State.unpost_verified (s : State) (p : Instr → Ev → Bool) : (s.unpost p).verified = s.verified := rfl
@[simp] theorem State.unpost_harvested (s : State) (p : Instr → Ev → Bool) : (s.unpost p).harvested = s.harvested := rfl
@[simp] theorem State.unpost_umpirePc (s : State) (p : Instr → Ev → Bool) : (s.unpost p).umpirePc = s.umpirePc := rfl
@[simp] theorem State.unpost_owed (s : State) (p : Instr → Ev → Bool) : (s.unpost p).owed = s.owed := rfl
@[simp] theorem State.unpost_heldStops (s : State) (p : Instr → Ev → Bool) : (s.unpost p).heldStops = s.heldStops := rfl
@[simp] theorem State.unpost_ev (s : State) (p : Instr → Ev → Bool) : (s.unpost p).ev = s.ev := rfl
@[simp] theorem State.unpost_cur (s : State) (p : Instr → Ev → Bool) : (s.unpost p).cur = s.cur := rfl
@[simp] theorem State.unpost_delays (s : State) (p : Instr → Ev → Bool) : (s.unpost p).delays = s.delays := rfl
@[simp] theorem State.unpost_paceCycles (s : State) (p : Instr → Ev → Bool) : (s.unpost p).paceCycles = s.paceCycles := rfl
@[simp] theorem State.unpost_paceTicks (s : State) (p : Instr → Ev → Bool) : (s.unpost p).paceTicks = s.paceTicks := rfl
@[simp] theorem State.unpost_grp (s : State) (p : Instr → Ev → Bool) : (s.unpost p).grp = s.grp := rfl
@[simp] theorem State.unpost_budgetWritten (s : State) (p : Instr → Ev → Bool) : (s.unpost p).budgetWritten = s.budgetWritten := rfl
@[simp] theorem State.unpost_budgetGrant (s : State) (p : Instr → Ev → Bool) : (s.unpost p).budgetGrant = s.budgetGrant := rfl
@[simp] theorem State.unpost_cycles (s : State) (p : Instr → Ev → Bool) : (s.unpost p).cycles = s.cycles := rfl
@[simp] theorem State.unpost_nextGang (s : State) (p : Instr → Ev → Bool) : (s.unpost p).nextGang = s.nextGang := rfl
@[simp] theorem State.unpost_nextTask (s : State) (p : Instr → Ev → Bool) : (s.unpost p).nextTask = s.nextTask := rfl
@[simp] theorem State.unpost_freeCtr (s : State) (p : Instr → Ev → Bool) : (s.unpost p).freeCtr = s.freeCtr := rfl
@[simp] theorem State.unpost_outbox (s : State) (p : Instr → Ev → Bool) : (s.unpost p).outbox = s.outbox := rfl

/-! Records by number: what is read after one is written. -/

theorem State.ctxAt_setCtxAt (s : State) (c d : Nat) (x : Ctx) : (s.setCtxAt c x).ctxAt d = if c = d then x else s.ctxAt d :=
  tget_tput ..
theorem State.coreAt_setCoreAt (s : State) (c d : Nat) (x : Core) : (s.setCoreAt c x).coreAt d = if c = d then x else s.coreAt d :=
  tget_tput ..
theorem State.tileAt_setTileAt (s : State) (c d : Nat) (x : Tile) : (s.setTileAt c x).tileAt d = if c = d then x else s.tileAt d :=
  tget_tput ..
theorem State.colAt_setColAt (s : State) (c d : Nat) (x : Column) : (s.setColAt c x).colAt d = if c = d then x else s.colAt d :=
  tget_tput ..
@[simp] theorem State.ctxAt_setCtxAt_self (s : State) (c : Nat) (x : Ctx) : (s.setCtxAt c x).ctxAt c = x := tget_tput_self ..
@[simp] theorem State.coreAt_setCoreAt_self (s : State) (c : Nat) (x : Core) : (s.setCoreAt c x).coreAt c = x := tget_tput_self ..
@[simp] theorem State.tileAt_setTileAt_self (s : State) (c : Nat) (x : Tile) : (s.setTileAt c x).tileAt c = x := tget_tput_self ..
@[simp] theorem State.colAt_setColAt_self (s : State) (c : Nat) (x : Column) : (s.setColAt c x).colAt c = x := tget_tput_self ..
@[simp] theorem State.ctx_setCtx (s : State) (x : Ctx) : (s.setCtx x).ctx = x := tget_tput_self ..
@[simp] theorem State.core_setCore (s : State) (x : Core) : (s.setCore x).core = x := tget_tput_self ..
@[simp] theorem State.tile_setTile (s : State) (x : Tile) : (s.setTile x).tile = x := tget_tput_self ..
theorem State.ctxAt_setCtx_ne (s : State) (x : Ctx) (c : Nat) (h : c ≠ s.cur) : (s.setCtx x).ctxAt c = s.ctxAt c :=
  tget_tput_ne _ _ _ _ _ (Ne.symm h)
@[simp] theorem State.regionAt_setRegion (s : State) (x : Region) : (s.setRegion x).regionAt x.id = x := tget_tput_self ..

@[simp] theorem State.coreAt_setCtxAt (s : State) (c : Nat) (x : Ctx) (d : Nat) : (s.setCtxAt c x).coreAt d = s.coreAt d := rfl
@[simp] theorem State.tileAt_setCtxAt (s : State) (c : Nat) (x : Ctx) (d : Nat) : (s.setCtxAt c x).tileAt d = s.tileAt d := rfl
@[simp] theorem State.colAt_setCtxAt (s : State) (c : Nat) (x : Ctx) (d : Nat) : (s.setCtxAt c x).colAt d = s.colAt d := rfl
@[simp] theorem State.regionAt_setCtxAt (s : State) (c : Nat) (x : Ctx) (d : Word) : (s.setCtxAt c x).regionAt d = s.regionAt d := rfl
@[simp] theorem State.core_setCtxAt (s : State) (c : Nat) (x : Ctx) : (s.setCtxAt c x).core = s.core := rfl
@[simp] theorem State.tile_setCtxAt (s : State) (c : Nat) (x : Ctx) : (s.setCtxAt c x).tile = s.tile := rfl
@[simp] theorem State.coreNo_setCtxAt (s : State) (c : Nat) (x : Ctx) : (s.setCtxAt c x).coreNo = s.coreNo := rfl
@[simp] theorem State.siteNo_setCtxAt (s : State) (c : Nat) (x : Ctx) : (s.setCtxAt c x).siteNo = s.siteNo := rfl
@[simp] theorem State.colNo_setCtxAt (s : State) (c : Nat) (x : Ctx) : (s.setCtxAt c x).colNo = s.colNo := rfl
@[simp] theorem State.coreAt_setCtx (s : State) (x : Ctx) (d : Nat) : (s.setCtx x).coreAt d = s.coreAt d := rfl
@[simp] theorem State.tileAt_setCtx (s : State) (x : Ctx) (d : Nat) : (s.setCtx x).tileAt d = s.tileAt d := rfl
@[simp] theorem State.colAt_setCtx (s : State) (x : Ctx) (d : Nat) : (s.setCtx x).colAt d = s.colAt d := rfl
@[simp] theorem State.regionAt_setCtx (s : State) (x : Ctx) (d : Word) : (s.setCtx x).regionAt d = s.regionAt d := rfl
@[simp] theorem State.core_setCtx (s : State) (x : Ctx) : (s.setCtx x).core = s.core := rfl
@[simp] theorem State.tile_setCtx (s : State) (x : Ctx) : (s.setCtx x).tile = s.tile := rfl
@[simp] theorem State.coreNo_setCtx (s : State) (x : Ctx) : (s.setCtx x).coreNo = s.coreNo := rfl
@[simp] theorem State.siteNo_setCtx (s : State) (x : Ctx) : (s.setCtx x).siteNo = s.siteNo := rfl
@[simp] theorem State.colNo_setCtx (s : State) (x : Ctx) : (s.setCtx x).colNo = s.colNo := rfl
@[simp] theorem State.coreAt_wg (s : State) (r : BitVec 5) (x : Word) (d : Nat) : (s.wg r x).coreAt d = s.coreAt d := rfl
@[simp] theorem State.tileAt_wg (s : State) (r : BitVec 5) (x : Word) (d : Nat) : (s.wg r x).tileAt d = s.tileAt d := rfl
@[simp] theorem State.colAt_wg (s : State) (r : BitVec 5) (x : Word) (d : Nat) : (s.wg r x).colAt d = s.colAt d := rfl
@[simp] theorem State.regionAt_wg (s : State) (r : BitVec 5) (x : Word) (d : Word) : (s.wg r x).regionAt d = s.regionAt d := rfl
@[simp] theorem State.core_wg (s : State) (r : BitVec 5) (x : Word) : (s.wg r x).core = s.core := rfl
@[simp] theorem State.tile_wg (s : State) (r : BitVec 5) (x : Word) : (s.wg r x).tile = s.tile := rfl
@[simp] theorem State.coreNo_wg (s : State) (r : BitVec 5) (x : Word) : (s.wg r x).coreNo = s.coreNo := rfl
@[simp] theorem State.siteNo_wg (s : State) (r : BitVec 5) (x : Word) : (s.wg r x).siteNo = s.siteNo := rfl
@[simp] theorem State.colNo_wg (s : State) (r : BitVec 5) (x : Word) : (s.wg r x).colNo = s.colNo := rfl
@[simp] theorem State.coreAt_wv (s : State) (r : BitVec 5) (x : VWord) (d : Nat) : (s.wv r x).coreAt d = s.coreAt d := rfl
@[simp] theorem State.tileAt_wv (s : State) (r : BitVec 5) (x : VWord) (d : Nat) : (s.wv r x).tileAt d = s.tileAt d := rfl
@[simp] theorem State.colAt_wv (s : State) (r : BitVec 5) (x : VWord) (d : Nat) : (s.wv r x).colAt d = s.colAt d := rfl
@[simp] theorem State.regionAt_wv (s : State) (r : BitVec 5) (x : VWord) (d : Word) : (s.wv r x).regionAt d = s.regionAt d := rfl
@[simp] theorem State.core_wv (s : State) (r : BitVec 5) (x : VWord) : (s.wv r x).core = s.core := rfl
@[simp] theorem State.tile_wv (s : State) (r : BitVec 5) (x : VWord) : (s.wv r x).tile = s.tile := rfl
@[simp] theorem State.coreNo_wv (s : State) (r : BitVec 5) (x : VWord) : (s.wv r x).coreNo = s.coreNo := rfl
@[simp] theorem State.siteNo_wv (s : State) (r : BitVec 5) (x : VWord) : (s.wv r x).siteNo = s.siteNo := rfl
@[simp] theorem State.colNo_wv (s : State) (r : BitVec 5) (x : VWord) : (s.wv r x).colNo = s.colNo := rfl
@[simp] theorem State.coreAt_raise (s : State) (f : BitVec 6) (d : Nat) : (s.raise f).coreAt d = s.coreAt d := rfl
@[simp] theorem State.tileAt_raise (s : State) (f : BitVec 6) (d : Nat) : (s.raise f).tileAt d = s.tileAt d := rfl
@[simp] theorem State.colAt_raise (s : State) (f : BitVec 6) (d : Nat) : (s.raise f).colAt d = s.colAt d := rfl
@[simp] theorem State.regionAt_raise (s : State) (f : BitVec 6) (d : Word) : (s.raise f).regionAt d = s.regionAt d := rfl
@[simp] theorem State.core_raise (s : State) (f : BitVec 6) : (s.raise f).core = s.core := rfl
@[simp] theorem State.tile_raise (s : State) (f : BitVec 6) : (s.raise f).tile = s.tile := rfl
@[simp] theorem State.coreNo_raise (s : State) (f : BitVec 6) : (s.raise f).coreNo = s.coreNo := rfl
@[simp] theorem State.siteNo_raise (s : State) (f : BitVec 6) : (s.raise f).siteNo = s.siteNo := rfl
@[simp] theorem State.colNo_raise (s : State) (f : BitVec 6) : (s.raise f).colNo = s.colNo := rfl
@[simp] theorem State.coreAt_finish (s : State) (d : Nat) : (s.finish).coreAt d = s.coreAt d := rfl
@[simp] theorem State.tileAt_finish (s : State) (d : Nat) : (s.finish).tileAt d = s.tileAt d := rfl
@[simp] theorem State.colAt_finish (s : State) (d : Nat) : (s.finish).colAt d = s.colAt d := rfl
@[simp] theorem State.regionAt_finish (s : State) (d : Word) : (s.finish).regionAt d = s.regionAt d := rfl
@[simp] theorem State.core_finish (s : State) : (s.finish).core = s.core := rfl
@[simp] theorem State.tile_finish (s : State) : (s.finish).tile = s.tile := rfl
@[simp] theorem State.coreNo_finish (s : State) : (s.finish).coreNo = s.coreNo := rfl
@[simp] theorem State.siteNo_finish (s : State) : (s.finish).siteNo = s.siteNo := rfl
@[simp] theorem State.colNo_finish (s : State) : (s.finish).colNo = s.colNo := rfl
@[simp] theorem State.ctxAt_setCoreAt (s : State) (k : Nat) (x : Core) (d : Nat) : (s.setCoreAt k x).ctxAt d = s.ctxAt d := rfl
@[simp] theorem State.tileAt_setCoreAt (s : State) (k : Nat) (x : Core) (d : Nat) : (s.setCoreAt k x).tileAt d = s.tileAt d := rfl
@[simp] theorem State.colAt_setCoreAt (s : State) (k : Nat) (x : Core) (d : Nat) : (s.setCoreAt k x).colAt d = s.colAt d := rfl
@[simp] theorem State.regionAt_setCoreAt (s : State) (k : Nat) (x : Core) (d : Word) : (s.setCoreAt k x).regionAt d = s.regionAt d := rfl
@[simp] theorem State.ctx_setCoreAt (s : State) (k : Nat) (x : Core) : (s.setCoreAt k x).ctx = s.ctx := rfl
@[simp] theorem State.tile_setCoreAt (s : State) (k : Nat) (x : Core) : (s.setCoreAt k x).tile = s.tile := rfl
@[simp] theorem State.coreNo_setCoreAt (s : State) (k : Nat) (x : Core) : (s.setCoreAt k x).coreNo = s.coreNo := rfl
@[simp] theorem State.siteNo_setCoreAt (s : State) (k : Nat) (x : Core) : (s.setCoreAt k x).siteNo = s.siteNo := rfl
@[simp] theorem State.colNo_setCoreAt (s : State) (k : Nat) (x : Core) : (s.setCoreAt k x).colNo = s.colNo := rfl
@[simp] theorem State.ctxAt_setCore (s : State) (x : Core) (d : Nat) : (s.setCore x).ctxAt d = s.ctxAt d := rfl
@[simp] theorem State.tileAt_setCore (s : State) (x : Core) (d : Nat) : (s.setCore x).tileAt d = s.tileAt d := rfl
@[simp] theorem State.colAt_setCore (s : State) (x : Core) (d : Nat) : (s.setCore x).colAt d = s.colAt d := rfl
@[simp] theorem State.regionAt_setCore (s : State) (x : Core) (d : Word) : (s.setCore x).regionAt d = s.regionAt d := rfl
@[simp] theorem State.ctx_setCore (s : State) (x : Core) : (s.setCore x).ctx = s.ctx := rfl
@[simp] theorem State.tile_setCore (s : State) (x : Core) : (s.setCore x).tile = s.tile := rfl
@[simp] theorem State.coreNo_setCore (s : State) (x : Core) : (s.setCore x).coreNo = s.coreNo := rfl
@[simp] theorem State.siteNo_setCore (s : State) (x : Core) : (s.setCore x).siteNo = s.siteNo := rfl
@[simp] theorem State.colNo_setCore (s : State) (x : Core) : (s.setCore x).colNo = s.colNo := rfl
@[simp] theorem State.ctxAt_setTileAt (s : State) (k : Nat) (x : Tile) (d : Nat) : (s.setTileAt k x).ctxAt d = s.ctxAt d := rfl
@[simp] theorem State.coreAt_setTileAt (s : State) (k : Nat) (x : Tile) (d : Nat) : (s.setTileAt k x).coreAt d = s.coreAt d := rfl
@[simp] theorem State.colAt_setTileAt (s : State) (k : Nat) (x : Tile) (d : Nat) : (s.setTileAt k x).colAt d = s.colAt d := rfl
@[simp] theorem State.regionAt_setTileAt (s : State) (k : Nat) (x : Tile) (d : Word) : (s.setTileAt k x).regionAt d = s.regionAt d := rfl
@[simp] theorem State.ctx_setTileAt (s : State) (k : Nat) (x : Tile) : (s.setTileAt k x).ctx = s.ctx := rfl
@[simp] theorem State.core_setTileAt (s : State) (k : Nat) (x : Tile) : (s.setTileAt k x).core = s.core := rfl
@[simp] theorem State.coreNo_setTileAt (s : State) (k : Nat) (x : Tile) : (s.setTileAt k x).coreNo = s.coreNo := rfl
@[simp] theorem State.siteNo_setTileAt (s : State) (k : Nat) (x : Tile) : (s.setTileAt k x).siteNo = s.siteNo := rfl
@[simp] theorem State.colNo_setTileAt (s : State) (k : Nat) (x : Tile) : (s.setTileAt k x).colNo = s.colNo := rfl
@[simp] theorem State.ctxAt_setTile (s : State) (x : Tile) (d : Nat) : (s.setTile x).ctxAt d = s.ctxAt d := rfl
@[simp] theorem State.coreAt_setTile (s : State) (x : Tile) (d : Nat) : (s.setTile x).coreAt d = s.coreAt d := rfl
@[simp] theorem State.colAt_setTile (s : State) (x : Tile) (d : Nat) : (s.setTile x).colAt d = s.colAt d := rfl
@[simp] theorem State.regionAt_setTile (s : State) (x : Tile) (d : Word) : (s.setTile x).regionAt d = s.regionAt d := rfl
@[simp] theorem State.ctx_setTile (s : State) (x : Tile) : (s.setTile x).ctx = s.ctx := rfl
@[simp] theorem State.core_setTile (s : State) (x : Tile) : (s.setTile x).core = s.core := rfl
@[simp] theorem State.coreNo_setTile (s : State) (x : Tile) : (s.setTile x).coreNo = s.coreNo := rfl
@[simp] theorem State.siteNo_setTile (s : State) (x : Tile) : (s.setTile x).siteNo = s.siteNo := rfl
@[simp] theorem State.colNo_setTile (s : State) (x : Tile) : (s.setTile x).colNo = s.colNo := rfl
@[simp] theorem State.ctxAt_setColAt (s : State) (k : Nat) (x : Column) (d : Nat) : (s.setColAt k x).ctxAt d = s.ctxAt d := rfl
@[simp] theorem State.coreAt_setColAt (s : State) (k : Nat) (x : Column) (d : Nat) : (s.setColAt k x).coreAt d = s.coreAt d := rfl
@[simp] theorem State.tileAt_setColAt (s : State) (k : Nat) (x : Column) (d : Nat) : (s.setColAt k x).tileAt d = s.tileAt d := rfl
@[simp] theorem State.regionAt_setColAt (s : State) (k : Nat) (x : Column) (d : Word) : (s.setColAt k x).regionAt d = s.regionAt d := rfl
@[simp] theorem State.ctx_setColAt (s : State) (k : Nat) (x : Column) : (s.setColAt k x).ctx = s.ctx := rfl
@[simp] theorem State.core_setColAt (s : State) (k : Nat) (x : Column) : (s.setColAt k x).core = s.core := rfl
@[simp] theorem State.tile_setColAt (s : State) (k : Nat) (x : Column) : (s.setColAt k x).tile = s.tile := rfl
@[simp] theorem State.coreNo_setColAt (s : State) (k : Nat) (x : Column) : (s.setColAt k x).coreNo = s.coreNo := rfl
@[simp] theorem State.siteNo_setColAt (s : State) (k : Nat) (x : Column) : (s.setColAt k x).siteNo = s.siteNo := rfl
@[simp] theorem State.colNo_setColAt (s : State) (k : Nat) (x : Column) : (s.setColAt k x).colNo = s.colNo := rfl
@[simp] theorem State.ctxAt_setRegion (s : State) (x : Region) (d : Nat) : (s.setRegion x).ctxAt d = s.ctxAt d := rfl
@[simp] theorem State.coreAt_setRegion (s : State) (x : Region) (d : Nat) : (s.setRegion x).coreAt d = s.coreAt d := rfl
@[simp] theorem State.tileAt_setRegion (s : State) (x : Region) (d : Nat) : (s.setRegion x).tileAt d = s.tileAt d := rfl
@[simp] theorem State.colAt_setRegion (s : State) (x : Region) (d : Nat) : (s.setRegion x).colAt d = s.colAt d := rfl
@[simp] theorem State.ctx_setRegion (s : State) (x : Region) : (s.setRegion x).ctx = s.ctx := rfl
@[simp] theorem State.core_setRegion (s : State) (x : Region) : (s.setRegion x).core = s.core := rfl
@[simp] theorem State.tile_setRegion (s : State) (x : Region) : (s.setRegion x).tile = s.tile := rfl
@[simp] theorem State.coreNo_setRegion (s : State) (x : Region) : (s.setRegion x).coreNo = s.coreNo := rfl
@[simp] theorem State.siteNo_setRegion (s : State) (x : Region) : (s.setRegion x).siteNo = s.siteNo := rfl
@[simp] theorem State.colNo_setRegion (s : State) (x : Region) : (s.setRegion x).colNo = s.colNo := rfl
@[simp] theorem State.ctxAt_writeBytes (s : State) (a : Nat) (l : List Byte) (d : Nat) : (s.writeBytes a l).ctxAt d = s.ctxAt d := rfl
@[simp] theorem State.coreAt_writeBytes (s : State) (a : Nat) (l : List Byte) (d : Nat) : (s.writeBytes a l).coreAt d = s.coreAt d := rfl
@[simp] theorem State.tileAt_writeBytes (s : State) (a : Nat) (l : List Byte) (d : Nat) : (s.writeBytes a l).tileAt d = s.tileAt d := rfl
@[simp] theorem State.colAt_writeBytes (s : State) (a : Nat) (l : List Byte) (d : Nat) : (s.writeBytes a l).colAt d = s.colAt d := rfl
@[simp] theorem State.regionAt_writeBytes (s : State) (a : Nat) (l : List Byte) (d : Word) : (s.writeBytes a l).regionAt d = s.regionAt d := rfl
@[simp] theorem State.ctx_writeBytes (s : State) (a : Nat) (l : List Byte) : (s.writeBytes a l).ctx = s.ctx := rfl
@[simp] theorem State.core_writeBytes (s : State) (a : Nat) (l : List Byte) : (s.writeBytes a l).core = s.core := rfl
@[simp] theorem State.tile_writeBytes (s : State) (a : Nat) (l : List Byte) : (s.writeBytes a l).tile = s.tile := rfl
@[simp] theorem State.coreNo_writeBytes (s : State) (a : Nat) (l : List Byte) : (s.writeBytes a l).coreNo = s.coreNo := rfl
@[simp] theorem State.siteNo_writeBytes (s : State) (a : Nat) (l : List Byte) : (s.writeBytes a l).siteNo = s.siteNo := rfl
@[simp] theorem State.colNo_writeBytes (s : State) (a : Nat) (l : List Byte) : (s.writeBytes a l).colNo = s.colNo := rfl
@[simp] theorem State.ctxAt_writeNat (s : State) (a n x : Nat) (d : Nat) : (s.writeNat a n x).ctxAt d = s.ctxAt d := rfl
@[simp] theorem State.coreAt_writeNat (s : State) (a n x : Nat) (d : Nat) : (s.writeNat a n x).coreAt d = s.coreAt d := rfl
@[simp] theorem State.tileAt_writeNat (s : State) (a n x : Nat) (d : Nat) : (s.writeNat a n x).tileAt d = s.tileAt d := rfl
@[simp] theorem State.colAt_writeNat (s : State) (a n x : Nat) (d : Nat) : (s.writeNat a n x).colAt d = s.colAt d := rfl
@[simp] theorem State.regionAt_writeNat (s : State) (a n x : Nat) (d : Word) : (s.writeNat a n x).regionAt d = s.regionAt d := rfl
@[simp] theorem State.ctx_writeNat (s : State) (a n x : Nat) : (s.writeNat a n x).ctx = s.ctx := rfl
@[simp] theorem State.core_writeNat (s : State) (a n x : Nat) : (s.writeNat a n x).core = s.core := rfl
@[simp] theorem State.tile_writeNat (s : State) (a n x : Nat) : (s.writeNat a n x).tile = s.tile := rfl
@[simp] theorem State.coreNo_writeNat (s : State) (a n x : Nat) : (s.writeNat a n x).coreNo = s.coreNo := rfl
@[simp] theorem State.siteNo_writeNat (s : State) (a n x : Nat) : (s.writeNat a n x).siteNo = s.siteNo := rfl
@[simp] theorem State.colNo_writeNat (s : State) (a n x : Nat) : (s.writeNat a n x).colNo = s.colNo := rfl
@[simp] theorem State.ctxAt_writeWord (s : State) (a : Nat) (x : Word) (d : Nat) : (s.writeWord a x).ctxAt d = s.ctxAt d := rfl
@[simp] theorem State.coreAt_writeWord (s : State) (a : Nat) (x : Word) (d : Nat) : (s.writeWord a x).coreAt d = s.coreAt d := rfl
@[simp] theorem State.tileAt_writeWord (s : State) (a : Nat) (x : Word) (d : Nat) : (s.writeWord a x).tileAt d = s.tileAt d := rfl
@[simp] theorem State.colAt_writeWord (s : State) (a : Nat) (x : Word) (d : Nat) : (s.writeWord a x).colAt d = s.colAt d := rfl
@[simp] theorem State.regionAt_writeWord (s : State) (a : Nat) (x : Word) (d : Word) : (s.writeWord a x).regionAt d = s.regionAt d := rfl
@[simp] theorem State.ctx_writeWord (s : State) (a : Nat) (x : Word) : (s.writeWord a x).ctx = s.ctx := rfl
@[simp] theorem State.core_writeWord (s : State) (a : Nat) (x : Word) : (s.writeWord a x).core = s.core := rfl
@[simp] theorem State.tile_writeWord (s : State) (a : Nat) (x : Word) : (s.writeWord a x).tile = s.tile := rfl
@[simp] theorem State.coreNo_writeWord (s : State) (a : Nat) (x : Word) : (s.writeWord a x).coreNo = s.coreNo := rfl
@[simp] theorem State.siteNo_writeWord (s : State) (a : Nat) (x : Word) : (s.writeWord a x).siteNo = s.siteNo := rfl
@[simp] theorem State.colNo_writeWord (s : State) (a : Nat) (x : Word) : (s.writeWord a x).colNo = s.colNo := rfl
@[simp] theorem State.ctxAt_post (s : State) (dt : Nat) (i : Instr) (v : Ev) (d : Nat) : (s.post dt i v).ctxAt d = s.ctxAt d := rfl
@[simp] theorem State.coreAt_post (s : State) (dt : Nat) (i : Instr) (v : Ev) (d : Nat) : (s.post dt i v).coreAt d = s.coreAt d := rfl
@[simp] theorem State.tileAt_post (s : State) (dt : Nat) (i : Instr) (v : Ev) (d : Nat) : (s.post dt i v).tileAt d = s.tileAt d := rfl
@[simp] theorem State.colAt_post (s : State) (dt : Nat) (i : Instr) (v : Ev) (d : Nat) : (s.post dt i v).colAt d = s.colAt d := rfl
@[simp] theorem State.regionAt_post (s : State) (dt : Nat) (i : Instr) (v : Ev) (d : Word) : (s.post dt i v).regionAt d = s.regionAt d := rfl
@[simp] theorem State.ctx_post (s : State) (dt : Nat) (i : Instr) (v : Ev) : (s.post dt i v).ctx = s.ctx := rfl
@[simp] theorem State.core_post (s : State) (dt : Nat) (i : Instr) (v : Ev) : (s.post dt i v).core = s.core := rfl
@[simp] theorem State.tile_post (s : State) (dt : Nat) (i : Instr) (v : Ev) : (s.post dt i v).tile = s.tile := rfl
@[simp] theorem State.coreNo_post (s : State) (dt : Nat) (i : Instr) (v : Ev) : (s.post dt i v).coreNo = s.coreNo := rfl
@[simp] theorem State.siteNo_post (s : State) (dt : Nat) (i : Instr) (v : Ev) : (s.post dt i v).siteNo = s.siteNo := rfl
@[simp] theorem State.colNo_post (s : State) (dt : Nat) (i : Instr) (v : Ev) : (s.post dt i v).colNo = s.colNo := rfl
@[simp] theorem State.ctxAt_postAt (s : State) (t : Nat) (i : Instr) (v : Ev) (d : Nat) : (s.postAt t i v).ctxAt d = s.ctxAt d := rfl
@[simp] theorem State.coreAt_postAt (s : State) (t : Nat) (i : Instr) (v : Ev) (d : Nat) : (s.postAt t i v).coreAt d = s.coreAt d := rfl
@[simp] theorem State.tileAt_postAt (s : State) (t : Nat) (i : Instr) (v : Ev) (d : Nat) : (s.postAt t i v).tileAt d = s.tileAt d := rfl
@[simp] theorem State.colAt_postAt (s : State) (t : Nat) (i : Instr) (v : Ev) (d : Nat) : (s.postAt t i v).colAt d = s.colAt d := rfl
@[simp] theorem State.regionAt_postAt (s : State) (t : Nat) (i : Instr) (v : Ev) (d : Word) : (s.postAt t i v).regionAt d = s.regionAt d := rfl
@[simp] theorem State.ctx_postAt (s : State) (t : Nat) (i : Instr) (v : Ev) : (s.postAt t i v).ctx = s.ctx := rfl
@[simp] theorem State.core_postAt (s : State) (t : Nat) (i : Instr) (v : Ev) : (s.postAt t i v).core = s.core := rfl
@[simp] theorem State.tile_postAt (s : State) (t : Nat) (i : Instr) (v : Ev) : (s.postAt t i v).tile = s.tile := rfl
@[simp] theorem State.coreNo_postAt (s : State) (t : Nat) (i : Instr) (v : Ev) : (s.postAt t i v).coreNo = s.coreNo := rfl
@[simp] theorem State.siteNo_postAt (s : State) (t : Nat) (i : Instr) (v : Ev) : (s.postAt t i v).siteNo = s.siteNo := rfl
@[simp] theorem State.colNo_postAt (s : State) (t : Nat) (i : Instr) (v : Ev) : (s.postAt t i v).colNo = s.colNo := rfl
@[simp] theorem State.ctxAt_unpost (s : State) (p : Instr → Ev → Bool) (d : Nat) : (s.unpost p).ctxAt d = s.ctxAt d := rfl
@[simp] theorem State.coreAt_unpost (s : State) (p : Instr → Ev → Bool) (d : Nat) : (s.unpost p).coreAt d = s.coreAt d := rfl
@[simp] theorem State.tileAt_unpost (s : State) (p : Instr → Ev → Bool) (d : Nat) : (s.unpost p).tileAt d = s.tileAt d := rfl
@[simp] theorem State.colAt_unpost (s : State) (p : Instr → Ev → Bool) (d : Nat) : (s.unpost p).colAt d = s.colAt d := rfl
@[simp] theorem State.regionAt_unpost (s : State) (p : Instr → Ev → Bool) (d : Word) : (s.unpost p).regionAt d = s.regionAt d := rfl
@[simp] theorem State.ctx_unpost (s : State) (p : Instr → Ev → Bool) : (s.unpost p).ctx = s.ctx := rfl
@[simp] theorem State.core_unpost (s : State) (p : Instr → Ev → Bool) : (s.unpost p).core = s.core := rfl
@[simp] theorem State.tile_unpost (s : State) (p : Instr → Ev → Bool) : (s.unpost p).tile = s.tile := rfl
@[simp] theorem State.coreNo_unpost (s : State) (p : Instr → Ev → Bool) : (s.unpost p).coreNo = s.coreNo := rfl
@[simp] theorem State.siteNo_unpost (s : State) (p : Instr → Ev → Bool) : (s.unpost p).siteNo = s.siteNo := rfl
@[simp] theorem State.colNo_unpost (s : State) (p : Instr → Ev → Bool) : (s.unpost p).colNo = s.colNo := rfl

/-! The updates of a context. -/

@[simp] theorem Ctx.wg_v (c : Ctx) (r : Nat) (x : Word) : (c.wg r x).v = c.v := by unfold Ctx.wg; split <;> rfl
@[simp] theorem Ctx.wg_m (c : Ctx) (r : Nat) (x : Word) : (c.wg r x).m = c.m := by unfold Ctx.wg; split <;> rfl
@[simp] theorem Ctx.wg_pc (c : Ctx) (r : Nat) (x : Word) : (c.wg r x).pc = c.pc := by unfold Ctx.wg; split <;> rfl
@[simp] theorem Ctx.wg_cls (c : Ctx) (r : Nat) (x : Word) : (c.wg r x).cls = c.cls := by unfold Ctx.wg; split <;> rfl
@[simp] theorem Ctx.wg_priv (c : Ctx) (r : Nat) (x : Word) : (c.wg r x).priv = c.priv := by unfold Ctx.wg; split <;> rfl
@[simp] theorem Ctx.wg_gang (c : Ctx) (r : Nat) (x : Word) : (c.wg r x).gang = c.gang := by unfold Ctx.wg; split <;> rfl
@[simp] theorem Ctx.wg_inTrap (c : Ctx) (r : Nat) (x : Word) : (c.wg r x).inTrap = c.inTrap := by unfold Ctx.wg; split <;> rfl
@[simp] theorem Ctx.wg_st (c : Ctx) (r : Nat) (x : Word) : (c.wg r x).st = c.st := by unfold Ctx.wg; split <;> rfl
@[simp] theorem Ctx.wg_trap (c : Ctx) (r : Nat) (x : Word) : (c.wg r x).trap = c.trap := by unfold Ctx.wg; split <;> rfl
@[simp] theorem Ctx.wg_ntrap (c : Ctx) (r : Nat) (x : Word) : (c.wg r x).ntrap = c.ntrap := by unfold Ctx.wg; split <;> rfl
@[simp] theorem Ctx.wg_trapen (c : Ctx) (r : Nat) (x : Word) : (c.wg r x).trapen = c.trapen := by unfold Ctx.wg; split <;> rfl
@[simp] theorem Ctx.wg_rm (c : Ctx) (r : Nat) (x : Word) : (c.wg r x).rm = c.rm := by unfold Ctx.wg; split <;> rfl
@[simp] theorem Ctx.wg_fpflags (c : Ctx) (r : Nat) (x : Word) : (c.wg r x).fpflags = c.fpflags := by unfold Ctx.wg; split <;> rfl
@[simp] theorem Ctx.wg_vflags0 (c : Ctx) (r : Nat) (x : Word) : (c.wg r x).vflags0 = c.vflags0 := by unfold Ctx.wg; split <;> rfl
@[simp] theorem Ctx.wg_vflags1 (c : Ctx) (r : Nat) (x : Word) : (c.wg r x).vflags1 = c.vflags1 := by unfold Ctx.wg; split <;> rfl
@[simp] theorem Ctx.wg_vgrant (c : Ctx) (r : Nat) (x : Word) : (c.wg r x).vgrant = c.vgrant := by unfold Ctx.wg; split <;> rfl
@[simp] theorem Ctx.wg_budgetRem (c : Ctx) (r : Nat) (x : Word) : (c.wg r x).budgetRem = c.budgetRem := by unfold Ctx.wg; split <;> rfl
@[simp] theorem Ctx.wg_deadline (c : Ctx) (r : Nat) (x : Word) : (c.wg r x).deadline = c.deadline := by unfold Ctx.wg; split <;> rfl
@[simp] theorem Ctx.wg_region (c : Ctx) (r : Nat) (x : Word) : (c.wg r x).region = c.region := by unfold Ctx.wg; split <;> rfl
@[simp] theorem Ctx.wg_taskinfo (c : Ctx) (r : Nat) (x : Word) : (c.wg r x).taskinfo = c.taskinfo := by unfold Ctx.wg; split <;> rfl
@[simp] theorem Ctx.wg_rep (c : Ctx) (r : Nat) (x : Word) : (c.wg r x).rep = c.rep := by unfold Ctx.wg; split <;> rfl
@[simp] theorem Ctx.wg_taskCyc (c : Ctx) (r : Nat) (x : Word) : (c.wg r x).taskCyc = c.taskCyc := by unfold Ctx.wg; split <;> rfl
@[simp] theorem Ctx.wg_prevRegion (c : Ctx) (r : Nat) (x : Word) : (c.wg r x).prevRegion = c.prevRegion := by unfold Ctx.wg; split <;> rfl
@[simp] theorem Ctx.wg_startBudget (c : Ctx) (r : Nat) (x : Word) : (c.wg r x).startBudget = c.startBudget := by unfold Ctx.wg; split <;> rfl
@[simp] theorem Ctx.wg_wait (c : Ctx) (r : Nat) (x : Word) : (c.wg r x).wait = c.wait := by unfold Ctx.wg; split <;> rfl
@[simp] theorem Ctx.wg_held (c : Ctx) (r : Nat) (x : Word) : (c.wg r x).held = c.held := by unfold Ctx.wg; split <;> rfl
@[simp] theorem Ctx.wg_trapWork (c : Ctx) (r : Nat) (x : Word) : (c.wg r x).trapWork = c.trapWork := by unfold Ctx.wg; split <;> rfl
@[simp] theorem Ctx.wg_ntrapWork (c : Ctx) (r : Nat) (x : Word) : (c.wg r x).ntrapWork = c.ntrapWork := by unfold Ctx.wg; split <;> rfl
@[simp] theorem Ctx.wg_pend (c : Ctx) (r : Nat) (x : Word) : (c.wg r x).pend = c.pend := by unfold Ctx.wg; split <;> rfl
@[simp] theorem Ctx.wg_slot (c : Ctx) (r : Nat) (x : Word) : (c.wg r x).slot = c.slot := by unfold Ctx.wg; split <;> rfl
@[simp] theorem Ctx.wg_stallAt (c : Ctx) (r : Nat) (x : Word) : (c.wg r x).stallAt = c.stallAt := by unfold Ctx.wg; split <;> rfl
@[simp] theorem Ctx.wg_saving (c : Ctx) (r : Nat) (x : Word) : (c.wg r x).saving = c.saving := by unfold Ctx.wg; split <;> rfl
@[simp] theorem Ctx.rv_wg (c : Ctx) (r : Nat) (x : Word) (k : Nat) : (c.wg r x).rv k = c.rv k := by simp [Ctx.rv]
@[simp] theorem Ctx.rmk_wg (c : Ctx) (r : Nat) (x : Word) (k : Nat) : (c.wg r x).rmk k = c.rmk k := by simp [Ctx.rmk]

@[simp] theorem Ctx.wv_g (c : Ctx) (r : Nat) (x : VWord) : (c.wv r x).g = c.g := rfl
@[simp] theorem Ctx.wv_m (c : Ctx) (r : Nat) (x : VWord) : (c.wv r x).m = c.m := rfl
@[simp] theorem Ctx.wv_pc (c : Ctx) (r : Nat) (x : VWord) : (c.wv r x).pc = c.pc := rfl
@[simp] theorem Ctx.wv_cls (c : Ctx) (r : Nat) (x : VWord) : (c.wv r x).cls = c.cls := rfl
@[simp] theorem Ctx.wv_priv (c : Ctx) (r : Nat) (x : VWord) : (c.wv r x).priv = c.priv := rfl
@[simp] theorem Ctx.wv_gang (c : Ctx) (r : Nat) (x : VWord) : (c.wv r x).gang = c.gang := rfl
@[simp] theorem Ctx.wv_inTrap (c : Ctx) (r : Nat) (x : VWord) : (c.wv r x).inTrap = c.inTrap := rfl
@[simp] theorem Ctx.wv_st (c : Ctx) (r : Nat) (x : VWord) : (c.wv r x).st = c.st := rfl
@[simp] theorem Ctx.wv_trap (c : Ctx) (r : Nat) (x : VWord) : (c.wv r x).trap = c.trap := rfl
@[simp] theorem Ctx.wv_ntrap (c : Ctx) (r : Nat) (x : VWord) : (c.wv r x).ntrap = c.ntrap := rfl
@[simp] theorem Ctx.wv_trapen (c : Ctx) (r : Nat) (x : VWord) : (c.wv r x).trapen = c.trapen := rfl
@[simp] theorem Ctx.wv_rm (c : Ctx) (r : Nat) (x : VWord) : (c.wv r x).rm = c.rm := rfl
@[simp] theorem Ctx.wv_fpflags (c : Ctx) (r : Nat) (x : VWord) : (c.wv r x).fpflags = c.fpflags := rfl
@[simp] theorem Ctx.wv_vflags0 (c : Ctx) (r : Nat) (x : VWord) : (c.wv r x).vflags0 = c.vflags0 := rfl
@[simp] theorem Ctx.wv_vflags1 (c : Ctx) (r : Nat) (x : VWord) : (c.wv r x).vflags1 = c.vflags1 := rfl
@[simp] theorem Ctx.wv_vgrant (c : Ctx) (r : Nat) (x : VWord) : (c.wv r x).vgrant = c.vgrant := rfl
@[simp] theorem Ctx.wv_budgetRem (c : Ctx) (r : Nat) (x : VWord) : (c.wv r x).budgetRem = c.budgetRem := rfl
@[simp] theorem Ctx.wv_deadline (c : Ctx) (r : Nat) (x : VWord) : (c.wv r x).deadline = c.deadline := rfl
@[simp] theorem Ctx.wv_region (c : Ctx) (r : Nat) (x : VWord) : (c.wv r x).region = c.region := rfl
@[simp] theorem Ctx.wv_taskinfo (c : Ctx) (r : Nat) (x : VWord) : (c.wv r x).taskinfo = c.taskinfo := rfl
@[simp] theorem Ctx.wv_rep (c : Ctx) (r : Nat) (x : VWord) : (c.wv r x).rep = c.rep := rfl
@[simp] theorem Ctx.wv_taskCyc (c : Ctx) (r : Nat) (x : VWord) : (c.wv r x).taskCyc = c.taskCyc := rfl
@[simp] theorem Ctx.wv_prevRegion (c : Ctx) (r : Nat) (x : VWord) : (c.wv r x).prevRegion = c.prevRegion := rfl
@[simp] theorem Ctx.wv_startBudget (c : Ctx) (r : Nat) (x : VWord) : (c.wv r x).startBudget = c.startBudget := rfl
@[simp] theorem Ctx.wv_wait (c : Ctx) (r : Nat) (x : VWord) : (c.wv r x).wait = c.wait := rfl
@[simp] theorem Ctx.wv_held (c : Ctx) (r : Nat) (x : VWord) : (c.wv r x).held = c.held := rfl
@[simp] theorem Ctx.wv_trapWork (c : Ctx) (r : Nat) (x : VWord) : (c.wv r x).trapWork = c.trapWork := rfl
@[simp] theorem Ctx.wv_ntrapWork (c : Ctx) (r : Nat) (x : VWord) : (c.wv r x).ntrapWork = c.ntrapWork := rfl
@[simp] theorem Ctx.wv_pend (c : Ctx) (r : Nat) (x : VWord) : (c.wv r x).pend = c.pend := rfl
@[simp] theorem Ctx.wv_slot (c : Ctx) (r : Nat) (x : VWord) : (c.wv r x).slot = c.slot := rfl
@[simp] theorem Ctx.wv_stallAt (c : Ctx) (r : Nat) (x : VWord) : (c.wv r x).stallAt = c.stallAt := rfl
@[simp] theorem Ctx.wv_saving (c : Ctx) (r : Nat) (x : VWord) : (c.wv r x).saving = c.saving := rfl
@[simp] theorem Ctx.rg_wv (c : Ctx) (r : Nat) (x : VWord) (k : Nat) : (c.wv r x).rg k = c.rg k := by simp [Ctx.rg]
@[simp] theorem Ctx.rmk_wv (c : Ctx) (r : Nat) (x : VWord) (k : Nat) : (c.wv r x).rmk k = c.rmk k := by simp [Ctx.rmk]

@[simp] theorem Ctx.wm_g (c : Ctx) (r : Nat) (x : Word) : (c.wm r x).g = c.g := by unfold Ctx.wm; split <;> rfl
@[simp] theorem Ctx.wm_v (c : Ctx) (r : Nat) (x : Word) : (c.wm r x).v = c.v := by unfold Ctx.wm; split <;> rfl
@[simp] theorem Ctx.wm_pc (c : Ctx) (r : Nat) (x : Word) : (c.wm r x).pc = c.pc := by unfold Ctx.wm; split <;> rfl
@[simp] theorem Ctx.wm_cls (c : Ctx) (r : Nat) (x : Word) : (c.wm r x).cls = c.cls := by unfold Ctx.wm; split <;> rfl
@[simp] theorem Ctx.wm_priv (c : Ctx) (r : Nat) (x : Word) : (c.wm r x).priv = c.priv := by unfold Ctx.wm; split <;> rfl
@[simp] theorem Ctx.wm_gang (c : Ctx) (r : Nat) (x : Word) : (c.wm r x).gang = c.gang := by unfold Ctx.wm; split <;> rfl
@[simp] theorem Ctx.wm_inTrap (c : Ctx) (r : Nat) (x : Word) : (c.wm r x).inTrap = c.inTrap := by unfold Ctx.wm; split <;> rfl
@[simp] theorem Ctx.wm_st (c : Ctx) (r : Nat) (x : Word) : (c.wm r x).st = c.st := by unfold Ctx.wm; split <;> rfl
@[simp] theorem Ctx.wm_trap (c : Ctx) (r : Nat) (x : Word) : (c.wm r x).trap = c.trap := by unfold Ctx.wm; split <;> rfl
@[simp] theorem Ctx.wm_ntrap (c : Ctx) (r : Nat) (x : Word) : (c.wm r x).ntrap = c.ntrap := by unfold Ctx.wm; split <;> rfl
@[simp] theorem Ctx.wm_trapen (c : Ctx) (r : Nat) (x : Word) : (c.wm r x).trapen = c.trapen := by unfold Ctx.wm; split <;> rfl
@[simp] theorem Ctx.wm_rm (c : Ctx) (r : Nat) (x : Word) : (c.wm r x).rm = c.rm := by unfold Ctx.wm; split <;> rfl
@[simp] theorem Ctx.wm_fpflags (c : Ctx) (r : Nat) (x : Word) : (c.wm r x).fpflags = c.fpflags := by unfold Ctx.wm; split <;> rfl
@[simp] theorem Ctx.wm_vflags0 (c : Ctx) (r : Nat) (x : Word) : (c.wm r x).vflags0 = c.vflags0 := by unfold Ctx.wm; split <;> rfl
@[simp] theorem Ctx.wm_vflags1 (c : Ctx) (r : Nat) (x : Word) : (c.wm r x).vflags1 = c.vflags1 := by unfold Ctx.wm; split <;> rfl
@[simp] theorem Ctx.wm_vgrant (c : Ctx) (r : Nat) (x : Word) : (c.wm r x).vgrant = c.vgrant := by unfold Ctx.wm; split <;> rfl
@[simp] theorem Ctx.wm_budgetRem (c : Ctx) (r : Nat) (x : Word) : (c.wm r x).budgetRem = c.budgetRem := by unfold Ctx.wm; split <;> rfl
@[simp] theorem Ctx.wm_deadline (c : Ctx) (r : Nat) (x : Word) : (c.wm r x).deadline = c.deadline := by unfold Ctx.wm; split <;> rfl
@[simp] theorem Ctx.wm_region (c : Ctx) (r : Nat) (x : Word) : (c.wm r x).region = c.region := by unfold Ctx.wm; split <;> rfl
@[simp] theorem Ctx.wm_taskinfo (c : Ctx) (r : Nat) (x : Word) : (c.wm r x).taskinfo = c.taskinfo := by unfold Ctx.wm; split <;> rfl
@[simp] theorem Ctx.wm_rep (c : Ctx) (r : Nat) (x : Word) : (c.wm r x).rep = c.rep := by unfold Ctx.wm; split <;> rfl
@[simp] theorem Ctx.wm_taskCyc (c : Ctx) (r : Nat) (x : Word) : (c.wm r x).taskCyc = c.taskCyc := by unfold Ctx.wm; split <;> rfl
@[simp] theorem Ctx.wm_prevRegion (c : Ctx) (r : Nat) (x : Word) : (c.wm r x).prevRegion = c.prevRegion := by unfold Ctx.wm; split <;> rfl
@[simp] theorem Ctx.wm_startBudget (c : Ctx) (r : Nat) (x : Word) : (c.wm r x).startBudget = c.startBudget := by unfold Ctx.wm; split <;> rfl
@[simp] theorem Ctx.wm_wait (c : Ctx) (r : Nat) (x : Word) : (c.wm r x).wait = c.wait := by unfold Ctx.wm; split <;> rfl
@[simp] theorem Ctx.wm_held (c : Ctx) (r : Nat) (x : Word) : (c.wm r x).held = c.held := by unfold Ctx.wm; split <;> rfl
@[simp] theorem Ctx.wm_trapWork (c : Ctx) (r : Nat) (x : Word) : (c.wm r x).trapWork = c.trapWork := by unfold Ctx.wm; split <;> rfl
@[simp] theorem Ctx.wm_ntrapWork (c : Ctx) (r : Nat) (x : Word) : (c.wm r x).ntrapWork = c.ntrapWork := by unfold Ctx.wm; split <;> rfl
@[simp] theorem Ctx.wm_pend (c : Ctx) (r : Nat) (x : Word) : (c.wm r x).pend = c.pend := by unfold Ctx.wm; split <;> rfl
@[simp] theorem Ctx.wm_slot (c : Ctx) (r : Nat) (x : Word) : (c.wm r x).slot = c.slot := by unfold Ctx.wm; split <;> rfl
@[simp] theorem Ctx.wm_stallAt (c : Ctx) (r : Nat) (x : Word) : (c.wm r x).stallAt = c.stallAt := by unfold Ctx.wm; split <;> rfl
@[simp] theorem Ctx.wm_saving (c : Ctx) (r : Nat) (x : Word) : (c.wm r x).saving = c.saving := by unfold Ctx.wm; split <;> rfl
@[simp] theorem Ctx.rg_wm (c : Ctx) (r : Nat) (x : Word) (k : Nat) : (c.wm r x).rg k = c.rg k := by simp [Ctx.rg]
@[simp] theorem Ctx.rv_wm (c : Ctx) (r : Nat) (x : Word) (k : Nat) : (c.wm r x).rv k = c.rv k := by simp [Ctx.rv]

@[simp] theorem Ctx.mark_g (c : Ctx) (b : Nat) : (c.mark b).g = c.g := rfl
@[simp] theorem Ctx.mark_v (c : Ctx) (b : Nat) : (c.mark b).v = c.v := rfl
@[simp] theorem Ctx.mark_m (c : Ctx) (b : Nat) : (c.mark b).m = c.m := rfl
@[simp] theorem Ctx.mark_pc (c : Ctx) (b : Nat) : (c.mark b).pc = c.pc := rfl
@[simp] theorem Ctx.mark_cls (c : Ctx) (b : Nat) : (c.mark b).cls = c.cls := rfl
@[simp] theorem Ctx.mark_priv (c : Ctx) (b : Nat) : (c.mark b).priv = c.priv := rfl
@[simp] theorem Ctx.mark_gang (c : Ctx) (b : Nat) : (c.mark b).gang = c.gang := rfl
@[simp] theorem Ctx.mark_inTrap (c : Ctx) (b : Nat) : (c.mark b).inTrap = c.inTrap := rfl
@[simp] theorem Ctx.mark_st (c : Ctx) (b : Nat) : (c.mark b).st = c.st := rfl
@[simp] theorem Ctx.mark_trap (c : Ctx) (b : Nat) : (c.mark b).trap = c.trap := rfl
@[simp] theorem Ctx.mark_ntrap (c : Ctx) (b : Nat) : (c.mark b).ntrap = c.ntrap := rfl
@[simp] theorem Ctx.mark_trapen (c : Ctx) (b : Nat) : (c.mark b).trapen = c.trapen := rfl
@[simp] theorem Ctx.mark_rm (c : Ctx) (b : Nat) : (c.mark b).rm = c.rm := rfl
@[simp] theorem Ctx.mark_fpflags (c : Ctx) (b : Nat) : (c.mark b).fpflags = c.fpflags := rfl
@[simp] theorem Ctx.mark_vflags0 (c : Ctx) (b : Nat) : (c.mark b).vflags0 = c.vflags0 := rfl
@[simp] theorem Ctx.mark_vflags1 (c : Ctx) (b : Nat) : (c.mark b).vflags1 = c.vflags1 := rfl
@[simp] theorem Ctx.mark_vgrant (c : Ctx) (b : Nat) : (c.mark b).vgrant = c.vgrant := rfl
@[simp] theorem Ctx.mark_budgetRem (c : Ctx) (b : Nat) : (c.mark b).budgetRem = c.budgetRem := rfl
@[simp] theorem Ctx.mark_deadline (c : Ctx) (b : Nat) : (c.mark b).deadline = c.deadline := rfl
@[simp] theorem Ctx.mark_region (c : Ctx) (b : Nat) : (c.mark b).region = c.region := rfl
@[simp] theorem Ctx.mark_taskinfo (c : Ctx) (b : Nat) : (c.mark b).taskinfo = c.taskinfo := rfl
@[simp] theorem Ctx.mark_rep (c : Ctx) (b : Nat) : (c.mark b).rep = c.rep := rfl
@[simp] theorem Ctx.mark_taskCyc (c : Ctx) (b : Nat) : (c.mark b).taskCyc = c.taskCyc := rfl
@[simp] theorem Ctx.mark_prevRegion (c : Ctx) (b : Nat) : (c.mark b).prevRegion = c.prevRegion := rfl
@[simp] theorem Ctx.mark_startBudget (c : Ctx) (b : Nat) : (c.mark b).startBudget = c.startBudget := rfl
@[simp] theorem Ctx.mark_wait (c : Ctx) (b : Nat) : (c.mark b).wait = c.wait := rfl
@[simp] theorem Ctx.mark_held (c : Ctx) (b : Nat) : (c.mark b).held = c.held := rfl
@[simp] theorem Ctx.mark_trapWork (c : Ctx) (b : Nat) : (c.mark b).trapWork = c.trapWork := rfl
@[simp] theorem Ctx.mark_ntrapWork (c : Ctx) (b : Nat) : (c.mark b).ntrapWork = c.ntrapWork := rfl
@[simp] theorem Ctx.mark_pend (c : Ctx) (b : Nat) : (c.mark b).pend = c.pend := rfl
@[simp] theorem Ctx.mark_slot (c : Ctx) (b : Nat) : (c.mark b).slot = c.slot := rfl
@[simp] theorem Ctx.mark_stallAt (c : Ctx) (b : Nat) : (c.mark b).stallAt = c.stallAt := rfl
@[simp] theorem Ctx.mark_saving (c : Ctx) (b : Nat) : (c.mark b).saving = c.saving := rfl
@[simp] theorem Ctx.rg_mark (c : Ctx) (b : Nat) (k : Nat) : (c.mark b).rg k = c.rg k := by simp [Ctx.rg]
@[simp] theorem Ctx.rv_mark (c : Ctx) (b : Nat) (k : Nat) : (c.mark b).rv k = c.rv k := by simp [Ctx.rv]
@[simp] theorem Ctx.rmk_mark (c : Ctx) (b : Nat) (k : Nat) : (c.mark b).rmk k = c.rmk k := by simp [Ctx.rmk]

@[simp] theorem Ctx.raise_g (c : Ctx) (f : BitVec 6) : (c.raise f).g = c.g := by unfold Ctx.raise; split <;> rfl
@[simp] theorem Ctx.raise_v (c : Ctx) (f : BitVec 6) : (c.raise f).v = c.v := by unfold Ctx.raise; split <;> rfl
@[simp] theorem Ctx.raise_m (c : Ctx) (f : BitVec 6) : (c.raise f).m = c.m := by unfold Ctx.raise; split <;> rfl
@[simp] theorem Ctx.raise_pc (c : Ctx) (f : BitVec 6) : (c.raise f).pc = c.pc := by unfold Ctx.raise; split <;> rfl
@[simp] theorem Ctx.raise_cls (c : Ctx) (f : BitVec 6) : (c.raise f).cls = c.cls := by unfold Ctx.raise; split <;> rfl
@[simp] theorem Ctx.raise_priv (c : Ctx) (f : BitVec 6) : (c.raise f).priv = c.priv := by unfold Ctx.raise; split <;> rfl
@[simp] theorem Ctx.raise_gang (c : Ctx) (f : BitVec 6) : (c.raise f).gang = c.gang := by unfold Ctx.raise; split <;> rfl
@[simp] theorem Ctx.raise_inTrap (c : Ctx) (f : BitVec 6) : (c.raise f).inTrap = c.inTrap := by unfold Ctx.raise; split <;> rfl
@[simp] theorem Ctx.raise_st (c : Ctx) (f : BitVec 6) : (c.raise f).st = c.st := by unfold Ctx.raise; split <;> rfl
@[simp] theorem Ctx.raise_trap (c : Ctx) (f : BitVec 6) : (c.raise f).trap = c.trap := by unfold Ctx.raise; split <;> rfl
@[simp] theorem Ctx.raise_ntrap (c : Ctx) (f : BitVec 6) : (c.raise f).ntrap = c.ntrap := by unfold Ctx.raise; split <;> rfl
@[simp] theorem Ctx.raise_trapen (c : Ctx) (f : BitVec 6) : (c.raise f).trapen = c.trapen := by unfold Ctx.raise; split <;> rfl
@[simp] theorem Ctx.raise_rm (c : Ctx) (f : BitVec 6) : (c.raise f).rm = c.rm := by unfold Ctx.raise; split <;> rfl
@[simp] theorem Ctx.raise_vflags0 (c : Ctx) (f : BitVec 6) : (c.raise f).vflags0 = c.vflags0 := by unfold Ctx.raise; split <;> rfl
@[simp] theorem Ctx.raise_vflags1 (c : Ctx) (f : BitVec 6) : (c.raise f).vflags1 = c.vflags1 := by unfold Ctx.raise; split <;> rfl
@[simp] theorem Ctx.raise_vgrant (c : Ctx) (f : BitVec 6) : (c.raise f).vgrant = c.vgrant := by unfold Ctx.raise; split <;> rfl
@[simp] theorem Ctx.raise_budgetRem (c : Ctx) (f : BitVec 6) : (c.raise f).budgetRem = c.budgetRem := by unfold Ctx.raise; split <;> rfl
@[simp] theorem Ctx.raise_deadline (c : Ctx) (f : BitVec 6) : (c.raise f).deadline = c.deadline := by unfold Ctx.raise; split <;> rfl
@[simp] theorem Ctx.raise_region (c : Ctx) (f : BitVec 6) : (c.raise f).region = c.region := by unfold Ctx.raise; split <;> rfl
@[simp] theorem Ctx.raise_taskinfo (c : Ctx) (f : BitVec 6) : (c.raise f).taskinfo = c.taskinfo := by unfold Ctx.raise; split <;> rfl
@[simp] theorem Ctx.raise_rep (c : Ctx) (f : BitVec 6) : (c.raise f).rep = c.rep := by unfold Ctx.raise; split <;> rfl
@[simp] theorem Ctx.raise_taskCyc (c : Ctx) (f : BitVec 6) : (c.raise f).taskCyc = c.taskCyc := by unfold Ctx.raise; split <;> rfl
@[simp] theorem Ctx.raise_prevRegion (c : Ctx) (f : BitVec 6) : (c.raise f).prevRegion = c.prevRegion := by unfold Ctx.raise; split <;> rfl
@[simp] theorem Ctx.raise_startBudget (c : Ctx) (f : BitVec 6) : (c.raise f).startBudget = c.startBudget := by unfold Ctx.raise; split <;> rfl
@[simp] theorem Ctx.raise_wait (c : Ctx) (f : BitVec 6) : (c.raise f).wait = c.wait := by unfold Ctx.raise; split <;> rfl
@[simp] theorem Ctx.raise_held (c : Ctx) (f : BitVec 6) : (c.raise f).held = c.held := by unfold Ctx.raise; split <;> rfl
@[simp] theorem Ctx.raise_trapWork (c : Ctx) (f : BitVec 6) : (c.raise f).trapWork = c.trapWork := by unfold Ctx.raise; split <;> rfl
@[simp] theorem Ctx.raise_ntrapWork (c : Ctx) (f : BitVec 6) : (c.raise f).ntrapWork = c.ntrapWork := by unfold Ctx.raise; split <;> rfl
@[simp] theorem Ctx.raise_pend (c : Ctx) (f : BitVec 6) : (c.raise f).pend = c.pend := by unfold Ctx.raise; split <;> rfl
@[simp] theorem Ctx.raise_slot (c : Ctx) (f : BitVec 6) : (c.raise f).slot = c.slot := by unfold Ctx.raise; split <;> rfl
@[simp] theorem Ctx.raise_stallAt (c : Ctx) (f : BitVec 6) : (c.raise f).stallAt = c.stallAt := by unfold Ctx.raise; split <;> rfl
@[simp] theorem Ctx.raise_saving (c : Ctx) (f : BitVec 6) : (c.raise f).saving = c.saving := by unfold Ctx.raise; split <;> rfl
@[simp] theorem Ctx.rg_raise (c : Ctx) (f : BitVec 6) (k : Nat) : (c.raise f).rg k = c.rg k := by simp [Ctx.rg]
@[simp] theorem Ctx.rv_raise (c : Ctx) (f : BitVec 6) (k : Nat) : (c.raise f).rv k = c.rv k := by simp [Ctx.rv]
@[simp] theorem Ctx.rmk_raise (c : Ctx) (f : BitVec 6) (k : Nat) : (c.raise f).rmk k = c.rmk k := by simp [Ctx.rmk]

@[simp] theorem Ctx.finish_g (c : Ctx) (g : Group) : (c.finish g).g = c.g := by unfold Ctx.finish; split <;> rfl
@[simp] theorem Ctx.finish_v (c : Ctx) (g : Group) : (c.finish g).v = c.v := by unfold Ctx.finish; split <;> rfl
@[simp] theorem Ctx.finish_m (c : Ctx) (g : Group) : (c.finish g).m = c.m := by unfold Ctx.finish; split <;> rfl
@[simp] theorem Ctx.finish_cls (c : Ctx) (g : Group) : (c.finish g).cls = c.cls := by unfold Ctx.finish; split <;> rfl
@[simp] theorem Ctx.finish_priv (c : Ctx) (g : Group) : (c.finish g).priv = c.priv := by unfold Ctx.finish; split <;> rfl
@[simp] theorem Ctx.finish_gang (c : Ctx) (g : Group) : (c.finish g).gang = c.gang := by unfold Ctx.finish; split <;> rfl
@[simp] theorem Ctx.finish_inTrap (c : Ctx) (g : Group) : (c.finish g).inTrap = c.inTrap := by unfold Ctx.finish; split <;> rfl
@[simp] theorem Ctx.finish_st (c : Ctx) (g : Group) : (c.finish g).st = c.st := by unfold Ctx.finish; split <;> rfl
@[simp] theorem Ctx.finish_trap (c : Ctx) (g : Group) : (c.finish g).trap = c.trap := by unfold Ctx.finish; split <;> rfl
@[simp] theorem Ctx.finish_ntrap (c : Ctx) (g : Group) : (c.finish g).ntrap = c.ntrap := by unfold Ctx.finish; split <;> rfl
@[simp] theorem Ctx.finish_trapen (c : Ctx) (g : Group) : (c.finish g).trapen = c.trapen := by unfold Ctx.finish; split <;> rfl
@[simp] theorem Ctx.finish_rm (c : Ctx) (g : Group) : (c.finish g).rm = c.rm := by unfold Ctx.finish; split <;> rfl
@[simp] theorem Ctx.finish_fpflags (c : Ctx) (g : Group) : (c.finish g).fpflags = c.fpflags := by unfold Ctx.finish; split <;> rfl
@[simp] theorem Ctx.finish_vflags0 (c : Ctx) (g : Group) : (c.finish g).vflags0 = c.vflags0 := by unfold Ctx.finish; split <;> rfl
@[simp] theorem Ctx.finish_vflags1 (c : Ctx) (g : Group) : (c.finish g).vflags1 = c.vflags1 := by unfold Ctx.finish; split <;> rfl
@[simp] theorem Ctx.finish_vgrant (c : Ctx) (g : Group) : (c.finish g).vgrant = c.vgrant := by unfold Ctx.finish; split <;> rfl
@[simp] theorem Ctx.finish_budgetRem (c : Ctx) (g : Group) : (c.finish g).budgetRem = c.budgetRem := by unfold Ctx.finish; split <;> rfl
@[simp] theorem Ctx.finish_deadline (c : Ctx) (g : Group) : (c.finish g).deadline = c.deadline := by unfold Ctx.finish; split <;> rfl
@[simp] theorem Ctx.finish_region (c : Ctx) (g : Group) : (c.finish g).region = c.region := by unfold Ctx.finish; split <;> rfl
@[simp] theorem Ctx.finish_taskinfo (c : Ctx) (g : Group) : (c.finish g).taskinfo = c.taskinfo := by unfold Ctx.finish; split <;> rfl
@[simp] theorem Ctx.finish_taskCyc (c : Ctx) (g : Group) : (c.finish g).taskCyc = c.taskCyc := by unfold Ctx.finish; split <;> rfl
@[simp] theorem Ctx.finish_prevRegion (c : Ctx) (g : Group) : (c.finish g).prevRegion = c.prevRegion := by unfold Ctx.finish; split <;> rfl
@[simp] theorem Ctx.finish_startBudget (c : Ctx) (g : Group) : (c.finish g).startBudget = c.startBudget := by unfold Ctx.finish; split <;> rfl
@[simp] theorem Ctx.finish_wait (c : Ctx) (g : Group) : (c.finish g).wait = c.wait := by unfold Ctx.finish; split <;> rfl
@[simp] theorem Ctx.finish_held (c : Ctx) (g : Group) : (c.finish g).held = c.held := by unfold Ctx.finish; split <;> rfl
@[simp] theorem Ctx.finish_trapWork (c : Ctx) (g : Group) : (c.finish g).trapWork = c.trapWork := by unfold Ctx.finish; split <;> rfl
@[simp] theorem Ctx.finish_ntrapWork (c : Ctx) (g : Group) : (c.finish g).ntrapWork = c.ntrapWork := by unfold Ctx.finish; split <;> rfl
@[simp] theorem Ctx.finish_pend (c : Ctx) (g : Group) : (c.finish g).pend = c.pend := by unfold Ctx.finish; split <;> rfl
@[simp] theorem Ctx.finish_slot (c : Ctx) (g : Group) : (c.finish g).slot = c.slot := by unfold Ctx.finish; split <;> rfl
@[simp] theorem Ctx.finish_stallAt (c : Ctx) (g : Group) : (c.finish g).stallAt = c.stallAt := by unfold Ctx.finish; split <;> rfl
@[simp] theorem Ctx.finish_saving (c : Ctx) (g : Group) : (c.finish g).saving = c.saving := by unfold Ctx.finish; split <;> rfl
@[simp] theorem Ctx.rg_finish (c : Ctx) (g : Group) (k : Nat) : (c.finish g).rg k = c.rg k := by simp [Ctx.rg]
@[simp] theorem Ctx.rv_finish (c : Ctx) (g : Group) (k : Nat) : (c.finish g).rv k = c.rv k := by simp [Ctx.rv]
@[simp] theorem Ctx.rmk_finish (c : Ctx) (g : Group) (k : Nat) : (c.finish g).rmk k = c.rmk k := by simp [Ctx.rmk]

/-! Registers: g0 reads 0 and m0 all ones, whatever is written. -/

@[simp] theorem Ctx.rg_zero (c : Ctx) : c.rg 0 = 0 := rfl
@[simp] theorem Ctx.rmk_zero (c : Ctx) : c.rmk 0 = BitVec.allOnes 64 := rfl
theorem Ctx.rg_wg (c : Ctx) (r k : Nat) (x : Word) : (c.wg r x).rg k = if k = 0 then 0 else if r = k then x else c.rg k := by
  unfold Ctx.wg Ctx.rg
  by_cases h : r = 0
  · subst h
    by_cases hk : k = 0
    · simp [hk]
    · simp [hk, Ne.symm hk]
  · by_cases hk : k = 0 <;> simp [h, hk, tget_tput]
@[simp] theorem Ctx.rg_wg_self (c : Ctx) (r : Nat) (x : Word) : (c.wg r x).rg r = if r = 0 then 0 else x := by simp [Ctx.rg_wg]
theorem Ctx.rg_wg_ne (c : Ctx) (r k : Nat) (x : Word) (h : k ≠ r) : (c.wg r x).rg k = c.rg k := by
  by_cases hk : k = 0
  · subst hk; simp
  · simp [Ctx.rg_wg, hk, Ne.symm h]
theorem Ctx.rv_wv (c : Ctx) (r k : Nat) (x : VWord) : (c.wv r x).rv k = if r = k then x else c.rv k := tget_tput ..
@[simp] theorem Ctx.rv_wv_self (c : Ctx) (r : Nat) (x : VWord) : (c.wv r x).rv r = x := tget_tput_self ..
theorem Ctx.rmk_wm (c : Ctx) (r k : Nat) (x : Word) :
    (c.wm r x).rmk k = if k = 0 then BitVec.allOnes 64 else if r = k then x else c.rmk k := by
  unfold Ctx.wm Ctx.rmk
  by_cases h : r = 0
  · subst h
    by_cases hk : k = 0
    · simp [hk]
    · simp [hk, Ne.symm hk]
  · by_cases hk : k = 0 <;> simp [h, hk, tget_tput]
theorem Ctx.wg_zero (c : Ctx) (x : Word) : c.wg 0 x = c := rfl
@[simp] theorem State.ctx_wg (s : State) (r : BitVec 5) (x : Word) : (s.wg r x).ctx = s.ctx.wg r.toNat x := State.ctx_setCtx ..
@[simp] theorem State.ctx_wv (s : State) (r : BitVec 5) (x : VWord) : (s.wv r x).ctx = s.ctx.wv r.toNat x := State.ctx_setCtx ..
@[simp] theorem State.ctx_raise (s : State) (f : BitVec 6) : (s.raise f).ctx = s.ctx.raise f := State.ctx_setCtx ..
@[simp] theorem State.ctx_finish (s : State) : s.finish.ctx = s.ctx.finish s.grp := State.ctx_setCtx ..
theorem State.rg_wg (s : State) (r k : BitVec 5) (x : Word) :
    (s.wg r x).rg k = if k = 0 then 0 else if r = k then x else s.rg k := by
  simp only [State.rg, State.ctx_wg, Ctx.rg_wg, BitVec.toNat_eq]; rfl
@[simp] theorem State.rg_zero (s : State) : s.rg 0 = 0 := rfl
theorem State.ctxAt_wg_ne (s : State) (r : BitVec 5) (x : Word) (c : Nat) (h : c ≠ s.cur) : (s.wg r x).ctxAt c = s.ctxAt c :=
  State.ctxAt_setCtx_ne _ _ _ h

/-! Where the context goes on. -/

theorem Ctx.finish_pc (c : Ctx) (g : Group) (h : (c.rep.active && !c.inTrap) = false) : c.finish g = { c with pc := g.npc } := by
  simp [Ctx.finish, h]

end Sys2Proof.Machine
end

