-- ==== Sys2Proof/Laws/Ops.lean ====
section
/-! SUPPORT. What each shared operation does, said once: ending a group, writing a register, a transfer, a trap. -/

namespace Sys2Proof.Machine

open Sys2Proof

theorem SameMemory.refl (s : State) : SameMemory s s := fun _ => rfl

/-- A change of the context in hand changes nothing else. -/
theorem onlyContext_setCtx (s : State) (x : Ctx) : OnlyContext s (s.setCtx x) :=
  ⟨rfl, fun _ h => State.ctxAt_setCtx_ne _ _ _ h, fun _ => rfl⟩

theorem OnlyContext.trans {s t u : State} (h : OnlyContext s t) (k : OnlyContext t u) : OnlyContext s u := by
  obtain ⟨e, o, m⟩ := h
  obtain ⟨e', o', m'⟩ := k
  have hc : t.cur = s.cur := by rw [e]
  refine ⟨?_, fun c hn => ?_, fun a => (m' a).trans (m a)⟩
  · rw [e', e]
  · rw [o' c (by rw [hc]; exact hn), o c hn]

/-- Ending a group. -/
theorem Ctx.finish_frame (c : Ctx) (g : Group) :
    c.finish g = { c with dirty := (c.finish g).dirty, pc := (c.finish g).pc, rep := (c.finish g).rep } := by
  unfold Ctx.finish; split <;> rfl

theorem goesOn_finish (s : State) (c : Ctx) (g : Group) (hr : c.rep = s.ctx.rep) (hi : c.inTrap = s.ctx.inTrap) (hg : g = s.grp)
    (t : State) (ht : t.ctx = c.finish g) : GoesOn s t := by
  intro h
  rw [ht, Ctx.finish_pc _ _ (by rw [hr, hi]; exact h)]
  exact ⟨by rw [hg], hr⟩

/-- gD after the write: every other general register as before. -/
theorem Ctx.wg_frame (c : Ctx) (r : Nat) (x : Word) : c.wg r x = { c with g := (c.wg r x).g, dirty := (c.wg r x).dirty } := by
  unfold Ctx.wg; split <;> rfl

theorem rg_bv_zero {d : BitVec 5} : (d.toNat = 0) ↔ d = 0 := by
  rw [BitVec.toNat_eq]; rfl

/-- A state that differs from `s` in a register write and the end of the group. -/
theorem onlyG_wg (s : State) (d : BitVec 5) (x : Word) : OnlyG s (s.wg d x).finish d := by
  refine ⟨OnlyContext.trans (onlyContext_setCtx s _) (onlyContext_setCtx _ _), fun r hr => ?_, ?_⟩
  · simp [Ctx.rg_wg_ne _ _ _ _ hr]
  · rw [State.ctx_finish, State.ctx_wg, Ctx.finish_frame, Ctx.wg_frame]

/-- Writing gD and ending the group (R65). -/
theorem writeG_spec (s : State) (d : BitVec 5) (x : Word) :
    ∃ t, writeG s d x = .next t ∧ t.rg d = (if d = 0 then 0 else x) ∧ OnlyG s t d ∧ GoesOn s t := by
  refine ⟨(s.wg d x).finish, rfl, ?_, onlyG_wg s d x, goesOn_finish s _ _ ?_ ?_ rfl _ (State.ctx_finish _)⟩
  · simp [State.rg, rg_bv_zero]
  · simp
  · simp

/-- An instruction whose meaning is a register write. -/
theorem writesG_of {i : Instr} {s : State} {d : BitVec 5} {x : Word} (h : exec i s = writeG s d x) : WritesG i s d x := by
  obtain ⟨t, e, k⟩ := writeG_spec s d x
  exact ⟨t, h.trans e, k⟩

theorem writesG_congr {i : Instr} {s : State} {d : BitVec 5} {x y : Word} (h : exec i s = writeG s d x) (e : x = y) : WritesG i s d y :=
  e ▸ writesG_of h

/-- A transfer (R50). -/
theorem goesTo_of {i : Instr} {s : State} {pc : Word} (h : exec i s = jumpTo s pc) : GoesTo i s pc := by
  refine ⟨_, h, ?_, onlyContext_setCtx _ _, ?_⟩ <;> simp

/-- Trap entry on the context in hand (R408, R409). -/
theorem enterTrap_spec (s : State) (cause : BitVec 8) (val pc : Word) (dec eng : Bool) (w : Option WorkId) :
    TrapEntered s (s.enterTrapAt s.cur cause val pc dec eng w) cause val pc := by
  have key : ∀ t : State, t.ctxs = tput s.ctxs s.cur (s.ctx.enterTrap s.core.svec (s.mvecOf s.colNo) cause val pc dec eng w) →
      t.cur = s.cur → t.mem = s.mem → TrapEntered s t cause val pc := by
    intro t h1 h2 h3
    have hc : t.ctx = s.ctx.enterTrap s.core.svec (s.mvecOf s.colNo) cause val pc dec eng w := by
      unfold State.ctx State.ctxAt; rw [h1, h2]; exact tget_tput_self ..
    unfold TrapEntered SameMemory
    rw [hc, h3]
    unfold Ctx.enterTrap Ctx.trapsToM
    refine ⟨rfl, rfl, rfl, rfl, rfl, ?_, ?_, rfl, ?_, rfl, rfl, rfl, rfl, rfl, rfl, fun _ => rfl⟩
    · intro h; simp [h]
    · intro h; simp [h]
    · by_cases h : s.ctx.inTrap = true
      · simp [h]
      · by_cases k : s.ctx.priv = 0 <;> simp_all
  unfold State.enterTrapAt
  dsimp only
  split
  · exact key _ (by rfl) rfl rfl
  · exact key _ rfl rfl rfl

/-- An instruction whose meaning is a trap. -/
theorem traps_of {i : Instr} {s : State} {cause : BitVec 8} {val : Word} (h : exec i s = trap s cause val) : Traps i s cause val :=
  ⟨_, h, enterTrap_spec ..⟩

end Sys2Proof.Machine
end

