-- ==== Sys2Proof/Laws/Integer.lean ====
section
/-! SUPPORT. Integer results: the exact results that the meanings compute, as operations on bit vectors, and the end of a group
with an exact result. -/

namespace Sys2Proof.Machine

open Sys2Proof

/-! Ending a group after flags were added. -/

theorem Ctx.raise_zero (c : Ctx) : c.raise 0 = c := rfl
theorem Ctx.raise_fpflags (c : Ctx) (f : BitVec 6) : (c.raise f).fpflags = c.fpflags ||| f := by
  unfold Ctx.raise; split
  · next h => simp [h]
  · rfl

theorem Ctx.raise_frame (c : Ctx) (f : BitVec 6) : c.raise f = { c with fpflags := (c.raise f).fpflags, dirty := (c.raise f).dirty } := by
  unfold Ctx.raise; split <;> rfl

/-- A register write after flags were added. -/
theorem writeG_raise_spec (s : State) (d : BitVec 5) (x : Word) (f : BitVec 6) :
    ∃ t, writeG (s.raise f) d x = .next t ∧ t.rg d = (if d = 0 then 0 else x) ∧ t.ctx.fpflags = s.ctx.fpflags ||| f ∧
      OnlyGAndFlags s t d ∧ GoesOn s t := by
  refine ⟨((s.raise f).wg d x).finish, rfl, ?_, ?_, ⟨?_, fun r hr => ?_, ?_⟩, goesOn_finish s _ _ ?_ ?_ rfl _ (State.ctx_finish _)⟩
  · simp [State.rg, rg_bv_zero]
  · simp [Ctx.raise_fpflags]
  · exact OnlyContext.trans (OnlyContext.trans (onlyContext_setCtx s _) (onlyContext_setCtx _ _)) (onlyContext_setCtx _ _)
  · simp [Ctx.rg_wg_ne _ _ _ _ hr]
  · rw [State.ctx_finish, State.ctx_wg, State.ctx_raise, Ctx.finish_frame, Ctx.wg_frame, Ctx.raise_frame]
  · simp
  · simp

theorem writesGF_of {i : Instr} {s : State} {d : BitVec 5} {x : Word} {f : BitVec 6} (h : exec i s = writeG (s.raise f) d x) :
    WritesGF i s d x f := by
  obtain ⟨t, e, k⟩ := writeG_raise_spec s d x f
  exact ⟨t, h.trans e, k⟩

theorem writesG_of_raise {i : Instr} {s : State} {d : BitVec 5} {x y : Word} (h : exec i s = writeG (s.raise 0) d x) (e : x = y) :
    WritesG i s d y := by
  subst e
  obtain ⟨t, e, h1, h2, ⟨h3, h4, h5⟩, h6⟩ := writeG_raise_spec s d x 0
  have hf : t.ctx.fpflags = s.ctx.fpflags := by simpa using h2
  refine ⟨t, h.trans e, h1, ⟨h3, h4, ?_⟩, h6⟩
  rw [hf] at h5; exact h5

/-- An exact result without `.sat` (R104, R105). -/
theorem writesG_sat_off {i : Instr} {s : State} {w : BitVec 1} {d : BitVec 5} {x : Int} {y : Word} (hs : s.grp.pfx.sat = false)
    (h : exec i s = writeSat s w d x) (e : resW w x = y) : WritesG i s d y := by
  refine writesG_of_raise (h.trans ?_) e
  simp [writeSat, satRes, hs]

/-- An exact result under `.sat` (R105). -/
theorem writesGF_sat_on {i : Instr} {s : State} {w : BitVec 1} {d : BitVec 5} {x : Int} (hs : s.grp.pfx.sat = true)
    (h : exec i s = writeSat s w d x) :
    WritesGF i s d (resW w (clampS (widthW w) x).1) (if (clampS (widthW w) x).2 then flSAT else 0) := by
  refine writesGF_of (h.trans ?_)
  simp [writeSat, satRes, hs]

/-! Results at 64 bits. -/

theorem resW0 (x : Int) : resW 0 x = BitVec.ofInt 64 x := rfl
theorem resW1 (x : Int) : resW 1 x = (BitVec.ofInt 32 x).signExtend 64 := rfl
theorem srcS0 (x : Word) : srcS 0 x = x.toInt := rfl
theorem srcS1 (x : Word) : srcS 1 x = (x.setWidth 32).toInt := rfl
theorem srcU0 (x : Word) : srcU 0 x = x.toNat := rfl
theorem srcU1 (x : Word) : srcU 1 x = (x.setWidth 32).toNat := rfl

theorem ofInt_add' {n : Nat} (x y : BitVec n) : BitVec.ofInt n (x.toInt + y.toInt) = x + y := by
  simp [BitVec.ofInt_add]
theorem ofInt_sub' {n : Nat} (x y : BitVec n) : BitVec.ofInt n (x.toInt - y.toInt) = x - y := by
  simp [Int.sub_eq_add_neg, BitVec.ofInt_add, BitVec.ofInt_neg, BitVec.sub_eq_add_neg]
theorem ofInt_mul' {n : Nat} (x y : BitVec n) : BitVec.ofInt n (x.toInt * y.toInt) = x * y := by
  simp [BitVec.ofInt_mul]
theorem ofInt_toInt' {n : Nat} (x : BitVec n) : BitVec.ofInt n x.toInt = x := BitVec.ofInt_toInt ..
theorem ofInt_natCast' {n : Nat} (x : Nat) : BitVec.ofInt n (x : Int) = BitVec.ofNat n x := BitVec.ofInt_natCast ..

theorem ofInt_shl {n : Nat} (x : BitVec n) (k : Nat) : BitVec.ofInt n (x.toInt * 2 ^ k) = x <<< k := by
  have h : (2 : Int) ^ k = ((2 ^ k : Nat) : Int) := by simp
  rw [BitVec.ofInt_mul, BitVec.ofInt_toInt, h, BitVec.ofInt_natCast, BitVec.shiftLeft_eq_mul_twoPow]
  congr 1
  apply BitVec.eq_of_toNat_eq
  rw [BitVec.toNat_ofNat, BitVec.toNat_twoPow]
theorem ofInt_shr {n : Nat} (x : BitVec n) (k : Nat) : BitVec.ofInt n ((x.toNat / 2 ^ k : Nat) : Int) = x >>> k := by
  rw [BitVec.ofInt_natCast]
  apply BitVec.eq_of_toNat_eq
  rw [BitVec.toNat_ofNat, BitVec.toNat_ushiftRight, Nat.shiftRight_eq_div_pow, Nat.mod_eq_of_lt]
  exact Nat.lt_of_le_of_lt (Nat.div_le_self ..) x.isLt
theorem ofInt_sar {n : Nat} (x : BitVec n) (k : Nat) : BitVec.ofInt n (x.toInt / (2 ^ k : Int)) = x.sshiftRight k := by
  rw [BitVec.sshiftRight, Int.shiftRight_eq_div_pow]
  simp

theorem ofInt_rol {n : Nat} (x : BitVec n) (k : Nat) (hk : k < n) :
    BitVec.ofInt n ((x.toNat * 2 ^ k % 2 ^ n + x.toNat * 2 ^ k / 2 ^ n : Nat) : Int) = x.rotateLeft k := by
  rw [BitVec.ofInt_natCast]
  apply BitVec.eq_of_getLsbD_eq
  intro i hi
  have hx : x.toNat * 2 ^ k / 2 ^ n < 2 ^ k := by
    rw [Nat.div_lt_iff_lt_mul (Nat.two_pow_pos n), Nat.mul_comm]
    exact Nat.mul_lt_mul_of_pos_left x.isLt (Nat.two_pow_pos k)
  have hm : x.toNat * 2 ^ k % 2 ^ n = 2 ^ k * (x.toNat % 2 ^ (n - k)) := by
    have : 2 ^ n = 2 ^ (n - k) * 2 ^ k := by rw [← Nat.pow_add]; congr 1; omega
    rw [this, Nat.mul_mod_mul_right, Nat.mul_comm]
  have hd : x.toNat * 2 ^ k / 2 ^ n = x.toNat / 2 ^ (n - k) := by
    have : 2 ^ n = 2 ^ (n - k) * 2 ^ k := by rw [← Nat.pow_add]; congr 1; omega
    rw [this, Nat.mul_div_mul_right _ _ (Nat.two_pow_pos k)]
  rw [BitVec.getLsbD_rotateLeft, BitVec.getLsbD_ofNat]
  rw [hd] at hx
  rw [hm, hd, Nat.testBit_two_pow_mul_add _ hx, Nat.mod_eq_of_lt hk]
  by_cases h : i < k
  · simp only [h, if_true, hi, decide_true, Bool.true_and, cond_true]
    rw [Nat.testBit_div_two_pow, BitVec.testBit_toNat]
    congr 1; omega
  · have h2 : i - k < n - k := by omega
    simp [h, hi, h2, BitVec.getLsbD]

end Sys2Proof.Machine
end

