-- ==== Sys2Proof/Laws/Memory.lean ====
section
/-! SUPPORT. Memory bytes: what is read after a write (R4, R235), and the canonical form of the memory table, which every memory
operation keeps. -/

namespace Sys2Proof.Machine

/-- A byte read after a byte was written. -/
theorem memGet_memPut (m : Tab Byte) (a b : Nat) (v : Byte) : memGet (memPut m a v) b = if a = b then v else memGet m b := by
  unfold memPut memGet
  split
  · next h => rw [tget_tdel]; simp [h]
  · rw [tget_tput]

/-- A byte read after bytes were written. -/
theorem memGet_memWrite (bs : List Byte) (m : Tab Byte) (a b : Nat) :
    memGet (memWrite m a bs) b = if a ≤ b ∧ b < a + bs.length then bs.getD (b - a) 0 else memGet m b := by
  induction bs generalizing m a with
  | nil =>
    rw [if_neg (by rw [List.length_nil]; omega)]
    rfl
  | cons v r ih =>
    simp only [memWrite, ih, memGet_memPut, List.length_cons]
    by_cases h : a = b
    · subst h; rw [if_neg (by omega), if_pos rfl, if_pos (by omega)]; simp
    · by_cases h2 : a ≤ b
      · have e : b - a = (b - (a + 1)) + 1 := by omega
        by_cases h3 : b < a + (r.length + 1)
        · rw [if_pos (by omega), if_pos (by omega), e, List.getD_cons_succ]
        · rw [if_neg (by omega), if_neg h, if_neg (by omega)]
      · rw [if_neg (by omega), if_neg h, if_neg (by omega)]

theorem length_memRead (m : Tab Byte) (a n : Nat) : (memRead m a n).length = n := by
  induction n generalizing a with
  | zero => rfl
  | succ n ih => simp [memRead, ih]

/-- Bytes read where no byte was written. -/
theorem memRead_congr (m m' : Tab Byte) (a n : Nat) (h : ∀ b, a ≤ b → b < a + n → memGet m b = memGet m' b) :
    memRead m a n = memRead m' a n := by
  induction n generalizing a with
  | zero => rfl
  | succ n ih => simp only [memRead]; rw [h a (by omega) (by omega), ih (a + 1) fun b h1 h2 => h b (by omega) (by omega)]

/-- Bytes read back from where they were written. -/
theorem memRead_memWrite (bs : List Byte) (m : Tab Byte) (a : Nat) : memRead (memWrite m a bs) a bs.length = bs := by
  induction bs generalizing m a with
  | nil => rfl
  | cons v r ih =>
    simp only [List.length_cons, memRead, memWrite, ih]
    congr 1
    rw [memGet_memWrite, if_neg (by omega), memGet_memPut]; simp

/-- The canonical form: addresses strictly rise, and no listed byte is 0. -/
def MemOk (m : Tab Byte) : Prop := m.Pairwise (fun p q => p.1 < q.1) ∧ ∀ p ∈ m, p.2 ≠ 0

theorem memWf_iff (m : Tab Byte) : memWf m = true ↔ MemOk m := by
  induction m with
  | nil => simp [memWf, MemOk]
  | cons p r ih =>
    cases r with
    | nil => simp [memWf, MemOk]
    | cons q r =>
      simp only [memWf, Bool.and_eq_true, bne_iff_ne, decide_eq_true_eq, ih, MemOk, List.pairwise_cons, List.forall_mem_cons]
      constructor
      · rintro ⟨⟨h1, h2⟩, ⟨h3, h4⟩, h5, h6⟩
        exact ⟨⟨⟨h2, fun x hx => Nat.lt_trans h2 (h3 x hx)⟩, h3, h4⟩, h1, h5, h6⟩
      · rintro ⟨⟨⟨h2, _⟩, h3, h4⟩, h1, h5, h6⟩
        exact ⟨⟨h1, h2⟩, ⟨h3, h4⟩, h5, h6⟩

theorem mem_tput {α : Type} (t : Tab α) (k : Nat) (v : α) (x : Nat × α) (h : x ∈ tput t k v) : x = (k, v) ∨ x ∈ t := by
  induction t with
  | nil => simpa [tput] using h
  | cons p r ih =>
    simp only [tput] at h
    split at h
    · simpa using h
    · split at h
      · rcases List.mem_cons.1 h with h | h
        · exact .inl h
        · exact .inr (List.mem_cons_of_mem _ h)
      · rcases List.mem_cons.1 h with h | h
        · exact .inr (by simp [h])
        · rcases ih h with h | h
          · exact .inl h
          · exact .inr (List.mem_cons_of_mem _ h)

theorem pairwise_tput {α : Type} (t : Tab α) (k : Nat) (v : α) (h : t.Pairwise fun p q => p.1 < q.1) :
    (tput t k v).Pairwise fun p q => p.1 < q.1 := by
  induction t with
  | nil => simp [tput]
  | cons p r ih =>
    have hp := List.pairwise_cons.1 h
    simp only [tput]
    split
    · next h1 =>
      refine List.pairwise_cons.2 ⟨fun x hx => ?_, h⟩
      rcases List.mem_cons.1 hx with rfl | hx
      · exact h1
      · exact Nat.lt_trans h1 (hp.1 x hx)
    · split
      · next h1 h2 => exact List.pairwise_cons.2 ⟨fun x hx => h2 ▸ hp.1 x hx, hp.2⟩
      · next h1 h2 =>
        refine List.pairwise_cons.2 ⟨fun x hx => ?_, ih hp.2⟩
        rcases mem_tput r k v x hx with rfl | hx
        · show p.1 < k; omega
        · exact hp.1 x hx

theorem MemOk.filter {m : Tab Byte} (h : MemOk m) (f : Nat × Byte → Bool) : MemOk (m.filter f) :=
  ⟨h.1.sublist List.filter_sublist, fun p hp => h.2 p ((List.mem_filter.1 hp).1)⟩

theorem MemOk.tput {m : Tab Byte} (h : MemOk m) (a : Nat) (v : Byte) (hv : v ≠ 0) : MemOk (tput m a v) :=
  ⟨pairwise_tput m a v h.1, fun p hp => by
    rcases mem_tput m a v p hp with rfl | hp
    · exact hv
    · exact h.2 p hp⟩

theorem MemOk.memPut {m : Tab Byte} (h : MemOk m) (a : Nat) (v : Byte) : MemOk (memPut m a v) := by
  unfold Machine.memPut
  split
  · exact h.filter _
  · next hv => exact h.tput a v hv

theorem MemOk.memWrite {m : Tab Byte} (h : MemOk m) (a : Nat) (bs : List Byte) : MemOk (memWrite m a bs) := by
  induction bs generalizing m a with
  | nil => exact h
  | cons v r ih => exact ih (h.memPut a v) _

/-- A byte write keeps the canonical form. -/
theorem memPut_wf (m : Tab Byte) (a : Nat) (v : Byte) (h : memWf m = true) : memWf (memPut m a v) = true :=
  (memWf_iff _).2 (((memWf_iff _).1 h).memPut a v)

/-- Writing bytes keeps the canonical form. -/
theorem memWrite_wf (m : Tab Byte) (a : Nat) (bs : List Byte) (h : memWf m = true) : memWf (memWrite m a bs) = true :=
  (memWf_iff _).2 (((memWf_iff _).1 h).memWrite a bs)

/-- Clearing memory keeps the canonical form. -/
theorem clearMem_wf (m : Tab Byte) (a n : Nat) (h : memWf m = true) : memWf (clearMem m a n) = true :=
  (memWf_iff _).2 (((memWf_iff _).1 h).filter _)

/-- Copying memory keeps the canonical form. -/
theorem copyMem_wf (m : Tab Byte) (a b n : Nat) (h : memWf m = true) : memWf (copyMem m a b n) = true := by
  have h0 := (memWf_iff _).1 h
  refine (memWf_iff _).2 ?_
  unfold copyMem
  have key : ∀ (l : Tab Byte) (m : Tab Byte), (∀ p ∈ l, p.2 ≠ 0) → MemOk m →
      MemOk (l.foldl (fun m p => tput m (p.1 - a + b) p.2) m) := by
    intro l
    induction l with
    | nil => exact fun m _ h => h
    | cons p r ih => exact fun m hl h => ih _ (fun q hq => hl q (by simp [hq])) (h.tput _ _ (hl p (by simp)))
  exact key _ _ (fun p hp => h0.2 p ((List.mem_filter.1 hp).1)) (h0.filter _)

end Sys2Proof.Machine
end

