-- ==== Sys2Proof/Laws/KeepMemory0.lean ====
section
/-! SUPPORT. What it is to keep the canonical form of memory, and the small rules the lemmas of the next files use. -/

namespace Sys2Proof.Machine

/-- A meaning answers a next state whose memory keeps its canonical form. -/
def OutOk (o : Host.Outcome State Fault Refusal) : Prop := match o with
  | .next t => memWf t.mem = true
  | _ => False

theorem OutOk.next {t : State} (h : memWf t.mem = true) : OutOk (.next t) := h

theorem Ok_foldl {α : Type} {f : State → α → State} {l : List α} {s : State} (h : memWf s.mem = true) (hf : ∀ s x, memWf s.mem = true → memWf (f s x).mem = true) : memWf (l.foldl f s).mem = true := by
  induction l generalizing s with
  | nil => exact h
  | cons a l ih => exact ih (hf _ _ h)

theorem Ok_foldl_fst {α β : Type} {f : State × β → α → State × β} {l : List α} {p : State × β} (h : memWf p.1.mem = true) (hf : ∀ p x, memWf p.1.mem = true → memWf (f p x).1.mem = true) : memWf (l.foldl f p).1.mem = true := by
  induction l generalizing p with
  | nil => exact h
  | cons a l ih => exact ih (hf _ _ h)

theorem Ok_fst {α : Type} {e : State × α} {s : State} {x : α} (h : e = (s, x)) (k : memWf e.1.mem = true) : memWf s.mem = true := by
  rw [h] at k; exact k

theorem Ok_snd {α : Type} {e : α × State} {s : State} {x : α} (h : e = (x, s)) (k : memWf e.2.mem = true) : memWf s.mem = true := by
  rw [h] at k; exact k

theorem Out_next {o : Host.Outcome State Fault Refusal} {t : State} (e : o = .next t) (h : OutOk o) : memWf t.mem = true := by
  rw [e] at h; exact h

theorem Ok_ite {c : Prop} [Decidable c] {a b : Host.Outcome State Fault Refusal} (h : OutOk a) (k : OutOk b) : OutOk (if c then a else b) := by
  split
  · exact h
  · exact k

theorem Some_ok {s t : State} (h : some s = some t) (k : memWf s.mem = true) : memWf t.mem = true := by
  cases h; exact k

theorem Some_ok2 {α : Type} {x y : α} {s t : State} (h : some (x, s) = some (y, t)) (k : memWf s.mem = true) : memWf t.mem = true := by
  cases h; exact k

theorem None_ok {t : State} (h : none = some t) : memWf t.mem = true := by cases h

theorem None_ok2 {α : Type} {y : α} {t : State} (h : none = some (y, t)) : memWf t.mem = true := by cases h

theorem getD_ok {o : Option State} {s : State} (h : ∀ t, o = some t → memWf t.mem = true) (k : memWf s.mem = true) : memWf (o.getD s).mem = true := by
  cases o with
  | none => exact k
  | some t => exact h t rfl

end Sys2Proof.Machine
end

