-- ==== Sys2Proof/Laws/KeepMemory1.lean ====
section
/-! SUPPORT. Every operation and every meaning keeps the canonical form of memory, and every meaning answers a next state; part 1. -/

namespace Sys2Proof.Machine

theorem State.reset_wf   : memWf (State.reset).mem = true := by
  decide

theorem State.setTileAt_wf {a0 a1 a2} (h0 : memWf a0.mem = true) : memWf ((State.setTileAt a0 a1 a2)).mem = true := by
  unfold State.setTileAt
  repeat' (first | with_reducible assumption | with_reducible (refine OutOk.next ?_))

theorem State.setTile_wf {a0 a1} (h0 : memWf a0.mem = true) : memWf ((State.setTile a0 a1)).mem = true := by
  unfold State.setTile
  repeat' (first | with_reducible assumption | with_reducible (refine OutOk.next ?_) | with_reducible apply State.setTileAt_wf)

theorem State.writeBytes_wf {a0 a1 a2} (h0 : memWf a0.mem = true) : memWf ((State.writeBytes a0 a1 a2)).mem = true := by
  unfold State.writeBytes
  repeat' (first | with_reducible assumption | with_reducible (refine OutOk.next ?_) | with_reducible apply memWrite_wf)

theorem State.writeNat_wf {a0 a1 a2 a3} (h0 : memWf a0.mem = true) : memWf ((State.writeNat a0 a1 a2 a3)).mem = true := by
  unfold State.writeNat
  repeat' (first | with_reducible assumption | with_reducible (refine OutOk.next ?_) | with_reducible apply State.writeBytes_wf)

theorem State.setCtxAt_wf {a0 a1 a2} (h0 : memWf a0.mem = true) : memWf ((State.setCtxAt a0 a1 a2)).mem = true := by
  unfold State.setCtxAt
  repeat' (first | with_reducible assumption | with_reducible (refine OutOk.next ?_))

theorem State.setCtx_wf {a0 a1} (h0 : memWf a0.mem = true) : memWf ((State.setCtx a0 a1)).mem = true := by
  unfold State.setCtx
  repeat' (first | with_reducible assumption | with_reducible (refine OutOk.next ?_) | with_reducible apply State.setCtxAt_wf)

theorem jumpTo_wf {a0 a1} (h0 : memWf a0.mem = true) : OutOk (jumpTo a0 a1) := by
  unfold jumpTo
  repeat' (first | with_reducible assumption | with_reducible (refine OutOk.next ?_) | with_reducible apply State.setCtx_wf)

theorem State.finish_wf {a0} (h0 : memWf a0.mem = true) : memWf ((State.finish a0)).mem = true := by
  unfold State.finish
  repeat' (first | with_reducible assumption | with_reducible (refine OutOk.next ?_) | with_reducible apply State.setCtx_wf)

theorem done_wf {a0} (h0 : memWf a0.mem = true) : OutOk (done a0) := by
  unfold done
  repeat' (first | with_reducible assumption | with_reducible (refine OutOk.next ?_) | with_reducible apply State.finish_wf)

theorem State.wg_wf {a0 a1 a2} (h0 : memWf a0.mem = true) : memWf ((State.wg a0 a1 a2)).mem = true := by
  unfold State.wg
  repeat' (first | with_reducible assumption | with_reducible (refine OutOk.next ?_) | with_reducible apply State.setCtx_wf)

theorem writeG_wf {a0 a1 a2} (h0 : memWf a0.mem = true) : OutOk (writeG a0 a1 a2) := by
  unfold writeG
  repeat' (first
    | with_reducible assumption | with_reducible (refine OutOk.next ?_) | with_reducible apply done_wf
    | with_reducible apply State.wg_wf)

theorem park_wf {a0 a1} (h0 : memWf a0.mem = true) : OutOk (park a0 a1) := by
  unfold park
  repeat' (first | with_reducible assumption | with_reducible (refine OutOk.next ?_) | with_reducible apply State.setCtx_wf)

theorem State.waitFetch_wf {a0} (h0 : memWf a0.mem = true) : memWf ((State.waitFetch a0)).mem = true := by
  unfold State.waitFetch
  repeat' (first | with_reducible assumption | with_reducible (refine OutOk.next ?_) | with_reducible apply State.setCtx_wf)

theorem State.setColAt_wf {a0 a1 a2} (h0 : memWf a0.mem = true) : memWf ((State.setColAt a0 a1 a2)).mem = true := by
  unfold State.setColAt
  repeat' (first | with_reducible assumption | with_reducible (refine OutOk.next ?_))

theorem State.enterSafe_wf {a0 a1} (h0 : memWf a0.mem = true) : memWf ((State.enterSafe a0 a1)).mem = true := by
  unfold State.enterSafe
  repeat' (first
    | with_reducible assumption | dsimp only | with_reducible (refine OutOk.next ?_) | with_reducible apply State.setColAt_wf
    | with_reducible apply Ok_foldl | with_reducible apply Ok_foldl_fst | with_reducible (refine Some_ok (by assumption) ?_)
    | with_reducible (refine Some_ok2 (by assumption) ?_) | with_reducible (exact None_ok (by assumption))
    | with_reducible (exact None_ok2 (by assumption)) | with_reducible apply getD_ok | split | with_reducible (intro _)
    | with_reducible (refine Ok_fst (by assumption) ?_) | with_reducible (refine Ok_snd (by assumption) ?_))

theorem State.stub_wf {a0 a1 a2 a3} (h0 : memWf a0.mem = true) : memWf ((State.stub a0 a1 a2 a3)).mem = true := by
  unfold State.stub
  repeat' (first | with_reducible assumption | with_reducible (refine OutOk.next ?_) | with_reducible apply State.enterSafe_wf)

theorem State.enterTrapAt_wf {a0 a1 a2 a3 a4 a5 a6 a7} (h0 : memWf a0.mem = true) : memWf ((State.enterTrapAt a0 a1 a2 a3 a4 a5 a6 a7)).mem = true := by
  unfold State.enterTrapAt
  repeat' (first
    | with_reducible assumption | dsimp only | with_reducible (refine OutOk.next ?_) | with_reducible apply State.setCtxAt_wf
    | with_reducible apply State.stub_wf | split | with_reducible (intro _) | with_reducible (refine Ok_fst (by assumption) ?_))

theorem State.enterTrap_wf {a0 a1 a2} (h0 : memWf a0.mem = true) : memWf ((State.enterTrap a0 a1 a2)).mem = true := by
  unfold State.enterTrap
  repeat' (first | with_reducible assumption | with_reducible (refine OutOk.next ?_) | with_reducible apply State.enterTrapAt_wf)

theorem trap_wf {a0 a1 a2} (h0 : memWf a0.mem = true) : OutOk (trap a0 a1 a2) := by
  unfold trap
  repeat' (first | with_reducible assumption | with_reducible (refine OutOk.next ?_) | with_reducible apply State.enterTrap_wf)

theorem State.postAt_wf {a0 a1 a2 a3} (h0 : memWf a0.mem = true) : memWf ((State.postAt a0 a1 a2 a3)).mem = true := by
  unfold State.postAt
  repeat' (first | with_reducible assumption | with_reducible (refine OutOk.next ?_))

theorem State.decodeTrap_wf {a0 a1 a2 a3} (h0 : memWf a0.mem = true) : memWf ((State.decodeTrap a0 a1 a2 a3)).mem = true := by
  unfold State.decodeTrap
  repeat' (first | with_reducible assumption | with_reducible (refine OutOk.next ?_) | with_reducible apply State.enterTrapAt_wf)

theorem State.unpost_wf {a0 a1} (h0 : memWf a0.mem = true) : memWf ((State.unpost a0 a1)).mem = true := by
  unfold State.unpost
  repeat' (first | with_reducible assumption | with_reducible (refine OutOk.next ?_))

theorem State.wv_wf {a0 a1 a2} (h0 : memWf a0.mem = true) : memWf ((State.wv a0 a1 a2)).mem = true := by
  unfold State.wv
  repeat' (first | with_reducible assumption | with_reducible (refine OutOk.next ?_) | with_reducible apply State.setCtx_wf)

theorem State.free_wf {a0} (h0 : memWf a0.mem = true) : memWf ((State.free a0).2).mem = true := by
  unfold State.free
  repeat' (first | with_reducible assumption | with_reducible (refine OutOk.next ?_))

theorem State.setCoreAt_wf {a0 a1 a2} (h0 : memWf a0.mem = true) : memWf ((State.setCoreAt a0 a1 a2)).mem = true := by
  unfold State.setCoreAt
  repeat' (first | with_reducible assumption | with_reducible (refine OutOk.next ?_))

theorem State.trapReturn_wf {a0 a1} (h0 : memWf a0.mem = true) (h1 : ∀ y0 y1, memWf y0.mem = true → OutOk (a1 y0 y1)) : OutOk (State.trapReturn a0 a1) := by
  unfold State.trapReturn
  repeat' (first
    | with_reducible assumption | dsimp only | with_reducible (refine OutOk.next ?_) | with_reducible apply h1
    | with_reducible apply trap_wf | with_reducible apply State.setCtx_wf | split | with_reducible (intro _)
    | with_reducible (refine Ok_fst (by assumption) ?_))

theorem State.post_wf {a0 a1 a2 a3} (h0 : memWf a0.mem = true) : memWf ((State.post a0 a1 a2 a3)).mem = true := by
  unfold State.post
  repeat' (first | with_reducible assumption | with_reducible (refine OutOk.next ?_))

theorem State.setMyTabs_wf {a0 a1} (h0 : memWf a0.mem = true) : memWf ((State.setMyTabs a0 a1)).mem = true := by
  unfold State.setMyTabs
  repeat' (first | with_reducible assumption | with_reducible (refine OutOk.next ?_) | with_reducible apply State.setTile_wf)

theorem State.holdTrap_wf {a0 a1 a2} (h0 : memWf a0.mem = true) : memWf ((State.holdTrap a0 a1 a2)).mem = true := by
  unfold State.holdTrap
  repeat' (first | with_reducible assumption | with_reducible (refine OutOk.next ?_) | with_reducible apply State.setCtxAt_wf)

theorem State.waitIssue_wf {a0 a1} (h0 : memWf a0.mem = true) : memWf ((State.waitIssue a0 a1)).mem = true := by
  unfold State.waitIssue
  repeat' (first | with_reducible assumption | with_reducible (refine OutOk.next ?_) | with_reducible apply State.setCtx_wf)

theorem State.setCore_wf {a0 a1} (h0 : memWf a0.mem = true) : memWf ((State.setCore a0 a1)).mem = true := by
  unfold State.setCore
  repeat' (first | with_reducible assumption | with_reducible (refine OutOk.next ?_) | with_reducible apply State.setCoreAt_wf)

theorem State.setRegion_wf {a0 a1} (h0 : memWf a0.mem = true) : memWf ((State.setRegion a0 a1)).mem = true := by
  unfold State.setRegion
  repeat' (first | with_reducible assumption | with_reducible (refine OutOk.next ?_))

theorem State.writeWord_wf {a0 a1 a2} (h0 : memWf a0.mem = true) : memWf ((State.writeWord a0 a1 a2)).mem = true := by
  unfold State.writeWord
  repeat' (first | with_reducible assumption | with_reducible (refine OutOk.next ?_) | with_reducible apply State.writeNat_wf)

theorem State.walkAt_wf {a0 a1 a2 a3} (h0 : memWf a0.mem = true) : memWf ((State.walkAt a0 a1 a2 a3).1).mem = true := by
  unfold State.walkAt
  repeat' (first
    | with_reducible assumption | dsimp only | with_reducible (refine OutOk.next ?_) | with_reducible apply State.setColAt_wf
    | split | with_reducible (intro _) | with_reducible (refine Ok_fst (by assumption) ?_))

theorem State.fillCore_wf {a0 a1 a2} (h0 : memWf a0.mem = true) : memWf ((State.fillCore a0 a1 a2)).mem = true := by
  unfold State.fillCore
  repeat' (first | with_reducible assumption | with_reducible (refine OutOk.next ?_) | with_reducible apply State.setCoreAt_wf)

theorem State.freshWalk_wf {a0 a1 a2 a3 a4 a5} (h0 : memWf a0.mem = true) : memWf ((State.freshWalk a0 a1 a2 a3 a4 a5).1).mem = true := by
  unfold State.freshWalk
  repeat' (first
    | with_reducible assumption | dsimp only | with_reducible (refine OutOk.next ?_) | with_reducible apply State.walkAt_wf
    | split | with_reducible (intro _) | with_reducible (refine Ok_fst (by assumption) ?_))

theorem State.dropPage_wf {a0 a1 a2 a3} (h0 : memWf a0.mem = true) : memWf ((State.dropPage a0 a1 a2 a3)).mem = true := by
  unfold State.dropPage
  repeat' (first
    | with_reducible assumption | with_reducible (refine OutOk.next ?_) | with_reducible apply State.setCoreAt_wf
    | with_reducible apply State.setTileAt_wf)

theorem State.missAt_wf {a0 a1 a2 a3 a4 a5 a6 a7} (h0 : memWf a0.mem = true) (h7 : ∀ y0 y1, memWf y0.mem = true → memWf ((a7 y0 y1)).mem = true) : memWf ((State.missAt a0 a1 a2 a3 a4 a5 a6 a7).1).mem = true := by
  unfold State.missAt
  repeat' (first
    | with_reducible assumption | dsimp only | with_reducible (refine OutOk.next ?_) | with_reducible apply h7
    | with_reducible apply State.setTileAt_wf | with_reducible apply State.post_wf | with_reducible apply State.freshWalk_wf
    | split | with_reducible (intro _) | with_reducible (refine Ok_fst (by assumption) ?_))

theorem State.fillTw_wf {a0 a1 a2} (h0 : memWf a0.mem = true) : memWf ((State.fillTw a0 a1 a2)).mem = true := by
  unfold State.fillTw
  repeat' (first | with_reducible assumption | with_reducible (refine OutOk.next ?_) | with_reducible apply State.setTileAt_wf)

theorem State.fillTile_wf {a0 a1 a2} (h0 : memWf a0.mem = true) : memWf ((State.fillTile a0 a1 a2)).mem = true := by
  unfold State.fillTile
  repeat' (first | with_reducible assumption | with_reducible (refine OutOk.next ?_) | with_reducible apply State.setTileAt_wf)

theorem State.translateEngine_wf {a0 a1 a2 a3 a4 a5} (h0 : memWf a0.mem = true) : memWf ((State.translateEngine a0 a1 a2 a3 a4 a5).1).mem = true := by
  unfold State.translateEngine
  repeat' (first
    | with_reducible assumption | dsimp only | with_reducible (refine OutOk.next ?_) | with_reducible apply State.missAt_wf
    | with_reducible apply State.setTileAt_wf | with_reducible apply State.fillTw_wf | with_reducible apply State.fillTile_wf
    | split | with_reducible (intro _) | with_reducible (refine Ok_fst (by assumption) ?_))

theorem State.translateAt_wf {a0 a1 a2 a3 a4 a5} (h0 : memWf a0.mem = true) : memWf ((State.translateAt a0 a1 a2 a3 a4 a5).1).mem = true := by
  unfold State.translateAt
  repeat' (first
    | with_reducible assumption | dsimp only | with_reducible (refine OutOk.next ?_) | with_reducible apply State.fillCore_wf
    | with_reducible apply State.missAt_wf | with_reducible apply State.dropPage_wf | with_reducible apply State.fillTile_wf
    | split | with_reducible (intro _) | with_reducible (refine Ok_fst (by assumption) ?_))

theorem State.gwinPass_wf {a0 a1 a2 a3 a4 a5} (h0 : memWf a0.mem = true) : memWf ((State.gwinPass a0 a1 a2 a3 a4 a5).1).mem = true := by
  unfold State.gwinPass
  repeat' (first
    | with_reducible assumption | dsimp only | with_reducible (refine OutOk.next ?_) | with_reducible apply State.setColAt_wf
    | split | with_reducible (intro _) | with_reducible (refine Ok_fst (by assumption) ?_))

theorem State.setRmEntry_wf {a0 a1 a2 a3} (h0 : memWf a0.mem = true) : memWf ((State.setRmEntry a0 a1 a2 a3)).mem = true := by
  unfold State.setRmEntry
  repeat' (first | with_reducible assumption | with_reducible (refine OutOk.next ?_) | with_reducible apply State.writeWord_wf)

theorem State.setLease_wf {a0 a1 a2 a3} (h0 : memWf a0.mem = true) : memWf ((State.setLease a0 a1 a2 a3)).mem = true := by
  unfold State.setLease
  repeat' (first | with_reducible assumption | with_reducible (refine OutOk.next ?_) | with_reducible apply State.writeWord_wf)

theorem State.fillRm_wf {a0 a1 a2 a3} (h0 : memWf a0.mem = true) : memWf ((State.fillRm a0 a1 a2 a3)).mem = true := by
  unfold State.fillRm
  repeat' (first
    | with_reducible assumption | dsimp only | with_reducible (refine OutOk.next ?_) | with_reducible apply State.setTileAt_wf
    | split | with_reducible (intro _) | with_reducible (refine Ok_fst (by assumption) ?_))

theorem State.fetchWord_wf {a0 a1} (h0 : memWf a0.mem = true) : memWf ((State.fetchWord a0 a1).1).mem = true := by
  unfold State.fetchWord
  repeat' (first
    | with_reducible assumption | dsimp only | with_reducible (refine OutOk.next ?_) | with_reducible apply State.translateAt_wf
    | with_reducible apply State.setCore_wf | split | with_reducible (intro _)
    | with_reducible (refine Ok_fst (by assumption) ?_))

theorem State.prefixLoop_wf {a0 a1 a2 a3 a4 a5} (h0 : memWf a0.mem = true) : memWf ((State.prefixLoop a0 a1 a2 a3 a4 a5).1).mem = true := by
  induction a2 generalizing a0 a1 a3 a4 a5 with
  | zero =>
    unfold State.prefixLoop
    repeat' (first
      | with_reducible assumption | dsimp only | with_reducible (refine OutOk.next ?_) | with_reducible apply State.decodeTrap_wf
      | with_reducible apply State.fetchWord_wf | split | with_reducible (intro _)
      | with_reducible (refine Ok_fst (by assumption) ?_))
  | succ n ih =>
    unfold State.prefixLoop
    repeat' (first
      | with_reducible apply ih | with_reducible assumption | dsimp only | with_reducible (refine OutOk.next ?_) | with_reducible apply State.decodeTrap_wf
      | with_reducible apply State.fetchWord_wf | split | with_reducible (intro _)
      | with_reducible (refine Ok_fst (by assumption) ?_))

theorem State.decodeRest_wf {a0 a1 a2 a3 a4 a5} (h0 : memWf a0.mem = true) : memWf ((State.decodeRest a0 a1 a2 a3 a4 a5).1).mem = true := by
  unfold State.decodeRest
  repeat' (first
    | with_reducible assumption | dsimp only | with_reducible (refine OutOk.next ?_) | with_reducible apply State.decodeTrap_wf
    | with_reducible apply State.fetchWord_wf | split | with_reducible (intro _)
    | with_reducible (refine Ok_fst (by assumption) ?_))

theorem State.decodeFrom_wf {a0 a1 a2} (h0 : memWf a0.mem = true) : memWf ((State.decodeFrom a0 a1 a2).1).mem = true := by
  unfold State.decodeFrom
  repeat' (first
    | with_reducible assumption | dsimp only | with_reducible (refine OutOk.next ?_) | with_reducible apply State.fetchWord_wf
    | with_reducible apply State.decodeTrap_wf | with_reducible apply State.prefixLoop_wf
    | with_reducible apply State.decodeRest_wf | split | with_reducible (intro _)
    | with_reducible (refine Ok_fst (by assumption) ?_))

theorem State.reloadGuards_wf {a0 a1 a2} (h0 : memWf a0.mem = true) : memWf ((State.reloadGuards a0 a1 a2)).mem = true := by
  unfold State.reloadGuards
  repeat' (first | with_reducible assumption | with_reducible (refine OutOk.next ?_) | with_reducible apply State.setCoreAt_wf)

theorem State.decodeGroup_wf {a0} (h0 : memWf a0.mem = true) : memWf ((State.decodeGroup a0).1).mem = true := by
  unfold State.decodeGroup
  repeat' (first
    | with_reducible assumption | dsimp only | with_reducible (refine OutOk.next ?_) | with_reducible apply State.decodeTrap_wf
    | with_reducible apply State.fetchWord_wf | with_reducible apply State.decodeFrom_wf | split | with_reducible (intro _)
    | with_reducible (refine Ok_fst (by assumption) ?_))

theorem State.raise_wf {a0 a1} (h0 : memWf a0.mem = true) : memWf ((State.raise a0 a1)).mem = true := by
  unfold State.raise
  repeat' (first | with_reducible assumption | with_reducible (refine OutOk.next ?_) | with_reducible apply State.setCtx_wf)

theorem withLanes_wf {a0 a1 a2} (h0 : memWf a0.mem = true) (h2 : ∀ y0, memWf y0.mem = true → OutOk (a2 y0)) : OutOk (withLanes a0 a1 a2) := by
  unfold withLanes
  repeat' (first
    | with_reducible assumption | dsimp only | with_reducible (refine OutOk.next ?_) | with_reducible apply h2
    | with_reducible apply trap_wf | with_reducible apply State.setCtx_wf | split | with_reducible (intro _)
    | with_reducible (refine Ok_fst (by assumption) ?_))

theorem writeSat_wf {a0 a1 a2 a3} (h0 : memWf a0.mem = true) : OutOk (writeSat a0 a1 a2 a3) := by
  unfold writeSat
  repeat' (first
    | with_reducible assumption | with_reducible (refine OutOk.next ?_) | with_reducible apply writeG_wf
    | with_reducible apply State.raise_wf)

theorem illegal_wf {a0} (h0 : memWf a0.mem = true) : OutOk (illegal a0) := by
  unfold illegal
  repeat' (first | with_reducible assumption | with_reducible (refine OutOk.next ?_) | with_reducible apply trap_wf)

theorem State.raiseQ_wf {a0 a1} (h0 : memWf a0.mem = true) : memWf ((State.raiseQ a0 a1)).mem = true := by
  unfold State.raiseQ
  repeat' (first
    | with_reducible assumption | dsimp only | with_reducible (refine OutOk.next ?_) | with_reducible apply State.raise_wf
    | split | with_reducible (intro _) | with_reducible (refine Ok_fst (by assumption) ?_))

theorem withFlags_wf {a0 a1 a2} (h0 : memWf a0.mem = true) (h2 : ∀ y0, memWf y0.mem = true → OutOk (a2 y0)) : OutOk (withFlags a0 a1 a2) := by
  unfold withFlags
  repeat' (first
    | with_reducible assumption | dsimp only | with_reducible (refine OutOk.next ?_) | with_reducible apply h2
    | with_reducible apply trap_wf | with_reducible apply State.raiseQ_wf | split | with_reducible (intro _)
    | with_reducible (refine Ok_fst (by assumption) ?_))

theorem State.setFull_wf {a0 a1 a2} (h0 : memWf a0.mem = true) : memWf ((State.setFull a0 a1 a2)).mem = true := by
  unfold State.setFull
  repeat' (first | with_reducible assumption | with_reducible (refine OutOk.next ?_))

theorem State.setPkt_wf {a0 a1 a2} (h0 : memWf a0.mem = true) : memWf ((State.setPkt a0 a1 a2)).mem = true := by
  unfold State.setPkt
  repeat' (first | with_reducible assumption | with_reducible (refine OutOk.next ?_))

theorem State.checks_wf {a0 a1 a2 a3 a4} (h0 : memWf a0.mem = true) : memWf ((State.checks a0 a1 a2 a3 a4).1).mem = true := by
  unfold State.checks
  repeat' (first
    | with_reducible assumption | dsimp only | with_reducible (refine OutOk.next ?_) | with_reducible apply State.fillRm_wf
    | with_reducible apply State.gwinPass_wf | with_reducible apply State.translateEngine_wf
    | with_reducible apply State.translateAt_wf | split | with_reducible (intro _)
    | with_reducible (refine Ok_fst (by assumption) ?_))

theorem State.resolveNow_wf {a0 a1 a2 a3 a4} (h0 : memWf a0.mem = true) : memWf ((State.resolveNow a0 a1 a2 a3 a4).1).mem = true := by
  unfold State.resolveNow
  repeat' (first
    | with_reducible assumption | dsimp only | with_reducible (refine OutOk.next ?_) | with_reducible apply State.checks_wf
    | split | with_reducible (intro _) | with_reducible (refine Ok_fst (by assumption) ?_))

theorem State.resolve_wf {a0 a1 a2 a3 a4} (h0 : memWf a0.mem = true) : memWf ((State.resolve a0 a1 a2 a3 a4).1).mem = true := by
  unfold State.resolve
  repeat' (first
    | with_reducible assumption | dsimp only | with_reducible (refine OutOk.next ?_) | with_reducible apply State.resolveNow_wf
    | with_reducible apply State.checks_wf | split | with_reducible (intro _) | with_reducible (refine Ok_fst (by assumption) ?_))

theorem State.syncTier_wf {a0 a1 a2} (h0 : memWf a0.mem = true) : memWf ((State.syncTier a0 a1 a2)).mem = true := by
  unfold State.syncTier
  repeat' (first
    | with_reducible assumption | dsimp only | with_reducible (refine OutOk.next ?_) | with_reducible apply State.setRegion_wf
    | with_reducible apply State.post_wf | with_reducible apply State.postAt_wf | split | with_reducible (intro _)
    | with_reducible (refine Ok_fst (by assumption) ?_))

theorem State.syncTiers_wf {a0 a1 a2} (h0 : memWf a0.mem = true) : memWf ((State.syncTiers a0 a1 a2)).mem = true := by
  unfold State.syncTiers
  repeat' (first
    | with_reducible assumption | dsimp only | with_reducible (refine OutOk.next ?_) | with_reducible apply State.syncTier_wf
    | with_reducible apply Ok_foldl | with_reducible apply Ok_foldl_fst | with_reducible (refine Some_ok (by assumption) ?_)
    | with_reducible (refine Some_ok2 (by assumption) ?_) | with_reducible (exact None_ok (by assumption))
    | with_reducible (exact None_ok2 (by assumption)) | with_reducible apply getD_ok | split | with_reducible (intro _)
    | with_reducible (refine Ok_fst (by assumption) ?_) | with_reducible (refine Ok_snd (by assumption) ?_))

theorem State.inject_wf {a0 a1} (h0 : memWf a0.mem = true) : memWf ((State.inject a0 a1)).mem = true := by
  unfold State.inject
  repeat' (first | with_reducible assumption | with_reducible (refine OutOk.next ?_))

theorem State.notify_wf {a0 a1 a2 a3 a4 a5 a6 a7 a8} (h0 : memWf a0.mem = true) : memWf ((State.notify a0 a1 a2 a3 a4 a5 a6 a7 a8)).mem = true := by
  unfold State.notify
  repeat' (first
    | with_reducible assumption | with_reducible (refine OutOk.next ?_) | with_reducible apply State.post_wf
    | with_reducible apply State.inject_wf)

theorem State.dropPkt_wf {a0 a1} (h0 : memWf a0.mem = true) : memWf ((State.dropPkt a0 a1)).mem = true := by
  unfold State.dropPkt
  repeat' (first | with_reducible assumption | with_reducible (refine OutOk.next ?_))

theorem State.ringPut_wf {a0 a1 a2 a3} (h0 : memWf a0.mem = true) : memWf ((State.ringPut a0 a1 a2 a3)).mem = true := by
  unfold State.ringPut
  repeat' (first
    | with_reducible assumption | dsimp only | with_reducible (refine OutOk.next ?_) | with_reducible apply State.writeWord_wf
    | with_reducible apply Ok_foldl | with_reducible apply Ok_foldl_fst | with_reducible (refine Some_ok (by assumption) ?_)
    | with_reducible (refine Some_ok2 (by assumption) ?_) | with_reducible (exact None_ok (by assumption))
    | with_reducible (exact None_ok2 (by assumption)) | with_reducible apply getD_ok | split | with_reducible (intro _)
    | with_reducible (refine Ok_fst (by assumption) ?_) | with_reducible (refine Ok_snd (by assumption) ?_))

theorem State.faultEntry_wf {a0 a1 a2 a3 a4 a5 a6 a7 a8 a9} (h0 : memWf a0.mem = true) : memWf ((State.faultEntry a0 a1 a2 a3 a4 a5 a6 a7 a8 a9)).mem = true := by
  unfold State.faultEntry
  repeat' (first
    | with_reducible assumption | dsimp only | with_reducible (refine OutOk.next ?_) | with_reducible apply State.ringPut_wf
    | split | with_reducible (intro _) | with_reducible (refine Ok_fst (by assumption) ?_))

theorem State.reportLog_wf {a0 a1 a2 a3 a4 a5} (h0 : memWf a0.mem = true) : memWf ((State.reportLog a0 a1 a2 a3 a4 a5)).mem = true := by
  unfold State.reportLog
  repeat' (first | with_reducible assumption | with_reducible (refine OutOk.next ?_) | with_reducible apply State.faultEntry_wf)

theorem State.storeBytes_wf {a0 a1 a2} (h0 : memWf a0.mem = true) : memWf ((State.storeBytes a0 a1 a2)).mem = true := by
  unfold State.storeBytes
  repeat' (first
    | with_reducible assumption | dsimp only | with_reducible (refine OutOk.next ?_) | with_reducible apply State.writeBytes_wf
    | with_reducible apply Ok_foldl | with_reducible apply Ok_foldl_fst | with_reducible (refine Some_ok (by assumption) ?_)
    | with_reducible (refine Some_ok2 (by assumption) ?_) | with_reducible (exact None_ok (by assumption))
    | with_reducible (exact None_ok2 (by assumption)) | with_reducible apply getD_ok | split | with_reducible (intro _)
    | with_reducible (refine Ok_fst (by assumption) ?_) | with_reducible (refine Ok_snd (by assumption) ?_))

theorem State.regStore_wf {a0 a1 a2 a3} (h0 : memWf a0.mem = true) : memWf ((State.regStore a0 a1 a2 a3)).mem = true := by
  unfold State.regStore
  repeat' (first | with_reducible assumption | with_reducible (refine OutOk.next ?_) | with_reducible apply State.post_wf)

theorem State.traceWrite_wf {a0 a1 a2 a3 a4 a5 a6 a7 a8} (h0 : memWf a0.mem = true) : memWf ((State.traceWrite a0 a1 a2 a3 a4 a5 a6 a7 a8)).mem = true := by
  unfold State.traceWrite
  repeat' (first
    | with_reducible assumption | dsimp only | with_reducible (refine OutOk.next ?_) | with_reducible apply State.setColAt_wf
    | with_reducible apply State.ringPut_wf | split | with_reducible (intro _)
    | with_reducible (refine Ok_fst (by assumption) ?_))

theorem State.countWrite_wf {a0 a1 a2} (h0 : memWf a0.mem = true) : memWf ((State.countWrite a0 a1 a2)).mem = true := by
  unfold State.countWrite
  repeat' (first
    | with_reducible assumption | dsimp only | with_reducible (refine OutOk.next ?_) | with_reducible apply State.setTileAt_wf
    | with_reducible apply State.notify_wf | with_reducible apply Ok_foldl | with_reducible apply Ok_foldl_fst
    | with_reducible (refine Some_ok (by assumption) ?_) | with_reducible (refine Some_ok2 (by assumption) ?_)
    | with_reducible (exact None_ok (by assumption)) | with_reducible (exact None_ok2 (by assumption))
    | with_reducible apply getD_ok | split | with_reducible (intro _) | with_reducible (refine Ok_fst (by assumption) ?_)
    | with_reducible (refine Ok_snd (by assumption) ?_))

theorem State.writeHome_wf {a0 a1 a2 a3 a4 a5 a6 a7 a8} (h0 : memWf a0.mem = true) : memWf ((State.writeHome a0 a1 a2 a3 a4 a5 a6 a7 a8)).mem = true := by
  unfold State.writeHome
  repeat' (first
    | with_reducible assumption | dsimp only | with_reducible (refine OutOk.next ?_) | with_reducible apply State.syncTiers_wf
    | with_reducible apply State.storeBytes_wf | with_reducible apply State.traceWrite_wf
    | with_reducible apply State.countWrite_wf | split | with_reducible (intro _)
    | with_reducible (refine Ok_fst (by assumption) ?_))

theorem State.postedError_wf {a0 a1 a2 a3} (h0 : memWf a0.mem = true) : memWf ((State.postedError a0 a1 a2 a3)).mem = true := by
  unfold State.postedError
  repeat' (first | with_reducible assumption | with_reducible (refine OutOk.next ?_) | with_reducible apply State.holdTrap_wf)

theorem State.faultLog_wf {a0 a1 a2 a3 a4 a5 a6 a7} (h0 : memWf a0.mem = true) : memWf ((State.faultLog a0 a1 a2 a3 a4 a5 a6 a7)).mem = true := by
  unfold State.faultLog
  repeat' (first | with_reducible assumption | with_reducible (refine OutOk.next ?_) | with_reducible apply State.faultEntry_wf)

theorem State.setFullRange_wf {a0 a1 a2 a3} (h0 : memWf a0.mem = true) : memWf ((State.setFullRange a0 a1 a2 a3)).mem = true := by
  unfold State.setFullRange
  repeat' (first
    | with_reducible assumption | dsimp only | with_reducible (refine OutOk.next ?_) | split | with_reducible (intro _)
    | with_reducible (refine Ok_fst (by assumption) ?_))

theorem State.await_wf {a0 a1 a2} (h0 : memWf a0.mem = true) : memWf ((State.await a0 a1 a2)).mem = true := by
  unfold State.await
  repeat' (first | with_reducible assumption | with_reducible (refine OutOk.next ?_) | with_reducible apply State.setCtx_wf)

theorem State.takeSeq_wf {a0 a1 a2} (h0 : memWf a0.mem = true) : memWf ((State.takeSeq a0 a1 a2).1).mem = true := by
  unfold State.takeSeq
  repeat' (first
    | with_reducible assumption | dsimp only | with_reducible (refine OutOk.next ?_) | with_reducible apply State.setCoreAt_wf
    | split | with_reducible (intro _) | with_reducible (refine Ok_fst (by assumption) ?_))

theorem State.logAccess_wf {a0 a1 a2 a3 a4} (h0 : memWf a0.mem = true) : memWf ((State.logAccess a0 a1 a2 a3 a4)).mem = true := by
  unfold State.logAccess
  repeat' (first
    | with_reducible assumption | with_reducible (refine OutOk.next ?_) | with_reducible apply State.takeSeq_wf
    | with_reducible apply State.faultEntry_wf)

theorem State.logBad_wf {a0 a1 a2 a3 a4} (h0 : memWf a0.mem = true) : memWf ((State.logBad a0 a1 a2 a3 a4)).mem = true := by
  unfold State.logBad
  repeat' (first
    | with_reducible assumption | dsimp only | with_reducible (refine OutOk.next ?_) | with_reducible apply State.logAccess_wf
    | split | with_reducible (intro _) | with_reducible (refine Ok_fst (by assumption) ?_))

theorem State.countAtomic_wf {a0 a1 a2} (h0 : memWf a0.mem = true) : memWf ((State.countAtomic a0 a1 a2)).mem = true := by
  unfold State.countAtomic
  repeat' (first
    | with_reducible assumption | dsimp only | with_reducible (refine OutOk.next ?_) | with_reducible apply State.setTileAt_wf
    | split | with_reducible (intro _) | with_reducible (refine Ok_fst (by assumption) ?_))

theorem State.readNow_wf {a0 a1 a2} (h0 : memWf a0.mem = true) : memWf ((State.readNow a0 a1 a2).1).mem = true := by
  unfold State.readNow
  repeat' (first
    | with_reducible assumption | dsimp only | with_reducible (refine OutOk.next ?_) | with_reducible apply State.setCore_wf
    | split | with_reducible (intro _) | with_reducible (refine Ok_fst (by assumption) ?_))

theorem State.wakeHeld_wf {a0} (h0 : memWf a0.mem = true) : memWf ((State.wakeHeld a0)).mem = true := by
  unfold State.wakeHeld
  repeat' (first
    | with_reducible assumption | dsimp only | with_reducible (refine OutOk.next ?_) | with_reducible apply State.post_wf
    | with_reducible apply State.setPkt_wf | with_reducible apply Ok_foldl | with_reducible apply Ok_foldl_fst
    | with_reducible (refine Some_ok (by assumption) ?_) | with_reducible (refine Some_ok2 (by assumption) ?_)
    | with_reducible (exact None_ok (by assumption)) | with_reducible (exact None_ok2 (by assumption))
    | with_reducible apply getD_ok | split | with_reducible (intro _) | with_reducible (refine Ok_fst (by assumption) ?_)
    | with_reducible (refine Ok_snd (by assumption) ?_))

theorem State.consume_wf {a0 a1} (h0 : memWf a0.mem = true) : memWf ((State.consume a0 a1)).mem = true := by
  unfold State.consume
  repeat' (first
    | with_reducible assumption | with_reducible (refine OutOk.next ?_) | with_reducible apply State.wakeHeld_wf
    | with_reducible apply State.dropPkt_wf)

theorem State.takeDelay_wf {a0} (h0 : memWf a0.mem = true) : memWf ((State.takeDelay a0).1).mem = true := by
  unfold State.takeDelay
  repeat' (first
    | with_reducible assumption | dsimp only | with_reducible (refine OutOk.next ?_) | split | with_reducible (intro _)
    | with_reducible (refine Ok_fst (by assumption) ?_))

theorem State.sendMem_wf {a0 a1 a2} (h0 : memWf a0.mem = true) : memWf ((State.sendMem a0 a1 a2)).mem = true := by
  unfold State.sendMem
  repeat' (first
    | with_reducible assumption | with_reducible (refine OutOk.next ?_) | with_reducible apply State.takeDelay_wf
    | with_reducible apply State.post_wf | with_reducible apply State.inject_wf)

theorem State.request_wf {a0 a1 a2} (h0 : memWf a0.mem = true) : memWf ((State.request a0 a1 a2)).mem = true := by
  unfold State.request
  repeat' (first
    | with_reducible assumption | with_reducible (refine OutOk.next ?_) | with_reducible apply State.await_wf
    | with_reducible apply State.sendMem_wf)

theorem withPhys_wf {a0 a1} (h0 : memWf a0.mem = true) (h1 : ∀ y0, memWf y0.mem = true → OutOk (a1 y0)) : OutOk (withPhys a0 a1) := by
  unfold withPhys
  repeat' (first
    | with_reducible assumption | dsimp only | with_reducible (refine OutOk.next ?_) | with_reducible apply h1
    | with_reducible apply trap_wf | split | with_reducible (intro _) | with_reducible (refine Ok_fst (by assumption) ?_))

theorem State.applyWrite_wf {a0 a1} (h0 : memWf a0.mem = true) : memWf ((State.applyWrite a0 a1)).mem = true := by
  unfold State.applyWrite
  repeat' (first
    | with_reducible assumption | dsimp only | with_reducible (refine OutOk.next ?_) | with_reducible apply State.post_wf
    | with_reducible apply State.writeHome_wf | with_reducible apply State.setFull_wf | split | with_reducible (intro _)
    | with_reducible (refine Ok_fst (by assumption) ?_))

theorem State.standBy_wf {a0 a1} (h0 : memWf a0.mem = true) : memWf ((State.standBy a0 a1)).mem = true := by
  unfold State.standBy
  repeat' (first | with_reducible assumption | with_reducible (refine OutOk.next ?_) | with_reducible apply State.setPkt_wf)

theorem State.applyAtomic_wf {a0 a1} (h0 : memWf a0.mem = true) : memWf ((State.applyAtomic a0 a1).1).mem = true := by
  unfold State.applyAtomic
  repeat' (first
    | with_reducible assumption | dsimp only | with_reducible (refine OutOk.next ?_) | with_reducible apply State.writeHome_wf
    | with_reducible apply State.countAtomic_wf | split | with_reducible (intro _)
    | with_reducible (refine Ok_fst (by assumption) ?_))

theorem State.commitWrite_wf {a0 a1 a2 a3 a4 a5} (h0 : memWf a0.mem = true) : memWf ((State.commitWrite a0 a1 a2 a3 a4 a5)).mem = true := by
  unfold State.commitWrite
  split
  · exact State.regStore_wf h0
  · extract_lets rel q s p p'
    have h : memWf s.mem = true := State.takeSeq_wf h0
    clear_value s p'
    split
    · exact State.applyWrite_wf h
    · exact State.sendMem_wf h

theorem State.logRefused_wf {a0 a1 a2 a3 a4} (h0 : memWf a0.mem = true) : memWf ((State.logRefused a0 a1 a2 a3 a4)).mem = true := by
  unfold State.logRefused
  repeat' (first
    | with_reducible assumption | dsimp only | with_reducible (refine OutOk.next ?_) | with_reducible apply State.logAccess_wf
    | split | with_reducible (intro _) | with_reducible (refine Ok_fst (by assumption) ?_))

theorem State.takeSpawnSeq_wf {a0 a1 a2} (h0 : memWf a0.mem = true) : memWf ((State.takeSpawnSeq a0 a1 a2).1).mem = true := by
  unfold State.takeSpawnSeq
  repeat' (first | with_reducible assumption | with_reducible (refine OutOk.next ?_) | with_reducible apply State.setCoreAt_wf)

theorem State.pendTrap_wf {a0 a1 a2 a3 a4 a5} (h0 : memWf a0.mem = true) : memWf ((State.pendTrap a0 a1 a2 a3 a4 a5)).mem = true := by
  unfold State.pendTrap
  repeat' (first
    | with_reducible assumption | dsimp only | with_reducible (refine OutOk.next ?_) | with_reducible apply State.setCoreAt_wf
    | with_reducible apply State.writeWord_wf | split | with_reducible (intro _)
    | with_reducible (refine Ok_fst (by assumption) ?_))

theorem State.raiseOn_wf {a0 a1 a2} (h0 : memWf a0.mem = true) : memWf ((State.raiseOn a0 a1 a2)).mem = true := by
  unfold State.raiseOn
  repeat' (first
    | with_reducible assumption | dsimp only | with_reducible (refine OutOk.next ?_) | with_reducible apply State.holdTrap_wf
    | with_reducible apply State.pendTrap_wf | with_reducible apply State.setCoreAt_wf | split | with_reducible (intro _)
    | with_reducible (refine Ok_fst (by assumption) ?_))

theorem State.engWrite_wf {a0 a1 a2 a3 a4 a5 a6 a7} (h0 : memWf a0.mem = true) : memWf ((State.engWrite a0 a1 a2 a3 a4 a5 a6 a7)).mem = true := by
  unfold State.engWrite
  repeat' (first
    | with_reducible assumption | with_reducible (refine OutOk.next ?_) | with_reducible apply State.takeSeq_wf
    | with_reducible apply State.setFullRange_wf | with_reducible apply State.writeHome_wf)

theorem State.wakeUp_wf {a0 a1 a2 a3 a4 a5 a6 a7 a8 a9} (h0 : memWf a0.mem = true) : memWf ((State.wakeUp a0 a1 a2 a3 a4 a5 a6 a7 a8 a9)).mem = true := by
  unfold State.wakeUp
  repeat' (first
    | with_reducible assumption | with_reducible (refine OutOk.next ?_) | with_reducible apply State.post_wf
    | with_reducible apply State.inject_wf)

theorem State.engRes_wf {a0 a1 a2 a3 a4 a5} (h0 : memWf a0.mem = true) : memWf ((State.engRes a0 a1 a2 a3 a4 a5).1).mem = true := by
  unfold State.engRes
  repeat' (first
    | with_reducible assumption | dsimp only | with_reducible (refine OutOk.next ?_) | with_reducible apply State.resolve_wf
    | with_reducible apply State.logBad_wf | with_reducible apply State.logRefused_wf | split | with_reducible (intro _)
    | with_reducible (refine Ok_fst (by assumption) ?_))

theorem State.chargeEngine_wf {a0 a1 a2 a3 a4} (h0 : memWf a0.mem = true) : memWf ((State.chargeEngine a0 a1 a2 a3 a4)).mem = true := by
  unfold State.chargeEngine
  repeat' (first
    | with_reducible assumption | dsimp only | with_reducible (refine OutOk.next ?_) | with_reducible apply State.setTileAt_wf
    | with_reducible apply State.post_wf | split | with_reducible (intro _) | with_reducible (refine Ok_fst (by assumption) ?_))

theorem State.engFetch_wf {a0 a1 a2 a3 a4} (h0 : memWf a0.mem = true) : memWf ((State.engFetch a0 a1 a2 a3 a4).1).mem = true := by
  induction a4 generalizing a0 a1 a2 a3 with
  | nil =>
    unfold State.engFetch
    repeat' (first | with_reducible assumption | with_reducible (refine OutOk.next ?_) | with_reducible apply State.engRes_wf)
  | cons x l ih =>
    unfold State.engFetch
    repeat' (first | with_reducible apply ih | with_reducible assumption | with_reducible (refine OutOk.next ?_) | with_reducible apply State.engRes_wf)

theorem State.walkRes_wf {a0 a1 a2 a3 a4 a5} (h0 : memWf a0.mem = true) : memWf ((State.walkRes a0 a1 a2 a3 a4 a5).1).mem = true := by
  unfold State.walkRes
  repeat' (first
    | with_reducible assumption | dsimp only | with_reducible (refine OutOk.next ?_) | with_reducible apply State.engRes_wf
    | split | with_reducible (intro _) | with_reducible (refine Ok_fst (by assumption) ?_))

theorem State.walkValue_wf {a0 a1 a2 a3} (h0 : memWf a0.mem = true) : memWf ((State.walkValue a0 a1 a2 a3).1).mem = true := by
  unfold State.walkValue
  repeat' (first
    | with_reducible assumption | dsimp only | with_reducible (refine OutOk.next ?_) | with_reducible apply State.walkRes_wf
    | split | with_reducible (intro _) | with_reducible (refine Ok_fst (by assumption) ?_))

theorem cpReady_wf {a0 a1 a2} (h0 : memWf a0.mem = true) (h2 : ∀ y0, memWf y0.mem = true → OutOk (a2 y0)) : OutOk (cpReady a0 a1 a2) := by
  unfold cpReady
  repeat' (first
    | with_reducible assumption | dsimp only | with_reducible (refine OutOk.next ?_) | with_reducible apply h2
    | with_reducible apply park_wf | with_reducible apply State.post_wf | split | with_reducible (intro _)
    | with_reducible (refine Ok_fst (by assumption) ?_))

theorem State.putCword_wf {a0 a1 a2 a3} (h0 : memWf a0.mem = true) : memWf ((State.putCword a0 a1 a2 a3).1).mem = true := by
  unfold State.putCword
  repeat' (first
    | with_reducible assumption | dsimp only | with_reducible (refine OutOk.next ?_) | with_reducible apply State.walkRes_wf
    | with_reducible apply State.engWrite_wf | split | with_reducible (intro _)
    | with_reducible (refine Ok_fst (by assumption) ?_))

theorem State.setCp_wf {a0 a1 a2} (h0 : memWf a0.mem = true) : memWf ((State.setCp a0 a1 a2)).mem = true := by
  unfold State.setCp
  repeat' (first | with_reducible assumption | with_reducible (refine OutOk.next ?_) | with_reducible apply State.setTileAt_wf)

theorem State.setJob_wf {a0 a1 a2} (h0 : memWf a0.mem = true) : memWf ((State.setJob a0 a1 a2)).mem = true := by
  unfold State.setJob
  repeat' (first | with_reducible assumption | with_reducible (refine OutOk.next ?_) | with_reducible apply State.setCp_wf)

theorem State.cpErr_wf {a0 a1 a2 a3} (h0 : memWf a0.mem = true) : memWf ((State.cpErr a0 a1 a2 a3)).mem = true := by
  unfold State.cpErr
  repeat' (first
    | with_reducible assumption | dsimp only | with_reducible (refine OutOk.next ?_) | with_reducible apply State.setCp_wf
    | split | with_reducible (intro _) | with_reducible (refine Ok_fst (by assumption) ?_))

theorem State.kickCp_wf {a0 a1} (h0 : memWf a0.mem = true) : memWf ((State.kickCp a0 a1)).mem = true := by
  unfold State.kickCp
  repeat' (first | with_reducible assumption | with_reducible (refine OutOk.next ?_) | with_reducible apply State.post_wf)

theorem execCopyJobComplete_wf {a0} (h0 : memWf a0.mem = true) : OutOk (execCopyJobComplete a0) := by
  unfold execCopyJobComplete
  repeat' (first
    | with_reducible assumption | dsimp only | with_reducible (refine OutOk.next ?_) | with_reducible apply State.putCword_wf
    | with_reducible apply State.post_wf | with_reducible apply State.raiseOn_wf | with_reducible apply State.setJob_wf
    | with_reducible apply State.cpErr_wf | with_reducible apply State.wakeUp_wf | with_reducible apply State.kickCp_wf
    | with_reducible apply State.setCp_wf | split | with_reducible (intro _) | with_reducible (refine Ok_fst (by assumption) ?_))

theorem execCgo_wf {a0 a1} (h1 : memWf a1.mem = true) : OutOk (execCgo a0 a1) := by
  unfold execCgo
  repeat' (first
    | with_reducible assumption | dsimp only | with_reducible (refine OutOk.next ?_) | with_reducible apply cpReady_wf
    | with_reducible apply State.waitIssue_wf | with_reducible apply trap_wf | with_reducible apply writeG_wf
    | with_reducible apply State.kickCp_wf | with_reducible apply State.setCp_wf | split | with_reducible (intro _)
    | with_reducible (refine Ok_fst (by assumption) ?_))

theorem execCset_wf {a0 a1 a2} (h2 : memWf a2.mem = true) : OutOk (execCset a0 a1 a2) := by
  unfold execCset
  repeat' (first
    | with_reducible assumption | dsimp only | with_reducible (refine OutOk.next ?_) | with_reducible apply cpReady_wf
    | with_reducible apply illegal_wf | with_reducible apply done_wf | with_reducible apply State.setCp_wf | split
    | with_reducible (intro _) | with_reducible (refine Ok_fst (by assumption) ?_))

theorem State.walkWrite_wf {a0 a1 a2 a3 a4 a5 a6} (h0 : memWf a0.mem = true) : memWf ((State.walkWrite a0 a1 a2 a3 a4 a5 a6)).mem = true := by
  unfold State.walkWrite
  repeat' (first
    | with_reducible assumption | with_reducible (refine OutOk.next ?_) | with_reducible apply State.takeSeq_wf
    | with_reducible apply State.setFullRange_wf | with_reducible apply State.writeHome_wf)

theorem State.walkOne_wf {a0 a1 a2 a3} (h0 : memWf a0.mem = true) : memWf ((State.walkOne a0 a1 a2 a3).1).mem = true := by
  unfold State.walkOne
  repeat' (first
    | with_reducible assumption | dsimp only | with_reducible (refine OutOk.next ?_) | with_reducible apply State.walkValue_wf
    | with_reducible apply State.walkRes_wf | with_reducible apply State.walkWrite_wf | split | with_reducible (intro _)
    | with_reducible (refine Ok_fst (by assumption) ?_))

theorem State.walkElems_wf {a0 a1 a2 a3 a4} (h0 : memWf a0.mem = true) : memWf ((State.walkElems a0 a1 a2 a3 a4).1).mem = true := by
  induction a3 generalizing a0 a1 a2 a4 with
  | zero =>
    unfold State.walkElems
    repeat' (first
      | with_reducible assumption | dsimp only | with_reducible (refine OutOk.next ?_) | with_reducible apply State.walkOne_wf
      | split | with_reducible (intro _) | with_reducible (refine Ok_fst (by assumption) ?_))
  | succ n ih =>
    unfold State.walkElems
    repeat' (first
      | with_reducible apply ih | with_reducible assumption | dsimp only | with_reducible (refine OutOk.next ?_) | with_reducible apply State.walkOne_wf
      | split | with_reducible (intro _) | with_reducible (refine Ok_fst (by assumption) ?_))

theorem State.cpError_wf {a0 a1 a2 a3 a4} (h0 : memWf a0.mem = true) : memWf ((State.cpError a0 a1 a2 a3 a4)).mem = true := by
  unfold State.cpError
  repeat' (first
    | with_reducible assumption | dsimp only | with_reducible (refine OutOk.next ?_) | with_reducible apply State.setCp_wf
    | with_reducible apply State.setJob_wf | with_reducible apply State.post_wf | with_reducible apply State.raiseOn_wf | split
    | with_reducible (intro _) | with_reducible (refine Ok_fst (by assumption) ?_))

theorem State.runJob_wf {a0 a1 a2} (h0 : memWf a0.mem = true) : memWf ((State.runJob a0 a1 a2)).mem = true := by
  unfold State.runJob
  repeat' (first
    | with_reducible assumption | dsimp only | with_reducible (refine OutOk.next ?_) | with_reducible apply State.walkElems_wf
    | with_reducible apply State.setTileAt_wf | with_reducible apply State.chargeEngine_wf | with_reducible apply State.setJob_wf
    | with_reducible apply State.post_wf | with_reducible apply State.cpError_wf | split | with_reducible (intro _)
    | with_reducible (refine Ok_fst (by assumption) ?_))

theorem execCwait_wf {a0 a1 a2} (h2 : memWf a2.mem = true) : OutOk (execCwait a0 a1 a2) := by
  unfold execCwait
  repeat' (first
    | with_reducible assumption | dsimp only | with_reducible (refine OutOk.next ?_) | with_reducible apply cpReady_wf
    | with_reducible apply park_wf | with_reducible apply writeG_wf | with_reducible apply State.setCp_wf | split
    | with_reducible (intro _) | with_reducible (refine Ok_fst (by assumption) ?_))

theorem execCopyJobStart_wf {a0} (h0 : memWf a0.mem = true) : OutOk (execCopyJobStart a0) := by
  unfold execCopyJobStart
  repeat' (first
    | with_reducible assumption | dsimp only | with_reducible (refine OutOk.next ?_) | with_reducible apply State.runJob_wf
    | split | with_reducible (intro _) | with_reducible (refine Ok_fst (by assumption) ?_))

theorem execCopyCancelStop_wf {a0} (h0 : memWf a0.mem = true) : OutOk (execCopyCancelStop a0) := by
  unfold execCopyCancelStop
  repeat' (first
    | with_reducible assumption | dsimp only | with_reducible (refine OutOk.next ?_) | with_reducible apply State.post_wf
    | with_reducible apply State.setJob_wf | split | with_reducible (intro _) | with_reducible (refine Ok_fst (by assumption) ?_))

theorem execCpoll_wf {a0 a1 a2} (h2 : memWf a2.mem = true) : OutOk (execCpoll a0 a1 a2) := by
  unfold execCpoll
  repeat' (first
    | with_reducible assumption | dsimp only | with_reducible (refine OutOk.next ?_) | with_reducible apply cpReady_wf
    | with_reducible apply illegal_wf | with_reducible apply writeG_wf | split | with_reducible (intro _)
    | with_reducible (refine Ok_fst (by assumption) ?_))

theorem execCcancel_wf {a0 a1 a2} (h2 : memWf a2.mem = true) : OutOk (execCcancel a0 a1 a2) := by
  unfold execCcancel
  repeat' (first
    | with_reducible assumption | dsimp only | with_reducible (refine OutOk.next ?_) | with_reducible apply cpReady_wf
    | with_reducible apply writeG_wf | with_reducible apply State.post_wf | with_reducible apply State.setJob_wf | split
    | with_reducible (intro _) | with_reducible (refine Ok_fst (by assumption) ?_))

theorem posted_wf {a0 a1 a2 a3 a4 a5} (h0 : memWf a0.mem = true) (h5 : ∀ y0 y1, memWf y0.mem = true → OutOk (a5 y0 y1)) : OutOk (posted a0 a1 a2 a3 a4 a5) := by
  unfold posted
  repeat' (first
    | with_reducible assumption | dsimp only | with_reducible (refine OutOk.next ?_) | with_reducible apply h5
    | with_reducible apply withPhys_wf | with_reducible apply State.resolve_wf | with_reducible apply trap_wf
    | with_reducible apply State.logBad_wf | with_reducible apply done_wf | with_reducible apply State.postedError_wf
    | with_reducible apply State.logRefused_wf | with_reducible apply park_wf | split | with_reducible (intro _)
    | with_reducible (refine Ok_fst (by assumption) ?_))

theorem amoGo_wf {a0 a1 a2 a3 a4 a5 a6} (h5 : memWf a5.mem = true) : OutOk (amoGo a0 a1 a2 a3 a4 a5 a6) := by
  unfold amoGo
  repeat' (first
    | with_reducible assumption | dsimp only | with_reducible (refine OutOk.next ?_) | with_reducible apply State.takeSeq_wf
    | with_reducible apply State.applyAtomic_wf | with_reducible apply writeG_wf | with_reducible apply done_wf
    | with_reducible apply State.sendMem_wf | with_reducible apply State.finish_wf | with_reducible apply State.request_wf
    | split | with_reducible (intro _) | with_reducible (refine Ok_fst (by assumption) ?_))

theorem accessed_wf {a0 a1 a2 a3 a4 a5} (h0 : memWf a0.mem = true) (h5 : ∀ y0 y1, memWf y0.mem = true → OutOk (a5 y0 y1)) : OutOk (accessed a0 a1 a2 a3 a4 a5) := by
  unfold accessed
  repeat' (first
    | with_reducible assumption | dsimp only | with_reducible (refine OutOk.next ?_) | with_reducible apply h5
    | with_reducible apply withPhys_wf | with_reducible apply State.resolve_wf | with_reducible apply trap_wf
    | with_reducible apply State.logBad_wf | with_reducible apply State.logRefused_wf | with_reducible apply park_wf | split
    | with_reducible (intro _) | with_reducible (refine Ok_fst (by assumption) ?_))

theorem amoOp_wf {a0 a1 a2 a3 a4 a5 a6} (h6 : memWf a6.mem = true) : OutOk (amoOp a0 a1 a2 a3 a4 a5 a6) := by
  unfold amoOp
  repeat' (first
    | with_reducible assumption | dsimp only | with_reducible (refine OutOk.next ?_) | with_reducible apply posted_wf
    | with_reducible apply amoGo_wf | with_reducible apply accessed_wf | split | with_reducible (intro _)
    | with_reducible (refine Ok_fst (by assumption) ?_))

theorem execAmomin_wf {a0 a1 a2 a3 a4} (h4 : memWf a4.mem = true) : OutOk (execAmomin a0 a1 a2 a3 a4) := by
  unfold execAmomin
  repeat' (first | with_reducible assumption | with_reducible (refine OutOk.next ?_) | with_reducible apply amoOp_wf)

theorem readTo_wf {a0 a1 a2 a3 a4 a5} (h0 : memWf a0.mem = true) : OutOk (readTo a0 a1 a2 a3 a4 a5) := by
  unfold readTo
  repeat' (first
    | with_reducible assumption | dsimp only | with_reducible (refine OutOk.next ?_) | with_reducible apply State.takeSeq_wf
    | with_reducible apply State.readNow_wf | with_reducible apply writeG_wf | with_reducible apply State.finish_wf
    | with_reducible apply State.request_wf | split | with_reducible (intro _)
    | with_reducible (refine Ok_fst (by assumption) ?_))

theorem loadOp_wf {a0 a1 a2 a3 a4 a5} (h5 : memWf a5.mem = true) : OutOk (loadOp a0 a1 a2 a3 a4 a5) := by
  unfold loadOp
  repeat' (first
    | with_reducible assumption | dsimp only | with_reducible (refine OutOk.next ?_) | with_reducible apply accessed_wf
    | with_reducible apply readTo_wf | split | with_reducible (intro _) | with_reducible (refine Ok_fst (by assumption) ?_))

theorem execLdL_wf {a0 a1 a2 a3 a4 a5} (h5 : memWf a5.mem = true) : OutOk (execLdL a0 a1 a2 a3 a4 a5) := by
  unfold execLdL
  repeat' (first | with_reducible assumption | with_reducible (refine OutOk.next ?_) | with_reducible apply loadOp_wf)

theorem execLhu_wf {a0 a1 a2 a3 a4 a5} (h5 : memWf a5.mem = true) : OutOk (execLhu a0 a1 a2 a3 a4 a5) := by
  unfold execLhu
  repeat' (first | with_reducible assumption | with_reducible (refine OutOk.next ?_) | with_reducible apply loadOp_wf)

theorem storeOp_wf {a0 a1 a2 a3 a4} (h4 : memWf a4.mem = true) : OutOk (storeOp a0 a1 a2 a3 a4) := by
  unfold storeOp
  repeat' (first
    | with_reducible assumption | dsimp only | with_reducible (refine OutOk.next ?_) | with_reducible apply posted_wf
    | with_reducible apply done_wf | with_reducible apply State.commitWrite_wf | with_reducible apply withFlags_wf | split
    | with_reducible (intro _) | with_reducible (refine Ok_fst (by assumption) ?_))

theorem execShL_wf {a0 a1 a2 a3 a4 a5} (h5 : memWf a5.mem = true) : OutOk (execShL a0 a1 a2 a3 a4 a5) := by
  unfold execShL
  repeat' (first | with_reducible assumption | with_reducible (refine OutOk.next ?_) | with_reducible apply storeOp_wf)

theorem execAmominu_wf {a0 a1 a2 a3 a4} (h4 : memWf a4.mem = true) : OutOk (execAmominu a0 a1 a2 a3 a4) := by
  unfold execAmominu
  repeat' (first | with_reducible assumption | with_reducible (refine OutOk.next ?_) | with_reducible apply amoOp_wf)

theorem execLh_wf {a0 a1 a2 a3} (h3 : memWf a3.mem = true) : OutOk (execLh a0 a1 a2 a3) := by
  unfold execLh
  repeat' (first | with_reducible assumption | with_reducible (refine OutOk.next ?_) | with_reducible apply loadOp_wf)

theorem execAmoor_wf {a0 a1 a2 a3 a4} (h4 : memWf a4.mem = true) : OutOk (execAmoor a0 a1 a2 a3 a4) := by
  unfold execAmoor
  repeat' (first | with_reducible assumption | with_reducible (refine OutOk.next ?_) | with_reducible apply amoOp_wf)

theorem execPf_wf {a0 a1 a2 a3} (h3 : memWf a3.mem = true) : OutOk (execPf a0 a1 a2 a3) := by
  unfold execPf
  repeat' (first
    | with_reducible assumption | dsimp only | with_reducible (refine OutOk.next ?_) | with_reducible apply done_wf
    | with_reducible apply State.translateAt_wf | with_reducible apply State.setRegion_wf | with_reducible apply State.post_wf
    | split | with_reducible (intro _) | with_reducible (refine Ok_fst (by assumption) ?_))

theorem execLwL_wf {a0 a1 a2 a3 a4 a5} (h5 : memWf a5.mem = true) : OutOk (execLwL a0 a1 a2 a3 a4 a5) := by
  unfold execLwL
  repeat' (first | with_reducible assumption | with_reducible (refine OutOk.next ?_) | with_reducible apply loadOp_wf)

theorem execLbL_wf {a0 a1 a2 a3 a4 a5} (h5 : memWf a5.mem = true) : OutOk (execLbL a0 a1 a2 a3 a4 a5) := by
  unfold execLbL
  repeat' (first | with_reducible assumption | with_reducible (refine OutOk.next ?_) | with_reducible apply loadOp_wf)

theorem execAmomax_wf {a0 a1 a2 a3 a4} (h4 : memWf a4.mem = true) : OutOk (execAmomax a0 a1 a2 a3 a4) := by
  unfold execAmomax
  repeat' (first | with_reducible assumption | with_reducible (refine OutOk.next ?_) | with_reducible apply amoOp_wf)

theorem execAmoadd_wf {a0 a1 a2 a3 a4} (h4 : memWf a4.mem = true) : OutOk (execAmoadd a0 a1 a2 a3 a4) := by
  unfold execAmoadd
  repeat' (first | with_reducible assumption | with_reducible (refine OutOk.next ?_) | with_reducible apply amoOp_wf)

theorem execFence_wf {a0} (h0 : memWf a0.mem = true) : OutOk (execFence a0) := by
  unfold execFence
  repeat' (first
    | with_reducible assumption | dsimp only | with_reducible (refine OutOk.next ?_) | with_reducible apply park_wf
    | with_reducible apply done_wf | split | with_reducible (intro _) | with_reducible (refine Ok_fst (by assumption) ?_))

theorem execLb_wf {a0 a1 a2 a3} (h3 : memWf a3.mem = true) : OutOk (execLb a0 a1 a2 a3) := by
  unfold execLb
  repeat' (first | with_reducible assumption | with_reducible (refine OutOk.next ?_) | with_reducible apply loadOp_wf)

theorem execSh_wf {a0 a1 a2 a3} (h3 : memWf a3.mem = true) : OutOk (execSh a0 a1 a2 a3) := by
  unfold execSh
  repeat' (first | with_reducible assumption | with_reducible (refine OutOk.next ?_) | with_reducible apply storeOp_wf)

theorem execSb_wf {a0 a1 a2 a3} (h3 : memWf a3.mem = true) : OutOk (execSb a0 a1 a2 a3) := by
  unfold execSb
  repeat' (first | with_reducible assumption | with_reducible (refine OutOk.next ?_) | with_reducible apply storeOp_wf)

theorem execAmoxor_wf {a0 a1 a2 a3 a4} (h4 : memWf a4.mem = true) : OutOk (execAmoxor a0 a1 a2 a3 a4) := by
  unfold execAmoxor
  repeat' (first | with_reducible assumption | with_reducible (refine OutOk.next ?_) | with_reducible apply amoOp_wf)

theorem execAmoand_wf {a0 a1 a2 a3 a4} (h4 : memWf a4.mem = true) : OutOk (execAmoand a0 a1 a2 a3 a4) := by
  unfold execAmoand
  repeat' (first | with_reducible assumption | with_reducible (refine OutOk.next ?_) | with_reducible apply amoOp_wf)

theorem execLd_wf {a0 a1 a2 a3} (h3 : memWf a3.mem = true) : OutOk (execLd a0 a1 a2 a3) := by
  unfold execLd
  repeat' (first | with_reducible assumption | with_reducible (refine OutOk.next ?_) | with_reducible apply loadOp_wf)

theorem execPfwait_wf {a0 a1 a2 a3 a4} (h4 : memWf a4.mem = true) : OutOk (execPfwait a0 a1 a2 a3 a4) := by
  unfold execPfwait
  extract_lets ea
  split
  · exact trap_wf h4
  · exact trap_wf h4
  · exact writeG_wf h4
  · generalize a4.roleRes a4.me ea (.scalar 1) = r
    cases r with
    | bad c v => exact Ok_ite (writeG_wf h4) (trap_wf h4)
    | hold => exact park_wf h4
    | ok l => exact writeG_wf h4
    | err c v => exact writeG_wf h4
  · have h := State.translateAt_wf (a1 := a4.coreNo) (a2 := a4.ctx.region) (a3 := a4.ctx.priv) (a4 := ea.toNat) (a5 := .read) h4
    generalize a4.translateAt a4.coreNo a4.ctx.region a4.ctx.priv ea.toNat .read = p at h ⊢
    obtain ⟨s, r⟩ := p
    cases r with
    | bad c => exact trap_wf h
    | moving =>
      dsimp only
      split
      · exact writeG_wf h
      · exact park_wf h
    | ok pa m =>
      dsimp only
      split
      · exact writeG_wf h
      · exact park_wf h

theorem execLbu_wf {a0 a1 a2 a3 a4 a5} (h5 : memWf a5.mem = true) : OutOk (execLbu a0 a1 a2 a3 a4 a5) := by
  unfold execLbu
  repeat' (first | with_reducible assumption | with_reducible (refine OutOk.next ?_) | with_reducible apply loadOp_wf)

theorem execAmocas_wf {a0 a1 a2 a3 a4} (h4 : memWf a4.mem = true) : OutOk (execAmocas a0 a1 a2 a3 a4) := by
  unfold execAmocas
  repeat' (first | with_reducible assumption | with_reducible (refine OutOk.next ?_) | with_reducible apply amoOp_wf)

theorem execLwu_wf {a0 a1 a2 a3 a4 a5} (h5 : memWf a5.mem = true) : OutOk (execLwu a0 a1 a2 a3 a4 a5) := by
  unfold execLwu
  repeat' (first | with_reducible assumption | with_reducible (refine OutOk.next ?_) | with_reducible apply loadOp_wf)

theorem execAmofadd_wf {a0 a1 a2 a3 a4} (h4 : memWf a4.mem = true) : OutOk (execAmofadd a0 a1 a2 a3 a4) := by
  unfold execAmofadd
  repeat' (first | with_reducible assumption | with_reducible (refine OutOk.next ?_) | with_reducible apply amoOp_wf)

theorem execAmomaxu_wf {a0 a1 a2 a3 a4} (h4 : memWf a4.mem = true) : OutOk (execAmomaxu a0 a1 a2 a3 a4) := by
  unfold execAmomaxu
  repeat' (first | with_reducible assumption | with_reducible (refine OutOk.next ?_) | with_reducible apply amoOp_wf)

theorem execSbL_wf {a0 a1 a2 a3 a4 a5} (h5 : memWf a5.mem = true) : OutOk (execSbL a0 a1 a2 a3 a4 a5) := by
  unfold execSbL
  repeat' (first | with_reducible assumption | with_reducible (refine OutOk.next ?_) | with_reducible apply storeOp_wf)

theorem execSdL_wf {a0 a1 a2 a3 a4 a5} (h5 : memWf a5.mem = true) : OutOk (execSdL a0 a1 a2 a3 a4 a5) := by
  unfold execSdL
  repeat' (first | with_reducible assumption | with_reducible (refine OutOk.next ?_) | with_reducible apply storeOp_wf)

end Sys2Proof.Machine
end

