-- ==== Sys2Proof/Laws/KeepMemory2.lean ====
section
/-! SUPPORT. Every operation and every meaning keeps the canonical form of memory, and every meaning answers a next state; part 2. -/

namespace Sys2Proof.Machine

theorem execAmoswap_wf {a0 a1 a2 a3 a4} (h4 : memWf a4.mem = true) : OutOk (execAmoswap a0 a1 a2 a3 a4) := by
  unfold execAmoswap
  repeat' (first | with_reducible assumption | with_reducible (refine OutOk.next ?_) | with_reducible apply amoOp_wf)

theorem feLoad_wf {a0 a1 a2 a3 a4} (h4 : memWf a4.mem = true) : OutOk (feLoad a0 a1 a2 a3 a4) := by
  unfold feLoad
  repeat' (first
    | with_reducible assumption | dsimp only | with_reducible (refine OutOk.next ?_) | with_reducible apply accessed_wf
    | with_reducible apply park_wf | with_reducible apply writeG_wf | with_reducible apply State.setFull_wf | split
    | with_reducible (intro _) | with_reducible (refine Ok_fst (by assumption) ?_))

theorem execLw_wf {a0 a1 a2 a3} (h3 : memWf a3.mem = true) : OutOk (execLw a0 a1 a2 a3) := by
  unfold execLw
  repeat' (first | with_reducible assumption | with_reducible (refine OutOk.next ?_) | with_reducible apply loadOp_wf)

theorem execSd_wf {a0 a1 a2 a3} (h3 : memWf a3.mem = true) : OutOk (execSd a0 a1 a2 a3) := by
  unfold execSd
  repeat' (first | with_reducible assumption | with_reducible (refine OutOk.next ?_) | with_reducible apply storeOp_wf)

theorem execCinv_wf {a0} (h0 : memWf a0.mem = true) : OutOk (execCinv a0) := by
  unfold execCinv
  repeat' (first
    | with_reducible assumption | with_reducible (refine OutOk.next ?_) | with_reducible apply done_wf
    | with_reducible apply State.setCore_wf)

theorem execStf_wf {a0 a1 a2 a3 a4} (h4 : memWf a4.mem = true) : OutOk (execStf a0 a1 a2 a3 a4) := by
  unfold execStf
  repeat' (first
    | with_reducible assumption | dsimp only | with_reducible (refine OutOk.next ?_) | with_reducible apply posted_wf
    | with_reducible apply done_wf | with_reducible apply State.commitWrite_wf | split | with_reducible (intro _)
    | with_reducible (refine Ok_fst (by assumption) ?_))

theorem execLdf_wf {a0 a1 a2 a3 a4} (h4 : memWf a4.mem = true) : OutOk (execLdf a0 a1 a2 a3 a4) := by
  unfold execLdf
  repeat' (first | with_reducible assumption | with_reducible (refine OutOk.next ?_) | with_reducible apply feLoad_wf)

theorem execLhL_wf {a0 a1 a2 a3 a4 a5} (h5 : memWf a5.mem = true) : OutOk (execLhL a0 a1 a2 a3 a4 a5) := by
  unfold execLhL
  repeat' (first | with_reducible assumption | with_reducible (refine OutOk.next ?_) | with_reducible apply loadOp_wf)

theorem execSwL_wf {a0 a1 a2 a3 a4 a5} (h5 : memWf a5.mem = true) : OutOk (execSwL a0 a1 a2 a3 a4 a5) := by
  unfold execSwL
  repeat' (first | with_reducible assumption | with_reducible (refine OutOk.next ?_) | with_reducible apply storeOp_wf)

theorem execLdfe_wf {a0 a1 a2 a3 a4} (h4 : memWf a4.mem = true) : OutOk (execLdfe a0 a1 a2 a3 a4) := by
  unfold execLdfe
  repeat' (first | with_reducible assumption | with_reducible (refine OutOk.next ?_) | with_reducible apply feLoad_wf)

theorem execSw_wf {a0 a1 a2 a3} (h3 : memWf a3.mem = true) : OutOk (execSw a0 a1 a2 a3) := by
  unfold execSw
  repeat' (first | with_reducible assumption | with_reducible (refine OutOk.next ?_) | with_reducible apply storeOp_wf)

theorem tileRelease_wf {a0 a1 a2} (h0 : memWf a0.mem = true) (h2 : OutOk a2) : OutOk (tileRelease a0 a1 a2) := by
  unfold tileRelease
  repeat' (first
    | with_reducible assumption | dsimp only | with_reducible (refine OutOk.next ?_) | with_reducible apply park_wf | split
    | with_reducible (intro _) | with_reducible (refine Ok_fst (by assumption) ?_))

theorem withHandle_wf {a0 a1 a2} (h0 : memWf a0.mem = true) (h2 : ∀ y0, OutOk (a2 y0)) : OutOk (withHandle a0 a1 a2) := by
  unfold withHandle
  repeat' (first
    | with_reducible assumption | dsimp only | with_reducible (refine OutOk.next ?_) | with_reducible apply h2
    | with_reducible apply trap_wf | split | with_reducible (intro _) | with_reducible (refine Ok_fst (by assumption) ?_))

theorem withBuf_wf {a0 a1 a2} (h0 : memWf a0.mem = true) (h2 : ∀ y0 y1, OutOk (a2 y0 y1)) : OutOk (withBuf a0 a1 a2) := by
  unfold withBuf
  repeat' (first
    | with_reducible assumption | dsimp only | with_reducible (refine OutOk.next ?_) | with_reducible apply h2
    | with_reducible apply withHandle_wf | with_reducible apply trap_wf | split | with_reducible (intro _)
    | with_reducible (refine Ok_fst (by assumption) ?_))

theorem State.setBuf_wf {a0 a1 a2} (h0 : memWf a0.mem = true) : memWf ((State.setBuf a0 a1 a2)).mem = true := by
  unfold State.setBuf
  repeat' (first | with_reducible assumption | with_reducible (refine OutOk.next ?_) | with_reducible apply State.setMyTabs_wf)

theorem execBtake_wf {a0 a1 a2} (h2 : memWf a2.mem = true) : OutOk (execBtake a0 a1 a2) := by
  unfold execBtake
  repeat' (first
    | with_reducible assumption | dsimp only | with_reducible (refine OutOk.next ?_) | with_reducible apply withBuf_wf
    | with_reducible apply trap_wf | with_reducible apply park_wf | with_reducible apply writeG_wf
    | with_reducible apply State.setBuf_wf | split | with_reducible (intro _) | with_reducible (refine Ok_fst (by assumption) ?_))

theorem withHeld_wf {a0 a1 a2} (h0 : memWf a0.mem = true) (h2 : ∀ y0 y1, OutOk (a2 y0 y1)) : OutOk (withHeld a0 a1 a2) := by
  unfold withHeld
  repeat' (first
    | with_reducible assumption | dsimp only | with_reducible (refine OutOk.next ?_) | with_reducible apply h2
    | with_reducible apply withBuf_wf | with_reducible apply trap_wf | split | with_reducible (intro _)
    | with_reducible (refine Ok_fst (by assumption) ?_))

theorem execBmarkState_wf {a0 a1 a2} (h2 : memWf a2.mem = true) : OutOk (execBmarkState a0 a1 a2) := by
  unfold execBmarkState
  repeat' (first
    | with_reducible assumption | dsimp only | with_reducible (refine OutOk.next ?_) | with_reducible apply withHeld_wf
    | with_reducible apply trap_wf | with_reducible apply done_wf | with_reducible apply State.setBuf_wf
    | with_reducible apply tileRelease_wf | split | with_reducible (intro _) | with_reducible (refine Ok_fst (by assumption) ?_))

theorem withRing_wf {a0 a1 a2 a3} (h0 : memWf a0.mem = true) (h3 : ∀ y0 y1 y2, OutOk (a3 y0 y1 y2)) : OutOk (withRing a0 a1 a2 a3) := by
  unfold withRing
  repeat' (first
    | with_reducible assumption | dsimp only | with_reducible (refine OutOk.next ?_) | with_reducible apply h3
    | with_reducible apply trap_wf | split | with_reducible (intro _) | with_reducible (refine Ok_fst (by assumption) ?_))

theorem execBwaitRing_wf {a0 a1 a2 a3 a4} (h4 : memWf a4.mem = true) : OutOk (execBwaitRing a0 a1 a2 a3 a4) := by
  unfold execBwaitRing
  repeat' (first
    | with_reducible assumption | dsimp only | with_reducible (refine OutOk.next ?_) | with_reducible apply withRing_wf
    | with_reducible apply writeG_wf | with_reducible apply park_wf | split | with_reducible (intro _)
    | with_reducible (refine Ok_fst (by assumption) ?_))

theorem execBstate_wf {a0 a1 a2} (h2 : memWf a2.mem = true) : OutOk (execBstate a0 a1 a2) := by
  unfold execBstate
  repeat' (first
    | with_reducible assumption | dsimp only | with_reducible (refine OutOk.next ?_) | with_reducible apply withHandle_wf
    | with_reducible apply writeG_wf | split | with_reducible (intro _) | with_reducible (refine Ok_fst (by assumption) ?_))

theorem execBmarkRetain_wf {a0 a1 a2} (h2 : memWf a2.mem = true) : OutOk (execBmarkRetain a0 a1 a2) := by
  unfold execBmarkRetain
  repeat' (first
    | with_reducible assumption | dsimp only | with_reducible (refine OutOk.next ?_) | with_reducible apply withHeld_wf
    | with_reducible apply done_wf | with_reducible apply State.setBuf_wf | split | with_reducible (intro _)
    | with_reducible (refine Ok_fst (by assumption) ?_))

theorem execBgive_wf {a0 a1 a2} (h2 : memWf a2.mem = true) : OutOk (execBgive a0 a1 a2) := by
  unfold execBgive
  repeat' (first
    | with_reducible assumption | dsimp only | with_reducible (refine OutOk.next ?_) | with_reducible apply withHeld_wf
    | with_reducible apply trap_wf | with_reducible apply tileRelease_wf | with_reducible apply done_wf
    | with_reducible apply State.setBuf_wf | split | with_reducible (intro _) | with_reducible (refine Ok_fst (by assumption) ?_))

theorem execBwaitBuffer_wf {a0 a1 a2 a3} (h3 : memWf a3.mem = true) : OutOk (execBwaitBuffer a0 a1 a2 a3) := by
  unfold execBwaitBuffer
  repeat' (first
    | with_reducible assumption | dsimp only | with_reducible (refine OutOk.next ?_) | with_reducible apply withBuf_wf
    | with_reducible apply writeG_wf | with_reducible apply park_wf | split | with_reducible (intro _)
    | with_reducible (refine Ok_fst (by assumption) ?_))

theorem execBmarkFree_wf {a0 a1 a2} (h2 : memWf a2.mem = true) : OutOk (execBmarkFree a0 a1 a2) := by
  unfold execBmarkFree
  repeat' (first
    | with_reducible assumption | dsimp only | with_reducible (refine OutOk.next ?_) | with_reducible apply withHeld_wf
    | with_reducible apply trap_wf | with_reducible apply done_wf | with_reducible apply State.setMyTabs_wf | split
    | with_reducible (intro _) | with_reducible (refine Ok_fst (by assumption) ?_))

theorem State.setRing_wf {a0 a1 a2} (h0 : memWf a0.mem = true) : memWf ((State.setRing a0 a1 a2)).mem = true := by
  unfold State.setRing
  repeat' (first | with_reducible assumption | with_reducible (refine OutOk.next ?_) | with_reducible apply State.setMyTabs_wf)

theorem execBmarkDefine_wf {a0 a1 a2} (h2 : memWf a2.mem = true) : OutOk (execBmarkDefine a0 a1 a2) := by
  unfold execBmarkDefine
  repeat' (first
    | with_reducible assumption | dsimp only | with_reducible (refine OutOk.next ?_) | with_reducible apply withHandle_wf
    | with_reducible apply trap_wf | with_reducible apply done_wf | with_reducible apply State.setBuf_wf | split
    | with_reducible (intro _) | with_reducible (refine Ok_fst (by assumption) ?_))

theorem execBring_wf {a0 a1 a2} (h2 : memWf a2.mem = true) : OutOk (execBring a0 a1 a2) := by
  unfold execBring
  repeat' (first
    | with_reducible assumption | dsimp only | with_reducible (refine OutOk.next ?_) | with_reducible apply trap_wf
    | with_reducible apply done_wf | with_reducible apply State.setRing_wf | with_reducible apply State.setMyTabs_wf | split
    | with_reducible (intro _) | with_reducible (refine Ok_fst (by assumption) ?_))

theorem execBadv_wf {a0 a1 a2 a3 a4} (h4 : memWf a4.mem = true) : OutOk (execBadv a0 a1 a2 a3 a4) := by
  unfold execBadv
  repeat' (first
    | with_reducible assumption | dsimp only | with_reducible (refine OutOk.next ?_) | with_reducible apply withRing_wf
    | with_reducible apply trap_wf | with_reducible apply State.setMyTabs_wf | with_reducible apply writeG_wf
    | with_reducible apply State.setRing_wf | with_reducible apply tileRelease_wf | split | with_reducible (intro _)
    | with_reducible (refine Ok_fst (by assumption) ?_))

theorem State.chargeTask_wf {a0 a1 a2 a3 a4} (h0 : memWf a0.mem = true) : memWf ((State.chargeTask a0 a1 a2 a3 a4)).mem = true := by
  unfold State.chargeTask
  repeat' (first
    | with_reducible assumption | dsimp only | with_reducible (refine OutOk.next ?_) | with_reducible apply State.setCoreAt_wf
    | with_reducible apply State.setTileAt_wf | with_reducible apply State.setCtxAt_wf | split | with_reducible (intro _)
    | with_reducible (refine Ok_fst (by assumption) ?_))

theorem State.spend_wf {a0 a1 a2} (h0 : memWf a0.mem = true) : memWf ((State.spend a0 a1 a2)).mem = true := by
  unfold State.spend
  repeat' (first | with_reducible assumption | with_reducible (refine OutOk.next ?_) | with_reducible apply State.setCoreAt_wf)

theorem State.chargeQueued_wf {a0 a1 a2 a3} (h0 : memWf a0.mem = true) : memWf ((State.chargeQueued a0 a1 a2 a3)).mem = true := by
  unfold State.chargeQueued
  repeat' (first
    | with_reducible assumption | with_reducible (refine OutOk.next ?_) | with_reducible apply State.setCoreAt_wf
    | with_reducible apply State.setTileAt_wf)

theorem State.chargeCause_wf {a0 a1 a2 a3} (h0 : memWf a0.mem = true) : memWf ((State.chargeCause a0 a1 a2 a3)).mem = true := by
  unfold State.chargeCause
  repeat' (first
    | with_reducible assumption | dsimp only | with_reducible (refine OutOk.next ?_) | with_reducible apply State.chargeTask_wf
    | with_reducible apply State.spend_wf | with_reducible apply State.chargeQueued_wf | split | with_reducible (intro _)
    | with_reducible (refine Ok_fst (by assumption) ?_))

theorem State.chargeCtx_wf {a0 a1 a2 a3} (h0 : memWf a0.mem = true) : memWf ((State.chargeCtx a0 a1 a2 a3)).mem = true := by
  unfold State.chargeCtx
  repeat' (first
    | with_reducible assumption | dsimp only | with_reducible (refine OutOk.next ?_) | with_reducible apply State.chargeTask_wf
    | with_reducible apply State.spend_wf | split | with_reducible (intro _) | with_reducible (refine Ok_fst (by assumption) ?_))

theorem State.passCore_wf {a0 a1 a2} (h0 : memWf a0.mem = true) : memWf ((State.passCore a0 a1 a2)).mem = true := by
  unfold State.passCore
  repeat' (first
    | with_reducible assumption | dsimp only | with_reducible (refine OutOk.next ?_) | with_reducible apply State.setCoreAt_wf
    | with_reducible apply State.chargeCtx_wf | split | with_reducible (intro _)
    | with_reducible (refine Ok_fst (by assumption) ?_))

theorem State.watch_wf {a0 a1 a2} (h0 : memWf a0.mem = true) : memWf ((State.watch a0 a1 a2)).mem = true := by
  unfold State.watch
  repeat' (first
    | with_reducible assumption | dsimp only | with_reducible (refine OutOk.next ?_) | with_reducible apply State.setTileAt_wf
    | with_reducible apply State.post_wf | with_reducible apply Ok_foldl | with_reducible apply Ok_foldl_fst
    | with_reducible (refine Some_ok (by assumption) ?_) | with_reducible (refine Some_ok2 (by assumption) ?_)
    | with_reducible (exact None_ok (by assumption)) | with_reducible (exact None_ok2 (by assumption))
    | with_reducible apply getD_ok | split | with_reducible (intro _) | with_reducible (refine Ok_fst (by assumption) ?_)
    | with_reducible (refine Ok_snd (by assumption) ?_))

theorem State.passCycles_wf {a0 a1 a2} (h0 : memWf a0.mem = true) : memWf ((State.passCycles a0 a1 a2)).mem = true := by
  unfold State.passCycles
  repeat' (first
    | with_reducible assumption | dsimp only | with_reducible (refine OutOk.next ?_) | with_reducible apply State.setCoreAt_wf
    | with_reducible apply State.passCore_wf | with_reducible apply State.watch_wf | with_reducible apply Ok_foldl
    | with_reducible apply Ok_foldl_fst | with_reducible (refine Some_ok (by assumption) ?_)
    | with_reducible (refine Some_ok2 (by assumption) ?_) | with_reducible (exact None_ok (by assumption))
    | with_reducible (exact None_ok2 (by assumption)) | with_reducible apply getD_ok | split | with_reducible (intro _)
    | with_reducible (refine Ok_fst (by assumption) ?_) | with_reducible (refine Ok_snd (by assumption) ?_))

theorem State.tick_wf {a0 a1} (h0 : memWf a0.mem = true) : memWf ((State.tick a0 a1)).mem = true := by
  unfold State.tick
  repeat' (first
    | with_reducible assumption | dsimp only | with_reducible (refine OutOk.next ?_) | split | with_reducible (intro _)
    | with_reducible (refine Ok_fst (by assumption) ?_))

theorem State.idleStep_wf {a0} (h0 : memWf a0.mem = true) : memWf ((State.idleStep a0)).mem = true := by
  unfold State.idleStep
  repeat' (first
    | with_reducible assumption | with_reducible (refine OutOk.next ?_) | with_reducible apply State.passCycles_wf
    | with_reducible apply State.tick_wf)

theorem State.chargeGroup_wf {a0 a1} (h0 : memWf a0.mem = true) : memWf ((State.chargeGroup a0 a1)).mem = true := by
  unfold State.chargeGroup
  repeat' (first
    | with_reducible assumption | with_reducible (refine OutOk.next ?_) | with_reducible apply State.setCore_wf
    | with_reducible apply State.chargeTask_wf)

theorem State.turn_wf {a0} (h0 : memWf a0.mem = true) : memWf ((State.turn a0)).mem = true := by
  unfold State.turn
  repeat' (first
    | with_reducible assumption | dsimp only | with_reducible (refine OutOk.next ?_) | split | with_reducible (intro _)
    | with_reducible (refine Ok_fst (by assumption) ?_))

theorem State.afterGroup_wf {a0 a1} (h0 : memWf a0.mem = true) : memWf ((State.afterGroup a0 a1)).mem = true := by
  unfold State.afterGroup
  repeat' (first
    | with_reducible assumption | with_reducible (refine OutOk.next ?_) | with_reducible apply State.turn_wf
    | with_reducible apply State.passCycles_wf | with_reducible apply State.tick_wf | with_reducible apply State.chargeGroup_wf)

theorem State.afterWait_wf {a0} (h0 : memWf a0.mem = true) : memWf ((State.afterWait a0)).mem = true := by
  unfold State.afterWait
  repeat' (first
    | with_reducible assumption | dsimp only | with_reducible (refine OutOk.next ?_) | with_reducible apply State.chargeCtx_wf
    | with_reducible apply State.turn_wf | with_reducible apply State.passCycles_wf | with_reducible apply State.tick_wf | split
    | with_reducible (intro _) | with_reducible (refine Ok_fst (by assumption) ?_))

theorem State.enterAccount_wf {a0 a1 a2} (h0 : memWf a0.mem = true) : memWf ((State.enterAccount a0 a1 a2)).mem = true := by
  unfold State.enterAccount
  repeat' (first
    | with_reducible assumption | dsimp only | with_reducible (refine OutOk.next ?_) | with_reducible apply State.setTileAt_wf
    | with_reducible apply State.postAt_wf | split | with_reducible (intro _) | with_reducible (refine Ok_fst (by assumption) ?_))

theorem State.writeBack_wf {a0 a1} (h0 : memWf a0.mem = true) : memWf ((State.writeBack a0 a1)).mem = true := by
  unfold State.writeBack
  repeat' (first
    | with_reducible assumption | dsimp only | with_reducible (refine OutOk.next ?_) | with_reducible apply State.writeWord_wf
    | split | with_reducible (intro _) | with_reducible (refine Ok_fst (by assumption) ?_))

theorem State.ensureAccount_wf {a0 a1 a2 a3} (h0 : memWf a0.mem = true) : ∀ t, (State.ensureAccount a0 a1 a2 a3) = some t → memWf t.mem = true := by
  unfold State.ensureAccount
  repeat' (first
    | with_reducible assumption | dsimp only | with_reducible (refine OutOk.next ?_) | with_reducible apply State.enterAccount_wf
    | with_reducible apply State.writeBack_wf | with_reducible apply State.setTileAt_wf | with_reducible apply Ok_foldl
    | with_reducible apply Ok_foldl_fst | with_reducible (refine Some_ok (by assumption) ?_)
    | with_reducible (refine Some_ok2 (by assumption) ?_) | with_reducible (exact None_ok (by assumption))
    | with_reducible (exact None_ok2 (by assumption)) | with_reducible apply getD_ok | split | with_reducible (intro _)
    | with_reducible (refine Ok_fst (by assumption) ?_) | with_reducible (refine Ok_snd (by assumption) ?_))

theorem State.admitCode_wf {a0 a1 a2 a3} (h0 : memWf a0.mem = true) : memWf ((State.admitCode a0 a1 a2 a3).1).mem = true := by
  unfold State.admitCode
  repeat' (first
    | with_reducible assumption | dsimp only | with_reducible (refine OutOk.next ?_)
    | with_reducible (refine State.ensureAccount_wf ?_ _ (by assumption)) | split | with_reducible (intro _)
    | with_reducible (refine Ok_fst (by assumption) ?_))

theorem State.gangCodes_wf {a0 a1 a2} (h0 : memWf a0.mem = true) : memWf ((State.gangCodes a0 a1 a2).1).mem = true := by
  induction a2 generalizing a0 a1 with
  | nil =>
    unfold State.gangCodes
    repeat' (first | with_reducible assumption | with_reducible (refine OutOk.next ?_) | with_reducible apply State.admitCode_wf)
  | cons x l ih =>
    unfold State.gangCodes
    repeat' (first | with_reducible apply ih | with_reducible assumption | with_reducible (refine OutOk.next ?_) | with_reducible apply State.admitCode_wf)

theorem State.modAccount_wf {a0 a1 a2 a3 a4} (h0 : memWf a0.mem = true) : memWf ((State.modAccount a0 a1 a2 a3 a4)).mem = true := by
  unfold State.modAccount
  repeat' (first | with_reducible assumption | with_reducible (refine OutOk.next ?_) | with_reducible apply State.setTileAt_wf)

theorem State.reserveCycles_wf {a0 a1 a2 a3 a4} (h0 : memWf a0.mem = true) : memWf ((State.reserveCycles a0 a1 a2 a3 a4)).mem = true := by
  unfold State.reserveCycles
  repeat' (first | with_reducible assumption | with_reducible (refine OutOk.next ?_) | with_reducible apply State.modAccount_wf)

theorem State.enqueue_wf {a0 a1 a2 a3} (h0 : memWf a0.mem = true) : memWf ((State.enqueue a0 a1 a2 a3)).mem = true := by
  unfold State.enqueue
  repeat' (first
    | with_reducible assumption | with_reducible (refine OutOk.next ?_) | with_reducible apply State.post_wf
    | with_reducible apply State.setCoreAt_wf)

theorem State.noteCode_wf {a0 a1 a2} (h0 : memWf a0.mem = true) : memWf ((State.noteCode a0 a1 a2)).mem = true := by
  unfold State.noteCode
  repeat' (first | with_reducible assumption | with_reducible (refine OutOk.next ?_) | with_reducible apply State.setCoreAt_wf)

theorem State.admitGang_wf {a0 a1 a2} (h0 : memWf a0.mem = true) : memWf ((State.admitGang a0 a1 a2).1).mem = true := by
  unfold State.admitGang
  repeat' (first
    | with_reducible assumption | dsimp only | with_reducible (refine OutOk.next ?_) | with_reducible apply State.gangCodes_wf
    | with_reducible apply State.reserveCycles_wf | with_reducible apply State.enqueue_wf
    | with_reducible apply State.noteCode_wf | with_reducible apply Ok_foldl | with_reducible apply Ok_foldl_fst
    | with_reducible (refine Some_ok (by assumption) ?_) | with_reducible (refine Some_ok2 (by assumption) ?_)
    | with_reducible (exact None_ok (by assumption)) | with_reducible (exact None_ok2 (by assumption))
    | with_reducible apply getD_ok | split | with_reducible (intro _) | with_reducible (refine Ok_fst (by assumption) ?_)
    | with_reducible (refine Ok_snd (by assumption) ?_))

theorem State.admitTask_wf {a0 a1 a2} (h0 : memWf a0.mem = true) : memWf ((State.admitTask a0 a1 a2).1).mem = true := by
  unfold State.admitTask
  repeat' (first
    | with_reducible assumption | dsimp only | with_reducible (refine OutOk.next ?_) | with_reducible apply State.admitCode_wf
    | with_reducible apply State.enqueue_wf | with_reducible apply State.reserveCycles_wf
    | with_reducible apply State.noteCode_wf | split | with_reducible (intro _)
    | with_reducible (refine Ok_fst (by assumption) ?_))

theorem vecMap_wf {a0 a1 a2 a3} (h0 : memWf a0.mem = true) : OutOk (vecMap a0 a1 a2 a3) := by
  unfold vecMap
  repeat' (first
    | with_reducible assumption | dsimp only | with_reducible (refine OutOk.next ?_) | with_reducible apply withLanes_wf
    | with_reducible apply done_wf | with_reducible apply State.wv_wf | split | with_reducible (intro _)
    | with_reducible (refine Ok_fst (by assumption) ?_))

theorem arith2_wf {a0 a1 a2 a3 a4 a5 a6} (h0 : memWf a0.mem = true) : OutOk (arith2 a0 a1 a2 a3 a4 a5 a6) := by
  unfold arith2
  repeat' (first | with_reducible assumption | with_reducible (refine OutOk.next ?_) | with_reducible apply vecMap_wf)

theorem execVfma_wf {a0 a1 a2 a3 a4} (h4 : memWf a4.mem = true) : OutOk (execVfma a0 a1 a2 a3 a4) := by
  unfold execVfma
  repeat' (first | with_reducible assumption | with_reducible (refine OutOk.next ?_) | with_reducible apply arith2_wf)

theorem execVadd_wf {a0 a1 a2 a3 a4} (h4 : memWf a4.mem = true) : OutOk (execVadd a0 a1 a2 a3 a4) := by
  unfold execVadd
  repeat' (first | with_reducible assumption | with_reducible (refine OutOk.next ?_) | with_reducible apply arith2_wf)

theorem vecBits_wf {a0 a1 a2 a3} (h0 : memWf a0.mem = true) : OutOk (vecBits a0 a1 a2 a3) := by
  unfold vecBits
  repeat' (first
    | with_reducible assumption | with_reducible (refine OutOk.next ?_) | with_reducible apply done_wf
    | with_reducible apply State.wv_wf)

theorem execVshr_wf {a0 a1 a2 a3 a4} (h4 : memWf a4.mem = true) : OutOk (execVshr a0 a1 a2 a3 a4) := by
  unfold execVshr
  repeat' (first
    | with_reducible assumption | dsimp only | with_reducible (refine OutOk.next ?_) | with_reducible apply illegal_wf
    | with_reducible apply vecBits_wf | split | with_reducible (intro _) | with_reducible (refine Ok_fst (by assumption) ?_))

theorem execVperm_wf {a0 a1 a2 a3 a4} (h4 : memWf a4.mem = true) : OutOk (execVperm a0 a1 a2 a3 a4) := by
  unfold execVperm
  repeat' (first | with_reducible assumption | with_reducible (refine OutOk.next ?_) | with_reducible apply vecBits_wf)

theorem execVmin_wf {a0 a1 a2 a3 a4} (h4 : memWf a4.mem = true) : OutOk (execVmin a0 a1 a2 a3 a4) := by
  unfold execVmin
  repeat' (first | with_reducible assumption | with_reducible (refine OutOk.next ?_) | with_reducible apply vecMap_wf)

theorem execVor_wf {a0 a1 a2 a3 a4} (h4 : memWf a4.mem = true) : OutOk (execVor a0 a1 a2 a3 a4) := by
  unfold execVor
  repeat' (first | with_reducible assumption | with_reducible (refine OutOk.next ?_) | with_reducible apply vecBits_wf)

theorem execQcvt_wf {a0 a1 a2 a3 a4} (h4 : memWf a4.mem = true) : OutOk (execQcvt a0 a1 a2 a3 a4) := by
  unfold execQcvt
  repeat' (first
    | with_reducible assumption | dsimp only | with_reducible (refine OutOk.next ?_) | with_reducible apply illegal_wf
    | with_reducible apply withLanes_wf | with_reducible apply done_wf | with_reducible apply State.wv_wf | split
    | with_reducible (intro _) | with_reducible (refine Ok_fst (by assumption) ?_))

theorem execVmax_wf {a0 a1 a2 a3 a4} (h4 : memWf a4.mem = true) : OutOk (execVmax a0 a1 a2 a3 a4) := by
  unfold execVmax
  repeat' (first | with_reducible assumption | with_reducible (refine OutOk.next ?_) | with_reducible apply vecMap_wf)

theorem execVcvt_wf {a0 a1 a2 a3 a4} (h4 : memWf a4.mem = true) : OutOk (execVcvt a0 a1 a2 a3 a4) := by
  unfold execVcvt
  repeat' (first
    | with_reducible assumption | dsimp only | with_reducible (refine OutOk.next ?_) | with_reducible apply illegal_wf
    | with_reducible apply withLanes_wf | with_reducible apply done_wf | with_reducible apply State.wv_wf | split
    | with_reducible (intro _) | with_reducible (refine Ok_fst (by assumption) ?_))

theorem execVand_wf {a0 a1 a2 a3 a4} (h4 : memWf a4.mem = true) : OutOk (execVand a0 a1 a2 a3 a4) := by
  unfold execVand
  repeat' (first | with_reducible assumption | with_reducible (refine OutOk.next ?_) | with_reducible apply vecBits_wf)

theorem execVxor_wf {a0 a1 a2 a3 a4} (h4 : memWf a4.mem = true) : OutOk (execVxor a0 a1 a2 a3 a4) := by
  unfold execVxor
  repeat' (first | with_reducible assumption | with_reducible (refine OutOk.next ?_) | with_reducible apply vecBits_wf)

theorem execVshl_wf {a0 a1 a2 a3 a4} (h4 : memWf a4.mem = true) : OutOk (execVshl a0 a1 a2 a3 a4) := by
  unfold execVshl
  repeat' (first
    | with_reducible assumption | dsimp only | with_reducible (refine OutOk.next ?_) | with_reducible apply illegal_wf
    | with_reducible apply vecMap_wf | split | with_reducible (intro _) | with_reducible (refine Ok_fst (by assumption) ?_))

theorem execVred_wf {a0 a1 a2 a3 a4} (h4 : memWf a4.mem = true) : OutOk (execVred a0 a1 a2 a3 a4) := by
  unfold execVred
  repeat' (first
    | with_reducible assumption | dsimp only | with_reducible (refine OutOk.next ?_) | with_reducible apply illegal_wf
    | with_reducible apply withLanes_wf | with_reducible apply writeG_wf | split | with_reducible (intro _)
    | with_reducible (refine Ok_fst (by assumption) ?_))

theorem execVsel_wf {a0 a1 a2 a3 a4} (h4 : memWf a4.mem = true) : OutOk (execVsel a0 a1 a2 a3 a4) := by
  unfold execVsel
  repeat' (first
    | with_reducible assumption | with_reducible (refine OutOk.next ?_) | with_reducible apply done_wf
    | with_reducible apply State.wv_wf)

theorem execVext_wf {a0 a1 a2 a3 a4} (h4 : memWf a4.mem = true) : OutOk (execVext a0 a1 a2 a3 a4) := by
  unfold execVext
  repeat' (first | with_reducible assumption | with_reducible (refine OutOk.next ?_) | with_reducible apply writeG_wf)

theorem execVins_wf {a0 a1 a2 a3 a4} (h4 : memWf a4.mem = true) : OutOk (execVins a0 a1 a2 a3 a4) := by
  unfold execVins
  repeat' (first
    | with_reducible assumption | with_reducible (refine OutOk.next ?_) | with_reducible apply done_wf
    | with_reducible apply State.wv_wf)

theorem execVmov_wf {a0 a1 a2 a3} (h3 : memWf a3.mem = true) : OutOk (execVmov a0 a1 a2 a3) := by
  unfold execVmov
  repeat' (first | with_reducible assumption | with_reducible (refine OutOk.next ?_) | with_reducible apply vecBits_wf)

theorem execVmul_wf {a0 a1 a2 a3 a4} (h4 : memWf a4.mem = true) : OutOk (execVmul a0 a1 a2 a3 a4) := by
  unfold execVmul
  repeat' (first | with_reducible assumption | with_reducible (refine OutOk.next ?_) | with_reducible apply arith2_wf)

theorem execVcmp_wf {a0 a1 a2 a3 a4 a5} (h5 : memWf a5.mem = true) : OutOk (execVcmp a0 a1 a2 a3 a4 a5) := by
  unfold execVcmp
  repeat' (first
    | with_reducible assumption | dsimp only | with_reducible (refine OutOk.next ?_) | with_reducible apply withLanes_wf
    | with_reducible apply done_wf | with_reducible apply State.setCtx_wf | split | with_reducible (intro _)
    | with_reducible (refine Ok_fst (by assumption) ?_))

theorem execVsar_wf {a0 a1 a2 a3 a4} (h4 : memWf a4.mem = true) : OutOk (execVsar a0 a1 a2 a3 a4) := by
  unfold execVsar
  repeat' (first
    | with_reducible assumption | dsimp only | with_reducible (refine OutOk.next ?_) | with_reducible apply illegal_wf
    | with_reducible apply vecBits_wf | split | with_reducible (intro _) | with_reducible (refine Ok_fst (by assumption) ?_))

theorem execVclaim_wf {a0 a1 a2} (h2 : memWf a2.mem = true) : OutOk (execVclaim a0 a1 a2) := by
  unfold execVclaim
  repeat' (first
    | with_reducible assumption | dsimp only | with_reducible (refine OutOk.next ?_) | with_reducible apply illegal_wf
    | with_reducible apply writeG_wf | with_reducible apply State.setCtx_wf | split | with_reducible (intro _)
    | with_reducible (refine Ok_fst (by assumption) ?_))

theorem execVsub_wf {a0 a1 a2 a3 a4} (h4 : memWf a4.mem = true) : OutOk (execVsub a0 a1 a2 a3 a4) := by
  unfold execVsub
  repeat' (first | with_reducible assumption | with_reducible (refine OutOk.next ?_) | with_reducible apply arith2_wf)

theorem execVbcast_wf {a0 a1 a2 a3} (h3 : memWf a3.mem = true) : OutOk (execVbcast a0 a1 a2 a3) := by
  unfold execVbcast
  repeat' (first | with_reducible assumption | with_reducible (refine OutOk.next ?_) | with_reducible apply vecBits_wf)

theorem gangIssue_wf {a0 a1 a2} (h2 : memWf a2.mem = true) : OutOk (gangIssue a0 a1 a2) := by
  unfold gangIssue
  repeat' (first
    | with_reducible assumption | dsimp only | with_reducible (refine OutOk.next ?_) | with_reducible apply trap_wf
    | with_reducible apply State.setCtx_wf | with_reducible apply State.post_wf | split | with_reducible (intro _)
    | with_reducible (refine Ok_fst (by assumption) ?_))

theorem State.endMember_wf {a0 a1 a2} (h0 : memWf a0.mem = true) (h2 : ∀ y0, memWf y0.mem = true → OutOk (a2 y0)) : memWf ((State.endMember a0 a1 a2)).mem = true := by
  unfold State.endMember
  dsimp only
  split
  · rename_i t e
    have ht : memWf t.mem = true := by
      refine Out_next e (h2 _ ?_)
      dsimp only
      with_reducible apply State.setCtxAt_wf
      exact h0
    show memWf (ite _ _ _ : State).mem = true
    split
    · exact ht
    · exact ht
  · exact h0

theorem State.endAll_wf {a0 a1 a2 a3} (h0 : memWf a0.mem = true) (h3 : ∀ y0 y1 y2, memWf y2.mem = true → OutOk (a3 y0 y1 y2)) : memWf ((State.endAll a0 a1 a2 a3)).mem = true := by
  unfold State.endAll
  repeat' (first
    | with_reducible assumption | dsimp only | with_reducible (refine OutOk.next ?_) | with_reducible apply h3
    | with_reducible apply State.endMember_wf | with_reducible apply withLanes_wf | with_reducible apply Ok_foldl
    | with_reducible apply Ok_foldl_fst | with_reducible (refine Some_ok (by assumption) ?_)
    | with_reducible (refine Some_ok2 (by assumption) ?_) | with_reducible (exact None_ok (by assumption))
    | with_reducible (exact None_ok2 (by assumption)) | with_reducible apply getD_ok | split | with_reducible (intro _)
    | with_reducible (refine Ok_fst (by assumption) ?_) | with_reducible (refine Ok_snd (by assumption) ?_))

theorem State.gangDo_wf {a0 a1 a2} (h0 : memWf a0.mem = true) : memWf ((State.gangDo a0 a1 a2)).mem = true := by
  unfold State.gangDo
  repeat' (first
    | with_reducible assumption | dsimp only | with_reducible (refine OutOk.next ?_) | with_reducible apply State.endAll_wf
    | with_reducible apply vecBits_wf | with_reducible apply writeG_wf | with_reducible apply State.endMember_wf
    | with_reducible apply State.setCtx_wf | with_reducible apply Ok_foldl | with_reducible apply Ok_foldl_fst
    | with_reducible (refine Some_ok (by assumption) ?_) | with_reducible (refine Some_ok2 (by assumption) ?_)
    | with_reducible (exact None_ok (by assumption)) | with_reducible (exact None_ok2 (by assumption))
    | with_reducible apply getD_ok | split | with_reducible (intro _) | with_reducible (refine Ok_fst (by assumption) ?_)
    | with_reducible (refine Ok_snd (by assumption) ?_))

theorem execGred_wf {a0 a1 a2 a3 a4} (h4 : memWf a4.mem = true) : OutOk (execGred a0 a1 a2 a3 a4) := by
  unfold execGred
  repeat' (first | with_reducible assumption | with_reducible (refine OutOk.next ?_) | with_reducible apply gangIssue_wf)

theorem State.gangTrap_wf {a0 a1 a2} (h0 : memWf a0.mem = true) : memWf ((State.gangTrap a0 a1 a2)).mem = true := by
  unfold State.gangTrap
  repeat' (first
    | with_reducible assumption | dsimp only | with_reducible (refine OutOk.next ?_) | with_reducible apply State.enterTrapAt_wf
    | with_reducible apply Ok_foldl | with_reducible apply Ok_foldl_fst | with_reducible (refine Some_ok (by assumption) ?_)
    | with_reducible (refine Some_ok2 (by assumption) ?_) | with_reducible (exact None_ok (by assumption))
    | with_reducible (exact None_ok2 (by assumption)) | with_reducible apply getD_ok | split | with_reducible (intro _)
    | with_reducible (refine Ok_fst (by assumption) ?_) | with_reducible (refine Ok_snd (by assumption) ?_))

theorem execGangLineJoin_wf {a0} (h0 : memWf a0.mem = true) : OutOk (execGangLineJoin a0) := by
  unfold execGangLineJoin
  repeat' (first
    | with_reducible assumption | dsimp only | with_reducible (refine OutOk.next ?_) | with_reducible apply State.gangTrap_wf
    | with_reducible apply State.post_wf | with_reducible apply State.gangDo_wf | split | with_reducible (intro _)
    | with_reducible (refine Ok_fst (by assumption) ?_))

theorem execGshuf_wf {a0 a1 a2 a3 a4} (h4 : memWf a4.mem = true) : OutOk (execGshuf a0 a1 a2 a3 a4) := by
  unfold execGshuf
  repeat' (first | with_reducible assumption | with_reducible (refine OutOk.next ?_) | with_reducible apply gangIssue_wf)

theorem execGmatch_wf {a0 a1 a2 a3} (h3 : memWf a3.mem = true) : OutOk (execGmatch a0 a1 a2 a3) := by
  unfold execGmatch
  repeat' (first | with_reducible assumption | with_reducible (refine OutOk.next ?_) | with_reducible apply gangIssue_wf)

theorem execGscan_wf {a0 a1 a2 a3 a4} (h4 : memWf a4.mem = true) : OutOk (execGscan a0 a1 a2 a3 a4) := by
  unfold execGscan
  repeat' (first | with_reducible assumption | with_reducible (refine OutOk.next ?_) | with_reducible apply gangIssue_wf)

theorem execGbar_wf {a0 a1 a2} (h2 : memWf a2.mem = true) : OutOk (execGbar a0 a1 a2) := by
  unfold execGbar
  repeat' (first
    | with_reducible assumption | dsimp only | with_reducible (refine OutOk.next ?_) | with_reducible apply illegal_wf
    | with_reducible apply gangIssue_wf | split | with_reducible (intro _) | with_reducible (refine Ok_fst (by assumption) ?_))

theorem execGmax_wf {a0 a1 a2 a3 a4} (h4 : memWf a4.mem = true) : OutOk (execGmax a0 a1 a2 a3 a4) := by
  unfold execGmax
  repeat' (first
    | with_reducible assumption | dsimp only | with_reducible (refine OutOk.next ?_) | with_reducible apply illegal_wf
    | with_reducible apply gangIssue_wf | split | with_reducible (intro _) | with_reducible (refine Ok_fst (by assumption) ?_))

theorem execGbcast_wf {a0 a1 a2 a3 a4} (h4 : memWf a4.mem = true) : OutOk (execGbcast a0 a1 a2 a3 a4) := by
  unfold execGbcast
  repeat' (first | with_reducible assumption | with_reducible (refine OutOk.next ?_) | with_reducible apply gangIssue_wf)

theorem execGvote_wf {a0 a1 a2 a3 a4} (h4 : memWf a4.mem = true) : OutOk (execGvote a0 a1 a2 a3 a4) := by
  unfold execGvote
  repeat' (first | with_reducible assumption | with_reducible (refine OutOk.next ?_) | with_reducible apply gangIssue_wf)

theorem State.gangAbsent_wf {a0 a1} (h0 : memWf a0.mem = true) : memWf ((State.gangAbsent a0 a1)).mem = true := by
  unfold State.gangAbsent
  repeat' (first
    | with_reducible assumption | dsimp only | with_reducible (refine OutOk.next ?_) | with_reducible apply State.enterTrapAt_wf
    | with_reducible apply Ok_foldl | with_reducible apply Ok_foldl_fst | with_reducible (refine Some_ok (by assumption) ?_)
    | with_reducible (refine Some_ok2 (by assumption) ?_) | with_reducible (exact None_ok (by assumption))
    | with_reducible (exact None_ok2 (by assumption)) | with_reducible apply getD_ok | split | with_reducible (intro _)
    | with_reducible (refine Ok_fst (by assumption) ?_) | with_reducible (refine Ok_snd (by assumption) ?_))

theorem State.relink_wf {a0 a1} (h0 : memWf a0.mem = true) : memWf ((State.relink a0 a1)).mem = true := by
  induction a1 generalizing a0 with
  | nil =>
    unfold State.relink
    repeat' (first | with_reducible assumption | with_reducible (refine OutOk.next ?_) | with_reducible apply State.writeWord_wf)
  | cons x l ih =>
    unfold State.relink
    repeat' (first | with_reducible apply ih | with_reducible assumption | with_reducible (refine OutOk.next ?_) | with_reducible apply State.writeWord_wf)

theorem State.sievedReady_wf {a0 a1 a2} (h0 : memWf a0.mem = true) : memWf ((State.sievedReady a0 a1 a2)).mem = true := by
  unfold State.sievedReady
  repeat' (first
    | with_reducible assumption | dsimp only | with_reducible (refine OutOk.next ?_) | with_reducible apply State.post_wf
    | with_reducible apply State.relink_wf | with_reducible apply State.setCoreAt_wf | split | with_reducible (intro _)
    | with_reducible (refine Ok_fst (by assumption) ?_))

theorem execCtlCreditRetry_wf {a0} (h0 : memWf a0.mem = true) : OutOk (execCtlCreditRetry a0) := by
  unfold execCtlCreditRetry
  repeat' (first
    | with_reducible assumption | dsimp only | with_reducible (refine OutOk.next ?_) | with_reducible apply State.post_wf
    | with_reducible apply State.setPkt_wf | split | with_reducible (intro _) | with_reducible (refine Ok_fst (by assumption) ?_))

theorem State.sendCtl_wf {a0 a1 a2 a3 a4 a5 a6 a7 a8} (h0 : memWf a0.mem = true) : memWf ((State.sendCtl a0 a1 a2 a3 a4 a5 a6 a7 a8)).mem = true := by
  unfold State.sendCtl
  repeat' (first
    | with_reducible assumption | with_reducible (refine OutOk.next ?_) | with_reducible apply State.post_wf
    | with_reducible apply State.inject_wf)

theorem State.reportAs_wf {a0 a1 a2 a3 a4} (h0 : memWf a0.mem = true) : memWf ((State.reportAs a0 a1 a2 a3 a4)).mem = true := by
  unfold State.reportAs
  repeat' (first
    | with_reducible assumption | dsimp only | with_reducible (refine OutOk.next ?_) | with_reducible apply State.reportLog_wf
    | with_reducible apply State.sendCtl_wf | split | with_reducible (intro _)
    | with_reducible (refine Ok_fst (by assumption) ?_))

theorem State.report_wf {a0 a1 a2 a3} (h0 : memWf a0.mem = true) : memWf ((State.report a0 a1 a2 a3)).mem = true := by
  unfold State.report
  repeat' (first | with_reducible assumption | with_reducible (refine OutOk.next ?_) | with_reducible apply State.reportAs_wf)

theorem execReadyRingOffer_wf {a0} (h0 : memWf a0.mem = true) : OutOk (execReadyRingOffer a0) := by
  unfold execReadyRingOffer
  repeat' (first
    | with_reducible assumption | dsimp only | with_reducible (refine OutOk.next ?_) | with_reducible apply State.post_wf
    | with_reducible apply State.setCoreAt_wf | with_reducible apply State.report_wf | with_reducible apply State.admitTask_wf
    | split | with_reducible (intro _) | with_reducible (refine Ok_fst (by assumption) ?_))

theorem State.putDrej_wf {a0 a1 a2 a3 a4} (h0 : memWf a0.mem = true) : memWf ((State.putDrej a0 a1 a2 a3 a4)).mem = true := by
  unfold State.putDrej
  repeat' (first
    | with_reducible assumption | dsimp only | with_reducible (refine OutOk.next ?_) | with_reducible apply State.setTileAt_wf
    | split | with_reducible (intro _) | with_reducible (refine Ok_fst (by assumption) ?_))

theorem State.cmdDone_wf {a0 a1 a2 a3 a4} (h0 : memWf a0.mem = true) : memWf ((State.cmdDone a0 a1 a2 a3 a4)).mem = true := by
  unfold State.cmdDone
  repeat' (first | with_reducible assumption | with_reducible (refine OutOk.next ?_) | with_reducible apply State.post_wf)

theorem State.amsgDone_wf {a0 a1 a2} (h0 : memWf a0.mem = true) : memWf ((State.amsgDone a0 a1 a2)).mem = true := by
  unfold State.amsgDone
  repeat' (first | with_reducible assumption | with_reducible (refine OutOk.next ?_) | with_reducible apply State.cmdDone_wf)

theorem State.tellDrop_wf {a0 a1 a2 a3 a4 a5 a6} (h0 : memWf a0.mem = true) : memWf ((State.tellDrop a0 a1 a2 a3 a4 a5 a6)).mem = true := by
  unfold State.tellDrop
  repeat' (first
    | with_reducible assumption | dsimp only | with_reducible (refine OutOk.next ?_) | with_reducible apply State.putDrej_wf
    | with_reducible apply State.amsgDone_wf | with_reducible apply State.reportLog_wf | with_reducible apply State.report_wf
    | split | with_reducible (intro _) | with_reducible (refine Ok_fst (by assumption) ?_))

theorem State.modDelivery_wf {a0 a1 a2 a3} (h0 : memWf a0.mem = true) : memWf ((State.modDelivery a0 a1 a2 a3)).mem = true := by
  unfold State.modDelivery
  repeat' (first | with_reducible assumption | with_reducible (refine OutOk.next ?_) | with_reducible apply State.setCoreAt_wf)

theorem State.linkReady_wf {a0 a1 a2 a3 a4} (h0 : memWf a0.mem = true) : memWf ((State.linkReady a0 a1 a2 a3 a4)).mem = true := by
  unfold State.linkReady
  repeat' (first
    | with_reducible assumption | dsimp only | with_reducible (refine OutOk.next ?_) | with_reducible apply State.setCoreAt_wf
    | with_reducible apply State.writeWord_wf | split | with_reducible (intro _)
    | with_reducible (refine Ok_fst (by assumption) ?_))

theorem State.pushReady_wf {a0 a1 a2 a3 a4} (h0 : memWf a0.mem = true) : memWf ((State.pushReady a0 a1 a2 a3 a4)).mem = true := by
  unfold State.pushReady
  repeat' (first
    | with_reducible assumption | with_reducible (refine OutOk.next ?_) | with_reducible apply State.post_wf
    | with_reducible apply State.linkReady_wf | with_reducible apply State.setCoreAt_wf)

theorem State.freeSlot_wf {a0 a1 a2} (h0 : memWf a0.mem = true) : memWf ((State.freeSlot a0 a1 a2)).mem = true := by
  unfold State.freeSlot
  repeat' (first
    | with_reducible assumption | dsimp only | with_reducible (refine OutOk.next ?_) | with_reducible apply State.setCoreAt_wf
    | with_reducible apply State.wakeHeld_wf | with_reducible apply State.post_wf | split | with_reducible (intro _)
    | with_reducible (refine Ok_fst (by assumption) ?_))

theorem State.dropDelivery_wf {a0 a1 a2 a3} (h0 : memWf a0.mem = true) : memWf ((State.dropDelivery a0 a1 a2 a3)).mem = true := by
  unfold State.dropDelivery
  repeat' (first
    | with_reducible assumption | with_reducible (refine OutOk.next ?_) | with_reducible apply State.tellDrop_wf
    | with_reducible apply State.freeSlot_wf)

theorem State.stageOffer_wf {a0 a1 a2 a3 a4} (h0 : memWf a0.mem = true) : memWf ((State.stageOffer a0 a1 a2 a3 a4)).mem = true := by
  unfold State.stageOffer
  repeat' (first
    | with_reducible assumption | dsimp only | with_reducible (refine OutOk.next ?_) | with_reducible apply State.post_wf | split
    | with_reducible (intro _) | with_reducible (refine Ok_fst (by assumption) ?_))

theorem State.offerOne_wf {a0 a1 a2} (h0 : memWf a0.mem = true) : memWf ((State.offerOne a0 a1 a2)).mem = true := by
  unfold State.offerOne
  repeat' (first
    | with_reducible assumption | dsimp only | with_reducible (refine OutOk.next ?_) | with_reducible apply State.dropDelivery_wf
    | with_reducible apply State.stageOffer_wf | with_reducible apply State.admitTask_wf | with_reducible apply State.putDrej_wf
    | with_reducible apply State.modDelivery_wf | with_reducible apply State.amsgDone_wf | split | with_reducible (intro _)
    | with_reducible (refine Ok_fst (by assumption) ?_))

theorem State.offerFreed_wf {a0 a1 a2} (h0 : memWf a0.mem = true) : memWf ((State.offerFreed a0 a1 a2)).mem = true := by
  induction a2 generalizing a0 a1 with
  | zero =>
    unfold State.offerFreed
    repeat' (first
      | with_reducible assumption | dsimp only | with_reducible (refine OutOk.next ?_) | with_reducible apply State.offerOne_wf
      | split | with_reducible (intro _) | with_reducible (refine Ok_fst (by assumption) ?_))
  | succ n ih =>
    unfold State.offerFreed
    repeat' (first
      | with_reducible apply ih | with_reducible assumption | dsimp only | with_reducible (refine OutOk.next ?_) | with_reducible apply State.offerOne_wf
      | split | with_reducible (intro _) | with_reducible (refine Ok_fst (by assumption) ?_))

theorem State.offerList_wf {a0 a1 a2} (h0 : memWf a0.mem = true) : memWf ((State.offerList a0 a1 a2)).mem = true := by
  induction a2 generalizing a0 a1 with
  | nil =>
    unfold State.offerList
    repeat' (first
      | with_reducible assumption | dsimp only | with_reducible (refine OutOk.next ?_) | with_reducible apply State.offerOne_wf
      | split | with_reducible (intro _) | with_reducible (refine Ok_fst (by assumption) ?_))
  | cons x l ih =>
    unfold State.offerList
    repeat' (first
      | with_reducible apply ih | with_reducible assumption | dsimp only | with_reducible (refine OutOk.next ?_) | with_reducible apply State.offerOne_wf
      | split | with_reducible (intro _) | with_reducible (refine Ok_fst (by assumption) ?_))

theorem State.offerInbox_wf {a0 a1} (h0 : memWf a0.mem = true) : memWf ((State.offerInbox a0 a1)).mem = true := by
  unfold State.offerInbox
  repeat' (first
    | with_reducible assumption | with_reducible (refine OutOk.next ?_) | with_reducible apply State.wakeHeld_wf
    | with_reducible apply State.offerFreed_wf | with_reducible apply State.offerList_wf)

theorem State.placeIn_wf {a0 a1 a2 a3 a4} (h0 : memWf a0.mem = true) : memWf ((State.placeIn a0 a1 a2 a3 a4)).mem = true := by
  unfold State.placeIn
  repeat' (first
    | with_reducible assumption | with_reducible (refine OutOk.next ?_) | with_reducible apply State.setCoreAt_wf
    | with_reducible apply State.writeBytes_wf)

theorem State.arrive_wf {a0 a1} (h0 : memWf a0.mem = true) : memWf ((State.arrive a0 a1)).mem = true := by
  unfold State.arrive
  repeat' (first
    | with_reducible assumption | dsimp only | with_reducible (refine OutOk.next ?_) | with_reducible apply State.setCoreAt_wf
    | with_reducible apply State.tellDrop_wf | with_reducible apply State.consume_wf | with_reducible apply State.standBy_wf
    | with_reducible apply State.offerInbox_wf | with_reducible apply State.placeIn_wf | split | with_reducible (intro _)
    | with_reducible (refine Ok_fst (by assumption) ?_))

theorem State.setChan_wf {a0 a1 a2 a3 a4 a5} (h0 : memWf a0.mem = true) : memWf ((State.setChan a0 a1 a2 a3 a4 a5)).mem = true := by
  unfold State.setChan
  repeat' (first | with_reducible assumption | with_reducible (refine OutOk.next ?_) | with_reducible apply State.setTileAt_wf)

theorem execCtlCreditRequest_wf {a0} (h0 : memWf a0.mem = true) : OutOk (execCtlCreditRequest a0) := by
  unfold execCtlCreditRequest
  repeat' (first
    | with_reducible assumption | dsimp only | with_reducible (refine OutOk.next ?_) | with_reducible apply State.standBy_wf
    | with_reducible apply State.tellDrop_wf | with_reducible apply State.consume_wf | with_reducible apply State.post_wf
    | with_reducible apply State.setPkt_wf | with_reducible apply State.setCoreAt_wf | split | with_reducible (intro _)
    | with_reducible (refine Ok_fst (by assumption) ?_))

theorem State.kickWhere_wf {a0 a1 a2} (h0 : memWf a0.mem = true) : memWf ((State.kickWhere a0 a1 a2)).mem = true := by
  unfold State.kickWhere
  repeat' (first
    | with_reducible assumption | with_reducible (refine OutOk.next ?_) | with_reducible apply State.setCoreAt_wf
    | with_reducible apply State.post_wf | with_reducible apply State.offerInbox_wf)

theorem State.putStage_wf {a0 a1} (h0 : memWf a0.mem = true) : memWf ((State.putStage a0 a1)).mem = true := by
  unfold State.putStage
  repeat' (first | with_reducible assumption | with_reducible (refine OutOk.next ?_) | with_reducible apply State.writeWord_wf)

theorem State.pipeReport_wf {a0 a1 a2 a3 a4 a5} (h0 : memWf a0.mem = true) : memWf ((State.pipeReport a0 a1 a2 a3 a4 a5)).mem = true := by
  unfold State.pipeReport
  repeat' (first | with_reducible assumption | with_reducible (refine OutOk.next ?_) | with_reducible apply State.reportAs_wf)

theorem State.kickCore_wf {a0 a1} (h0 : memWf a0.mem = true) : memWf ((State.kickCore a0 a1)).mem = true := by
  unfold State.kickCore
  repeat' (first | with_reducible assumption | with_reducible (refine OutOk.next ?_) | with_reducible apply State.kickWhere_wf)

theorem needS_wf {a0 a1} (h0 : memWf a0.mem = true) (h1 : OutOk a1) : OutOk (needS a0 a1) := by
  unfold needS
  repeat' (first
    | with_reducible assumption | dsimp only | with_reducible (refine OutOk.next ?_) | with_reducible apply trap_wf
    | with_reducible apply State.free_wf | split | with_reducible (intro _) | with_reducible (refine Ok_fst (by assumption) ?_))

theorem withChan_wf {a0 a1 a2} (h0 : memWf a0.mem = true) (h2 : ∀ y0, OutOk (a2 y0)) : OutOk (withChan a0 a1 a2) := by
  unfold withChan
  repeat' (first
    | with_reducible assumption | dsimp only | with_reducible (refine OutOk.next ?_) | with_reducible apply h2
    | with_reducible apply trap_wf | split | with_reducible (intro _) | with_reducible (refine Ok_fst (by assumption) ?_))

theorem withBlock_wf {a0 a1 a2 a3 a4 a5} (h0 : memWf a0.mem = true) (h5 : ∀ y0 y1, memWf y0.mem = true → OutOk (a5 y0 y1)) : OutOk (withBlock a0 a1 a2 a3 a4 a5) := by
  unfold withBlock
  repeat' (first
    | with_reducible assumption | dsimp only | with_reducible (refine OutOk.next ?_) | with_reducible apply h5
    | with_reducible apply trap_wf | with_reducible apply State.resolveNow_wf | with_reducible apply State.logBad_wf
    | with_reducible apply State.logRefused_wf | with_reducible apply park_wf | split | with_reducible (intro _)
    | with_reducible (refine Ok_fst (by assumption) ?_))

theorem execChcfg_wf {a0 a1 a2 a3} (h3 : memWf a3.mem = true) : OutOk (execChcfg a0 a1 a2 a3) := by
  unfold execChcfg
  repeat' (first
    | with_reducible assumption | dsimp only | with_reducible (refine OutOk.next ?_) | with_reducible apply needS_wf
    | with_reducible apply withChan_wf | with_reducible apply withBlock_wf | with_reducible apply trap_wf
    | with_reducible apply State.setMyTabs_wf | with_reducible apply writeG_wf | with_reducible apply State.offerInbox_wf | split
    | with_reducible (intro _) | with_reducible (refine Ok_fst (by assumption) ?_))

theorem setBlocked_wf {a0 a1 a2} (h0 : memWf a0.mem = true) : OutOk (setBlocked a0 a1 a2) := by
  unfold setBlocked
  repeat' (first
    | with_reducible assumption | dsimp only | with_reducible (refine OutOk.next ?_) | with_reducible apply withChan_wf
    | with_reducible apply trap_wf | with_reducible apply State.setMyTabs_wf | with_reducible apply done_wf
    | with_reducible apply State.offerInbox_wf | split | with_reducible (intro _)
    | with_reducible (refine Ok_fst (by assumption) ?_))

theorem execChunb_wf {a0 a1} (h1 : memWf a1.mem = true) : OutOk (execChunb a0 a1) := by
  unfold execChunb
  repeat' (first | with_reducible assumption | with_reducible (refine OutOk.next ?_) | with_reducible apply setBlocked_wf)

theorem execMatchTbl_wf {a0 a1 a2 a3} (h3 : memWf a3.mem = true) : OutOk (execMatchTbl a0 a1 a2 a3) := by
  unfold execMatchTbl
  repeat' (first
    | with_reducible assumption | dsimp only | with_reducible (refine OutOk.next ?_) | with_reducible apply trap_wf
    | with_reducible apply writeG_wf | with_reducible apply State.setMyTabs_wf | split | with_reducible (intro _)
    | with_reducible (refine Ok_fst (by assumption) ?_))

theorem execChblk_wf {a0 a1} (h1 : memWf a1.mem = true) : OutOk (execChblk a0 a1) := by
  unfold execChblk
  repeat' (first | with_reducible assumption | with_reducible (refine OutOk.next ?_) | with_reducible apply setBlocked_wf)

theorem execRole_wf {a0 a1 a2} (h2 : memWf a2.mem = true) : OutOk (execRole a0 a1 a2) := by
  unfold execRole
  repeat' (first
    | with_reducible assumption | dsimp only | with_reducible (refine OutOk.next ?_) | with_reducible apply trap_wf
    | with_reducible apply writeG_wf | with_reducible apply State.fillRm_wf | split | with_reducible (intro _)
    | with_reducible (refine Ok_fst (by assumption) ?_))

theorem execLease_wf {a0 a1 a2} (h2 : memWf a2.mem = true) : OutOk (execLease a0 a1 a2) := by
  unfold execLease
  repeat' (first
    | with_reducible assumption | dsimp only | with_reducible (refine OutOk.next ?_) | with_reducible apply trap_wf
    | with_reducible apply withBlock_wf | with_reducible apply State.takeDelay_wf | with_reducible apply done_wf
    | with_reducible apply State.post_wf | with_reducible apply State.inject_wf | split | with_reducible (intro _)
    | with_reducible (refine Ok_fst (by assumption) ?_))

theorem execLrel_wf {a0 a1} (h1 : memWf a1.mem = true) : OutOk (execLrel a0 a1) := by
  unfold execLrel
  repeat' (first
    | with_reducible assumption | dsimp only | with_reducible (refine OutOk.next ?_) | with_reducible apply trap_wf
    | with_reducible apply done_wf | with_reducible apply State.post_wf | split | with_reducible (intro _)
    | with_reducible (refine Ok_fst (by assumption) ?_))

theorem State.notack_wf {a0 a1 a2} (h0 : memWf a0.mem = true) : memWf ((State.notack a0 a1 a2).1).mem = true := by
  unfold State.notack
  repeat' (first
    | with_reducible assumption | dsimp only | with_reducible (refine OutOk.next ?_) | with_reducible apply State.setTileAt_wf
    | split | with_reducible (intro _) | with_reducible (refine Ok_fst (by assumption) ?_))

theorem State.tableWords_wf {a0 a1 a2} (h0 : memWf a0.mem = true) : memWf ((State.tableWords a0 a1 a2).1).mem = true := by
  induction a1 generalizing a0 a2 with
  | zero =>
    unfold State.tableWords
    repeat' (first
      | with_reducible assumption | dsimp only | with_reducible (refine OutOk.next ?_) | with_reducible apply State.resolveNow_wf
      | with_reducible apply State.logBad_wf | with_reducible apply State.logRefused_wf | split | with_reducible (intro _)
      | with_reducible (refine Ok_fst (by assumption) ?_))
  | succ n ih =>
    unfold State.tableWords
    repeat' (first
      | with_reducible apply ih | with_reducible assumption | dsimp only | with_reducible (refine OutOk.next ?_) | with_reducible apply State.resolveNow_wf
      | with_reducible apply State.logBad_wf | with_reducible apply State.logRefused_wf | split | with_reducible (intro _)
      | with_reducible (refine Ok_fst (by assumption) ?_))

theorem execNotack_wf {a0 a1 a2 a3} (h3 : memWf a3.mem = true) : OutOk (execNotack a0 a1 a2 a3) := by
  unfold execNotack
  repeat' (first
    | with_reducible assumption | dsimp only | with_reducible (refine OutOk.next ?_) | with_reducible apply State.notack_wf
    | with_reducible apply writeG_wf | with_reducible apply trap_wf | with_reducible apply State.tableWords_wf
    | with_reducible apply park_wf | split | with_reducible (intro _) | with_reducible (refine Ok_fst (by assumption) ?_))

theorem execRmap_wf {a0 a1 a2 a3} (h3 : memWf a3.mem = true) : OutOk (execRmap a0 a1 a2 a3) := by
  unfold execRmap
  repeat' (first
    | with_reducible assumption | dsimp only | with_reducible (refine OutOk.next ?_) | with_reducible apply needS_wf
    | with_reducible apply trap_wf | with_reducible apply writeG_wf | with_reducible apply State.setTile_wf
    | with_reducible apply State.setColAt_wf | with_reducible apply State.post_wf | split | with_reducible (intro _)
    | with_reducible (refine Ok_fst (by assumption) ?_))

theorem withDest_wf {a0 a1 a2 a3} (h0 : memWf a0.mem = true) (h3 : OutOk a3) : OutOk (withDest a0 a1 a2 a3) := by
  unfold withDest
  repeat' (first
    | with_reducible assumption | dsimp only | with_reducible (refine OutOk.next ?_) | with_reducible apply trap_wf | split
    | with_reducible (intro _) | with_reducible (refine Ok_fst (by assumption) ?_))

theorem withSpawn_wf {a0 a1 a2 a3 a4} (h0 : memWf a0.mem = true) (h4 : ∀ y0 y1, memWf y0.mem = true → OutOk (a4 y0 y1)) : OutOk (withSpawn a0 a1 a2 a3 a4) := by
  unfold withSpawn
  repeat' (first
    | with_reducible assumption | dsimp only | with_reducible (refine OutOk.next ?_) | with_reducible apply h4
    | with_reducible apply trap_wf | with_reducible apply withBlock_wf | split | with_reducible (intro _)
    | with_reducible (refine Ok_fst (by assumption) ?_))

theorem State.countSent_wf {a0} (h0 : memWf a0.mem = true) : memWf ((State.countSent a0)).mem = true := by
  unfold State.countSent
  repeat' (first | with_reducible assumption | with_reducible (refine OutOk.next ?_) | with_reducible apply State.setCore_wf)

theorem State.usesEntry_wf {a0 a1 a2} (h0 : memWf a0.mem = true) : memWf ((State.usesEntry a0 a1 a2)).mem = true := by
  unfold State.usesEntry
  repeat' (first | with_reducible assumption | with_reducible (refine OutOk.next ?_) | with_reducible apply State.fillRm_wf)

theorem State.launchPkt_wf {a0 a1} (h0 : memWf a0.mem = true) : memWf ((State.launchPkt a0 a1)).mem = true := by
  unfold State.launchPkt
  repeat' (first
    | with_reducible assumption | with_reducible (refine OutOk.next ?_) | with_reducible apply State.takeSpawnSeq_wf
    | with_reducible apply State.countSent_wf | with_reducible apply State.takeDelay_wf | with_reducible apply State.post_wf
    | with_reducible apply State.inject_wf)

theorem State.sendMsg_wf {a0 a1 a2} (h0 : memWf a0.mem = true) : memWf ((State.sendMsg a0 a1 a2)).mem = true := by
  unfold State.sendMsg
  repeat' (first
    | with_reducible assumption | dsimp only | with_reducible (refine OutOk.next ?_) | with_reducible apply State.usesEntry_wf
    | with_reducible apply State.launchPkt_wf | with_reducible apply State.report_wf | with_reducible apply State.pipeReport_wf
    | split | with_reducible (intro _) | with_reducible (refine Ok_fst (by assumption) ?_))

theorem recordOp_wf {a0 a1 a2 a3 a4} (h4 : memWf a4.mem = true) : OutOk (recordOp a0 a1 a2 a3 a4) := by
  unfold recordOp
  repeat' (first
    | with_reducible assumption | dsimp only | with_reducible (refine OutOk.next ?_) | with_reducible apply withDest_wf
    | with_reducible apply withBlock_wf | with_reducible apply trap_wf | with_reducible apply done_wf
    | with_reducible apply State.sendMsg_wf | split | with_reducible (intro _)
    | with_reducible (refine Ok_fst (by assumption) ?_))

theorem execRecfwd_wf {a0 a1 a2} (h2 : memWf a2.mem = true) : OutOk (execRecfwd a0 a1 a2) := by
  unfold execRecfwd
  repeat' (first | with_reducible assumption | with_reducible (refine OutOk.next ?_) | with_reducible apply recordOp_wf)

theorem execTwpost_wf {a0 a1 a2 a3} (h3 : memWf a3.mem = true) : OutOk (execTwpost a0 a1 a2 a3) := by
  unfold execTwpost
  repeat' (first
    | with_reducible assumption | dsimp only | with_reducible (refine OutOk.next ?_) | with_reducible apply trap_wf
    | with_reducible apply State.usesEntry_wf | with_reducible apply park_wf | with_reducible apply withBlock_wf
    | with_reducible apply State.finish_wf | with_reducible apply State.await_wf | with_reducible apply State.launchPkt_wf
    | with_reducible apply writeG_wf | split | with_reducible (intro _) | with_reducible (refine Ok_fst (by assumption) ?_))

theorem execKick_wf {a0 a1 a2 a3} (h3 : memWf a3.mem = true) : OutOk (execKick a0 a1 a2 a3) := by
  unfold execKick
  repeat' (first
    | with_reducible assumption | dsimp only | with_reducible (refine OutOk.next ?_) | with_reducible apply trap_wf
    | with_reducible apply withDest_wf | with_reducible apply done_wf | with_reducible apply State.sendMsg_wf | split
    | with_reducible (intro _) | with_reducible (refine Ok_fst (by assumption) ?_))

theorem execSplice_wf {a0 a1 a2} (h2 : memWf a2.mem = true) : OutOk (execSplice a0 a1 a2) := by
  unfold execSplice
  repeat' (first | with_reducible assumption | with_reducible (refine OutOk.next ?_) | with_reducible apply recordOp_wf)

theorem execSpawn_wf {a0 a1 a2 a3} (h3 : memWf a3.mem = true) : OutOk (execSpawn a0 a1 a2 a3) := by
  unfold execSpawn
  repeat' (first
    | with_reducible assumption | dsimp only | with_reducible (refine OutOk.next ?_) | with_reducible apply withSpawn_wf
    | with_reducible apply State.usesEntry_wf | with_reducible apply State.finish_wf | with_reducible apply State.await_wf
    | with_reducible apply State.launchPkt_wf | with_reducible apply writeG_wf | split | with_reducible (intro _)
    | with_reducible (refine Ok_fst (by assumption) ?_))

theorem execSend_wf {a0 a1 a2} (h2 : memWf a2.mem = true) : OutOk (execSend a0 a1 a2) := by
  unfold execSend
  repeat' (first
    | with_reducible assumption | dsimp only | with_reducible (refine OutOk.next ?_) | with_reducible apply withDest_wf
    | with_reducible apply withBlock_wf | with_reducible apply done_wf | with_reducible apply State.sendMsg_wf | split
    | with_reducible (intro _) | with_reducible (refine Ok_fst (by assumption) ?_))

theorem State.applyDecr_wf {a0 a1} (h0 : memWf a0.mem = true) : memWf ((State.applyDecr a0 a1)).mem = true := by
  unfold State.applyDecr
  repeat' (first
    | with_reducible assumption | dsimp only | with_reducible (refine OutOk.next ?_) | with_reducible apply State.applyAtomic_wf
    | with_reducible apply State.pushReady_wf | split | with_reducible (intro _)
    | with_reducible (refine Ok_fst (by assumption) ?_))

theorem execPost_wf {a0 a1 a2} (h2 : memWf a2.mem = true) : OutOk (execPost a0 a1 a2) := by
  unfold execPost
  repeat' (first
    | with_reducible assumption | dsimp only | with_reducible (refine OutOk.next ?_) | with_reducible apply withSpawn_wf
    | with_reducible apply State.usesEntry_wf | with_reducible apply done_wf | with_reducible apply State.launchPkt_wf
    | with_reducible apply State.report_wf | split | with_reducible (intro _) | with_reducible (refine Ok_fst (by assumption) ?_))

theorem execDecr_wf {a0 a1 a2} (h2 : memWf a2.mem = true) : OutOk (execDecr a0 a1 a2) := by
  unfold execDecr
  repeat' (first
    | with_reducible assumption | dsimp only | with_reducible (refine OutOk.next ?_) | with_reducible apply trap_wf
    | with_reducible apply posted_wf | with_reducible apply State.takeSeq_wf | with_reducible apply done_wf
    | with_reducible apply State.applyDecr_wf | with_reducible apply State.sendMem_wf | split | with_reducible (intro _)
    | with_reducible (refine Ok_fst (by assumption) ?_))

theorem execAckx_wf {a0 a1 a2} (h2 : memWf a2.mem = true) : OutOk (execAckx a0 a1 a2) := by
  unfold execAckx
  repeat' (first
    | with_reducible assumption | dsimp only | with_reducible (refine OutOk.next ?_) | with_reducible apply posted_wf
    | with_reducible apply State.takeSeq_wf | with_reducible apply done_wf | with_reducible apply State.applyWrite_wf
    | with_reducible apply State.sendMem_wf | split | with_reducible (intro _)
    | with_reducible (refine Ok_fst (by assumption) ?_))

theorem State.modEntry_wf {a0 a1 a2 a3} (h0 : memWf a0.mem = true) : memWf ((State.modEntry a0 a1 a2 a3)).mem = true := by
  unfold State.modEntry
  repeat' (first | with_reducible assumption | with_reducible (refine OutOk.next ?_) | with_reducible apply State.setCoreAt_wf)

theorem State.countMiss_wf {a0 a1 a2 a3 a4} (h0 : memWf a0.mem = true) : memWf ((State.countMiss a0 a1 a2 a3 a4)).mem = true := by
  unfold State.countMiss
  repeat' (first
    | with_reducible assumption | dsimp only | with_reducible (refine OutOk.next ?_) | with_reducible apply State.setCoreAt_wf
    | with_reducible apply State.modEntry_wf | with_reducible apply State.modAccount_wf | split | with_reducible (intro _)
    | with_reducible (refine Ok_fst (by assumption) ?_))

theorem State.abandonPaused_wf {a0 a1} (h0 : memWf a0.mem = true) : memWf ((State.abandonPaused a0 a1)).mem = true := by
  unfold State.abandonPaused
  repeat' (first
    | with_reducible assumption | dsimp only | with_reducible (refine OutOk.next ?_) | with_reducible apply State.setTileAt_wf
    | with_reducible apply State.post_wf | with_reducible apply Ok_foldl | with_reducible apply Ok_foldl_fst
    | with_reducible (refine Some_ok (by assumption) ?_) | with_reducible (refine Some_ok2 (by assumption) ?_)
    | with_reducible (exact None_ok (by assumption)) | with_reducible (exact None_ok2 (by assumption))
    | with_reducible apply getD_ok | split | with_reducible (intro _) | with_reducible (refine Ok_fst (by assumption) ?_)
    | with_reducible (refine Ok_snd (by assumption) ?_))

theorem State.giveBack_wf {a0 a1 a2} (h0 : memWf a0.mem = true) : memWf ((State.giveBack a0 a1 a2)).mem = true := by
  unfold State.giveBack
  repeat' (first
    | with_reducible assumption | dsimp only | with_reducible (refine OutOk.next ?_) | with_reducible apply State.modAccount_wf
    | split | with_reducible (intro _) | with_reducible (refine Ok_fst (by assumption) ?_))

end Sys2Proof.Machine
end

