-- ==== Sys2Proof/Laws/KeepMemory3.lean ====
section
/-! SUPPORT. Every operation and every meaning keeps the canonical form of memory, and every meaning answers a next state; part 3. -/

namespace Sys2Proof.Machine

theorem State.freeEntry_wf {a0 a1 a2} (h0 : memWf a0.mem = true) : memWf ((State.freeEntry a0 a1 a2)).mem = true := by
  unfold State.freeEntry
  repeat' (first
    | with_reducible assumption | dsimp only | with_reducible (refine OutOk.next ?_) | with_reducible apply State.giveBack_wf
    | with_reducible apply State.setCoreAt_wf | with_reducible apply Ok_foldl | with_reducible apply Ok_foldl_fst
    | with_reducible (refine Some_ok (by assumption) ?_) | with_reducible (refine Some_ok2 (by assumption) ?_)
    | with_reducible (exact None_ok (by assumption)) | with_reducible (exact None_ok2 (by assumption))
    | with_reducible apply getD_ok | split | with_reducible (intro _) | with_reducible (refine Ok_fst (by assumption) ?_)
    | with_reducible (refine Ok_snd (by assumption) ?_))

theorem State.launchEnds_wf {a0 a1} (h0 : memWf a0.mem = true) : memWf ((State.launchEnds a0 a1)).mem = true := by
  unfold State.launchEnds
  repeat' (first
    | with_reducible assumption | dsimp only | with_reducible (refine OutOk.next ?_) | with_reducible apply State.cmdDone_wf
    | with_reducible apply State.post_wf | split | with_reducible (intro _) | with_reducible (refine Ok_fst (by assumption) ?_))

theorem State.dropEntry_wf {a0 a1 a2} (h0 : memWf a0.mem = true) : memWf ((State.dropEntry a0 a1 a2)).mem = true := by
  unfold State.dropEntry
  repeat' (first
    | with_reducible assumption | dsimp only | with_reducible (refine OutOk.next ?_) | with_reducible apply State.freeEntry_wf
    | with_reducible apply State.launchEnds_wf | split | with_reducible (intro _)
    | with_reducible (refine Ok_fst (by assumption) ?_))

theorem State.memberEnds_wf {a0 a1 a2} (h0 : memWf a0.mem = true) : memWf ((State.memberEnds a0 a1 a2)).mem = true := by
  unfold State.memberEnds
  repeat' (first
    | with_reducible assumption | dsimp only | with_reducible (refine OutOk.next ?_) | with_reducible apply State.post_wf
    | with_reducible apply State.setTileAt_wf | with_reducible apply State.gangAbsent_wf | with_reducible apply Ok_foldl
    | with_reducible apply Ok_foldl_fst | with_reducible (refine Some_ok (by assumption) ?_)
    | with_reducible (refine Some_ok2 (by assumption) ?_) | with_reducible (exact None_ok (by assumption))
    | with_reducible (exact None_ok2 (by assumption)) | with_reducible apply getD_ok | split | with_reducible (intro _)
    | with_reducible (refine Ok_fst (by assumption) ?_) | with_reducible (refine Ok_snd (by assumption) ?_))

theorem State.endTask_wf {a0 a1} (h0 : memWf a0.mem = true) : memWf ((State.endTask a0 a1)).mem = true := by
  unfold State.endTask
  repeat' (first
    | with_reducible assumption | dsimp only | with_reducible (refine OutOk.next ?_) | with_reducible apply State.setCtxAt_wf
    | with_reducible apply State.kickCore_wf | with_reducible apply State.countMiss_wf
    | with_reducible apply State.abandonPaused_wf | with_reducible apply State.dropEntry_wf
    | with_reducible apply State.freeSlot_wf | with_reducible apply State.memberEnds_wf | split | with_reducible (intro _)
    | with_reducible (refine Ok_fst (by assumption) ?_))

theorem State.coreTakes_wf {a0 a1 a2} (h0 : memWf a0.mem = true) : memWf ((State.coreTakes a0 a1 a2)).mem = true := by
  unfold State.coreTakes
  repeat' (first
    | with_reducible assumption | with_reducible (refine OutOk.next ?_) | with_reducible apply State.reloadGuards_wf
    | with_reducible apply State.setCoreAt_wf)

theorem State.runEntry_wf {a0 a1 a2} (h0 : memWf a0.mem = true) : memWf ((State.runEntry a0 a1 a2)).mem = true := by
  unfold State.runEntry
  repeat' (first
    | with_reducible assumption | dsimp only | with_reducible (refine OutOk.next ?_) | with_reducible apply State.coreTakes_wf
    | with_reducible apply State.modEntry_wf | with_reducible apply State.setCtxAt_wf | with_reducible apply State.writeWord_wf
    | with_reducible apply State.chargeCtx_wf | split | with_reducible (intro _)
    | with_reducible (refine Ok_fst (by assumption) ?_))

theorem execGangStart_wf {a0} (h0 : memWf a0.mem = true) : OutOk (execGangStart a0) := by
  unfold execGangStart
  repeat' (first
    | with_reducible assumption | dsimp only | with_reducible (refine OutOk.next ?_) | with_reducible apply State.post_wf
    | with_reducible apply State.setTileAt_wf | with_reducible apply State.runEntry_wf | with_reducible apply Ok_foldl
    | with_reducible apply Ok_foldl_fst | with_reducible (refine Some_ok (by assumption) ?_)
    | with_reducible (refine Some_ok2 (by assumption) ?_) | with_reducible (exact None_ok (by assumption))
    | with_reducible (exact None_ok2 (by assumption)) | with_reducible apply getD_ok | split | with_reducible (intro _)
    | with_reducible (refine Ok_fst (by assumption) ?_) | with_reducible (refine Ok_snd (by assumption) ?_))

theorem execWatchdogFire_wf {a0} (h0 : memWf a0.mem = true) : OutOk (execWatchdogFire a0) := by
  unfold execWatchdogFire
  repeat' (first
    | with_reducible assumption | dsimp only | with_reducible (refine OutOk.next ?_) | with_reducible apply State.post_wf
    | with_reducible apply State.report_wf | with_reducible apply State.sendCtl_wf | split | with_reducible (intro _)
    | with_reducible (refine Ok_fst (by assumption) ?_))

theorem execBudgetExhausted_wf {a0} (h0 : memWf a0.mem = true) : OutOk (execBudgetExhausted a0) := by
  unfold execBudgetExhausted
  repeat' (first
    | with_reducible assumption | dsimp only | with_reducible (refine OutOk.next ?_) | with_reducible apply State.enterTrapAt_wf
    | split | with_reducible (intro _) | with_reducible (refine Ok_fst (by assumption) ?_))

theorem execAsyncTrapTaken_wf {a0} (h0 : memWf a0.mem = true) : OutOk (execAsyncTrapTaken a0) := by
  unfold execAsyncTrapTaken
  repeat' (first
    | with_reducible assumption | dsimp only | with_reducible (refine OutOk.next ?_) | with_reducible apply State.setCtxAt_wf
    | with_reducible apply State.enterTrapAt_wf | split | with_reducible (intro _)
    | with_reducible (refine Ok_fst (by assumption) ?_))

theorem State.demote_wf {a0 a1} (h0 : memWf a0.mem = true) : memWf ((State.demote a0 a1)).mem = true := by
  unfold State.demote
  repeat' (first
    | with_reducible assumption | dsimp only | with_reducible (refine OutOk.next ?_) | with_reducible apply State.modEntry_wf
    | with_reducible apply State.countMiss_wf | with_reducible apply State.kickCore_wf | with_reducible apply State.setCtxAt_wf
    | split | with_reducible (intro _) | with_reducible (refine Ok_fst (by assumption) ?_))

theorem State.writeWords_wf {a0 a1 a2} (h0 : memWf a0.mem = true) : memWf ((State.writeWords a0 a1 a2)).mem = true := by
  induction a2 generalizing a0 a1 with
  | nil =>
    unfold State.writeWords
    repeat' (first | with_reducible assumption | with_reducible (refine OutOk.next ?_) | with_reducible apply State.writeWord_wf)
  | cons x l ih =>
    unfold State.writeWords
    repeat' (first | with_reducible apply ih | with_reducible assumption | with_reducible (refine OutOk.next ?_) | with_reducible apply State.writeWord_wf)

theorem State.saveCtx_wf {a0 a1 a2} (h0 : memWf a0.mem = true) : memWf ((State.saveCtx a0 a1 a2)).mem = true := by
  unfold State.saveCtx
  repeat' (first
    | with_reducible assumption | dsimp only | with_reducible (refine OutOk.next ?_) | with_reducible apply State.writeWords_wf
    | with_reducible apply State.writeWord_wf | with_reducible apply State.writeNat_wf | with_reducible apply Ok_foldl
    | with_reducible apply Ok_foldl_fst | with_reducible (refine Some_ok (by assumption) ?_)
    | with_reducible (refine Some_ok2 (by assumption) ?_) | with_reducible (exact None_ok (by assumption))
    | with_reducible (exact None_ok2 (by assumption)) | with_reducible apply getD_ok | split | with_reducible (intro _)
    | with_reducible (refine Ok_fst (by assumption) ?_) | with_reducible (refine Ok_snd (by assumption) ?_))

theorem execContextSaveDone_wf {a0} (h0 : memWf a0.mem = true) : OutOk (execContextSaveDone a0) := by
  unfold execContextSaveDone
  repeat' (first
    | with_reducible assumption | dsimp only | with_reducible (refine OutOk.next ?_) | with_reducible apply State.saveCtx_wf
    | with_reducible apply State.modEntry_wf | with_reducible apply State.pendTrap_wf | with_reducible apply State.setCtxAt_wf
    | with_reducible apply State.post_wf | with_reducible apply State.setTileAt_wf | with_reducible apply State.setCoreAt_wf
    | with_reducible apply State.chargeCause_wf | with_reducible apply State.kickCore_wf | with_reducible apply Ok_foldl
    | with_reducible apply Ok_foldl_fst | with_reducible (refine Some_ok (by assumption) ?_)
    | with_reducible (refine Some_ok2 (by assumption) ?_) | with_reducible (exact None_ok (by assumption))
    | with_reducible (exact None_ok2 (by assumption)) | with_reducible apply getD_ok | split | with_reducible (intro _)
    | with_reducible (refine Ok_fst (by assumption) ?_) | with_reducible (refine Ok_snd (by assumption) ?_))

theorem State.askStop_wf {a0 a1 a2 a3} (h0 : memWf a0.mem = true) : memWf ((State.askStop a0 a1 a2 a3)).mem = true := by
  unfold State.askStop
  repeat' (first
    | with_reducible assumption | dsimp only | with_reducible (refine OutOk.next ?_) | with_reducible apply State.post_wf
    | with_reducible apply Ok_foldl | with_reducible apply Ok_foldl_fst | with_reducible (refine Some_ok (by assumption) ?_)
    | with_reducible (refine Some_ok2 (by assumption) ?_) | with_reducible (exact None_ok (by assumption))
    | with_reducible (exact None_ok2 (by assumption)) | with_reducible apply getD_ok | split | with_reducible (intro _)
    | with_reducible (refine Ok_fst (by assumption) ?_) | with_reducible (refine Ok_snd (by assumption) ?_))

theorem State.preemptFor_wf {a0 a1 a2} (h0 : memWf a0.mem = true) : memWf ((State.preemptFor a0 a1 a2)).mem = true := by
  unfold State.preemptFor
  repeat' (first
    | with_reducible assumption | dsimp only | with_reducible (refine OutOk.next ?_) | with_reducible apply State.askStop_wf
    | split | with_reducible (intro _) | with_reducible (refine Ok_fst (by assumption) ?_))

theorem State.decideAll_wf {a0 a1} (h0 : memWf a0.mem = true) : memWf ((State.decideAll a0 a1)).mem = true := by
  unfold State.decideAll
  repeat' (first
    | with_reducible assumption | dsimp only | with_reducible (refine OutOk.next ?_) | with_reducible apply State.askStop_wf
    | with_reducible apply State.preemptFor_wf | with_reducible apply State.setCoreAt_wf | with_reducible apply Ok_foldl
    | with_reducible apply Ok_foldl_fst | with_reducible (refine Some_ok (by assumption) ?_)
    | with_reducible (refine Some_ok2 (by assumption) ?_) | with_reducible (exact None_ok (by assumption))
    | with_reducible (exact None_ok2 (by assumption)) | with_reducible apply getD_ok | split | with_reducible (intro _)
    | with_reducible (refine Ok_fst (by assumption) ?_) | with_reducible (refine Ok_snd (by assumption) ?_))

theorem State.saveGang_wf {a0 a1} (h0 : memWf a0.mem = true) : memWf ((State.saveGang a0 a1)).mem = true := by
  unfold State.saveGang
  repeat' (first
    | with_reducible assumption | dsimp only | with_reducible (refine OutOk.next ?_) | with_reducible apply State.post_wf | split
    | with_reducible (intro _) | with_reducible (refine Ok_fst (by assumption) ?_))

theorem execPeriodRefill_wf {a0} (h0 : memWf a0.mem = true) : OutOk (execPeriodRefill a0) := by
  unfold execPeriodRefill
  repeat' (first
    | with_reducible assumption | dsimp only | with_reducible (refine OutOk.next ?_) | with_reducible apply State.modAccount_wf
    | with_reducible apply State.postAt_wf | with_reducible apply State.kickWhere_wf | with_reducible apply Ok_foldl
    | with_reducible apply Ok_foldl_fst | with_reducible (refine Some_ok (by assumption) ?_)
    | with_reducible (refine Some_ok2 (by assumption) ?_) | with_reducible (exact None_ok (by assumption))
    | with_reducible (exact None_ok2 (by assumption)) | with_reducible apply getD_ok | split | with_reducible (intro _)
    | with_reducible (refine Ok_fst (by assumption) ?_) | with_reducible (refine Ok_snd (by assumption) ?_))

theorem execDispatch_wf {a0} (h0 : memWf a0.mem = true) : OutOk (execDispatch a0) := by
  unfold execDispatch
  repeat' (first
    | with_reducible assumption | dsimp only | with_reducible (refine OutOk.next ?_) | with_reducible apply State.decideAll_wf
    | with_reducible apply State.setTileAt_wf | with_reducible apply State.post_wf | with_reducible apply State.runEntry_wf
    | split | with_reducible (intro _) | with_reducible (refine Ok_fst (by assumption) ?_))

theorem execStopRequest_wf {a0} (h0 : memWf a0.mem = true) : OutOk (execStopRequest a0) := by
  unfold execStopRequest
  repeat' (first
    | with_reducible assumption | dsimp only | with_reducible (refine OutOk.next ?_) | with_reducible apply State.saveGang_wf
    | with_reducible apply State.post_wf | with_reducible apply State.setCtxAt_wf | split | with_reducible (intro _)
    | with_reducible (refine Ok_fst (by assumption) ?_))

theorem execHbeat_wf {a0} (h0 : memWf a0.mem = true) : OutOk (execHbeat a0) := by
  unfold execHbeat
  repeat' (first
    | with_reducible assumption | with_reducible (refine OutOk.next ?_) | with_reducible apply done_wf
    | with_reducible apply State.modAccount_wf)

theorem State.credit_wf {a0 a1 a2 a3 a4} (h0 : memWf a0.mem = true) : memWf ((State.credit a0 a1 a2 a3 a4)).mem = true := by
  unfold State.credit
  repeat' (first
    | with_reducible assumption | dsimp only | with_reducible (refine OutOk.next ?_) | with_reducible apply State.modAccount_wf
    | with_reducible apply State.setCtxAt_wf | with_reducible apply State.modEntry_wf | split | with_reducible (intro _)
    | with_reducible (refine Ok_fst (by assumption) ?_))

theorem execBudget_wf {a0 a1 a2} (h2 : memWf a2.mem = true) : OutOk (execBudget a0 a1 a2) := by
  unfold execBudget
  repeat' (first
    | with_reducible assumption | dsimp only | with_reducible (refine OutOk.next ?_) | with_reducible apply writeG_wf
    | with_reducible apply trap_wf | split | with_reducible (intro _) | with_reducible (refine Ok_fst (by assumption) ?_))

theorem State.draw_wf {a0 a1 a2 a3 a4 a5 a6} (h0 : memWf a0.mem = true) : memWf ((State.draw a0 a1 a2 a3 a4 a5 a6).1).mem = true := by
  unfold State.draw
  repeat' (first
    | with_reducible assumption | dsimp only | with_reducible (refine OutOk.next ?_) | with_reducible apply State.writeHome_wf
    | split | with_reducible (intro _) | with_reducible (refine Ok_fst (by assumption) ?_))

theorem execCntrd_wf {a0 a1 a2} (h2 : memWf a2.mem = true) : OutOk (execCntrd a0 a1 a2) := by
  unfold execCntrd
  repeat' (first
    | with_reducible assumption | dsimp only | with_reducible (refine OutOk.next ?_) | with_reducible apply trap_wf
    | with_reducible apply writeG_wf | split | with_reducible (intro _) | with_reducible (refine Ok_fst (by assumption) ?_))

theorem execBadd_wf {a0 a1 a2 a3} (h3 : memWf a3.mem = true) : OutOk (execBadd a0 a1 a2 a3) := by
  unfold execBadd
  repeat' (first
    | with_reducible assumption | dsimp only | with_reducible (refine OutOk.next ?_) | with_reducible apply needS_wf
    | with_reducible apply trap_wf | with_reducible apply State.takeSeq_wf | with_reducible apply writeG_wf
    | with_reducible apply State.holdTrap_wf | with_reducible apply State.logRefused_wf | with_reducible apply State.draw_wf
    | with_reducible apply State.credit_wf | with_reducible apply State.sendMem_wf | with_reducible apply done_wf
    | with_reducible apply State.setCtx_wf | split | with_reducible (intro _) | with_reducible (refine Ok_fst (by assumption) ?_))

theorem State.uncredit_wf {a0 a1} (h0 : memWf a0.mem = true) : memWf ((State.uncredit a0 a1)).mem = true := by
  unfold State.uncredit
  repeat' (first
    | with_reducible assumption | dsimp only | with_reducible (refine OutOk.next ?_) | with_reducible apply State.setCoreAt_wf
    | with_reducible apply State.post_wf | split | with_reducible (intro _) | with_reducible (refine Ok_fst (by assumption) ?_))

theorem State.holdAtPort_wf {a0 a1 a2} (h0 : memWf a0.mem = true) : memWf ((State.holdAtPort a0 a1 a2)).mem = true := by
  unfold State.holdAtPort
  repeat' (first | with_reducible assumption | with_reducible (refine OutOk.next ?_) | with_reducible apply State.setTileAt_wf)

theorem State.passPort_wf {a0 a1} (h0 : memWf a0.mem = true) : memWf ((State.passPort a0 a1)).mem = true := by
  unfold State.passPort
  repeat' (first
    | with_reducible assumption | dsimp only | with_reducible (refine OutOk.next ?_) | with_reducible apply State.post_wf | split
    | with_reducible (intro _) | with_reducible (refine Ok_fst (by assumption) ?_))

theorem State.reaim_wf {a0 a1 a2 a3} (h0 : memWf a0.mem = true) : memWf ((State.reaim a0 a1 a2 a3)).mem = true := by
  unfold State.reaim
  repeat' (first | with_reducible assumption | with_reducible (refine OutOk.next ?_) | with_reducible apply State.setPkt_wf)

theorem State.sendOn_wf {a0 a1 a2 a3} (h0 : memWf a0.mem = true) : memWf ((State.sendOn a0 a1 a2 a3)).mem = true := by
  unfold State.sendOn
  repeat' (first
    | with_reducible assumption | dsimp only | with_reducible (refine OutOk.next ?_) | with_reducible apply State.post_wf
    | with_reducible apply State.reaim_wf | with_reducible apply State.uncredit_wf | split | with_reducible (intro _)
    | with_reducible (refine Ok_fst (by assumption) ?_))

theorem State.forwardPkt_wf {a0 a1 a2} (h0 : memWf a0.mem = true) : memWf ((State.forwardPkt a0 a1 a2)).mem = true := by
  unfold State.forwardPkt
  repeat' (first
    | with_reducible assumption | dsimp only | with_reducible (refine OutOk.next ?_) | with_reducible apply State.passPort_wf
    | with_reducible apply State.reaim_wf | with_reducible apply State.sendOn_wf | split | with_reducible (intro _)
    | with_reducible (refine Ok_fst (by assumption) ?_))

theorem State.deliver_wf {a0 a1 a2} (h0 : memWf a0.mem = true) (h2 : ∀ y0 y1, memWf y0.mem = true → memWf ((a2 y0 y1)).mem = true) : memWf ((State.deliver a0 a1 a2)).mem = true := by
  unfold State.deliver
  repeat' (first
    | with_reducible assumption | dsimp only | with_reducible (refine OutOk.next ?_) | with_reducible apply h2
    | with_reducible apply State.consume_wf | with_reducible apply State.uncredit_wf | with_reducible apply State.pipeReport_wf
    | with_reducible apply State.tellDrop_wf | with_reducible apply State.standBy_wf | with_reducible apply State.holdAtPort_wf
    | with_reducible apply State.forwardPkt_wf | with_reducible apply State.post_wf | split | with_reducible (intro _)
    | with_reducible (refine Ok_fst (by assumption) ?_))

theorem delivered_wf {a0 a1} (h0 : memWf a0.mem = true) (h1 : ∀ y0 y1, memWf y0.mem = true → memWf ((a1 y0 y1)).mem = true) : OutOk (delivered a0 a1) := by
  unfold delivered
  repeat' (first
    | with_reducible assumption | dsimp only | with_reducible (refine OutOk.next ?_) | with_reducible apply h1
    | with_reducible apply State.deliver_wf | split | with_reducible (intro _)
    | with_reducible (refine Ok_fst (by assumption) ?_))

theorem execSendArrival_wf {a0} (h0 : memWf a0.mem = true) : OutOk (execSendArrival a0) := by
  unfold execSendArrival
  repeat' (first
    | with_reducible assumption | with_reducible (refine OutOk.next ?_) | with_reducible apply delivered_wf
    | with_reducible apply State.arrive_wf)

theorem State.testSpawn_wf {a0 a1 a2} (h0 : memWf a0.mem = true) : memWf ((State.testSpawn a0 a1 a2).1).mem = true := by
  unfold State.testSpawn
  repeat' (first
    | with_reducible assumption | dsimp only | with_reducible (refine OutOk.next ?_) | with_reducible apply State.admitTask_wf
    | with_reducible apply State.admitCode_wf | with_reducible apply State.noteCode_wf | with_reducible apply State.placeIn_wf
    | with_reducible apply State.freeSlot_wf | split | with_reducible (intro _)
    | with_reducible (refine Ok_fst (by assumption) ?_))

theorem State.reply_wf {a0 a1 a2} (h0 : memWf a0.mem = true) : memWf ((State.reply a0 a1 a2)).mem = true := by
  unfold State.reply
  repeat' (first
    | with_reducible assumption | with_reducible (refine OutOk.next ?_) | with_reducible apply State.takeDelay_wf
    | with_reducible apply State.wakeHeld_wf | with_reducible apply State.setPkt_wf | with_reducible apply State.post_wf)

theorem execSpawnArrival_wf {a0} (h0 : memWf a0.mem = true) : OutOk (execSpawnArrival a0) := by
  unfold execSpawnArrival
  repeat' (first
    | with_reducible assumption | dsimp only | with_reducible (refine OutOk.next ?_) | with_reducible apply delivered_wf
    | with_reducible apply State.testSpawn_wf | with_reducible apply State.reply_wf | split | with_reducible (intro _)
    | with_reducible (refine Ok_fst (by assumption) ?_))

theorem State.answerMoved_wf {a0 a1} (h0 : memWf a0.mem = true) : memWf ((State.answerMoved a0 a1)).mem = true := by
  unfold State.answerMoved
  repeat' (first
    | with_reducible assumption | with_reducible (refine OutOk.next ?_) | with_reducible apply State.post_wf
    | with_reducible apply State.wakeHeld_wf | with_reducible apply State.setPkt_wf)

theorem State.replyErr_wf {a0 a1 a2 a3} (h0 : memWf a0.mem = true) : memWf ((State.replyErr a0 a1 a2 a3)).mem = true := by
  unfold State.replyErr
  repeat' (first
    | with_reducible assumption | with_reducible (refine OutOk.next ?_) | with_reducible apply State.takeDelay_wf
    | with_reducible apply State.wakeHeld_wf | with_reducible apply State.setPkt_wf | with_reducible apply State.post_wf)

theorem State.refuseAt_wf {a0 a1 a2} (h0 : memWf a0.mem = true) : memWf ((State.refuseAt a0 a1 a2)).mem = true := by
  unfold State.refuseAt
  repeat' (first
    | with_reducible assumption | dsimp only | with_reducible (refine OutOk.next ?_) | with_reducible apply State.faultEntry_wf
    | with_reducible apply State.replyErr_wf | split | with_reducible (intro _)
    | with_reducible (refine Ok_fst (by assumption) ?_))

theorem atHome_wf {a0 a1} (h0 : memWf a0.mem = true) (h1 : ∀ y0, memWf ((a1 y0)).mem = true) : OutOk (atHome a0 a1) := by
  unfold atHome
  repeat' (first
    | with_reducible assumption | dsimp only | with_reducible (refine OutOk.next ?_) | with_reducible apply h1
    | with_reducible apply State.standBy_wf | with_reducible apply State.answerMoved_wf | with_reducible apply State.refuseAt_wf
    | split | with_reducible (intro _) | with_reducible (refine Ok_fst (by assumption) ?_))

theorem State.ackPkt_wf {a0 a1} (h0 : memWf a0.mem = true) : memWf ((State.ackPkt a0 a1)).mem = true := by
  unfold State.ackPkt
  repeat' (first
    | with_reducible assumption | with_reducible (refine OutOk.next ?_) | with_reducible apply State.takeDelay_wf
    | with_reducible apply State.wakeHeld_wf | with_reducible apply State.setPkt_wf | with_reducible apply State.post_wf)

theorem execDecrAtHome_wf {a0} (h0 : memWf a0.mem = true) : OutOk (execDecrAtHome a0) := by
  unfold execDecrAtHome
  repeat' (first
    | with_reducible assumption | dsimp only | with_reducible (refine OutOk.next ?_) | with_reducible apply atHome_wf
    | with_reducible apply State.refuseAt_wf | with_reducible apply State.ackPkt_wf | with_reducible apply State.applyDecr_wf
    | split | with_reducible (intro _) | with_reducible (refine Ok_fst (by assumption) ?_))

theorem State.releasePort_wf {a0 a1} (h0 : memWf a0.mem = true) : memWf ((State.releasePort a0 a1)).mem = true := by
  unfold State.releasePort
  repeat' (first
    | with_reducible assumption | dsimp only | with_reducible (refine OutOk.next ?_) | with_reducible apply State.post_wf
    | with_reducible apply State.setTileAt_wf | with_reducible apply Ok_foldl | with_reducible apply Ok_foldl_fst
    | with_reducible (refine Some_ok (by assumption) ?_) | with_reducible (refine Some_ok2 (by assumption) ?_)
    | with_reducible (exact None_ok (by assumption)) | with_reducible (exact None_ok2 (by assumption))
    | with_reducible apply getD_ok | split | with_reducible (intro _) | with_reducible (refine Ok_fst (by assumption) ?_)
    | with_reducible (refine Ok_snd (by assumption) ?_))

theorem State.refreshRm_wf {a0 a1 a2 a3} (h0 : memWf a0.mem = true) : memWf ((State.refreshRm a0 a1 a2 a3)).mem = true := by
  unfold State.refreshRm
  repeat' (first
    | with_reducible assumption | with_reducible (refine OutOk.next ?_) | with_reducible apply State.fillRm_wf
    | with_reducible apply State.setTileAt_wf)

theorem State.slotElems_wf {a0 a1 a2 a3 a4} (h0 : memWf a0.mem = true) : memWf ((State.slotElems a0 a1 a2 a3 a4)).mem = true := by
  induction a3 generalizing a0 a1 a2 a4 with
  | nil =>
    unfold State.slotElems
    repeat' (first | with_reducible assumption | with_reducible (refine OutOk.next ?_) | with_reducible apply State.writeBytes_wf)
  | cons x l ih =>
    unfold State.slotElems
    repeat' (first | with_reducible apply ih | with_reducible assumption | with_reducible (refine OutOk.next ?_) | with_reducible apply State.writeBytes_wf)

theorem State.deliverSlot_wf {a0 a1 a2 a3} (h0 : memWf a0.mem = true) : memWf ((State.deliverSlot a0 a1 a2 a3)).mem = true := by
  unfold State.deliverSlot
  repeat' (first
    | with_reducible assumption | dsimp only | with_reducible (refine OutOk.next ?_) | with_reducible apply State.writeWord_wf
    | with_reducible apply State.slotElems_wf | split | with_reducible (intro _)
    | with_reducible (refine Ok_fst (by assumption) ?_))

theorem execBaddGrant_wf {a0} (h0 : memWf a0.mem = true) : OutOk (execBaddGrant a0) := by
  unfold execBaddGrant
  repeat' (first
    | with_reducible assumption | dsimp only | with_reducible (refine OutOk.next ?_) | with_reducible apply State.dropPkt_wf
    | with_reducible apply State.wakeHeld_wf | with_reducible apply State.credit_wf | with_reducible apply State.setCtxAt_wf
    | with_reducible apply State.deliverSlot_wf | with_reducible apply State.writeWord_wf
    | with_reducible apply State.modAccount_wf | with_reducible apply State.modEntry_wf | split | with_reducible (intro _)
    | with_reducible (refine Ok_fst (by assumption) ?_))

theorem State.losePkt_wf {a0 a1} (h0 : memWf a0.mem = true) : memWf ((State.losePkt a0 a1)).mem = true := by
  unfold State.losePkt
  repeat' (first
    | with_reducible assumption | with_reducible (refine OutOk.next ?_) | with_reducible apply State.consume_wf
    | with_reducible apply State.faultEntry_wf)

theorem execMalformedHeaderDrop_wf {a0} (h0 : memWf a0.mem = true) : OutOk (execMalformedHeaderDrop a0) := by
  unfold execMalformedHeaderDrop
  repeat' (first
    | with_reducible assumption | dsimp only | with_reducible (refine OutOk.next ?_) | with_reducible apply State.losePkt_wf
    | split | with_reducible (intro _) | with_reducible (refine Ok_fst (by assumption) ?_))

theorem execKickArrival_wf {a0} (h0 : memWf a0.mem = true) : OutOk (execKickArrival a0) := by
  unfold execKickArrival
  repeat' (first
    | with_reducible assumption | with_reducible (refine OutOk.next ?_) | with_reducible apply delivered_wf
    | with_reducible apply State.arrive_wf)

theorem State.roleLost_wf {a0 a1 a2} (h0 : memWf a0.mem = true) : memWf ((State.roleLost a0 a1 a2)).mem = true := by
  unfold State.roleLost
  repeat' (first
    | with_reducible assumption | dsimp only | with_reducible (refine OutOk.next ?_) | with_reducible apply State.pipeReport_wf
    | with_reducible apply State.consume_wf | with_reducible apply State.tellDrop_wf | with_reducible apply State.raiseOn_wf
    | with_reducible apply State.replyErr_wf | split | with_reducible (intro _)
    | with_reducible (refine Ok_fst (by assumption) ?_))

theorem State.resendOrRole_wf {a0 a1 a2} (h0 : memWf a0.mem = true) : memWf ((State.resendOrRole a0 a1 a2)).mem = true := by
  unfold State.resendOrRole
  repeat' (first
    | with_reducible assumption | dsimp only | with_reducible (refine OutOk.next ?_) | with_reducible apply State.passPort_wf
    | with_reducible apply State.reaim_wf | with_reducible apply State.sendOn_wf | with_reducible apply State.roleLost_wf
    | with_reducible apply State.uncredit_wf | split | with_reducible (intro _)
    | with_reducible (refine Ok_fst (by assumption) ?_))

theorem State.baddRefused_wf {a0 a1 a2} (h0 : memWf a0.mem = true) : memWf ((State.baddRefused a0 a1 a2)).mem = true := by
  unfold State.baddRefused
  repeat' (first
    | with_reducible assumption | dsimp only | with_reducible (refine OutOk.next ?_) | with_reducible apply State.holdTrap_wf
    | with_reducible apply State.setCtxAt_wf | with_reducible apply State.deliverSlot_wf | with_reducible apply State.pendTrap_wf
    | with_reducible apply State.modEntry_wf | split | with_reducible (intro _)
    | with_reducible (refine Ok_fst (by assumption) ?_))

theorem State.rewalk_wf {a0 a1} (h0 : memWf a0.mem = true) : memWf ((State.rewalk a0 a1)).mem = true := by
  unfold State.rewalk
  repeat' (first
    | with_reducible assumption | dsimp only | with_reducible (refine OutOk.next ?_) | with_reducible apply State.translateAt_wf
    | with_reducible apply State.dropPage_wf | with_reducible apply State.refuseAt_wf | with_reducible apply State.post_wf
    | with_reducible apply State.setPkt_wf | split | with_reducible (intro _) | with_reducible (refine Ok_fst (by assumption) ?_))

theorem execWriteAckArrival_wf {a0} (h0 : memWf a0.mem = true) : OutOk (execWriteAckArrival a0) := by
  unfold execWriteAckArrival
  repeat' (first
    | with_reducible assumption | with_reducible (refine OutOk.next ?_) | with_reducible apply State.wakeHeld_wf
    | with_reducible apply State.dropPkt_wf)

theorem State.deliverLive_wf {a0 a1 a2} (h0 : memWf a0.mem = true) : memWf ((State.deliverLive a0 a1 a2)).mem = true := by
  unfold State.deliverLive
  repeat' (first
    | with_reducible assumption | dsimp only | with_reducible (refine OutOk.next ?_) | with_reducible apply State.setCtxAt_wf
    | with_reducible apply State.wakeHeld_wf | with_reducible apply State.dropPkt_wf | with_reducible apply Ok_foldl
    | with_reducible apply Ok_foldl_fst | with_reducible (refine Some_ok (by assumption) ?_)
    | with_reducible (refine Some_ok2 (by assumption) ?_) | with_reducible (exact None_ok (by assumption))
    | with_reducible (exact None_ok2 (by assumption)) | with_reducible apply getD_ok | split | with_reducible (intro _)
    | with_reducible (refine Ok_fst (by assumption) ?_) | with_reducible (refine Ok_snd (by assumption) ?_))

theorem State.deliverSaved_wf {a0 a1 a2 a3} (h0 : memWf a0.mem = true) : memWf ((State.deliverSaved a0 a1 a2 a3)).mem = true := by
  unfold State.deliverSaved
  repeat' (first
    | with_reducible assumption | dsimp only | with_reducible (refine OutOk.next ?_) | with_reducible apply State.deliverSlot_wf
    | with_reducible apply State.modEntry_wf | with_reducible apply State.wakeHeld_wf | with_reducible apply State.dropPkt_wf
    | with_reducible apply Ok_foldl | with_reducible apply Ok_foldl_fst | with_reducible (refine Some_ok (by assumption) ?_)
    | with_reducible (refine Some_ok2 (by assumption) ?_) | with_reducible (exact None_ok (by assumption))
    | with_reducible (exact None_ok2 (by assumption)) | with_reducible apply getD_ok | split | with_reducible (intro _)
    | with_reducible (refine Ok_fst (by assumption) ?_) | with_reducible (refine Ok_snd (by assumption) ?_))

theorem execResponseArrival_wf {a0} (h0 : memWf a0.mem = true) : OutOk (execResponseArrival a0) := by
  unfold execResponseArrival
  repeat' (first
    | with_reducible assumption | dsimp only | with_reducible (refine OutOk.next ?_) | with_reducible apply State.setPkt_wf
    | with_reducible apply State.deliverLive_wf | with_reducible apply State.deliverSaved_wf
    | with_reducible apply State.wakeHeld_wf | with_reducible apply State.dropPkt_wf | split | with_reducible (intro _)
    | with_reducible (refine Ok_fst (by assumption) ?_))

theorem execPortPacketArrival_wf {a0} (h0 : memWf a0.mem = true) : OutOk (execPortPacketArrival a0) := by
  unfold execPortPacketArrival
  repeat' (first
    | with_reducible assumption | dsimp only | with_reducible (refine OutOk.next ?_) | with_reducible apply State.holdAtPort_wf
    | with_reducible apply State.post_wf | with_reducible apply State.forwardPkt_wf | with_reducible apply State.answerMoved_wf
    | split | with_reducible (intro _) | with_reducible (refine Ok_fst (by assumption) ?_))

theorem execAckxAtHome_wf {a0} (h0 : memWf a0.mem = true) : OutOk (execAckxAtHome a0) := by
  unfold execAckxAtHome
  repeat' (first
    | with_reducible assumption | dsimp only | with_reducible (refine OutOk.next ?_) | with_reducible apply atHome_wf
    | with_reducible apply State.ackPkt_wf | with_reducible apply State.applyWrite_wf | split | with_reducible (intro _)
    | with_reducible (refine Ok_fst (by assumption) ?_))

theorem execWriteAtHome_wf {a0} (h0 : memWf a0.mem = true) : OutOk (execWriteAtHome a0) := by
  unfold execWriteAtHome
  repeat' (first
    | with_reducible assumption | dsimp only | with_reducible (refine OutOk.next ?_) | with_reducible apply atHome_wf
    | with_reducible apply State.ackPkt_wf | with_reducible apply State.applyWrite_wf | split | with_reducible (intro _)
    | with_reducible (refine Ok_fst (by assumption) ?_))

theorem execPostArrival_wf {a0} (h0 : memWf a0.mem = true) : OutOk (execPostArrival a0) := by
  unfold execPostArrival
  repeat' (first
    | with_reducible assumption | dsimp only | with_reducible (refine OutOk.next ?_) | with_reducible apply delivered_wf
    | with_reducible apply State.testSpawn_wf | with_reducible apply State.consume_wf | with_reducible apply State.report_wf
    | split | with_reducible (intro _) | with_reducible (refine Ok_fst (by assumption) ?_))

theorem execMovedArrival_wf {a0} (h0 : memWf a0.mem = true) : OutOk (execMovedArrival a0) := by
  unfold execMovedArrival
  split
  · exact OutOk.next h0
  · rename_i p _
    extract_lets l s1 e
    split
    · exact OutOk.next (State.rewalk_wf h0)
    · have h1 : memWf s1.mem = true := by
        simp only [s1]; split
        · exact h0
        · exact State.refreshRm_wf h0
      clear_value s1 e
      split
      · exact OutOk.next (State.roleLost_wf (State.uncredit_wf h1))
      · split
        · exact OutOk.next (State.post_wf h1)
        · exact OutOk.next (State.resendOrRole_wf h1)

theorem execMovedReread_wf {a0} (h0 : memWf a0.mem = true) : OutOk (execMovedReread a0) := by
  unfold execMovedReread
  split
  · exact OutOk.next h0
  · rename_i p _
    extract_lets l s1 e
    have h1 : memWf s1.mem = true := by
      simp only [s1]; split
      · exact h0
      · exact State.refreshRm_wf h0
    clear_value s1 e
    split
    · exact OutOk.next (State.post_wf h1)
    · exact OutOk.next (State.resendOrRole_wf h1)

theorem execReadAtHome_wf {a0} (h0 : memWf a0.mem = true) : OutOk (execReadAtHome a0) := by
  unfold execReadAtHome
  repeat' (first
    | with_reducible assumption | dsimp only | with_reducible (refine OutOk.next ?_) | with_reducible apply atHome_wf
    | with_reducible apply State.refuseAt_wf | with_reducible apply State.reply_wf | split | with_reducible (intro _)
    | with_reducible (refine Ok_fst (by assumption) ?_))

theorem State.forget_wf {a0 a1} (h0 : memWf a0.mem = true) : memWf ((State.forget a0 a1)).mem = true := by
  unfold State.forget
  repeat' (first
    | with_reducible assumption | dsimp only | with_reducible (refine OutOk.next ?_) | with_reducible apply State.dropPkt_wf
    | with_reducible apply Ok_foldl | with_reducible apply Ok_foldl_fst | with_reducible (refine Some_ok (by assumption) ?_)
    | with_reducible (refine Some_ok2 (by assumption) ?_) | with_reducible (exact None_ok (by assumption))
    | with_reducible (exact None_ok2 (by assumption)) | with_reducible apply getD_ok | split | with_reducible (intro _)
    | with_reducible (refine Ok_fst (by assumption) ?_) | with_reducible (refine Ok_snd (by assumption) ?_))

theorem execAtomicAtUnit_wf {a0} (h0 : memWf a0.mem = true) : OutOk (execAtomicAtUnit a0) := by
  unfold execAtomicAtUnit
  repeat' (first
    | with_reducible assumption | dsimp only | with_reducible (refine OutOk.next ?_) | with_reducible apply atHome_wf
    | with_reducible apply State.refuseAt_wf | with_reducible apply State.draw_wf | with_reducible apply State.takeDelay_wf
    | with_reducible apply State.wakeHeld_wf | with_reducible apply State.setPkt_wf | with_reducible apply State.post_wf
    | with_reducible apply State.applyAtomic_wf | with_reducible apply State.ackPkt_wf | with_reducible apply State.reply_wf
    | split | with_reducible (intro _) | with_reducible (refine Ok_fst (by assumption) ?_))

theorem execErrorResponseArrival_wf {a0} (h0 : memWf a0.mem = true) : OutOk (execErrorResponseArrival a0) := by
  unfold execErrorResponseArrival
  repeat' (first
    | with_reducible assumption | dsimp only | with_reducible (refine OutOk.next ?_) | with_reducible apply State.dropPkt_wf
    | with_reducible apply State.wakeHeld_wf | with_reducible apply State.baddRefused_wf | with_reducible apply State.setCtxAt_wf
    | with_reducible apply State.forget_wf | with_reducible apply State.enterTrapAt_wf | with_reducible apply State.writeWord_wf
    | with_reducible apply State.modEntry_wf | with_reducible apply State.pendTrap_wf | with_reducible apply State.raiseOn_wf
    | split | with_reducible (intro _) | with_reducible (refine Ok_fst (by assumption) ?_))

theorem execReleaseHoldEnd_wf {a0} (h0 : memWf a0.mem = true) : OutOk (execReleaseHoldEnd a0) := by
  unfold execReleaseHoldEnd
  repeat' (first
    | with_reducible assumption | dsimp only | with_reducible (refine OutOk.next ?_) | with_reducible apply atHome_wf
    | with_reducible apply State.ackPkt_wf | with_reducible apply State.applyWrite_wf | split | with_reducible (intro _)
    | with_reducible (refine Ok_fst (by assumption) ?_))

theorem State.spareRow_wf {a0 a1} (h0 : memWf a0.mem = true) : memWf ((State.spareRow a0 a1)).mem = true := by
  unfold State.spareRow
  repeat' (first | with_reducible assumption | with_reducible (refine OutOk.next ?_) | with_reducible apply State.post_wf)

theorem execRefetchDone_wf {a0} (h0 : memWf a0.mem = true) : OutOk (execRefetchDone a0) := by
  unfold execRefetchDone
  repeat' (first
    | with_reducible assumption | dsimp only | with_reducible (refine OutOk.next ?_) | with_reducible apply State.post_wf
    | with_reducible apply State.setColAt_wf | with_reducible apply State.wakeHeld_wf | with_reducible apply State.spareRow_wf
    | with_reducible apply copyMem_wf | split | with_reducible (intro _) | with_reducible (refine Ok_fst (by assumption) ?_))

theorem State.flipBits_wf {a0 a1 a2} (h0 : memWf a0.mem = true) : memWf ((State.flipBits a0 a1 a2)).mem = true := by
  unfold State.flipBits
  repeat' (first
    | with_reducible assumption | dsimp only | with_reducible (refine OutOk.next ?_) | with_reducible apply State.writeNat_wf
    | with_reducible apply Ok_foldl | with_reducible apply Ok_foldl_fst | with_reducible (refine Some_ok (by assumption) ?_)
    | with_reducible (refine Some_ok2 (by assumption) ?_) | with_reducible (exact None_ok (by assumption))
    | with_reducible (exact None_ok2 (by assumption)) | with_reducible apply getD_ok | split | with_reducible (intro _)
    | with_reducible (refine Ok_fst (by assumption) ?_) | with_reducible (refine Ok_snd (by assumption) ?_))

theorem State.replace_wf {a0} (h0 : memWf a0.mem = true) : memWf ((State.replace a0)).mem = true := by
  unfold State.replace
  repeat' (first
    | with_reducible assumption | dsimp only | with_reducible (refine OutOk.next ?_) | with_reducible apply State.post_wf
    | with_reducible apply Ok_foldl | with_reducible apply Ok_foldl_fst | with_reducible (refine Some_ok (by assumption) ?_)
    | with_reducible (refine Some_ok2 (by assumption) ?_) | with_reducible (exact None_ok (by assumption))
    | with_reducible (exact None_ok2 (by assumption)) | with_reducible apply getD_ok | split | with_reducible (intro _)
    | with_reducible (refine Ok_fst (by assumption) ?_) | with_reducible (refine Ok_snd (by assumption) ?_))

theorem State.putLeaf_wf {a0 a1 a2 a3} (h0 : memWf a0.mem = true) : memWf ((State.putLeaf a0 a1 a2 a3)).mem = true := by
  unfold State.putLeaf
  repeat' (first | with_reducible assumption | with_reducible (refine OutOk.next ?_) | with_reducible apply State.writeNat_wf)

theorem State.copyFrames_wf {a0 a1 a2 a3} (h0 : memWf a0.mem = true) : memWf ((State.copyFrames a0 a1 a2 a3)).mem = true := by
  unfold State.copyFrames
  repeat' (first | with_reducible assumption | with_reducible (refine OutOk.next ?_) | with_reducible apply copyMem_wf)

theorem State.demoteNow_wf {a0 a1} (h0 : memWf a0.mem = true) : memWf ((State.demoteNow a0 a1)).mem = true := by
  unfold State.demoteNow
  repeat' (first
    | with_reducible assumption | dsimp only | with_reducible (refine OutOk.next ?_) | with_reducible apply State.putLeaf_wf
    | with_reducible apply State.copyFrames_wf | with_reducible apply State.setColAt_wf | with_reducible apply Ok_foldl
    | with_reducible apply Ok_foldl_fst | with_reducible (refine Some_ok (by assumption) ?_)
    | with_reducible (refine Some_ok2 (by assumption) ?_) | with_reducible (exact None_ok (by assumption))
    | with_reducible (exact None_ok2 (by assumption)) | with_reducible apply getD_ok | split | with_reducible (intro _)
    | with_reducible (refine Ok_fst (by assumption) ?_) | with_reducible (refine Ok_snd (by assumption) ?_))

theorem execRowSpareRemap_wf {a0} (h0 : memWf a0.mem = true) : OutOk (execRowSpareRemap a0) := by
  unfold execRowSpareRemap
  repeat' (first
    | with_reducible assumption | dsimp only | with_reducible (refine OutOk.next ?_) | with_reducible apply State.wakeHeld_wf
    | with_reducible apply State.setColAt_wf | with_reducible apply State.post_wf | with_reducible apply State.replace_wf
    | with_reducible apply State.demoteNow_wf | split | with_reducible (intro _)
    | with_reducible (refine Ok_fst (by assumption) ?_))

theorem State.tierServed_wf {a0 a1} (h0 : memWf a0.mem = true) : memWf ((State.tierServed a0 a1)).mem = true := by
  unfold State.tierServed
  repeat' (first | with_reducible assumption | with_reducible (refine OutOk.next ?_))

theorem State.markMoving_wf {a0 a1 a2} (h0 : memWf a0.mem = true) : memWf ((State.markMoving a0 a1 a2)).mem = true := by
  unfold State.markMoving
  repeat' (first | with_reducible assumption | with_reducible (refine OutOk.next ?_) | with_reducible apply State.writeWord_wf)

theorem State.beginMove_wf {a0 a1 a2 a3 a4 a5} (h0 : memWf a0.mem = true) : memWf ((State.beginMove a0 a1 a2 a3 a4 a5)).mem = true := by
  unfold State.beginMove
  repeat' (first
    | with_reducible assumption | dsimp only | with_reducible (refine OutOk.next ?_) | with_reducible apply State.post_wf
    | with_reducible apply State.markMoving_wf | with_reducible apply Ok_foldl | with_reducible apply Ok_foldl_fst
    | with_reducible (refine Some_ok (by assumption) ?_) | with_reducible (refine Some_ok2 (by assumption) ?_)
    | with_reducible (exact None_ok (by assumption)) | with_reducible (exact None_ok2 (by assumption))
    | with_reducible apply getD_ok | split | with_reducible (intro _) | with_reducible (refine Ok_fst (by assumption) ?_)
    | with_reducible (refine Ok_snd (by assumption) ?_))

theorem State.modTier_wf {a0 a1 a2 a3} (h0 : memWf a0.mem = true) : memWf ((State.modTier a0 a1 a2 a3)).mem = true := by
  unfold State.modTier
  repeat' (first
    | with_reducible assumption | dsimp only | with_reducible (refine OutOk.next ?_) | with_reducible apply State.setRegion_wf
    | split | with_reducible (intro _) | with_reducible (refine Ok_fst (by assumption) ?_))

theorem State.unpinPf_wf {a0 a1 a2} (h0 : memWf a0.mem = true) : memWf ((State.unpinPf a0 a1 a2)).mem = true := by
  unfold State.unpinPf
  repeat' (first
    | with_reducible assumption | dsimp only | with_reducible (refine OutOk.next ?_) | with_reducible apply State.setRegion_wf
    | split | with_reducible (intro _) | with_reducible (refine Ok_fst (by assumption) ?_))

theorem State.evictPage_wf {a0 a1 a2 a3} (h0 : memWf a0.mem = true) : ∀ t, (State.evictPage a0 a1 a2 a3) = some t → memWf t.mem = true := by
  intro t e
  unfold State.evictPage at e
  split at e
  · cases e; exact h0
  · split at e
    · cases e; exact h0
    · split at e
      · cases e
      · cases e
        cases a0.backOf _ with
        | none => exact h0
        | some b => exact State.beginMove_wf h0

theorem State.tierWait_wf {a0 a1 a2} (h0 : memWf a0.mem = true) : memWf ((State.tierWait a0 a1 a2)).mem = true := by
  unfold State.tierWait
  repeat' (first
    | with_reducible assumption | dsimp only | with_reducible (refine OutOk.next ?_) | with_reducible apply State.post_wf | split
    | with_reducible (intro _) | with_reducible (refine Ok_fst (by assumption) ?_))

theorem execTierEvict_wf {a0} (h0 : memWf a0.mem = true) : OutOk (execTierEvict a0) := by
  unfold execTierEvict
  extract_lets region va s1
  have h1 : memWf s1.mem = true := State.unpinPf_wf h0
  clear_value s1
  split
  · exact OutOk.next h0
  · split
    · exact OutOk.next (State.tierWait_wf h1)
    · rename_i e
      exact OutOk.next (State.post_wf (State.tierServed_wf (State.evictPage_wf h1 _ e)))

theorem State.takeFrames_wf {a0 a1 a2 a3} (h0 : memWf a0.mem = true) : memWf ((State.takeFrames a0 a1 a2 a3)).mem = true := by
  unfold State.takeFrames
  repeat' (first | with_reducible assumption | with_reducible (refine OutOk.next ?_) | with_reducible apply State.setColAt_wf)

theorem State.moveUp_wf {a0 a1 a2 a3 a4 a5} (h0 : memWf a0.mem = true) : memWf ((State.moveUp a0 a1 a2 a3 a4 a5).1).mem = true := by
  unfold State.moveUp
  repeat' (first
    | with_reducible assumption | dsimp only | with_reducible (refine OutOk.next ?_) | with_reducible apply State.tierServed_wf
    | with_reducible apply State.tierWait_wf | with_reducible apply State.beginMove_wf | with_reducible apply State.takeFrames_wf
    | split | with_reducible (intro _) | with_reducible (refine Ok_fst (by assumption) ?_))

theorem State.countNoRoom_wf {a0 a1 a2} (h0 : memWf a0.mem = true) : memWf ((State.countNoRoom a0 a1 a2)).mem = true := by
  unfold State.countNoRoom
  repeat' (first
    | with_reducible assumption | dsimp only | with_reducible (refine OutOk.next ?_) | with_reducible apply State.setColAt_wf
    | split | with_reducible (intro _) | with_reducible (refine Ok_fst (by assumption) ?_))

theorem State.fetchRange_wf {a0 a1 a2 a3 a4} (h0 : memWf a0.mem = true) : memWf ((State.fetchRange a0 a1 a2 a3 a4)).mem = true := by
  unfold State.fetchRange
  repeat' (first
    | with_reducible assumption | dsimp only | with_reducible (refine OutOk.next ?_) | with_reducible apply State.tierServed_wf
    | with_reducible apply State.moveUp_wf | with_reducible apply State.post_wf | with_reducible apply State.countNoRoom_wf
    | split | with_reducible (intro _) | with_reducible (refine Ok_fst (by assumption) ?_))

theorem State.addBack_wf {a0 a1} (h0 : memWf a0.mem = true) : memWf ((State.addBack a0 a1)).mem = true := by
  unfold State.addBack
  repeat' (first | with_reducible assumption | with_reducible (refine OutOk.next ?_) | with_reducible apply State.setColAt_wf)

theorem State.endMoving_wf {a0 a1} (h0 : memWf a0.mem = true) : memWf ((State.endMoving a0 a1)).mem = true := by
  unfold State.endMoving
  repeat' (first
    | with_reducible assumption | dsimp only | with_reducible (refine OutOk.next ?_) | with_reducible apply State.markMoving_wf
    | with_reducible apply Ok_foldl | with_reducible apply Ok_foldl_fst | with_reducible (refine Some_ok (by assumption) ?_)
    | with_reducible (refine Some_ok2 (by assumption) ?_) | with_reducible (exact None_ok (by assumption))
    | with_reducible (exact None_ok2 (by assumption)) | with_reducible apply getD_ok | split | with_reducible (intro _)
    | with_reducible (refine Ok_fst (by assumption) ?_) | with_reducible (refine Ok_snd (by assumption) ?_))

theorem State.endPf_wf {a0 a1 a2} (h0 : memWf a0.mem = true) : memWf ((State.endPf a0 a1 a2)).mem = true := by
  unfold State.endPf
  repeat' (first
    | with_reducible assumption | dsimp only | with_reducible (refine OutOk.next ?_) | with_reducible apply State.setRegion_wf
    | split | with_reducible (intro _) | with_reducible (refine Ok_fst (by assumption) ?_))

theorem State.giveFrames_wf {a0 a1 a2} (h0 : memWf a0.mem = true) : memWf ((State.giveFrames a0 a1 a2)).mem = true := by
  unfold State.giveFrames
  repeat' (first | with_reducible assumption | with_reducible (refine OutOk.next ?_) | with_reducible apply State.setColAt_wf)

theorem State.cancelMoves_wf {a0 a1} (h0 : memWf a0.mem = true) : memWf ((State.cancelMoves a0 a1)).mem = true := by
  unfold State.cancelMoves
  repeat' (first
    | with_reducible assumption | dsimp only | with_reducible (refine OutOk.next ?_) | with_reducible apply State.endPf_wf
    | with_reducible apply State.endMoving_wf | with_reducible apply State.giveFrames_wf | with_reducible apply State.unpost_wf
    | with_reducible apply Ok_foldl | with_reducible apply Ok_foldl_fst | with_reducible (refine Some_ok (by assumption) ?_)
    | with_reducible (refine Some_ok2 (by assumption) ?_) | with_reducible (exact None_ok (by assumption))
    | with_reducible (exact None_ok2 (by assumption)) | with_reducible apply getD_ok | split | with_reducible (intro _)
    | with_reducible (refine Ok_fst (by assumption) ?_) | with_reducible (refine Ok_snd (by assumption) ?_))

theorem State.countCorrected_wf {a0 a1} (h0 : memWf a0.mem = true) : memWf ((State.countCorrected a0 a1)).mem = true := by
  unfold State.countCorrected
  repeat' (first
    | with_reducible assumption | dsimp only | with_reducible (refine OutOk.next ?_) | with_reducible apply State.setColAt_wf
    | with_reducible apply State.spareRow_wf | split | with_reducible (intro _)
    | with_reducible (refine Ok_fst (by assumption) ?_))

theorem State.commitLeaf_wf {a0 a1 a2} (h0 : memWf a0.mem = true) : memWf ((State.commitLeaf a0 a1 a2)).mem = true := by
  unfold State.commitLeaf
  repeat' (first
    | with_reducible assumption | dsimp only | with_reducible (refine OutOk.next ?_) | with_reducible apply State.putLeaf_wf
    | with_reducible apply State.markMoving_wf | split | with_reducible (intro _)
    | with_reducible (refine Ok_fst (by assumption) ?_))

theorem execDramRatioChange_wf {a0} (h0 : memWf a0.mem = true) : OutOk (execDramRatioChange a0) := by
  unfold execDramRatioChange
  repeat' (first
    | with_reducible assumption | dsimp only | with_reducible (refine OutOk.next ?_) | with_reducible apply State.post_wf
    | with_reducible apply State.setColAt_wf | split | with_reducible (intro _)
    | with_reducible (refine Ok_fst (by assumption) ?_))

theorem State.countFault_wf {a0 a1} (h0 : memWf a0.mem = true) : memWf ((State.countFault a0 a1)).mem = true := by
  unfold State.countFault
  repeat' (first
    | with_reducible assumption | dsimp only | with_reducible (refine OutOk.next ?_) | with_reducible apply State.setTileAt_wf
    | with_reducible apply State.post_wf | split | with_reducible (intro _) | with_reducible (refine Ok_fst (by assumption) ?_))

theorem State.fetchPage_wf {a0 a1 a2} (h0 : memWf a0.mem = true) : memWf ((State.fetchPage a0 a1 a2)).mem = true := by
  unfold State.fetchPage
  repeat' (first
    | with_reducible assumption | dsimp only | with_reducible (refine OutOk.next ?_) | with_reducible apply State.tierServed_wf
    | with_reducible apply State.setRegion_wf | with_reducible apply State.moveUp_wf | with_reducible apply State.endPf_wf
    | with_reducible apply State.countNoRoom_wf | split | with_reducible (intro _)
    | with_reducible (refine Ok_fst (by assumption) ?_))

theorem execProtChangeDone_wf {a0} (h0 : memWf a0.mem = true) : OutOk (execProtChangeDone a0) := by
  unfold execProtChangeDone
  repeat' (first
    | with_reducible assumption | dsimp only | with_reducible (refine OutOk.next ?_) | with_reducible apply State.post_wf
    | with_reducible apply State.setColAt_wf | with_reducible apply State.wakeHeld_wf | with_reducible apply clearMem_wf | split
    | with_reducible (intro _) | with_reducible (refine Ok_fst (by assumption) ?_))

theorem execTierPinExpiry_wf {a0} (h0 : memWf a0.mem = true) : OutOk (execTierPinExpiry a0) := by
  unfold execTierPinExpiry
  repeat' (first
    | with_reducible assumption | dsimp only | with_reducible (refine OutOk.next ?_) | with_reducible apply State.post_wf
    | with_reducible apply State.modTier_wf | split | with_reducible (intro _)
    | with_reducible (refine Ok_fst (by assumption) ?_))

theorem State.demoteAll_wf {a0 a1 a2} (h0 : memWf a0.mem = true) : memWf ((State.demoteAll a0 a1 a2)).mem = true := by
  unfold State.demoteAll
  repeat' (first
    | with_reducible assumption | dsimp only | with_reducible (refine OutOk.next ?_) | with_reducible apply State.replace_wf
    | with_reducible apply State.demoteNow_wf | with_reducible apply State.cancelMoves_wf | with_reducible apply Ok_foldl
    | with_reducible apply Ok_foldl_fst | with_reducible (refine Some_ok (by assumption) ?_)
    | with_reducible (refine Some_ok2 (by assumption) ?_) | with_reducible (exact None_ok (by assumption))
    | with_reducible (exact None_ok2 (by assumption)) | with_reducible apply getD_ok | split | with_reducible (intro _)
    | with_reducible (refine Ok_fst (by assumption) ?_) | with_reducible (refine Ok_snd (by assumption) ?_))

theorem execDramRelock_wf {a0} (h0 : memWf a0.mem = true) : OutOk (execDramRelock a0) := by
  unfold execDramRelock
  repeat' (first
    | with_reducible assumption | with_reducible (refine OutOk.next ?_) | with_reducible apply State.wakeHeld_wf
    | with_reducible apply State.setColAt_wf)

theorem State.demoteSite_wf {a0 a1} (h0 : memWf a0.mem = true) : memWf ((State.demoteSite a0 a1)).mem = true := by
  unfold State.demoteSite
  repeat' (first
    | with_reducible assumption | with_reducible (refine OutOk.next ?_) | with_reducible apply State.demoteAll_wf
    | with_reducible apply State.setColAt_wf)

theorem execProtWrite_wf {a0} (h0 : memWf a0.mem = true) : OutOk (execProtWrite a0) := by
  unfold execProtWrite
  repeat' (first
    | with_reducible assumption | dsimp only | with_reducible (refine OutOk.next ?_) | with_reducible apply State.post_wf
    | with_reducible apply State.setColAt_wf | split | with_reducible (intro _)
    | with_reducible (refine Ok_fst (by assumption) ?_))

theorem State.offerSite_wf {a0 a1} (h0 : memWf a0.mem = true) : memWf ((State.offerSite a0 a1)).mem = true := by
  unfold State.offerSite
  repeat' (first | with_reducible assumption | with_reducible (refine OutOk.next ?_) | with_reducible apply State.setColAt_wf)

theorem execTierFetchStart_wf {a0} (h0 : memWf a0.mem = true) : OutOk (execTierFetchStart a0) := by
  unfold execTierFetchStart
  repeat' (first
    | with_reducible assumption | dsimp only | with_reducible (refine OutOk.next ?_) | with_reducible apply State.fetchPage_wf
    | with_reducible apply State.fetchRange_wf | with_reducible apply State.modTier_wf | with_reducible apply State.postAt_wf
    | split | with_reducible (intro _) | with_reducible (refine Ok_fst (by assumption) ?_))

theorem State.dropBack_wf {a0 a1} (h0 : memWf a0.mem = true) : memWf ((State.dropBack a0 a1)).mem = true := by
  unfold State.dropBack
  repeat' (first | with_reducible assumption | with_reducible (refine OutOk.next ?_) | with_reducible apply State.setColAt_wf)

theorem execTierMoveCommit_wf {a0} (h0 : memWf a0.mem = true) : OutOk (execTierMoveCommit a0) := by
  unfold execTierMoveCommit
  split
  · exact OutOk.next h0
  · extract_lets region va f n e old s1 s2 s3
    have h1 : memWf s1.mem = true := Ok_foldl (State.copyFrames_wf h0) fun _ _ h => State.commitLeaf_wf h
    clear_value s1
    have h2 : memWf s2.mem = true := by
      simp only [s2]; split
      · exact State.giveFrames_wf (State.dropBack_wf h1)
      · exact h1
    clear_value s2
    have h3 : memWf s3.mem = true := by
      simp only [s3]; split
      · exact State.addBack_wf h2
      · exact h2
    clear_value s3
    clear_value e
    with_reducible refine Ok_ite (OutOk.next (State.endPf_wf (State.endMoving_wf ?_))) (Ok_ite (OutOk.next (State.post_wf h0)) (OutOk.next (State.endPf_wf h3)))
    split
    · exact State.giveFrames_wf h0
    · exact h0

theorem execUncorrectableRead_wf {a0} (h0 : memWf a0.mem = true) : OutOk (execUncorrectableRead a0) := by
  unfold execUncorrectableRead
  repeat' (first
    | with_reducible assumption | dsimp only | with_reducible (refine OutOk.next ?_) | with_reducible apply State.flipBits_wf
    | with_reducible apply State.countCorrected_wf | with_reducible apply State.post_wf | with_reducible apply State.setColAt_wf
    | with_reducible apply State.countFault_wf | split | with_reducible (intro _)
    | with_reducible (refine Ok_fst (by assumption) ?_))

theorem State.setTileBuf_wf {a0 a1 a2 a3 a4} (h0 : memWf a0.mem = true) : memWf ((State.setTileBuf a0 a1 a2 a3 a4)).mem = true := by
  unfold State.setTileBuf
  repeat' (first | with_reducible assumption | with_reducible (refine OutOk.next ?_) | with_reducible apply State.setTileAt_wf)

theorem State.copyState_wf {a0 a1 a2 a3} (h0 : memWf a0.mem = true) : memWf ((State.copyState a0 a1 a2 a3)).mem = true := by
  unfold State.copyState
  repeat' (first
    | with_reducible assumption | dsimp only | with_reducible (refine OutOk.next ?_) | with_reducible apply State.takeSeq_wf
    | with_reducible apply State.writeHome_wf | with_reducible apply State.chargeEngine_wf
    | with_reducible apply State.setFullRange_wf | with_reducible apply Ok_foldl | with_reducible apply Ok_foldl_fst
    | with_reducible (refine Some_ok (by assumption) ?_) | with_reducible (refine Some_ok2 (by assumption) ?_)
    | with_reducible (exact None_ok (by assumption)) | with_reducible (exact None_ok2 (by assumption))
    | with_reducible apply getD_ok | split | with_reducible (intro _) | with_reducible (refine Ok_fst (by assumption) ?_)
    | with_reducible (refine Ok_snd (by assumption) ?_))

theorem State.placeState_wf {a0 a1 a2 a3 a4 a5} (h0 : memWf a0.mem = true) : memWf ((State.placeState a0 a1 a2 a3 a4 a5)).mem = true := by
  unfold State.placeState
  repeat' (first
    | with_reducible assumption | with_reducible (refine OutOk.next ?_) | with_reducible apply State.setTileBuf_wf
    | with_reducible apply State.copyState_wf)

theorem State.spliceApply_wf {a0 a1 a2 a3 a4 a5} (h0 : memWf a0.mem = true) : memWf ((State.spliceApply a0 a1 a2 a3 a4 a5).1).mem = true := by
  unfold State.spliceApply
  repeat' (first
    | with_reducible assumption | dsimp only | with_reducible (refine OutOk.next ?_) | with_reducible apply State.placeState_wf
    | with_reducible apply State.putStage_wf | with_reducible apply State.copyState_wf | with_reducible apply State.setTileBuf_wf
    | split | with_reducible (intro _) | with_reducible (refine Ok_fst (by assumption) ?_))

theorem State.admitRecord_wf {a0 a1 a2} (h0 : memWf a0.mem = true) : memWf ((State.admitRecord a0 a1 a2).1).mem = true := by
  unfold State.admitRecord
  repeat' (first
    | with_reducible assumption | dsimp only | with_reducible (refine OutOk.next ?_) | with_reducible apply State.admitTask_wf
    | split | with_reducible (intro _) | with_reducible (refine Ok_fst (by assumption) ?_))

theorem State.startRecord_wf {a0 a1 a2} (h0 : memWf a0.mem = true) : memWf ((State.startRecord a0 a1 a2)).mem = true := by
  unfold State.startRecord
  repeat' (first
    | with_reducible assumption | with_reducible (refine OutOk.next ?_) | with_reducible apply State.modDelivery_wf
    | with_reducible apply State.setChan_wf)

theorem State.stOffer_wf {a0 a1} (h0 : memWf a0.mem = true) : memWf ((State.stOffer a0 a1)).mem = true := by
  unfold State.stOffer
  repeat' (first | with_reducible assumption | with_reducible (refine OutOk.next ?_) | with_reducible apply State.stageOffer_wf)

theorem State.stageReport_wf {a0 a1 a2 a3 a4} (h0 : memWf a0.mem = true) : memWf ((State.stageReport a0 a1 a2 a3 a4)).mem = true := by
  unfold State.stageReport
  repeat' (first | with_reducible assumption | with_reducible (refine OutOk.next ?_) | with_reducible apply State.pipeReport_wf)

theorem State.forwardRec_wf {a0 a1 a2 a3 a4 a5 a6} (h0 : memWf a0.mem = true) : memWf ((State.forwardRec a0 a1 a2 a3 a4 a5 a6)).mem = true := by
  unfold State.forwardRec
  repeat' (first
    | with_reducible assumption | dsimp only | with_reducible (refine OutOk.next ?_) | with_reducible apply State.stageReport_wf
    | with_reducible apply State.takeSpawnSeq_wf | with_reducible apply State.setCoreAt_wf
    | with_reducible apply State.takeDelay_wf | with_reducible apply State.post_wf | with_reducible apply State.inject_wf | split
    | with_reducible (intro _) | with_reducible (refine Ok_fst (by assumption) ?_))

theorem State.passOn_wf {a0 a1 a2 a3 a4 a5 a6 a7} (h0 : memWf a0.mem = true) : memWf ((State.passOn a0 a1 a2 a3 a4 a5 a6 a7)).mem = true := by
  unfold State.passOn
  repeat' (first
    | with_reducible assumption | with_reducible (refine OutOk.next ?_) | with_reducible apply State.stOffer_wf
    | with_reducible apply State.freeSlot_wf | with_reducible apply State.forwardRec_wf)

theorem State.mergeTask_wf {a0 a1 a2 a3 a4 a5 a6} (h0 : memWf a0.mem = true) : memWf ((State.mergeTask a0 a1 a2 a3 a4 a5 a6)).mem = true := by
  unfold State.mergeTask
  repeat' (first
    | with_reducible assumption | dsimp only | with_reducible (refine OutOk.next ?_) | with_reducible apply State.admitRecord_wf
    | with_reducible apply State.startRecord_wf | with_reducible apply State.putStage_wf
    | with_reducible apply State.modDelivery_wf | with_reducible apply State.passOn_wf
    | with_reducible apply State.stageReport_wf | split | with_reducible (intro _)
    | with_reducible (refine Ok_fst (by assumption) ?_))

theorem State.dropRec_wf {a0 a1 a2 a3} (h0 : memWf a0.mem = true) : memWf ((State.dropRec a0 a1 a2 a3)).mem = true := by
  unfold State.dropRec
  repeat' (first
    | with_reducible assumption | dsimp only | with_reducible (refine OutOk.next ?_) | with_reducible apply State.putStage_wf
    | with_reducible apply State.stOffer_wf | with_reducible apply State.freeSlot_wf | with_reducible apply State.stageReport_wf
    | split | with_reducible (intro _) | with_reducible (refine Ok_fst (by assumption) ?_))

theorem takeRecord_wf {a0 a1 a2} (h0 : memWf a0.mem = true) (h2 : ∀ y0 y1 y2, memWf ((a2 y0 y1 y2)).mem = true) : OutOk (takeRecord a0 a1 a2) := by
  unfold takeRecord
  repeat' (first
    | with_reducible assumption | dsimp only | with_reducible (refine OutOk.next ?_) | with_reducible apply h2
    | with_reducible apply State.dropRec_wf | with_reducible apply State.stOffer_wf | split | with_reducible (intro _)
    | with_reducible (refine Ok_fst (by assumption) ?_))

theorem execStageTakeData_wf {a0} (h0 : memWf a0.mem = true) : OutOk (execStageTakeData a0) := by
  unfold execStageTakeData
  repeat' (first
    | with_reducible assumption | dsimp only | with_reducible (refine OutOk.next ?_) | with_reducible apply takeRecord_wf
    | with_reducible apply State.admitRecord_wf | with_reducible apply State.startRecord_wf
    | with_reducible apply State.modDelivery_wf | with_reducible apply State.dropRec_wf | split | with_reducible (intro _)
    | with_reducible (refine Ok_fst (by assumption) ?_))

theorem State.recordEnds_wf {a0 a1 a2 a3} (h0 : memWf a0.mem = true) : memWf ((State.recordEnds a0 a1 a2 a3)).mem = true := by
  unfold State.recordEnds
  repeat' (first
    | with_reducible assumption | dsimp only | with_reducible (refine OutOk.next ?_) | with_reducible apply State.setChan_wf
    | with_reducible apply State.stageReport_wf | with_reducible apply State.putStage_wf
    | with_reducible apply State.forwardRec_wf | split | with_reducible (intro _)
    | with_reducible (refine Ok_fst (by assumption) ?_))

theorem execTend_wf {a0} (h0 : memWf a0.mem = true) : OutOk (execTend a0) := by
  unfold execTend
  repeat' (first
    | with_reducible assumption | dsimp only | with_reducible (refine OutOk.next ?_) | with_reducible apply State.recordEnds_wf
    | with_reducible apply State.endTask_wf | with_reducible apply State.chargeTask_wf | split | with_reducible (intro _)
    | with_reducible (refine Ok_fst (by assumption) ?_))

theorem State.takeSplice_wf {a0 a1 a2 a3} (h0 : memWf a0.mem = true) : memWf ((State.takeSplice a0 a1 a2 a3)).mem = true := by
  unfold State.takeSplice
  repeat' (first
    | with_reducible assumption | dsimp only | with_reducible (refine OutOk.next ?_) | with_reducible apply State.mergeTask_wf
    | with_reducible apply State.passOn_wf | with_reducible apply State.putStage_wf | with_reducible apply State.spliceApply_wf
    | split | with_reducible (intro _) | with_reducible (refine Ok_fst (by assumption) ?_))

theorem execSpliceApply_wf {a0} (h0 : memWf a0.mem = true) : OutOk (execSpliceApply a0) := by
  unfold execSpliceApply
  repeat' (first
    | with_reducible assumption | dsimp only | with_reducible (refine OutOk.next ?_) | with_reducible apply takeRecord_wf
    | with_reducible apply State.takeSplice_wf | split | with_reducible (intro _)
    | with_reducible (refine Ok_fst (by assumption) ?_))

theorem execStageTakeAbort_wf {a0} (h0 : memWf a0.mem = true) : OutOk (execStageTakeAbort a0) := by
  unfold execStageTakeAbort
  repeat' (first
    | with_reducible assumption | dsimp only | with_reducible (refine OutOk.next ?_) | with_reducible apply takeRecord_wf
    | with_reducible apply State.passOn_wf | split | with_reducible (intro _) | with_reducible (refine Ok_fst (by assumption) ?_))

theorem execPassThroughForward_wf {a0} (h0 : memWf a0.mem = true) : OutOk (execPassThroughForward a0) := by
  unfold execPassThroughForward
  repeat' (first
    | with_reducible assumption | dsimp only | with_reducible (refine OutOk.next ?_) | with_reducible apply takeRecord_wf
    | with_reducible apply State.putStage_wf | with_reducible apply State.passOn_wf | split | with_reducible (intro _)
    | with_reducible (refine Ok_fst (by assumption) ?_))

theorem State.kickTw_wf {a0 a1 a2} (h0 : memWf a0.mem = true) : memWf ((State.kickTw a0 a1 a2)).mem = true := by
  unfold State.kickTw
  repeat' (first
    | with_reducible assumption | dsimp only | with_reducible (refine OutOk.next ?_) | with_reducible apply State.post_wf | split
    | with_reducible (intro _) | with_reducible (refine Ok_fst (by assumption) ?_))

theorem State.setTw_wf {a0 a1 a2} (h0 : memWf a0.mem = true) : memWf ((State.setTw a0 a1 a2)).mem = true := by
  unfold State.setTw
  repeat' (first | with_reducible assumption | with_reducible (refine OutOk.next ?_) | with_reducible apply State.setTileAt_wf)

theorem State.endTw_wf {a0 a1 a2 a3 a4} (h0 : memWf a0.mem = true) : memWf ((State.endTw a0 a1 a2 a3 a4)).mem = true := by
  unfold State.endTw
  repeat' (first
    | with_reducible assumption | with_reducible (refine OutOk.next ?_) | with_reducible apply State.post_wf
    | with_reducible apply State.setTw_wf)

theorem State.addPermits_wf {a0 a1 a2 a3 a4} (h0 : memWf a0.mem = true) : memWf ((State.addPermits a0 a1 a2 a3 a4)).mem = true := by
  unfold State.addPermits
  repeat' (first
    | with_reducible assumption | with_reducible (refine OutOk.next ?_) | with_reducible apply State.kickTw_wf
    | with_reducible apply State.setTileAt_wf)

theorem State.returnPermit_wf {a0 a1 a2} (h0 : memWf a0.mem = true) : memWf ((State.returnPermit a0 a1 a2)).mem = true := by
  unfold State.returnPermit
  repeat' (first
    | with_reducible assumption | dsimp only | with_reducible (refine OutOk.next ?_) | with_reducible apply State.addPermits_wf
    | split | with_reducible (intro _) | with_reducible (refine Ok_fst (by assumption) ?_))

theorem State.toStorer_wf {a0 a1} (h0 : memWf a0.mem = true) : memWf ((State.toStorer a0 a1)).mem = true := by
  unfold State.toStorer
  repeat' (first
    | with_reducible assumption | dsimp only | with_reducible (refine OutOk.next ?_) | with_reducible apply State.pipeReport_wf
    | with_reducible apply State.consume_wf | with_reducible apply State.setTw_wf | with_reducible apply State.returnPermit_wf
    | with_reducible apply State.kickTw_wf | split | with_reducible (intro _) | with_reducible (refine Ok_fst (by assumption) ?_))

theorem execRecordArrival_wf {a0} (h0 : memWf a0.mem = true) : OutOk (execRecordArrival a0) := by
  unfold execRecordArrival
  repeat' (first
    | with_reducible assumption | dsimp only | with_reducible (refine OutOk.next ?_) | with_reducible apply delivered_wf
    | with_reducible apply State.toStorer_wf | with_reducible apply State.arrive_wf | split | with_reducible (intro _)
    | with_reducible (refine Ok_fst (by assumption) ?_))

theorem State.emitRecord_wf {a0 a1 a2 a3} (h0 : memWf a0.mem = true) : memWf ((State.emitRecord a0 a1 a2 a3)).mem = true := by
  unfold State.emitRecord
  repeat' (first
    | with_reducible assumption | dsimp only | with_reducible (refine OutOk.next ?_) | with_reducible apply State.pipeReport_wf
    | with_reducible apply State.takeDelay_wf | with_reducible apply State.post_wf | with_reducible apply State.inject_wf | split
    | with_reducible (intro _) | with_reducible (refine Ok_fst (by assumption) ?_))

theorem State.twError_wf {a0 a1 a2 a3 a4} (h0 : memWf a0.mem = true) : memWf ((State.twError a0 a1 a2 a3 a4)).mem = true := by
  unfold State.twError
  repeat' (first
    | with_reducible assumption | dsimp only | with_reducible (refine OutOk.next ?_) | with_reducible apply State.setTw_wf
    | with_reducible apply State.endTw_wf | with_reducible apply State.raiseOn_wf | split | with_reducible (intro _)
    | with_reducible (refine Ok_fst (by assumption) ?_))

theorem State.storeSlice_eq (s : State) (w : Walker) (l : List Word) (pay : List Byte) (base n i cnt : Nat) :
    s.storeSlice w l pay base (n + 1) i cnt =
      let v := match payElem l pay i with
        | some x => some x.1
        | none => if recEdge l = 2 then none else some (bits (lw l 8) 0 32 % 2 ^ fmtBits (recDfmt l))
      match v with
      | none => s.storeSlice w l pay base n (i + 1) cnt
      | some x =>
        let a := recDst l (base + i)
        match s.walkRes w a.1 (fmtBytes (recDfmt l)) .write [0, 1] with
        | (s, .error e) => (s, .error e)
        | (s, .ok loc) => (s.walkWrite w a.1 loc a.2 (fmtBits (recDfmt l)) x).storeSlice w l pay base n (i + 1) (cnt + 1) := by rfl
theorem State.storeSlice_wf {a0 a1 a2 a3 a4 a5 a6 a7} (h0 : memWf a0.mem = true) : memWf ((State.storeSlice a0 a1 a2 a3 a4 a5 a6 a7).1).mem = true := by
  induction a5 generalizing a0 a6 a7 with
  | zero => exact h0
  | succ n ih =>
    rw [State.storeSlice_eq]
    dsimp only
    generalize (match payElem a2 a3 a6 with | some x => some x.1 | none => if recEdge a2 = 2 then none else some (bits (lw a2 8) 0 32 % 2 ^ fmtBits (recDfmt a2))) = v
    cases v with
    | none => exact ih h0
    | some x =>
      dsimp only
      split
      · rename_i e; exact Ok_fst e (State.walkRes_wf h0)
      · rename_i e; exact ih (State.walkWrite_wf (Ok_fst e (State.walkRes_wf h0)))

theorem State.chargeTw_wf {a0 a1 a2} (h0 : memWf a0.mem = true) : memWf ((State.chargeTw a0 a1 a2)).mem = true := by
  unfold State.chargeTw
  repeat' (first | with_reducible assumption | with_reducible (refine OutOk.next ?_) | with_reducible apply State.chargeEngine_wf)

theorem State.twWaits_wf {a0 a1 a2} (h0 : memWf a0.mem = true) : memWf ((State.twWaits a0 a1 a2)).mem = true := by
  unfold State.twWaits
  repeat' (first
    | with_reducible assumption | with_reducible (refine OutOk.next ?_) | with_reducible apply State.kickTw_wf
    | with_reducible apply State.chargeTw_wf | with_reducible apply State.setTw_wf)

theorem execStorerTakeRecord_wf {a0} (h0 : memWf a0.mem = true) : OutOk (execStorerTakeRecord a0) := by
  unfold execStorerTakeRecord
  repeat' (first
    | with_reducible assumption | dsimp only | with_reducible (refine OutOk.next ?_) | with_reducible apply State.setTw_wf
    | with_reducible apply State.putCword_wf | with_reducible apply State.kickTw_wf | with_reducible apply State.twError_wf
    | with_reducible apply State.storeSlice_wf | with_reducible apply State.twWaits_wf | with_reducible apply State.chargeTw_wf
    | with_reducible apply State.endTw_wf | split | with_reducible (intro _) | with_reducible (refine Ok_fst (by assumption) ?_))

theorem twArrival_wf {a0 a1} (h0 : memWf a0.mem = true) (h1 : ∀ y0 y1, memWf y0.mem = true → memWf ((a1 y0 y1)).mem = true) : OutOk (twArrival a0 a1) := by
  unfold twArrival
  split
  · exact OutOk.next h0
  · dsimp only
    with_reducible refine Ok_ite (OutOk.next (State.standBy_wf h0)) (Ok_ite (OutOk.next (State.post_wf h0)) (Ok_ite
      (OutOk.next (State.roleLost_wf h0)) (Ok_ite (OutOk.next (State.post_wf h0)) (OutOk.next (h1 _ _ h0)))))

theorem execTwpostJobArrival_wf {a0} (h0 : memWf a0.mem = true) : OutOk (execTwpostJobArrival a0) := by
  unfold execTwpostJobArrival
  repeat' (first
    | with_reducible assumption | dsimp only | with_reducible (refine OutOk.next ?_) | with_reducible apply twArrival_wf
    | with_reducible apply State.replyErr_wf | with_reducible apply State.standBy_wf | with_reducible apply State.setTileAt_wf
    | with_reducible apply State.kickTw_wf | with_reducible apply State.reply_wf | split | with_reducible (intro _)
    | with_reducible (refine Ok_fst (by assumption) ?_))

theorem State.loadSlice_wf {a0 a1 a2 a3 a4} (h0 : memWf a0.mem = true) : memWf ((State.loadSlice a0 a1 a2 a3 a4).1).mem = true := by
  induction a3 generalizing a0 a1 a2 a4 with
  | zero =>
    unfold State.loadSlice
    repeat' (first
      | with_reducible assumption | dsimp only | with_reducible (refine OutOk.next ?_) | with_reducible apply State.walkValue_wf
      | split | with_reducible (intro _) | with_reducible (refine Ok_fst (by assumption) ?_))
  | succ n ih =>
    unfold State.loadSlice
    repeat' (first
      | with_reducible apply ih | with_reducible assumption | dsimp only | with_reducible (refine OutOk.next ?_) | with_reducible apply State.walkValue_wf
      | split | with_reducible (intro _) | with_reducible (refine Ok_fst (by assumption) ?_))

theorem execLoaderEmitRecord_wf {a0} (h0 : memWf a0.mem = true) : OutOk (execLoaderEmitRecord a0) := by
  unfold execLoaderEmitRecord
  repeat' (first
    | with_reducible assumption | dsimp only | with_reducible (refine OutOk.next ?_) | with_reducible apply State.setTw_wf
    | with_reducible apply State.loadSlice_wf | with_reducible apply State.twWaits_wf | with_reducible apply State.twError_wf
    | with_reducible apply State.setTileAt_wf | with_reducible apply State.emitRecord_wf | with_reducible apply State.chargeTw_wf
    | with_reducible apply State.endTw_wf | with_reducible apply State.kickTw_wf | split | with_reducible (intro _)
    | with_reducible (refine Ok_fst (by assumption) ?_))

theorem State.runTw_wf {a0 a1 a2} (h0 : memWf a0.mem = true) : memWf ((State.runTw a0 a1 a2)).mem = true := by
  unfold State.runTw
  repeat' (first
    | with_reducible assumption | dsimp only | with_reducible (refine OutOk.next ?_) | with_reducible apply State.walkElems_wf
    | with_reducible apply State.chargeTw_wf | with_reducible apply State.setTw_wf | with_reducible apply State.kickTw_wf
    | with_reducible apply State.endTw_wf | with_reducible apply State.twError_wf | split | with_reducible (intro _)
    | with_reducible (refine Ok_fst (by assumption) ?_))

theorem execTwpostEndArrival_wf {a0} (h0 : memWf a0.mem = true) : OutOk (execTwpostEndArrival a0) := by
  unfold execTwpostEndArrival
  repeat' (first
    | with_reducible assumption | dsimp only | with_reducible (refine OutOk.next ?_) | with_reducible apply twArrival_wf
    | with_reducible apply State.consume_wf | with_reducible apply State.endTw_wf | with_reducible apply State.setTileAt_wf
    | with_reducible apply Ok_foldl | with_reducible apply Ok_foldl_fst | with_reducible (refine Some_ok (by assumption) ?_)
    | with_reducible (refine Some_ok2 (by assumption) ?_) | with_reducible (exact None_ok (by assumption))
    | with_reducible (exact None_ok2 (by assumption)) | with_reducible apply getD_ok | split | with_reducible (intro _)
    | with_reducible (refine Ok_fst (by assumption) ?_) | with_reducible (refine Ok_snd (by assumption) ?_))

theorem execTileWalkJobComplete_wf {a0} (h0 : memWf a0.mem = true) : OutOk (execTileWalkJobComplete a0) := by
  unfold execTileWalkJobComplete
  repeat' (first
    | with_reducible assumption | dsimp only | with_reducible (refine OutOk.next ?_) | with_reducible apply State.putCword_wf
    | with_reducible apply State.post_wf | with_reducible apply State.raiseOn_wf | with_reducible apply State.setTw_wf
    | with_reducible apply State.wakeHeld_wf | with_reducible apply State.kickTw_wf | with_reducible apply State.setTileAt_wf
    | with_reducible apply State.runTw_wf | split | with_reducible (intro _) | with_reducible (refine Ok_fst (by assumption) ?_))

theorem execTwpostPermitArrival_wf {a0} (h0 : memWf a0.mem = true) : OutOk (execTwpostPermitArrival a0) := by
  unfold execTwpostPermitArrival
  repeat' (first
    | with_reducible assumption | dsimp only | with_reducible (refine OutOk.next ?_) | with_reducible apply twArrival_wf
    | with_reducible apply State.addPermits_wf | with_reducible apply State.consume_wf | split | with_reducible (intro _)
    | with_reducible (refine Ok_fst (by assumption) ?_))

theorem State.countCasts_wf {a0 a1 a2} (h0 : memWf a0.mem = true) : memWf ((State.countCasts a0 a1 a2)).mem = true := by
  unfold State.countCasts
  repeat' (first | with_reducible assumption | with_reducible (refine OutOk.next ?_) | with_reducible apply State.setColAt_wf)

theorem State.clearRange_wf {a0 a1 a2} (h0 : memWf a0.mem = true) : memWf ((State.clearRange a0 a1 a2)).mem = true := by
  unfold State.clearRange
  repeat' (first | with_reducible assumption | with_reducible (refine OutOk.next ?_) | with_reducible apply clearMem_wf)

theorem State.zeroSite_wf {a0 a1} (h0 : memWf a0.mem = true) : memWf ((State.zeroSite a0 a1)).mem = true := by
  unfold State.zeroSite
  repeat' (first | with_reducible assumption | with_reducible (refine OutOk.next ?_) | with_reducible apply State.clearRange_wf)

theorem State.enterRole_wf {a0 a1 a2} (h0 : memWf a0.mem = true) : memWf ((State.enterRole a0 a1 a2)).mem = true := by
  unfold State.enterRole
  repeat' (first
    | with_reducible assumption | dsimp only | with_reducible (refine OutOk.next ?_) | with_reducible apply State.zeroSite_wf
    | with_reducible apply State.setTileAt_wf | with_reducible apply State.offerSite_wf | split | with_reducible (intro _)
    | with_reducible (refine Ok_fst (by assumption) ?_))

theorem State.dropClaims_wf {a0 a1} (h0 : memWf a0.mem = true) : memWf ((State.dropClaims a0 a1)).mem = true := by
  unfold State.dropClaims
  repeat' (first | with_reducible assumption | with_reducible (refine OutOk.next ?_) | with_reducible apply State.setColAt_wf)

end Sys2Proof.Machine
end

