-- ==== Sys2Proof/Laws/KeepMemory4.lean ====
section
/-! SUPPORT. Every operation and every meaning keeps the canonical form of memory, and every meaning answers a next state; part 4. -/

namespace Sys2Proof.Machine

theorem State.takeBullpen_wf {a0 a1 a2} (h0 : memWf a0.mem = true) : memWf ((State.takeBullpen a0 a1 a2)).mem = true := by
  unfold State.takeBullpen
  repeat' (first
    | with_reducible assumption | with_reducible (refine OutOk.next ?_) | with_reducible apply State.countCasts_wf
    | with_reducible apply State.enterRole_wf)

theorem State.freshNid_wf {a0 a1} (h0 : memWf a0.mem = true) : memWf ((State.freshNid a0 a1).1).mem = true := by
  unfold State.freshNid
  repeat' (first | with_reducible assumption | with_reducible (refine OutOk.next ?_) | with_reducible apply State.setColAt_wf)

theorem State.noticeMsg_wf {a0 a1 a2 a3 a4 a5 a6} (h0 : memWf a0.mem = true) : memWf ((State.noticeMsg a0 a1 a2 a3 a4 a5 a6)).mem = true := by
  unfold State.noticeMsg
  repeat' (first
    | with_reducible assumption | dsimp only | with_reducible (refine OutOk.next ?_) | with_reducible apply State.report_wf
    | with_reducible apply State.sendCtl_wf | split | with_reducible (intro _)
    | with_reducible (refine Ok_fst (by assumption) ?_))

theorem State.noticeEnt_wf {a0 a1 a2 a3 a4} (h0 : memWf a0.mem = true) : memWf ((State.noticeEnt a0 a1 a2 a3 a4).1).mem = true := by
  unfold State.noticeEnt
  repeat' (first
    | with_reducible assumption | dsimp only | with_reducible (refine OutOk.next ?_) | with_reducible apply State.freshNid_wf
    | with_reducible apply State.setRmEntry_wf | with_reducible apply State.setTileAt_wf
    | with_reducible apply State.noticeMsg_wf | split | with_reducible (intro _)
    | with_reducible (refine Ok_fst (by assumption) ?_))

theorem State.setLeaving_wf {a0 a1 a2} (h0 : memWf a0.mem = true) : memWf ((State.setLeaving a0 a1 a2)).mem = true := by
  unfold State.setLeaving
  repeat' (first
    | with_reducible assumption | with_reducible (refine OutOk.next ?_) | with_reducible apply State.postAt_wf
    | with_reducible apply State.setTileAt_wf)

theorem State.castSite_wf {a0 a1 a2 a3 a4 a5 a6} (h0 : memWf a0.mem = true) : memWf ((State.castSite a0 a1 a2 a3 a4 a5 a6)).mem = true := by
  unfold State.castSite
  repeat' (first
    | with_reducible assumption | dsimp only | with_reducible (refine OutOk.next ?_) | with_reducible apply State.countCasts_wf
    | with_reducible apply State.takeBullpen_wf | with_reducible apply State.noticeEnt_wf
    | with_reducible apply State.setLeaving_wf | with_reducible apply Ok_foldl | with_reducible apply Ok_foldl_fst
    | with_reducible (refine Some_ok (by assumption) ?_) | with_reducible (refine Some_ok2 (by assumption) ?_)
    | with_reducible (exact None_ok (by assumption)) | with_reducible (exact None_ok2 (by assumption))
    | with_reducible apply getD_ok | split | with_reducible (intro _) | with_reducible (refine Ok_fst (by assumption) ?_)
    | with_reducible (refine Ok_snd (by assumption) ?_))

theorem State.runClaim_wf {a0 a1 a2} (h0 : memWf a0.mem = true) : memWf ((State.runClaim a0 a1 a2)).mem = true := by
  unfold State.runClaim
  repeat' (first
    | with_reducible assumption | dsimp only | with_reducible (refine OutOk.next ?_) | with_reducible apply State.dropClaims_wf
    | with_reducible apply State.castSite_wf | with_reducible apply State.setColAt_wf | split | with_reducible (intro _)
    | with_reducible (refine Ok_fst (by assumption) ?_))

theorem State.runClaims_wf {a0 a1} (h0 : memWf a0.mem = true) : memWf ((State.runClaims a0 a1)).mem = true := by
  unfold State.runClaims
  repeat' (first
    | with_reducible assumption | dsimp only | with_reducible (refine OutOk.next ?_) | with_reducible apply State.runClaim_wf
    | with_reducible apply Ok_foldl | with_reducible apply Ok_foldl_fst | with_reducible (refine Some_ok (by assumption) ?_)
    | with_reducible (refine Some_ok2 (by assumption) ?_) | with_reducible (exact None_ok (by assumption))
    | with_reducible (exact None_ok2 (by assumption)) | with_reducible apply getD_ok | split | with_reducible (intro _)
    | with_reducible (refine Ok_fst (by assumption) ?_) | with_reducible (refine Ok_snd (by assumption) ?_))

theorem State.runRetires_wf {a0 a1} (h0 : memWf a0.mem = true) : memWf ((State.runRetires a0 a1)).mem = true := by
  unfold State.runRetires
  repeat' (first
    | with_reducible assumption | dsimp only | with_reducible (refine OutOk.next ?_) | with_reducible apply State.setColAt_wf
    | with_reducible apply State.castSite_wf | with_reducible apply State.dropClaims_wf | with_reducible apply Ok_foldl
    | with_reducible apply Ok_foldl_fst | with_reducible (refine Some_ok (by assumption) ?_)
    | with_reducible (refine Some_ok2 (by assumption) ?_) | with_reducible (exact None_ok (by assumption))
    | with_reducible (exact None_ok2 (by assumption)) | with_reducible apply getD_ok | split | with_reducible (intro _)
    | with_reducible (refine Ok_fst (by assumption) ?_) | with_reducible (refine Ok_snd (by assumption) ?_))

theorem State.assign_wf {a0 a1 a2 a3 a4} (h0 : memWf a0.mem = true) : memWf ((State.assign a0 a1 a2 a3 a4)).mem = true := by
  unfold State.assign
  repeat' (first
    | with_reducible assumption | dsimp only | with_reducible (refine OutOk.next ?_) | with_reducible apply State.setRegion_wf
    | with_reducible apply State.setRmEntry_wf | with_reducible apply State.setTileAt_wf | with_reducible apply State.freshNid_wf
    | with_reducible apply State.noticeMsg_wf | split | with_reducible (intro _)
    | with_reducible (refine Ok_fst (by assumption) ?_))

theorem State.castEnt_wf {a0 a1 a2 a3 a4 a5 a6} (h0 : memWf a0.mem = true) : memWf ((State.castEnt a0 a1 a2 a3 a4 a5 a6)).mem = true := by
  unfold State.castEnt
  repeat' (first
    | with_reducible assumption | with_reducible (refine OutOk.next ?_) | with_reducible apply State.noticeEnt_wf
    | with_reducible apply State.countCasts_wf | with_reducible apply State.setLeaving_wf)

theorem State.runReq_wf {a0 a1 a2} (h0 : memWf a0.mem = true) : ∀ t, (State.runReq a0 a1 a2) = some t → memWf t.mem = true := by
  unfold State.runReq
  repeat' (first
    | with_reducible assumption | dsimp only | with_reducible (refine OutOk.next ?_) | with_reducible apply State.setColAt_wf
    | with_reducible apply State.assign_wf | with_reducible apply State.takeBullpen_wf | with_reducible apply State.castEnt_wf
    | with_reducible apply Ok_foldl | with_reducible apply Ok_foldl_fst | with_reducible (refine Some_ok (by assumption) ?_)
    | with_reducible (refine Some_ok2 (by assumption) ?_) | with_reducible (exact None_ok (by assumption))
    | with_reducible (exact None_ok2 (by assumption)) | with_reducible apply getD_ok | split | with_reducible (intro _)
    | with_reducible (refine Ok_fst (by assumption) ?_) | with_reducible (refine Ok_snd (by assumption) ?_))

theorem State.runReqs_wf {a0 a1} (h0 : memWf a0.mem = true) : memWf ((State.runReqs a0 a1)).mem = true := by
  unfold State.runReqs
  refine Ok_foldl h0 fun s q h => ?_
  cases e : s.runReq a1 q with
  | none => exact h
  | some t => exact State.runReq_wf h _ e

theorem State.pressureStep_wf {a0 a1 a2 a3} (h0 : memWf a0.mem = true) : memWf ((State.pressureStep a0 a1 a2 a3).1).mem = true := by
  unfold State.pressureStep
  repeat' (first
    | with_reducible assumption | dsimp only | with_reducible (refine OutOk.next ?_) | with_reducible apply State.takeBullpen_wf
    | with_reducible apply State.setColAt_wf | with_reducible apply State.castSite_wf | with_reducible apply Ok_foldl
    | with_reducible apply Ok_foldl_fst | with_reducible (refine Some_ok (by assumption) ?_)
    | with_reducible (refine Some_ok2 (by assumption) ?_) | with_reducible (exact None_ok (by assumption))
    | with_reducible (exact None_ok2 (by assumption)) | with_reducible apply getD_ok | split | with_reducible (intro _)
    | with_reducible (refine Ok_fst (by assumption) ?_) | with_reducible (refine Ok_snd (by assumption) ?_))

theorem State.newFaults_wf {a0 a1} (h0 : memWf a0.mem = true) : memWf ((State.newFaults a0 a1)).mem = true := by
  unfold State.newFaults
  repeat' (first | with_reducible assumption | with_reducible (refine OutOk.next ?_))

theorem State.runPending_wf {a0 a1} (h0 : memWf a0.mem = true) : memWf ((State.runPending a0 a1)).mem = true := by
  unfold State.runPending
  repeat' (first
    | with_reducible assumption | dsimp only | with_reducible (refine OutOk.next ?_) | with_reducible apply State.setColAt_wf
    | with_reducible apply State.castSite_wf | with_reducible apply Ok_foldl | with_reducible apply Ok_foldl_fst
    | with_reducible (refine Some_ok (by assumption) ?_) | with_reducible (refine Some_ok2 (by assumption) ?_)
    | with_reducible (exact None_ok (by assumption)) | with_reducible (exact None_ok2 (by assumption))
    | with_reducible apply getD_ok | split | with_reducible (intro _) | with_reducible (refine Ok_fst (by assumption) ?_)
    | with_reducible (refine Ok_snd (by assumption) ?_))

theorem State.runVacates_wf {a0 a1} (h0 : memWf a0.mem = true) : memWf ((State.runVacates a0 a1)).mem = true := by
  unfold State.runVacates
  repeat' (first
    | with_reducible assumption | dsimp only | with_reducible (refine OutOk.next ?_) | with_reducible apply State.castEnt_wf
    | with_reducible apply State.setColAt_wf | with_reducible apply Ok_foldl | with_reducible apply Ok_foldl_fst
    | with_reducible (refine Some_ok (by assumption) ?_) | with_reducible (refine Some_ok2 (by assumption) ?_)
    | with_reducible (exact None_ok (by assumption)) | with_reducible (exact None_ok2 (by assumption))
    | with_reducible apply getD_ok | split | with_reducible (intro _) | with_reducible (refine Ok_fst (by assumption) ?_)
    | with_reducible (refine Ok_snd (by assumption) ?_))

theorem State.censusRun_wf {a0 a1} (h0 : memWf a0.mem = true) : memWf ((State.censusRun a0 a1)).mem = true := by
  unfold State.censusRun
  repeat' (first
    | with_reducible assumption | dsimp only | with_reducible (refine OutOk.next ?_) | with_reducible apply State.runRetires_wf
    | with_reducible apply State.runPending_wf | with_reducible apply State.runClaims_wf | with_reducible apply State.runReqs_wf
    | with_reducible apply State.runVacates_wf | split | with_reducible (intro _)
    | with_reducible (refine Ok_fst (by assumption) ?_))

theorem State.pressure_wf {a0 a1 a2 a3 a4 a5} (h0 : memWf a0.mem = true) : memWf ((State.pressure a0 a1 a2 a3 a4 a5)).mem = true := by
  induction a2 generalizing a0 a3 a4 a5 with
  | zero => exact h0
  | succ n ih =>
    simp only [State.pressure]
    split
    · exact h0
    · split
      · exact h0
      · split <;> exact ih (State.pressureStep_wf h0)

theorem State.refuseReqs_wf {a0 a1} (h0 : memWf a0.mem = true) : memWf ((State.refuseReqs a0 a1)).mem = true := by
  unfold State.refuseReqs
  repeat' (first
    | with_reducible assumption | dsimp only | with_reducible (refine OutOk.next ?_) | with_reducible apply State.freshNid_wf
    | with_reducible apply State.noticeMsg_wf | with_reducible apply State.setColAt_wf | with_reducible apply Ok_foldl
    | with_reducible apply Ok_foldl_fst | with_reducible (refine Some_ok (by assumption) ?_)
    | with_reducible (refine Some_ok2 (by assumption) ?_) | with_reducible (exact None_ok (by assumption))
    | with_reducible (exact None_ok2 (by assumption)) | with_reducible apply getD_ok | split | with_reducible (intro _)
    | with_reducible (refine Ok_fst (by assumption) ?_) | with_reducible (refine Ok_snd (by assumption) ?_))

theorem State.homeMoves_wf {a0 a1} (h0 : memWf a0.mem = true) : memWf ((State.homeMoves a0 a1)).mem = true := by
  unfold State.homeMoves
  repeat' (first
    | with_reducible assumption | dsimp only | with_reducible (refine OutOk.next ?_) | with_reducible apply State.castEnt_wf
    | with_reducible apply State.takeBullpen_wf | with_reducible apply Ok_foldl | with_reducible apply Ok_foldl_fst
    | with_reducible (refine Some_ok (by assumption) ?_) | with_reducible (refine Some_ok2 (by assumption) ?_)
    | with_reducible (exact None_ok (by assumption)) | with_reducible (exact None_ok2 (by assumption))
    | with_reducible apply getD_ok | split | with_reducible (intro _) | with_reducible (refine Ok_fst (by assumption) ?_)
    | with_reducible (refine Ok_snd (by assumption) ?_))

theorem execScoutWindowEnd_wf {a0} (h0 : memWf a0.mem = true) : OutOk (execScoutWindowEnd a0) := by
  unfold execScoutWindowEnd
  repeat' (first
    | with_reducible assumption | dsimp only | with_reducible (refine OutOk.next ?_) | with_reducible apply State.refuseReqs_wf
    | with_reducible apply State.censusRun_wf | with_reducible apply State.setColAt_wf | with_reducible apply State.newFaults_wf
    | with_reducible apply State.runClaim_wf | with_reducible apply State.pressure_wf | with_reducible apply State.post_wf
    | with_reducible apply State.homeMoves_wf | with_reducible apply Ok_foldl | with_reducible apply Ok_foldl_fst
    | with_reducible (refine Some_ok (by assumption) ?_) | with_reducible (refine Some_ok2 (by assumption) ?_)
    | with_reducible (exact None_ok (by assumption)) | with_reducible (exact None_ok2 (by assumption))
    | with_reducible apply getD_ok | split | with_reducible (intro _) | with_reducible (refine Ok_fst (by assumption) ?_)
    | with_reducible (refine Ok_snd (by assumption) ?_))

theorem execScoutSample_wf {a0} (h0 : memWf a0.mem = true) : OutOk (execScoutSample a0) := by
  unfold execScoutSample
  repeat' (first
    | with_reducible assumption | with_reducible (refine OutOk.next ?_) | with_reducible apply State.free_wf
    | with_reducible apply State.post_wf | with_reducible apply State.setColAt_wf)

theorem execRmapAction_wf {a0} (h0 : memWf a0.mem = true) : OutOk (execRmapAction a0) := by
  unfold execRmapAction
  repeat' (first | with_reducible assumption | with_reducible (refine OutOk.next ?_) | with_reducible apply State.censusRun_wf)

theorem execAndn_wf {a0 a1 a2 a3 a4} (h4 : memWf a4.mem = true) : OutOk (execAndn a0 a1 a2 a3 a4) := by
  unfold execAndn
  repeat' (first | with_reducible assumption | with_reducible (refine OutOk.next ?_) | with_reducible apply writeG_wf)

theorem execShl_wf {a0 a1 a2 a3 a4} (h4 : memWf a4.mem = true) : OutOk (execShl a0 a1 a2 a3 a4) := by
  unfold execShl
  repeat' (first | with_reducible assumption | with_reducible (refine OutOk.next ?_) | with_reducible apply writeSat_wf)

theorem execRol_wf {a0 a1 a2 a3 a4} (h4 : memWf a4.mem = true) : OutOk (execRol a0 a1 a2 a3 a4) := by
  unfold execRol
  repeat' (first | with_reducible assumption | with_reducible (refine OutOk.next ?_) | with_reducible apply writeG_wf)

theorem execMinu_wf {a0 a1 a2 a3 a4} (h4 : memWf a4.mem = true) : OutOk (execMinu a0 a1 a2 a3 a4) := by
  unfold execMinu
  repeat' (first | with_reducible assumption | with_reducible (refine OutOk.next ?_) | with_reducible apply writeG_wf)

theorem execClz_wf {a0 a1 a2 a3} (h3 : memWf a3.mem = true) : OutOk (execClz a0 a1 a2 a3) := by
  unfold execClz
  repeat' (first | with_reducible assumption | with_reducible (refine OutOk.next ?_) | with_reducible apply writeG_wf)

theorem execDivu_wf {a0 a1 a2 a3 a4} (h4 : memWf a4.mem = true) : OutOk (execDivu a0 a1 a2 a3 a4) := by
  unfold execDivu
  repeat' (first
    | with_reducible assumption | dsimp only | with_reducible (refine OutOk.next ?_) | with_reducible apply trap_wf
    | with_reducible apply writeG_wf | split | with_reducible (intro _) | with_reducible (refine Ok_fst (by assumption) ?_))

theorem execBrev_wf {a0 a1 a2 a3} (h3 : memWf a3.mem = true) : OutOk (execBrev a0 a1 a2 a3) := by
  unfold execBrev
  repeat' (first | with_reducible assumption | with_reducible (refine OutOk.next ?_) | with_reducible apply writeG_wf)

theorem execSltu_wf {a0 a1 a2 a3 a4} (h4 : memWf a4.mem = true) : OutOk (execSltu a0 a1 a2 a3 a4) := by
  unfold execSltu
  repeat' (first | with_reducible assumption | with_reducible (refine OutOk.next ?_) | with_reducible apply writeG_wf)

theorem execMaxu_wf {a0 a1 a2 a3 a4} (h4 : memWf a4.mem = true) : OutOk (execMaxu a0 a1 a2 a3 a4) := by
  unfold execMaxu
  repeat' (first | with_reducible assumption | with_reducible (refine OutOk.next ?_) | with_reducible apply writeG_wf)

theorem execPopc_wf {a0 a1 a2 a3} (h3 : memWf a3.mem = true) : OutOk (execPopc a0 a1 a2 a3) := by
  unfold execPopc
  repeat' (first | with_reducible assumption | with_reducible (refine OutOk.next ?_) | with_reducible apply writeG_wf)

theorem execMulhu_wf {a0 a1 a2 a3 a4} (h4 : memWf a4.mem = true) : OutOk (execMulhu a0 a1 a2 a3 a4) := by
  unfold execMulhu
  repeat' (first | with_reducible assumption | with_reducible (refine OutOk.next ?_) | with_reducible apply writeG_wf)

theorem execBins_wf {a0 a1 a2 a3 a4} (h4 : memWf a4.mem = true) : OutOk (execBins a0 a1 a2 a3 a4) := by
  unfold execBins
  repeat' (first
    | with_reducible assumption | dsimp only | with_reducible (refine OutOk.next ?_) | with_reducible apply writeG_wf
    | with_reducible apply illegal_wf | split | with_reducible (intro _) | with_reducible (refine Ok_fst (by assumption) ?_))

theorem execMin_wf {a0 a1 a2 a3 a4} (h4 : memWf a4.mem = true) : OutOk (execMin a0 a1 a2 a3 a4) := by
  unfold execMin
  repeat' (first | with_reducible assumption | with_reducible (refine OutOk.next ?_) | with_reducible apply writeG_wf)

theorem execRemu_wf {a0 a1 a2 a3 a4} (h4 : memWf a4.mem = true) : OutOk (execRemu a0 a1 a2 a3 a4) := by
  unfold execRemu
  repeat' (first
    | with_reducible assumption | dsimp only | with_reducible (refine OutOk.next ?_) | with_reducible apply trap_wf
    | with_reducible apply writeG_wf | split | with_reducible (intro _) | with_reducible (refine Ok_fst (by assumption) ?_))

theorem execSlt_wf {a0 a1 a2 a3 a4} (h4 : memWf a4.mem = true) : OutOk (execSlt a0 a1 a2 a3 a4) := by
  unfold execSlt
  repeat' (first | with_reducible assumption | with_reducible (refine OutOk.next ?_) | with_reducible apply writeG_wf)

theorem execSel_wf {a0 a1 a2 a3 a4} (h4 : memWf a4.mem = true) : OutOk (execSel a0 a1 a2 a3 a4) := by
  unfold execSel
  repeat' (first
    | with_reducible assumption | dsimp only | with_reducible (refine OutOk.next ?_) | with_reducible apply writeG_wf
    | with_reducible apply illegal_wf | split | with_reducible (intro _) | with_reducible (refine Ok_fst (by assumption) ?_))

theorem execSub_wf {a0 a1 a2 a3 a4} (h4 : memWf a4.mem = true) : OutOk (execSub a0 a1 a2 a3 a4) := by
  unfold execSub
  repeat' (first | with_reducible assumption | with_reducible (refine OutOk.next ?_) | with_reducible apply writeSat_wf)

theorem execOr_wf {a0 a1 a2 a3 a4} (h4 : memWf a4.mem = true) : OutOk (execOr a0 a1 a2 a3 a4) := by
  unfold execOr
  repeat' (first | with_reducible assumption | with_reducible (refine OutOk.next ?_) | with_reducible apply writeG_wf)

theorem execMax_wf {a0 a1 a2 a3 a4} (h4 : memWf a4.mem = true) : OutOk (execMax a0 a1 a2 a3 a4) := by
  unfold execMax
  repeat' (first | with_reducible assumption | with_reducible (refine OutOk.next ?_) | with_reducible apply writeG_wf)

theorem execShr_wf {a0 a1 a2 a3 a4} (h4 : memWf a4.mem = true) : OutOk (execShr a0 a1 a2 a3 a4) := by
  unfold execShr
  repeat' (first | with_reducible assumption | with_reducible (refine OutOk.next ?_) | with_reducible apply writeG_wf)

theorem execMul_wf {a0 a1 a2 a3 a4} (h4 : memWf a4.mem = true) : OutOk (execMul a0 a1 a2 a3 a4) := by
  unfold execMul
  repeat' (first | with_reducible assumption | with_reducible (refine OutOk.next ?_) | with_reducible apply writeSat_wf)

theorem execXor_wf {a0 a1 a2 a3 a4} (h4 : memWf a4.mem = true) : OutOk (execXor a0 a1 a2 a3 a4) := by
  unfold execXor
  repeat' (first | with_reducible assumption | with_reducible (refine OutOk.next ?_) | with_reducible apply writeG_wf)

theorem execBext_wf {a0 a1 a2 a3 a4} (h4 : memWf a4.mem = true) : OutOk (execBext a0 a1 a2 a3 a4) := by
  unfold execBext
  repeat' (first
    | with_reducible assumption | dsimp only | with_reducible (refine OutOk.next ?_) | with_reducible apply writeG_wf
    | with_reducible apply illegal_wf | split | with_reducible (intro _) | with_reducible (refine Ok_fst (by assumption) ?_))

theorem execCtz_wf {a0 a1 a2 a3} (h3 : memWf a3.mem = true) : OutOk (execCtz a0 a1 a2 a3) := by
  unfold execCtz
  repeat' (first | with_reducible assumption | with_reducible (refine OutOk.next ?_) | with_reducible apply writeG_wf)

theorem execSeq_wf {a0 a1 a2 a3 a4} (h4 : memWf a4.mem = true) : OutOk (execSeq a0 a1 a2 a3 a4) := by
  unfold execSeq
  repeat' (first | with_reducible assumption | with_reducible (refine OutOk.next ?_) | with_reducible apply writeG_wf)

theorem execAnd_wf {a0 a1 a2 a3 a4} (h4 : memWf a4.mem = true) : OutOk (execAnd a0 a1 a2 a3 a4) := by
  unfold execAnd
  repeat' (first | with_reducible assumption | with_reducible (refine OutOk.next ?_) | with_reducible apply writeG_wf)

theorem execDiv_wf {a0 a1 a2 a3 a4} (h4 : memWf a4.mem = true) : OutOk (execDiv a0 a1 a2 a3 a4) := by
  unfold execDiv
  repeat' (first
    | with_reducible assumption | dsimp only | with_reducible (refine OutOk.next ?_) | with_reducible apply trap_wf
    | with_reducible apply writeSat_wf | split | with_reducible (intro _) | with_reducible (refine Ok_fst (by assumption) ?_))

theorem execSar_wf {a0 a1 a2 a3 a4} (h4 : memWf a4.mem = true) : OutOk (execSar a0 a1 a2 a3 a4) := by
  unfold execSar
  repeat' (first | with_reducible assumption | with_reducible (refine OutOk.next ?_) | with_reducible apply writeG_wf)

theorem execAdd_wf {a0 a1 a2 a3 a4} (h4 : memWf a4.mem = true) : OutOk (execAdd a0 a1 a2 a3 a4) := by
  unfold execAdd
  repeat' (first | with_reducible assumption | with_reducible (refine OutOk.next ?_) | with_reducible apply writeSat_wf)

theorem execMulh_wf {a0 a1 a2 a3 a4} (h4 : memWf a4.mem = true) : OutOk (execMulh a0 a1 a2 a3 a4) := by
  unfold execMulh
  repeat' (first | with_reducible assumption | with_reducible (refine OutOk.next ?_) | with_reducible apply writeG_wf)

theorem execRem_wf {a0 a1 a2 a3 a4} (h4 : memWf a4.mem = true) : OutOk (execRem a0 a1 a2 a3 a4) := by
  unfold execRem
  repeat' (first
    | with_reducible assumption | dsimp only | with_reducible (refine OutOk.next ?_) | with_reducible apply trap_wf
    | with_reducible apply writeG_wf | split | with_reducible (intro _) | with_reducible (refine Ok_fst (by assumption) ?_))

theorem branchIf_wf {a0 a1 a2} (h0 : memWf a0.mem = true) : OutOk (branchIf a0 a1 a2) := by
  unfold branchIf
  repeat' (first | with_reducible assumption | with_reducible (refine OutOk.next ?_) | with_reducible apply jumpTo_wf)

theorem execBeq_wf {a0 a1 a2 a3} (h3 : memWf a3.mem = true) : OutOk (execBeq a0 a1 a2 a3) := by
  unfold execBeq
  repeat' (first | with_reducible assumption | with_reducible (refine OutOk.next ?_) | with_reducible apply branchIf_wf)

theorem execPool_wf {a0 a1} (h1 : memWf a1.mem = true) : OutOk (execPool a0 a1) := by
  unfold execPool
  repeat' (first
    | with_reducible assumption | dsimp only | with_reducible (refine OutOk.next ?_) | with_reducible apply illegal_wf
    | with_reducible apply jumpTo_wf | split | with_reducible (intro _) | with_reducible (refine Ok_fst (by assumption) ?_))

theorem execJr_wf {a0 a1} (h1 : memWf a1.mem = true) : OutOk (execJr a0 a1) := by
  unfold execJr
  repeat' (first
    | with_reducible assumption | dsimp only | with_reducible (refine OutOk.next ?_) | with_reducible apply trap_wf
    | with_reducible apply jumpTo_wf | split | with_reducible (intro _) | with_reducible (refine Ok_fst (by assumption) ?_))

theorem execBne_wf {a0 a1 a2 a3} (h3 : memWf a3.mem = true) : OutOk (execBne a0 a1 a2 a3) := by
  unfold execBne
  repeat' (first | with_reducible assumption | with_reducible (refine OutOk.next ?_) | with_reducible apply branchIf_wf)

theorem execBltu_wf {a0 a1 a2 a3} (h3 : memWf a3.mem = true) : OutOk (execBltu a0 a1 a2 a3) := by
  unfold execBltu
  repeat' (first | with_reducible assumption | with_reducible (refine OutOk.next ?_) | with_reducible apply branchIf_wf)

theorem execBgeu_wf {a0 a1 a2 a3} (h3 : memWf a3.mem = true) : OutOk (execBgeu a0 a1 a2 a3) := by
  unfold execBgeu
  repeat' (first | with_reducible assumption | with_reducible (refine OutOk.next ?_) | with_reducible apply branchIf_wf)

theorem execRep_wf {a0 a1 a2 a3 a4 a5 a6} (h6 : memWf a6.mem = true) : OutOk (execRep a0 a1 a2 a3 a4 a5 a6) := by
  unfold execRep
  repeat' (first
    | with_reducible assumption | dsimp only | with_reducible (refine OutOk.next ?_) | with_reducible apply illegal_wf
    | with_reducible apply jumpTo_wf | with_reducible apply State.setCtx_wf | split | with_reducible (intro _)
    | with_reducible (refine Ok_fst (by assumption) ?_))

theorem execBlt_wf {a0 a1 a2 a3} (h3 : memWf a3.mem = true) : OutOk (execBlt a0 a1 a2 a3) := by
  unfold execBlt
  repeat' (first | with_reducible assumption | with_reducible (refine OutOk.next ?_) | with_reducible apply branchIf_wf)

theorem execJal_wf {a0 a1} (h1 : memWf a1.mem = true) : OutOk (execJal a0 a1) := by
  unfold execJal
  repeat' (first
    | with_reducible assumption | with_reducible (refine OutOk.next ?_) | with_reducible apply jumpTo_wf
    | with_reducible apply State.wg_wf)

theorem execJalr_wf {a0 a1 a2} (h2 : memWf a2.mem = true) : OutOk (execJalr a0 a1 a2) := by
  unfold execJalr
  repeat' (first
    | with_reducible assumption | dsimp only | with_reducible (refine OutOk.next ?_) | with_reducible apply trap_wf
    | with_reducible apply jumpTo_wf | with_reducible apply State.wg_wf | split | with_reducible (intro _)
    | with_reducible (refine Ok_fst (by assumption) ?_))

theorem execJmp_wf {a0 a1} (h1 : memWf a1.mem = true) : OutOk (execJmp a0 a1) := by
  unfold execJmp
  repeat' (first | with_reducible assumption | with_reducible (refine OutOk.next ?_) | with_reducible apply jumpTo_wf)

theorem execIll_wf {a0 a1} (h1 : memWf a1.mem = true) : OutOk (execIll a0 a1) := by
  unfold execIll
  repeat' (first | with_reducible assumption | with_reducible (refine OutOk.next ?_) | with_reducible apply State.decodeTrap_wf)

theorem execBge_wf {a0 a1 a2 a3} (h3 : memWf a3.mem = true) : OutOk (execBge a0 a1 a2 a3) := by
  unfold execBge
  repeat' (first | with_reducible assumption | with_reducible (refine OutOk.next ?_) | with_reducible apply branchIf_wf)

theorem execMgo_wf {a0 a1 a2 a3} (h3 : memWf a3.mem = true) : OutOk (execMgo a0 a1 a2 a3) := by
  unfold execMgo
  repeat' (first | with_reducible assumption | with_reducible (refine OutOk.next ?_) | with_reducible apply gangIssue_wf)

theorem State.setMx_wf {a0 a1 a2} (h0 : memWf a0.mem = true) : memWf ((State.setMx a0 a1 a2)).mem = true := by
  unfold State.setMx
  repeat' (first | with_reducible assumption | with_reducible (refine OutOk.next ?_) | with_reducible apply State.setTileAt_wf)

theorem State.setOp_wf {a0 a1 a2} (h0 : memWf a0.mem = true) : memWf ((State.setOp a0 a1 a2)).mem = true := by
  unfold State.setOp
  repeat' (first | with_reducible assumption | with_reducible (refine OutOk.next ?_) | with_reducible apply State.setMx_wf)

theorem State.mxFetch_wf {a0 a1 a2 a3} (h0 : memWf a0.mem = true) : memWf ((State.mxFetch a0 a1 a2 a3).1).mem = true := by
  unfold State.mxFetch
  repeat' (first | with_reducible assumption | with_reducible (refine OutOk.next ?_) | with_reducible apply State.engFetch_wf)

theorem State.pauseOp_wf {a0 a1 a2} (h0 : memWf a0.mem = true) : memWf ((State.pauseOp a0 a1 a2)).mem = true := by
  unfold State.pauseOp
  repeat' (first
    | with_reducible assumption | with_reducible (refine OutOk.next ?_) | with_reducible apply State.setOp_wf
    | with_reducible apply State.setMx_wf)

theorem State.kickMx_wf {a0 a1} (h0 : memWf a0.mem = true) : memWf ((State.kickMx a0 a1)).mem = true := by
  unfold State.kickMx
  repeat' (first | with_reducible assumption | with_reducible (refine OutOk.next ?_) | with_reducible apply State.post_wf)

theorem State.dropOp_wf {a0 a1 a2} (h0 : memWf a0.mem = true) : memWf ((State.dropOp a0 a1 a2)).mem = true := by
  unfold State.dropOp
  repeat' (first | with_reducible assumption | with_reducible (refine OutOk.next ?_) | with_reducible apply State.setMx_wf)

theorem State.mxError_wf {a0 a1 a2 a3 a4} (h0 : memWf a0.mem = true) : memWf ((State.mxError a0 a1 a2 a3 a4)).mem = true := by
  unfold State.mxError
  repeat' (first
    | with_reducible assumption | dsimp only | with_reducible (refine OutOk.next ?_) | with_reducible apply State.setMx_wf
    | with_reducible apply State.pauseOp_wf | with_reducible apply State.kickMx_wf | with_reducible apply State.dropOp_wf
    | with_reducible apply State.raiseOn_wf | split | with_reducible (intro _)
    | with_reducible (refine Ok_fst (by assumption) ?_))

theorem State.mxCycles_wf {a0 a1 a2 a3} (h0 : memWf a0.mem = true) : memWf ((State.mxCycles a0 a1 a2 a3)).mem = true := by
  unfold State.mxCycles
  repeat' (first
    | with_reducible assumption | with_reducible (refine OutOk.next ?_) | with_reducible apply State.chargeEngine_wf
    | with_reducible apply State.setTileAt_wf)

theorem State.opWaits_wf {a0 a1 a2 a3 a4} (h0 : memWf a0.mem = true) : memWf ((State.opWaits a0 a1 a2 a3 a4)).mem = true := by
  unfold State.opWaits
  repeat' (first
    | with_reducible assumption | dsimp only | with_reducible (refine OutOk.next ?_) | with_reducible apply State.mxCycles_wf
    | with_reducible apply State.setOp_wf | with_reducible apply State.setMx_wf | with_reducible apply State.post_wf | split
    | with_reducible (intro _) | with_reducible (refine Ok_fst (by assumption) ?_))

theorem withGroup_wf {a0 a1 a2 a3 a4} (h0 : memWf a0.mem = true) (h4 : ∀ y0 y1, memWf y0.mem = true → memWf ((a4 y0 y1)).mem = true) : memWf ((withGroup a0 a1 a2 a3 a4)).mem = true := by
  unfold withGroup
  repeat' (first
    | with_reducible assumption | dsimp only | with_reducible (refine OutOk.next ?_) | with_reducible apply h4
    | with_reducible apply State.mxFetch_wf | with_reducible apply State.mxError_wf | with_reducible apply State.opWaits_wf
    | split | with_reducible (intro _) | with_reducible (refine Ok_fst (by assumption) ?_))

theorem execMxOperandsConsumed_wf {a0} (h0 : memWf a0.mem = true) : OutOk (execMxOperandsConsumed a0) := by
  unfold execMxOperandsConsumed
  repeat' (first
    | with_reducible assumption | dsimp only | with_reducible (refine OutOk.next ?_) | with_reducible apply State.post_wf
    | with_reducible apply State.setOp_wf | with_reducible apply withGroup_wf | split | with_reducible (intro _)
    | with_reducible (refine Ok_fst (by assumption) ?_))

theorem mxReady_wf {a0 a1 a2} (h0 : memWf a0.mem = true) (h2 : ∀ y0, memWf y0.mem = true → OutOk (a2 y0)) : OutOk (mxReady a0 a1 a2) := by
  unfold mxReady
  repeat' (first
    | with_reducible assumption | dsimp only | with_reducible (refine OutOk.next ?_) | with_reducible apply h2
    | with_reducible apply park_wf | with_reducible apply State.post_wf | split | with_reducible (intro _)
    | with_reducible (refine Ok_fst (by assumption) ?_))

theorem mxOwned_wf {a0 a1 a2} (h0 : memWf a0.mem = true) (h2 : ∀ y0, memWf y0.mem = true → OutOk (a2 y0)) : OutOk (mxOwned a0 a1 a2) := by
  unfold mxOwned
  repeat' (first
    | with_reducible assumption | dsimp only | with_reducible (refine OutOk.next ?_) | with_reducible apply h2
    | with_reducible apply trap_wf | with_reducible apply mxReady_wf | split | with_reducible (intro _)
    | with_reducible (refine Ok_fst (by assumption) ?_))

theorem State.acceptOp_wf {a0 a1} (h0 : memWf a0.mem = true) : memWf ((State.acceptOp a0 a1)).mem = true := by
  unfold State.acceptOp
  repeat' (first
    | with_reducible assumption | with_reducible (refine OutOk.next ?_) | with_reducible apply State.kickMx_wf
    | with_reducible apply State.setMx_wf)

set_option maxRecDepth 4000 in
theorem execMdrain_wf {a0 a1 a2 a3 a4 a5} (h5 : memWf a5.mem = true) : OutOk (execMdrain a0 a1 a2 a3 a4 a5) := by
  unfold execMdrain
  repeat' (first
    | with_reducible assumption | dsimp only | with_reducible (refine OutOk.next ?_) | with_reducible apply illegal_wf
    | with_reducible apply mxOwned_wf | with_reducible apply trap_wf | with_reducible apply State.waitIssue_wf
    | with_reducible apply done_wf | with_reducible apply State.acceptOp_wf | with_reducible apply Ok_foldl
    | with_reducible apply Ok_foldl_fst | with_reducible (refine Some_ok (by assumption) ?_)
    | with_reducible (refine Some_ok2 (by assumption) ?_) | with_reducible (exact None_ok (by assumption))
    | with_reducible (exact None_ok2 (by assumption)) | with_reducible apply getD_ok | split | with_reducible (intro _)
    | with_reducible (refine Ok_fst (by assumption) ?_) | with_reducible (refine Ok_snd (by assumption) ?_))

theorem execMget_wf {a0 a1 a2} (h2 : memWf a2.mem = true) : OutOk (execMget a0 a1 a2) := by
  unfold execMget
  repeat' (first
    | with_reducible assumption | dsimp only | with_reducible (refine OutOk.next ?_) | with_reducible apply mxOwned_wf
    | with_reducible apply writeG_wf | split | with_reducible (intro _) | with_reducible (refine Ok_fst (by assumption) ?_))

theorem State.setRow_wf {a0 a1 a2} (h0 : memWf a0.mem = true) : memWf ((State.setRow a0 a1 a2)).mem = true := by
  unfold State.setRow
  repeat' (first
    | with_reducible assumption | dsimp only | with_reducible (refine OutOk.next ?_) | with_reducible apply State.setOp_wf
    | with_reducible apply State.setMx_wf | split | with_reducible (intro _) | with_reducible (refine Ok_fst (by assumption) ?_))

theorem execMset_wf {a0 a1 a2} (h2 : memWf a2.mem = true) : OutOk (execMset a0 a1 a2) := by
  unfold execMset
  repeat' (first
    | with_reducible assumption | dsimp only | with_reducible (refine OutOk.next ?_) | with_reducible apply mxOwned_wf
    | with_reducible apply done_wf | with_reducible apply State.setMx_wf | with_reducible apply State.setRow_wf
    | with_reducible apply illegal_wf | split | with_reducible (intro _) | with_reducible (refine Ok_fst (by assumption) ?_))

theorem execEngineRegionZero_wf {a0} (h0 : memWf a0.mem = true) : OutOk (execEngineRegionZero a0) := by
  unfold execEngineRegionZero
  repeat' (first
    | with_reducible assumption | dsimp only | with_reducible (refine OutOk.next ?_) | with_reducible apply State.post_wf
    | with_reducible apply State.chargeEngine_wf | with_reducible apply State.setTileAt_wf | split | with_reducible (intro _)
    | with_reducible (refine Ok_fst (by assumption) ?_))

theorem State.mxComplete_wf {a0 a1 a2} (h0 : memWf a0.mem = true) : memWf ((State.mxComplete a0 a1 a2)).mem = true := by
  unfold State.mxComplete
  repeat' (first
    | with_reducible assumption | with_reducible (refine OutOk.next ?_) | with_reducible apply State.setMx_wf
    | with_reducible apply State.kickMx_wf | with_reducible apply State.dropOp_wf)

theorem execMxJoin_wf {a0} (h0 : memWf a0.mem = true) : OutOk (execMxJoin a0) := by
  unfold execMxJoin
  repeat' (first
    | with_reducible assumption | dsimp only | with_reducible (refine OutOk.next ?_) | with_reducible apply State.gangTrap_wf
    | with_reducible apply State.post_wf | with_reducible apply State.enterTrapAt_wf | with_reducible apply State.setMx_wf
    | with_reducible apply State.kickMx_wf | with_reducible apply State.endMember_wf | with_reducible apply done_wf
    | with_reducible apply Ok_foldl | with_reducible apply Ok_foldl_fst | with_reducible (refine Some_ok (by assumption) ?_)
    | with_reducible (refine Some_ok2 (by assumption) ?_) | with_reducible (exact None_ok (by assumption))
    | with_reducible (exact None_ok2 (by assumption)) | with_reducible apply getD_ok | split | with_reducible (intro _)
    | with_reducible (refine Ok_fst (by assumption) ?_) | with_reducible (refine Ok_snd (by assumption) ?_))

theorem execDrainComplete_wf {a0} (h0 : memWf a0.mem = true) : OutOk (execDrainComplete a0) := by
  unfold execDrainComplete
  repeat' (first
    | with_reducible assumption | dsimp only | with_reducible (refine OutOk.next ?_) | with_reducible apply State.wakeUp_wf
    | with_reducible apply State.kickMx_wf | with_reducible apply State.dropOp_wf | split | with_reducible (intro _)
    | with_reducible (refine Ok_fst (by assumption) ?_))

theorem execMzero_wf {a0 a1} (h1 : memWf a1.mem = true) : OutOk (execMzero a0 a1) := by
  unfold execMzero
  repeat' (first
    | with_reducible assumption | dsimp only | with_reducible (refine OutOk.next ?_) | with_reducible apply mxOwned_wf
    | with_reducible apply State.waitIssue_wf | with_reducible apply done_wf | with_reducible apply State.acceptOp_wf | split
    | with_reducible (intro _) | with_reducible (refine Ok_fst (by assumption) ?_))

theorem execMxOpStart_wf {a0} (h0 : memWf a0.mem = true) : OutOk (execMxOpStart a0) := by
  unfold execMxOpStart
  repeat' (first
    | with_reducible assumption | dsimp only | with_reducible (refine OutOk.next ?_) | with_reducible apply State.mxCycles_wf
    | with_reducible apply State.setOp_wf | with_reducible apply State.kickMx_wf | with_reducible apply State.post_wf | split
    | with_reducible (intro _) | with_reducible (refine Ok_fst (by assumption) ?_))

theorem execGangPanelSave_wf {a0} (h0 : memWf a0.mem = true) : OutOk (execGangPanelSave a0) := by
  unfold execGangPanelSave
  repeat' (first
    | with_reducible assumption | dsimp only | with_reducible (refine OutOk.next ?_) | with_reducible apply State.post_wf
    | with_reducible apply State.setTileAt_wf | with_reducible apply State.kickMx_wf | with_reducible apply State.chargeEngine_wf
    | split | with_reducible (intro _) | with_reducible (refine Ok_fst (by assumption) ?_))

theorem execMwait_wf {a0 a1 a2} (h2 : memWf a2.mem = true) : OutOk (execMwait a0 a1 a2) := by
  unfold execMwait
  repeat' (first
    | with_reducible assumption | dsimp only | with_reducible (refine OutOk.next ?_) | with_reducible apply mxReady_wf
    | with_reducible apply writeG_wf | with_reducible apply State.setMx_wf | with_reducible apply park_wf | split
    | with_reducible (intro _) | with_reducible (refine Ok_fst (by assumption) ?_))

theorem State.drainFrom_wf {a0 a1 a2 a3 a4 a5 a6} (h0 : memWf a0.mem = true) : memWf ((State.drainFrom a0 a1 a2 a3 a4 a5 a6).1).mem = true := by
  induction a5 generalizing a0 a1 a2 a3 a4 a6 with
  | zero =>
    unfold State.drainFrom
    repeat' (first
      | with_reducible assumption | dsimp only | with_reducible (refine OutOk.next ?_) | with_reducible apply State.logBad_wf
      | with_reducible apply State.logRefused_wf | with_reducible apply State.resolve_wf | with_reducible apply State.setMx_wf
      | with_reducible apply State.engWrite_wf | split | with_reducible (intro _)
      | with_reducible (refine Ok_fst (by assumption) ?_))
  | succ n ih =>
    unfold State.drainFrom
    repeat' (first
      | with_reducible apply ih | with_reducible assumption | dsimp only | with_reducible (refine OutOk.next ?_) | with_reducible apply State.logBad_wf
      | with_reducible apply State.logRefused_wf | with_reducible apply State.resolve_wf | with_reducible apply State.setMx_wf
      | with_reducible apply State.engWrite_wf | split | with_reducible (intro _)
      | with_reducible (refine Ok_fst (by assumption) ?_))

theorem execMdrainStart_wf {a0} (h0 : memWf a0.mem = true) : OutOk (execMdrainStart a0) := by
  unfold execMdrainStart
  repeat' (first
    | with_reducible assumption | dsimp only | with_reducible (refine OutOk.next ?_) | with_reducible apply State.drainFrom_wf
    | with_reducible apply State.post_wf | with_reducible apply State.opWaits_wf | with_reducible apply State.mxError_wf | split
    | with_reducible (intro _) | with_reducible (refine Ok_fst (by assumption) ?_))

theorem execMgot_wf {a0 a1 a2 a3} (h3 : memWf a3.mem = true) : OutOk (execMgot a0 a1 a2 a3) := by
  unfold execMgot
  repeat' (first | with_reducible assumption | with_reducible (refine OutOk.next ?_) | with_reducible apply gangIssue_wf)

theorem execGangPanelRestore_wf {a0} (h0 : memWf a0.mem = true) : OutOk (execGangPanelRestore a0) := by
  unfold execGangPanelRestore
  repeat' (first
    | with_reducible assumption | dsimp only | with_reducible (refine OutOk.next ?_) | with_reducible apply State.post_wf
    | with_reducible apply State.setTileAt_wf | with_reducible apply State.kickMx_wf | with_reducible apply State.chargeEngine_wf
    | with_reducible apply Ok_foldl | with_reducible apply Ok_foldl_fst | with_reducible (refine Some_ok (by assumption) ?_)
    | with_reducible (refine Some_ok2 (by assumption) ?_) | with_reducible (exact None_ok (by assumption))
    | with_reducible (exact None_ok2 (by assumption)) | with_reducible apply getD_ok | split | with_reducible (intro _)
    | with_reducible (refine Ok_fst (by assumption) ?_) | with_reducible (refine Ok_snd (by assumption) ?_))

theorem execMgetPanel_wf {a0 a1 a2 a3} (h3 : memWf a3.mem = true) : OutOk (execMgetPanel a0 a1 a2 a3) := by
  unfold execMgetPanel
  repeat' (first
    | with_reducible assumption | dsimp only | with_reducible (refine OutOk.next ?_) | with_reducible apply mxOwned_wf
    | with_reducible apply writeG_wf | split | with_reducible (intro _) | with_reducible (refine Ok_fst (by assumption) ?_))

theorem execMzeroStart_wf {a0} (h0 : memWf a0.mem = true) : OutOk (execMzeroStart a0) := by
  unfold execMzeroStart
  repeat' (first
    | with_reducible assumption | dsimp only | with_reducible (refine OutOk.next ?_) | with_reducible apply State.kickMx_wf
    | with_reducible apply State.dropOp_wf | with_reducible apply State.setMx_wf | split | with_reducible (intro _)
    | with_reducible (refine Ok_fst (by assumption) ?_))

theorem State.mxCommit_wf {a0 a1 a2 a3 a4} (h0 : memWf a0.mem = true) : memWf ((State.mxCommit a0 a1 a2 a3 a4)).mem = true := by
  unfold State.mxCommit
  repeat' (first
    | with_reducible assumption | with_reducible (refine OutOk.next ?_) | with_reducible apply State.setOp_wf
    | with_reducible apply State.setMx_wf | with_reducible apply State.mxCycles_wf)

theorem execMxGroupCommit_wf {a0} (h0 : memWf a0.mem = true) : OutOk (execMxGroupCommit a0) := by
  unfold execMxGroupCommit
  repeat' (first
    | with_reducible assumption | dsimp only | with_reducible (refine OutOk.next ?_) | with_reducible apply State.setMx_wf
    | with_reducible apply State.mxComplete_wf | with_reducible apply State.mxCommit_wf | with_reducible apply withGroup_wf
    | with_reducible apply State.post_wf | split | with_reducible (intro _) | with_reducible (refine Ok_fst (by assumption) ?_))

theorem State.resumeWork_wf {a0 a1} (h0 : memWf a0.mem = true) : memWf ((State.resumeWork a0 a1)).mem = true := by
  unfold State.resumeWork
  repeat' (first
    | with_reducible assumption | dsimp only | with_reducible (refine OutOk.next ?_) | with_reducible apply State.post_wf
    | with_reducible apply State.setOp_wf | with_reducible apply State.setJob_wf | with_reducible apply State.setTileAt_wf
    | split | with_reducible (intro _) | with_reducible (refine Ok_fst (by assumption) ?_))

theorem State.modMyEntry_wf {a0 a1} (h0 : memWf a0.mem = true) : memWf ((State.modMyEntry a0 a1)).mem = true := by
  unfold State.modMyEntry
  repeat' (first
    | with_reducible assumption | dsimp only | with_reducible (refine OutOk.next ?_) | with_reducible apply State.modEntry_wf
    | split | with_reducible (intro _) | with_reducible (refine Ok_fst (by assumption) ?_))

theorem endSwr_wf {a0 a1} (h0 : memWf a0.mem = true) (h1 : memWf a1.mem = true) : OutOk (endSwr a0 a1) := by
  unfold endSwr
  repeat' (first
    | with_reducible assumption | dsimp only | with_reducible (refine OutOk.next ?_) | with_reducible apply done_wf
    | with_reducible apply jumpTo_wf | split | with_reducible (intro _) | with_reducible (refine Ok_fst (by assumption) ?_))

theorem State.putCtxstat_wf {a0 a1} (h0 : memWf a0.mem = true) : memWf ((State.putCtxstat a0 a1)).mem = true := by
  unfold State.putCtxstat
  repeat' (first
    | with_reducible assumption | with_reducible (refine OutOk.next ?_) | with_reducible apply State.modMyEntry_wf
    | with_reducible apply State.setCtx_wf)

theorem State.putDeadline_wf {a0 a1} (h0 : memWf a0.mem = true) : memWf ((State.putDeadline a0 a1)).mem = true := by
  unfold State.putDeadline
  repeat' (first
    | with_reducible assumption | dsimp only | with_reducible (refine OutOk.next ?_) | with_reducible apply State.demote_wf
    | with_reducible apply State.modMyEntry_wf | with_reducible apply State.setCtx_wf | split | with_reducible (intro _)
    | with_reducible (refine Ok_fst (by assumption) ?_))

theorem State.srPut_wf {a0 a1 a2} (h0 : memWf a0.mem = true) : memWf ((State.srPut a0 a1 a2)).mem = true := by
  unfold State.srPut
  repeat' (first
    | with_reducible assumption | dsimp only | with_reducible (refine OutOk.next ?_) | with_reducible apply State.putCtxstat_wf
    | with_reducible apply State.setCtx_wf | with_reducible apply State.modMyEntry_wf | with_reducible apply State.putDeadline_wf
    | with_reducible apply State.setCore_wf | split | with_reducible (intro _)
    | with_reducible (refine Ok_fst (by assumption) ?_))

theorem execSwr_wf {a0 a1 a2 a3} (h3 : memWf a3.mem = true) : OutOk (execSwr a0 a1 a2 a3) := by
  unfold execSwr
  repeat' (first
    | with_reducible assumption | dsimp only | with_reducible (refine OutOk.next ?_) | with_reducible apply trap_wf
    | with_reducible apply endSwr_wf | with_reducible apply State.srPut_wf | split | with_reducible (intro _)
    | with_reducible (refine Ok_fst (by assumption) ?_))

theorem execSys_wf {a0} (h0 : memWf a0.mem = true) : OutOk (execSys a0) := by
  unfold execSys
  repeat' (first | with_reducible assumption | with_reducible (refine OutOk.next ?_) | with_reducible apply trap_wf)

theorem execTrapret_wf {a0} (h0 : memWf a0.mem = true) : OutOk (execTrapret a0) := by
  unfold execTrapret
  repeat' (first
    | with_reducible assumption | dsimp only | with_reducible (refine OutOk.next ?_) | with_reducible apply park_wf
    | with_reducible apply State.trapReturn_wf | with_reducible apply State.resumeWork_wf | split | with_reducible (intro _)
    | with_reducible (refine Ok_fst (by assumption) ?_))

theorem execIfence_wf {a0} (h0 : memWf a0.mem = true) : OutOk (execIfence a0) := by
  unfold execIfence
  repeat' (first
    | with_reducible assumption | with_reducible (refine OutOk.next ?_) | with_reducible apply done_wf
    | with_reducible apply State.reloadGuards_wf)

theorem execBrk_wf {a0} (h0 : memWf a0.mem = true) : OutOk (execBrk a0) := by
  unfold execBrk
  repeat' (first | with_reducible assumption | with_reducible (refine OutOk.next ?_) | with_reducible apply trap_wf)

theorem execSrd_wf {a0 a1 a2 a3} (h3 : memWf a3.mem = true) : OutOk (execSrd a0 a1 a2 a3) := by
  unfold execSrd
  repeat' (first
    | with_reducible assumption | dsimp only | with_reducible (refine OutOk.next ?_) | with_reducible apply trap_wf
    | with_reducible apply writeG_wf | split | with_reducible (intro _) | with_reducible (refine Ok_fst (by assumption) ?_))

theorem State.driveWork_wf {a0 a1} (h0 : memWf a0.mem = true) : memWf ((State.driveWork a0 a1)).mem = true := by
  unfold State.driveWork
  repeat' (first
    | with_reducible assumption | dsimp only | with_reducible (refine OutOk.next ?_) | with_reducible apply State.post_wf
    | with_reducible apply State.kickTw_wf | with_reducible apply State.kickCp_wf | with_reducible apply State.kickMx_wf
    | with_reducible apply Ok_foldl | with_reducible apply Ok_foldl_fst | with_reducible (refine Some_ok (by assumption) ?_)
    | with_reducible (refine Some_ok2 (by assumption) ?_) | with_reducible (exact None_ok (by assumption))
    | with_reducible (exact None_ok2 (by assumption)) | with_reducible apply getD_ok | split | with_reducible (intro _)
    | with_reducible (refine Ok_fst (by assumption) ?_) | with_reducible (refine Ok_snd (by assumption) ?_))

theorem State.unhaltWork_wf {a0 a1 a2} (h0 : memWf a0.mem = true) : memWf ((State.unhaltWork a0 a1 a2)).mem = true := by
  unfold State.unhaltWork
  repeat' (first
    | with_reducible assumption | with_reducible (refine OutOk.next ?_) | with_reducible apply State.driveWork_wf
    | with_reducible apply State.setTileAt_wf)

theorem State.engineOverrun_wf {a0 a1 a2 a3} (h0 : memWf a0.mem = true) : memWf ((State.engineOverrun a0 a1 a2 a3)).mem = true := by
  unfold State.engineOverrun
  repeat' (first | with_reducible assumption | with_reducible (refine OutOk.next ?_) | with_reducible apply State.raiseOn_wf)

theorem State.pauseMx_wf {a0 a1 a2} (h0 : memWf a0.mem = true) : memWf ((State.pauseMx a0 a1 a2)).mem = true := by
  unfold State.pauseMx
  repeat' (first
    | with_reducible assumption | dsimp only | with_reducible (refine OutOk.next ?_) | with_reducible apply State.setMx_wf
    | with_reducible apply State.kickMx_wf | with_reducible apply State.dropOp_wf | with_reducible apply State.engineOverrun_wf
    | with_reducible apply State.pauseOp_wf | split | with_reducible (intro _)
    | with_reducible (refine Ok_fst (by assumption) ?_))

theorem State.pauseTw_wf {a0 a1 a2} (h0 : memWf a0.mem = true) : memWf ((State.pauseTw a0 a1 a2)).mem = true := by
  unfold State.pauseTw
  repeat' (first
    | with_reducible assumption | dsimp only | with_reducible (refine OutOk.next ?_) | with_reducible apply State.endTw_wf
    | with_reducible apply State.engineOverrun_wf | with_reducible apply State.setTw_wf | split | with_reducible (intro _)
    | with_reducible (refine Ok_fst (by assumption) ?_))

theorem State.pauseCp_wf {a0 a1 a2} (h0 : memWf a0.mem = true) : memWf ((State.pauseCp a0 a1 a2)).mem = true := by
  unfold State.pauseCp
  repeat' (first
    | with_reducible assumption | dsimp only | with_reducible (refine OutOk.next ?_) | with_reducible apply State.post_wf
    | with_reducible apply State.setJob_wf | with_reducible apply State.setCp_wf | with_reducible apply State.engineOverrun_wf
    | split | with_reducible (intro _) | with_reducible (refine Ok_fst (by assumption) ?_))

theorem execEngineBudgetExhausted_wf {a0} (h0 : memWf a0.mem = true) : OutOk (execEngineBudgetExhausted a0) := by
  unfold execEngineBudgetExhausted
  repeat' (first
    | with_reducible assumption | dsimp only | with_reducible (refine OutOk.next ?_) | with_reducible apply State.pauseMx_wf
    | with_reducible apply State.pauseCp_wf | with_reducible apply State.pauseTw_wf | with_reducible apply Ok_foldl
    | with_reducible apply Ok_foldl_fst | with_reducible (refine Some_ok (by assumption) ?_)
    | with_reducible (refine Some_ok2 (by assumption) ?_) | with_reducible (exact None_ok (by assumption))
    | with_reducible (exact None_ok2 (by assumption)) | with_reducible apply getD_ok | split | with_reducible (intro _)
    | with_reducible (refine Ok_fst (by assumption) ?_) | with_reducible (refine Ok_snd (by assumption) ?_))

theorem State.haltWork_wf {a0 a1 a2} (h0 : memWf a0.mem = true) : memWf ((State.haltWork a0 a1 a2)).mem = true := by
  unfold State.haltWork
  repeat' (first | with_reducible assumption | with_reducible (refine OutOk.next ?_) | with_reducible apply State.setTileAt_wf)

theorem writeF_wf {a0 a1 a2} (h0 : memWf a0.mem = true) : OutOk (writeF a0 a1 a2) := by
  unfold writeF
  repeat' (first
    | with_reducible assumption | dsimp only | with_reducible (refine OutOk.next ?_) | with_reducible apply withFlags_wf
    | with_reducible apply writeG_wf | split | with_reducible (intro _) | with_reducible (refine Ok_fst (by assumption) ?_))

theorem arithF_wf {a0 a1 a2 a3} (h0 : memWf a0.mem = true) : OutOk (arithF a0 a1 a2 a3) := by
  unfold arithF
  repeat' (first | with_reducible assumption | with_reducible (refine OutOk.next ?_) | with_reducible apply writeF_wf)

theorem execFmul_wf {a0 a1 a2 a3 a4} (h4 : memWf a4.mem = true) : OutOk (execFmul a0 a1 a2 a3 a4) := by
  unfold execFmul
  repeat' (first | with_reducible assumption | with_reducible (refine OutOk.next ?_) | with_reducible apply arithF_wf)

theorem execFsqrt_wf {a0 a1 a2 a3} (h3 : memWf a3.mem = true) : OutOk (execFsqrt a0 a1 a2 a3) := by
  unfold execFsqrt
  repeat' (first | with_reducible assumption | with_reducible (refine OutOk.next ?_) | with_reducible apply arithF_wf)

theorem execFmin_wf {a0 a1 a2 a3 a4} (h4 : memWf a4.mem = true) : OutOk (execFmin a0 a1 a2 a3 a4) := by
  unfold execFmin
  repeat' (first | with_reducible assumption | with_reducible (refine OutOk.next ?_) | with_reducible apply writeF_wf)

theorem execFsgn_wf {a0 a1 a2 a3 a4} (h4 : memWf a4.mem = true) : OutOk (execFsgn a0 a1 a2 a3 a4) := by
  unfold execFsgn
  repeat' (first
    | with_reducible assumption | dsimp only | with_reducible (refine OutOk.next ?_) | with_reducible apply writeG_wf
    | with_reducible apply illegal_wf | split | with_reducible (intro _) | with_reducible (refine Ok_fst (by assumption) ?_))

theorem execFdiv_wf {a0 a1 a2 a3 a4} (h4 : memWf a4.mem = true) : OutOk (execFdiv a0 a1 a2 a3 a4) := by
  unfold execFdiv
  repeat' (first | with_reducible assumption | with_reducible (refine OutOk.next ?_) | with_reducible apply arithF_wf)

theorem execFsub_wf {a0 a1 a2 a3 a4} (h4 : memWf a4.mem = true) : OutOk (execFsub a0 a1 a2 a3 a4) := by
  unfold execFsub
  repeat' (first | with_reducible assumption | with_reducible (refine OutOk.next ?_) | with_reducible apply arithF_wf)

theorem execFcmp_wf {a0 a1 a2 a3 a4} (h4 : memWf a4.mem = true) : OutOk (execFcmp a0 a1 a2 a3 a4) := by
  unfold execFcmp
  repeat' (first | with_reducible assumption | with_reducible (refine OutOk.next ?_) | with_reducible apply writeF_wf)

theorem execFadd_wf {a0 a1 a2 a3 a4} (h4 : memWf a4.mem = true) : OutOk (execFadd a0 a1 a2 a3 a4) := by
  unfold execFadd
  repeat' (first | with_reducible assumption | with_reducible (refine OutOk.next ?_) | with_reducible apply arithF_wf)

theorem execFma_wf {a0 a1 a2 a3 a4} (h4 : memWf a4.mem = true) : OutOk (execFma a0 a1 a2 a3 a4) := by
  unfold execFma
  repeat' (first | with_reducible assumption | with_reducible (refine OutOk.next ?_) | with_reducible apply arithF_wf)

theorem execFclass_wf {a0 a1 a2 a3} (h3 : memWf a3.mem = true) : OutOk (execFclass a0 a1 a2 a3) := by
  unfold execFclass
  repeat' (first | with_reducible assumption | with_reducible (refine OutOk.next ?_) | with_reducible apply writeG_wf)

theorem execFcvt_wf {a0 a1 a2 a3 a4} (h4 : memWf a4.mem = true) : OutOk (execFcvt a0 a1 a2 a3 a4) := by
  unfold execFcvt
  repeat' (first
    | with_reducible assumption | dsimp only | with_reducible (refine OutOk.next ?_) | with_reducible apply writeF_wf
    | with_reducible apply withFlags_wf | with_reducible apply writeG_wf | with_reducible apply illegal_wf | split
    | with_reducible (intro _) | with_reducible (refine Ok_fst (by assumption) ?_))

theorem execFmax_wf {a0 a1 a2 a3 a4} (h4 : memWf a4.mem = true) : OutOk (execFmax a0 a1 a2 a3 a4) := by
  unfold execFmax
  repeat' (first | with_reducible assumption | with_reducible (refine OutOk.next ?_) | with_reducible apply writeF_wf)

theorem State.joinTarget_wf {a0 a1 a2} (h0 : memWf a0.mem = true) : memWf ((State.joinTarget a0 a1 a2)).mem = true := by
  unfold State.joinTarget
  repeat' (first
    | with_reducible assumption | dsimp only | with_reducible (refine OutOk.next ?_) | with_reducible apply State.assign_wf
    | with_reducible apply State.launchEnds_wf | split | with_reducible (intro _)
    | with_reducible (refine Ok_fst (by assumption) ?_))

theorem State.flushAccount_wf {a0 a1 a2 a3} (h0 : memWf a0.mem = true) : memWf ((State.flushAccount a0 a1 a2 a3)).mem = true := by
  unfold State.flushAccount
  repeat' (first
    | with_reducible assumption | dsimp only | with_reducible (refine OutOk.next ?_) | with_reducible apply State.writeBack_wf
    | split | with_reducible (intro _) | with_reducible (refine Ok_fst (by assumption) ?_))

theorem State.copyRange_wf {a0 a1 a2 a3} (h0 : memWf a0.mem = true) : memWf ((State.copyRange a0 a1 a2 a3)).mem = true := by
  unfold State.copyRange
  repeat' (first | with_reducible assumption | with_reducible (refine OutOk.next ?_) | with_reducible apply copyMem_wf)

theorem State.moveRetained_wf {a0 a1 a2 a3} (h0 : memWf a0.mem = true) : memWf ((State.moveRetained a0 a1 a2 a3)).mem = true := by
  unfold State.moveRetained
  repeat' (first
    | with_reducible assumption | dsimp only | with_reducible (refine OutOk.next ?_) | with_reducible apply State.copyRange_wf
    | with_reducible apply State.noticeMsg_wf | with_reducible apply State.setTileAt_wf | with_reducible apply Ok_foldl
    | with_reducible apply Ok_foldl_fst | with_reducible (refine Some_ok (by assumption) ?_)
    | with_reducible (refine Some_ok2 (by assumption) ?_) | with_reducible (exact None_ok (by assumption))
    | with_reducible (exact None_ok2 (by assumption)) | with_reducible apply getD_ok | split | with_reducible (intro _)
    | with_reducible (refine Ok_fst (by assumption) ?_) | with_reducible (refine Ok_snd (by assumption) ?_))

theorem State.confine_wf {a0 a1} (h0 : memWf a0.mem = true) : memWf ((State.confine a0 a1)).mem = true := by
  unfold State.confine
  repeat' (first
    | with_reducible assumption | dsimp only | with_reducible (refine OutOk.next ?_) | with_reducible apply State.clearRange_wf
    | with_reducible apply State.setRmEntry_wf | with_reducible apply Ok_foldl | with_reducible apply Ok_foldl_fst
    | with_reducible (refine Some_ok (by assumption) ?_) | with_reducible (refine Some_ok2 (by assumption) ?_)
    | with_reducible (exact None_ok (by assumption)) | with_reducible (exact None_ok2 (by assumption))
    | with_reducible apply getD_ok | split | with_reducible (intro _) | with_reducible (refine Ok_fst (by assumption) ?_)
    | with_reducible (refine Ok_snd (by assumption) ?_))

theorem State.moveReady_wf {a0 a1 a2 a3 a4} (h0 : memWf a0.mem = true) : memWf ((State.moveReady a0 a1 a2 a3 a4)).mem = true := by
  unfold State.moveReady
  repeat' (first
    | with_reducible assumption | dsimp only | with_reducible (refine OutOk.next ?_) | with_reducible apply State.sievedReady_wf
    | with_reducible apply State.linkReady_wf | with_reducible apply Ok_foldl | with_reducible apply Ok_foldl_fst
    | with_reducible (refine Some_ok (by assumption) ?_) | with_reducible (refine Some_ok2 (by assumption) ?_)
    | with_reducible (exact None_ok (by assumption)) | with_reducible (exact None_ok2 (by assumption))
    | with_reducible apply getD_ok | split | with_reducible (intro _) | with_reducible (refine Ok_fst (by assumption) ?_)
    | with_reducible (refine Ok_snd (by assumption) ?_))

theorem State.moveWhole_wf {a0 a1 a2 a3} (h0 : memWf a0.mem = true) : memWf ((State.moveWhole a0 a1 a2 a3)).mem = true := by
  unfold State.moveWhole
  repeat' (first
    | with_reducible assumption | dsimp only | with_reducible (refine OutOk.next ?_) | with_reducible apply State.copyRange_wf
    | with_reducible apply State.setTileAt_wf | with_reducible apply State.moveReady_wf | with_reducible apply Ok_foldl
    | with_reducible apply Ok_foldl_fst | with_reducible (refine Some_ok (by assumption) ?_)
    | with_reducible (refine Some_ok2 (by assumption) ?_) | with_reducible (exact None_ok (by assumption))
    | with_reducible (exact None_ok2 (by assumption)) | with_reducible apply getD_ok | split | with_reducible (intro _)
    | with_reducible (refine Ok_fst (by assumption) ?_) | with_reducible (refine Ok_snd (by assumption) ?_))

theorem State.moveInbox_wf {a0 a1 a2 a3 a4} (h0 : memWf a0.mem = true) : memWf ((State.moveInbox a0 a1 a2 a3 a4)).mem = true := by
  unfold State.moveInbox
  repeat' (first
    | with_reducible assumption | dsimp only | with_reducible (refine OutOk.next ?_) | with_reducible apply State.setCoreAt_wf
    | with_reducible apply State.recordEnds_wf | with_reducible apply State.pipeReport_wf
    | with_reducible apply State.tellDrop_wf | with_reducible apply Ok_foldl | with_reducible apply Ok_foldl_fst
    | with_reducible (refine Some_ok (by assumption) ?_) | with_reducible (refine Some_ok2 (by assumption) ?_)
    | with_reducible (exact None_ok (by assumption)) | with_reducible (exact None_ok2 (by assumption))
    | with_reducible apply getD_ok | split | with_reducible (intro _) | with_reducible (refine Ok_fst (by assumption) ?_)
    | with_reducible (refine Ok_snd (by assumption) ?_))

theorem State.dropReady_wf {a0 a1 a2} (h0 : memWf a0.mem = true) : memWf ((State.dropReady a0 a1 a2)).mem = true := by
  unfold State.dropReady
  repeat' (first
    | with_reducible assumption | dsimp only | with_reducible (refine OutOk.next ?_) | with_reducible apply State.sievedReady_wf
    | with_reducible apply Ok_foldl | with_reducible apply Ok_foldl_fst | with_reducible (refine Some_ok (by assumption) ?_)
    | with_reducible (refine Some_ok2 (by assumption) ?_) | with_reducible (exact None_ok (by assumption))
    | with_reducible (exact None_ok2 (by assumption)) | with_reducible apply getD_ok | split | with_reducible (intro _)
    | with_reducible (refine Ok_fst (by assumption) ?_) | with_reducible (refine Ok_snd (by assumption) ?_))

theorem State.moveContents_wf {a0 a1 a2 a3} (h0 : memWf a0.mem = true) : memWf ((State.moveContents a0 a1 a2 a3)).mem = true := by
  unfold State.moveContents
  repeat' (first
    | with_reducible assumption | dsimp only | with_reducible (refine OutOk.next ?_) | with_reducible apply State.confine_wf
    | with_reducible apply State.moveWhole_wf | with_reducible apply State.moveRetained_wf
    | with_reducible apply State.moveInbox_wf | with_reducible apply State.moveReady_wf | with_reducible apply State.dropReady_wf
    | with_reducible apply State.clearRange_wf | with_reducible apply Ok_foldl | with_reducible apply Ok_foldl_fst
    | with_reducible (refine Some_ok (by assumption) ?_) | with_reducible (refine Some_ok2 (by assumption) ?_)
    | with_reducible (exact None_ok (by assumption)) | with_reducible (exact None_ok2 (by assumption))
    | with_reducible apply getD_ok | split | with_reducible (intro _) | with_reducible (refine Ok_fst (by assumption) ?_)
    | with_reducible (refine Ok_snd (by assumption) ?_))

theorem State.returnResv_wf {a0 a1 a2 a3} (h0 : memWf a0.mem = true) : memWf ((State.returnResv a0 a1 a2 a3)).mem = true := by
  unfold State.returnResv
  repeat' (first
    | with_reducible assumption | dsimp only | with_reducible (refine OutOk.next ?_) | with_reducible apply State.giveBack_wf
    | with_reducible apply State.flushAccount_wf | split | with_reducible (intro _)
    | with_reducible (refine Ok_fst (by assumption) ?_))

theorem State.leaveSlot_wf {a0 a1 a2} (h0 : memWf a0.mem = true) : memWf ((State.leaveSlot a0 a1 a2)).mem = true := by
  unfold State.leaveSlot
  repeat' (first
    | with_reducible assumption | dsimp only | with_reducible (refine OutOk.next ?_) | with_reducible apply State.recordEnds_wf
    | with_reducible apply State.freeSlot_wf | split | with_reducible (intro _)
    | with_reducible (refine Ok_fst (by assumption) ?_))

theorem State.followTask_wf {a0 a1 a2} (h0 : memWf a0.mem = true) : memWf ((State.followTask a0 a1 a2)).mem = true := by
  unfold State.followTask
  repeat' (first | with_reducible assumption | with_reducible (refine OutOk.next ?_))

theorem State.moveEntry_wf {a0 a1 a2 a3 a4 a5} (h0 : memWf a0.mem = true) : memWf ((State.moveEntry a0 a1 a2 a3 a4 a5)).mem = true := by
  unfold State.moveEntry
  repeat' (first
    | with_reducible assumption | dsimp only | with_reducible (refine OutOk.next ?_) | with_reducible apply State.setCoreAt_wf
    | with_reducible apply State.followTask_wf | with_reducible apply State.enqueue_wf | with_reducible apply State.noteCode_wf
    | with_reducible apply copyMem_wf | split | with_reducible (intro _) | with_reducible (refine Ok_fst (by assumption) ?_))

theorem State.tryTiles_wf {a0 a1 a2 a3 a4} (h0 : memWf a0.mem = true) : memWf ((State.tryTiles a0 a1 a2 a3 a4).1).mem = true := by
  induction a3 generalizing a0 a1 a2 a4 with
  | nil =>
    unfold State.tryTiles
    repeat' (first
      | with_reducible assumption | dsimp only | with_reducible (refine OutOk.next ?_) | with_reducible apply State.returnResv_wf
      | with_reducible apply State.leaveSlot_wf | with_reducible apply State.admitCode_wf | with_reducible apply State.giveBack_wf
      | with_reducible apply State.reserveCycles_wf | with_reducible apply State.freeSlot_wf
      | with_reducible apply State.moveEntry_wf | with_reducible apply State.noteCode_wf | split | with_reducible (intro _)
      | with_reducible (refine Ok_fst (by assumption) ?_))
  | cons x l ih =>
    unfold State.tryTiles
    repeat' (first
      | with_reducible apply ih | with_reducible assumption | dsimp only | with_reducible (refine OutOk.next ?_) | with_reducible apply State.returnResv_wf
      | with_reducible apply State.leaveSlot_wf | with_reducible apply State.admitCode_wf | with_reducible apply State.giveBack_wf
      | with_reducible apply State.reserveCycles_wf | with_reducible apply State.freeSlot_wf
      | with_reducible apply State.moveEntry_wf | with_reducible apply State.noteCode_wf | split | with_reducible (intro _)
      | with_reducible (refine Ok_fst (by assumption) ?_))

theorem State.endRefused_wf {a0 a1 a2} (h0 : memWf a0.mem = true) : memWf ((State.endRefused a0 a1 a2)).mem = true := by
  unfold State.endRefused
  repeat' (first
    | with_reducible assumption | dsimp only | with_reducible (refine OutOk.next ?_) | with_reducible apply State.leaveSlot_wf
    | with_reducible apply State.abandonPaused_wf | with_reducible apply State.dropEntry_wf | split | with_reducible (intro _)
    | with_reducible (refine Ok_fst (by assumption) ?_))

theorem State.repostList_wf {a0 a1 a2 a3} (h0 : memWf a0.mem = true) : memWf ((State.repostList a0 a1 a2 a3)).mem = true := by
  unfold State.repostList
  repeat' (first
    | with_reducible assumption | dsimp only | with_reducible (refine OutOk.next ?_) | with_reducible apply State.noticeMsg_wf
    | with_reducible apply Ok_foldl | with_reducible apply Ok_foldl_fst | with_reducible (refine Some_ok (by assumption) ?_)
    | with_reducible (refine Some_ok2 (by assumption) ?_) | with_reducible (exact None_ok (by assumption))
    | with_reducible (exact None_ok2 (by assumption)) | with_reducible apply getD_ok | split | with_reducible (intro _)
    | with_reducible (refine Ok_fst (by assumption) ?_) | with_reducible (refine Ok_snd (by assumption) ?_))

theorem State.endEntries_wf {a0 a1 a2 a3} (h0 : memWf a0.mem = true) : memWf ((State.endEntries a0 a1 a2 a3)).mem = true := by
  unfold State.endEntries
  repeat' (first
    | with_reducible assumption | dsimp only | with_reducible (refine OutOk.next ?_) | with_reducible apply State.setCtxAt_wf
    | with_reducible apply State.endRefused_wf | with_reducible apply State.repostList_wf | with_reducible apply Ok_foldl
    | with_reducible apply Ok_foldl_fst | with_reducible (refine Some_ok (by assumption) ?_)
    | with_reducible (refine Some_ok2 (by assumption) ?_) | with_reducible (exact None_ok (by assumption))
    | with_reducible (exact None_ok2 (by assumption)) | with_reducible apply getD_ok | split | with_reducible (intro _)
    | with_reducible (refine Ok_fst (by assumption) ?_) | with_reducible (refine Ok_snd (by assumption) ?_))

theorem State.setLeased_wf {a0 a1 a2 a3 a4 a5} (h0 : memWf a0.mem = true) : memWf ((State.setLeased a0 a1 a2 a3 a4 a5)).mem = true := by
  unfold State.setLeased
  repeat' (first
    | with_reducible assumption | dsimp only | with_reducible (refine OutOk.next ?_) | with_reducible apply State.setRmEntry_wf
    | with_reducible apply Ok_foldl | with_reducible apply Ok_foldl_fst | with_reducible (refine Some_ok (by assumption) ?_)
    | with_reducible (refine Some_ok2 (by assumption) ?_) | with_reducible (exact None_ok (by assumption))
    | with_reducible (exact None_ok2 (by assumption)) | with_reducible apply getD_ok | split | with_reducible (intro _)
    | with_reducible (refine Ok_fst (by assumption) ?_) | with_reducible (refine Ok_snd (by assumption) ?_))

theorem State.leaseDecide_wf {a0 a1 a2 a3} (h0 : memWf a0.mem = true) : memWf ((State.leaseDecide a0 a1 a2 a3).1).mem = true := by
  unfold State.leaseDecide
  repeat' (first
    | with_reducible assumption | dsimp only | with_reducible (refine OutOk.next ?_) | with_reducible apply State.postAt_wf
    | with_reducible apply State.setLease_wf | with_reducible apply State.setLeased_wf | split | with_reducible (intro _)
    | with_reducible (refine Ok_fst (by assumption) ?_))

theorem State.repost_wf {a0 a1 a2 a3} (h0 : memWf a0.mem = true) : memWf ((State.repost a0 a1 a2 a3).1).mem = true := by
  unfold State.repost
  repeat' (first
    | with_reducible assumption | dsimp only | with_reducible (refine OutOk.next ?_) | with_reducible apply State.admitCode_wf
    | with_reducible apply State.moveEntry_wf | with_reducible apply State.endRefused_wf
    | with_reducible apply State.returnResv_wf | with_reducible apply State.noteCode_wf | with_reducible apply State.tryTiles_wf
    | split | with_reducible (intro _) | with_reducible (refine Ok_fst (by assumption) ?_))

theorem State.repostGang_wf {a0 a1 a2 a3} (h0 : memWf a0.mem = true) : memWf ((State.repostGang a0 a1 a2 a3).1).mem = true := by
  unfold State.repostGang
  repeat' (first
    | with_reducible assumption | dsimp only | with_reducible (refine OutOk.next ?_) | with_reducible apply State.endRefused_wf
    | with_reducible apply State.returnResv_wf | with_reducible apply State.gangCodes_wf
    | with_reducible apply State.moveEntry_wf | with_reducible apply State.setTileAt_wf | with_reducible apply State.noteCode_wf
    | with_reducible apply Ok_foldl | with_reducible apply Ok_foldl_fst | with_reducible (refine Some_ok (by assumption) ?_)
    | with_reducible (refine Some_ok2 (by assumption) ?_) | with_reducible (exact None_ok (by assumption))
    | with_reducible (exact None_ok2 (by assumption)) | with_reducible apply getD_ok | split | with_reducible (intro _)
    | with_reducible (refine Ok_fst (by assumption) ?_) | with_reducible (refine Ok_snd (by assumption) ?_))

end Sys2Proof.Machine
end

