-- ==== Sys2Proof/Laws/KeepMemory5.lean ====
section
/-! SUPPORT. Every operation and every meaning keeps the canonical form of memory, and every meaning answers a next state; part 5. -/

namespace Sys2Proof.Machine

theorem State.repostAll_wf {a0 a1 a2 a3} (h0 : memWf a0.mem = true) : memWf ((State.repostAll a0 a1 a2 a3)).mem = true := by
  unfold State.repostAll
  repeat' (first
    | with_reducible assumption | dsimp only | with_reducible (refine OutOk.next ?_) | with_reducible apply State.flushAccount_wf
    | with_reducible apply State.repost_wf | with_reducible apply State.repostGang_wf | with_reducible apply State.repostList_wf
    | with_reducible apply Ok_foldl | with_reducible apply Ok_foldl_fst | with_reducible (refine Some_ok (by assumption) ?_)
    | with_reducible (refine Some_ok2 (by assumption) ?_) | with_reducible (exact None_ok (by assumption))
    | with_reducible (exact None_ok2 (by assumption)) | with_reducible apply getD_ok | split | with_reducible (intro _)
    | with_reducible (refine Ok_fst (by assumption) ?_) | with_reducible (refine Ok_snd (by assumption) ?_))

theorem State.endLease_wf {a0 a1 a2} (h0 : memWf a0.mem = true) : memWf ((State.endLease a0 a1 a2)).mem = true := by
  unfold State.endLease
  repeat' (first
    | with_reducible assumption | with_reducible (refine OutOk.next ?_) | with_reducible apply State.setLease_wf
    | with_reducible apply State.setLeased_wf)

theorem execLrelArrival_wf {a0} (h0 : memWf a0.mem = true) : OutOk (execLrelArrival a0) := by
  unfold execLrelArrival
  repeat' (first
    | with_reducible assumption | dsimp only | with_reducible (refine OutOk.next ?_) | with_reducible apply State.endLease_wf
    | split | with_reducible (intro _) | with_reducible (refine Ok_fst (by assumption) ?_))

theorem execLeaveatReached_wf {a0} (h0 : memWf a0.mem = true) : OutOk (execLeaveatReached a0) := by
  unfold execLeaveatReached
  repeat' (first
    | with_reducible assumption | dsimp only | with_reducible (refine OutOk.next ?_) | with_reducible apply State.setRmEntry_wf
    | with_reducible apply State.setTileAt_wf | with_reducible apply State.demoteSite_wf | with_reducible apply State.postAt_wf
    | with_reducible apply State.post_wf | with_reducible apply State.askStop_wf | with_reducible apply State.repostAll_wf
    | with_reducible apply Ok_foldl | with_reducible apply Ok_foldl_fst | with_reducible (refine Some_ok (by assumption) ?_)
    | with_reducible (refine Some_ok2 (by assumption) ?_) | with_reducible (exact None_ok (by assumption))
    | with_reducible (exact None_ok2 (by assumption)) | with_reducible apply getD_ok | split | with_reducible (intro _)
    | with_reducible (refine Ok_fst (by assumption) ?_) | with_reducible (refine Ok_snd (by assumption) ?_))

theorem State.abandonWork_wf {a0 a1 a2} (h0 : memWf a0.mem = true) : memWf ((State.abandonWork a0 a1 a2)).mem = true := by
  unfold State.abandonWork
  repeat' (first
    | with_reducible assumption | dsimp only | with_reducible (refine OutOk.next ?_) | with_reducible apply State.dropOp_wf
    | with_reducible apply State.raiseOn_wf | with_reducible apply State.setMx_wf | with_reducible apply State.post_wf
    | with_reducible apply State.setJob_wf | with_reducible apply State.setCp_wf | with_reducible apply Ok_foldl
    | with_reducible apply Ok_foldl_fst | with_reducible (refine Some_ok (by assumption) ?_)
    | with_reducible (refine Some_ok2 (by assumption) ?_) | with_reducible (exact None_ok (by assumption))
    | with_reducible (exact None_ok2 (by assumption)) | with_reducible apply getD_ok | split | with_reducible (intro _)
    | with_reducible (refine Ok_fst (by assumption) ?_) | with_reducible (refine Ok_snd (by assumption) ?_))

theorem State.abandonTw_wf {a0 a1} (h0 : memWf a0.mem = true) : memWf ((State.abandonTw a0 a1)).mem = true := by
  unfold State.abandonTw
  repeat' (first
    | with_reducible assumption | dsimp only | with_reducible (refine OutOk.next ?_) | with_reducible apply State.raiseOn_wf
    | with_reducible apply State.endTw_wf | with_reducible apply Ok_foldl | with_reducible apply Ok_foldl_fst
    | with_reducible (refine Some_ok (by assumption) ?_) | with_reducible (refine Some_ok2 (by assumption) ?_)
    | with_reducible (exact None_ok (by assumption)) | with_reducible (exact None_ok2 (by assumption))
    | with_reducible apply getD_ok | split | with_reducible (intro _) | with_reducible (refine Ok_fst (by assumption) ?_)
    | with_reducible (refine Ok_snd (by assumption) ?_))

theorem State.enterState_wf {a0 a1 a2 a3} (h0 : memWf a0.mem = true) : memWf ((State.enterState a0 a1 a2 a3)).mem = true := by
  unfold State.enterState
  repeat' (first
    | with_reducible assumption | dsimp only | with_reducible (refine OutOk.next ?_) | with_reducible apply State.zeroSite_wf
    | with_reducible apply State.abandonTw_wf | with_reducible apply State.setTileAt_wf | with_reducible apply State.offerSite_wf
    | with_reducible apply State.demoteAll_wf | split | with_reducible (intro _)
    | with_reducible (refine Ok_fst (by assumption) ?_))

theorem State.refreshShared_wf {a0 a1} (h0 : memWf a0.mem = true) : memWf ((State.refreshShared a0 a1)).mem = true := by
  unfold State.refreshShared
  repeat' (first
    | with_reducible assumption | dsimp only | with_reducible (refine OutOk.next ?_) | with_reducible apply State.setRmEntry_wf
    | with_reducible apply Ok_foldl | with_reducible apply Ok_foldl_fst | with_reducible (refine Some_ok (by assumption) ?_)
    | with_reducible (refine Some_ok2 (by assumption) ?_) | with_reducible (exact None_ok (by assumption))
    | with_reducible (exact None_ok2 (by assumption)) | with_reducible apply getD_ok | split | with_reducible (intro _)
    | with_reducible (refine Ok_fst (by assumption) ?_) | with_reducible (refine Ok_snd (by assumption) ?_))

theorem State.commitEnt_wf {a0 a1 a2 a3} (h0 : memWf a0.mem = true) : memWf ((State.commitEnt a0 a1 a2 a3)).mem = true := by
  unfold State.commitEnt
  repeat' (first
    | with_reducible assumption | dsimp only | with_reducible (refine OutOk.next ?_) | with_reducible apply State.setRmEntry_wf
    | with_reducible apply State.setTileAt_wf | with_reducible apply State.refreshShared_wf
    | with_reducible apply State.setRegion_wf | split | with_reducible (intro _)
    | with_reducible (refine Ok_fst (by assumption) ?_))

theorem State.commitMove_wf {a0 a1 a2} (h0 : memWf a0.mem = true) : memWf ((State.commitMove a0 a1 a2)).mem = true := by
  unfold State.commitMove
  extract_lets s1 s2 s3 s4 s5
  have h1 : memWf s1.mem = true := Ok_foldl h0 fun _ _ h => by
    split
    · exact h
    · exact State.abandonWork_wf h
  clear_value s1
  have h2 : memWf s2.mem = true := Ok_foldl h1 fun _ _ h => State.moveContents_wf h
  clear_value s2
  have h3 : memWf s3.mem = true := State.enterState_wf (State.refreshShared_wf (Ok_foldl h2 fun _ _ h => State.commitEnt_wf h))
  clear_value s3
  have h5 : memWf s5.mem = true := State.wakeHeld_wf (State.releasePort_wf (State.post_wf (State.joinTarget_wf h3)))
  clear_value s4 s5
  exact Ok_foldl (State.driveWork_wf h5) fun _ _ h =>
    Ok_foldl (State.driveWork_wf (State.releasePort_wf h)) fun _ _ h => State.kickCore_wf h

theorem State.redirect_wf {a0 a1} (h0 : memWf a0.mem = true) : memWf ((State.redirect a0 a1)).mem = true := by
  unfold State.redirect
  repeat' (first
    | with_reducible assumption | dsimp only | with_reducible (refine OutOk.next ?_) | with_reducible apply State.setTileAt_wf
    | with_reducible apply State.takeBullpen_wf | with_reducible apply State.setRmEntry_wf | with_reducible apply Ok_foldl
    | with_reducible apply Ok_foldl_fst | with_reducible (refine Some_ok (by assumption) ?_)
    | with_reducible (refine Some_ok2 (by assumption) ?_) | with_reducible (exact None_ok (by assumption))
    | with_reducible (exact None_ok2 (by assumption)) | with_reducible apply getD_ok | split | with_reducible (intro _)
    | with_reducible (refine Ok_fst (by assumption) ?_) | with_reducible (refine Ok_snd (by assumption) ?_))

theorem execSiteRetire_wf {a0} (h0 : memWf a0.mem = true) : OutOk (execSiteRetire a0) := by
  unfold execSiteRetire
  extract_lets site col s1 t c s2 coming s3 s4
  have h1 : memWf s1.mem = true := by
    simp only [s1]; split
    · exact State.countFault_wf h0
    · exact h0
  clear_value s1 t c
  have h2 : memWf s2.mem = true := by
    simp only [s2]; split
    · exact State.demoteSite_wf h1
    · exact h1
  clear_value s2 coming
  have h3 : memWf s3.mem = true := State.redirect_wf (State.dropClaims_wf (State.setTileAt_wf h2))
  clear_value s3
  have h4 : memWf s4.mem = true := State.castSite_wf h3
  clear_value s4
  with_reducible refine Ok_ite (OutOk.next h1) (Ok_ite (Ok_ite (OutOk.next h1) (OutOk.next (State.censusRun_wf (State.setColAt_wf h1)))) ?_)
  split
  · exact OutOk.next h4
  · refine OutOk.next (State.commitMove_wf (State.zeroSite_wf (Ok_foldl (Ok_foldl h4 ?_) ?_)))
    · exact fun _ _ h => State.endEntries_wf h
    · exact fun _ _ h => State.abandonWork_wf h

theorem execLeaseRequest_wf {a0} (h0 : memWf a0.mem = true) : OutOk (execLeaseRequest a0) := by
  unfold execLeaseRequest
  repeat' (first
    | with_reducible assumption | dsimp only | with_reducible (refine OutOk.next ?_) | with_reducible apply State.leaseDecide_wf
    | with_reducible apply State.setFull_wf | with_reducible apply State.writeHome_wf | with_reducible apply State.consume_wf
    | split | with_reducible (intro _) | with_reducible (refine Ok_fst (by assumption) ?_))

theorem execExpressDrainLimit_wf {a0} (h0 : memWf a0.mem = true) : OutOk (execExpressDrainLimit a0) := by
  unfold execExpressDrainLimit
  repeat' (first
    | with_reducible assumption | dsimp only | with_reducible (refine OutOk.next ?_) | with_reducible apply State.releasePort_wf
    | with_reducible apply State.setTileAt_wf | split | with_reducible (intro _)
    | with_reducible (refine Ok_fst (by assumption) ?_))

theorem execLeaseExpiry_wf {a0} (h0 : memWf a0.mem = true) : OutOk (execLeaseExpiry a0) := by
  unfold execLeaseExpiry
  repeat' (first
    | with_reducible assumption | dsimp only | with_reducible (refine OutOk.next ?_) | with_reducible apply State.endLease_wf
    | with_reducible apply State.censusRun_wf | with_reducible apply State.setColAt_wf | with_reducible apply Ok_foldl
    | with_reducible apply Ok_foldl_fst | with_reducible (refine Some_ok (by assumption) ?_)
    | with_reducible (refine Some_ok2 (by assumption) ?_) | with_reducible (exact None_ok (by assumption))
    | with_reducible (exact None_ok2 (by assumption)) | with_reducible apply getD_ok | split | with_reducible (intro _)
    | with_reducible (refine Ok_fst (by assumption) ?_) | with_reducible (refine Ok_snd (by assumption) ?_))

theorem execGraceEnd_wf {a0} (h0 : memWf a0.mem = true) : OutOk (execGraceEnd a0) := by
  unfold execGraceEnd
  repeat' (first
    | with_reducible assumption | dsimp only | with_reducible (refine OutOk.next ?_) | with_reducible apply State.censusRun_wf
    | with_reducible apply State.setTileAt_wf | split | with_reducible (intro _)
    | with_reducible (refine Ok_fst (by assumption) ?_))

theorem execMoveCommit_wf {a0} (h0 : memWf a0.mem = true) : OutOk (execMoveCommit a0) := by
  unfold execMoveCommit
  repeat' (first
    | with_reducible assumption | dsimp only | with_reducible (refine OutOk.next ?_) | with_reducible apply State.commitMove_wf
    | split | with_reducible (intro _) | with_reducible (refine Ok_fst (by assumption) ?_))

theorem State.stopPut_wf {a0 a1 a2} (h0 : memWf a0.mem = true) : memWf ((State.stopPut a0 a1 a2)).mem = true := by
  unfold State.stopPut
  repeat' (first
    | with_reducible assumption | dsimp only | with_reducible (refine OutOk.next ?_) | with_reducible apply State.writeWord_wf
    | with_reducible apply Ok_foldl | with_reducible apply Ok_foldl_fst | with_reducible (refine Some_ok (by assumption) ?_)
    | with_reducible (refine Some_ok2 (by assumption) ?_) | with_reducible (exact None_ok (by assumption))
    | with_reducible (exact None_ok2 (by assumption)) | with_reducible apply getD_ok | split | with_reducible (intro _)
    | with_reducible (refine Ok_fst (by assumption) ?_) | with_reducible (refine Ok_snd (by assumption) ?_))

theorem State.resumePanels_wf {a0 a1 a2} (h0 : memWf a0.mem = true) : memWf ((State.resumePanels a0 a1 a2)).mem = true := by
  unfold State.resumePanels
  repeat' (first
    | with_reducible assumption | dsimp only | with_reducible (refine OutOk.next ?_) | with_reducible apply State.post_wf | split
    | with_reducible (intro _) | with_reducible (refine Ok_fst (by assumption) ?_))

theorem State.setDomain_wf {a0 a1 a2 a3} (h0 : memWf a0.mem = true) : memWf ((State.setDomain a0 a1 a2 a3)).mem = true := by
  unfold State.setDomain
  repeat' (first
    | with_reducible assumption | dsimp only | with_reducible (refine OutOk.next ?_) | with_reducible apply State.setColAt_wf
    | with_reducible apply Ok_foldl | with_reducible apply Ok_foldl_fst | with_reducible (refine Some_ok (by assumption) ?_)
    | with_reducible (refine Some_ok2 (by assumption) ?_) | with_reducible (exact None_ok (by assumption))
    | with_reducible (exact None_ok2 (by assumption)) | with_reducible apply getD_ok | split | with_reducible (intro _)
    | with_reducible (refine Ok_fst (by assumption) ?_) | with_reducible (refine Ok_snd (by assumption) ?_))

theorem State.stopDomain_wf {a0 a1} (h0 : memWf a0.mem = true) : memWf ((State.stopDomain a0 a1)).mem = true := by
  unfold State.stopDomain
  repeat' (first
    | with_reducible assumption | dsimp only | with_reducible (refine OutOk.next ?_) | with_reducible apply State.setDomain_wf
    | with_reducible apply State.post_wf | with_reducible apply State.haltWork_wf | with_reducible apply Ok_foldl
    | with_reducible apply Ok_foldl_fst | with_reducible (refine Some_ok (by assumption) ?_)
    | with_reducible (refine Some_ok2 (by assumption) ?_) | with_reducible (exact None_ok (by assumption))
    | with_reducible (exact None_ok2 (by assumption)) | with_reducible apply getD_ok | split | with_reducible (intro _)
    | with_reducible (refine Ok_fst (by assumption) ?_) | with_reducible (refine Ok_snd (by assumption) ?_))

theorem execLinkLossStop_wf {a0} (h0 : memWf a0.mem = true) : OutOk (execLinkLossStop a0) := by
  unfold execLinkLossStop
  repeat' (first
    | with_reducible assumption | dsimp only | with_reducible (refine OutOk.next ?_) | with_reducible apply State.stopDomain_wf
    | split | with_reducible (intro _) | with_reducible (refine Ok_fst (by assumption) ?_))

theorem execStopRecordWrite_wf {a0} (h0 : memWf a0.mem = true) : OutOk (execStopRecordWrite a0) := by
  unfold execStopRecordWrite
  repeat' (first
    | with_reducible assumption | dsimp only | with_reducible (refine OutOk.next ?_) | with_reducible apply State.post_wf
    | with_reducible apply State.stopPut_wf | with_reducible apply State.setDomain_wf | split | with_reducible (intro _)
    | with_reducible (refine Ok_fst (by assumption) ?_))

theorem State.watchLinks_wf {a0} (h0 : memWf a0.mem = true) : memWf ((State.watchLinks a0)).mem = true := by
  unfold State.watchLinks
  repeat' (first
    | with_reducible assumption | dsimp only | with_reducible (refine OutOk.next ?_) | with_reducible apply State.post_wf
    | with_reducible apply Ok_foldl | with_reducible apply Ok_foldl_fst | with_reducible (refine Some_ok (by assumption) ?_)
    | with_reducible (refine Some_ok2 (by assumption) ?_) | with_reducible (exact None_ok (by assumption))
    | with_reducible (exact None_ok2 (by assumption)) | with_reducible apply getD_ok | split | with_reducible (intro _)
    | with_reducible (refine Ok_fst (by assumption) ?_) | with_reducible (refine Ok_snd (by assumption) ?_))

theorem State.resumeDomain_wf {a0 a1 a2} (h0 : memWf a0.mem = true) : memWf ((State.resumeDomain a0 a1 a2)).mem = true := by
  unfold State.resumeDomain
  repeat' (first
    | with_reducible assumption | dsimp only | with_reducible (refine OutOk.next ?_) | with_reducible apply State.setDomain_wf
    | with_reducible apply State.setCtxAt_wf | with_reducible apply State.holdTrap_wf | with_reducible apply State.kickCore_wf
    | with_reducible apply State.setCoreAt_wf | with_reducible apply State.unhaltWork_wf
    | with_reducible apply State.resumePanels_wf | with_reducible apply Ok_foldl | with_reducible apply Ok_foldl_fst
    | with_reducible (refine Some_ok (by assumption) ?_) | with_reducible (refine Some_ok2 (by assumption) ?_)
    | with_reducible (exact None_ok (by assumption)) | with_reducible (exact None_ok2 (by assumption))
    | with_reducible apply getD_ok | split | with_reducible (intro _) | with_reducible (refine Ok_fst (by assumption) ?_)
    | with_reducible (refine Ok_snd (by assumption) ?_))

theorem State.resumeStep_wf {a0 a1 a2} (h0 : memWf a0.mem = true) : memWf ((State.resumeStep a0 a1 a2)).mem = true := by
  unfold State.resumeStep
  repeat' (first
    | with_reducible assumption | dsimp only | with_reducible (refine OutOk.next ?_) | with_reducible apply State.resumeDomain_wf
    | with_reducible apply State.post_wf | with_reducible apply State.setDomain_wf | split | with_reducible (intro _)
    | with_reducible (refine Ok_fst (by assumption) ?_))

theorem execWhistleResume_wf {a0} (h0 : memWf a0.mem = true) : OutOk (execWhistleResume a0) := by
  unfold execWhistleResume
  repeat' (first | with_reducible assumption | with_reducible (refine OutOk.next ?_) | with_reducible apply State.resumeStep_wf)

theorem execWhistleStop_wf {a0} (h0 : memWf a0.mem = true) : OutOk (execWhistleStop a0) := by
  unfold execWhistleStop
  repeat' (first | with_reducible assumption | with_reducible (refine OutOk.next ?_) | with_reducible apply State.stopDomain_wf)

theorem execWhistleResumeTrap_wf {a0} (h0 : memWf a0.mem = true) : OutOk (execWhistleResumeTrap a0) := by
  unfold execWhistleResumeTrap
  repeat' (first | with_reducible assumption | with_reducible (refine OutOk.next ?_) | with_reducible apply State.resumeStep_wf)

theorem State.umpireRes_wf {a0 a1 a2 a3 a4 a5 a6} (h0 : memWf a0.mem = true) : memWf ((State.umpireRes a0 a1 a2 a3 a4 a5 a6).1).mem = true := by
  unfold State.umpireRes
  repeat' (first
    | with_reducible assumption | dsimp only | with_reducible (refine OutOk.next ?_) | with_reducible apply State.resolve_wf
    | with_reducible apply State.faultLog_wf | split | with_reducible (intro _)
    | with_reducible (refine Ok_fst (by assumption) ?_))

theorem State.hostRes_wf {a0 a1 a2 a3 a4} (h0 : memWf a0.mem = true) : memWf ((State.hostRes a0 a1 a2 a3 a4).1).mem = true := by
  unfold State.hostRes
  repeat' (first
    | with_reducible assumption | dsimp only | with_reducible (refine OutOk.next ?_) | with_reducible apply State.umpireRes_wf
    | split | with_reducible (intro _) | with_reducible (refine Ok_fst (by assumption) ?_))

theorem State.hostWrite_wf {a0 a1 a2 a3 a4} (h0 : memWf a0.mem = true) : memWf ((State.hostWrite a0 a1 a2 a3 a4)).mem = true := by
  unfold State.hostWrite
  repeat' (first | with_reducible assumption | with_reducible (refine OutOk.next ?_) | with_reducible apply State.writeHome_wf)

theorem State.putHostWord_wf {a0 a1 a2 a3} (h0 : memWf a0.mem = true) : memWf ((State.putHostWord a0 a1 a2 a3).1).mem = true := by
  unfold State.putHostWord
  repeat' (first
    | with_reducible assumption | dsimp only | with_reducible (refine OutOk.next ?_) | with_reducible apply State.faultLog_wf
    | with_reducible apply State.hostRes_wf | with_reducible apply State.hostWrite_wf | with_reducible apply memWrite_wf | split
    | with_reducible (intro _) | with_reducible (refine Ok_fst (by assumption) ?_))

theorem State.putCompletion_wf {a0 a1 a2 a3} (h0 : memWf a0.mem = true) : memWf ((State.putCompletion a0 a1 a2 a3).1).mem = true := by
  unfold State.putCompletion
  repeat' (first
    | with_reducible assumption | dsimp only | with_reducible (refine OutOk.next ?_) | with_reducible apply State.putHostWord_wf
    | with_reducible apply Ok_foldl | with_reducible apply Ok_foldl_fst | with_reducible (refine Some_ok (by assumption) ?_)
    | with_reducible (refine Some_ok2 (by assumption) ?_) | with_reducible (exact None_ok (by assumption))
    | with_reducible (exact None_ok2 (by assumption)) | with_reducible apply getD_ok | split | with_reducible (intro _)
    | with_reducible (refine Ok_fst (by assumption) ?_) | with_reducible (refine Ok_snd (by assumption) ?_))

theorem State.setHq_wf {a0 a1 a2} (h0 : memWf a0.mem = true) : memWf ((State.setHq a0 a1 a2)).mem = true := by
  unfold State.setHq
  repeat' (first | with_reducible assumption | with_reducible (refine OutOk.next ?_))

theorem State.setCmd_wf {a0 a1 a2} (h0 : memWf a0.mem = true) : memWf ((State.setCmd a0 a1 a2)).mem = true := by
  unfold State.setCmd
  repeat' (first | with_reducible assumption | with_reducible (refine OutOk.next ?_) | with_reducible apply State.setHq_wf)

theorem State.ringRead_wf {a0 a1} (h0 : memWf a0.mem = true) : memWf ((State.ringRead a0 a1).1).mem = true := by
  unfold State.ringRead
  repeat' (first
    | with_reducible assumption | dsimp only | with_reducible (refine OutOk.next ?_) | with_reducible apply State.hostRes_wf
    | split | with_reducible (intro _) | with_reducible (refine Ok_fst (by assumption) ?_))

theorem State.setQField_wf {a0 a1 a2 a3 a4 a5} (h0 : memWf a0.mem = true) : memWf ((State.setQField a0 a1 a2 a3 a4 a5)).mem = true := by
  unfold State.setQField
  repeat' (first | with_reducible assumption | with_reducible (refine OutOk.next ?_) | with_reducible apply State.writeWord_wf)

theorem State.takeCmd_wf {a0 a1 a2} (h0 : memWf a0.mem = true) : memWf ((State.takeCmd a0 a1 a2)).mem = true := by
  unfold State.takeCmd
  repeat' (first
    | with_reducible assumption | dsimp only | with_reducible (refine OutOk.next ?_) | with_reducible apply State.setHq_wf
    | with_reducible apply State.setQField_wf | with_reducible apply State.cmdDone_wf | with_reducible apply State.post_wf
    | split | with_reducible (intro _) | with_reducible (refine Ok_fst (by assumption) ?_))

theorem State.tryStart_wf {a0 a1} (h0 : memWf a0.mem = true) : memWf ((State.tryStart a0 a1).1).mem = true := by
  unfold State.tryStart
  repeat' (first
    | with_reducible assumption | dsimp only | with_reducible (refine OutOk.next ?_) | with_reducible apply State.ringRead_wf
    | with_reducible apply State.post_wf | with_reducible apply State.takeCmd_wf | split | with_reducible (intro _)
    | with_reducible (refine Ok_fst (by assumption) ?_))

theorem State.startFirst_wf {a0 a1} (h0 : memWf a0.mem = true) : memWf ((State.startFirst a0 a1)).mem = true := by
  induction a1 generalizing a0 with
  | nil =>
    unfold State.startFirst
    repeat' (first
      | with_reducible assumption | dsimp only | with_reducible (refine OutOk.next ?_) | with_reducible apply State.tryStart_wf
      | split | with_reducible (intro _) | with_reducible (refine Ok_fst (by assumption) ?_))
  | cons x l ih =>
    unfold State.startFirst
    repeat' (first
      | with_reducible apply ih | with_reducible assumption | dsimp only | with_reducible (refine OutOk.next ?_) | with_reducible apply State.tryStart_wf
      | split | with_reducible (intro _) | with_reducible (refine Ok_fst (by assumption) ?_))

theorem State.serve_wf {a0 a1} (h0 : memWf a0.mem = true) : memWf ((State.serve a0 a1)).mem = true := by
  unfold State.serve
  repeat' (first
    | with_reducible assumption | dsimp only | with_reducible (refine OutOk.next ?_) | with_reducible apply State.startFirst_wf
    | split | with_reducible (intro _) | with_reducible (refine Ok_fst (by assumption) ?_))

theorem startsCmdAt_wf {a0 a1} (h0 : memWf a0.mem = true) (h1 : ∀ y0 y1 y2, memWf y0.mem = true → ∀ t, (a1 y0 y1 y2) = some t → memWf t.mem = true) : OutOk (startsCmdAt a0 a1) := by
  unfold startsCmdAt
  dsimp only
  split
  · exact h0
  · split
    · rename_i e
      exact OutOk.next (State.serve_wf (h1 _ _ _ (State.setCmd_wf h0) _ e))
    · exact OutOk.next (State.post_wf h0)

theorem State.idleQueue_wf {a0 a1} (h0 : memWf a0.mem = true) : memWf ((State.idleQueue a0 a1)).mem = true := by
  unfold State.idleQueue
  repeat' (first
    | with_reducible assumption | with_reducible (refine OutOk.next ?_) | with_reducible apply State.post_wf
    | with_reducible apply State.setHq_wf)

theorem State.putTail_wf {a0 a1 a2} (h0 : memWf a0.mem = true) : memWf ((State.putTail a0 a1 a2)).mem = true := by
  unfold State.putTail
  repeat' (first
    | with_reducible assumption | with_reducible (refine OutOk.next ?_) | with_reducible apply State.setQField_wf
    | with_reducible apply State.setHq_wf)

theorem State.mapSlot_wf {a0 a1 a2} (h0 : memWf a0.mem = true) : memWf ((State.mapSlot a0 a1 a2)).mem = true := by
  unfold State.mapSlot
  repeat' (first | with_reducible assumption | with_reducible (refine OutOk.next ?_) | with_reducible apply State.setQField_wf)

theorem State.wakeResident_wf {a0 a1 a2} (h0 : memWf a0.mem = true) : memWf ((State.wakeResident a0 a1 a2)).mem = true := by
  unfold State.wakeResident
  repeat' (first
    | with_reducible assumption | dsimp only | with_reducible (refine OutOk.next ?_) | with_reducible apply State.idleQueue_wf
    | with_reducible apply State.setQField_wf | with_reducible apply State.serve_wf | with_reducible apply State.putTail_wf
    | with_reducible apply State.mapSlot_wf | split | with_reducible (intro _)
    | with_reducible (refine Ok_fst (by assumption) ?_))

theorem State.wakeStore_wf {a0 a1 a2} (h0 : memWf a0.mem = true) : memWf ((State.wakeStore a0 a1 a2)).mem = true := by
  unfold State.wakeStore
  repeat' (first
    | with_reducible assumption | dsimp only | with_reducible (refine OutOk.next ?_) | with_reducible apply State.serve_wf
    | with_reducible apply State.putTail_wf | with_reducible apply State.wakeResident_wf | split | with_reducible (intro _)
    | with_reducible (refine Ok_fst (by assumption) ?_))

theorem State.unmapDone_wf {a0 a1} (h0 : memWf a0.mem = true) : memWf ((State.unmapDone a0 a1)).mem = true := by
  unfold State.unmapDone
  repeat' (first
    | with_reducible assumption | dsimp only | with_reducible (refine OutOk.next ?_) | with_reducible apply State.idleQueue_wf
    | with_reducible apply State.setQField_wf | with_reducible apply State.wakeStore_wf | with_reducible apply Ok_foldl
    | with_reducible apply Ok_foldl_fst | with_reducible (refine Some_ok (by assumption) ?_)
    | with_reducible (refine Some_ok2 (by assumption) ?_) | with_reducible (exact None_ok (by assumption))
    | with_reducible (exact None_ok2 (by assumption)) | with_reducible apply getD_ok | split | with_reducible (intro _)
    | with_reducible (refine Ok_fst (by assumption) ?_) | with_reducible (refine Ok_snd (by assumption) ?_))

theorem execQueueWake_wf {a0} (h0 : memWf a0.mem = true) : OutOk (execQueueWake a0) := by
  unfold execQueueWake
  repeat' (first
    | with_reducible assumption | dsimp only | with_reducible (refine OutOk.next ?_) | with_reducible apply State.serve_wf
    | with_reducible apply State.setHq_wf | with_reducible apply State.unmapDone_wf | with_reducible apply State.wakeStore_wf
    | with_reducible apply State.post_wf | with_reducible apply State.setQField_wf | split | with_reducible (intro _)
    | with_reducible (refine Ok_fst (by assumption) ?_))

theorem State.notifyHost_wf {a0 a1 a2 a3} (h0 : memWf a0.mem = true) : memWf ((State.notifyHost a0 a1 a2 a3)).mem = true := by
  unfold State.notifyHost
  repeat' (first
    | with_reducible assumption | dsimp only | with_reducible (refine OutOk.next ?_) | with_reducible apply State.report_wf
    | with_reducible apply State.post_wf | with_reducible apply State.inject_wf | split | with_reducible (intro _)
    | with_reducible (refine Ok_fst (by assumption) ?_))

theorem execQueuePageOut_wf {a0} (h0 : memWf a0.mem = true) : OutOk (execQueuePageOut a0) := by
  unfold execQueuePageOut
  repeat' (first
    | with_reducible assumption | dsimp only | with_reducible (refine OutOk.next ?_) | with_reducible apply State.setQField_wf
    | with_reducible apply Ok_foldl | with_reducible apply Ok_foldl_fst | with_reducible (refine Some_ok (by assumption) ?_)
    | with_reducible (refine Some_ok2 (by assumption) ?_) | with_reducible (exact None_ok (by assumption))
    | with_reducible (exact None_ok2 (by assumption)) | with_reducible apply getD_ok | split | with_reducible (intro _)
    | with_reducible (refine Ok_fst (by assumption) ?_) | with_reducible (refine Ok_snd (by assumption) ?_))

theorem signalWrite_wf {a0 a1} (h0 : memWf a0.mem = true) : OutOk (signalWrite a0 a1) := by
  unfold signalWrite
  repeat' (first
    | with_reducible assumption | dsimp only | with_reducible (refine OutOk.next ?_) | with_reducible apply startsCmdAt_wf
    | with_reducible apply State.umpireRes_wf | with_reducible apply State.cmdDone_wf | with_reducible apply State.countAtomic_wf
    | with_reducible apply State.hostWrite_wf | with_reducible apply Ok_foldl | with_reducible apply Ok_foldl_fst
    | with_reducible (refine Some_ok (by assumption) ?_) | with_reducible (refine Some_ok2 (by assumption) ?_)
    | with_reducible (exact None_ok (by assumption)) | with_reducible (exact None_ok2 (by assumption))
    | with_reducible apply getD_ok | split | with_reducible (intro _) | with_reducible (refine Ok_fst (by assumption) ?_)
    | with_reducible (refine Ok_snd (by assumption) ?_))

theorem State.hostRecord_wf {a0 a1 a2} (h0 : memWf a0.mem = true) : memWf ((State.hostRecord a0 a1 a2).1).mem = true := by
  unfold State.hostRecord
  repeat' (first
    | with_reducible assumption | dsimp only | with_reducible (refine OutOk.next ?_) | with_reducible apply State.hostRes_wf
    | split | with_reducible (intro _) | with_reducible (refine Ok_fst (by assumption) ?_))

theorem execSignalAdd_wf {a0} (h0 : memWf a0.mem = true) : OutOk (execSignalAdd a0) := by
  unfold execSignalAdd
  repeat' (first | with_reducible assumption | with_reducible (refine OutOk.next ?_) | with_reducible apply signalWrite_wf)

theorem State.afterCompletion_wf {a0 a1} (h0 : memWf a0.mem = true) : memWf ((State.afterCompletion a0 a1)).mem = true := by
  unfold State.afterCompletion
  repeat' (first
    | with_reducible assumption | dsimp only | with_reducible (refine OutOk.next ?_) | with_reducible apply State.post_wf
    | with_reducible apply State.unmapDone_wf | with_reducible apply State.serve_wf | split | with_reducible (intro _)
    | with_reducible (refine Ok_fst (by assumption) ?_))

theorem execCommandComplete_wf {a0} (h0 : memWf a0.mem = true) : OutOk (execCommandComplete a0) := by
  unfold execCommandComplete
  repeat' (first
    | with_reducible assumption | dsimp only | with_reducible (refine OutOk.next ?_) | with_reducible apply State.post_wf
    | with_reducible apply State.putCompletion_wf | with_reducible apply State.notifyHost_wf
    | with_reducible apply State.afterCompletion_wf | with_reducible apply State.setHq_wf | split | with_reducible (intro _)
    | with_reducible (refine Ok_fst (by assumption) ?_))

theorem startsCmd_wf {a0 a1} (h0 : memWf a0.mem = true) (h1 : ∀ y0 y1 y2, memWf y0.mem = true → memWf ((a1 y0 y1 y2)).mem = true) : OutOk (startsCmd a0 a1) := by
  unfold startsCmd
  repeat' (first
    | with_reducible assumption | dsimp only | with_reducible (refine OutOk.next ?_) | with_reducible apply h1
    | with_reducible apply State.serve_wf | with_reducible apply State.setCmd_wf | split | with_reducible (intro _)
    | with_reducible (refine Ok_fst (by assumption) ?_))

theorem execHostLease_wf {a0} (h0 : memWf a0.mem = true) : OutOk (execHostLease a0) := by
  unfold execHostLease
  repeat' (first
    | with_reducible assumption | dsimp only | with_reducible (refine OutOk.next ?_) | with_reducible apply startsCmd_wf
    | with_reducible apply State.leaseDecide_wf | with_reducible apply State.cmdDone_wf | split | with_reducible (intro _)
    | with_reducible (refine Ok_fst (by assumption) ?_))

theorem execSignalPoll_wf {a0} (h0 : memWf a0.mem = true) : OutOk (execSignalPoll a0) := by
  unfold execSignalPoll
  repeat' (first
    | with_reducible assumption | dsimp only | with_reducible (refine OutOk.next ?_) | with_reducible apply State.hostRes_wf
    | with_reducible apply State.post_wf | with_reducible apply State.cmdDone_wf | split | with_reducible (intro _)
    | with_reducible (refine Ok_fst (by assumption) ?_))

theorem execSignalWait_wf {a0} (h0 : memWf a0.mem = true) : OutOk (execSignalWait a0) := by
  unfold execSignalWait
  repeat' (first
    | with_reducible assumption | dsimp only | with_reducible (refine OutOk.next ?_) | with_reducible apply startsCmd_wf
    | with_reducible apply State.post_wf | split | with_reducible (intro _) | with_reducible (refine Ok_fst (by assumption) ?_))

theorem State.copyBytes_wf {a0 a1 a2 a3 a4} (h0 : memWf a0.mem = true) : memWf ((State.copyBytes a0 a1 a2 a3 a4).1).mem = true := by
  induction a3 generalizing a0 a1 a2 a4 with
  | zero =>
    unfold State.copyBytes
    repeat' (first
      | with_reducible assumption | dsimp only | with_reducible (refine OutOk.next ?_) | with_reducible apply State.hostRes_wf
      | with_reducible apply State.hostWrite_wf | with_reducible apply State.setFullRange_wf | split | with_reducible (intro _)
      | with_reducible (refine Ok_fst (by assumption) ?_))
  | succ n ih =>
    unfold State.copyBytes
    repeat' (first
      | with_reducible apply ih | with_reducible assumption | dsimp only | with_reducible (refine OutOk.next ?_) | with_reducible apply State.hostRes_wf
      | with_reducible apply State.hostWrite_wf | with_reducible apply State.setFullRange_wf | split | with_reducible (intro _)
      | with_reducible (refine Ok_fst (by assumption) ?_))

theorem execHostSplice_wf {a0} (h0 : memWf a0.mem = true) : OutOk (execHostSplice a0) := by
  unfold execHostSplice
  repeat' (first
    | with_reducible assumption | dsimp only | with_reducible (refine OutOk.next ?_) | with_reducible apply startsCmdAt_wf
    | with_reducible apply State.cmdDone_wf | with_reducible apply State.hostRecord_wf | with_reducible apply State.pipeReport_wf
    | with_reducible apply State.post_wf | with_reducible apply State.inject_wf | with_reducible apply Ok_foldl
    | with_reducible apply Ok_foldl_fst | with_reducible (refine Some_ok (by assumption) ?_)
    | with_reducible (refine Some_ok2 (by assumption) ?_) | with_reducible (exact None_ok (by assumption))
    | with_reducible (exact None_ok2 (by assumption)) | with_reducible apply getD_ok | split | with_reducible (intro _)
    | with_reducible (refine Ok_fst (by assumption) ?_) | with_reducible (refine Ok_snd (by assumption) ?_))

theorem execCopy_wf {a0} (h0 : memWf a0.mem = true) : OutOk (execCopy a0) := by
  unfold execCopy
  repeat' (first
    | with_reducible assumption | dsimp only | with_reducible (refine OutOk.next ?_) | with_reducible apply State.copyBytes_wf
    | with_reducible apply State.setCmd_wf | with_reducible apply State.post_wf | with_reducible apply State.cmdDone_wf
    | with_reducible apply State.serve_wf | split | with_reducible (intro _) | with_reducible (refine Ok_fst (by assumption) ?_))

theorem execQueuePageInDone_wf {a0} (h0 : memWf a0.mem = true) : OutOk (execQueuePageInDone a0) := by
  unfold execQueuePageInDone
  repeat' (first
    | with_reducible assumption | dsimp only | with_reducible (refine OutOk.next ?_) | with_reducible apply State.setQField_wf
    | with_reducible apply State.setHq_wf | with_reducible apply State.unmapDone_wf | with_reducible apply State.wakeStore_wf
    | with_reducible apply Ok_foldl | with_reducible apply Ok_foldl_fst | with_reducible (refine Some_ok (by assumption) ?_)
    | with_reducible (refine Some_ok2 (by assumption) ?_) | with_reducible (exact None_ok (by assumption))
    | with_reducible (exact None_ok2 (by assumption)) | with_reducible apply getD_ok | split | with_reducible (intro _)
    | with_reducible (refine Ok_fst (by assumption) ?_) | with_reducible (refine Ok_snd (by assumption) ?_))

theorem execPreempt_wf {a0} (h0 : memWf a0.mem = true) : OutOk (execPreempt a0) := by
  unfold execPreempt
  repeat' (first
    | with_reducible assumption | dsimp only | with_reducible (refine OutOk.next ?_) | with_reducible apply startsCmd_wf
    | with_reducible apply State.cmdDone_wf | with_reducible apply State.setCmd_wf | with_reducible apply State.setColAt_wf
    | with_reducible apply State.censusRun_wf | with_reducible apply Ok_foldl | with_reducible apply Ok_foldl_fst
    | with_reducible (refine Some_ok (by assumption) ?_) | with_reducible (refine Some_ok2 (by assumption) ?_)
    | with_reducible (exact None_ok (by assumption)) | with_reducible (exact None_ok2 (by assumption))
    | with_reducible apply getD_ok | split | with_reducible (intro _) | with_reducible (refine Ok_fst (by assumption) ?_)
    | with_reducible (refine Ok_snd (by assumption) ?_))

theorem execSignalStore_wf {a0} (h0 : memWf a0.mem = true) : OutOk (execSignalStore a0) := by
  unfold execSignalStore
  repeat' (first | with_reducible assumption | with_reducible (refine OutOk.next ?_) | with_reducible apply signalWrite_wf)

theorem execAmsg_wf {a0} (h0 : memWf a0.mem = true) : OutOk (execAmsg a0) := by
  unfold execAmsg
  repeat' (first
    | with_reducible assumption | dsimp only | with_reducible (refine OutOk.next ?_) | with_reducible apply startsCmd_wf
    | with_reducible apply State.cmdDone_wf | with_reducible apply State.post_wf | with_reducible apply State.inject_wf | split
    | with_reducible (intro _) | with_reducible (refine Ok_fst (by assumption) ?_))

theorem immShift_wf {a0 a1 a2} (h0 : memWf a0.mem = true) (h2 : ∀ y0, OutOk (a2 y0)) : OutOk (immShift a0 a1 a2) := by
  unfold immShift
  repeat' (first
    | with_reducible assumption | dsimp only | with_reducible (refine OutOk.next ?_) | with_reducible apply h2
    | with_reducible apply illegal_wf | split | with_reducible (intro _) | with_reducible (refine Ok_fst (by assumption) ?_))

theorem immSlt_wf {a0 a1 a2 a3} (h0 : memWf a0.mem = true) : OutOk (immSlt a0 a1 a2 a3) := by
  unfold immSlt
  repeat' (first | with_reducible assumption | with_reducible (refine OutOk.next ?_) | with_reducible apply writeG_wf)

theorem immShr_wf {a0 a1 a2 a3} (h0 : memWf a0.mem = true) : OutOk (immShr a0 a1 a2 a3) := by
  unfold immShr
  repeat' (first
    | with_reducible assumption | dsimp only | with_reducible (refine OutOk.next ?_) | with_reducible apply immShift_wf
    | with_reducible apply writeG_wf | split | with_reducible (intro _) | with_reducible (refine Ok_fst (by assumption) ?_))

theorem immAdd_wf {a0 a1 a2 a3} (h0 : memWf a0.mem = true) : OutOk (immAdd a0 a1 a2 a3) := by
  unfold immAdd
  repeat' (first | with_reducible assumption | with_reducible (refine OutOk.next ?_) | with_reducible apply writeSat_wf)

theorem execAddiL_wf {a0 a1 a2 a3} (h3 : memWf a3.mem = true) : OutOk (execAddiL a0 a1 a2 a3) := by
  unfold execAddiL
  repeat' (first | with_reducible assumption | with_reducible (refine OutOk.next ?_) | with_reducible apply immAdd_wf)

theorem execXori_wf {a0 a1 a2 a3} (h3 : memWf a3.mem = true) : OutOk (execXori a0 a1 a2 a3) := by
  unfold execXori
  repeat' (first | with_reducible assumption | with_reducible (refine OutOk.next ?_) | with_reducible apply writeG_wf)

theorem execXoriL_wf {a0 a1 a2 a3} (h3 : memWf a3.mem = true) : OutOk (execXoriL a0 a1 a2 a3) := by
  unfold execXoriL
  repeat' (first | with_reducible assumption | with_reducible (refine OutOk.next ?_) | with_reducible apply writeG_wf)

theorem immSar_wf {a0 a1 a2 a3} (h0 : memWf a0.mem = true) : OutOk (immSar a0 a1 a2 a3) := by
  unfold immSar
  repeat' (first
    | with_reducible assumption | dsimp only | with_reducible (refine OutOk.next ?_) | with_reducible apply immShift_wf
    | with_reducible apply writeG_wf | split | with_reducible (intro _) | with_reducible (refine Ok_fst (by assumption) ?_))

theorem immShl_wf {a0 a1 a2 a3} (h0 : memWf a0.mem = true) : OutOk (immShl a0 a1 a2 a3) := by
  unfold immShl
  repeat' (first
    | with_reducible assumption | dsimp only | with_reducible (refine OutOk.next ?_) | with_reducible apply immShift_wf
    | with_reducible apply writeSat_wf | split | with_reducible (intro _) | with_reducible (refine Ok_fst (by assumption) ?_))

theorem execShliL_wf {a0 a1 a2 a3} (h3 : memWf a3.mem = true) : OutOk (execShliL a0 a1 a2 a3) := by
  unfold execShliL
  repeat' (first | with_reducible assumption | with_reducible (refine OutOk.next ?_) | with_reducible apply immShl_wf)

theorem execShri_wf {a0 a1 a2 a3} (h3 : memWf a3.mem = true) : OutOk (execShri a0 a1 a2 a3) := by
  unfold execShri
  repeat' (first | with_reducible assumption | with_reducible (refine OutOk.next ?_) | with_reducible apply immShr_wf)

theorem execOriL_wf {a0 a1 a2 a3} (h3 : memWf a3.mem = true) : OutOk (execOriL a0 a1 a2 a3) := by
  unfold execOriL
  repeat' (first | with_reducible assumption | with_reducible (refine OutOk.next ?_) | with_reducible apply writeG_wf)

theorem execAddi_wf {a0 a1 a2 a3} (h3 : memWf a3.mem = true) : OutOk (execAddi a0 a1 a2 a3) := by
  unfold execAddi
  repeat' (first | with_reducible assumption | with_reducible (refine OutOk.next ?_) | with_reducible apply immAdd_wf)

theorem execSari_wf {a0 a1 a2 a3} (h3 : memWf a3.mem = true) : OutOk (execSari a0 a1 a2 a3) := by
  unfold execSari
  repeat' (first | with_reducible assumption | with_reducible (refine OutOk.next ?_) | with_reducible apply immSar_wf)

theorem execAndi_wf {a0 a1 a2 a3} (h3 : memWf a3.mem = true) : OutOk (execAndi a0 a1 a2 a3) := by
  unfold execAndi
  repeat' (first | with_reducible assumption | with_reducible (refine OutOk.next ?_) | with_reducible apply writeG_wf)

theorem execGadr_wf {a0 a1 a2 a3} (h3 : memWf a3.mem = true) : OutOk (execGadr a0 a1 a2 a3) := by
  unfold execGadr
  repeat' (first
    | with_reducible assumption | dsimp only | with_reducible (refine OutOk.next ?_) | with_reducible apply State.decodeTrap_wf
    | with_reducible apply trap_wf | with_reducible apply writeG_wf | split | with_reducible (intro _)
    | with_reducible (refine Ok_fst (by assumption) ?_))

theorem immSltu_wf {a0 a1 a2 a3} (h0 : memWf a0.mem = true) : OutOk (immSltu a0 a1 a2 a3) := by
  unfold immSltu
  repeat' (first | with_reducible assumption | with_reducible (refine OutOk.next ?_) | with_reducible apply writeG_wf)

theorem execSltuiL_wf {a0 a1 a2 a3} (h3 : memWf a3.mem = true) : OutOk (execSltuiL a0 a1 a2 a3) := by
  unfold execSltuiL
  repeat' (first | with_reducible assumption | with_reducible (refine OutOk.next ?_) | with_reducible apply immSltu_wf)

theorem execSltiL_wf {a0 a1 a2 a3} (h3 : memWf a3.mem = true) : OutOk (execSltiL a0 a1 a2 a3) := by
  unfold execSltiL
  repeat' (first | with_reducible assumption | with_reducible (refine OutOk.next ?_) | with_reducible apply immSlt_wf)

theorem execShli_wf {a0 a1 a2 a3} (h3 : memWf a3.mem = true) : OutOk (execShli a0 a1 a2 a3) := by
  unfold execShli
  repeat' (first | with_reducible assumption | with_reducible (refine OutOk.next ?_) | with_reducible apply immShl_wf)

theorem execLih_wf {a0 a1 a2 a3} (h3 : memWf a3.mem = true) : OutOk (execLih a0 a1 a2 a3) := by
  unfold execLih
  repeat' (first | with_reducible assumption | with_reducible (refine OutOk.next ?_) | with_reducible apply writeG_wf)

theorem execOri_wf {a0 a1 a2 a3} (h3 : memWf a3.mem = true) : OutOk (execOri a0 a1 a2 a3) := by
  unfold execOri
  repeat' (first | with_reducible assumption | with_reducible (refine OutOk.next ?_) | with_reducible apply writeG_wf)

theorem execLeaL_wf {a0 a1 a2} (h2 : memWf a2.mem = true) : OutOk (execLeaL a0 a1 a2) := by
  unfold execLeaL
  repeat' (first | with_reducible assumption | with_reducible (refine OutOk.next ?_) | with_reducible apply writeG_wf)

theorem execLea_wf {a0 a1 a2} (h2 : memWf a2.mem = true) : OutOk (execLea a0 a1 a2) := by
  unfold execLea
  repeat' (first | with_reducible assumption | with_reducible (refine OutOk.next ?_) | with_reducible apply writeG_wf)

theorem execAndiL_wf {a0 a1 a2 a3} (h3 : memWf a3.mem = true) : OutOk (execAndiL a0 a1 a2 a3) := by
  unfold execAndiL
  repeat' (first | with_reducible assumption | with_reducible (refine OutOk.next ?_) | with_reducible apply writeG_wf)

theorem execShriL_wf {a0 a1 a2 a3} (h3 : memWf a3.mem = true) : OutOk (execShriL a0 a1 a2 a3) := by
  unfold execShriL
  repeat' (first | with_reducible assumption | with_reducible (refine OutOk.next ?_) | with_reducible apply immShr_wf)

theorem execSlti_wf {a0 a1 a2 a3} (h3 : memWf a3.mem = true) : OutOk (execSlti a0 a1 a2 a3) := by
  unfold execSlti
  repeat' (first | with_reducible assumption | with_reducible (refine OutOk.next ?_) | with_reducible apply immSlt_wf)

theorem execSltui_wf {a0 a1 a2 a3} (h3 : memWf a3.mem = true) : OutOk (execSltui a0 a1 a2 a3) := by
  unfold execSltui
  repeat' (first | with_reducible assumption | with_reducible (refine OutOk.next ?_) | with_reducible apply immSltu_wf)

theorem execSariL_wf {a0 a1 a2 a3} (h3 : memWf a3.mem = true) : OutOk (execSariL a0 a1 a2 a3) := by
  unfold execSariL
  repeat' (first | with_reducible assumption | with_reducible (refine OutOk.next ?_) | with_reducible apply immSar_wf)

theorem State.keepNotes_wf {a0 a1} (h0 : memWf a0.mem = true) (h1 : memWf a1.mem = true) : memWf ((State.keepNotes a0 a1)).mem = true := by
  unfold State.keepNotes
  repeat' (first
    | with_reducible assumption | dsimp only | with_reducible (refine OutOk.next ?_) | with_reducible apply State.setCoreAt_wf
    | with_reducible apply Ok_foldl | with_reducible apply Ok_foldl_fst | with_reducible (refine Some_ok (by assumption) ?_)
    | with_reducible (refine Some_ok2 (by assumption) ?_) | with_reducible (exact None_ok (by assumption))
    | with_reducible (exact None_ok2 (by assumption)) | with_reducible apply getD_ok | split | with_reducible (intro _)
    | with_reducible (refine Ok_fst (by assumption) ?_) | with_reducible (refine Ok_snd (by assumption) ?_))

theorem State.removeRegion_wf {a0 a1} (h0 : memWf a0.mem = true) : memWf ((State.removeRegion a0 a1)).mem = true := by
  unfold State.removeRegion
  repeat' (first
    | with_reducible assumption | dsimp only | with_reducible (refine OutOk.next ?_) | with_reducible apply State.unpost_wf
    | with_reducible apply State.setTileAt_wf | with_reducible apply Ok_foldl | with_reducible apply Ok_foldl_fst
    | with_reducible (refine Some_ok (by assumption) ?_) | with_reducible (refine Some_ok2 (by assumption) ?_)
    | with_reducible (exact None_ok (by assumption)) | with_reducible (exact None_ok2 (by assumption))
    | with_reducible apply getD_ok | split | with_reducible (intro _) | with_reducible (refine Ok_fst (by assumption) ?_)
    | with_reducible (refine Ok_snd (by assumption) ?_))

theorem State.setLaunch_wf {a0 a1 a2} (h0 : memWf a0.mem = true) : memWf ((State.setLaunch a0 a1 a2)).mem = true := by
  unfold State.setLaunch
  repeat' (first | with_reducible assumption | with_reducible (refine OutOk.next ?_))

theorem State.endLaunch_wf {a0 a1 a2 a3 a4 a5} (h0 : memWf a0.mem = true) : memWf ((State.endLaunch a0 a1 a2 a3 a4 a5)).mem = true := by
  unfold State.endLaunch
  repeat' (first
    | with_reducible assumption | dsimp only | with_reducible (refine OutOk.next ?_) | with_reducible apply State.setLaunch_wf
    | with_reducible apply State.setCmd_wf | with_reducible apply State.cmdDone_wf | split | with_reducible (intro _)
    | with_reducible (refine Ok_fst (by assumption) ?_))

theorem State.tellModule_wf {a0 a1 a2 a3} (h0 : memWf a0.mem = true) : memWf ((State.tellModule a0 a1 a2 a3)).mem = true := by
  unfold State.tellModule
  repeat' (first | with_reducible assumption | with_reducible (refine OutOk.next ?_))

theorem State.tellOthers_wf {a0 a1 a2 a3} (h0 : memWf a0.mem = true) : memWf ((State.tellOthers a0 a1 a2 a3)).mem = true := by
  unfold State.tellOthers
  repeat' (first
    | with_reducible assumption | dsimp only | with_reducible (refine OutOk.next ?_) | with_reducible apply State.tellModule_wf
    | with_reducible apply Ok_foldl | with_reducible apply Ok_foldl_fst | with_reducible (refine Some_ok (by assumption) ?_)
    | with_reducible (refine Some_ok2 (by assumption) ?_) | with_reducible (exact None_ok (by assumption))
    | with_reducible (exact None_ok2 (by assumption)) | with_reducible apply getD_ok | split | with_reducible (intro _)
    | with_reducible (refine Ok_fst (by assumption) ?_) | with_reducible (refine Ok_snd (by assumption) ?_))

theorem State.disarmAll_wf {a0 a1 a2} (h0 : memWf a0.mem = true) : memWf ((State.disarmAll a0 a1 a2)).mem = true := by
  unfold State.disarmAll
  repeat' (first
    | with_reducible assumption | with_reducible (refine OutOk.next ?_) | with_reducible apply State.post_wf
    | with_reducible apply State.tellOthers_wf)

theorem execLaunchArmTimeout_wf {a0} (h0 : memWf a0.mem = true) : OutOk (execLaunchArmTimeout a0) := by
  unfold execLaunchArmTimeout
  repeat' (first
    | with_reducible assumption | dsimp only | with_reducible (refine OutOk.next ?_) | with_reducible apply State.endLaunch_wf
    | with_reducible apply State.disarmAll_wf | split | with_reducible (intro _)
    | with_reducible (refine Ok_fst (by assumption) ?_))

theorem State.armBlock_wf {a0 a1} (h0 : memWf a0.mem = true) : memWf ((State.armBlock a0 a1).1).mem = true := by
  unfold State.armBlock
  repeat' (first
    | with_reducible assumption | dsimp only | with_reducible (refine OutOk.next ?_) | with_reducible apply State.umpireRes_wf
    | split | with_reducible (intro _) | with_reducible (refine Ok_fst (by assumption) ?_))

theorem State.answerLaunch_wf {a0 a1 a2 a3} (h0 : memWf a0.mem = true) : memWf ((State.answerLaunch a0 a1 a2 a3)).mem = true := by
  unfold State.answerLaunch
  repeat' (first
    | with_reducible assumption | dsimp only | with_reducible (refine OutOk.next ?_) | with_reducible apply State.post_wf
    | with_reducible apply State.tellModule_wf | split | with_reducible (intro _)
    | with_reducible (refine Ok_fst (by assumption) ?_))

theorem State.admitIndex_wf {a0 a1 a2 a3} (h0 : memWf a0.mem = true) : memWf ((State.admitIndex a0 a1 a2 a3).1).mem = true := by
  unfold State.admitIndex
  repeat' (first
    | with_reducible assumption | dsimp only | with_reducible (refine OutOk.next ?_) | with_reducible apply State.admitGang_wf
    | with_reducible apply State.admitTask_wf | split | with_reducible (intro _)
    | with_reducible (refine Ok_fst (by assumption) ?_))

theorem State.admitAll_wf {a0 a1 a2 a3 a4 a5 a6} (h0 : memWf a0.mem = true) : memWf ((State.admitAll a0 a1 a2 a3 a4 a5 a6).1).mem = true := by
  induction a6 generalizing a0 a1 a2 a3 a4 a5 with
  | nil =>
    unfold State.admitAll
    repeat' (first
      | with_reducible assumption | dsimp only | with_reducible (refine OutOk.next ?_) | with_reducible apply State.admitIndex_wf
      | split | with_reducible (intro _) | with_reducible (refine Ok_fst (by assumption) ?_))
  | cons x l ih =>
    unfold State.admitAll
    repeat' (first
      | with_reducible apply ih | with_reducible assumption | dsimp only | with_reducible (refine OutOk.next ?_) | with_reducible apply State.admitIndex_wf
      | split | with_reducible (intro _) | with_reducible (refine Ok_fst (by assumption) ?_))

theorem State.enterTiers_wf {a0 a1} (h0 : memWf a0.mem = true) : memWf ((State.enterTiers a0 a1)).mem = true := by
  unfold State.enterTiers
  repeat' (first
    | with_reducible assumption | dsimp only | with_reducible (refine OutOk.next ?_) | with_reducible apply State.postAt_wf
    | with_reducible apply Ok_foldl | with_reducible apply Ok_foldl_fst | with_reducible (refine Some_ok (by assumption) ?_)
    | with_reducible (refine Some_ok2 (by assumption) ?_) | with_reducible (exact None_ok (by assumption))
    | with_reducible (exact None_ok2 (by assumption)) | with_reducible apply getD_ok | split | with_reducible (intro _)
    | with_reducible (refine Ok_fst (by assumption) ?_) | with_reducible (refine Ok_snd (by assumption) ?_))

theorem State.enterRows_wf {a0 a1} (h0 : memWf a0.mem = true) : memWf ((State.enterRows a0 a1)).mem = true := by
  unfold State.enterRows
  repeat' (first
    | with_reducible assumption | dsimp only | with_reducible (refine OutOk.next ?_) | with_reducible apply State.setTileAt_wf
    | with_reducible apply Ok_foldl | with_reducible apply Ok_foldl_fst | with_reducible (refine Some_ok (by assumption) ?_)
    | with_reducible (refine Some_ok2 (by assumption) ?_) | with_reducible (exact None_ok (by assumption))
    | with_reducible (exact None_ok2 (by assumption)) | with_reducible apply getD_ok | split | with_reducible (intro _)
    | with_reducible (refine Ok_fst (by assumption) ?_) | with_reducible (refine Ok_snd (by assumption) ?_))

theorem State.createRegion_wf {a0 a1 a2} (h0 : memWf a0.mem = true) : memWf ((State.createRegion a0 a1 a2)).mem = true := by
  unfold State.createRegion
  repeat' (first
    | with_reducible assumption | with_reducible (refine OutOk.next ?_) | with_reducible apply State.enterTiers_wf
    | with_reducible apply State.enterRows_wf | with_reducible apply State.setRegion_wf)

theorem State.launchShare_wf {a0 a1 a2 a3 a4 a5} (h0 : memWf a0.mem = true) : memWf ((State.launchShare a0 a1 a2 a3 a4 a5).1).mem = true := by
  unfold State.launchShare
  repeat' (first
    | with_reducible assumption | dsimp only | with_reducible (refine OutOk.next ?_) | with_reducible apply State.admitAll_wf
    | with_reducible apply State.createRegion_wf | with_reducible apply State.keepNotes_wf | with_reducible apply Ok_foldl
    | with_reducible apply Ok_foldl_fst | with_reducible (refine Some_ok (by assumption) ?_)
    | with_reducible (refine Some_ok2 (by assumption) ?_) | with_reducible (exact None_ok (by assumption))
    | with_reducible (exact None_ok2 (by assumption)) | with_reducible apply getD_ok | split | with_reducible (intro _)
    | with_reducible (refine Ok_fst (by assumption) ?_) | with_reducible (refine Ok_snd (by assumption) ?_))

theorem State.mapLaunch_wf {a0 a1 a2} (h0 : memWf a0.mem = true) : memWf ((State.mapLaunch a0 a1 a2)).mem = true := by
  unfold State.mapLaunch
  repeat' (first | with_reducible assumption | with_reducible (refine OutOk.next ?_))

theorem execLaunchArm_wf {a0} (h0 : memWf a0.mem = true) : OutOk (execLaunchArm a0) := by
  unfold execLaunchArm
  repeat' (first
    | with_reducible assumption | dsimp only | with_reducible (refine OutOk.next ?_) | with_reducible apply State.armBlock_wf
    | with_reducible apply State.post_wf | with_reducible apply State.answerLaunch_wf | with_reducible apply State.launchShare_wf
    | with_reducible apply State.mapLaunch_wf | with_reducible apply State.setLaunch_wf | split | with_reducible (intro _)
    | with_reducible (refine Ok_fst (by assumption) ?_))

theorem State.startModules_wf {a0 a1 a2} (h0 : memWf a0.mem = true) : memWf ((State.startModules a0 a1 a2)).mem = true := by
  unfold State.startModules
  repeat' (first
    | with_reducible assumption | dsimp only | with_reducible (refine OutOk.next ?_) | with_reducible apply State.setLaunch_wf
    | with_reducible apply State.post_wf | with_reducible apply State.tellModule_wf | with_reducible apply Ok_foldl
    | with_reducible apply Ok_foldl_fst | with_reducible (refine Some_ok (by assumption) ?_)
    | with_reducible (refine Some_ok2 (by assumption) ?_) | with_reducible (exact None_ok (by assumption))
    | with_reducible (exact None_ok2 (by assumption)) | with_reducible apply getD_ok | split | with_reducible (intro _)
    | with_reducible (refine Ok_fst (by assumption) ?_) | with_reducible (refine Ok_snd (by assumption) ?_))

theorem State.launchBlock_wf {a0 a1 a2} (h0 : memWf a0.mem = true) : memWf ((State.launchBlock a0 a1 a2).1).mem = true := by
  unfold State.launchBlock
  repeat' (first
    | with_reducible assumption | dsimp only | with_reducible (refine OutOk.next ?_) | with_reducible apply State.hostRes_wf
    | split | with_reducible (intro _) | with_reducible (refine Ok_fst (by assumption) ?_))

theorem State.stopModule_wf {a0 a1 a2 a3} (h0 : memWf a0.mem = true) : memWf ((State.stopModule a0 a1 a2 a3)).mem = true := by
  unfold State.stopModule
  repeat' (first
    | with_reducible assumption | dsimp only | with_reducible (refine OutOk.next ?_) | with_reducible apply State.tellModule_wf
    | split | with_reducible (intro _) | with_reducible (refine Ok_fst (by assumption) ?_))

theorem execLaunchDisarm_wf {a0} (h0 : memWf a0.mem = true) : OutOk (execLaunchDisarm a0) := by
  unfold execLaunchDisarm
  repeat' (first
    | with_reducible assumption | dsimp only | with_reducible (refine OutOk.next ?_) | with_reducible apply State.freeEntry_wf
    | with_reducible apply State.setLaunch_wf | with_reducible apply State.removeRegion_wf | with_reducible apply Ok_foldl
    | with_reducible apply Ok_foldl_fst | with_reducible (refine Some_ok (by assumption) ?_)
    | with_reducible (refine Some_ok2 (by assumption) ?_) | with_reducible (exact None_ok (by assumption))
    | with_reducible (exact None_ok2 (by assumption)) | with_reducible apply getD_ok | split | with_reducible (intro _)
    | with_reducible (refine Ok_fst (by assumption) ?_) | with_reducible (refine Ok_snd (by assumption) ?_))

theorem execLaunchCommitTimeout_wf {a0} (h0 : memWf a0.mem = true) : OutOk (execLaunchCommitTimeout a0) := by
  unfold execLaunchCommitTimeout
  repeat' (first
    | with_reducible assumption | dsimp only | with_reducible (refine OutOk.next ?_) | with_reducible apply State.stopModule_wf
    | with_reducible apply State.stopDomain_wf | with_reducible apply State.endLaunch_wf | with_reducible apply Ok_foldl
    | with_reducible apply Ok_foldl_fst | with_reducible (refine Some_ok (by assumption) ?_)
    | with_reducible (refine Some_ok2 (by assumption) ?_) | with_reducible (exact None_ok (by assumption))
    | with_reducible (exact None_ok2 (by assumption)) | with_reducible apply getD_ok | split | with_reducible (intro _)
    | with_reducible (refine Ok_fst (by assumption) ?_) | with_reducible (refine Ok_snd (by assumption) ?_))

theorem execLaunch_wf {a0} (h0 : memWf a0.mem = true) : OutOk (execLaunch a0) := by
  unfold execLaunch
  repeat' (first
    | with_reducible assumption | dsimp only | with_reducible (refine OutOk.next ?_) | with_reducible apply startsCmdAt_wf
    | with_reducible apply State.cmdDone_wf | with_reducible apply State.setCmd_wf | with_reducible apply State.launchBlock_wf
    | with_reducible apply State.startModules_wf | with_reducible apply State.launchShare_wf | with_reducible apply Ok_foldl
    | with_reducible apply Ok_foldl_fst | with_reducible (refine Some_ok (by assumption) ?_)
    | with_reducible (refine Some_ok2 (by assumption) ?_) | with_reducible (exact None_ok (by assumption))
    | with_reducible (exact None_ok2 (by assumption)) | with_reducible apply getD_ok | split | with_reducible (intro _)
    | with_reducible (refine Ok_fst (by assumption) ?_) | with_reducible (refine Ok_snd (by assumption) ?_))

theorem execLaunchAnswer_wf {a0} (h0 : memWf a0.mem = true) : OutOk (execLaunchAnswer a0) := by
  unfold execLaunchAnswer
  repeat' (first
    | with_reducible assumption | dsimp only | with_reducible (refine OutOk.next ?_) | with_reducible apply State.post_wf
    | with_reducible apply State.answerLaunch_wf | with_reducible apply State.endLaunch_wf
    | with_reducible apply State.disarmAll_wf | with_reducible apply State.tellOthers_wf
    | with_reducible apply State.setLaunch_wf | split | with_reducible (intro _)
    | with_reducible (refine Ok_fst (by assumption) ?_))

theorem execLaunchCommit_wf {a0} (h0 : memWf a0.mem = true) : OutOk (execLaunchCommit a0) := by
  unfold execLaunchCommit
  repeat' (first
    | with_reducible assumption | dsimp only | with_reducible (refine OutOk.next ?_) | with_reducible apply State.mapLaunch_wf
    | with_reducible apply State.setLaunch_wf | with_reducible apply State.post_wf | with_reducible apply State.answerLaunch_wf
    | with_reducible apply State.watchLinks_wf | with_reducible apply Ok_foldl | with_reducible apply Ok_foldl_fst
    | with_reducible (refine Some_ok (by assumption) ?_) | with_reducible (refine Some_ok2 (by assumption) ?_)
    | with_reducible (exact None_ok (by assumption)) | with_reducible (exact None_ok2 (by assumption))
    | with_reducible apply getD_ok | split | with_reducible (intro _) | with_reducible (refine Ok_fst (by assumption) ?_)
    | with_reducible (refine Ok_snd (by assumption) ?_))

theorem withAcc_wf {a0 a1 a2 a3 a4} (h0 : memWf a0.mem = true) (h4 : ∀ y0 y1, memWf y0.mem = true → OutOk (a4 y0 y1)) : OutOk (withAcc a0 a1 a2 a3 a4) := by
  unfold withAcc
  repeat' (first
    | with_reducible assumption | dsimp only | with_reducible (refine OutOk.next ?_) | with_reducible apply h4
    | with_reducible apply trap_wf | with_reducible apply State.translateAt_wf | with_reducible apply park_wf
    | with_reducible apply State.resolveNow_wf | with_reducible apply State.logBad_wf | with_reducible apply State.logRefused_wf
    | split | with_reducible (intro _) | with_reducible (refine Ok_fst (by assumption) ?_))

theorem State.writeAcc_wf {a0 a1 a2} (h0 : memWf a0.mem = true) : memWf ((State.writeAcc a0 a1 a2)).mem = true := by
  unfold State.writeAcc
  repeat' (first
    | with_reducible assumption | dsimp only | with_reducible (refine OutOk.next ?_) | with_reducible apply State.writeHome_wf
    | with_reducible apply Ok_foldl | with_reducible apply Ok_foldl_fst | with_reducible (refine Some_ok (by assumption) ?_)
    | with_reducible (refine Some_ok2 (by assumption) ?_) | with_reducible (exact None_ok (by assumption))
    | with_reducible (exact None_ok2 (by assumption)) | with_reducible apply getD_ok | split | with_reducible (intro _)
    | with_reducible (refine Ok_fst (by assumption) ?_) | with_reducible (refine Ok_snd (by assumption) ?_))

theorem execXacc_wf {a0 a1 a2 a3} (h3 : memWf a3.mem = true) : OutOk (execXacc a0 a1 a2 a3) := by
  unfold execXacc
  repeat' (first
    | with_reducible assumption | dsimp only | with_reducible (refine OutOk.next ?_) | with_reducible apply illegal_wf
    | with_reducible apply withAcc_wf | with_reducible apply withFlags_wf | with_reducible apply done_wf
    | with_reducible apply trap_wf | with_reducible apply State.writeAcc_wf | split | with_reducible (intro _)
    | with_reducible (refine Ok_fst (by assumption) ?_))

theorem State.writeAccAll_wf {a0 a1 a2} (h0 : memWf a0.mem = true) : memWf ((State.writeAccAll a0 a1 a2)).mem = true := by
  unfold State.writeAccAll
  repeat' (first
    | with_reducible assumption | dsimp only | with_reducible (refine OutOk.next ?_) | with_reducible apply State.writeHome_wf
    | with_reducible apply Ok_foldl | with_reducible apply Ok_foldl_fst | with_reducible (refine Some_ok (by assumption) ?_)
    | with_reducible (refine Some_ok2 (by assumption) ?_) | with_reducible (exact None_ok (by assumption))
    | with_reducible (exact None_ok2 (by assumption)) | with_reducible apply getD_ok | split | with_reducible (intro _)
    | with_reducible (refine Ok_fst (by assumption) ?_) | with_reducible (refine Ok_snd (by assumption) ?_))

theorem execXmerge_wf {a0 a1 a2} (h2 : memWf a2.mem = true) : OutOk (execXmerge a0 a1 a2) := by
  unfold execXmerge
  repeat' (first
    | with_reducible assumption | dsimp only | with_reducible (refine OutOk.next ?_) | with_reducible apply withAcc_wf
    | with_reducible apply trap_wf | with_reducible apply withFlags_wf | with_reducible apply done_wf
    | with_reducible apply State.writeAccAll_wf | split | with_reducible (intro _)
    | with_reducible (refine Ok_fst (by assumption) ?_))

theorem execXrnd_wf {a0 a1 a2 a3} (h3 : memWf a3.mem = true) : OutOk (execXrnd a0 a1 a2 a3) := by
  unfold execXrnd
  repeat' (first
    | with_reducible assumption | dsimp only | with_reducible (refine OutOk.next ?_) | with_reducible apply illegal_wf
    | with_reducible apply withAcc_wf | with_reducible apply writeF_wf | split | with_reducible (intro _)
    | with_reducible (refine Ok_fst (by assumption) ?_))

theorem execXclr_wf {a0 a1} (h1 : memWf a1.mem = true) : OutOk (execXclr a0 a1) := by
  unfold execXclr
  repeat' (first
    | with_reducible assumption | dsimp only | with_reducible (refine OutOk.next ?_) | with_reducible apply withAcc_wf
    | with_reducible apply done_wf | with_reducible apply State.writeAccAll_wf | split | with_reducible (intro _)
    | with_reducible (refine Ok_fst (by assumption) ?_))

theorem execThermalShutdown_wf {a0} (h0 : memWf a0.mem = true) : OutOk (execThermalShutdown a0) := by
  unfold execThermalShutdown
  repeat' (first | with_reducible assumption | with_reducible (refine OutOk.next ?_) | with_reducible apply State.enterSafe_wf)

theorem execThermalRecovery_wf {a0} (h0 : memWf a0.mem = true) : OutOk (execThermalRecovery a0) := by
  unfold execThermalRecovery
  repeat' (first | with_reducible assumption | with_reducible (refine OutOk.next ?_) | with_reducible apply State.setColAt_wf)

theorem State.periodic_wf {a0} (h0 : memWf a0.mem = true) : memWf ((State.periodic a0)).mem = true := by
  unfold State.periodic
  repeat' (first
    | with_reducible assumption | dsimp only | with_reducible (refine OutOk.next ?_) | with_reducible apply State.post_wf
    | with_reducible apply Ok_foldl | with_reducible apply Ok_foldl_fst | with_reducible (refine Some_ok (by assumption) ?_)
    | with_reducible (refine Some_ok2 (by assumption) ?_) | with_reducible (exact None_ok (by assumption))
    | with_reducible (exact None_ok2 (by assumption)) | with_reducible apply getD_ok | split | with_reducible (intro _)
    | with_reducible (refine Ok_fst (by assumption) ?_) | with_reducible (refine Ok_snd (by assumption) ?_))

theorem State.bootFails_wf {a0 a1 a2 a3} (h0 : memWf a0.mem = true) : memWf ((State.bootFails a0 a1 a2 a3)).mem = true := by
  unfold State.bootFails
  repeat' (first | with_reducible assumption | with_reducible (refine OutOk.next ?_) | with_reducible apply State.enterSafe_wf)

theorem execHarvest_wf {a0} (h0 : memWf a0.mem = true) : OutOk (execHarvest a0) := by
  unfold execHarvest
  split
  · exact h0
  · extract_lets off s1 s2
    have h1 : memWf s1.mem = true := Ok_foldl h0 fun _ _ h => State.setTileAt_wf h
    clear_value off s1
    have h2 : memWf s2.mem = true := h1
    clear_value s2
    with_reducible refine Ok_ite (OutOk.next (State.post_wf (State.periodic_wf ?_))) (OutOk.next (State.bootFails_wf (State.free_wf h2)))
    exact h2

theorem execStatusRequest_wf {a0} (h0 : memWf a0.mem = true) : OutOk (execStatusRequest a0) := by
  unfold execStatusRequest
  repeat' (first | with_reducible assumption | with_reducible (refine OutOk.next ?_))

theorem State.loseAll_wf {a0 a1} (h0 : memWf a0.mem = true) : memWf ((State.loseAll a0 a1)).mem = true := by
  unfold State.loseAll
  repeat' (first
    | with_reducible assumption | dsimp only | with_reducible (refine OutOk.next ?_) | with_reducible apply State.losePkt_wf
    | with_reducible apply Ok_foldl | with_reducible apply Ok_foldl_fst | with_reducible (refine Some_ok (by assumption) ?_)
    | with_reducible (refine Some_ok2 (by assumption) ?_) | with_reducible (exact None_ok (by assumption))
    | with_reducible (exact None_ok2 (by assumption)) | with_reducible apply getD_ok | split | with_reducible (intro _)
    | with_reducible (refine Ok_fst (by assumption) ?_) | with_reducible (refine Ok_snd (by assumption) ?_))

theorem State.setFstep_wf {a0 a1} (h0 : memWf a0.mem = true) : memWf ((State.setFstep a0 a1)).mem = true := by
  unfold State.setFstep
  repeat' (first
    | with_reducible assumption | dsimp only | with_reducible (refine OutOk.next ?_) | with_reducible apply State.setColAt_wf
    | split | with_reducible (intro _) | with_reducible (refine Ok_fst (by assumption) ?_))

theorem execGovernorStep_wf {a0} (h0 : memWf a0.mem = true) : OutOk (execGovernorStep a0) := by
  unfold execGovernorStep
  repeat' (first
    | with_reducible assumption | with_reducible (refine OutOk.next ?_) | with_reducible apply State.unpost_wf
    | with_reducible apply State.setFstep_wf | with_reducible apply State.setColAt_wf | with_reducible apply State.post_wf)

theorem State.setLink_wf {a0 a1 a2 a3} (h0 : memWf a0.mem = true) : memWf ((State.setLink a0 a1 a2 a3)).mem = true := by
  unfold State.setLink
  repeat' (first | with_reducible assumption | with_reducible (refine OutOk.next ?_) | with_reducible apply State.setTileAt_wf)

theorem State.askAgain_wf {a0 a1} (h0 : memWf a0.mem = true) : memWf ((State.askAgain a0 a1)).mem = true := by
  unfold State.askAgain
  repeat' (first
    | with_reducible assumption | dsimp only | with_reducible (refine OutOk.next ?_) | with_reducible apply State.post_wf
    | with_reducible apply State.setCoreAt_wf | with_reducible apply Ok_foldl | with_reducible apply Ok_foldl_fst
    | with_reducible (refine Some_ok (by assumption) ?_) | with_reducible (refine Some_ok2 (by assumption) ?_)
    | with_reducible (exact None_ok (by assumption)) | with_reducible (exact None_ok2 (by assumption))
    | with_reducible apply getD_ok | split | with_reducible (intro _) | with_reducible (refine Ok_fst (by assumption) ?_)
    | with_reducible (refine Ok_snd (by assumption) ?_))

theorem execTileResetExit_wf {a0} (h0 : memWf a0.mem = true) : OutOk (execTileResetExit a0) := by
  unfold execTileResetExit
  repeat' (first
    | with_reducible assumption | dsimp only | with_reducible (refine OutOk.next ?_) | with_reducible apply State.wakeHeld_wf
    | with_reducible apply State.askAgain_wf | with_reducible apply State.releasePort_wf
    | with_reducible apply State.setTileAt_wf | with_reducible apply Ok_foldl | with_reducible apply Ok_foldl_fst
    | with_reducible (refine Some_ok (by assumption) ?_) | with_reducible (refine Some_ok2 (by assumption) ?_)
    | with_reducible (exact None_ok (by assumption)) | with_reducible (exact None_ok2 (by assumption))
    | with_reducible apply getD_ok | split | with_reducible (intro _) | with_reducible (refine Ok_fst (by assumption) ?_)
    | with_reducible (refine Ok_snd (by assumption) ?_))

theorem State.protBytes_wf {a0 a1 a2 a3 a4} (h0 : memWf a0.mem = true) : memWf ((State.protBytes a0 a1 a2 a3 a4)).mem = true := by
  unfold State.protBytes
  repeat' (first
    | with_reducible assumption | dsimp only | with_reducible (refine OutOk.next ?_) | with_reducible apply State.post_wf
    | with_reducible apply Ok_foldl | with_reducible apply Ok_foldl_fst | with_reducible (refine Some_ok (by assumption) ?_)
    | with_reducible (refine Some_ok2 (by assumption) ?_) | with_reducible (exact None_ok (by assumption))
    | with_reducible (exact None_ok2 (by assumption)) | with_reducible apply getD_ok | split | with_reducible (intro _)
    | with_reducible (refine Ok_fst (by assumption) ?_) | with_reducible (refine Ok_snd (by assumption) ?_))

theorem execTileReset_wf {a0} (h0 : memWf a0.mem = true) : OutOk (execTileReset a0) := by
  unfold execTileReset
  repeat' (first
    | with_reducible assumption | dsimp only | with_reducible (refine OutOk.next ?_) | with_reducible apply State.loseAll_wf
    | with_reducible apply State.dropEntry_wf | with_reducible apply State.setCtxAt_wf | with_reducible apply State.setCoreAt_wf
    | with_reducible apply State.setTileAt_wf | with_reducible apply Ok_foldl | with_reducible apply Ok_foldl_fst
    | with_reducible (refine Some_ok (by assumption) ?_) | with_reducible (refine Some_ok2 (by assumption) ?_)
    | with_reducible (exact None_ok (by assumption)) | with_reducible (exact None_ok2 (by assumption))
    | with_reducible apply getD_ok | split | with_reducible (intro _) | with_reducible (refine Ok_fst (by assumption) ?_)
    | with_reducible (refine Ok_snd (by assumption) ?_))

theorem State.noteImage_wf {a0 a1} (h0 : memWf a0.mem = true) : memWf ((State.noteImage a0 a1)).mem = true := by
  unfold State.noteImage
  repeat' (first | with_reducible assumption | with_reducible (refine OutOk.next ?_))

theorem execBootVerify_wf {a0} (h0 : memWf a0.mem = true) : OutOk (execBootVerify a0) := by
  unfold execBootVerify
  repeat' (first
    | with_reducible assumption | dsimp only | with_reducible (refine OutOk.next ?_) | with_reducible apply State.noteImage_wf
    | with_reducible apply State.bootFails_wf | with_reducible apply State.writeBytes_wf | split | with_reducible (intro _)
    | with_reducible (refine Ok_fst (by assumption) ?_))

theorem State.setPort_wf {a0 a1 a2} (h0 : memWf a0.mem = true) : memWf ((State.setPort a0 a1 a2)).mem = true := by
  unfold State.setPort
  repeat' (first | with_reducible assumption | with_reducible (refine OutOk.next ?_))

theorem execLaneSpare_wf {a0} (h0 : memWf a0.mem = true) : OutOk (execLaneSpare a0) := by
  unfold execLaneSpare
  repeat' (first
    | with_reducible assumption | dsimp only | with_reducible (refine OutOk.next ?_) | with_reducible apply State.setLink_wf
    | with_reducible apply State.post_wf | split | with_reducible (intro _) | with_reducible (refine Ok_fst (by assumption) ?_))

theorem execCxlLinkTraining_wf {a0} (h0 : memWf a0.mem = true) : OutOk (execCxlLinkTraining a0) := by
  unfold execCxlLinkTraining
  repeat' (first
    | with_reducible assumption | dsimp only | with_reducible (refine OutOk.next ?_) | with_reducible apply State.wakeHeld_wf
    | with_reducible apply State.setPort_wf | split | with_reducible (intro _)
    | with_reducible (refine Ok_fst (by assumption) ?_))

theorem State.nextAudit_wf {a0 a1 a2 a3} (h0 : memWf a0.mem = true) : memWf ((State.nextAudit a0 a1 a2 a3)).mem = true := by
  unfold State.nextAudit
  repeat' (first
    | with_reducible assumption | dsimp only | with_reducible (refine OutOk.next ?_) | with_reducible apply State.post_wf | split
    | with_reducible (intro _) | with_reducible (refine Ok_fst (by assumption) ?_))

theorem execLinkAudit_wf {a0} (h0 : memWf a0.mem = true) : OutOk (execLinkAudit a0) := by
  unfold execLinkAudit
  repeat' (first
    | with_reducible assumption | dsimp only | with_reducible (refine OutOk.next ?_) | with_reducible apply State.nextAudit_wf
    | with_reducible apply State.setLink_wf | split | with_reducible (intro _)
    | with_reducible (refine Ok_fst (by assumption) ?_))

theorem State.pauseAll_wf {a0} (h0 : memWf a0.mem = true) : memWf ((State.pauseAll a0)).mem = true := by
  unfold State.pauseAll
  repeat' (first
    | with_reducible assumption | dsimp only | with_reducible (refine OutOk.next ?_) | with_reducible apply State.post_wf
    | with_reducible apply State.setColAt_wf | with_reducible apply Ok_foldl | with_reducible apply Ok_foldl_fst
    | with_reducible (refine Some_ok (by assumption) ?_) | with_reducible (refine Some_ok2 (by assumption) ?_)
    | with_reducible (exact None_ok (by assumption)) | with_reducible (exact None_ok2 (by assumption))
    | with_reducible apply getD_ok | split | with_reducible (intro _) | with_reducible (refine Ok_fst (by assumption) ?_)
    | with_reducible (refine Ok_snd (by assumption) ?_))

theorem State.letGo_wf {a0 a1} (h0 : memWf a0.mem = true) : memWf ((State.letGo a0 a1)).mem = true := by
  unfold State.letGo
  repeat' (first | with_reducible assumption | with_reducible (refine OutOk.next ?_))

theorem execInjctlPause_wf {a0} (h0 : memWf a0.mem = true) : OutOk (execInjctlPause a0) := by
  unfold execInjctlPause
  repeat' (first
    | with_reducible assumption | dsimp only | with_reducible (refine OutOk.next ?_) | with_reducible apply State.setColAt_wf
    | with_reducible apply State.wakeHeld_wf | with_reducible apply State.letGo_wf | split | with_reducible (intro _)
    | with_reducible (refine Ok_fst (by assumption) ?_))

theorem execBootFetch_wf {a0} (h0 : memWf a0.mem = true) : OutOk (execBootFetch a0) := by
  unfold execBootFetch
  repeat' (first
    | with_reducible assumption | dsimp only | with_reducible (refine OutOk.next ?_) | with_reducible apply State.bootFails_wf
    | with_reducible apply State.post_wf | split | with_reducible (intro _) | with_reducible (refine Ok_fst (by assumption) ?_))

theorem execCxlMemTimeout_wf {a0} (h0 : memWf a0.mem = true) : OutOk (execCxlMemTimeout a0) := by
  unfold execCxlMemTimeout
  repeat' (first
    | with_reducible assumption | dsimp only | with_reducible (refine OutOk.next ?_) | with_reducible apply State.wakeHeld_wf
    | with_reducible apply State.setPort_wf | split | with_reducible (intro _)
    | with_reducible (refine Ok_fst (by assumption) ?_))

theorem State.whistleWrite_wf {a0 a1} (h0 : memWf a0.mem = true) : memWf ((State.whistleWrite a0 a1)).mem = true := by
  unfold State.whistleWrite
  repeat' (first
    | with_reducible assumption | dsimp only | with_reducible (refine OutOk.next ?_) | with_reducible apply State.post_wf | split
    | with_reducible (intro _) | with_reducible (refine Ok_fst (by assumption) ?_))

theorem execCxlLinkLoss_wf {a0} (h0 : memWf a0.mem = true) : OutOk (execCxlLinkLoss a0) := by
  unfold execCxlLinkLoss
  repeat' (first
    | with_reducible assumption | dsimp only | with_reducible (refine OutOk.next ?_) | with_reducible apply State.post_wf
    | with_reducible apply State.setPort_wf | split | with_reducible (intro _)
    | with_reducible (refine Ok_fst (by assumption) ?_))

theorem State.reModRoute_wf {a0 a1 a2 a3} (h0 : memWf a0.mem = true) : memWf ((State.reModRoute a0 a1 a2 a3)).mem = true := by
  unfold State.reModRoute
  repeat' (first
    | with_reducible assumption | dsimp only | with_reducible (refine OutOk.next ?_) | with_reducible apply State.setColAt_wf
    | with_reducible apply State.free_wf | with_reducible apply Ok_foldl | with_reducible apply Ok_foldl_fst
    | with_reducible (refine Some_ok (by assumption) ?_) | with_reducible (refine Some_ok2 (by assumption) ?_)
    | with_reducible (exact None_ok (by assumption)) | with_reducible (exact None_ok2 (by assumption))
    | with_reducible apply getD_ok | split | with_reducible (intro _) | with_reducible (refine Ok_fst (by assumption) ?_)
    | with_reducible (refine Ok_snd (by assumption) ?_))

theorem State.setPortMode_wf {a0 a1 a2} (h0 : memWf a0.mem = true) : memWf ((State.setPortMode a0 a1 a2)).mem = true := by
  unfold State.setPortMode
  repeat' (first
    | with_reducible assumption | dsimp only | with_reducible (refine OutOk.next ?_) | with_reducible apply State.setPort_wf
    | split | with_reducible (intro _) | with_reducible (refine Ok_fst (by assumption) ?_))

end Sys2Proof.Machine
end

