-- ==== Sys2Proof/Laws/PerInstr.lean ====
section
/-! SUPPORT. The per-instruction family RoundTrip: an instruction that has words is read back from its bytes, whatever follows them,
with every operand as it was (R38 to R43, R55 to R60); first, what the decoder does for each OP and function. -/

namespace Sys2Proof.Laws

set_option linter.all false

/-! The decoder by OP. -/

theorem loose_00 (w e : Nat) (h : w % 256 = 0) : decodeLoose w e = some (.ill (fld w 8 24)) := by
  unfold decodeLoose; rw [h]; rfl
theorem loose_01 (w e : Nat) (h : w % 256 = 1) : decodeLoose w e = some (.mset (fld w 23 9) (fld w 13 5)) := by
  unfold decodeLoose; rw [h]; rfl
theorem loose_04 (w e : Nat) (h : w % 256 = 4) : decodeLoose w e = decode04 w := by
  unfold decodeLoose; rw [h]; rfl
theorem loose_05 (w e : Nat) (h : w % 256 = 5) : decodeLoose w e = decode05 w := by
  unfold decodeLoose; rw [h]; rfl
theorem loose_08 (w e : Nat) (h : w % 256 = 8) : decodeLoose w e = decode08 w := by
  unfold decodeLoose; rw [h]; rfl
theorem loose_09 (w e : Nat) (h : w % 256 = 9) : decodeLoose w e = some (.mgo (fld w 25 1) (fld w 23 2) (fld w 13 5)) := by
  unfold decodeLoose; rw [h]; rfl
theorem loose_0C (w e : Nat) (h : w % 256 = 12) : decodeLoose w e = decode0C w := by
  unfold decodeLoose; rw [h]; rfl
theorem loose_0D (w e : Nat) (h : w % 256 = 13) : decodeLoose w e = some (.mgot (fld w 25 1) (fld w 23 2) (fld w 13 5)) := by
  unfold decodeLoose; rw [h]; rfl
theorem loose_10 (w e : Nat) (h : w % 256 = 16) : decodeLoose w e = some (.addi (fld w 18 14) (fld w 13 5) (fld w 8 5)) := by
  unfold decodeLoose; rw [h]; rfl
theorem loose_11 (w e : Nat) (h : w % 256 = 17) : decodeLoose w e = some (.mwait (fld w 23 1) (fld w 8 5)) := by
  unfold decodeLoose; rw [h]; rfl
theorem loose_13 (w e : Nat) (h : w % 256 = 19) : decodeLoose w e = some (.addiL (fld w 13 5) (fld w 8 5) (fld e 0 32)) := by
  unfold decodeLoose; rw [h]; rfl
theorem loose_14 (w e : Nat) (h : w % 256 = 20) : decodeLoose w e = some (.andi (fld w 18 14) (fld w 13 5) (fld w 8 5)) := by
  unfold decodeLoose; rw [h]; rfl
theorem loose_15 (w e : Nat) (h : w % 256 = 21) : decodeLoose w e = some (.mzero (fld w 23 2)) := by
  unfold decodeLoose; rw [h]; rfl
theorem loose_17 (w e : Nat) (h : w % 256 = 23) : decodeLoose w e = some (.andiL (fld w 13 5) (fld w 8 5) (fld e 0 32)) := by
  unfold decodeLoose; rw [h]; rfl
theorem loose_18 (w e : Nat) (h : w % 256 = 24) : decodeLoose w e = some (.ori (fld w 18 14) (fld w 13 5) (fld w 8 5)) := by
  unfold decodeLoose; rw [h]; rfl
theorem loose_19 (w e : Nat) (h : w % 256 = 25) : decodeLoose w e = some (.mdrain (fld w 26 6) (fld w 25 1) (fld w 23 2) (fld w 18 5) (fld w 13 5)) := by
  unfold decodeLoose; rw [h]; rfl
theorem loose_1B (w e : Nat) (h : w % 256 = 27) : decodeLoose w e = some (.oriL (fld w 13 5) (fld w 8 5) (fld e 0 32)) := by
  unfold decodeLoose; rw [h]; rfl
theorem loose_1C (w e : Nat) (h : w % 256 = 28) : decodeLoose w e = some (.xori (fld w 18 14) (fld w 13 5) (fld w 8 5)) := by
  unfold decodeLoose; rw [h]; rfl
theorem loose_1F (w e : Nat) (h : w % 256 = 31) : decodeLoose w e = some (.xoriL (fld w 13 5) (fld w 8 5) (fld e 0 32)) := by
  unfold decodeLoose; rw [h]; rfl
theorem loose_20 (w e : Nat) (h : w % 256 = 32) : decodeLoose w e = some (.slti (fld w 18 14) (fld w 13 5) (fld w 8 5)) := by
  unfold decodeLoose; rw [h]; rfl
theorem loose_23 (w e : Nat) (h : w % 256 = 35) : decodeLoose w e = some (.sltiL (fld w 13 5) (fld w 8 5) (fld e 0 32)) := by
  unfold decodeLoose; rw [h]; rfl
theorem loose_24 (w e : Nat) (h : w % 256 = 36) : decodeLoose w e = some (.sltui (fld w 18 14) (fld w 13 5) (fld w 8 5)) := by
  unfold decodeLoose; rw [h]; rfl
theorem loose_27 (w e : Nat) (h : w % 256 = 39) : decodeLoose w e = some (.sltuiL (fld w 13 5) (fld w 8 5) (fld e 0 32)) := by
  unfold decodeLoose; rw [h]; rfl
theorem loose_28 (w e : Nat) (h : w % 256 = 40) : decodeLoose w e = some (.shli (fld w 18 14) (fld w 13 5) (fld w 8 5)) := by
  unfold decodeLoose; rw [h]; rfl
theorem loose_2B (w e : Nat) (h : w % 256 = 43) : decodeLoose w e = some (.shliL (fld w 13 5) (fld w 8 5) (fld e 0 32)) := by
  unfold decodeLoose; rw [h]; rfl
theorem loose_2C (w e : Nat) (h : w % 256 = 44) : decodeLoose w e = some (.shri (fld w 18 14) (fld w 13 5) (fld w 8 5)) := by
  unfold decodeLoose; rw [h]; rfl
theorem loose_2F (w e : Nat) (h : w % 256 = 47) : decodeLoose w e = some (.shriL (fld w 13 5) (fld w 8 5) (fld e 0 32)) := by
  unfold decodeLoose; rw [h]; rfl
theorem loose_30 (w e : Nat) (h : w % 256 = 48) : decodeLoose w e = some (.sari (fld w 18 14) (fld w 13 5) (fld w 8 5)) := by
  unfold decodeLoose; rw [h]; rfl
theorem loose_33 (w e : Nat) (h : w % 256 = 51) : decodeLoose w e = some (.sariL (fld w 13 5) (fld w 8 5) (fld e 0 32)) := by
  unfold decodeLoose; rw [h]; rfl
theorem loose_34 (w e : Nat) (h : w % 256 = 52) : decodeLoose w e = some (.lih (fld w 18 14) (fld w 13 5) (fld w 8 5)) := by
  unfold decodeLoose; rw [h]; rfl
theorem loose_38 (w e : Nat) (h : w % 256 = 56) : decodeLoose w e = some (.lea (fld w 18 14) (fld w 8 5)) := by
  unfold decodeLoose; rw [h]; rfl
theorem loose_3B (w e : Nat) (h : w % 256 = 59) : decodeLoose w e = some (.leaL (fld w 8 5) (fld e 0 32)) := by
  unfold decodeLoose; rw [h]; rfl
theorem loose_3C (w e : Nat) (h : w % 256 = 60) : decodeLoose w e = some (.gadr (fld w 18 14) (fld w 13 5) (fld w 8 5)) := by
  unfold decodeLoose; rw [h]; rfl
theorem loose_40 (w e : Nat) (h : w % 256 = 64) : decodeLoose w e = some (.beq (fld w 18 14) (fld w 13 5) (fld w 8 5)) := by
  unfold decodeLoose; rw [h]; rfl
theorem loose_44 (w e : Nat) (h : w % 256 = 68) : decodeLoose w e = some (.bne (fld w 18 14) (fld w 13 5) (fld w 8 5)) := by
  unfold decodeLoose; rw [h]; rfl
theorem loose_48 (w e : Nat) (h : w % 256 = 72) : decodeLoose w e = some (.blt (fld w 18 14) (fld w 13 5) (fld w 8 5)) := by
  unfold decodeLoose; rw [h]; rfl
theorem loose_4C (w e : Nat) (h : w % 256 = 76) : decodeLoose w e = some (.bge (fld w 18 14) (fld w 13 5) (fld w 8 5)) := by
  unfold decodeLoose; rw [h]; rfl
theorem loose_50 (w e : Nat) (h : w % 256 = 80) : decodeLoose w e = some (.bltu (fld w 18 14) (fld w 13 5) (fld w 8 5)) := by
  unfold decodeLoose; rw [h]; rfl
theorem loose_54 (w e : Nat) (h : w % 256 = 84) : decodeLoose w e = some (.bgeu (fld w 18 14) (fld w 13 5) (fld w 8 5)) := by
  unfold decodeLoose; rw [h]; rfl
theorem loose_58 (w e : Nat) (h : w % 256 = 88) : decodeLoose w e = some (.jmp (fld w 8 24)) := by
  unfold decodeLoose; rw [h]; rfl
theorem loose_5C (w e : Nat) (h : w % 256 = 92) : decodeLoose w e = some (.jal (fld w 8 24)) := by
  unfold decodeLoose; rw [h]; rfl
theorem loose_60 (w e : Nat) (h : w % 256 = 96) : decodeLoose w e = decode60 w := by
  unfold decodeLoose; rw [h]; rfl
theorem loose_64 (w e : Nat) (h : w % 256 = 100) : decodeLoose w e = some (.rep (fld w 18 14) (fld w 14 4) (fld w 13 1) (fld w 12 1) (fld w 11 1) (fld w 8 3)) := by
  unfold decodeLoose; rw [h]; rfl
theorem loose_68 (w e : Nat) (h : w % 256 = 104) : decodeLoose w e = some (.pool (fld w 8 12)) := by
  unfold decodeLoose; rw [h]; rfl
theorem loose_6C (w e : Nat) (h : w % 256 = 108) : decodeLoose w e = some .tend := by
  unfold decodeLoose; rw [h]; rfl
theorem loose_70 (w e : Nat) (h : w % 256 = 112) : decodeLoose w e = decode70 w := by
  unfold decodeLoose; rw [h]; rfl
theorem loose_80 (w e : Nat) (h : w % 256 = 128) : decodeLoose w e = some (.lb (fld w 18 14) (fld w 13 5) (fld w 8 5)) := by
  unfold decodeLoose; rw [h]; rfl
theorem loose_81 (w e : Nat) (h : w % 256 = 129) : decodeLoose w e = some (.cset (fld w 23 9) (fld w 13 5)) := by
  unfold decodeLoose; rw [h]; rfl
theorem loose_83 (w e : Nat) (h : w % 256 = 131) : decodeLoose w e = decode83 w e := by
  unfold decodeLoose; rw [h]; rfl
theorem loose_84 (w e : Nat) (h : w % 256 = 132) : decodeLoose w e = some (.lh (fld w 18 14) (fld w 13 5) (fld w 8 5)) := by
  unfold decodeLoose; rw [h]; rfl
theorem loose_85 (w e : Nat) (h : w % 256 = 133) : decodeLoose w e = some (.cgo (fld w 8 5)) := by
  unfold decodeLoose; rw [h]; rfl
theorem loose_87 (w e : Nat) (h : w % 256 = 135) : decodeLoose w e = decode87 w e := by
  unfold decodeLoose; rw [h]; rfl
theorem loose_88 (w e : Nat) (h : w % 256 = 136) : decodeLoose w e = some (.lw (fld w 18 14) (fld w 13 5) (fld w 8 5)) := by
  unfold decodeLoose; rw [h]; rfl
theorem loose_89 (w e : Nat) (h : w % 256 = 137) : decodeLoose w e = some (.cpoll (fld w 23 9) (fld w 8 5)) := by
  unfold decodeLoose; rw [h]; rfl
theorem loose_8B (w e : Nat) (h : w % 256 = 139) : decodeLoose w e = decode8B w e := by
  unfold decodeLoose; rw [h]; rfl
theorem loose_8C (w e : Nat) (h : w % 256 = 140) : decodeLoose w e = some (.ld (fld w 18 14) (fld w 13 5) (fld w 8 5)) := by
  unfold decodeLoose; rw [h]; rfl
theorem loose_8D (w e : Nat) (h : w % 256 = 141) : decodeLoose w e = some (.cwait (fld w 13 5) (fld w 8 5)) := by
  unfold decodeLoose; rw [h]; rfl
theorem loose_8F (w e : Nat) (h : w % 256 = 143) : decodeLoose w e = some (.ldL (fld w 23 2) (fld w 18 5) (fld w 13 5) (fld w 8 5) (fld e 0 32)) := by
  unfold decodeLoose; rw [h]; rfl
theorem loose_90 (w e : Nat) (h : w % 256 = 144) : decodeLoose w e = some (.sb (fld w 18 14) (fld w 13 5) (fld w 8 5)) := by
  unfold decodeLoose; rw [h]; rfl
theorem loose_91 (w e : Nat) (h : w % 256 = 145) : decodeLoose w e = some (.ccancel (fld w 13 5) (fld w 8 5)) := by
  unfold decodeLoose; rw [h]; rfl
theorem loose_93 (w e : Nat) (h : w % 256 = 147) : decodeLoose w e = some (.sbL (fld w 23 2) (fld w 18 5) (fld w 13 5) (fld w 8 5) (fld e 0 32)) := by
  unfold decodeLoose; rw [h]; rfl
theorem loose_94 (w e : Nat) (h : w % 256 = 148) : decodeLoose w e = some (.sh (fld w 18 14) (fld w 13 5) (fld w 8 5)) := by
  unfold decodeLoose; rw [h]; rfl
theorem loose_97 (w e : Nat) (h : w % 256 = 151) : decodeLoose w e = some (.shL (fld w 23 2) (fld w 18 5) (fld w 13 5) (fld w 8 5) (fld e 0 32)) := by
  unfold decodeLoose; rw [h]; rfl
theorem loose_98 (w e : Nat) (h : w % 256 = 152) : decodeLoose w e = some (.sw (fld w 18 14) (fld w 13 5) (fld w 8 5)) := by
  unfold decodeLoose; rw [h]; rfl
theorem loose_9B (w e : Nat) (h : w % 256 = 155) : decodeLoose w e = some (.swL (fld w 23 2) (fld w 18 5) (fld w 13 5) (fld w 8 5) (fld e 0 32)) := by
  unfold decodeLoose; rw [h]; rfl
theorem loose_9C (w e : Nat) (h : w % 256 = 156) : decodeLoose w e = some (.sd (fld w 18 14) (fld w 13 5) (fld w 8 5)) := by
  unfold decodeLoose; rw [h]; rfl
theorem loose_9F (w e : Nat) (h : w % 256 = 159) : decodeLoose w e = some (.sdL (fld w 23 2) (fld w 18 5) (fld w 13 5) (fld w 8 5) (fld e 0 32)) := by
  unfold decodeLoose; rw [h]; rfl
theorem loose_A0 (w e : Nat) (h : w % 256 = 160) : decodeLoose w e = decodeA0 w := by
  unfold decodeLoose; rw [h]; rfl
theorem loose_A4 (w e : Nat) (h : w % 256 = 164) : decodeLoose w e = decodeA4 w := by
  unfold decodeLoose; rw [h]; rfl
theorem loose_A8 (w e : Nat) (h : w % 256 = 168) : decodeLoose w e = decodeA8 w := by
  unfold decodeLoose; rw [h]; rfl
theorem loose_B0 (w e : Nat) (h : w % 256 = 176) : decodeLoose w e = decodeB0 w := by
  unfold decodeLoose; rw [h]; rfl
theorem loose_B4 (w e : Nat) (h : w % 256 = 180) : decodeLoose w e = decodeB4 w := by
  unfold decodeLoose; rw [h]; rfl
theorem loose_C0 (w e : Nat) (h : w % 256 = 192) : decodeLoose w e = decodeC0 w := by
  unfold decodeLoose; rw [h]; rfl
theorem loose_C1 (w e : Nat) (h : w % 256 = 193) : decodeLoose w e = some (.bstate (fld w 13 5) (fld w 8 5)) := by
  unfold decodeLoose; rw [h]; rfl
theorem loose_C4 (w e : Nat) (h : w % 256 = 196) : decodeLoose w e = decodeC4 w := by
  unfold decodeLoose; rw [h]; rfl
theorem loose_C5 (w e : Nat) (h : w % 256 = 197) : decodeLoose w e = some (.bgive (fld w 18 5) (fld w 13 5)) := by
  unfold decodeLoose; rw [h]; rfl
theorem loose_C8 (w e : Nat) (h : w % 256 = 200) : decodeLoose w e = decodeC8 w := by
  unfold decodeLoose; rw [h]; rfl
theorem loose_C9 (w e : Nat) (h : w % 256 = 201) : decodeLoose w e = some (.btake (fld w 13 5) (fld w 8 5)) := by
  unfold decodeLoose; rw [h]; rfl
theorem loose_CC (w e : Nat) (h : w % 256 = 204) : decodeLoose w e = decodeCC w := by
  unfold decodeLoose; rw [h]; rfl
theorem loose_CD (w e : Nat) (h : w % 256 = 205) : decodeLoose w e = decodeCD w := by
  unfold decodeLoose; rw [h]; rfl
theorem loose_D0 (w e : Nat) (h : w % 256 = 208) : decodeLoose w e = decodeD0 w := by
  unfold decodeLoose; rw [h]; rfl
theorem loose_D1 (w e : Nat) (h : w % 256 = 209) : decodeLoose w e = decodeD1 w := by
  unfold decodeLoose; rw [h]; rfl
theorem loose_D4 (w e : Nat) (h : w % 256 = 212) : decodeLoose w e = decodeD4 w := by
  unfold decodeLoose; rw [h]; rfl
theorem loose_D5 (w e : Nat) (h : w % 256 = 213) : decodeLoose w e = some (.badv (fld w 23 1) (fld w 18 5) (fld w 13 5) (fld w 8 5)) := by
  unfold decodeLoose; rw [h]; rfl
theorem loose_D8 (w e : Nat) (h : w % 256 = 216) : decodeLoose w e = decodeD8 w := by
  unfold decodeLoose; rw [h]; rfl
theorem loose_D9 (w e : Nat) (h : w % 256 = 217) : decodeLoose w e = some (.bring (fld w 18 5) (fld w 13 5)) := by
  unfold decodeLoose; rw [h]; rfl
theorem loose_E0 (w e : Nat) (h : w % 256 = 224) : decodeLoose w e = decodeE0 w := by
  unfold decodeLoose; rw [h]; rfl
theorem loose_E4 (w e : Nat) (h : w % 256 = 228) : decodeLoose w e = decodeE4 w := by
  unfold decodeLoose; rw [h]; rfl
theorem loose_E8 (w e : Nat) (h : w % 256 = 232) : decodeLoose w e = decodeE8 w := by
  unfold decodeLoose; rw [h]; rfl
theorem loose_EC (w e : Nat) (h : w % 256 = 236) : decodeLoose w e = decodeEC w := by
  unfold decodeLoose; rw [h]; rfl
theorem loose_F0 (w e : Nat) (h : w % 256 = 240) : decodeLoose w e = decodeF0 w := by
  unfold decodeLoose; rw [h]; rfl
theorem loose_F4 (w e : Nat) (h : w % 256 = 244) : decodeLoose w e = decodeF4 w := by
  unfold decodeLoose; rw [h]; rfl
theorem loose_F8 (w e : Nat) (h : w % 256 = 248) : decodeLoose w e = decodeF8 w := by
  unfold decodeLoose; rw [h]; rfl

/-! The decoder by function bits. -/

theorem decode04_0 (w : Nat) (h : w / 2 ^ 23 % 2 ^ 8 = 0) : decode04 w = some (.add (fld w 31 1) (fld w 18 5) (fld w 13 5) (fld w 8 5)) := by
  unfold decode04; rw [h]; rfl
theorem decode04_1 (w : Nat) (h : w / 2 ^ 23 % 2 ^ 8 = 1) : decode04 w = some (.sub (fld w 31 1) (fld w 18 5) (fld w 13 5) (fld w 8 5)) := by
  unfold decode04; rw [h]; rfl
theorem decode04_2 (w : Nat) (h : w / 2 ^ 23 % 2 ^ 8 = 2) : decode04 w = some (.and (fld w 31 1) (fld w 18 5) (fld w 13 5) (fld w 8 5)) := by
  unfold decode04; rw [h]; rfl
theorem decode04_3 (w : Nat) (h : w / 2 ^ 23 % 2 ^ 8 = 3) : decode04 w = some (.or (fld w 31 1) (fld w 18 5) (fld w 13 5) (fld w 8 5)) := by
  unfold decode04; rw [h]; rfl
theorem decode04_4 (w : Nat) (h : w / 2 ^ 23 % 2 ^ 8 = 4) : decode04 w = some (.xor (fld w 31 1) (fld w 18 5) (fld w 13 5) (fld w 8 5)) := by
  unfold decode04; rw [h]; rfl
theorem decode04_5 (w : Nat) (h : w / 2 ^ 23 % 2 ^ 8 = 5) : decode04 w = some (.andn (fld w 31 1) (fld w 18 5) (fld w 13 5) (fld w 8 5)) := by
  unfold decode04; rw [h]; rfl
theorem decode04_6 (w : Nat) (h : w / 2 ^ 23 % 2 ^ 8 = 6) : decode04 w = some (.shl (fld w 31 1) (fld w 18 5) (fld w 13 5) (fld w 8 5)) := by
  unfold decode04; rw [h]; rfl
theorem decode04_7 (w : Nat) (h : w / 2 ^ 23 % 2 ^ 8 = 7) : decode04 w = some (.shr (fld w 31 1) (fld w 18 5) (fld w 13 5) (fld w 8 5)) := by
  unfold decode04; rw [h]; rfl
theorem decode04_8 (w : Nat) (h : w / 2 ^ 23 % 2 ^ 8 = 8) : decode04 w = some (.sar (fld w 31 1) (fld w 18 5) (fld w 13 5) (fld w 8 5)) := by
  unfold decode04; rw [h]; rfl
theorem decode04_9 (w : Nat) (h : w / 2 ^ 23 % 2 ^ 8 = 9) : decode04 w = some (.rol (fld w 31 1) (fld w 18 5) (fld w 13 5) (fld w 8 5)) := by
  unfold decode04; rw [h]; rfl
theorem decode04_10 (w : Nat) (h : w / 2 ^ 23 % 2 ^ 8 = 10) : decode04 w = some (.min (fld w 31 1) (fld w 18 5) (fld w 13 5) (fld w 8 5)) := by
  unfold decode04; rw [h]; rfl
theorem decode04_11 (w : Nat) (h : w / 2 ^ 23 % 2 ^ 8 = 11) : decode04 w = some (.max (fld w 31 1) (fld w 18 5) (fld w 13 5) (fld w 8 5)) := by
  unfold decode04; rw [h]; rfl
theorem decode04_12 (w : Nat) (h : w / 2 ^ 23 % 2 ^ 8 = 12) : decode04 w = some (.minu (fld w 31 1) (fld w 18 5) (fld w 13 5) (fld w 8 5)) := by
  unfold decode04; rw [h]; rfl
theorem decode04_13 (w : Nat) (h : w / 2 ^ 23 % 2 ^ 8 = 13) : decode04 w = some (.maxu (fld w 31 1) (fld w 18 5) (fld w 13 5) (fld w 8 5)) := by
  unfold decode04; rw [h]; rfl
theorem decode04_14 (w : Nat) (h : w / 2 ^ 23 % 2 ^ 8 = 14) : decode04 w = some (.slt (fld w 31 1) (fld w 18 5) (fld w 13 5) (fld w 8 5)) := by
  unfold decode04; rw [h]; rfl
theorem decode04_15 (w : Nat) (h : w / 2 ^ 23 % 2 ^ 8 = 15) : decode04 w = some (.sltu (fld w 31 1) (fld w 18 5) (fld w 13 5) (fld w 8 5)) := by
  unfold decode04; rw [h]; rfl
theorem decode04_16 (w : Nat) (h : w / 2 ^ 23 % 2 ^ 8 = 16) : decode04 w = some (.seq (fld w 31 1) (fld w 18 5) (fld w 13 5) (fld w 8 5)) := by
  unfold decode04; rw [h]; rfl
theorem decode05_0 (w : Nat) (h : w / 2 ^ 25 % 2 ^ 7 = 0) : decode05 w = some (.mget (fld w 23 3) (fld w 8 5)) := by
  unfold decode05; rw [h]; rfl
theorem decode05_1 (w : Nat) (h : w / 2 ^ 25 % 2 ^ 7 = 1) : decode05 w = some (.mget (fld w 23 3) (fld w 8 5)) := by
  unfold decode05; rw [h]; rfl
theorem decode05_64 (w : Nat) (h : w / 2 ^ 25 % 2 ^ 7 = 64) : decode05 w = some (.mgetPanel (fld w 23 2) (fld w 13 5) (fld w 8 5)) := by
  unfold decode05; rw [h]; rfl
theorem decode08_0 (w : Nat) (h : w / 2 ^ 23 % 2 ^ 8 = 0) : decode08 w = some (.mul (fld w 31 1) (fld w 18 5) (fld w 13 5) (fld w 8 5)) := by
  unfold decode08; rw [h]; rfl
theorem decode08_1 (w : Nat) (h : w / 2 ^ 23 % 2 ^ 8 = 1) : decode08 w = some (.mulh (fld w 31 1) (fld w 18 5) (fld w 13 5) (fld w 8 5)) := by
  unfold decode08; rw [h]; rfl
theorem decode08_2 (w : Nat) (h : w / 2 ^ 23 % 2 ^ 8 = 2) : decode08 w = some (.mulhu (fld w 31 1) (fld w 18 5) (fld w 13 5) (fld w 8 5)) := by
  unfold decode08; rw [h]; rfl
theorem decode08_3 (w : Nat) (h : w / 2 ^ 23 % 2 ^ 8 = 3) : decode08 w = some (.div (fld w 31 1) (fld w 18 5) (fld w 13 5) (fld w 8 5)) := by
  unfold decode08; rw [h]; rfl
theorem decode08_4 (w : Nat) (h : w / 2 ^ 23 % 2 ^ 8 = 4) : decode08 w = some (.divu (fld w 31 1) (fld w 18 5) (fld w 13 5) (fld w 8 5)) := by
  unfold decode08; rw [h]; rfl
theorem decode08_5 (w : Nat) (h : w / 2 ^ 23 % 2 ^ 8 = 5) : decode08 w = some (.rem (fld w 31 1) (fld w 18 5) (fld w 13 5) (fld w 8 5)) := by
  unfold decode08; rw [h]; rfl
theorem decode08_6 (w : Nat) (h : w / 2 ^ 23 % 2 ^ 8 = 6) : decode08 w = some (.remu (fld w 31 1) (fld w 18 5) (fld w 13 5) (fld w 8 5)) := by
  unfold decode08; rw [h]; rfl
theorem decode0C_0 (w : Nat) (h : w / 2 ^ 23 % 2 ^ 8 = 0) : decode0C w = some (.clz (fld w 31 1) (fld w 13 5) (fld w 8 5)) := by
  unfold decode0C; rw [h]; rfl
theorem decode0C_1 (w : Nat) (h : w / 2 ^ 23 % 2 ^ 8 = 1) : decode0C w = some (.ctz (fld w 31 1) (fld w 13 5) (fld w 8 5)) := by
  unfold decode0C; rw [h]; rfl
theorem decode0C_2 (w : Nat) (h : w / 2 ^ 23 % 2 ^ 8 = 2) : decode0C w = some (.popc (fld w 31 1) (fld w 13 5) (fld w 8 5)) := by
  unfold decode0C; rw [h]; rfl
theorem decode0C_3 (w : Nat) (h : w / 2 ^ 23 % 2 ^ 8 = 3) : decode0C w = some (.brev (fld w 31 1) (fld w 13 5) (fld w 8 5)) := by
  unfold decode0C; rw [h]; rfl
theorem decode0C_4 (w : Nat) (h : w / 2 ^ 23 % 2 ^ 8 = 4) : decode0C w = some (.bext (fld w 31 1) (fld w 18 5) (fld w 13 5) (fld w 8 5)) := by
  unfold decode0C; rw [h]; rfl
theorem decode0C_5 (w : Nat) (h : w / 2 ^ 23 % 2 ^ 8 = 5) : decode0C w = some (.bins (fld w 31 1) (fld w 18 5) (fld w 13 5) (fld w 8 5)) := by
  unfold decode0C; rw [h]; rfl
theorem decode0C_6 (w : Nat) (h : w / 2 ^ 23 % 2 ^ 8 = 6) : decode0C w = some (.sel (fld w 31 1) (fld w 18 5) (fld w 13 5) (fld w 8 5)) := by
  unfold decode0C; rw [h]; rfl
theorem decode60_0 (w : Nat) (h : w / 2 ^ 23 % 2 ^ 9 = 0) : decode60 w = some (.jr (fld w 13 5)) := by
  unfold decode60; rw [h]; rfl
theorem decode60_1 (w : Nat) (h : w / 2 ^ 23 % 2 ^ 9 = 1) : decode60 w = some (.jalr (fld w 13 5) (fld w 8 5)) := by
  unfold decode60; rw [h]; rfl
theorem decode70_0 (w : Nat) (h : w / 2 ^ 23 % 2 ^ 9 = 0) : decode70 w = some .sys := by
  unfold decode70; rw [h]; rfl
theorem decode70_1 (w : Nat) (h : w / 2 ^ 23 % 2 ^ 9 = 1) : decode70 w = some .trapret := by
  unfold decode70; rw [h]; rfl
theorem decode70_2 (w : Nat) (h : w / 2 ^ 23 % 2 ^ 9 = 2) : decode70 w = some .brk := by
  unfold decode70; rw [h]; rfl
theorem decode70_3 (w : Nat) (h : w / 2 ^ 23 % 2 ^ 9 = 3) : decode70 w = some (.srd (fld w 18 5) (fld w 13 5) (fld w 8 5)) := by
  unfold decode70; rw [h]; rfl
theorem decode70_4 (w : Nat) (h : w / 2 ^ 23 % 2 ^ 9 = 4) : decode70 w = some (.swr (fld w 18 5) (fld w 13 5) (fld w 8 5)) := by
  unfold decode70; rw [h]; rfl
theorem decode70_5 (w : Nat) (h : w / 2 ^ 23 % 2 ^ 9 = 5) : decode70 w = some .ifence := by
  unfold decode70; rw [h]; rfl
theorem decode83_0 (w e : Nat) (h : w / 2 ^ 25 % 2 = 0) : decode83 w e = some (.lbL (fld w 23 2) (fld w 18 5) (fld w 13 5) (fld w 8 5) (fld e 0 32)) := by
  unfold decode83; rw [h]; rfl
theorem decode83_1 (w e : Nat) (h : w / 2 ^ 25 % 2 = 1) : decode83 w e = some (.lbu (fld w 23 2) (fld w 18 5) (fld w 13 5) (fld w 8 5) (fld e 0 32)) := by
  unfold decode83; rw [h]; rfl
theorem decode87_0 (w e : Nat) (h : w / 2 ^ 25 % 2 = 0) : decode87 w e = some (.lhL (fld w 23 2) (fld w 18 5) (fld w 13 5) (fld w 8 5) (fld e 0 32)) := by
  unfold decode87; rw [h]; rfl
theorem decode87_1 (w e : Nat) (h : w / 2 ^ 25 % 2 = 1) : decode87 w e = some (.lhu (fld w 23 2) (fld w 18 5) (fld w 13 5) (fld w 8 5) (fld e 0 32)) := by
  unfold decode87; rw [h]; rfl
theorem decode8B_0 (w e : Nat) (h : w / 2 ^ 25 % 2 = 0) : decode8B w e = some (.lwL (fld w 23 2) (fld w 18 5) (fld w 13 5) (fld w 8 5) (fld e 0 32)) := by
  unfold decode8B; rw [h]; rfl
theorem decode8B_1 (w e : Nat) (h : w / 2 ^ 25 % 2 = 1) : decode8B w e = some (.lwu (fld w 23 2) (fld w 18 5) (fld w 13 5) (fld w 8 5) (fld e 0 32)) := by
  unfold decode8B; rw [h]; rfl
theorem decodeA0_0 (w : Nat) (h : w / 2 ^ 27 % 2 ^ 4 = 0) : decodeA0 w = some (.amoadd (fld w 31 1) (fld w 18 5) (fld w 13 5) (fld w 8 5)) := by
  unfold decodeA0; rw [h]; rfl
theorem decodeA0_1 (w : Nat) (h : w / 2 ^ 27 % 2 ^ 4 = 1) : decodeA0 w = some (.amomin (fld w 31 1) (fld w 18 5) (fld w 13 5) (fld w 8 5)) := by
  unfold decodeA0; rw [h]; rfl
theorem decodeA0_2 (w : Nat) (h : w / 2 ^ 27 % 2 ^ 4 = 2) : decodeA0 w = some (.amomax (fld w 31 1) (fld w 18 5) (fld w 13 5) (fld w 8 5)) := by
  unfold decodeA0; rw [h]; rfl
theorem decodeA0_3 (w : Nat) (h : w / 2 ^ 27 % 2 ^ 4 = 3) : decodeA0 w = some (.amominu (fld w 31 1) (fld w 18 5) (fld w 13 5) (fld w 8 5)) := by
  unfold decodeA0; rw [h]; rfl
theorem decodeA0_4 (w : Nat) (h : w / 2 ^ 27 % 2 ^ 4 = 4) : decodeA0 w = some (.amomaxu (fld w 31 1) (fld w 18 5) (fld w 13 5) (fld w 8 5)) := by
  unfold decodeA0; rw [h]; rfl
theorem decodeA0_5 (w : Nat) (h : w / 2 ^ 27 % 2 ^ 4 = 5) : decodeA0 w = some (.amoand (fld w 31 1) (fld w 18 5) (fld w 13 5) (fld w 8 5)) := by
  unfold decodeA0; rw [h]; rfl
theorem decodeA0_6 (w : Nat) (h : w / 2 ^ 27 % 2 ^ 4 = 6) : decodeA0 w = some (.amoor (fld w 31 1) (fld w 18 5) (fld w 13 5) (fld w 8 5)) := by
  unfold decodeA0; rw [h]; rfl
theorem decodeA0_7 (w : Nat) (h : w / 2 ^ 27 % 2 ^ 4 = 7) : decodeA0 w = some (.amoxor (fld w 31 1) (fld w 18 5) (fld w 13 5) (fld w 8 5)) := by
  unfold decodeA0; rw [h]; rfl
theorem decodeA0_8 (w : Nat) (h : w / 2 ^ 27 % 2 ^ 4 = 8) : decodeA0 w = some (.amoswap (fld w 31 1) (fld w 18 5) (fld w 13 5) (fld w 8 5)) := by
  unfold decodeA0; rw [h]; rfl
theorem decodeA0_9 (w : Nat) (h : w / 2 ^ 27 % 2 ^ 4 = 9) : decodeA0 w = some (.amocas (fld w 31 1) (fld w 18 5) (fld w 13 5) (fld w 8 5)) := by
  unfold decodeA0; rw [h]; rfl
theorem decodeA0_10 (w : Nat) (h : w / 2 ^ 27 % 2 ^ 4 = 10) : decodeA0 w = some (.amofadd (fld w 31 1) (fld w 18 5) (fld w 13 5) (fld w 8 5)) := by
  unfold decodeA0; rw [h]; rfl
theorem decodeA4_0 (w : Nat) (h : w / 2 ^ 25 % 2 ^ 7 = 0) : decodeA4 w = some .fence := by
  unfold decodeA4; rw [h]; rfl
theorem decodeA4_1 (w : Nat) (h : w / 2 ^ 25 % 2 ^ 7 = 1) : decodeA4 w = some (.ldf (fld w 23 2) (fld w 18 5) (fld w 13 5) (fld w 8 5)) := by
  unfold decodeA4; rw [h]; rfl
theorem decodeA4_2 (w : Nat) (h : w / 2 ^ 25 % 2 ^ 7 = 2) : decodeA4 w = some (.ldfe (fld w 23 2) (fld w 18 5) (fld w 13 5) (fld w 8 5)) := by
  unfold decodeA4; rw [h]; rfl
theorem decodeA4_3 (w : Nat) (h : w / 2 ^ 25 % 2 ^ 7 = 3) : decodeA4 w = some (.stf (fld w 23 2) (fld w 18 5) (fld w 13 5) (fld w 8 5)) := by
  unfold decodeA4; rw [h]; rfl
theorem decodeA8_0 (w : Nat) (h : w / 2 ^ 25 % 2 ^ 7 = 0) : decodeA8 w = some (.pf (fld w 23 2) (fld w 18 5) (fld w 13 5)) := by
  unfold decodeA8; rw [h]; rfl
theorem decodeA8_1 (w : Nat) (h : w / 2 ^ 25 % 2 ^ 7 = 1) : decodeA8 w = some (.pfwait (fld w 23 2) (fld w 18 5) (fld w 13 5) (fld w 8 5)) := by
  unfold decodeA8; rw [h]; rfl
theorem decodeA8_2 (w : Nat) (h : w / 2 ^ 25 % 2 ^ 7 = 2) : decodeA8 w = some .cinv := by
  unfold decodeA8; rw [h]; rfl
theorem decodeB0_0 (w : Nat) (h : w / 2 ^ 23 % 2 ^ 8 = 0) : decodeB0 w = some (.fadd (fld w 31 1) (fld w 18 5) (fld w 13 5) (fld w 8 5)) := by
  unfold decodeB0; rw [h]; rfl
theorem decodeB0_1 (w : Nat) (h : w / 2 ^ 23 % 2 ^ 8 = 1) : decodeB0 w = some (.fsub (fld w 31 1) (fld w 18 5) (fld w 13 5) (fld w 8 5)) := by
  unfold decodeB0; rw [h]; rfl
theorem decodeB0_2 (w : Nat) (h : w / 2 ^ 23 % 2 ^ 8 = 2) : decodeB0 w = some (.fmul (fld w 31 1) (fld w 18 5) (fld w 13 5) (fld w 8 5)) := by
  unfold decodeB0; rw [h]; rfl
theorem decodeB0_3 (w : Nat) (h : w / 2 ^ 23 % 2 ^ 8 = 3) : decodeB0 w = some (.fdiv (fld w 31 1) (fld w 18 5) (fld w 13 5) (fld w 8 5)) := by
  unfold decodeB0; rw [h]; rfl
theorem decodeB0_4 (w : Nat) (h : w / 2 ^ 23 % 2 ^ 8 = 4) : decodeB0 w = some (.fsqrt (fld w 31 1) (fld w 13 5) (fld w 8 5)) := by
  unfold decodeB0; rw [h]; rfl
theorem decodeB0_5 (w : Nat) (h : w / 2 ^ 23 % 2 ^ 8 = 5) : decodeB0 w = some (.fma (fld w 31 1) (fld w 18 5) (fld w 13 5) (fld w 8 5)) := by
  unfold decodeB0; rw [h]; rfl
theorem decodeB0_6 (w : Nat) (h : w / 2 ^ 23 % 2 ^ 8 = 6) : decodeB0 w = some (.fmin (fld w 31 1) (fld w 18 5) (fld w 13 5) (fld w 8 5)) := by
  unfold decodeB0; rw [h]; rfl
theorem decodeB0_7 (w : Nat) (h : w / 2 ^ 23 % 2 ^ 8 = 7) : decodeB0 w = some (.fmax (fld w 31 1) (fld w 18 5) (fld w 13 5) (fld w 8 5)) := by
  unfold decodeB0; rw [h]; rfl
theorem decodeB0_8 (w : Nat) (h : w / 2 ^ 23 % 2 ^ 8 = 8) : decodeB0 w = some (.fcmp (fld w 31 1) (fld w 18 5) (fld w 13 5) (fld w 8 5)) := by
  unfold decodeB0; rw [h]; rfl
theorem decodeB0_9 (w : Nat) (h : w / 2 ^ 23 % 2 ^ 8 = 9) : decodeB0 w = some (.fclass (fld w 31 1) (fld w 13 5) (fld w 8 5)) := by
  unfold decodeB0; rw [h]; rfl
theorem decodeB0_10 (w : Nat) (h : w / 2 ^ 23 % 2 ^ 8 = 10) : decodeB0 w = some (.fsgn (fld w 31 1) (fld w 18 5) (fld w 13 5) (fld w 8 5)) := by
  unfold decodeB0; rw [h]; rfl
theorem decodeB0_11 (w : Nat) (h : w / 2 ^ 23 % 2 ^ 8 = 11) : decodeB0 w = some (.fcvt (fld w 31 1) (fld w 18 5) (fld w 13 5) (fld w 8 5)) := by
  unfold decodeB0; rw [h]; rfl
theorem decodeB4_0 (w : Nat) (h : w / 2 ^ 23 % 2 ^ 9 = 0) : decodeB4 w = some (.xclr (fld w 13 5)) := by
  unfold decodeB4; rw [h]; rfl
theorem decodeB4_1 (w : Nat) (h : w / 2 ^ 23 % 2 ^ 9 = 1) : decodeB4 w = some (.xacc (fld w 18 5) (fld w 13 5) (fld w 8 5)) := by
  unfold decodeB4; rw [h]; rfl
theorem decodeB4_2 (w : Nat) (h : w / 2 ^ 23 % 2 ^ 9 = 2) : decodeB4 w = some (.xmerge (fld w 13 5) (fld w 8 5)) := by
  unfold decodeB4; rw [h]; rfl
theorem decodeB4_3 (w : Nat) (h : w / 2 ^ 23 % 2 ^ 9 = 3) : decodeB4 w = some (.xrnd (fld w 18 5) (fld w 13 5) (fld w 8 5)) := by
  unfold decodeB4; rw [h]; rfl
theorem decodeC0_0 (w : Nat) (h : w / 2 ^ 23 % 2 ^ 5 = 0) : decodeC0 w = some (.vclaim (fld w 18 5) (fld w 8 5)) := by
  unfold decodeC0; rw [h]; rfl
theorem decodeC0_1 (w : Nat) (h : w / 2 ^ 23 % 2 ^ 5 = 1) : decodeC0 w = some (.vmov (fld w 28 4) (fld w 13 5) (fld w 8 5)) := by
  unfold decodeC0; rw [h]; rfl
theorem decodeC0_2 (w : Nat) (h : w / 2 ^ 23 % 2 ^ 5 = 2) : decodeC0 w = some (.vbcast (fld w 28 4) (fld w 13 5) (fld w 8 5)) := by
  unfold decodeC0; rw [h]; rfl
theorem decodeC0_3 (w : Nat) (h : w / 2 ^ 23 % 2 ^ 5 = 3) : decodeC0 w = some (.vext (fld w 28 4) (fld w 18 5) (fld w 13 5) (fld w 8 5)) := by
  unfold decodeC0; rw [h]; rfl
theorem decodeC0_4 (w : Nat) (h : w / 2 ^ 23 % 2 ^ 5 = 4) : decodeC0 w = some (.vins (fld w 28 4) (fld w 18 5) (fld w 13 5) (fld w 8 5)) := by
  unfold decodeC0; rw [h]; rfl
theorem decodeC4_0 (w : Nat) (h : w / 2 ^ 23 % 2 ^ 5 = 0) : decodeC4 w = some (.vadd (fld w 28 4) (fld w 18 5) (fld w 13 5) (fld w 8 5)) := by
  unfold decodeC4; rw [h]; rfl
theorem decodeC4_1 (w : Nat) (h : w / 2 ^ 23 % 2 ^ 5 = 1) : decodeC4 w = some (.vsub (fld w 28 4) (fld w 18 5) (fld w 13 5) (fld w 8 5)) := by
  unfold decodeC4; rw [h]; rfl
theorem decodeC4_2 (w : Nat) (h : w / 2 ^ 23 % 2 ^ 5 = 2) : decodeC4 w = some (.vmul (fld w 28 4) (fld w 18 5) (fld w 13 5) (fld w 8 5)) := by
  unfold decodeC4; rw [h]; rfl
theorem decodeC4_3 (w : Nat) (h : w / 2 ^ 23 % 2 ^ 5 = 3) : decodeC4 w = some (.vfma (fld w 28 4) (fld w 18 5) (fld w 13 5) (fld w 8 5)) := by
  unfold decodeC4; rw [h]; rfl
theorem decodeC4_4 (w : Nat) (h : w / 2 ^ 23 % 2 ^ 5 = 4) : decodeC4 w = some (.vmin (fld w 28 4) (fld w 18 5) (fld w 13 5) (fld w 8 5)) := by
  unfold decodeC4; rw [h]; rfl
theorem decodeC4_5 (w : Nat) (h : w / 2 ^ 23 % 2 ^ 5 = 5) : decodeC4 w = some (.vmax (fld w 28 4) (fld w 18 5) (fld w 13 5) (fld w 8 5)) := by
  unfold decodeC4; rw [h]; rfl
theorem decodeC8_0 (w : Nat) (h : w / 2 ^ 23 % 2 ^ 5 = 0) : decodeC8 w = some (.vand (fld w 28 4) (fld w 18 5) (fld w 13 5) (fld w 8 5)) := by
  unfold decodeC8; rw [h]; rfl
theorem decodeC8_1 (w : Nat) (h : w / 2 ^ 23 % 2 ^ 5 = 1) : decodeC8 w = some (.vor (fld w 28 4) (fld w 18 5) (fld w 13 5) (fld w 8 5)) := by
  unfold decodeC8; rw [h]; rfl
theorem decodeC8_2 (w : Nat) (h : w / 2 ^ 23 % 2 ^ 5 = 2) : decodeC8 w = some (.vxor (fld w 28 4) (fld w 18 5) (fld w 13 5) (fld w 8 5)) := by
  unfold decodeC8; rw [h]; rfl
theorem decodeC8_3 (w : Nat) (h : w / 2 ^ 23 % 2 ^ 5 = 3) : decodeC8 w = some (.vshl (fld w 28 4) (fld w 18 5) (fld w 13 5) (fld w 8 5)) := by
  unfold decodeC8; rw [h]; rfl
theorem decodeC8_4 (w : Nat) (h : w / 2 ^ 23 % 2 ^ 5 = 4) : decodeC8 w = some (.vshr (fld w 28 4) (fld w 18 5) (fld w 13 5) (fld w 8 5)) := by
  unfold decodeC8; rw [h]; rfl
theorem decodeC8_5 (w : Nat) (h : w / 2 ^ 23 % 2 ^ 5 = 5) : decodeC8 w = some (.vsar (fld w 28 4) (fld w 18 5) (fld w 13 5) (fld w 8 5)) := by
  unfold decodeC8; rw [h]; rfl
theorem decodeCC_0 (w : Nat) (h : w / 2 ^ 23 % 2 ^ 5 = 0) : decodeCC w = some (.vcmp (fld w 28 4) (fld w 23 3) (fld w 18 5) (fld w 13 5) (fld w 8 3)) := by
  unfold decodeCC; rw [h]; rfl
theorem decodeCC_1 (w : Nat) (h : w / 2 ^ 23 % 2 ^ 5 = 1) : decodeCC w = some (.vcmp (fld w 28 4) (fld w 23 3) (fld w 18 5) (fld w 13 5) (fld w 8 3)) := by
  unfold decodeCC; rw [h]; rfl
theorem decodeCC_2 (w : Nat) (h : w / 2 ^ 23 % 2 ^ 5 = 2) : decodeCC w = some (.vcmp (fld w 28 4) (fld w 23 3) (fld w 18 5) (fld w 13 5) (fld w 8 3)) := by
  unfold decodeCC; rw [h]; rfl
theorem decodeCC_3 (w : Nat) (h : w / 2 ^ 23 % 2 ^ 5 = 3) : decodeCC w = some (.vcmp (fld w 28 4) (fld w 23 3) (fld w 18 5) (fld w 13 5) (fld w 8 3)) := by
  unfold decodeCC; rw [h]; rfl
theorem decodeCC_4 (w : Nat) (h : w / 2 ^ 23 % 2 ^ 5 = 4) : decodeCC w = some (.vcmp (fld w 28 4) (fld w 23 3) (fld w 18 5) (fld w 13 5) (fld w 8 3)) := by
  unfold decodeCC; rw [h]; rfl
theorem decodeCC_5 (w : Nat) (h : w / 2 ^ 23 % 2 ^ 5 = 5) : decodeCC w = some (.vcmp (fld w 28 4) (fld w 23 3) (fld w 18 5) (fld w 13 5) (fld w 8 3)) := by
  unfold decodeCC; rw [h]; rfl
theorem decodeCC_6 (w : Nat) (h : w / 2 ^ 23 % 2 ^ 5 = 6) : decodeCC w = some (.vcmp (fld w 28 4) (fld w 23 3) (fld w 18 5) (fld w 13 5) (fld w 8 3)) := by
  unfold decodeCC; rw [h]; rfl
theorem decodeCC_7 (w : Nat) (h : w / 2 ^ 23 % 2 ^ 5 = 7) : decodeCC w = some (.vcmp (fld w 28 4) (fld w 23 3) (fld w 18 5) (fld w 13 5) (fld w 8 3)) := by
  unfold decodeCC; rw [h]; rfl
theorem decodeCC_8 (w : Nat) (h : w / 2 ^ 23 % 2 ^ 5 = 8) : decodeCC w = some (.vsel (fld w 28 4) (fld w 18 5) (fld w 13 5) (fld w 8 5)) := by
  unfold decodeCC; rw [h]; rfl
theorem decodeCC_9 (w : Nat) (h : w / 2 ^ 23 % 2 ^ 5 = 9) : decodeCC w = some (.vperm (fld w 28 4) (fld w 18 5) (fld w 13 5) (fld w 8 5)) := by
  unfold decodeCC; rw [h]; rfl
theorem decodeCD_0 (w : Nat) (h : w / 2 ^ 23 % 2 ^ 9 = 0) : decodeCD w = some (.bmarkState (fld w 18 5) (fld w 13 5)) := by
  unfold decodeCD; rw [h]; rfl
theorem decodeCD_1 (w : Nat) (h : w / 2 ^ 23 % 2 ^ 9 = 1) : decodeCD w = some (.bmarkDefine (fld w 18 5) (fld w 13 5)) := by
  unfold decodeCD; rw [h]; rfl
theorem decodeCD_2 (w : Nat) (h : w / 2 ^ 23 % 2 ^ 9 = 2) : decodeCD w = some (.bmarkRetain (fld w 18 5) (fld w 13 5)) := by
  unfold decodeCD; rw [h]; rfl
theorem decodeCD_3 (w : Nat) (h : w / 2 ^ 23 % 2 ^ 9 = 3) : decodeCD w = some (.bmarkFree (fld w 18 5) (fld w 13 5)) := by
  unfold decodeCD; rw [h]; rfl
theorem decodeD0_0 (w : Nat) (h : w / 2 ^ 23 % 2 ^ 5 = 0) : decodeD0 w = some (.vcvt (fld w 28 4) (fld w 18 4) (fld w 13 5) (fld w 8 5)) := by
  unfold decodeD0; rw [h]; rfl
theorem decodeD0_1 (w : Nat) (h : w / 2 ^ 23 % 2 ^ 5 = 1) : decodeD0 w = some (.qcvt (fld w 28 4) (fld w 18 5) (fld w 13 5) (fld w 8 5)) := by
  unfold decodeD0; rw [h]; rfl
theorem decodeD0_8 (w : Nat) (h : w / 2 ^ 23 % 2 ^ 5 = 8) : decodeD0 w = some (.vred (fld w 28 4) (fld w 23 3) (fld w 13 5) (fld w 8 5)) := by
  unfold decodeD0; rw [h]; rfl
theorem decodeD0_9 (w : Nat) (h : w / 2 ^ 23 % 2 ^ 5 = 9) : decodeD0 w = some (.vred (fld w 28 4) (fld w 23 3) (fld w 13 5) (fld w 8 5)) := by
  unfold decodeD0; rw [h]; rfl
theorem decodeD0_10 (w : Nat) (h : w / 2 ^ 23 % 2 ^ 5 = 10) : decodeD0 w = some (.vred (fld w 28 4) (fld w 23 3) (fld w 13 5) (fld w 8 5)) := by
  unfold decodeD0; rw [h]; rfl
theorem decodeD0_11 (w : Nat) (h : w / 2 ^ 23 % 2 ^ 5 = 11) : decodeD0 w = some (.vred (fld w 28 4) (fld w 23 3) (fld w 13 5) (fld w 8 5)) := by
  unfold decodeD0; rw [h]; rfl
theorem decodeD0_12 (w : Nat) (h : w / 2 ^ 23 % 2 ^ 5 = 12) : decodeD0 w = some (.vred (fld w 28 4) (fld w 23 3) (fld w 13 5) (fld w 8 5)) := by
  unfold decodeD0; rw [h]; rfl
theorem decodeD0_13 (w : Nat) (h : w / 2 ^ 23 % 2 ^ 5 = 13) : decodeD0 w = some (.vred (fld w 28 4) (fld w 23 3) (fld w 13 5) (fld w 8 5)) := by
  unfold decodeD0; rw [h]; rfl
theorem decodeD0_14 (w : Nat) (h : w / 2 ^ 23 % 2 ^ 5 = 14) : decodeD0 w = some (.vred (fld w 28 4) (fld w 23 3) (fld w 13 5) (fld w 8 5)) := by
  unfold decodeD0; rw [h]; rfl
theorem decodeD0_15 (w : Nat) (h : w / 2 ^ 23 % 2 ^ 5 = 15) : decodeD0 w = some (.vred (fld w 28 4) (fld w 23 3) (fld w 13 5) (fld w 8 5)) := by
  unfold decodeD0; rw [h]; rfl
theorem decodeD1_0 (w : Nat) (h : w / 2 ^ 31 % 2 ^ 1 = 0) : decodeD1 w = some (.bwaitBuffer (fld w 23 4) (fld w 13 5) (fld w 8 5)) := by
  unfold decodeD1; rw [h]; rfl
theorem decodeD1_1 (w : Nat) (h : w / 2 ^ 31 % 2 ^ 1 = 1) : decodeD1 w = some (.bwaitRing (fld w 23 1) (fld w 18 5) (fld w 13 5) (fld w 8 5)) := by
  unfold decodeD1; rw [h]; rfl
theorem decodeD4_0 (w : Nat) (h : w / 2 ^ 25 % 2 ^ 3 = 0) : decodeD4 w = some (.vld (fld w 28 4) (fld w 23 2) (fld w 18 5) (fld w 13 5) (fld w 8 5)) := by
  unfold decodeD4; rw [h]; rfl
theorem decodeD4_1 (w : Nat) (h : w / 2 ^ 25 % 2 ^ 3 = 1) : decodeD4 w = some (.vlds (fld w 28 4) (fld w 23 2) (fld w 18 5) (fld w 13 5) (fld w 8 5)) := by
  unfold decodeD4; rw [h]; rfl
theorem decodeD4_2 (w : Nat) (h : w / 2 ^ 25 % 2 ^ 3 = 2) : decodeD4 w = some (.vldx (fld w 28 4) (fld w 23 2) (fld w 18 5) (fld w 13 5) (fld w 8 5)) := by
  unfold decodeD4; rw [h]; rfl
theorem decodeD4_3 (w : Nat) (h : w / 2 ^ 25 % 2 ^ 3 = 3) : decodeD4 w = some (.vldt (fld w 28 4) (fld w 23 2) (fld w 18 5) (fld w 13 5) (fld w 8 5)) := by
  unfold decodeD4; rw [h]; rfl
theorem decodeD8_0 (w : Nat) (h : w / 2 ^ 25 % 2 ^ 3 = 0) : decodeD8 w = some (.vst (fld w 28 4) (fld w 23 2) (fld w 18 5) (fld w 13 5) (fld w 8 5)) := by
  unfold decodeD8; rw [h]; rfl
theorem decodeD8_1 (w : Nat) (h : w / 2 ^ 25 % 2 ^ 3 = 1) : decodeD8 w = some (.vsts (fld w 28 4) (fld w 23 2) (fld w 18 5) (fld w 13 5) (fld w 8 5)) := by
  unfold decodeD8; rw [h]; rfl
theorem decodeD8_2 (w : Nat) (h : w / 2 ^ 25 % 2 ^ 3 = 2) : decodeD8 w = some (.vstx (fld w 28 4) (fld w 23 2) (fld w 18 5) (fld w 13 5) (fld w 8 5)) := by
  unfold decodeD8; rw [h]; rfl
theorem decodeE0_0 (w : Nat) (h : w / 2 ^ 23 % 2 ^ 5 = 0) : decodeE0 w = some (.gshuf (fld w 28 4) (fld w 18 5) (fld w 13 5) (fld w 8 5)) := by
  unfold decodeE0; rw [h]; rfl
theorem decodeE0_1 (w : Nat) (h : w / 2 ^ 23 % 2 ^ 5 = 1) : decodeE0 w = some (.gbcast (fld w 28 4) (fld w 18 5) (fld w 13 5) (fld w 8 5)) := by
  unfold decodeE0; rw [h]; rfl
theorem decodeE4_0 (w : Nat) (h : w / 2 ^ 23 % 2 ^ 5 = 0) : decodeE4 w = some (.gvote (fld w 28 4) (fld w 23 2) (fld w 13 3) (fld w 8 5)) := by
  unfold decodeE4; rw [h]; rfl
theorem decodeE4_1 (w : Nat) (h : w / 2 ^ 23 % 2 ^ 5 = 1) : decodeE4 w = some (.gvote (fld w 28 4) (fld w 23 2) (fld w 13 3) (fld w 8 5)) := by
  unfold decodeE4; rw [h]; rfl
theorem decodeE4_2 (w : Nat) (h : w / 2 ^ 23 % 2 ^ 5 = 2) : decodeE4 w = some (.gvote (fld w 28 4) (fld w 23 2) (fld w 13 3) (fld w 8 5)) := by
  unfold decodeE4; rw [h]; rfl
theorem decodeE4_3 (w : Nat) (h : w / 2 ^ 23 % 2 ^ 5 = 3) : decodeE4 w = some (.gvote (fld w 28 4) (fld w 23 2) (fld w 13 3) (fld w 8 5)) := by
  unfold decodeE4; rw [h]; rfl
theorem decodeE4_8 (w : Nat) (h : w / 2 ^ 23 % 2 ^ 5 = 8) : decodeE4 w = some (.gmatch (fld w 28 4) (fld w 13 5) (fld w 8 5)) := by
  unfold decodeE4; rw [h]; rfl
theorem decodeE8_0 (w : Nat) (h : w / 2 ^ 23 % 2 ^ 5 = 0) : decodeE8 w = some (.gred (fld w 28 4) (fld w 23 3) (fld w 13 5) (fld w 8 5)) := by
  unfold decodeE8; rw [h]; rfl
theorem decodeE8_1 (w : Nat) (h : w / 2 ^ 23 % 2 ^ 5 = 1) : decodeE8 w = some (.gred (fld w 28 4) (fld w 23 3) (fld w 13 5) (fld w 8 5)) := by
  unfold decodeE8; rw [h]; rfl
theorem decodeE8_2 (w : Nat) (h : w / 2 ^ 23 % 2 ^ 5 = 2) : decodeE8 w = some (.gred (fld w 28 4) (fld w 23 3) (fld w 13 5) (fld w 8 5)) := by
  unfold decodeE8; rw [h]; rfl
theorem decodeE8_3 (w : Nat) (h : w / 2 ^ 23 % 2 ^ 5 = 3) : decodeE8 w = some (.gred (fld w 28 4) (fld w 23 3) (fld w 13 5) (fld w 8 5)) := by
  unfold decodeE8; rw [h]; rfl
theorem decodeE8_4 (w : Nat) (h : w / 2 ^ 23 % 2 ^ 5 = 4) : decodeE8 w = some (.gred (fld w 28 4) (fld w 23 3) (fld w 13 5) (fld w 8 5)) := by
  unfold decodeE8; rw [h]; rfl
theorem decodeE8_5 (w : Nat) (h : w / 2 ^ 23 % 2 ^ 5 = 5) : decodeE8 w = some (.gred (fld w 28 4) (fld w 23 3) (fld w 13 5) (fld w 8 5)) := by
  unfold decodeE8; rw [h]; rfl
theorem decodeE8_6 (w : Nat) (h : w / 2 ^ 23 % 2 ^ 5 = 6) : decodeE8 w = some (.gred (fld w 28 4) (fld w 23 3) (fld w 13 5) (fld w 8 5)) := by
  unfold decodeE8; rw [h]; rfl
theorem decodeE8_7 (w : Nat) (h : w / 2 ^ 23 % 2 ^ 5 = 7) : decodeE8 w = some (.gred (fld w 28 4) (fld w 23 3) (fld w 13 5) (fld w 8 5)) := by
  unfold decodeE8; rw [h]; rfl
theorem decodeE8_8 (w : Nat) (h : w / 2 ^ 23 % 2 ^ 5 = 8) : decodeE8 w = some (.gscan (fld w 28 4) (fld w 23 3) (fld w 13 5) (fld w 8 5)) := by
  unfold decodeE8; rw [h]; rfl
theorem decodeE8_9 (w : Nat) (h : w / 2 ^ 23 % 2 ^ 5 = 9) : decodeE8 w = some (.gscan (fld w 28 4) (fld w 23 3) (fld w 13 5) (fld w 8 5)) := by
  unfold decodeE8; rw [h]; rfl
theorem decodeE8_10 (w : Nat) (h : w / 2 ^ 23 % 2 ^ 5 = 10) : decodeE8 w = some (.gscan (fld w 28 4) (fld w 23 3) (fld w 13 5) (fld w 8 5)) := by
  unfold decodeE8; rw [h]; rfl
theorem decodeE8_11 (w : Nat) (h : w / 2 ^ 23 % 2 ^ 5 = 11) : decodeE8 w = some (.gscan (fld w 28 4) (fld w 23 3) (fld w 13 5) (fld w 8 5)) := by
  unfold decodeE8; rw [h]; rfl
theorem decodeE8_12 (w : Nat) (h : w / 2 ^ 23 % 2 ^ 5 = 12) : decodeE8 w = some (.gscan (fld w 28 4) (fld w 23 3) (fld w 13 5) (fld w 8 5)) := by
  unfold decodeE8; rw [h]; rfl
theorem decodeE8_13 (w : Nat) (h : w / 2 ^ 23 % 2 ^ 5 = 13) : decodeE8 w = some (.gscan (fld w 28 4) (fld w 23 3) (fld w 13 5) (fld w 8 5)) := by
  unfold decodeE8; rw [h]; rfl
theorem decodeE8_14 (w : Nat) (h : w / 2 ^ 23 % 2 ^ 5 = 14) : decodeE8 w = some (.gscan (fld w 28 4) (fld w 23 3) (fld w 13 5) (fld w 8 5)) := by
  unfold decodeE8; rw [h]; rfl
theorem decodeE8_15 (w : Nat) (h : w / 2 ^ 23 % 2 ^ 5 = 15) : decodeE8 w = some (.gscan (fld w 28 4) (fld w 23 3) (fld w 13 5) (fld w 8 5)) := by
  unfold decodeE8; rw [h]; rfl
theorem decodeE8_16 (w : Nat) (h : w / 2 ^ 23 % 2 ^ 5 = 16) : decodeE8 w = some (.gmax (fld w 28 4) (fld w 18 5) (fld w 13 5) (fld w 8 5)) := by
  unfold decodeE8; rw [h]; rfl
theorem decodeEC_0 (w : Nat) (h : w / 2 ^ 23 % 2 ^ 5 = 0) : decodeEC w = some (.gbar (fld w 18 5) (fld w 8 5)) := by
  unfold decodeEC; rw [h]; rfl
theorem decodeF0_0 (w : Nat) (h : w / 2 ^ 23 % 2 ^ 9 = 0) : decodeF0 w = some (.send (fld w 18 5) (fld w 13 5)) := by
  unfold decodeF0; rw [h]; rfl
theorem decodeF0_1 (w : Nat) (h : w / 2 ^ 23 % 2 ^ 9 = 1) : decodeF0 w = some (.spawn (fld w 18 5) (fld w 13 5) (fld w 8 5)) := by
  unfold decodeF0; rw [h]; rfl
theorem decodeF0_2 (w : Nat) (h : w / 2 ^ 23 % 2 ^ 9 = 2) : decodeF0 w = some (.post (fld w 18 5) (fld w 13 5)) := by
  unfold decodeF0; rw [h]; rfl
theorem decodeF0_3 (w : Nat) (h : w / 2 ^ 23 % 2 ^ 9 = 3) : decodeF0 w = some (.decr (fld w 18 5) (fld w 13 5)) := by
  unfold decodeF0; rw [h]; rfl
theorem decodeF0_4 (w : Nat) (h : w / 2 ^ 23 % 2 ^ 9 = 4) : decodeF0 w = some (.kick (fld w 18 5) (fld w 13 5) (fld w 8 5)) := by
  unfold decodeF0; rw [h]; rfl
theorem decodeF0_5 (w : Nat) (h : w / 2 ^ 23 % 2 ^ 9 = 5) : decodeF0 w = some (.ackx (fld w 18 5) (fld w 13 5)) := by
  unfold decodeF0; rw [h]; rfl
theorem decodeF0_6 (w : Nat) (h : w / 2 ^ 23 % 2 ^ 9 = 6) : decodeF0 w = some (.twpost (fld w 18 5) (fld w 13 5) (fld w 8 5)) := by
  unfold decodeF0; rw [h]; rfl
theorem decodeF0_7 (w : Nat) (h : w / 2 ^ 23 % 2 ^ 9 = 7) : decodeF0 w = some (.splice (fld w 18 5) (fld w 13 5)) := by
  unfold decodeF0; rw [h]; rfl
theorem decodeF0_8 (w : Nat) (h : w / 2 ^ 23 % 2 ^ 9 = 8) : decodeF0 w = some (.recfwd (fld w 18 5) (fld w 13 5)) := by
  unfold decodeF0; rw [h]; rfl
theorem decodeF4_0 (w : Nat) (h : w / 2 ^ 23 % 2 ^ 9 = 0) : decodeF4 w = some (.chcfg (fld w 18 5) (fld w 13 5) (fld w 8 5)) := by
  unfold decodeF4; rw [h]; rfl
theorem decodeF4_1 (w : Nat) (h : w / 2 ^ 23 % 2 ^ 9 = 1) : decodeF4 w = some (.chblk (fld w 13 5)) := by
  unfold decodeF4; rw [h]; rfl
theorem decodeF4_2 (w : Nat) (h : w / 2 ^ 23 % 2 ^ 9 = 2) : decodeF4 w = some (.chunb (fld w 13 5)) := by
  unfold decodeF4; rw [h]; rfl
theorem decodeF4_3 (w : Nat) (h : w / 2 ^ 23 % 2 ^ 9 = 3) : decodeF4 w = some (.matchTbl (fld w 18 5) (fld w 13 5) (fld w 8 5)) := by
  unfold decodeF4; rw [h]; rfl
theorem decodeF4_4 (w : Nat) (h : w / 2 ^ 23 % 2 ^ 9 = 4) : decodeF4 w = some (.role (fld w 13 5) (fld w 8 5)) := by
  unfold decodeF4; rw [h]; rfl
theorem decodeF4_5 (w : Nat) (h : w / 2 ^ 23 % 2 ^ 9 = 5) : decodeF4 w = some (.rmap (fld w 18 5) (fld w 13 5) (fld w 8 5)) := by
  unfold decodeF4; rw [h]; rfl
theorem decodeF4_6 (w : Nat) (h : w / 2 ^ 23 % 2 ^ 9 = 6) : decodeF4 w = some (.lease (fld w 18 5) (fld w 13 5)) := by
  unfold decodeF4; rw [h]; rfl
theorem decodeF4_7 (w : Nat) (h : w / 2 ^ 23 % 2 ^ 9 = 7) : decodeF4 w = some (.lrel (fld w 13 5)) := by
  unfold decodeF4; rw [h]; rfl
theorem decodeF4_8 (w : Nat) (h : w / 2 ^ 23 % 2 ^ 9 = 8) : decodeF4 w = some (.notack (fld w 18 5) (fld w 13 5) (fld w 8 5)) := by
  unfold decodeF4; rw [h]; rfl
theorem decodeF8_0 (w : Nat) (h : w / 2 ^ 23 % 2 ^ 9 = 0) : decodeF8 w = some (.budget (fld w 13 5) (fld w 8 5)) := by
  unfold decodeF8; rw [h]; rfl
theorem decodeF8_1 (w : Nat) (h : w / 2 ^ 23 % 2 ^ 9 = 1) : decodeF8 w = some (.badd (fld w 18 5) (fld w 13 5) (fld w 8 5)) := by
  unfold decodeF8; rw [h]; rfl
theorem decodeF8_2 (w : Nat) (h : w / 2 ^ 23 % 2 ^ 9 = 2) : decodeF8 w = some .hbeat := by
  unfold decodeF8; rw [h]; rfl
theorem decodeF8_3 (w : Nat) (h : w / 2 ^ 23 % 2 ^ 9 = 3) : decodeF8 w = some (.cntrd (fld w 13 5) (fld w 8 5)) := by
  unfold decodeF8; rw [h]; rfl

/-- An instruction that has words is read back from its bytes. -/
def RoundTrip.Statement (i : Instr) : Prop :=
  encode i ≠ [] → ∀ rest, decodeBytes (encodeBytes i ++ rest) = .ok (i, rest)

theorem RoundTrip.ill (x : BitVec 24) : RoundTrip.Statement (.ill x) := by
  intro _ rest
  have hl : pack [(24, x.toNat), (8, 0)] % 256 = 0 := low_pack [(24, x.toNat)] 0 (by decide)
  have h0 : fld (pack [(24, x.toNat), (8, 0)]) 8 24 = x :=
    fld_pack [] 24 x [(8, 0)] ⟨by decide, trivial⟩
  exact bytes_one _ (pack [(24, x.toNat), (8, 0)]) rfl (pack_lt _ ⟨x.isLt, by decide, trivial⟩) 0 hl (by decide)
    (fun _ => (loose_00 _ _ hl).trans (by rw [h0])) rest
theorem RoundTrip.add (w : BitVec 1) (b : BitVec 5) (a : BitVec 5) (d : BitVec 5) : RoundTrip.Statement (.add w b a d) := by
  intro _ rest
  have hl : pack [(1, w.toNat), (8, 0), (5, b.toNat), (5, a.toNat), (5, d.toNat), (8, 0x4)] % 256 = 4 := low_pack [(1, w.toNat), (8, 0), (5, b.toNat), (5, a.toNat), (5, d.toNat)] 4 (by decide)
  have hf : pack [(1, w.toNat), (8, 0), (5, b.toNat), (5, a.toNat), (5, d.toNat), (8, 0x4)] / 2 ^ 23 % 2 ^ 8 = 0 :=
    seg_pack [(1, w.toNat)] 8 0 [(5, b.toNat), (5, a.toNat), (5, d.toNat), (8, 0x4)] ⟨by decide, b.isLt, a.isLt, d.isLt, by decide, trivial⟩
  have h0 : fld (pack [(1, w.toNat), (8, 0), (5, b.toNat), (5, a.toNat), (5, d.toNat), (8, 0x4)]) 31 1 = w :=
    fld_pack [] 1 w [(8, 0), (5, b.toNat), (5, a.toNat), (5, d.toNat), (8, 0x4)] ⟨by decide, b.isLt, a.isLt, d.isLt, by decide, trivial⟩
  have h1 : fld (pack [(1, w.toNat), (8, 0), (5, b.toNat), (5, a.toNat), (5, d.toNat), (8, 0x4)]) 18 5 = b :=
    fld_pack [(1, w.toNat), (8, 0)] 5 b [(5, a.toNat), (5, d.toNat), (8, 0x4)] ⟨a.isLt, d.isLt, by decide, trivial⟩
  have h2 : fld (pack [(1, w.toNat), (8, 0), (5, b.toNat), (5, a.toNat), (5, d.toNat), (8, 0x4)]) 13 5 = a :=
    fld_pack [(1, w.toNat), (8, 0), (5, b.toNat)] 5 a [(5, d.toNat), (8, 0x4)] ⟨d.isLt, by decide, trivial⟩
  have h3 : fld (pack [(1, w.toNat), (8, 0), (5, b.toNat), (5, a.toNat), (5, d.toNat), (8, 0x4)]) 8 5 = d :=
    fld_pack [(1, w.toNat), (8, 0), (5, b.toNat), (5, a.toNat)] 5 d [(8, 0x4)] ⟨by decide, trivial⟩
  exact bytes_one _ (pack [(1, w.toNat), (8, 0), (5, b.toNat), (5, a.toNat), (5, d.toNat), (8, 0x4)]) rfl (pack_lt _ ⟨w.isLt, by decide, b.isLt, a.isLt, d.isLt, by decide, trivial⟩) 4 hl (by decide)
    (fun _ => (loose_04 _ _ hl).trans ((decode04_0 _ hf).trans (by rw [h0, h1, h2, h3]))) rest
theorem RoundTrip.sub (w : BitVec 1) (b : BitVec 5) (a : BitVec 5) (d : BitVec 5) : RoundTrip.Statement (.sub w b a d) := by
  intro _ rest
  have hl : pack [(1, w.toNat), (8, 0x1), (5, b.toNat), (5, a.toNat), (5, d.toNat), (8, 0x4)] % 256 = 4 := low_pack [(1, w.toNat), (8, 0x1), (5, b.toNat), (5, a.toNat), (5, d.toNat)] 4 (by decide)
  have hf : pack [(1, w.toNat), (8, 0x1), (5, b.toNat), (5, a.toNat), (5, d.toNat), (8, 0x4)] / 2 ^ 23 % 2 ^ 8 = 1 :=
    seg_pack [(1, w.toNat)] 8 1 [(5, b.toNat), (5, a.toNat), (5, d.toNat), (8, 0x4)] ⟨by decide, b.isLt, a.isLt, d.isLt, by decide, trivial⟩
  have h0 : fld (pack [(1, w.toNat), (8, 0x1), (5, b.toNat), (5, a.toNat), (5, d.toNat), (8, 0x4)]) 31 1 = w :=
    fld_pack [] 1 w [(8, 0x1), (5, b.toNat), (5, a.toNat), (5, d.toNat), (8, 0x4)] ⟨by decide, b.isLt, a.isLt, d.isLt, by decide, trivial⟩
  have h1 : fld (pack [(1, w.toNat), (8, 0x1), (5, b.toNat), (5, a.toNat), (5, d.toNat), (8, 0x4)]) 18 5 = b :=
    fld_pack [(1, w.toNat), (8, 0x1)] 5 b [(5, a.toNat), (5, d.toNat), (8, 0x4)] ⟨a.isLt, d.isLt, by decide, trivial⟩
  have h2 : fld (pack [(1, w.toNat), (8, 0x1), (5, b.toNat), (5, a.toNat), (5, d.toNat), (8, 0x4)]) 13 5 = a :=
    fld_pack [(1, w.toNat), (8, 0x1), (5, b.toNat)] 5 a [(5, d.toNat), (8, 0x4)] ⟨d.isLt, by decide, trivial⟩
  have h3 : fld (pack [(1, w.toNat), (8, 0x1), (5, b.toNat), (5, a.toNat), (5, d.toNat), (8, 0x4)]) 8 5 = d :=
    fld_pack [(1, w.toNat), (8, 0x1), (5, b.toNat), (5, a.toNat)] 5 d [(8, 0x4)] ⟨by decide, trivial⟩
  exact bytes_one _ (pack [(1, w.toNat), (8, 0x1), (5, b.toNat), (5, a.toNat), (5, d.toNat), (8, 0x4)]) rfl (pack_lt _ ⟨w.isLt, by decide, b.isLt, a.isLt, d.isLt, by decide, trivial⟩) 4 hl (by decide)
    (fun _ => (loose_04 _ _ hl).trans ((decode04_1 _ hf).trans (by rw [h0, h1, h2, h3]))) rest
theorem RoundTrip.and (w : BitVec 1) (b : BitVec 5) (a : BitVec 5) (d : BitVec 5) : RoundTrip.Statement (.and w b a d) := by
  intro _ rest
  have hl : pack [(1, w.toNat), (8, 0x2), (5, b.toNat), (5, a.toNat), (5, d.toNat), (8, 0x4)] % 256 = 4 := low_pack [(1, w.toNat), (8, 0x2), (5, b.toNat), (5, a.toNat), (5, d.toNat)] 4 (by decide)
  have hf : pack [(1, w.toNat), (8, 0x2), (5, b.toNat), (5, a.toNat), (5, d.toNat), (8, 0x4)] / 2 ^ 23 % 2 ^ 8 = 2 :=
    seg_pack [(1, w.toNat)] 8 2 [(5, b.toNat), (5, a.toNat), (5, d.toNat), (8, 0x4)] ⟨by decide, b.isLt, a.isLt, d.isLt, by decide, trivial⟩
  have h0 : fld (pack [(1, w.toNat), (8, 0x2), (5, b.toNat), (5, a.toNat), (5, d.toNat), (8, 0x4)]) 31 1 = w :=
    fld_pack [] 1 w [(8, 0x2), (5, b.toNat), (5, a.toNat), (5, d.toNat), (8, 0x4)] ⟨by decide, b.isLt, a.isLt, d.isLt, by decide, trivial⟩
  have h1 : fld (pack [(1, w.toNat), (8, 0x2), (5, b.toNat), (5, a.toNat), (5, d.toNat), (8, 0x4)]) 18 5 = b :=
    fld_pack [(1, w.toNat), (8, 0x2)] 5 b [(5, a.toNat), (5, d.toNat), (8, 0x4)] ⟨a.isLt, d.isLt, by decide, trivial⟩
  have h2 : fld (pack [(1, w.toNat), (8, 0x2), (5, b.toNat), (5, a.toNat), (5, d.toNat), (8, 0x4)]) 13 5 = a :=
    fld_pack [(1, w.toNat), (8, 0x2), (5, b.toNat)] 5 a [(5, d.toNat), (8, 0x4)] ⟨d.isLt, by decide, trivial⟩
  have h3 : fld (pack [(1, w.toNat), (8, 0x2), (5, b.toNat), (5, a.toNat), (5, d.toNat), (8, 0x4)]) 8 5 = d :=
    fld_pack [(1, w.toNat), (8, 0x2), (5, b.toNat), (5, a.toNat)] 5 d [(8, 0x4)] ⟨by decide, trivial⟩
  exact bytes_one _ (pack [(1, w.toNat), (8, 0x2), (5, b.toNat), (5, a.toNat), (5, d.toNat), (8, 0x4)]) rfl (pack_lt _ ⟨w.isLt, by decide, b.isLt, a.isLt, d.isLt, by decide, trivial⟩) 4 hl (by decide)
    (fun _ => (loose_04 _ _ hl).trans ((decode04_2 _ hf).trans (by rw [h0, h1, h2, h3]))) rest
theorem RoundTrip.or (w : BitVec 1) (b : BitVec 5) (a : BitVec 5) (d : BitVec 5) : RoundTrip.Statement (.or w b a d) := by
  intro _ rest
  have hl : pack [(1, w.toNat), (8, 0x3), (5, b.toNat), (5, a.toNat), (5, d.toNat), (8, 0x4)] % 256 = 4 := low_pack [(1, w.toNat), (8, 0x3), (5, b.toNat), (5, a.toNat), (5, d.toNat)] 4 (by decide)
  have hf : pack [(1, w.toNat), (8, 0x3), (5, b.toNat), (5, a.toNat), (5, d.toNat), (8, 0x4)] / 2 ^ 23 % 2 ^ 8 = 3 :=
    seg_pack [(1, w.toNat)] 8 3 [(5, b.toNat), (5, a.toNat), (5, d.toNat), (8, 0x4)] ⟨by decide, b.isLt, a.isLt, d.isLt, by decide, trivial⟩
  have h0 : fld (pack [(1, w.toNat), (8, 0x3), (5, b.toNat), (5, a.toNat), (5, d.toNat), (8, 0x4)]) 31 1 = w :=
    fld_pack [] 1 w [(8, 0x3), (5, b.toNat), (5, a.toNat), (5, d.toNat), (8, 0x4)] ⟨by decide, b.isLt, a.isLt, d.isLt, by decide, trivial⟩
  have h1 : fld (pack [(1, w.toNat), (8, 0x3), (5, b.toNat), (5, a.toNat), (5, d.toNat), (8, 0x4)]) 18 5 = b :=
    fld_pack [(1, w.toNat), (8, 0x3)] 5 b [(5, a.toNat), (5, d.toNat), (8, 0x4)] ⟨a.isLt, d.isLt, by decide, trivial⟩
  have h2 : fld (pack [(1, w.toNat), (8, 0x3), (5, b.toNat), (5, a.toNat), (5, d.toNat), (8, 0x4)]) 13 5 = a :=
    fld_pack [(1, w.toNat), (8, 0x3), (5, b.toNat)] 5 a [(5, d.toNat), (8, 0x4)] ⟨d.isLt, by decide, trivial⟩
  have h3 : fld (pack [(1, w.toNat), (8, 0x3), (5, b.toNat), (5, a.toNat), (5, d.toNat), (8, 0x4)]) 8 5 = d :=
    fld_pack [(1, w.toNat), (8, 0x3), (5, b.toNat), (5, a.toNat)] 5 d [(8, 0x4)] ⟨by decide, trivial⟩
  exact bytes_one _ (pack [(1, w.toNat), (8, 0x3), (5, b.toNat), (5, a.toNat), (5, d.toNat), (8, 0x4)]) rfl (pack_lt _ ⟨w.isLt, by decide, b.isLt, a.isLt, d.isLt, by decide, trivial⟩) 4 hl (by decide)
    (fun _ => (loose_04 _ _ hl).trans ((decode04_3 _ hf).trans (by rw [h0, h1, h2, h3]))) rest
theorem RoundTrip.xor (w : BitVec 1) (b : BitVec 5) (a : BitVec 5) (d : BitVec 5) : RoundTrip.Statement (.xor w b a d) := by
  intro _ rest
  have hl : pack [(1, w.toNat), (8, 0x4), (5, b.toNat), (5, a.toNat), (5, d.toNat), (8, 0x4)] % 256 = 4 := low_pack [(1, w.toNat), (8, 0x4), (5, b.toNat), (5, a.toNat), (5, d.toNat)] 4 (by decide)
  have hf : pack [(1, w.toNat), (8, 0x4), (5, b.toNat), (5, a.toNat), (5, d.toNat), (8, 0x4)] / 2 ^ 23 % 2 ^ 8 = 4 :=
    seg_pack [(1, w.toNat)] 8 4 [(5, b.toNat), (5, a.toNat), (5, d.toNat), (8, 0x4)] ⟨by decide, b.isLt, a.isLt, d.isLt, by decide, trivial⟩
  have h0 : fld (pack [(1, w.toNat), (8, 0x4), (5, b.toNat), (5, a.toNat), (5, d.toNat), (8, 0x4)]) 31 1 = w :=
    fld_pack [] 1 w [(8, 0x4), (5, b.toNat), (5, a.toNat), (5, d.toNat), (8, 0x4)] ⟨by decide, b.isLt, a.isLt, d.isLt, by decide, trivial⟩
  have h1 : fld (pack [(1, w.toNat), (8, 0x4), (5, b.toNat), (5, a.toNat), (5, d.toNat), (8, 0x4)]) 18 5 = b :=
    fld_pack [(1, w.toNat), (8, 0x4)] 5 b [(5, a.toNat), (5, d.toNat), (8, 0x4)] ⟨a.isLt, d.isLt, by decide, trivial⟩
  have h2 : fld (pack [(1, w.toNat), (8, 0x4), (5, b.toNat), (5, a.toNat), (5, d.toNat), (8, 0x4)]) 13 5 = a :=
    fld_pack [(1, w.toNat), (8, 0x4), (5, b.toNat)] 5 a [(5, d.toNat), (8, 0x4)] ⟨d.isLt, by decide, trivial⟩
  have h3 : fld (pack [(1, w.toNat), (8, 0x4), (5, b.toNat), (5, a.toNat), (5, d.toNat), (8, 0x4)]) 8 5 = d :=
    fld_pack [(1, w.toNat), (8, 0x4), (5, b.toNat), (5, a.toNat)] 5 d [(8, 0x4)] ⟨by decide, trivial⟩
  exact bytes_one _ (pack [(1, w.toNat), (8, 0x4), (5, b.toNat), (5, a.toNat), (5, d.toNat), (8, 0x4)]) rfl (pack_lt _ ⟨w.isLt, by decide, b.isLt, a.isLt, d.isLt, by decide, trivial⟩) 4 hl (by decide)
    (fun _ => (loose_04 _ _ hl).trans ((decode04_4 _ hf).trans (by rw [h0, h1, h2, h3]))) rest
theorem RoundTrip.andn (w : BitVec 1) (b : BitVec 5) (a : BitVec 5) (d : BitVec 5) : RoundTrip.Statement (.andn w b a d) := by
  intro _ rest
  have hl : pack [(1, w.toNat), (8, 0x5), (5, b.toNat), (5, a.toNat), (5, d.toNat), (8, 0x4)] % 256 = 4 := low_pack [(1, w.toNat), (8, 0x5), (5, b.toNat), (5, a.toNat), (5, d.toNat)] 4 (by decide)
  have hf : pack [(1, w.toNat), (8, 0x5), (5, b.toNat), (5, a.toNat), (5, d.toNat), (8, 0x4)] / 2 ^ 23 % 2 ^ 8 = 5 :=
    seg_pack [(1, w.toNat)] 8 5 [(5, b.toNat), (5, a.toNat), (5, d.toNat), (8, 0x4)] ⟨by decide, b.isLt, a.isLt, d.isLt, by decide, trivial⟩
  have h0 : fld (pack [(1, w.toNat), (8, 0x5), (5, b.toNat), (5, a.toNat), (5, d.toNat), (8, 0x4)]) 31 1 = w :=
    fld_pack [] 1 w [(8, 0x5), (5, b.toNat), (5, a.toNat), (5, d.toNat), (8, 0x4)] ⟨by decide, b.isLt, a.isLt, d.isLt, by decide, trivial⟩
  have h1 : fld (pack [(1, w.toNat), (8, 0x5), (5, b.toNat), (5, a.toNat), (5, d.toNat), (8, 0x4)]) 18 5 = b :=
    fld_pack [(1, w.toNat), (8, 0x5)] 5 b [(5, a.toNat), (5, d.toNat), (8, 0x4)] ⟨a.isLt, d.isLt, by decide, trivial⟩
  have h2 : fld (pack [(1, w.toNat), (8, 0x5), (5, b.toNat), (5, a.toNat), (5, d.toNat), (8, 0x4)]) 13 5 = a :=
    fld_pack [(1, w.toNat), (8, 0x5), (5, b.toNat)] 5 a [(5, d.toNat), (8, 0x4)] ⟨d.isLt, by decide, trivial⟩
  have h3 : fld (pack [(1, w.toNat), (8, 0x5), (5, b.toNat), (5, a.toNat), (5, d.toNat), (8, 0x4)]) 8 5 = d :=
    fld_pack [(1, w.toNat), (8, 0x5), (5, b.toNat), (5, a.toNat)] 5 d [(8, 0x4)] ⟨by decide, trivial⟩
  exact bytes_one _ (pack [(1, w.toNat), (8, 0x5), (5, b.toNat), (5, a.toNat), (5, d.toNat), (8, 0x4)]) rfl (pack_lt _ ⟨w.isLt, by decide, b.isLt, a.isLt, d.isLt, by decide, trivial⟩) 4 hl (by decide)
    (fun _ => (loose_04 _ _ hl).trans ((decode04_5 _ hf).trans (by rw [h0, h1, h2, h3]))) rest
theorem RoundTrip.shl (w : BitVec 1) (b : BitVec 5) (a : BitVec 5) (d : BitVec 5) : RoundTrip.Statement (.shl w b a d) := by
  intro _ rest
  have hl : pack [(1, w.toNat), (8, 0x6), (5, b.toNat), (5, a.toNat), (5, d.toNat), (8, 0x4)] % 256 = 4 := low_pack [(1, w.toNat), (8, 0x6), (5, b.toNat), (5, a.toNat), (5, d.toNat)] 4 (by decide)
  have hf : pack [(1, w.toNat), (8, 0x6), (5, b.toNat), (5, a.toNat), (5, d.toNat), (8, 0x4)] / 2 ^ 23 % 2 ^ 8 = 6 :=
    seg_pack [(1, w.toNat)] 8 6 [(5, b.toNat), (5, a.toNat), (5, d.toNat), (8, 0x4)] ⟨by decide, b.isLt, a.isLt, d.isLt, by decide, trivial⟩
  have h0 : fld (pack [(1, w.toNat), (8, 0x6), (5, b.toNat), (5, a.toNat), (5, d.toNat), (8, 0x4)]) 31 1 = w :=
    fld_pack [] 1 w [(8, 0x6), (5, b.toNat), (5, a.toNat), (5, d.toNat), (8, 0x4)] ⟨by decide, b.isLt, a.isLt, d.isLt, by decide, trivial⟩
  have h1 : fld (pack [(1, w.toNat), (8, 0x6), (5, b.toNat), (5, a.toNat), (5, d.toNat), (8, 0x4)]) 18 5 = b :=
    fld_pack [(1, w.toNat), (8, 0x6)] 5 b [(5, a.toNat), (5, d.toNat), (8, 0x4)] ⟨a.isLt, d.isLt, by decide, trivial⟩
  have h2 : fld (pack [(1, w.toNat), (8, 0x6), (5, b.toNat), (5, a.toNat), (5, d.toNat), (8, 0x4)]) 13 5 = a :=
    fld_pack [(1, w.toNat), (8, 0x6), (5, b.toNat)] 5 a [(5, d.toNat), (8, 0x4)] ⟨d.isLt, by decide, trivial⟩
  have h3 : fld (pack [(1, w.toNat), (8, 0x6), (5, b.toNat), (5, a.toNat), (5, d.toNat), (8, 0x4)]) 8 5 = d :=
    fld_pack [(1, w.toNat), (8, 0x6), (5, b.toNat), (5, a.toNat)] 5 d [(8, 0x4)] ⟨by decide, trivial⟩
  exact bytes_one _ (pack [(1, w.toNat), (8, 0x6), (5, b.toNat), (5, a.toNat), (5, d.toNat), (8, 0x4)]) rfl (pack_lt _ ⟨w.isLt, by decide, b.isLt, a.isLt, d.isLt, by decide, trivial⟩) 4 hl (by decide)
    (fun _ => (loose_04 _ _ hl).trans ((decode04_6 _ hf).trans (by rw [h0, h1, h2, h3]))) rest
theorem RoundTrip.shr (w : BitVec 1) (b : BitVec 5) (a : BitVec 5) (d : BitVec 5) : RoundTrip.Statement (.shr w b a d) := by
  intro _ rest
  have hl : pack [(1, w.toNat), (8, 0x7), (5, b.toNat), (5, a.toNat), (5, d.toNat), (8, 0x4)] % 256 = 4 := low_pack [(1, w.toNat), (8, 0x7), (5, b.toNat), (5, a.toNat), (5, d.toNat)] 4 (by decide)
  have hf : pack [(1, w.toNat), (8, 0x7), (5, b.toNat), (5, a.toNat), (5, d.toNat), (8, 0x4)] / 2 ^ 23 % 2 ^ 8 = 7 :=
    seg_pack [(1, w.toNat)] 8 7 [(5, b.toNat), (5, a.toNat), (5, d.toNat), (8, 0x4)] ⟨by decide, b.isLt, a.isLt, d.isLt, by decide, trivial⟩
  have h0 : fld (pack [(1, w.toNat), (8, 0x7), (5, b.toNat), (5, a.toNat), (5, d.toNat), (8, 0x4)]) 31 1 = w :=
    fld_pack [] 1 w [(8, 0x7), (5, b.toNat), (5, a.toNat), (5, d.toNat), (8, 0x4)] ⟨by decide, b.isLt, a.isLt, d.isLt, by decide, trivial⟩
  have h1 : fld (pack [(1, w.toNat), (8, 0x7), (5, b.toNat), (5, a.toNat), (5, d.toNat), (8, 0x4)]) 18 5 = b :=
    fld_pack [(1, w.toNat), (8, 0x7)] 5 b [(5, a.toNat), (5, d.toNat), (8, 0x4)] ⟨a.isLt, d.isLt, by decide, trivial⟩
  have h2 : fld (pack [(1, w.toNat), (8, 0x7), (5, b.toNat), (5, a.toNat), (5, d.toNat), (8, 0x4)]) 13 5 = a :=
    fld_pack [(1, w.toNat), (8, 0x7), (5, b.toNat)] 5 a [(5, d.toNat), (8, 0x4)] ⟨d.isLt, by decide, trivial⟩
  have h3 : fld (pack [(1, w.toNat), (8, 0x7), (5, b.toNat), (5, a.toNat), (5, d.toNat), (8, 0x4)]) 8 5 = d :=
    fld_pack [(1, w.toNat), (8, 0x7), (5, b.toNat), (5, a.toNat)] 5 d [(8, 0x4)] ⟨by decide, trivial⟩
  exact bytes_one _ (pack [(1, w.toNat), (8, 0x7), (5, b.toNat), (5, a.toNat), (5, d.toNat), (8, 0x4)]) rfl (pack_lt _ ⟨w.isLt, by decide, b.isLt, a.isLt, d.isLt, by decide, trivial⟩) 4 hl (by decide)
    (fun _ => (loose_04 _ _ hl).trans ((decode04_7 _ hf).trans (by rw [h0, h1, h2, h3]))) rest
theorem RoundTrip.sar (w : BitVec 1) (b : BitVec 5) (a : BitVec 5) (d : BitVec 5) : RoundTrip.Statement (.sar w b a d) := by
  intro _ rest
  have hl : pack [(1, w.toNat), (8, 0x8), (5, b.toNat), (5, a.toNat), (5, d.toNat), (8, 0x4)] % 256 = 4 := low_pack [(1, w.toNat), (8, 0x8), (5, b.toNat), (5, a.toNat), (5, d.toNat)] 4 (by decide)
  have hf : pack [(1, w.toNat), (8, 0x8), (5, b.toNat), (5, a.toNat), (5, d.toNat), (8, 0x4)] / 2 ^ 23 % 2 ^ 8 = 8 :=
    seg_pack [(1, w.toNat)] 8 8 [(5, b.toNat), (5, a.toNat), (5, d.toNat), (8, 0x4)] ⟨by decide, b.isLt, a.isLt, d.isLt, by decide, trivial⟩
  have h0 : fld (pack [(1, w.toNat), (8, 0x8), (5, b.toNat), (5, a.toNat), (5, d.toNat), (8, 0x4)]) 31 1 = w :=
    fld_pack [] 1 w [(8, 0x8), (5, b.toNat), (5, a.toNat), (5, d.toNat), (8, 0x4)] ⟨by decide, b.isLt, a.isLt, d.isLt, by decide, trivial⟩
  have h1 : fld (pack [(1, w.toNat), (8, 0x8), (5, b.toNat), (5, a.toNat), (5, d.toNat), (8, 0x4)]) 18 5 = b :=
    fld_pack [(1, w.toNat), (8, 0x8)] 5 b [(5, a.toNat), (5, d.toNat), (8, 0x4)] ⟨a.isLt, d.isLt, by decide, trivial⟩
  have h2 : fld (pack [(1, w.toNat), (8, 0x8), (5, b.toNat), (5, a.toNat), (5, d.toNat), (8, 0x4)]) 13 5 = a :=
    fld_pack [(1, w.toNat), (8, 0x8), (5, b.toNat)] 5 a [(5, d.toNat), (8, 0x4)] ⟨d.isLt, by decide, trivial⟩
  have h3 : fld (pack [(1, w.toNat), (8, 0x8), (5, b.toNat), (5, a.toNat), (5, d.toNat), (8, 0x4)]) 8 5 = d :=
    fld_pack [(1, w.toNat), (8, 0x8), (5, b.toNat), (5, a.toNat)] 5 d [(8, 0x4)] ⟨by decide, trivial⟩
  exact bytes_one _ (pack [(1, w.toNat), (8, 0x8), (5, b.toNat), (5, a.toNat), (5, d.toNat), (8, 0x4)]) rfl (pack_lt _ ⟨w.isLt, by decide, b.isLt, a.isLt, d.isLt, by decide, trivial⟩) 4 hl (by decide)
    (fun _ => (loose_04 _ _ hl).trans ((decode04_8 _ hf).trans (by rw [h0, h1, h2, h3]))) rest
theorem RoundTrip.rol (w : BitVec 1) (b : BitVec 5) (a : BitVec 5) (d : BitVec 5) : RoundTrip.Statement (.rol w b a d) := by
  intro _ rest
  have hl : pack [(1, w.toNat), (8, 0x9), (5, b.toNat), (5, a.toNat), (5, d.toNat), (8, 0x4)] % 256 = 4 := low_pack [(1, w.toNat), (8, 0x9), (5, b.toNat), (5, a.toNat), (5, d.toNat)] 4 (by decide)
  have hf : pack [(1, w.toNat), (8, 0x9), (5, b.toNat), (5, a.toNat), (5, d.toNat), (8, 0x4)] / 2 ^ 23 % 2 ^ 8 = 9 :=
    seg_pack [(1, w.toNat)] 8 9 [(5, b.toNat), (5, a.toNat), (5, d.toNat), (8, 0x4)] ⟨by decide, b.isLt, a.isLt, d.isLt, by decide, trivial⟩
  have h0 : fld (pack [(1, w.toNat), (8, 0x9), (5, b.toNat), (5, a.toNat), (5, d.toNat), (8, 0x4)]) 31 1 = w :=
    fld_pack [] 1 w [(8, 0x9), (5, b.toNat), (5, a.toNat), (5, d.toNat), (8, 0x4)] ⟨by decide, b.isLt, a.isLt, d.isLt, by decide, trivial⟩
  have h1 : fld (pack [(1, w.toNat), (8, 0x9), (5, b.toNat), (5, a.toNat), (5, d.toNat), (8, 0x4)]) 18 5 = b :=
    fld_pack [(1, w.toNat), (8, 0x9)] 5 b [(5, a.toNat), (5, d.toNat), (8, 0x4)] ⟨a.isLt, d.isLt, by decide, trivial⟩
  have h2 : fld (pack [(1, w.toNat), (8, 0x9), (5, b.toNat), (5, a.toNat), (5, d.toNat), (8, 0x4)]) 13 5 = a :=
    fld_pack [(1, w.toNat), (8, 0x9), (5, b.toNat)] 5 a [(5, d.toNat), (8, 0x4)] ⟨d.isLt, by decide, trivial⟩
  have h3 : fld (pack [(1, w.toNat), (8, 0x9), (5, b.toNat), (5, a.toNat), (5, d.toNat), (8, 0x4)]) 8 5 = d :=
    fld_pack [(1, w.toNat), (8, 0x9), (5, b.toNat), (5, a.toNat)] 5 d [(8, 0x4)] ⟨by decide, trivial⟩
  exact bytes_one _ (pack [(1, w.toNat), (8, 0x9), (5, b.toNat), (5, a.toNat), (5, d.toNat), (8, 0x4)]) rfl (pack_lt _ ⟨w.isLt, by decide, b.isLt, a.isLt, d.isLt, by decide, trivial⟩) 4 hl (by decide)
    (fun _ => (loose_04 _ _ hl).trans ((decode04_9 _ hf).trans (by rw [h0, h1, h2, h3]))) rest
theorem RoundTrip.min (w : BitVec 1) (b : BitVec 5) (a : BitVec 5) (d : BitVec 5) : RoundTrip.Statement (.min w b a d) := by
  intro _ rest
  have hl : pack [(1, w.toNat), (8, 0xa), (5, b.toNat), (5, a.toNat), (5, d.toNat), (8, 0x4)] % 256 = 4 := low_pack [(1, w.toNat), (8, 0xa), (5, b.toNat), (5, a.toNat), (5, d.toNat)] 4 (by decide)
  have hf : pack [(1, w.toNat), (8, 0xa), (5, b.toNat), (5, a.toNat), (5, d.toNat), (8, 0x4)] / 2 ^ 23 % 2 ^ 8 = 10 :=
    seg_pack [(1, w.toNat)] 8 10 [(5, b.toNat), (5, a.toNat), (5, d.toNat), (8, 0x4)] ⟨by decide, b.isLt, a.isLt, d.isLt, by decide, trivial⟩
  have h0 : fld (pack [(1, w.toNat), (8, 0xa), (5, b.toNat), (5, a.toNat), (5, d.toNat), (8, 0x4)]) 31 1 = w :=
    fld_pack [] 1 w [(8, 0xa), (5, b.toNat), (5, a.toNat), (5, d.toNat), (8, 0x4)] ⟨by decide, b.isLt, a.isLt, d.isLt, by decide, trivial⟩
  have h1 : fld (pack [(1, w.toNat), (8, 0xa), (5, b.toNat), (5, a.toNat), (5, d.toNat), (8, 0x4)]) 18 5 = b :=
    fld_pack [(1, w.toNat), (8, 0xa)] 5 b [(5, a.toNat), (5, d.toNat), (8, 0x4)] ⟨a.isLt, d.isLt, by decide, trivial⟩
  have h2 : fld (pack [(1, w.toNat), (8, 0xa), (5, b.toNat), (5, a.toNat), (5, d.toNat), (8, 0x4)]) 13 5 = a :=
    fld_pack [(1, w.toNat), (8, 0xa), (5, b.toNat)] 5 a [(5, d.toNat), (8, 0x4)] ⟨d.isLt, by decide, trivial⟩
  have h3 : fld (pack [(1, w.toNat), (8, 0xa), (5, b.toNat), (5, a.toNat), (5, d.toNat), (8, 0x4)]) 8 5 = d :=
    fld_pack [(1, w.toNat), (8, 0xa), (5, b.toNat), (5, a.toNat)] 5 d [(8, 0x4)] ⟨by decide, trivial⟩
  exact bytes_one _ (pack [(1, w.toNat), (8, 0xa), (5, b.toNat), (5, a.toNat), (5, d.toNat), (8, 0x4)]) rfl (pack_lt _ ⟨w.isLt, by decide, b.isLt, a.isLt, d.isLt, by decide, trivial⟩) 4 hl (by decide)
    (fun _ => (loose_04 _ _ hl).trans ((decode04_10 _ hf).trans (by rw [h0, h1, h2, h3]))) rest
theorem RoundTrip.max (w : BitVec 1) (b : BitVec 5) (a : BitVec 5) (d : BitVec 5) : RoundTrip.Statement (.max w b a d) := by
  intro _ rest
  have hl : pack [(1, w.toNat), (8, 0xb), (5, b.toNat), (5, a.toNat), (5, d.toNat), (8, 0x4)] % 256 = 4 := low_pack [(1, w.toNat), (8, 0xb), (5, b.toNat), (5, a.toNat), (5, d.toNat)] 4 (by decide)
  have hf : pack [(1, w.toNat), (8, 0xb), (5, b.toNat), (5, a.toNat), (5, d.toNat), (8, 0x4)] / 2 ^ 23 % 2 ^ 8 = 11 :=
    seg_pack [(1, w.toNat)] 8 11 [(5, b.toNat), (5, a.toNat), (5, d.toNat), (8, 0x4)] ⟨by decide, b.isLt, a.isLt, d.isLt, by decide, trivial⟩
  have h0 : fld (pack [(1, w.toNat), (8, 0xb), (5, b.toNat), (5, a.toNat), (5, d.toNat), (8, 0x4)]) 31 1 = w :=
    fld_pack [] 1 w [(8, 0xb), (5, b.toNat), (5, a.toNat), (5, d.toNat), (8, 0x4)] ⟨by decide, b.isLt, a.isLt, d.isLt, by decide, trivial⟩
  have h1 : fld (pack [(1, w.toNat), (8, 0xb), (5, b.toNat), (5, a.toNat), (5, d.toNat), (8, 0x4)]) 18 5 = b :=
    fld_pack [(1, w.toNat), (8, 0xb)] 5 b [(5, a.toNat), (5, d.toNat), (8, 0x4)] ⟨a.isLt, d.isLt, by decide, trivial⟩
  have h2 : fld (pack [(1, w.toNat), (8, 0xb), (5, b.toNat), (5, a.toNat), (5, d.toNat), (8, 0x4)]) 13 5 = a :=
    fld_pack [(1, w.toNat), (8, 0xb), (5, b.toNat)] 5 a [(5, d.toNat), (8, 0x4)] ⟨d.isLt, by decide, trivial⟩
  have h3 : fld (pack [(1, w.toNat), (8, 0xb), (5, b.toNat), (5, a.toNat), (5, d.toNat), (8, 0x4)]) 8 5 = d :=
    fld_pack [(1, w.toNat), (8, 0xb), (5, b.toNat), (5, a.toNat)] 5 d [(8, 0x4)] ⟨by decide, trivial⟩
  exact bytes_one _ (pack [(1, w.toNat), (8, 0xb), (5, b.toNat), (5, a.toNat), (5, d.toNat), (8, 0x4)]) rfl (pack_lt _ ⟨w.isLt, by decide, b.isLt, a.isLt, d.isLt, by decide, trivial⟩) 4 hl (by decide)
    (fun _ => (loose_04 _ _ hl).trans ((decode04_11 _ hf).trans (by rw [h0, h1, h2, h3]))) rest
theorem RoundTrip.minu (w : BitVec 1) (b : BitVec 5) (a : BitVec 5) (d : BitVec 5) : RoundTrip.Statement (.minu w b a d) := by
  intro _ rest
  have hl : pack [(1, w.toNat), (8, 0xc), (5, b.toNat), (5, a.toNat), (5, d.toNat), (8, 0x4)] % 256 = 4 := low_pack [(1, w.toNat), (8, 0xc), (5, b.toNat), (5, a.toNat), (5, d.toNat)] 4 (by decide)
  have hf : pack [(1, w.toNat), (8, 0xc), (5, b.toNat), (5, a.toNat), (5, d.toNat), (8, 0x4)] / 2 ^ 23 % 2 ^ 8 = 12 :=
    seg_pack [(1, w.toNat)] 8 12 [(5, b.toNat), (5, a.toNat), (5, d.toNat), (8, 0x4)] ⟨by decide, b.isLt, a.isLt, d.isLt, by decide, trivial⟩
  have h0 : fld (pack [(1, w.toNat), (8, 0xc), (5, b.toNat), (5, a.toNat), (5, d.toNat), (8, 0x4)]) 31 1 = w :=
    fld_pack [] 1 w [(8, 0xc), (5, b.toNat), (5, a.toNat), (5, d.toNat), (8, 0x4)] ⟨by decide, b.isLt, a.isLt, d.isLt, by decide, trivial⟩
  have h1 : fld (pack [(1, w.toNat), (8, 0xc), (5, b.toNat), (5, a.toNat), (5, d.toNat), (8, 0x4)]) 18 5 = b :=
    fld_pack [(1, w.toNat), (8, 0xc)] 5 b [(5, a.toNat), (5, d.toNat), (8, 0x4)] ⟨a.isLt, d.isLt, by decide, trivial⟩
  have h2 : fld (pack [(1, w.toNat), (8, 0xc), (5, b.toNat), (5, a.toNat), (5, d.toNat), (8, 0x4)]) 13 5 = a :=
    fld_pack [(1, w.toNat), (8, 0xc), (5, b.toNat)] 5 a [(5, d.toNat), (8, 0x4)] ⟨d.isLt, by decide, trivial⟩
  have h3 : fld (pack [(1, w.toNat), (8, 0xc), (5, b.toNat), (5, a.toNat), (5, d.toNat), (8, 0x4)]) 8 5 = d :=
    fld_pack [(1, w.toNat), (8, 0xc), (5, b.toNat), (5, a.toNat)] 5 d [(8, 0x4)] ⟨by decide, trivial⟩
  exact bytes_one _ (pack [(1, w.toNat), (8, 0xc), (5, b.toNat), (5, a.toNat), (5, d.toNat), (8, 0x4)]) rfl (pack_lt _ ⟨w.isLt, by decide, b.isLt, a.isLt, d.isLt, by decide, trivial⟩) 4 hl (by decide)
    (fun _ => (loose_04 _ _ hl).trans ((decode04_12 _ hf).trans (by rw [h0, h1, h2, h3]))) rest
theorem RoundTrip.maxu (w : BitVec 1) (b : BitVec 5) (a : BitVec 5) (d : BitVec 5) : RoundTrip.Statement (.maxu w b a d) := by
  intro _ rest
  have hl : pack [(1, w.toNat), (8, 0xd), (5, b.toNat), (5, a.toNat), (5, d.toNat), (8, 0x4)] % 256 = 4 := low_pack [(1, w.toNat), (8, 0xd), (5, b.toNat), (5, a.toNat), (5, d.toNat)] 4 (by decide)
  have hf : pack [(1, w.toNat), (8, 0xd), (5, b.toNat), (5, a.toNat), (5, d.toNat), (8, 0x4)] / 2 ^ 23 % 2 ^ 8 = 13 :=
    seg_pack [(1, w.toNat)] 8 13 [(5, b.toNat), (5, a.toNat), (5, d.toNat), (8, 0x4)] ⟨by decide, b.isLt, a.isLt, d.isLt, by decide, trivial⟩
  have h0 : fld (pack [(1, w.toNat), (8, 0xd), (5, b.toNat), (5, a.toNat), (5, d.toNat), (8, 0x4)]) 31 1 = w :=
    fld_pack [] 1 w [(8, 0xd), (5, b.toNat), (5, a.toNat), (5, d.toNat), (8, 0x4)] ⟨by decide, b.isLt, a.isLt, d.isLt, by decide, trivial⟩
  have h1 : fld (pack [(1, w.toNat), (8, 0xd), (5, b.toNat), (5, a.toNat), (5, d.toNat), (8, 0x4)]) 18 5 = b :=
    fld_pack [(1, w.toNat), (8, 0xd)] 5 b [(5, a.toNat), (5, d.toNat), (8, 0x4)] ⟨a.isLt, d.isLt, by decide, trivial⟩
  have h2 : fld (pack [(1, w.toNat), (8, 0xd), (5, b.toNat), (5, a.toNat), (5, d.toNat), (8, 0x4)]) 13 5 = a :=
    fld_pack [(1, w.toNat), (8, 0xd), (5, b.toNat)] 5 a [(5, d.toNat), (8, 0x4)] ⟨d.isLt, by decide, trivial⟩
  have h3 : fld (pack [(1, w.toNat), (8, 0xd), (5, b.toNat), (5, a.toNat), (5, d.toNat), (8, 0x4)]) 8 5 = d :=
    fld_pack [(1, w.toNat), (8, 0xd), (5, b.toNat), (5, a.toNat)] 5 d [(8, 0x4)] ⟨by decide, trivial⟩
  exact bytes_one _ (pack [(1, w.toNat), (8, 0xd), (5, b.toNat), (5, a.toNat), (5, d.toNat), (8, 0x4)]) rfl (pack_lt _ ⟨w.isLt, by decide, b.isLt, a.isLt, d.isLt, by decide, trivial⟩) 4 hl (by decide)
    (fun _ => (loose_04 _ _ hl).trans ((decode04_13 _ hf).trans (by rw [h0, h1, h2, h3]))) rest
theorem RoundTrip.slt (w : BitVec 1) (b : BitVec 5) (a : BitVec 5) (d : BitVec 5) : RoundTrip.Statement (.slt w b a d) := by
  intro _ rest
  have hl : pack [(1, w.toNat), (8, 0xe), (5, b.toNat), (5, a.toNat), (5, d.toNat), (8, 0x4)] % 256 = 4 := low_pack [(1, w.toNat), (8, 0xe), (5, b.toNat), (5, a.toNat), (5, d.toNat)] 4 (by decide)
  have hf : pack [(1, w.toNat), (8, 0xe), (5, b.toNat), (5, a.toNat), (5, d.toNat), (8, 0x4)] / 2 ^ 23 % 2 ^ 8 = 14 :=
    seg_pack [(1, w.toNat)] 8 14 [(5, b.toNat), (5, a.toNat), (5, d.toNat), (8, 0x4)] ⟨by decide, b.isLt, a.isLt, d.isLt, by decide, trivial⟩
  have h0 : fld (pack [(1, w.toNat), (8, 0xe), (5, b.toNat), (5, a.toNat), (5, d.toNat), (8, 0x4)]) 31 1 = w :=
    fld_pack [] 1 w [(8, 0xe), (5, b.toNat), (5, a.toNat), (5, d.toNat), (8, 0x4)] ⟨by decide, b.isLt, a.isLt, d.isLt, by decide, trivial⟩
  have h1 : fld (pack [(1, w.toNat), (8, 0xe), (5, b.toNat), (5, a.toNat), (5, d.toNat), (8, 0x4)]) 18 5 = b :=
    fld_pack [(1, w.toNat), (8, 0xe)] 5 b [(5, a.toNat), (5, d.toNat), (8, 0x4)] ⟨a.isLt, d.isLt, by decide, trivial⟩
  have h2 : fld (pack [(1, w.toNat), (8, 0xe), (5, b.toNat), (5, a.toNat), (5, d.toNat), (8, 0x4)]) 13 5 = a :=
    fld_pack [(1, w.toNat), (8, 0xe), (5, b.toNat)] 5 a [(5, d.toNat), (8, 0x4)] ⟨d.isLt, by decide, trivial⟩
  have h3 : fld (pack [(1, w.toNat), (8, 0xe), (5, b.toNat), (5, a.toNat), (5, d.toNat), (8, 0x4)]) 8 5 = d :=
    fld_pack [(1, w.toNat), (8, 0xe), (5, b.toNat), (5, a.toNat)] 5 d [(8, 0x4)] ⟨by decide, trivial⟩
  exact bytes_one _ (pack [(1, w.toNat), (8, 0xe), (5, b.toNat), (5, a.toNat), (5, d.toNat), (8, 0x4)]) rfl (pack_lt _ ⟨w.isLt, by decide, b.isLt, a.isLt, d.isLt, by decide, trivial⟩) 4 hl (by decide)
    (fun _ => (loose_04 _ _ hl).trans ((decode04_14 _ hf).trans (by rw [h0, h1, h2, h3]))) rest
theorem RoundTrip.sltu (w : BitVec 1) (b : BitVec 5) (a : BitVec 5) (d : BitVec 5) : RoundTrip.Statement (.sltu w b a d) := by
  intro _ rest
  have hl : pack [(1, w.toNat), (8, 0xf), (5, b.toNat), (5, a.toNat), (5, d.toNat), (8, 0x4)] % 256 = 4 := low_pack [(1, w.toNat), (8, 0xf), (5, b.toNat), (5, a.toNat), (5, d.toNat)] 4 (by decide)
  have hf : pack [(1, w.toNat), (8, 0xf), (5, b.toNat), (5, a.toNat), (5, d.toNat), (8, 0x4)] / 2 ^ 23 % 2 ^ 8 = 15 :=
    seg_pack [(1, w.toNat)] 8 15 [(5, b.toNat), (5, a.toNat), (5, d.toNat), (8, 0x4)] ⟨by decide, b.isLt, a.isLt, d.isLt, by decide, trivial⟩
  have h0 : fld (pack [(1, w.toNat), (8, 0xf), (5, b.toNat), (5, a.toNat), (5, d.toNat), (8, 0x4)]) 31 1 = w :=
    fld_pack [] 1 w [(8, 0xf), (5, b.toNat), (5, a.toNat), (5, d.toNat), (8, 0x4)] ⟨by decide, b.isLt, a.isLt, d.isLt, by decide, trivial⟩
  have h1 : fld (pack [(1, w.toNat), (8, 0xf), (5, b.toNat), (5, a.toNat), (5, d.toNat), (8, 0x4)]) 18 5 = b :=
    fld_pack [(1, w.toNat), (8, 0xf)] 5 b [(5, a.toNat), (5, d.toNat), (8, 0x4)] ⟨a.isLt, d.isLt, by decide, trivial⟩
  have h2 : fld (pack [(1, w.toNat), (8, 0xf), (5, b.toNat), (5, a.toNat), (5, d.toNat), (8, 0x4)]) 13 5 = a :=
    fld_pack [(1, w.toNat), (8, 0xf), (5, b.toNat)] 5 a [(5, d.toNat), (8, 0x4)] ⟨d.isLt, by decide, trivial⟩
  have h3 : fld (pack [(1, w.toNat), (8, 0xf), (5, b.toNat), (5, a.toNat), (5, d.toNat), (8, 0x4)]) 8 5 = d :=
    fld_pack [(1, w.toNat), (8, 0xf), (5, b.toNat), (5, a.toNat)] 5 d [(8, 0x4)] ⟨by decide, trivial⟩
  exact bytes_one _ (pack [(1, w.toNat), (8, 0xf), (5, b.toNat), (5, a.toNat), (5, d.toNat), (8, 0x4)]) rfl (pack_lt _ ⟨w.isLt, by decide, b.isLt, a.isLt, d.isLt, by decide, trivial⟩) 4 hl (by decide)
    (fun _ => (loose_04 _ _ hl).trans ((decode04_15 _ hf).trans (by rw [h0, h1, h2, h3]))) rest
theorem RoundTrip.seq (w : BitVec 1) (b : BitVec 5) (a : BitVec 5) (d : BitVec 5) : RoundTrip.Statement (.seq w b a d) := by
  intro _ rest
  have hl : pack [(1, w.toNat), (8, 0x10), (5, b.toNat), (5, a.toNat), (5, d.toNat), (8, 0x4)] % 256 = 4 := low_pack [(1, w.toNat), (8, 0x10), (5, b.toNat), (5, a.toNat), (5, d.toNat)] 4 (by decide)
  have hf : pack [(1, w.toNat), (8, 0x10), (5, b.toNat), (5, a.toNat), (5, d.toNat), (8, 0x4)] / 2 ^ 23 % 2 ^ 8 = 16 :=
    seg_pack [(1, w.toNat)] 8 16 [(5, b.toNat), (5, a.toNat), (5, d.toNat), (8, 0x4)] ⟨by decide, b.isLt, a.isLt, d.isLt, by decide, trivial⟩
  have h0 : fld (pack [(1, w.toNat), (8, 0x10), (5, b.toNat), (5, a.toNat), (5, d.toNat), (8, 0x4)]) 31 1 = w :=
    fld_pack [] 1 w [(8, 0x10), (5, b.toNat), (5, a.toNat), (5, d.toNat), (8, 0x4)] ⟨by decide, b.isLt, a.isLt, d.isLt, by decide, trivial⟩
  have h1 : fld (pack [(1, w.toNat), (8, 0x10), (5, b.toNat), (5, a.toNat), (5, d.toNat), (8, 0x4)]) 18 5 = b :=
    fld_pack [(1, w.toNat), (8, 0x10)] 5 b [(5, a.toNat), (5, d.toNat), (8, 0x4)] ⟨a.isLt, d.isLt, by decide, trivial⟩
  have h2 : fld (pack [(1, w.toNat), (8, 0x10), (5, b.toNat), (5, a.toNat), (5, d.toNat), (8, 0x4)]) 13 5 = a :=
    fld_pack [(1, w.toNat), (8, 0x10), (5, b.toNat)] 5 a [(5, d.toNat), (8, 0x4)] ⟨d.isLt, by decide, trivial⟩
  have h3 : fld (pack [(1, w.toNat), (8, 0x10), (5, b.toNat), (5, a.toNat), (5, d.toNat), (8, 0x4)]) 8 5 = d :=
    fld_pack [(1, w.toNat), (8, 0x10), (5, b.toNat), (5, a.toNat)] 5 d [(8, 0x4)] ⟨by decide, trivial⟩
  exact bytes_one _ (pack [(1, w.toNat), (8, 0x10), (5, b.toNat), (5, a.toNat), (5, d.toNat), (8, 0x4)]) rfl (pack_lt _ ⟨w.isLt, by decide, b.isLt, a.isLt, d.isLt, by decide, trivial⟩) 4 hl (by decide)
    (fun _ => (loose_04 _ _ hl).trans ((decode04_16 _ hf).trans (by rw [h0, h1, h2, h3]))) rest
theorem RoundTrip.mul (w : BitVec 1) (b : BitVec 5) (a : BitVec 5) (d : BitVec 5) : RoundTrip.Statement (.mul w b a d) := by
  intro _ rest
  have hl : pack [(1, w.toNat), (8, 0), (5, b.toNat), (5, a.toNat), (5, d.toNat), (8, 0x8)] % 256 = 8 := low_pack [(1, w.toNat), (8, 0), (5, b.toNat), (5, a.toNat), (5, d.toNat)] 8 (by decide)
  have hf : pack [(1, w.toNat), (8, 0), (5, b.toNat), (5, a.toNat), (5, d.toNat), (8, 0x8)] / 2 ^ 23 % 2 ^ 8 = 0 :=
    seg_pack [(1, w.toNat)] 8 0 [(5, b.toNat), (5, a.toNat), (5, d.toNat), (8, 0x8)] ⟨by decide, b.isLt, a.isLt, d.isLt, by decide, trivial⟩
  have h0 : fld (pack [(1, w.toNat), (8, 0), (5, b.toNat), (5, a.toNat), (5, d.toNat), (8, 0x8)]) 31 1 = w :=
    fld_pack [] 1 w [(8, 0), (5, b.toNat), (5, a.toNat), (5, d.toNat), (8, 0x8)] ⟨by decide, b.isLt, a.isLt, d.isLt, by decide, trivial⟩
  have h1 : fld (pack [(1, w.toNat), (8, 0), (5, b.toNat), (5, a.toNat), (5, d.toNat), (8, 0x8)]) 18 5 = b :=
    fld_pack [(1, w.toNat), (8, 0)] 5 b [(5, a.toNat), (5, d.toNat), (8, 0x8)] ⟨a.isLt, d.isLt, by decide, trivial⟩
  have h2 : fld (pack [(1, w.toNat), (8, 0), (5, b.toNat), (5, a.toNat), (5, d.toNat), (8, 0x8)]) 13 5 = a :=
    fld_pack [(1, w.toNat), (8, 0), (5, b.toNat)] 5 a [(5, d.toNat), (8, 0x8)] ⟨d.isLt, by decide, trivial⟩
  have h3 : fld (pack [(1, w.toNat), (8, 0), (5, b.toNat), (5, a.toNat), (5, d.toNat), (8, 0x8)]) 8 5 = d :=
    fld_pack [(1, w.toNat), (8, 0), (5, b.toNat), (5, a.toNat)] 5 d [(8, 0x8)] ⟨by decide, trivial⟩
  exact bytes_one _ (pack [(1, w.toNat), (8, 0), (5, b.toNat), (5, a.toNat), (5, d.toNat), (8, 0x8)]) rfl (pack_lt _ ⟨w.isLt, by decide, b.isLt, a.isLt, d.isLt, by decide, trivial⟩) 8 hl (by decide)
    (fun _ => (loose_08 _ _ hl).trans ((decode08_0 _ hf).trans (by rw [h0, h1, h2, h3]))) rest
theorem RoundTrip.mulh (w : BitVec 1) (b : BitVec 5) (a : BitVec 5) (d : BitVec 5) : RoundTrip.Statement (.mulh w b a d) := by
  intro _ rest
  have hl : pack [(1, w.toNat), (8, 0x1), (5, b.toNat), (5, a.toNat), (5, d.toNat), (8, 0x8)] % 256 = 8 := low_pack [(1, w.toNat), (8, 0x1), (5, b.toNat), (5, a.toNat), (5, d.toNat)] 8 (by decide)
  have hf : pack [(1, w.toNat), (8, 0x1), (5, b.toNat), (5, a.toNat), (5, d.toNat), (8, 0x8)] / 2 ^ 23 % 2 ^ 8 = 1 :=
    seg_pack [(1, w.toNat)] 8 1 [(5, b.toNat), (5, a.toNat), (5, d.toNat), (8, 0x8)] ⟨by decide, b.isLt, a.isLt, d.isLt, by decide, trivial⟩
  have h0 : fld (pack [(1, w.toNat), (8, 0x1), (5, b.toNat), (5, a.toNat), (5, d.toNat), (8, 0x8)]) 31 1 = w :=
    fld_pack [] 1 w [(8, 0x1), (5, b.toNat), (5, a.toNat), (5, d.toNat), (8, 0x8)] ⟨by decide, b.isLt, a.isLt, d.isLt, by decide, trivial⟩
  have h1 : fld (pack [(1, w.toNat), (8, 0x1), (5, b.toNat), (5, a.toNat), (5, d.toNat), (8, 0x8)]) 18 5 = b :=
    fld_pack [(1, w.toNat), (8, 0x1)] 5 b [(5, a.toNat), (5, d.toNat), (8, 0x8)] ⟨a.isLt, d.isLt, by decide, trivial⟩
  have h2 : fld (pack [(1, w.toNat), (8, 0x1), (5, b.toNat), (5, a.toNat), (5, d.toNat), (8, 0x8)]) 13 5 = a :=
    fld_pack [(1, w.toNat), (8, 0x1), (5, b.toNat)] 5 a [(5, d.toNat), (8, 0x8)] ⟨d.isLt, by decide, trivial⟩
  have h3 : fld (pack [(1, w.toNat), (8, 0x1), (5, b.toNat), (5, a.toNat), (5, d.toNat), (8, 0x8)]) 8 5 = d :=
    fld_pack [(1, w.toNat), (8, 0x1), (5, b.toNat), (5, a.toNat)] 5 d [(8, 0x8)] ⟨by decide, trivial⟩
  exact bytes_one _ (pack [(1, w.toNat), (8, 0x1), (5, b.toNat), (5, a.toNat), (5, d.toNat), (8, 0x8)]) rfl (pack_lt _ ⟨w.isLt, by decide, b.isLt, a.isLt, d.isLt, by decide, trivial⟩) 8 hl (by decide)
    (fun _ => (loose_08 _ _ hl).trans ((decode08_1 _ hf).trans (by rw [h0, h1, h2, h3]))) rest
theorem RoundTrip.mulhu (w : BitVec 1) (b : BitVec 5) (a : BitVec 5) (d : BitVec 5) : RoundTrip.Statement (.mulhu w b a d) := by
  intro _ rest
  have hl : pack [(1, w.toNat), (8, 0x2), (5, b.toNat), (5, a.toNat), (5, d.toNat), (8, 0x8)] % 256 = 8 := low_pack [(1, w.toNat), (8, 0x2), (5, b.toNat), (5, a.toNat), (5, d.toNat)] 8 (by decide)
  have hf : pack [(1, w.toNat), (8, 0x2), (5, b.toNat), (5, a.toNat), (5, d.toNat), (8, 0x8)] / 2 ^ 23 % 2 ^ 8 = 2 :=
    seg_pack [(1, w.toNat)] 8 2 [(5, b.toNat), (5, a.toNat), (5, d.toNat), (8, 0x8)] ⟨by decide, b.isLt, a.isLt, d.isLt, by decide, trivial⟩
  have h0 : fld (pack [(1, w.toNat), (8, 0x2), (5, b.toNat), (5, a.toNat), (5, d.toNat), (8, 0x8)]) 31 1 = w :=
    fld_pack [] 1 w [(8, 0x2), (5, b.toNat), (5, a.toNat), (5, d.toNat), (8, 0x8)] ⟨by decide, b.isLt, a.isLt, d.isLt, by decide, trivial⟩
  have h1 : fld (pack [(1, w.toNat), (8, 0x2), (5, b.toNat), (5, a.toNat), (5, d.toNat), (8, 0x8)]) 18 5 = b :=
    fld_pack [(1, w.toNat), (8, 0x2)] 5 b [(5, a.toNat), (5, d.toNat), (8, 0x8)] ⟨a.isLt, d.isLt, by decide, trivial⟩
  have h2 : fld (pack [(1, w.toNat), (8, 0x2), (5, b.toNat), (5, a.toNat), (5, d.toNat), (8, 0x8)]) 13 5 = a :=
    fld_pack [(1, w.toNat), (8, 0x2), (5, b.toNat)] 5 a [(5, d.toNat), (8, 0x8)] ⟨d.isLt, by decide, trivial⟩
  have h3 : fld (pack [(1, w.toNat), (8, 0x2), (5, b.toNat), (5, a.toNat), (5, d.toNat), (8, 0x8)]) 8 5 = d :=
    fld_pack [(1, w.toNat), (8, 0x2), (5, b.toNat), (5, a.toNat)] 5 d [(8, 0x8)] ⟨by decide, trivial⟩
  exact bytes_one _ (pack [(1, w.toNat), (8, 0x2), (5, b.toNat), (5, a.toNat), (5, d.toNat), (8, 0x8)]) rfl (pack_lt _ ⟨w.isLt, by decide, b.isLt, a.isLt, d.isLt, by decide, trivial⟩) 8 hl (by decide)
    (fun _ => (loose_08 _ _ hl).trans ((decode08_2 _ hf).trans (by rw [h0, h1, h2, h3]))) rest
theorem RoundTrip.div (w : BitVec 1) (b : BitVec 5) (a : BitVec 5) (d : BitVec 5) : RoundTrip.Statement (.div w b a d) := by
  intro _ rest
  have hl : pack [(1, w.toNat), (8, 0x3), (5, b.toNat), (5, a.toNat), (5, d.toNat), (8, 0x8)] % 256 = 8 := low_pack [(1, w.toNat), (8, 0x3), (5, b.toNat), (5, a.toNat), (5, d.toNat)] 8 (by decide)
  have hf : pack [(1, w.toNat), (8, 0x3), (5, b.toNat), (5, a.toNat), (5, d.toNat), (8, 0x8)] / 2 ^ 23 % 2 ^ 8 = 3 :=
    seg_pack [(1, w.toNat)] 8 3 [(5, b.toNat), (5, a.toNat), (5, d.toNat), (8, 0x8)] ⟨by decide, b.isLt, a.isLt, d.isLt, by decide, trivial⟩
  have h0 : fld (pack [(1, w.toNat), (8, 0x3), (5, b.toNat), (5, a.toNat), (5, d.toNat), (8, 0x8)]) 31 1 = w :=
    fld_pack [] 1 w [(8, 0x3), (5, b.toNat), (5, a.toNat), (5, d.toNat), (8, 0x8)] ⟨by decide, b.isLt, a.isLt, d.isLt, by decide, trivial⟩
  have h1 : fld (pack [(1, w.toNat), (8, 0x3), (5, b.toNat), (5, a.toNat), (5, d.toNat), (8, 0x8)]) 18 5 = b :=
    fld_pack [(1, w.toNat), (8, 0x3)] 5 b [(5, a.toNat), (5, d.toNat), (8, 0x8)] ⟨a.isLt, d.isLt, by decide, trivial⟩
  have h2 : fld (pack [(1, w.toNat), (8, 0x3), (5, b.toNat), (5, a.toNat), (5, d.toNat), (8, 0x8)]) 13 5 = a :=
    fld_pack [(1, w.toNat), (8, 0x3), (5, b.toNat)] 5 a [(5, d.toNat), (8, 0x8)] ⟨d.isLt, by decide, trivial⟩
  have h3 : fld (pack [(1, w.toNat), (8, 0x3), (5, b.toNat), (5, a.toNat), (5, d.toNat), (8, 0x8)]) 8 5 = d :=
    fld_pack [(1, w.toNat), (8, 0x3), (5, b.toNat), (5, a.toNat)] 5 d [(8, 0x8)] ⟨by decide, trivial⟩
  exact bytes_one _ (pack [(1, w.toNat), (8, 0x3), (5, b.toNat), (5, a.toNat), (5, d.toNat), (8, 0x8)]) rfl (pack_lt _ ⟨w.isLt, by decide, b.isLt, a.isLt, d.isLt, by decide, trivial⟩) 8 hl (by decide)
    (fun _ => (loose_08 _ _ hl).trans ((decode08_3 _ hf).trans (by rw [h0, h1, h2, h3]))) rest
theorem RoundTrip.divu (w : BitVec 1) (b : BitVec 5) (a : BitVec 5) (d : BitVec 5) : RoundTrip.Statement (.divu w b a d) := by
  intro _ rest
  have hl : pack [(1, w.toNat), (8, 0x4), (5, b.toNat), (5, a.toNat), (5, d.toNat), (8, 0x8)] % 256 = 8 := low_pack [(1, w.toNat), (8, 0x4), (5, b.toNat), (5, a.toNat), (5, d.toNat)] 8 (by decide)
  have hf : pack [(1, w.toNat), (8, 0x4), (5, b.toNat), (5, a.toNat), (5, d.toNat), (8, 0x8)] / 2 ^ 23 % 2 ^ 8 = 4 :=
    seg_pack [(1, w.toNat)] 8 4 [(5, b.toNat), (5, a.toNat), (5, d.toNat), (8, 0x8)] ⟨by decide, b.isLt, a.isLt, d.isLt, by decide, trivial⟩
  have h0 : fld (pack [(1, w.toNat), (8, 0x4), (5, b.toNat), (5, a.toNat), (5, d.toNat), (8, 0x8)]) 31 1 = w :=
    fld_pack [] 1 w [(8, 0x4), (5, b.toNat), (5, a.toNat), (5, d.toNat), (8, 0x8)] ⟨by decide, b.isLt, a.isLt, d.isLt, by decide, trivial⟩
  have h1 : fld (pack [(1, w.toNat), (8, 0x4), (5, b.toNat), (5, a.toNat), (5, d.toNat), (8, 0x8)]) 18 5 = b :=
    fld_pack [(1, w.toNat), (8, 0x4)] 5 b [(5, a.toNat), (5, d.toNat), (8, 0x8)] ⟨a.isLt, d.isLt, by decide, trivial⟩
  have h2 : fld (pack [(1, w.toNat), (8, 0x4), (5, b.toNat), (5, a.toNat), (5, d.toNat), (8, 0x8)]) 13 5 = a :=
    fld_pack [(1, w.toNat), (8, 0x4), (5, b.toNat)] 5 a [(5, d.toNat), (8, 0x8)] ⟨d.isLt, by decide, trivial⟩
  have h3 : fld (pack [(1, w.toNat), (8, 0x4), (5, b.toNat), (5, a.toNat), (5, d.toNat), (8, 0x8)]) 8 5 = d :=
    fld_pack [(1, w.toNat), (8, 0x4), (5, b.toNat), (5, a.toNat)] 5 d [(8, 0x8)] ⟨by decide, trivial⟩
  exact bytes_one _ (pack [(1, w.toNat), (8, 0x4), (5, b.toNat), (5, a.toNat), (5, d.toNat), (8, 0x8)]) rfl (pack_lt _ ⟨w.isLt, by decide, b.isLt, a.isLt, d.isLt, by decide, trivial⟩) 8 hl (by decide)
    (fun _ => (loose_08 _ _ hl).trans ((decode08_4 _ hf).trans (by rw [h0, h1, h2, h3]))) rest
theorem RoundTrip.rem (w : BitVec 1) (b : BitVec 5) (a : BitVec 5) (d : BitVec 5) : RoundTrip.Statement (.rem w b a d) := by
  intro _ rest
  have hl : pack [(1, w.toNat), (8, 0x5), (5, b.toNat), (5, a.toNat), (5, d.toNat), (8, 0x8)] % 256 = 8 := low_pack [(1, w.toNat), (8, 0x5), (5, b.toNat), (5, a.toNat), (5, d.toNat)] 8 (by decide)
  have hf : pack [(1, w.toNat), (8, 0x5), (5, b.toNat), (5, a.toNat), (5, d.toNat), (8, 0x8)] / 2 ^ 23 % 2 ^ 8 = 5 :=
    seg_pack [(1, w.toNat)] 8 5 [(5, b.toNat), (5, a.toNat), (5, d.toNat), (8, 0x8)] ⟨by decide, b.isLt, a.isLt, d.isLt, by decide, trivial⟩
  have h0 : fld (pack [(1, w.toNat), (8, 0x5), (5, b.toNat), (5, a.toNat), (5, d.toNat), (8, 0x8)]) 31 1 = w :=
    fld_pack [] 1 w [(8, 0x5), (5, b.toNat), (5, a.toNat), (5, d.toNat), (8, 0x8)] ⟨by decide, b.isLt, a.isLt, d.isLt, by decide, trivial⟩
  have h1 : fld (pack [(1, w.toNat), (8, 0x5), (5, b.toNat), (5, a.toNat), (5, d.toNat), (8, 0x8)]) 18 5 = b :=
    fld_pack [(1, w.toNat), (8, 0x5)] 5 b [(5, a.toNat), (5, d.toNat), (8, 0x8)] ⟨a.isLt, d.isLt, by decide, trivial⟩
  have h2 : fld (pack [(1, w.toNat), (8, 0x5), (5, b.toNat), (5, a.toNat), (5, d.toNat), (8, 0x8)]) 13 5 = a :=
    fld_pack [(1, w.toNat), (8, 0x5), (5, b.toNat)] 5 a [(5, d.toNat), (8, 0x8)] ⟨d.isLt, by decide, trivial⟩
  have h3 : fld (pack [(1, w.toNat), (8, 0x5), (5, b.toNat), (5, a.toNat), (5, d.toNat), (8, 0x8)]) 8 5 = d :=
    fld_pack [(1, w.toNat), (8, 0x5), (5, b.toNat), (5, a.toNat)] 5 d [(8, 0x8)] ⟨by decide, trivial⟩
  exact bytes_one _ (pack [(1, w.toNat), (8, 0x5), (5, b.toNat), (5, a.toNat), (5, d.toNat), (8, 0x8)]) rfl (pack_lt _ ⟨w.isLt, by decide, b.isLt, a.isLt, d.isLt, by decide, trivial⟩) 8 hl (by decide)
    (fun _ => (loose_08 _ _ hl).trans ((decode08_5 _ hf).trans (by rw [h0, h1, h2, h3]))) rest
theorem RoundTrip.remu (w : BitVec 1) (b : BitVec 5) (a : BitVec 5) (d : BitVec 5) : RoundTrip.Statement (.remu w b a d) := by
  intro _ rest
  have hl : pack [(1, w.toNat), (8, 0x6), (5, b.toNat), (5, a.toNat), (5, d.toNat), (8, 0x8)] % 256 = 8 := low_pack [(1, w.toNat), (8, 0x6), (5, b.toNat), (5, a.toNat), (5, d.toNat)] 8 (by decide)
  have hf : pack [(1, w.toNat), (8, 0x6), (5, b.toNat), (5, a.toNat), (5, d.toNat), (8, 0x8)] / 2 ^ 23 % 2 ^ 8 = 6 :=
    seg_pack [(1, w.toNat)] 8 6 [(5, b.toNat), (5, a.toNat), (5, d.toNat), (8, 0x8)] ⟨by decide, b.isLt, a.isLt, d.isLt, by decide, trivial⟩
  have h0 : fld (pack [(1, w.toNat), (8, 0x6), (5, b.toNat), (5, a.toNat), (5, d.toNat), (8, 0x8)]) 31 1 = w :=
    fld_pack [] 1 w [(8, 0x6), (5, b.toNat), (5, a.toNat), (5, d.toNat), (8, 0x8)] ⟨by decide, b.isLt, a.isLt, d.isLt, by decide, trivial⟩
  have h1 : fld (pack [(1, w.toNat), (8, 0x6), (5, b.toNat), (5, a.toNat), (5, d.toNat), (8, 0x8)]) 18 5 = b :=
    fld_pack [(1, w.toNat), (8, 0x6)] 5 b [(5, a.toNat), (5, d.toNat), (8, 0x8)] ⟨a.isLt, d.isLt, by decide, trivial⟩
  have h2 : fld (pack [(1, w.toNat), (8, 0x6), (5, b.toNat), (5, a.toNat), (5, d.toNat), (8, 0x8)]) 13 5 = a :=
    fld_pack [(1, w.toNat), (8, 0x6), (5, b.toNat)] 5 a [(5, d.toNat), (8, 0x8)] ⟨d.isLt, by decide, trivial⟩
  have h3 : fld (pack [(1, w.toNat), (8, 0x6), (5, b.toNat), (5, a.toNat), (5, d.toNat), (8, 0x8)]) 8 5 = d :=
    fld_pack [(1, w.toNat), (8, 0x6), (5, b.toNat), (5, a.toNat)] 5 d [(8, 0x8)] ⟨by decide, trivial⟩
  exact bytes_one _ (pack [(1, w.toNat), (8, 0x6), (5, b.toNat), (5, a.toNat), (5, d.toNat), (8, 0x8)]) rfl (pack_lt _ ⟨w.isLt, by decide, b.isLt, a.isLt, d.isLt, by decide, trivial⟩) 8 hl (by decide)
    (fun _ => (loose_08 _ _ hl).trans ((decode08_6 _ hf).trans (by rw [h0, h1, h2, h3]))) rest
theorem RoundTrip.clz (w : BitVec 1) (a : BitVec 5) (d : BitVec 5) : RoundTrip.Statement (.clz w a d) := by
  intro _ rest
  have hl : pack [(1, w.toNat), (8, 0), (5, 0), (5, a.toNat), (5, d.toNat), (8, 0xc)] % 256 = 12 := low_pack [(1, w.toNat), (8, 0), (5, 0), (5, a.toNat), (5, d.toNat)] 12 (by decide)
  have hf : pack [(1, w.toNat), (8, 0), (5, 0), (5, a.toNat), (5, d.toNat), (8, 0xc)] / 2 ^ 23 % 2 ^ 8 = 0 :=
    seg_pack [(1, w.toNat)] 8 0 [(5, 0), (5, a.toNat), (5, d.toNat), (8, 0xc)] ⟨by decide, by decide, a.isLt, d.isLt, by decide, trivial⟩
  have h0 : fld (pack [(1, w.toNat), (8, 0), (5, 0), (5, a.toNat), (5, d.toNat), (8, 0xc)]) 31 1 = w :=
    fld_pack [] 1 w [(8, 0), (5, 0), (5, a.toNat), (5, d.toNat), (8, 0xc)] ⟨by decide, by decide, a.isLt, d.isLt, by decide, trivial⟩
  have h1 : fld (pack [(1, w.toNat), (8, 0), (5, 0), (5, a.toNat), (5, d.toNat), (8, 0xc)]) 13 5 = a :=
    fld_pack [(1, w.toNat), (8, 0), (5, 0)] 5 a [(5, d.toNat), (8, 0xc)] ⟨d.isLt, by decide, trivial⟩
  have h2 : fld (pack [(1, w.toNat), (8, 0), (5, 0), (5, a.toNat), (5, d.toNat), (8, 0xc)]) 8 5 = d :=
    fld_pack [(1, w.toNat), (8, 0), (5, 0), (5, a.toNat)] 5 d [(8, 0xc)] ⟨by decide, trivial⟩
  exact bytes_one _ (pack [(1, w.toNat), (8, 0), (5, 0), (5, a.toNat), (5, d.toNat), (8, 0xc)]) rfl (pack_lt _ ⟨w.isLt, by decide, by decide, a.isLt, d.isLt, by decide, trivial⟩) 12 hl (by decide)
    (fun _ => (loose_0C _ _ hl).trans ((decode0C_0 _ hf).trans (by rw [h0, h1, h2]))) rest
theorem RoundTrip.ctz (w : BitVec 1) (a : BitVec 5) (d : BitVec 5) : RoundTrip.Statement (.ctz w a d) := by
  intro _ rest
  have hl : pack [(1, w.toNat), (8, 0x1), (5, 0), (5, a.toNat), (5, d.toNat), (8, 0xc)] % 256 = 12 := low_pack [(1, w.toNat), (8, 0x1), (5, 0), (5, a.toNat), (5, d.toNat)] 12 (by decide)
  have hf : pack [(1, w.toNat), (8, 0x1), (5, 0), (5, a.toNat), (5, d.toNat), (8, 0xc)] / 2 ^ 23 % 2 ^ 8 = 1 :=
    seg_pack [(1, w.toNat)] 8 1 [(5, 0), (5, a.toNat), (5, d.toNat), (8, 0xc)] ⟨by decide, by decide, a.isLt, d.isLt, by decide, trivial⟩
  have h0 : fld (pack [(1, w.toNat), (8, 0x1), (5, 0), (5, a.toNat), (5, d.toNat), (8, 0xc)]) 31 1 = w :=
    fld_pack [] 1 w [(8, 0x1), (5, 0), (5, a.toNat), (5, d.toNat), (8, 0xc)] ⟨by decide, by decide, a.isLt, d.isLt, by decide, trivial⟩
  have h1 : fld (pack [(1, w.toNat), (8, 0x1), (5, 0), (5, a.toNat), (5, d.toNat), (8, 0xc)]) 13 5 = a :=
    fld_pack [(1, w.toNat), (8, 0x1), (5, 0)] 5 a [(5, d.toNat), (8, 0xc)] ⟨d.isLt, by decide, trivial⟩
  have h2 : fld (pack [(1, w.toNat), (8, 0x1), (5, 0), (5, a.toNat), (5, d.toNat), (8, 0xc)]) 8 5 = d :=
    fld_pack [(1, w.toNat), (8, 0x1), (5, 0), (5, a.toNat)] 5 d [(8, 0xc)] ⟨by decide, trivial⟩
  exact bytes_one _ (pack [(1, w.toNat), (8, 0x1), (5, 0), (5, a.toNat), (5, d.toNat), (8, 0xc)]) rfl (pack_lt _ ⟨w.isLt, by decide, by decide, a.isLt, d.isLt, by decide, trivial⟩) 12 hl (by decide)
    (fun _ => (loose_0C _ _ hl).trans ((decode0C_1 _ hf).trans (by rw [h0, h1, h2]))) rest
theorem RoundTrip.popc (w : BitVec 1) (a : BitVec 5) (d : BitVec 5) : RoundTrip.Statement (.popc w a d) := by
  intro _ rest
  have hl : pack [(1, w.toNat), (8, 0x2), (5, 0), (5, a.toNat), (5, d.toNat), (8, 0xc)] % 256 = 12 := low_pack [(1, w.toNat), (8, 0x2), (5, 0), (5, a.toNat), (5, d.toNat)] 12 (by decide)
  have hf : pack [(1, w.toNat), (8, 0x2), (5, 0), (5, a.toNat), (5, d.toNat), (8, 0xc)] / 2 ^ 23 % 2 ^ 8 = 2 :=
    seg_pack [(1, w.toNat)] 8 2 [(5, 0), (5, a.toNat), (5, d.toNat), (8, 0xc)] ⟨by decide, by decide, a.isLt, d.isLt, by decide, trivial⟩
  have h0 : fld (pack [(1, w.toNat), (8, 0x2), (5, 0), (5, a.toNat), (5, d.toNat), (8, 0xc)]) 31 1 = w :=
    fld_pack [] 1 w [(8, 0x2), (5, 0), (5, a.toNat), (5, d.toNat), (8, 0xc)] ⟨by decide, by decide, a.isLt, d.isLt, by decide, trivial⟩
  have h1 : fld (pack [(1, w.toNat), (8, 0x2), (5, 0), (5, a.toNat), (5, d.toNat), (8, 0xc)]) 13 5 = a :=
    fld_pack [(1, w.toNat), (8, 0x2), (5, 0)] 5 a [(5, d.toNat), (8, 0xc)] ⟨d.isLt, by decide, trivial⟩
  have h2 : fld (pack [(1, w.toNat), (8, 0x2), (5, 0), (5, a.toNat), (5, d.toNat), (8, 0xc)]) 8 5 = d :=
    fld_pack [(1, w.toNat), (8, 0x2), (5, 0), (5, a.toNat)] 5 d [(8, 0xc)] ⟨by decide, trivial⟩
  exact bytes_one _ (pack [(1, w.toNat), (8, 0x2), (5, 0), (5, a.toNat), (5, d.toNat), (8, 0xc)]) rfl (pack_lt _ ⟨w.isLt, by decide, by decide, a.isLt, d.isLt, by decide, trivial⟩) 12 hl (by decide)
    (fun _ => (loose_0C _ _ hl).trans ((decode0C_2 _ hf).trans (by rw [h0, h1, h2]))) rest
theorem RoundTrip.brev (w : BitVec 1) (a : BitVec 5) (d : BitVec 5) : RoundTrip.Statement (.brev w a d) := by
  intro _ rest
  have hl : pack [(1, w.toNat), (8, 0x3), (5, 0), (5, a.toNat), (5, d.toNat), (8, 0xc)] % 256 = 12 := low_pack [(1, w.toNat), (8, 0x3), (5, 0), (5, a.toNat), (5, d.toNat)] 12 (by decide)
  have hf : pack [(1, w.toNat), (8, 0x3), (5, 0), (5, a.toNat), (5, d.toNat), (8, 0xc)] / 2 ^ 23 % 2 ^ 8 = 3 :=
    seg_pack [(1, w.toNat)] 8 3 [(5, 0), (5, a.toNat), (5, d.toNat), (8, 0xc)] ⟨by decide, by decide, a.isLt, d.isLt, by decide, trivial⟩
  have h0 : fld (pack [(1, w.toNat), (8, 0x3), (5, 0), (5, a.toNat), (5, d.toNat), (8, 0xc)]) 31 1 = w :=
    fld_pack [] 1 w [(8, 0x3), (5, 0), (5, a.toNat), (5, d.toNat), (8, 0xc)] ⟨by decide, by decide, a.isLt, d.isLt, by decide, trivial⟩
  have h1 : fld (pack [(1, w.toNat), (8, 0x3), (5, 0), (5, a.toNat), (5, d.toNat), (8, 0xc)]) 13 5 = a :=
    fld_pack [(1, w.toNat), (8, 0x3), (5, 0)] 5 a [(5, d.toNat), (8, 0xc)] ⟨d.isLt, by decide, trivial⟩
  have h2 : fld (pack [(1, w.toNat), (8, 0x3), (5, 0), (5, a.toNat), (5, d.toNat), (8, 0xc)]) 8 5 = d :=
    fld_pack [(1, w.toNat), (8, 0x3), (5, 0), (5, a.toNat)] 5 d [(8, 0xc)] ⟨by decide, trivial⟩
  exact bytes_one _ (pack [(1, w.toNat), (8, 0x3), (5, 0), (5, a.toNat), (5, d.toNat), (8, 0xc)]) rfl (pack_lt _ ⟨w.isLt, by decide, by decide, a.isLt, d.isLt, by decide, trivial⟩) 12 hl (by decide)
    (fun _ => (loose_0C _ _ hl).trans ((decode0C_3 _ hf).trans (by rw [h0, h1, h2]))) rest
theorem RoundTrip.bext (w : BitVec 1) (b : BitVec 5) (a : BitVec 5) (d : BitVec 5) : RoundTrip.Statement (.bext w b a d) := by
  intro _ rest
  have hl : pack [(1, w.toNat), (8, 0x4), (5, b.toNat), (5, a.toNat), (5, d.toNat), (8, 0xc)] % 256 = 12 := low_pack [(1, w.toNat), (8, 0x4), (5, b.toNat), (5, a.toNat), (5, d.toNat)] 12 (by decide)
  have hf : pack [(1, w.toNat), (8, 0x4), (5, b.toNat), (5, a.toNat), (5, d.toNat), (8, 0xc)] / 2 ^ 23 % 2 ^ 8 = 4 :=
    seg_pack [(1, w.toNat)] 8 4 [(5, b.toNat), (5, a.toNat), (5, d.toNat), (8, 0xc)] ⟨by decide, b.isLt, a.isLt, d.isLt, by decide, trivial⟩
  have h0 : fld (pack [(1, w.toNat), (8, 0x4), (5, b.toNat), (5, a.toNat), (5, d.toNat), (8, 0xc)]) 31 1 = w :=
    fld_pack [] 1 w [(8, 0x4), (5, b.toNat), (5, a.toNat), (5, d.toNat), (8, 0xc)] ⟨by decide, b.isLt, a.isLt, d.isLt, by decide, trivial⟩
  have h1 : fld (pack [(1, w.toNat), (8, 0x4), (5, b.toNat), (5, a.toNat), (5, d.toNat), (8, 0xc)]) 18 5 = b :=
    fld_pack [(1, w.toNat), (8, 0x4)] 5 b [(5, a.toNat), (5, d.toNat), (8, 0xc)] ⟨a.isLt, d.isLt, by decide, trivial⟩
  have h2 : fld (pack [(1, w.toNat), (8, 0x4), (5, b.toNat), (5, a.toNat), (5, d.toNat), (8, 0xc)]) 13 5 = a :=
    fld_pack [(1, w.toNat), (8, 0x4), (5, b.toNat)] 5 a [(5, d.toNat), (8, 0xc)] ⟨d.isLt, by decide, trivial⟩
  have h3 : fld (pack [(1, w.toNat), (8, 0x4), (5, b.toNat), (5, a.toNat), (5, d.toNat), (8, 0xc)]) 8 5 = d :=
    fld_pack [(1, w.toNat), (8, 0x4), (5, b.toNat), (5, a.toNat)] 5 d [(8, 0xc)] ⟨by decide, trivial⟩
  exact bytes_one _ (pack [(1, w.toNat), (8, 0x4), (5, b.toNat), (5, a.toNat), (5, d.toNat), (8, 0xc)]) rfl (pack_lt _ ⟨w.isLt, by decide, b.isLt, a.isLt, d.isLt, by decide, trivial⟩) 12 hl (by decide)
    (fun _ => (loose_0C _ _ hl).trans ((decode0C_4 _ hf).trans (by rw [h0, h1, h2, h3]))) rest
theorem RoundTrip.bins (w : BitVec 1) (b : BitVec 5) (a : BitVec 5) (d : BitVec 5) : RoundTrip.Statement (.bins w b a d) := by
  intro _ rest
  have hl : pack [(1, w.toNat), (8, 0x5), (5, b.toNat), (5, a.toNat), (5, d.toNat), (8, 0xc)] % 256 = 12 := low_pack [(1, w.toNat), (8, 0x5), (5, b.toNat), (5, a.toNat), (5, d.toNat)] 12 (by decide)
  have hf : pack [(1, w.toNat), (8, 0x5), (5, b.toNat), (5, a.toNat), (5, d.toNat), (8, 0xc)] / 2 ^ 23 % 2 ^ 8 = 5 :=
    seg_pack [(1, w.toNat)] 8 5 [(5, b.toNat), (5, a.toNat), (5, d.toNat), (8, 0xc)] ⟨by decide, b.isLt, a.isLt, d.isLt, by decide, trivial⟩
  have h0 : fld (pack [(1, w.toNat), (8, 0x5), (5, b.toNat), (5, a.toNat), (5, d.toNat), (8, 0xc)]) 31 1 = w :=
    fld_pack [] 1 w [(8, 0x5), (5, b.toNat), (5, a.toNat), (5, d.toNat), (8, 0xc)] ⟨by decide, b.isLt, a.isLt, d.isLt, by decide, trivial⟩
  have h1 : fld (pack [(1, w.toNat), (8, 0x5), (5, b.toNat), (5, a.toNat), (5, d.toNat), (8, 0xc)]) 18 5 = b :=
    fld_pack [(1, w.toNat), (8, 0x5)] 5 b [(5, a.toNat), (5, d.toNat), (8, 0xc)] ⟨a.isLt, d.isLt, by decide, trivial⟩
  have h2 : fld (pack [(1, w.toNat), (8, 0x5), (5, b.toNat), (5, a.toNat), (5, d.toNat), (8, 0xc)]) 13 5 = a :=
    fld_pack [(1, w.toNat), (8, 0x5), (5, b.toNat)] 5 a [(5, d.toNat), (8, 0xc)] ⟨d.isLt, by decide, trivial⟩
  have h3 : fld (pack [(1, w.toNat), (8, 0x5), (5, b.toNat), (5, a.toNat), (5, d.toNat), (8, 0xc)]) 8 5 = d :=
    fld_pack [(1, w.toNat), (8, 0x5), (5, b.toNat), (5, a.toNat)] 5 d [(8, 0xc)] ⟨by decide, trivial⟩
  exact bytes_one _ (pack [(1, w.toNat), (8, 0x5), (5, b.toNat), (5, a.toNat), (5, d.toNat), (8, 0xc)]) rfl (pack_lt _ ⟨w.isLt, by decide, b.isLt, a.isLt, d.isLt, by decide, trivial⟩) 12 hl (by decide)
    (fun _ => (loose_0C _ _ hl).trans ((decode0C_5 _ hf).trans (by rw [h0, h1, h2, h3]))) rest
theorem RoundTrip.sel (w : BitVec 1) (b : BitVec 5) (a : BitVec 5) (d : BitVec 5) : RoundTrip.Statement (.sel w b a d) := by
  intro _ rest
  have hl : pack [(1, w.toNat), (8, 0x6), (5, b.toNat), (5, a.toNat), (5, d.toNat), (8, 0xc)] % 256 = 12 := low_pack [(1, w.toNat), (8, 0x6), (5, b.toNat), (5, a.toNat), (5, d.toNat)] 12 (by decide)
  have hf : pack [(1, w.toNat), (8, 0x6), (5, b.toNat), (5, a.toNat), (5, d.toNat), (8, 0xc)] / 2 ^ 23 % 2 ^ 8 = 6 :=
    seg_pack [(1, w.toNat)] 8 6 [(5, b.toNat), (5, a.toNat), (5, d.toNat), (8, 0xc)] ⟨by decide, b.isLt, a.isLt, d.isLt, by decide, trivial⟩
  have h0 : fld (pack [(1, w.toNat), (8, 0x6), (5, b.toNat), (5, a.toNat), (5, d.toNat), (8, 0xc)]) 31 1 = w :=
    fld_pack [] 1 w [(8, 0x6), (5, b.toNat), (5, a.toNat), (5, d.toNat), (8, 0xc)] ⟨by decide, b.isLt, a.isLt, d.isLt, by decide, trivial⟩
  have h1 : fld (pack [(1, w.toNat), (8, 0x6), (5, b.toNat), (5, a.toNat), (5, d.toNat), (8, 0xc)]) 18 5 = b :=
    fld_pack [(1, w.toNat), (8, 0x6)] 5 b [(5, a.toNat), (5, d.toNat), (8, 0xc)] ⟨a.isLt, d.isLt, by decide, trivial⟩
  have h2 : fld (pack [(1, w.toNat), (8, 0x6), (5, b.toNat), (5, a.toNat), (5, d.toNat), (8, 0xc)]) 13 5 = a :=
    fld_pack [(1, w.toNat), (8, 0x6), (5, b.toNat)] 5 a [(5, d.toNat), (8, 0xc)] ⟨d.isLt, by decide, trivial⟩
  have h3 : fld (pack [(1, w.toNat), (8, 0x6), (5, b.toNat), (5, a.toNat), (5, d.toNat), (8, 0xc)]) 8 5 = d :=
    fld_pack [(1, w.toNat), (8, 0x6), (5, b.toNat), (5, a.toNat)] 5 d [(8, 0xc)] ⟨by decide, trivial⟩
  exact bytes_one _ (pack [(1, w.toNat), (8, 0x6), (5, b.toNat), (5, a.toNat), (5, d.toNat), (8, 0xc)]) rfl (pack_lt _ ⟨w.isLt, by decide, b.isLt, a.isLt, d.isLt, by decide, trivial⟩) 12 hl (by decide)
    (fun _ => (loose_0C _ _ hl).trans ((decode0C_6 _ hf).trans (by rw [h0, h1, h2, h3]))) rest
theorem RoundTrip.addi (i : BitVec 14) (a : BitVec 5) (d : BitVec 5) : RoundTrip.Statement (.addi i a d) := by
  intro _ rest
  have hl : pack [(14, i.toNat), (5, a.toNat), (5, d.toNat), (8, 0x10)] % 256 = 16 := low_pack [(14, i.toNat), (5, a.toNat), (5, d.toNat)] 16 (by decide)
  have h0 : fld (pack [(14, i.toNat), (5, a.toNat), (5, d.toNat), (8, 0x10)]) 18 14 = i :=
    fld_pack [] 14 i [(5, a.toNat), (5, d.toNat), (8, 0x10)] ⟨a.isLt, d.isLt, by decide, trivial⟩
  have h1 : fld (pack [(14, i.toNat), (5, a.toNat), (5, d.toNat), (8, 0x10)]) 13 5 = a :=
    fld_pack [(14, i.toNat)] 5 a [(5, d.toNat), (8, 0x10)] ⟨d.isLt, by decide, trivial⟩
  have h2 : fld (pack [(14, i.toNat), (5, a.toNat), (5, d.toNat), (8, 0x10)]) 8 5 = d :=
    fld_pack [(14, i.toNat), (5, a.toNat)] 5 d [(8, 0x10)] ⟨by decide, trivial⟩
  exact bytes_one _ (pack [(14, i.toNat), (5, a.toNat), (5, d.toNat), (8, 0x10)]) rfl (pack_lt _ ⟨i.isLt, a.isLt, d.isLt, by decide, trivial⟩) 16 hl (by decide)
    (fun _ => (loose_10 _ _ hl).trans (by rw [h0, h1, h2])) rest
theorem RoundTrip.andi (i : BitVec 14) (a : BitVec 5) (d : BitVec 5) : RoundTrip.Statement (.andi i a d) := by
  intro _ rest
  have hl : pack [(14, i.toNat), (5, a.toNat), (5, d.toNat), (8, 0x14)] % 256 = 20 := low_pack [(14, i.toNat), (5, a.toNat), (5, d.toNat)] 20 (by decide)
  have h0 : fld (pack [(14, i.toNat), (5, a.toNat), (5, d.toNat), (8, 0x14)]) 18 14 = i :=
    fld_pack [] 14 i [(5, a.toNat), (5, d.toNat), (8, 0x14)] ⟨a.isLt, d.isLt, by decide, trivial⟩
  have h1 : fld (pack [(14, i.toNat), (5, a.toNat), (5, d.toNat), (8, 0x14)]) 13 5 = a :=
    fld_pack [(14, i.toNat)] 5 a [(5, d.toNat), (8, 0x14)] ⟨d.isLt, by decide, trivial⟩
  have h2 : fld (pack [(14, i.toNat), (5, a.toNat), (5, d.toNat), (8, 0x14)]) 8 5 = d :=
    fld_pack [(14, i.toNat), (5, a.toNat)] 5 d [(8, 0x14)] ⟨by decide, trivial⟩
  exact bytes_one _ (pack [(14, i.toNat), (5, a.toNat), (5, d.toNat), (8, 0x14)]) rfl (pack_lt _ ⟨i.isLt, a.isLt, d.isLt, by decide, trivial⟩) 20 hl (by decide)
    (fun _ => (loose_14 _ _ hl).trans (by rw [h0, h1, h2])) rest
theorem RoundTrip.ori (i : BitVec 14) (a : BitVec 5) (d : BitVec 5) : RoundTrip.Statement (.ori i a d) := by
  intro _ rest
  have hl : pack [(14, i.toNat), (5, a.toNat), (5, d.toNat), (8, 0x18)] % 256 = 24 := low_pack [(14, i.toNat), (5, a.toNat), (5, d.toNat)] 24 (by decide)
  have h0 : fld (pack [(14, i.toNat), (5, a.toNat), (5, d.toNat), (8, 0x18)]) 18 14 = i :=
    fld_pack [] 14 i [(5, a.toNat), (5, d.toNat), (8, 0x18)] ⟨a.isLt, d.isLt, by decide, trivial⟩
  have h1 : fld (pack [(14, i.toNat), (5, a.toNat), (5, d.toNat), (8, 0x18)]) 13 5 = a :=
    fld_pack [(14, i.toNat)] 5 a [(5, d.toNat), (8, 0x18)] ⟨d.isLt, by decide, trivial⟩
  have h2 : fld (pack [(14, i.toNat), (5, a.toNat), (5, d.toNat), (8, 0x18)]) 8 5 = d :=
    fld_pack [(14, i.toNat), (5, a.toNat)] 5 d [(8, 0x18)] ⟨by decide, trivial⟩
  exact bytes_one _ (pack [(14, i.toNat), (5, a.toNat), (5, d.toNat), (8, 0x18)]) rfl (pack_lt _ ⟨i.isLt, a.isLt, d.isLt, by decide, trivial⟩) 24 hl (by decide)
    (fun _ => (loose_18 _ _ hl).trans (by rw [h0, h1, h2])) rest
theorem RoundTrip.xori (i : BitVec 14) (a : BitVec 5) (d : BitVec 5) : RoundTrip.Statement (.xori i a d) := by
  intro _ rest
  have hl : pack [(14, i.toNat), (5, a.toNat), (5, d.toNat), (8, 0x1c)] % 256 = 28 := low_pack [(14, i.toNat), (5, a.toNat), (5, d.toNat)] 28 (by decide)
  have h0 : fld (pack [(14, i.toNat), (5, a.toNat), (5, d.toNat), (8, 0x1c)]) 18 14 = i :=
    fld_pack [] 14 i [(5, a.toNat), (5, d.toNat), (8, 0x1c)] ⟨a.isLt, d.isLt, by decide, trivial⟩
  have h1 : fld (pack [(14, i.toNat), (5, a.toNat), (5, d.toNat), (8, 0x1c)]) 13 5 = a :=
    fld_pack [(14, i.toNat)] 5 a [(5, d.toNat), (8, 0x1c)] ⟨d.isLt, by decide, trivial⟩
  have h2 : fld (pack [(14, i.toNat), (5, a.toNat), (5, d.toNat), (8, 0x1c)]) 8 5 = d :=
    fld_pack [(14, i.toNat), (5, a.toNat)] 5 d [(8, 0x1c)] ⟨by decide, trivial⟩
  exact bytes_one _ (pack [(14, i.toNat), (5, a.toNat), (5, d.toNat), (8, 0x1c)]) rfl (pack_lt _ ⟨i.isLt, a.isLt, d.isLt, by decide, trivial⟩) 28 hl (by decide)
    (fun _ => (loose_1C _ _ hl).trans (by rw [h0, h1, h2])) rest
theorem RoundTrip.slti (i : BitVec 14) (a : BitVec 5) (d : BitVec 5) : RoundTrip.Statement (.slti i a d) := by
  intro _ rest
  have hl : pack [(14, i.toNat), (5, a.toNat), (5, d.toNat), (8, 0x20)] % 256 = 32 := low_pack [(14, i.toNat), (5, a.toNat), (5, d.toNat)] 32 (by decide)
  have h0 : fld (pack [(14, i.toNat), (5, a.toNat), (5, d.toNat), (8, 0x20)]) 18 14 = i :=
    fld_pack [] 14 i [(5, a.toNat), (5, d.toNat), (8, 0x20)] ⟨a.isLt, d.isLt, by decide, trivial⟩
  have h1 : fld (pack [(14, i.toNat), (5, a.toNat), (5, d.toNat), (8, 0x20)]) 13 5 = a :=
    fld_pack [(14, i.toNat)] 5 a [(5, d.toNat), (8, 0x20)] ⟨d.isLt, by decide, trivial⟩
  have h2 : fld (pack [(14, i.toNat), (5, a.toNat), (5, d.toNat), (8, 0x20)]) 8 5 = d :=
    fld_pack [(14, i.toNat), (5, a.toNat)] 5 d [(8, 0x20)] ⟨by decide, trivial⟩
  exact bytes_one _ (pack [(14, i.toNat), (5, a.toNat), (5, d.toNat), (8, 0x20)]) rfl (pack_lt _ ⟨i.isLt, a.isLt, d.isLt, by decide, trivial⟩) 32 hl (by decide)
    (fun _ => (loose_20 _ _ hl).trans (by rw [h0, h1, h2])) rest
theorem RoundTrip.sltui (i : BitVec 14) (a : BitVec 5) (d : BitVec 5) : RoundTrip.Statement (.sltui i a d) := by
  intro _ rest
  have hl : pack [(14, i.toNat), (5, a.toNat), (5, d.toNat), (8, 0x24)] % 256 = 36 := low_pack [(14, i.toNat), (5, a.toNat), (5, d.toNat)] 36 (by decide)
  have h0 : fld (pack [(14, i.toNat), (5, a.toNat), (5, d.toNat), (8, 0x24)]) 18 14 = i :=
    fld_pack [] 14 i [(5, a.toNat), (5, d.toNat), (8, 0x24)] ⟨a.isLt, d.isLt, by decide, trivial⟩
  have h1 : fld (pack [(14, i.toNat), (5, a.toNat), (5, d.toNat), (8, 0x24)]) 13 5 = a :=
    fld_pack [(14, i.toNat)] 5 a [(5, d.toNat), (8, 0x24)] ⟨d.isLt, by decide, trivial⟩
  have h2 : fld (pack [(14, i.toNat), (5, a.toNat), (5, d.toNat), (8, 0x24)]) 8 5 = d :=
    fld_pack [(14, i.toNat), (5, a.toNat)] 5 d [(8, 0x24)] ⟨by decide, trivial⟩
  exact bytes_one _ (pack [(14, i.toNat), (5, a.toNat), (5, d.toNat), (8, 0x24)]) rfl (pack_lt _ ⟨i.isLt, a.isLt, d.isLt, by decide, trivial⟩) 36 hl (by decide)
    (fun _ => (loose_24 _ _ hl).trans (by rw [h0, h1, h2])) rest
theorem RoundTrip.shli (i : BitVec 14) (a : BitVec 5) (d : BitVec 5) : RoundTrip.Statement (.shli i a d) := by
  intro _ rest
  have hl : pack [(14, i.toNat), (5, a.toNat), (5, d.toNat), (8, 0x28)] % 256 = 40 := low_pack [(14, i.toNat), (5, a.toNat), (5, d.toNat)] 40 (by decide)
  have h0 : fld (pack [(14, i.toNat), (5, a.toNat), (5, d.toNat), (8, 0x28)]) 18 14 = i :=
    fld_pack [] 14 i [(5, a.toNat), (5, d.toNat), (8, 0x28)] ⟨a.isLt, d.isLt, by decide, trivial⟩
  have h1 : fld (pack [(14, i.toNat), (5, a.toNat), (5, d.toNat), (8, 0x28)]) 13 5 = a :=
    fld_pack [(14, i.toNat)] 5 a [(5, d.toNat), (8, 0x28)] ⟨d.isLt, by decide, trivial⟩
  have h2 : fld (pack [(14, i.toNat), (5, a.toNat), (5, d.toNat), (8, 0x28)]) 8 5 = d :=
    fld_pack [(14, i.toNat), (5, a.toNat)] 5 d [(8, 0x28)] ⟨by decide, trivial⟩
  exact bytes_one _ (pack [(14, i.toNat), (5, a.toNat), (5, d.toNat), (8, 0x28)]) rfl (pack_lt _ ⟨i.isLt, a.isLt, d.isLt, by decide, trivial⟩) 40 hl (by decide)
    (fun _ => (loose_28 _ _ hl).trans (by rw [h0, h1, h2])) rest
theorem RoundTrip.shri (i : BitVec 14) (a : BitVec 5) (d : BitVec 5) : RoundTrip.Statement (.shri i a d) := by
  intro _ rest
  have hl : pack [(14, i.toNat), (5, a.toNat), (5, d.toNat), (8, 0x2c)] % 256 = 44 := low_pack [(14, i.toNat), (5, a.toNat), (5, d.toNat)] 44 (by decide)
  have h0 : fld (pack [(14, i.toNat), (5, a.toNat), (5, d.toNat), (8, 0x2c)]) 18 14 = i :=
    fld_pack [] 14 i [(5, a.toNat), (5, d.toNat), (8, 0x2c)] ⟨a.isLt, d.isLt, by decide, trivial⟩
  have h1 : fld (pack [(14, i.toNat), (5, a.toNat), (5, d.toNat), (8, 0x2c)]) 13 5 = a :=
    fld_pack [(14, i.toNat)] 5 a [(5, d.toNat), (8, 0x2c)] ⟨d.isLt, by decide, trivial⟩
  have h2 : fld (pack [(14, i.toNat), (5, a.toNat), (5, d.toNat), (8, 0x2c)]) 8 5 = d :=
    fld_pack [(14, i.toNat), (5, a.toNat)] 5 d [(8, 0x2c)] ⟨by decide, trivial⟩
  exact bytes_one _ (pack [(14, i.toNat), (5, a.toNat), (5, d.toNat), (8, 0x2c)]) rfl (pack_lt _ ⟨i.isLt, a.isLt, d.isLt, by decide, trivial⟩) 44 hl (by decide)
    (fun _ => (loose_2C _ _ hl).trans (by rw [h0, h1, h2])) rest
theorem RoundTrip.sari (i : BitVec 14) (a : BitVec 5) (d : BitVec 5) : RoundTrip.Statement (.sari i a d) := by
  intro _ rest
  have hl : pack [(14, i.toNat), (5, a.toNat), (5, d.toNat), (8, 0x30)] % 256 = 48 := low_pack [(14, i.toNat), (5, a.toNat), (5, d.toNat)] 48 (by decide)
  have h0 : fld (pack [(14, i.toNat), (5, a.toNat), (5, d.toNat), (8, 0x30)]) 18 14 = i :=
    fld_pack [] 14 i [(5, a.toNat), (5, d.toNat), (8, 0x30)] ⟨a.isLt, d.isLt, by decide, trivial⟩
  have h1 : fld (pack [(14, i.toNat), (5, a.toNat), (5, d.toNat), (8, 0x30)]) 13 5 = a :=
    fld_pack [(14, i.toNat)] 5 a [(5, d.toNat), (8, 0x30)] ⟨d.isLt, by decide, trivial⟩
  have h2 : fld (pack [(14, i.toNat), (5, a.toNat), (5, d.toNat), (8, 0x30)]) 8 5 = d :=
    fld_pack [(14, i.toNat), (5, a.toNat)] 5 d [(8, 0x30)] ⟨by decide, trivial⟩
  exact bytes_one _ (pack [(14, i.toNat), (5, a.toNat), (5, d.toNat), (8, 0x30)]) rfl (pack_lt _ ⟨i.isLt, a.isLt, d.isLt, by decide, trivial⟩) 48 hl (by decide)
    (fun _ => (loose_30 _ _ hl).trans (by rw [h0, h1, h2])) rest
theorem RoundTrip.lih (i : BitVec 14) (a : BitVec 5) (d : BitVec 5) : RoundTrip.Statement (.lih i a d) := by
  intro _ rest
  have hl : pack [(14, i.toNat), (5, a.toNat), (5, d.toNat), (8, 0x34)] % 256 = 52 := low_pack [(14, i.toNat), (5, a.toNat), (5, d.toNat)] 52 (by decide)
  have h0 : fld (pack [(14, i.toNat), (5, a.toNat), (5, d.toNat), (8, 0x34)]) 18 14 = i :=
    fld_pack [] 14 i [(5, a.toNat), (5, d.toNat), (8, 0x34)] ⟨a.isLt, d.isLt, by decide, trivial⟩
  have h1 : fld (pack [(14, i.toNat), (5, a.toNat), (5, d.toNat), (8, 0x34)]) 13 5 = a :=
    fld_pack [(14, i.toNat)] 5 a [(5, d.toNat), (8, 0x34)] ⟨d.isLt, by decide, trivial⟩
  have h2 : fld (pack [(14, i.toNat), (5, a.toNat), (5, d.toNat), (8, 0x34)]) 8 5 = d :=
    fld_pack [(14, i.toNat), (5, a.toNat)] 5 d [(8, 0x34)] ⟨by decide, trivial⟩
  exact bytes_one _ (pack [(14, i.toNat), (5, a.toNat), (5, d.toNat), (8, 0x34)]) rfl (pack_lt _ ⟨i.isLt, a.isLt, d.isLt, by decide, trivial⟩) 52 hl (by decide)
    (fun _ => (loose_34 _ _ hl).trans (by rw [h0, h1, h2])) rest
theorem RoundTrip.lea (i : BitVec 14) (d : BitVec 5) : RoundTrip.Statement (.lea i d) := by
  intro _ rest
  have hl : pack [(14, i.toNat), (5, 0), (5, d.toNat), (8, 0x38)] % 256 = 56 := low_pack [(14, i.toNat), (5, 0), (5, d.toNat)] 56 (by decide)
  have h0 : fld (pack [(14, i.toNat), (5, 0), (5, d.toNat), (8, 0x38)]) 18 14 = i :=
    fld_pack [] 14 i [(5, 0), (5, d.toNat), (8, 0x38)] ⟨by decide, d.isLt, by decide, trivial⟩
  have h1 : fld (pack [(14, i.toNat), (5, 0), (5, d.toNat), (8, 0x38)]) 8 5 = d :=
    fld_pack [(14, i.toNat), (5, 0)] 5 d [(8, 0x38)] ⟨by decide, trivial⟩
  exact bytes_one _ (pack [(14, i.toNat), (5, 0), (5, d.toNat), (8, 0x38)]) rfl (pack_lt _ ⟨i.isLt, by decide, d.isLt, by decide, trivial⟩) 56 hl (by decide)
    (fun _ => (loose_38 _ _ hl).trans (by rw [h0, h1])) rest
theorem RoundTrip.gadr (i : BitVec 14) (a : BitVec 5) (d : BitVec 5) : RoundTrip.Statement (.gadr i a d) := by
  intro _ rest
  have hl : pack [(14, i.toNat), (5, a.toNat), (5, d.toNat), (8, 0x3c)] % 256 = 60 := low_pack [(14, i.toNat), (5, a.toNat), (5, d.toNat)] 60 (by decide)
  have h0 : fld (pack [(14, i.toNat), (5, a.toNat), (5, d.toNat), (8, 0x3c)]) 18 14 = i :=
    fld_pack [] 14 i [(5, a.toNat), (5, d.toNat), (8, 0x3c)] ⟨a.isLt, d.isLt, by decide, trivial⟩
  have h1 : fld (pack [(14, i.toNat), (5, a.toNat), (5, d.toNat), (8, 0x3c)]) 13 5 = a :=
    fld_pack [(14, i.toNat)] 5 a [(5, d.toNat), (8, 0x3c)] ⟨d.isLt, by decide, trivial⟩
  have h2 : fld (pack [(14, i.toNat), (5, a.toNat), (5, d.toNat), (8, 0x3c)]) 8 5 = d :=
    fld_pack [(14, i.toNat), (5, a.toNat)] 5 d [(8, 0x3c)] ⟨by decide, trivial⟩
  exact bytes_one _ (pack [(14, i.toNat), (5, a.toNat), (5, d.toNat), (8, 0x3c)]) rfl (pack_lt _ ⟨i.isLt, a.isLt, d.isLt, by decide, trivial⟩) 60 hl (by decide)
    (fun _ => (loose_3C _ _ hl).trans (by rw [h0, h1, h2])) rest
theorem RoundTrip.addiL (a : BitVec 5) (d : BitVec 5) (e : BitVec 32) : RoundTrip.Statement (.addiL a d e) := by
  intro _ rest
  have hl : pack [(14, 0), (5, a.toNat), (5, d.toNat), (8, 0x13)] % 256 = 19 := low_pack [(14, 0), (5, a.toNat), (5, d.toNat)] 19 (by decide)
  have h0 : fld (pack [(14, 0), (5, a.toNat), (5, d.toNat), (8, 0x13)]) 13 5 = a :=
    fld_pack [(14, 0)] 5 a [(5, d.toNat), (8, 0x13)] ⟨d.isLt, by decide, trivial⟩
  have h1 : fld (pack [(14, 0), (5, a.toNat), (5, d.toNat), (8, 0x13)]) 8 5 = d :=
    fld_pack [(14, 0), (5, a.toNat)] 5 d [(8, 0x13)] ⟨by decide, trivial⟩
  have h2 : fld (pack [(32, e.toNat)]) 0 32 = e :=
    fld_pack [] 32 e [] trivial
  exact bytes_two _ (pack [(14, 0), (5, a.toNat), (5, d.toNat), (8, 0x13)]) (pack [(32, e.toNat)]) rfl (pack_lt _ ⟨by decide, a.isLt, d.isLt, by decide, trivial⟩) (pack_lt _ ⟨e.isLt, trivial⟩) 19 hl (by decide)
    ((loose_13 _ _ hl).trans (by rw [h0, h1, h2])) rest
theorem RoundTrip.andiL (a : BitVec 5) (d : BitVec 5) (e : BitVec 32) : RoundTrip.Statement (.andiL a d e) := by
  intro _ rest
  have hl : pack [(14, 0), (5, a.toNat), (5, d.toNat), (8, 0x17)] % 256 = 23 := low_pack [(14, 0), (5, a.toNat), (5, d.toNat)] 23 (by decide)
  have h0 : fld (pack [(14, 0), (5, a.toNat), (5, d.toNat), (8, 0x17)]) 13 5 = a :=
    fld_pack [(14, 0)] 5 a [(5, d.toNat), (8, 0x17)] ⟨d.isLt, by decide, trivial⟩
  have h1 : fld (pack [(14, 0), (5, a.toNat), (5, d.toNat), (8, 0x17)]) 8 5 = d :=
    fld_pack [(14, 0), (5, a.toNat)] 5 d [(8, 0x17)] ⟨by decide, trivial⟩
  have h2 : fld (pack [(32, e.toNat)]) 0 32 = e :=
    fld_pack [] 32 e [] trivial
  exact bytes_two _ (pack [(14, 0), (5, a.toNat), (5, d.toNat), (8, 0x17)]) (pack [(32, e.toNat)]) rfl (pack_lt _ ⟨by decide, a.isLt, d.isLt, by decide, trivial⟩) (pack_lt _ ⟨e.isLt, trivial⟩) 23 hl (by decide)
    ((loose_17 _ _ hl).trans (by rw [h0, h1, h2])) rest
theorem RoundTrip.oriL (a : BitVec 5) (d : BitVec 5) (e : BitVec 32) : RoundTrip.Statement (.oriL a d e) := by
  intro _ rest
  have hl : pack [(14, 0), (5, a.toNat), (5, d.toNat), (8, 0x1b)] % 256 = 27 := low_pack [(14, 0), (5, a.toNat), (5, d.toNat)] 27 (by decide)
  have h0 : fld (pack [(14, 0), (5, a.toNat), (5, d.toNat), (8, 0x1b)]) 13 5 = a :=
    fld_pack [(14, 0)] 5 a [(5, d.toNat), (8, 0x1b)] ⟨d.isLt, by decide, trivial⟩
  have h1 : fld (pack [(14, 0), (5, a.toNat), (5, d.toNat), (8, 0x1b)]) 8 5 = d :=
    fld_pack [(14, 0), (5, a.toNat)] 5 d [(8, 0x1b)] ⟨by decide, trivial⟩
  have h2 : fld (pack [(32, e.toNat)]) 0 32 = e :=
    fld_pack [] 32 e [] trivial
  exact bytes_two _ (pack [(14, 0), (5, a.toNat), (5, d.toNat), (8, 0x1b)]) (pack [(32, e.toNat)]) rfl (pack_lt _ ⟨by decide, a.isLt, d.isLt, by decide, trivial⟩) (pack_lt _ ⟨e.isLt, trivial⟩) 27 hl (by decide)
    ((loose_1B _ _ hl).trans (by rw [h0, h1, h2])) rest
theorem RoundTrip.xoriL (a : BitVec 5) (d : BitVec 5) (e : BitVec 32) : RoundTrip.Statement (.xoriL a d e) := by
  intro _ rest
  have hl : pack [(14, 0), (5, a.toNat), (5, d.toNat), (8, 0x1f)] % 256 = 31 := low_pack [(14, 0), (5, a.toNat), (5, d.toNat)] 31 (by decide)
  have h0 : fld (pack [(14, 0), (5, a.toNat), (5, d.toNat), (8, 0x1f)]) 13 5 = a :=
    fld_pack [(14, 0)] 5 a [(5, d.toNat), (8, 0x1f)] ⟨d.isLt, by decide, trivial⟩
  have h1 : fld (pack [(14, 0), (5, a.toNat), (5, d.toNat), (8, 0x1f)]) 8 5 = d :=
    fld_pack [(14, 0), (5, a.toNat)] 5 d [(8, 0x1f)] ⟨by decide, trivial⟩
  have h2 : fld (pack [(32, e.toNat)]) 0 32 = e :=
    fld_pack [] 32 e [] trivial
  exact bytes_two _ (pack [(14, 0), (5, a.toNat), (5, d.toNat), (8, 0x1f)]) (pack [(32, e.toNat)]) rfl (pack_lt _ ⟨by decide, a.isLt, d.isLt, by decide, trivial⟩) (pack_lt _ ⟨e.isLt, trivial⟩) 31 hl (by decide)
    ((loose_1F _ _ hl).trans (by rw [h0, h1, h2])) rest
theorem RoundTrip.sltiL (a : BitVec 5) (d : BitVec 5) (e : BitVec 32) : RoundTrip.Statement (.sltiL a d e) := by
  intro _ rest
  have hl : pack [(14, 0), (5, a.toNat), (5, d.toNat), (8, 0x23)] % 256 = 35 := low_pack [(14, 0), (5, a.toNat), (5, d.toNat)] 35 (by decide)
  have h0 : fld (pack [(14, 0), (5, a.toNat), (5, d.toNat), (8, 0x23)]) 13 5 = a :=
    fld_pack [(14, 0)] 5 a [(5, d.toNat), (8, 0x23)] ⟨d.isLt, by decide, trivial⟩
  have h1 : fld (pack [(14, 0), (5, a.toNat), (5, d.toNat), (8, 0x23)]) 8 5 = d :=
    fld_pack [(14, 0), (5, a.toNat)] 5 d [(8, 0x23)] ⟨by decide, trivial⟩
  have h2 : fld (pack [(32, e.toNat)]) 0 32 = e :=
    fld_pack [] 32 e [] trivial
  exact bytes_two _ (pack [(14, 0), (5, a.toNat), (5, d.toNat), (8, 0x23)]) (pack [(32, e.toNat)]) rfl (pack_lt _ ⟨by decide, a.isLt, d.isLt, by decide, trivial⟩) (pack_lt _ ⟨e.isLt, trivial⟩) 35 hl (by decide)
    ((loose_23 _ _ hl).trans (by rw [h0, h1, h2])) rest
theorem RoundTrip.sltuiL (a : BitVec 5) (d : BitVec 5) (e : BitVec 32) : RoundTrip.Statement (.sltuiL a d e) := by
  intro _ rest
  have hl : pack [(14, 0), (5, a.toNat), (5, d.toNat), (8, 0x27)] % 256 = 39 := low_pack [(14, 0), (5, a.toNat), (5, d.toNat)] 39 (by decide)
  have h0 : fld (pack [(14, 0), (5, a.toNat), (5, d.toNat), (8, 0x27)]) 13 5 = a :=
    fld_pack [(14, 0)] 5 a [(5, d.toNat), (8, 0x27)] ⟨d.isLt, by decide, trivial⟩
  have h1 : fld (pack [(14, 0), (5, a.toNat), (5, d.toNat), (8, 0x27)]) 8 5 = d :=
    fld_pack [(14, 0), (5, a.toNat)] 5 d [(8, 0x27)] ⟨by decide, trivial⟩
  have h2 : fld (pack [(32, e.toNat)]) 0 32 = e :=
    fld_pack [] 32 e [] trivial
  exact bytes_two _ (pack [(14, 0), (5, a.toNat), (5, d.toNat), (8, 0x27)]) (pack [(32, e.toNat)]) rfl (pack_lt _ ⟨by decide, a.isLt, d.isLt, by decide, trivial⟩) (pack_lt _ ⟨e.isLt, trivial⟩) 39 hl (by decide)
    ((loose_27 _ _ hl).trans (by rw [h0, h1, h2])) rest
theorem RoundTrip.shliL (a : BitVec 5) (d : BitVec 5) (e : BitVec 32) : RoundTrip.Statement (.shliL a d e) := by
  intro _ rest
  have hl : pack [(14, 0), (5, a.toNat), (5, d.toNat), (8, 0x2b)] % 256 = 43 := low_pack [(14, 0), (5, a.toNat), (5, d.toNat)] 43 (by decide)
  have h0 : fld (pack [(14, 0), (5, a.toNat), (5, d.toNat), (8, 0x2b)]) 13 5 = a :=
    fld_pack [(14, 0)] 5 a [(5, d.toNat), (8, 0x2b)] ⟨d.isLt, by decide, trivial⟩
  have h1 : fld (pack [(14, 0), (5, a.toNat), (5, d.toNat), (8, 0x2b)]) 8 5 = d :=
    fld_pack [(14, 0), (5, a.toNat)] 5 d [(8, 0x2b)] ⟨by decide, trivial⟩
  have h2 : fld (pack [(32, e.toNat)]) 0 32 = e :=
    fld_pack [] 32 e [] trivial
  exact bytes_two _ (pack [(14, 0), (5, a.toNat), (5, d.toNat), (8, 0x2b)]) (pack [(32, e.toNat)]) rfl (pack_lt _ ⟨by decide, a.isLt, d.isLt, by decide, trivial⟩) (pack_lt _ ⟨e.isLt, trivial⟩) 43 hl (by decide)
    ((loose_2B _ _ hl).trans (by rw [h0, h1, h2])) rest
theorem RoundTrip.shriL (a : BitVec 5) (d : BitVec 5) (e : BitVec 32) : RoundTrip.Statement (.shriL a d e) := by
  intro _ rest
  have hl : pack [(14, 0), (5, a.toNat), (5, d.toNat), (8, 0x2f)] % 256 = 47 := low_pack [(14, 0), (5, a.toNat), (5, d.toNat)] 47 (by decide)
  have h0 : fld (pack [(14, 0), (5, a.toNat), (5, d.toNat), (8, 0x2f)]) 13 5 = a :=
    fld_pack [(14, 0)] 5 a [(5, d.toNat), (8, 0x2f)] ⟨d.isLt, by decide, trivial⟩
  have h1 : fld (pack [(14, 0), (5, a.toNat), (5, d.toNat), (8, 0x2f)]) 8 5 = d :=
    fld_pack [(14, 0), (5, a.toNat)] 5 d [(8, 0x2f)] ⟨by decide, trivial⟩
  have h2 : fld (pack [(32, e.toNat)]) 0 32 = e :=
    fld_pack [] 32 e [] trivial
  exact bytes_two _ (pack [(14, 0), (5, a.toNat), (5, d.toNat), (8, 0x2f)]) (pack [(32, e.toNat)]) rfl (pack_lt _ ⟨by decide, a.isLt, d.isLt, by decide, trivial⟩) (pack_lt _ ⟨e.isLt, trivial⟩) 47 hl (by decide)
    ((loose_2F _ _ hl).trans (by rw [h0, h1, h2])) rest
theorem RoundTrip.sariL (a : BitVec 5) (d : BitVec 5) (e : BitVec 32) : RoundTrip.Statement (.sariL a d e) := by
  intro _ rest
  have hl : pack [(14, 0), (5, a.toNat), (5, d.toNat), (8, 0x33)] % 256 = 51 := low_pack [(14, 0), (5, a.toNat), (5, d.toNat)] 51 (by decide)
  have h0 : fld (pack [(14, 0), (5, a.toNat), (5, d.toNat), (8, 0x33)]) 13 5 = a :=
    fld_pack [(14, 0)] 5 a [(5, d.toNat), (8, 0x33)] ⟨d.isLt, by decide, trivial⟩
  have h1 : fld (pack [(14, 0), (5, a.toNat), (5, d.toNat), (8, 0x33)]) 8 5 = d :=
    fld_pack [(14, 0), (5, a.toNat)] 5 d [(8, 0x33)] ⟨by decide, trivial⟩
  have h2 : fld (pack [(32, e.toNat)]) 0 32 = e :=
    fld_pack [] 32 e [] trivial
  exact bytes_two _ (pack [(14, 0), (5, a.toNat), (5, d.toNat), (8, 0x33)]) (pack [(32, e.toNat)]) rfl (pack_lt _ ⟨by decide, a.isLt, d.isLt, by decide, trivial⟩) (pack_lt _ ⟨e.isLt, trivial⟩) 51 hl (by decide)
    ((loose_33 _ _ hl).trans (by rw [h0, h1, h2])) rest
theorem RoundTrip.leaL (d : BitVec 5) (e : BitVec 32) : RoundTrip.Statement (.leaL d e) := by
  intro _ rest
  have hl : pack [(14, 0), (5, 0), (5, d.toNat), (8, 0x3b)] % 256 = 59 := low_pack [(14, 0), (5, 0), (5, d.toNat)] 59 (by decide)
  have h0 : fld (pack [(14, 0), (5, 0), (5, d.toNat), (8, 0x3b)]) 8 5 = d :=
    fld_pack [(14, 0), (5, 0)] 5 d [(8, 0x3b)] ⟨by decide, trivial⟩
  have h1 : fld (pack [(32, e.toNat)]) 0 32 = e :=
    fld_pack [] 32 e [] trivial
  exact bytes_two _ (pack [(14, 0), (5, 0), (5, d.toNat), (8, 0x3b)]) (pack [(32, e.toNat)]) rfl (pack_lt _ ⟨by decide, by decide, d.isLt, by decide, trivial⟩) (pack_lt _ ⟨e.isLt, trivial⟩) 59 hl (by decide)
    ((loose_3B _ _ hl).trans (by rw [h0, h1])) rest
theorem RoundTrip.beq (o : BitVec 14) (a : BitVec 5) (d : BitVec 5) : RoundTrip.Statement (.beq o a d) := by
  intro _ rest
  have hl : pack [(14, o.toNat), (5, a.toNat), (5, d.toNat), (8, 0x40)] % 256 = 64 := low_pack [(14, o.toNat), (5, a.toNat), (5, d.toNat)] 64 (by decide)
  have h0 : fld (pack [(14, o.toNat), (5, a.toNat), (5, d.toNat), (8, 0x40)]) 18 14 = o :=
    fld_pack [] 14 o [(5, a.toNat), (5, d.toNat), (8, 0x40)] ⟨a.isLt, d.isLt, by decide, trivial⟩
  have h1 : fld (pack [(14, o.toNat), (5, a.toNat), (5, d.toNat), (8, 0x40)]) 13 5 = a :=
    fld_pack [(14, o.toNat)] 5 a [(5, d.toNat), (8, 0x40)] ⟨d.isLt, by decide, trivial⟩
  have h2 : fld (pack [(14, o.toNat), (5, a.toNat), (5, d.toNat), (8, 0x40)]) 8 5 = d :=
    fld_pack [(14, o.toNat), (5, a.toNat)] 5 d [(8, 0x40)] ⟨by decide, trivial⟩
  exact bytes_one _ (pack [(14, o.toNat), (5, a.toNat), (5, d.toNat), (8, 0x40)]) rfl (pack_lt _ ⟨o.isLt, a.isLt, d.isLt, by decide, trivial⟩) 64 hl (by decide)
    (fun _ => (loose_40 _ _ hl).trans (by rw [h0, h1, h2])) rest
theorem RoundTrip.bne (o : BitVec 14) (a : BitVec 5) (d : BitVec 5) : RoundTrip.Statement (.bne o a d) := by
  intro _ rest
  have hl : pack [(14, o.toNat), (5, a.toNat), (5, d.toNat), (8, 0x44)] % 256 = 68 := low_pack [(14, o.toNat), (5, a.toNat), (5, d.toNat)] 68 (by decide)
  have h0 : fld (pack [(14, o.toNat), (5, a.toNat), (5, d.toNat), (8, 0x44)]) 18 14 = o :=
    fld_pack [] 14 o [(5, a.toNat), (5, d.toNat), (8, 0x44)] ⟨a.isLt, d.isLt, by decide, trivial⟩
  have h1 : fld (pack [(14, o.toNat), (5, a.toNat), (5, d.toNat), (8, 0x44)]) 13 5 = a :=
    fld_pack [(14, o.toNat)] 5 a [(5, d.toNat), (8, 0x44)] ⟨d.isLt, by decide, trivial⟩
  have h2 : fld (pack [(14, o.toNat), (5, a.toNat), (5, d.toNat), (8, 0x44)]) 8 5 = d :=
    fld_pack [(14, o.toNat), (5, a.toNat)] 5 d [(8, 0x44)] ⟨by decide, trivial⟩
  exact bytes_one _ (pack [(14, o.toNat), (5, a.toNat), (5, d.toNat), (8, 0x44)]) rfl (pack_lt _ ⟨o.isLt, a.isLt, d.isLt, by decide, trivial⟩) 68 hl (by decide)
    (fun _ => (loose_44 _ _ hl).trans (by rw [h0, h1, h2])) rest
theorem RoundTrip.blt (o : BitVec 14) (a : BitVec 5) (d : BitVec 5) : RoundTrip.Statement (.blt o a d) := by
  intro _ rest
  have hl : pack [(14, o.toNat), (5, a.toNat), (5, d.toNat), (8, 0x48)] % 256 = 72 := low_pack [(14, o.toNat), (5, a.toNat), (5, d.toNat)] 72 (by decide)
  have h0 : fld (pack [(14, o.toNat), (5, a.toNat), (5, d.toNat), (8, 0x48)]) 18 14 = o :=
    fld_pack [] 14 o [(5, a.toNat), (5, d.toNat), (8, 0x48)] ⟨a.isLt, d.isLt, by decide, trivial⟩
  have h1 : fld (pack [(14, o.toNat), (5, a.toNat), (5, d.toNat), (8, 0x48)]) 13 5 = a :=
    fld_pack [(14, o.toNat)] 5 a [(5, d.toNat), (8, 0x48)] ⟨d.isLt, by decide, trivial⟩
  have h2 : fld (pack [(14, o.toNat), (5, a.toNat), (5, d.toNat), (8, 0x48)]) 8 5 = d :=
    fld_pack [(14, o.toNat), (5, a.toNat)] 5 d [(8, 0x48)] ⟨by decide, trivial⟩
  exact bytes_one _ (pack [(14, o.toNat), (5, a.toNat), (5, d.toNat), (8, 0x48)]) rfl (pack_lt _ ⟨o.isLt, a.isLt, d.isLt, by decide, trivial⟩) 72 hl (by decide)
    (fun _ => (loose_48 _ _ hl).trans (by rw [h0, h1, h2])) rest
theorem RoundTrip.bge (o : BitVec 14) (a : BitVec 5) (d : BitVec 5) : RoundTrip.Statement (.bge o a d) := by
  intro _ rest
  have hl : pack [(14, o.toNat), (5, a.toNat), (5, d.toNat), (8, 0x4c)] % 256 = 76 := low_pack [(14, o.toNat), (5, a.toNat), (5, d.toNat)] 76 (by decide)
  have h0 : fld (pack [(14, o.toNat), (5, a.toNat), (5, d.toNat), (8, 0x4c)]) 18 14 = o :=
    fld_pack [] 14 o [(5, a.toNat), (5, d.toNat), (8, 0x4c)] ⟨a.isLt, d.isLt, by decide, trivial⟩
  have h1 : fld (pack [(14, o.toNat), (5, a.toNat), (5, d.toNat), (8, 0x4c)]) 13 5 = a :=
    fld_pack [(14, o.toNat)] 5 a [(5, d.toNat), (8, 0x4c)] ⟨d.isLt, by decide, trivial⟩
  have h2 : fld (pack [(14, o.toNat), (5, a.toNat), (5, d.toNat), (8, 0x4c)]) 8 5 = d :=
    fld_pack [(14, o.toNat), (5, a.toNat)] 5 d [(8, 0x4c)] ⟨by decide, trivial⟩
  exact bytes_one _ (pack [(14, o.toNat), (5, a.toNat), (5, d.toNat), (8, 0x4c)]) rfl (pack_lt _ ⟨o.isLt, a.isLt, d.isLt, by decide, trivial⟩) 76 hl (by decide)
    (fun _ => (loose_4C _ _ hl).trans (by rw [h0, h1, h2])) rest
theorem RoundTrip.bltu (o : BitVec 14) (a : BitVec 5) (d : BitVec 5) : RoundTrip.Statement (.bltu o a d) := by
  intro _ rest
  have hl : pack [(14, o.toNat), (5, a.toNat), (5, d.toNat), (8, 0x50)] % 256 = 80 := low_pack [(14, o.toNat), (5, a.toNat), (5, d.toNat)] 80 (by decide)
  have h0 : fld (pack [(14, o.toNat), (5, a.toNat), (5, d.toNat), (8, 0x50)]) 18 14 = o :=
    fld_pack [] 14 o [(5, a.toNat), (5, d.toNat), (8, 0x50)] ⟨a.isLt, d.isLt, by decide, trivial⟩
  have h1 : fld (pack [(14, o.toNat), (5, a.toNat), (5, d.toNat), (8, 0x50)]) 13 5 = a :=
    fld_pack [(14, o.toNat)] 5 a [(5, d.toNat), (8, 0x50)] ⟨d.isLt, by decide, trivial⟩
  have h2 : fld (pack [(14, o.toNat), (5, a.toNat), (5, d.toNat), (8, 0x50)]) 8 5 = d :=
    fld_pack [(14, o.toNat), (5, a.toNat)] 5 d [(8, 0x50)] ⟨by decide, trivial⟩
  exact bytes_one _ (pack [(14, o.toNat), (5, a.toNat), (5, d.toNat), (8, 0x50)]) rfl (pack_lt _ ⟨o.isLt, a.isLt, d.isLt, by decide, trivial⟩) 80 hl (by decide)
    (fun _ => (loose_50 _ _ hl).trans (by rw [h0, h1, h2])) rest
theorem RoundTrip.bgeu (o : BitVec 14) (a : BitVec 5) (d : BitVec 5) : RoundTrip.Statement (.bgeu o a d) := by
  intro _ rest
  have hl : pack [(14, o.toNat), (5, a.toNat), (5, d.toNat), (8, 0x54)] % 256 = 84 := low_pack [(14, o.toNat), (5, a.toNat), (5, d.toNat)] 84 (by decide)
  have h0 : fld (pack [(14, o.toNat), (5, a.toNat), (5, d.toNat), (8, 0x54)]) 18 14 = o :=
    fld_pack [] 14 o [(5, a.toNat), (5, d.toNat), (8, 0x54)] ⟨a.isLt, d.isLt, by decide, trivial⟩
  have h1 : fld (pack [(14, o.toNat), (5, a.toNat), (5, d.toNat), (8, 0x54)]) 13 5 = a :=
    fld_pack [(14, o.toNat)] 5 a [(5, d.toNat), (8, 0x54)] ⟨d.isLt, by decide, trivial⟩
  have h2 : fld (pack [(14, o.toNat), (5, a.toNat), (5, d.toNat), (8, 0x54)]) 8 5 = d :=
    fld_pack [(14, o.toNat), (5, a.toNat)] 5 d [(8, 0x54)] ⟨by decide, trivial⟩
  exact bytes_one _ (pack [(14, o.toNat), (5, a.toNat), (5, d.toNat), (8, 0x54)]) rfl (pack_lt _ ⟨o.isLt, a.isLt, d.isLt, by decide, trivial⟩) 84 hl (by decide)
    (fun _ => (loose_54 _ _ hl).trans (by rw [h0, h1, h2])) rest
theorem RoundTrip.jmp (o : BitVec 24) : RoundTrip.Statement (.jmp o) := by
  intro _ rest
  have hl : pack [(24, o.toNat), (8, 0x58)] % 256 = 88 := low_pack [(24, o.toNat)] 88 (by decide)
  have h0 : fld (pack [(24, o.toNat), (8, 0x58)]) 8 24 = o :=
    fld_pack [] 24 o [(8, 0x58)] ⟨by decide, trivial⟩
  exact bytes_one _ (pack [(24, o.toNat), (8, 0x58)]) rfl (pack_lt _ ⟨o.isLt, by decide, trivial⟩) 88 hl (by decide)
    (fun _ => (loose_58 _ _ hl).trans (by rw [h0])) rest
theorem RoundTrip.jal (o : BitVec 24) : RoundTrip.Statement (.jal o) := by
  intro _ rest
  have hl : pack [(24, o.toNat), (8, 0x5c)] % 256 = 92 := low_pack [(24, o.toNat)] 92 (by decide)
  have h0 : fld (pack [(24, o.toNat), (8, 0x5c)]) 8 24 = o :=
    fld_pack [] 24 o [(8, 0x5c)] ⟨by decide, trivial⟩
  exact bytes_one _ (pack [(24, o.toNat), (8, 0x5c)]) rfl (pack_lt _ ⟨o.isLt, by decide, trivial⟩) 92 hl (by decide)
    (fun _ => (loose_5C _ _ hl).trans (by rw [h0])) rest
theorem RoundTrip.jr (a : BitVec 5) : RoundTrip.Statement (.jr a) := by
  intro _ rest
  have hl : pack [(9, 0), (5, 0), (5, a.toNat), (5, 0), (8, 0x60)] % 256 = 96 := low_pack [(9, 0), (5, 0), (5, a.toNat), (5, 0)] 96 (by decide)
  have hf : pack [(9, 0), (5, 0), (5, a.toNat), (5, 0), (8, 0x60)] / 2 ^ 23 % 2 ^ 9 = 0 :=
    seg_pack [] 9 0 [(5, 0), (5, a.toNat), (5, 0), (8, 0x60)] ⟨by decide, by decide, a.isLt, by decide, by decide, trivial⟩
  have h0 : fld (pack [(9, 0), (5, 0), (5, a.toNat), (5, 0), (8, 0x60)]) 13 5 = a :=
    fld_pack [(9, 0), (5, 0)] 5 a [(5, 0), (8, 0x60)] ⟨by decide, by decide, trivial⟩
  exact bytes_one _ (pack [(9, 0), (5, 0), (5, a.toNat), (5, 0), (8, 0x60)]) rfl (pack_lt _ ⟨by decide, by decide, a.isLt, by decide, by decide, trivial⟩) 96 hl (by decide)
    (fun _ => (loose_60 _ _ hl).trans ((decode60_0 _ hf).trans (by rw [h0]))) rest
theorem RoundTrip.jalr (a : BitVec 5) (d : BitVec 5) : RoundTrip.Statement (.jalr a d) := by
  intro _ rest
  have hl : pack [(9, 0x1), (5, 0), (5, a.toNat), (5, d.toNat), (8, 0x60)] % 256 = 96 := low_pack [(9, 0x1), (5, 0), (5, a.toNat), (5, d.toNat)] 96 (by decide)
  have hf : pack [(9, 0x1), (5, 0), (5, a.toNat), (5, d.toNat), (8, 0x60)] / 2 ^ 23 % 2 ^ 9 = 1 :=
    seg_pack [] 9 1 [(5, 0), (5, a.toNat), (5, d.toNat), (8, 0x60)] ⟨by decide, by decide, a.isLt, d.isLt, by decide, trivial⟩
  have h0 : fld (pack [(9, 0x1), (5, 0), (5, a.toNat), (5, d.toNat), (8, 0x60)]) 13 5 = a :=
    fld_pack [(9, 0x1), (5, 0)] 5 a [(5, d.toNat), (8, 0x60)] ⟨d.isLt, by decide, trivial⟩
  have h1 : fld (pack [(9, 0x1), (5, 0), (5, a.toNat), (5, d.toNat), (8, 0x60)]) 8 5 = d :=
    fld_pack [(9, 0x1), (5, 0), (5, a.toNat)] 5 d [(8, 0x60)] ⟨by decide, trivial⟩
  exact bytes_one _ (pack [(9, 0x1), (5, 0), (5, a.toNat), (5, d.toNat), (8, 0x60)]) rfl (pack_lt _ ⟨by decide, by decide, a.isLt, d.isLt, by decide, trivial⟩) 96 hl (by decide)
    (fun _ => (loose_60 _ _ hl).trans ((decode60_1 _ hf).trans (by rw [h0, h1]))) rest
theorem RoundTrip.rep (c : BitVec 14) (s : BitVec 4) (b : BitVec 1) (a : BitVec 1) (d : BitVec 1) (n : BitVec 3) : RoundTrip.Statement (.rep c s b a d n) := by
  intro _ rest
  have hl : pack [(14, c.toNat), (4, s.toNat), (1, b.toNat), (1, a.toNat), (1, d.toNat), (3, n.toNat), (8, 0x64)] % 256 = 100 := low_pack [(14, c.toNat), (4, s.toNat), (1, b.toNat), (1, a.toNat), (1, d.toNat), (3, n.toNat)] 100 (by decide)
  have h0 : fld (pack [(14, c.toNat), (4, s.toNat), (1, b.toNat), (1, a.toNat), (1, d.toNat), (3, n.toNat), (8, 0x64)]) 18 14 = c :=
    fld_pack [] 14 c [(4, s.toNat), (1, b.toNat), (1, a.toNat), (1, d.toNat), (3, n.toNat), (8, 0x64)] ⟨s.isLt, b.isLt, a.isLt, d.isLt, n.isLt, by decide, trivial⟩
  have h1 : fld (pack [(14, c.toNat), (4, s.toNat), (1, b.toNat), (1, a.toNat), (1, d.toNat), (3, n.toNat), (8, 0x64)]) 14 4 = s :=
    fld_pack [(14, c.toNat)] 4 s [(1, b.toNat), (1, a.toNat), (1, d.toNat), (3, n.toNat), (8, 0x64)] ⟨b.isLt, a.isLt, d.isLt, n.isLt, by decide, trivial⟩
  have h2 : fld (pack [(14, c.toNat), (4, s.toNat), (1, b.toNat), (1, a.toNat), (1, d.toNat), (3, n.toNat), (8, 0x64)]) 13 1 = b :=
    fld_pack [(14, c.toNat), (4, s.toNat)] 1 b [(1, a.toNat), (1, d.toNat), (3, n.toNat), (8, 0x64)] ⟨a.isLt, d.isLt, n.isLt, by decide, trivial⟩
  have h3 : fld (pack [(14, c.toNat), (4, s.toNat), (1, b.toNat), (1, a.toNat), (1, d.toNat), (3, n.toNat), (8, 0x64)]) 12 1 = a :=
    fld_pack [(14, c.toNat), (4, s.toNat), (1, b.toNat)] 1 a [(1, d.toNat), (3, n.toNat), (8, 0x64)] ⟨d.isLt, n.isLt, by decide, trivial⟩
  have h4 : fld (pack [(14, c.toNat), (4, s.toNat), (1, b.toNat), (1, a.toNat), (1, d.toNat), (3, n.toNat), (8, 0x64)]) 11 1 = d :=
    fld_pack [(14, c.toNat), (4, s.toNat), (1, b.toNat), (1, a.toNat)] 1 d [(3, n.toNat), (8, 0x64)] ⟨n.isLt, by decide, trivial⟩
  have h5 : fld (pack [(14, c.toNat), (4, s.toNat), (1, b.toNat), (1, a.toNat), (1, d.toNat), (3, n.toNat), (8, 0x64)]) 8 3 = n :=
    fld_pack [(14, c.toNat), (4, s.toNat), (1, b.toNat), (1, a.toNat), (1, d.toNat)] 3 n [(8, 0x64)] ⟨by decide, trivial⟩
  exact bytes_one _ (pack [(14, c.toNat), (4, s.toNat), (1, b.toNat), (1, a.toNat), (1, d.toNat), (3, n.toNat), (8, 0x64)]) rfl (pack_lt _ ⟨c.isLt, s.isLt, b.isLt, a.isLt, d.isLt, n.isLt, by decide, trivial⟩) 100 hl (by decide)
    (fun _ => (loose_64 _ _ hl).trans (by rw [h0, h1, h2, h3, h4, h5])) rest
theorem RoundTrip.pool (n : BitVec 12) : RoundTrip.Statement (.pool n) := by
  intro _ rest
  have hl : pack [(12, 0), (12, n.toNat), (8, 0x68)] % 256 = 104 := low_pack [(12, 0), (12, n.toNat)] 104 (by decide)
  have h0 : fld (pack [(12, 0), (12, n.toNat), (8, 0x68)]) 8 12 = n :=
    fld_pack [(12, 0)] 12 n [(8, 0x68)] ⟨by decide, trivial⟩
  exact bytes_one _ (pack [(12, 0), (12, n.toNat), (8, 0x68)]) rfl (pack_lt _ ⟨by decide, n.isLt, by decide, trivial⟩) 104 hl (by decide)
    (fun _ => (loose_68 _ _ hl).trans (by rw [h0])) rest
theorem RoundTrip.tend : RoundTrip.Statement .tend := by
  intro _ rest
  have hl : pack [(24, 0), (8, 0x6c)] % 256 = 108 := low_pack [(24, 0)] 108 (by decide)
  exact bytes_one _ (pack [(24, 0), (8, 0x6c)]) rfl (pack_lt _ ⟨by decide, by decide, trivial⟩) 108 hl (by decide)
    (fun _ => (loose_6C _ _ hl).trans (rfl)) rest
theorem RoundTrip.sys : RoundTrip.Statement .sys := by
  intro _ rest
  have hl : pack [(9, 0), (15, 0), (8, 0x70)] % 256 = 112 := low_pack [(9, 0), (15, 0)] 112 (by decide)
  have hf : pack [(9, 0), (15, 0), (8, 0x70)] / 2 ^ 23 % 2 ^ 9 = 0 :=
    seg_pack [] 9 0 [(15, 0), (8, 0x70)] ⟨by decide, by decide, by decide, trivial⟩
  exact bytes_one _ (pack [(9, 0), (15, 0), (8, 0x70)]) rfl (pack_lt _ ⟨by decide, by decide, by decide, trivial⟩) 112 hl (by decide)
    (fun _ => (loose_70 _ _ hl).trans ((decode70_0 _ hf).trans (rfl))) rest
theorem RoundTrip.trapret : RoundTrip.Statement .trapret := by
  intro _ rest
  have hl : pack [(9, 0x1), (15, 0), (8, 0x70)] % 256 = 112 := low_pack [(9, 0x1), (15, 0)] 112 (by decide)
  have hf : pack [(9, 0x1), (15, 0), (8, 0x70)] / 2 ^ 23 % 2 ^ 9 = 1 :=
    seg_pack [] 9 1 [(15, 0), (8, 0x70)] ⟨by decide, by decide, by decide, trivial⟩
  exact bytes_one _ (pack [(9, 0x1), (15, 0), (8, 0x70)]) rfl (pack_lt _ ⟨by decide, by decide, by decide, trivial⟩) 112 hl (by decide)
    (fun _ => (loose_70 _ _ hl).trans ((decode70_1 _ hf).trans (rfl))) rest
theorem RoundTrip.brk : RoundTrip.Statement .brk := by
  intro _ rest
  have hl : pack [(9, 0x2), (15, 0), (8, 0x70)] % 256 = 112 := low_pack [(9, 0x2), (15, 0)] 112 (by decide)
  have hf : pack [(9, 0x2), (15, 0), (8, 0x70)] / 2 ^ 23 % 2 ^ 9 = 2 :=
    seg_pack [] 9 2 [(15, 0), (8, 0x70)] ⟨by decide, by decide, by decide, trivial⟩
  exact bytes_one _ (pack [(9, 0x2), (15, 0), (8, 0x70)]) rfl (pack_lt _ ⟨by decide, by decide, by decide, trivial⟩) 112 hl (by decide)
    (fun _ => (loose_70 _ _ hl).trans ((decode70_2 _ hf).trans (rfl))) rest
theorem RoundTrip.srd (b : BitVec 5) (a : BitVec 5) (d : BitVec 5) : RoundTrip.Statement (.srd b a d) := by
  intro _ rest
  have hl : pack [(9, 0x3), (5, b.toNat), (5, a.toNat), (5, d.toNat), (8, 0x70)] % 256 = 112 := low_pack [(9, 0x3), (5, b.toNat), (5, a.toNat), (5, d.toNat)] 112 (by decide)
  have hf : pack [(9, 0x3), (5, b.toNat), (5, a.toNat), (5, d.toNat), (8, 0x70)] / 2 ^ 23 % 2 ^ 9 = 3 :=
    seg_pack [] 9 3 [(5, b.toNat), (5, a.toNat), (5, d.toNat), (8, 0x70)] ⟨by decide, b.isLt, a.isLt, d.isLt, by decide, trivial⟩
  have h0 : fld (pack [(9, 0x3), (5, b.toNat), (5, a.toNat), (5, d.toNat), (8, 0x70)]) 18 5 = b :=
    fld_pack [(9, 0x3)] 5 b [(5, a.toNat), (5, d.toNat), (8, 0x70)] ⟨a.isLt, d.isLt, by decide, trivial⟩
  have h1 : fld (pack [(9, 0x3), (5, b.toNat), (5, a.toNat), (5, d.toNat), (8, 0x70)]) 13 5 = a :=
    fld_pack [(9, 0x3), (5, b.toNat)] 5 a [(5, d.toNat), (8, 0x70)] ⟨d.isLt, by decide, trivial⟩
  have h2 : fld (pack [(9, 0x3), (5, b.toNat), (5, a.toNat), (5, d.toNat), (8, 0x70)]) 8 5 = d :=
    fld_pack [(9, 0x3), (5, b.toNat), (5, a.toNat)] 5 d [(8, 0x70)] ⟨by decide, trivial⟩
  exact bytes_one _ (pack [(9, 0x3), (5, b.toNat), (5, a.toNat), (5, d.toNat), (8, 0x70)]) rfl (pack_lt _ ⟨by decide, b.isLt, a.isLt, d.isLt, by decide, trivial⟩) 112 hl (by decide)
    (fun _ => (loose_70 _ _ hl).trans ((decode70_3 _ hf).trans (by rw [h0, h1, h2]))) rest
theorem RoundTrip.swr (b : BitVec 5) (a : BitVec 5) (d : BitVec 5) : RoundTrip.Statement (.swr b a d) := by
  intro _ rest
  have hl : pack [(9, 0x4), (5, b.toNat), (5, a.toNat), (5, d.toNat), (8, 0x70)] % 256 = 112 := low_pack [(9, 0x4), (5, b.toNat), (5, a.toNat), (5, d.toNat)] 112 (by decide)
  have hf : pack [(9, 0x4), (5, b.toNat), (5, a.toNat), (5, d.toNat), (8, 0x70)] / 2 ^ 23 % 2 ^ 9 = 4 :=
    seg_pack [] 9 4 [(5, b.toNat), (5, a.toNat), (5, d.toNat), (8, 0x70)] ⟨by decide, b.isLt, a.isLt, d.isLt, by decide, trivial⟩
  have h0 : fld (pack [(9, 0x4), (5, b.toNat), (5, a.toNat), (5, d.toNat), (8, 0x70)]) 18 5 = b :=
    fld_pack [(9, 0x4)] 5 b [(5, a.toNat), (5, d.toNat), (8, 0x70)] ⟨a.isLt, d.isLt, by decide, trivial⟩
  have h1 : fld (pack [(9, 0x4), (5, b.toNat), (5, a.toNat), (5, d.toNat), (8, 0x70)]) 13 5 = a :=
    fld_pack [(9, 0x4), (5, b.toNat)] 5 a [(5, d.toNat), (8, 0x70)] ⟨d.isLt, by decide, trivial⟩
  have h2 : fld (pack [(9, 0x4), (5, b.toNat), (5, a.toNat), (5, d.toNat), (8, 0x70)]) 8 5 = d :=
    fld_pack [(9, 0x4), (5, b.toNat), (5, a.toNat)] 5 d [(8, 0x70)] ⟨by decide, trivial⟩
  exact bytes_one _ (pack [(9, 0x4), (5, b.toNat), (5, a.toNat), (5, d.toNat), (8, 0x70)]) rfl (pack_lt _ ⟨by decide, b.isLt, a.isLt, d.isLt, by decide, trivial⟩) 112 hl (by decide)
    (fun _ => (loose_70 _ _ hl).trans ((decode70_4 _ hf).trans (by rw [h0, h1, h2]))) rest
theorem RoundTrip.ifence : RoundTrip.Statement .ifence := by
  intro _ rest
  have hl : pack [(9, 0x5), (15, 0), (8, 0x70)] % 256 = 112 := low_pack [(9, 0x5), (15, 0)] 112 (by decide)
  have hf : pack [(9, 0x5), (15, 0), (8, 0x70)] / 2 ^ 23 % 2 ^ 9 = 5 :=
    seg_pack [] 9 5 [(15, 0), (8, 0x70)] ⟨by decide, by decide, by decide, trivial⟩
  exact bytes_one _ (pack [(9, 0x5), (15, 0), (8, 0x70)]) rfl (pack_lt _ ⟨by decide, by decide, by decide, trivial⟩) 112 hl (by decide)
    (fun _ => (loose_70 _ _ hl).trans ((decode70_5 _ hf).trans (rfl))) rest
theorem RoundTrip.lb (i : BitVec 14) (a : BitVec 5) (d : BitVec 5) : RoundTrip.Statement (.lb i a d) := by
  intro _ rest
  have hl : pack [(14, i.toNat), (5, a.toNat), (5, d.toNat), (8, 0x80)] % 256 = 128 := low_pack [(14, i.toNat), (5, a.toNat), (5, d.toNat)] 128 (by decide)
  have h0 : fld (pack [(14, i.toNat), (5, a.toNat), (5, d.toNat), (8, 0x80)]) 18 14 = i :=
    fld_pack [] 14 i [(5, a.toNat), (5, d.toNat), (8, 0x80)] ⟨a.isLt, d.isLt, by decide, trivial⟩
  have h1 : fld (pack [(14, i.toNat), (5, a.toNat), (5, d.toNat), (8, 0x80)]) 13 5 = a :=
    fld_pack [(14, i.toNat)] 5 a [(5, d.toNat), (8, 0x80)] ⟨d.isLt, by decide, trivial⟩
  have h2 : fld (pack [(14, i.toNat), (5, a.toNat), (5, d.toNat), (8, 0x80)]) 8 5 = d :=
    fld_pack [(14, i.toNat), (5, a.toNat)] 5 d [(8, 0x80)] ⟨by decide, trivial⟩
  exact bytes_one _ (pack [(14, i.toNat), (5, a.toNat), (5, d.toNat), (8, 0x80)]) rfl (pack_lt _ ⟨i.isLt, a.isLt, d.isLt, by decide, trivial⟩) 128 hl (by decide)
    (fun _ => (loose_80 _ _ hl).trans (by rw [h0, h1, h2])) rest
theorem RoundTrip.lh (i : BitVec 14) (a : BitVec 5) (d : BitVec 5) : RoundTrip.Statement (.lh i a d) := by
  intro _ rest
  have hl : pack [(14, i.toNat), (5, a.toNat), (5, d.toNat), (8, 0x84)] % 256 = 132 := low_pack [(14, i.toNat), (5, a.toNat), (5, d.toNat)] 132 (by decide)
  have h0 : fld (pack [(14, i.toNat), (5, a.toNat), (5, d.toNat), (8, 0x84)]) 18 14 = i :=
    fld_pack [] 14 i [(5, a.toNat), (5, d.toNat), (8, 0x84)] ⟨a.isLt, d.isLt, by decide, trivial⟩
  have h1 : fld (pack [(14, i.toNat), (5, a.toNat), (5, d.toNat), (8, 0x84)]) 13 5 = a :=
    fld_pack [(14, i.toNat)] 5 a [(5, d.toNat), (8, 0x84)] ⟨d.isLt, by decide, trivial⟩
  have h2 : fld (pack [(14, i.toNat), (5, a.toNat), (5, d.toNat), (8, 0x84)]) 8 5 = d :=
    fld_pack [(14, i.toNat), (5, a.toNat)] 5 d [(8, 0x84)] ⟨by decide, trivial⟩
  exact bytes_one _ (pack [(14, i.toNat), (5, a.toNat), (5, d.toNat), (8, 0x84)]) rfl (pack_lt _ ⟨i.isLt, a.isLt, d.isLt, by decide, trivial⟩) 132 hl (by decide)
    (fun _ => (loose_84 _ _ hl).trans (by rw [h0, h1, h2])) rest
theorem RoundTrip.lw (i : BitVec 14) (a : BitVec 5) (d : BitVec 5) : RoundTrip.Statement (.lw i a d) := by
  intro _ rest
  have hl : pack [(14, i.toNat), (5, a.toNat), (5, d.toNat), (8, 0x88)] % 256 = 136 := low_pack [(14, i.toNat), (5, a.toNat), (5, d.toNat)] 136 (by decide)
  have h0 : fld (pack [(14, i.toNat), (5, a.toNat), (5, d.toNat), (8, 0x88)]) 18 14 = i :=
    fld_pack [] 14 i [(5, a.toNat), (5, d.toNat), (8, 0x88)] ⟨a.isLt, d.isLt, by decide, trivial⟩
  have h1 : fld (pack [(14, i.toNat), (5, a.toNat), (5, d.toNat), (8, 0x88)]) 13 5 = a :=
    fld_pack [(14, i.toNat)] 5 a [(5, d.toNat), (8, 0x88)] ⟨d.isLt, by decide, trivial⟩
  have h2 : fld (pack [(14, i.toNat), (5, a.toNat), (5, d.toNat), (8, 0x88)]) 8 5 = d :=
    fld_pack [(14, i.toNat), (5, a.toNat)] 5 d [(8, 0x88)] ⟨by decide, trivial⟩
  exact bytes_one _ (pack [(14, i.toNat), (5, a.toNat), (5, d.toNat), (8, 0x88)]) rfl (pack_lt _ ⟨i.isLt, a.isLt, d.isLt, by decide, trivial⟩) 136 hl (by decide)
    (fun _ => (loose_88 _ _ hl).trans (by rw [h0, h1, h2])) rest
theorem RoundTrip.ld (i : BitVec 14) (a : BitVec 5) (d : BitVec 5) : RoundTrip.Statement (.ld i a d) := by
  intro _ rest
  have hl : pack [(14, i.toNat), (5, a.toNat), (5, d.toNat), (8, 0x8c)] % 256 = 140 := low_pack [(14, i.toNat), (5, a.toNat), (5, d.toNat)] 140 (by decide)
  have h0 : fld (pack [(14, i.toNat), (5, a.toNat), (5, d.toNat), (8, 0x8c)]) 18 14 = i :=
    fld_pack [] 14 i [(5, a.toNat), (5, d.toNat), (8, 0x8c)] ⟨a.isLt, d.isLt, by decide, trivial⟩
  have h1 : fld (pack [(14, i.toNat), (5, a.toNat), (5, d.toNat), (8, 0x8c)]) 13 5 = a :=
    fld_pack [(14, i.toNat)] 5 a [(5, d.toNat), (8, 0x8c)] ⟨d.isLt, by decide, trivial⟩
  have h2 : fld (pack [(14, i.toNat), (5, a.toNat), (5, d.toNat), (8, 0x8c)]) 8 5 = d :=
    fld_pack [(14, i.toNat), (5, a.toNat)] 5 d [(8, 0x8c)] ⟨by decide, trivial⟩
  exact bytes_one _ (pack [(14, i.toNat), (5, a.toNat), (5, d.toNat), (8, 0x8c)]) rfl (pack_lt _ ⟨i.isLt, a.isLt, d.isLt, by decide, trivial⟩) 140 hl (by decide)
    (fun _ => (loose_8C _ _ hl).trans (by rw [h0, h1, h2])) rest
theorem RoundTrip.sb (i : BitVec 14) (a : BitVec 5) (d : BitVec 5) : RoundTrip.Statement (.sb i a d) := by
  intro _ rest
  have hl : pack [(14, i.toNat), (5, a.toNat), (5, d.toNat), (8, 0x90)] % 256 = 144 := low_pack [(14, i.toNat), (5, a.toNat), (5, d.toNat)] 144 (by decide)
  have h0 : fld (pack [(14, i.toNat), (5, a.toNat), (5, d.toNat), (8, 0x90)]) 18 14 = i :=
    fld_pack [] 14 i [(5, a.toNat), (5, d.toNat), (8, 0x90)] ⟨a.isLt, d.isLt, by decide, trivial⟩
  have h1 : fld (pack [(14, i.toNat), (5, a.toNat), (5, d.toNat), (8, 0x90)]) 13 5 = a :=
    fld_pack [(14, i.toNat)] 5 a [(5, d.toNat), (8, 0x90)] ⟨d.isLt, by decide, trivial⟩
  have h2 : fld (pack [(14, i.toNat), (5, a.toNat), (5, d.toNat), (8, 0x90)]) 8 5 = d :=
    fld_pack [(14, i.toNat), (5, a.toNat)] 5 d [(8, 0x90)] ⟨by decide, trivial⟩
  exact bytes_one _ (pack [(14, i.toNat), (5, a.toNat), (5, d.toNat), (8, 0x90)]) rfl (pack_lt _ ⟨i.isLt, a.isLt, d.isLt, by decide, trivial⟩) 144 hl (by decide)
    (fun _ => (loose_90 _ _ hl).trans (by rw [h0, h1, h2])) rest
theorem RoundTrip.sh (i : BitVec 14) (a : BitVec 5) (d : BitVec 5) : RoundTrip.Statement (.sh i a d) := by
  intro _ rest
  have hl : pack [(14, i.toNat), (5, a.toNat), (5, d.toNat), (8, 0x94)] % 256 = 148 := low_pack [(14, i.toNat), (5, a.toNat), (5, d.toNat)] 148 (by decide)
  have h0 : fld (pack [(14, i.toNat), (5, a.toNat), (5, d.toNat), (8, 0x94)]) 18 14 = i :=
    fld_pack [] 14 i [(5, a.toNat), (5, d.toNat), (8, 0x94)] ⟨a.isLt, d.isLt, by decide, trivial⟩
  have h1 : fld (pack [(14, i.toNat), (5, a.toNat), (5, d.toNat), (8, 0x94)]) 13 5 = a :=
    fld_pack [(14, i.toNat)] 5 a [(5, d.toNat), (8, 0x94)] ⟨d.isLt, by decide, trivial⟩
  have h2 : fld (pack [(14, i.toNat), (5, a.toNat), (5, d.toNat), (8, 0x94)]) 8 5 = d :=
    fld_pack [(14, i.toNat), (5, a.toNat)] 5 d [(8, 0x94)] ⟨by decide, trivial⟩
  exact bytes_one _ (pack [(14, i.toNat), (5, a.toNat), (5, d.toNat), (8, 0x94)]) rfl (pack_lt _ ⟨i.isLt, a.isLt, d.isLt, by decide, trivial⟩) 148 hl (by decide)
    (fun _ => (loose_94 _ _ hl).trans (by rw [h0, h1, h2])) rest
theorem RoundTrip.sw (i : BitVec 14) (a : BitVec 5) (d : BitVec 5) : RoundTrip.Statement (.sw i a d) := by
  intro _ rest
  have hl : pack [(14, i.toNat), (5, a.toNat), (5, d.toNat), (8, 0x98)] % 256 = 152 := low_pack [(14, i.toNat), (5, a.toNat), (5, d.toNat)] 152 (by decide)
  have h0 : fld (pack [(14, i.toNat), (5, a.toNat), (5, d.toNat), (8, 0x98)]) 18 14 = i :=
    fld_pack [] 14 i [(5, a.toNat), (5, d.toNat), (8, 0x98)] ⟨a.isLt, d.isLt, by decide, trivial⟩
  have h1 : fld (pack [(14, i.toNat), (5, a.toNat), (5, d.toNat), (8, 0x98)]) 13 5 = a :=
    fld_pack [(14, i.toNat)] 5 a [(5, d.toNat), (8, 0x98)] ⟨d.isLt, by decide, trivial⟩
  have h2 : fld (pack [(14, i.toNat), (5, a.toNat), (5, d.toNat), (8, 0x98)]) 8 5 = d :=
    fld_pack [(14, i.toNat), (5, a.toNat)] 5 d [(8, 0x98)] ⟨by decide, trivial⟩
  exact bytes_one _ (pack [(14, i.toNat), (5, a.toNat), (5, d.toNat), (8, 0x98)]) rfl (pack_lt _ ⟨i.isLt, a.isLt, d.isLt, by decide, trivial⟩) 152 hl (by decide)
    (fun _ => (loose_98 _ _ hl).trans (by rw [h0, h1, h2])) rest
theorem RoundTrip.sd (i : BitVec 14) (a : BitVec 5) (d : BitVec 5) : RoundTrip.Statement (.sd i a d) := by
  intro _ rest
  have hl : pack [(14, i.toNat), (5, a.toNat), (5, d.toNat), (8, 0x9c)] % 256 = 156 := low_pack [(14, i.toNat), (5, a.toNat), (5, d.toNat)] 156 (by decide)
  have h0 : fld (pack [(14, i.toNat), (5, a.toNat), (5, d.toNat), (8, 0x9c)]) 18 14 = i :=
    fld_pack [] 14 i [(5, a.toNat), (5, d.toNat), (8, 0x9c)] ⟨a.isLt, d.isLt, by decide, trivial⟩
  have h1 : fld (pack [(14, i.toNat), (5, a.toNat), (5, d.toNat), (8, 0x9c)]) 13 5 = a :=
    fld_pack [(14, i.toNat)] 5 a [(5, d.toNat), (8, 0x9c)] ⟨d.isLt, by decide, trivial⟩
  have h2 : fld (pack [(14, i.toNat), (5, a.toNat), (5, d.toNat), (8, 0x9c)]) 8 5 = d :=
    fld_pack [(14, i.toNat), (5, a.toNat)] 5 d [(8, 0x9c)] ⟨by decide, trivial⟩
  exact bytes_one _ (pack [(14, i.toNat), (5, a.toNat), (5, d.toNat), (8, 0x9c)]) rfl (pack_lt _ ⟨i.isLt, a.isLt, d.isLt, by decide, trivial⟩) 156 hl (by decide)
    (fun _ => (loose_9C _ _ hl).trans (by rw [h0, h1, h2])) rest
theorem RoundTrip.lbL (s : BitVec 2) (b : BitVec 5) (a : BitVec 5) (d : BitVec 5) (e : BitVec 32) : RoundTrip.Statement (.lbL s b a d e) := by
  intro _ rest
  have hl : pack [(6, 0), (1, 0), (2, s.toNat), (5, b.toNat), (5, a.toNat), (5, d.toNat), (8, 0x83)] % 256 = 131 := low_pack [(6, 0), (1, 0), (2, s.toNat), (5, b.toNat), (5, a.toNat), (5, d.toNat)] 131 (by decide)
  have hf : pack [(6, 0), (1, 0), (2, s.toNat), (5, b.toNat), (5, a.toNat), (5, d.toNat), (8, 0x83)] / 2 ^ 25 % 2 = 0 :=
    seg_pack [(6, 0)] 1 0 [(2, s.toNat), (5, b.toNat), (5, a.toNat), (5, d.toNat), (8, 0x83)] ⟨by decide, s.isLt, b.isLt, a.isLt, d.isLt, by decide, trivial⟩
  have h0 : fld (pack [(6, 0), (1, 0), (2, s.toNat), (5, b.toNat), (5, a.toNat), (5, d.toNat), (8, 0x83)]) 23 2 = s :=
    fld_pack [(6, 0), (1, 0)] 2 s [(5, b.toNat), (5, a.toNat), (5, d.toNat), (8, 0x83)] ⟨b.isLt, a.isLt, d.isLt, by decide, trivial⟩
  have h1 : fld (pack [(6, 0), (1, 0), (2, s.toNat), (5, b.toNat), (5, a.toNat), (5, d.toNat), (8, 0x83)]) 18 5 = b :=
    fld_pack [(6, 0), (1, 0), (2, s.toNat)] 5 b [(5, a.toNat), (5, d.toNat), (8, 0x83)] ⟨a.isLt, d.isLt, by decide, trivial⟩
  have h2 : fld (pack [(6, 0), (1, 0), (2, s.toNat), (5, b.toNat), (5, a.toNat), (5, d.toNat), (8, 0x83)]) 13 5 = a :=
    fld_pack [(6, 0), (1, 0), (2, s.toNat), (5, b.toNat)] 5 a [(5, d.toNat), (8, 0x83)] ⟨d.isLt, by decide, trivial⟩
  have h3 : fld (pack [(6, 0), (1, 0), (2, s.toNat), (5, b.toNat), (5, a.toNat), (5, d.toNat), (8, 0x83)]) 8 5 = d :=
    fld_pack [(6, 0), (1, 0), (2, s.toNat), (5, b.toNat), (5, a.toNat)] 5 d [(8, 0x83)] ⟨by decide, trivial⟩
  have h4 : fld (pack [(32, e.toNat)]) 0 32 = e :=
    fld_pack [] 32 e [] trivial
  exact bytes_two _ (pack [(6, 0), (1, 0), (2, s.toNat), (5, b.toNat), (5, a.toNat), (5, d.toNat), (8, 0x83)]) (pack [(32, e.toNat)]) rfl (pack_lt _ ⟨by decide, by decide, s.isLt, b.isLt, a.isLt, d.isLt, by decide, trivial⟩) (pack_lt _ ⟨e.isLt, trivial⟩) 131 hl (by decide)
    ((loose_83 _ _ hl).trans ((decode83_0 _ _ hf).trans (by rw [h0, h1, h2, h3, h4]))) rest
theorem RoundTrip.lhL (s : BitVec 2) (b : BitVec 5) (a : BitVec 5) (d : BitVec 5) (e : BitVec 32) : RoundTrip.Statement (.lhL s b a d e) := by
  intro _ rest
  have hl : pack [(6, 0), (1, 0), (2, s.toNat), (5, b.toNat), (5, a.toNat), (5, d.toNat), (8, 0x87)] % 256 = 135 := low_pack [(6, 0), (1, 0), (2, s.toNat), (5, b.toNat), (5, a.toNat), (5, d.toNat)] 135 (by decide)
  have hf : pack [(6, 0), (1, 0), (2, s.toNat), (5, b.toNat), (5, a.toNat), (5, d.toNat), (8, 0x87)] / 2 ^ 25 % 2 = 0 :=
    seg_pack [(6, 0)] 1 0 [(2, s.toNat), (5, b.toNat), (5, a.toNat), (5, d.toNat), (8, 0x87)] ⟨by decide, s.isLt, b.isLt, a.isLt, d.isLt, by decide, trivial⟩
  have h0 : fld (pack [(6, 0), (1, 0), (2, s.toNat), (5, b.toNat), (5, a.toNat), (5, d.toNat), (8, 0x87)]) 23 2 = s :=
    fld_pack [(6, 0), (1, 0)] 2 s [(5, b.toNat), (5, a.toNat), (5, d.toNat), (8, 0x87)] ⟨b.isLt, a.isLt, d.isLt, by decide, trivial⟩
  have h1 : fld (pack [(6, 0), (1, 0), (2, s.toNat), (5, b.toNat), (5, a.toNat), (5, d.toNat), (8, 0x87)]) 18 5 = b :=
    fld_pack [(6, 0), (1, 0), (2, s.toNat)] 5 b [(5, a.toNat), (5, d.toNat), (8, 0x87)] ⟨a.isLt, d.isLt, by decide, trivial⟩
  have h2 : fld (pack [(6, 0), (1, 0), (2, s.toNat), (5, b.toNat), (5, a.toNat), (5, d.toNat), (8, 0x87)]) 13 5 = a :=
    fld_pack [(6, 0), (1, 0), (2, s.toNat), (5, b.toNat)] 5 a [(5, d.toNat), (8, 0x87)] ⟨d.isLt, by decide, trivial⟩
  have h3 : fld (pack [(6, 0), (1, 0), (2, s.toNat), (5, b.toNat), (5, a.toNat), (5, d.toNat), (8, 0x87)]) 8 5 = d :=
    fld_pack [(6, 0), (1, 0), (2, s.toNat), (5, b.toNat), (5, a.toNat)] 5 d [(8, 0x87)] ⟨by decide, trivial⟩
  have h4 : fld (pack [(32, e.toNat)]) 0 32 = e :=
    fld_pack [] 32 e [] trivial
  exact bytes_two _ (pack [(6, 0), (1, 0), (2, s.toNat), (5, b.toNat), (5, a.toNat), (5, d.toNat), (8, 0x87)]) (pack [(32, e.toNat)]) rfl (pack_lt _ ⟨by decide, by decide, s.isLt, b.isLt, a.isLt, d.isLt, by decide, trivial⟩) (pack_lt _ ⟨e.isLt, trivial⟩) 135 hl (by decide)
    ((loose_87 _ _ hl).trans ((decode87_0 _ _ hf).trans (by rw [h0, h1, h2, h3, h4]))) rest
theorem RoundTrip.lwL (s : BitVec 2) (b : BitVec 5) (a : BitVec 5) (d : BitVec 5) (e : BitVec 32) : RoundTrip.Statement (.lwL s b a d e) := by
  intro _ rest
  have hl : pack [(6, 0), (1, 0), (2, s.toNat), (5, b.toNat), (5, a.toNat), (5, d.toNat), (8, 0x8b)] % 256 = 139 := low_pack [(6, 0), (1, 0), (2, s.toNat), (5, b.toNat), (5, a.toNat), (5, d.toNat)] 139 (by decide)
  have hf : pack [(6, 0), (1, 0), (2, s.toNat), (5, b.toNat), (5, a.toNat), (5, d.toNat), (8, 0x8b)] / 2 ^ 25 % 2 = 0 :=
    seg_pack [(6, 0)] 1 0 [(2, s.toNat), (5, b.toNat), (5, a.toNat), (5, d.toNat), (8, 0x8b)] ⟨by decide, s.isLt, b.isLt, a.isLt, d.isLt, by decide, trivial⟩
  have h0 : fld (pack [(6, 0), (1, 0), (2, s.toNat), (5, b.toNat), (5, a.toNat), (5, d.toNat), (8, 0x8b)]) 23 2 = s :=
    fld_pack [(6, 0), (1, 0)] 2 s [(5, b.toNat), (5, a.toNat), (5, d.toNat), (8, 0x8b)] ⟨b.isLt, a.isLt, d.isLt, by decide, trivial⟩
  have h1 : fld (pack [(6, 0), (1, 0), (2, s.toNat), (5, b.toNat), (5, a.toNat), (5, d.toNat), (8, 0x8b)]) 18 5 = b :=
    fld_pack [(6, 0), (1, 0), (2, s.toNat)] 5 b [(5, a.toNat), (5, d.toNat), (8, 0x8b)] ⟨a.isLt, d.isLt, by decide, trivial⟩
  have h2 : fld (pack [(6, 0), (1, 0), (2, s.toNat), (5, b.toNat), (5, a.toNat), (5, d.toNat), (8, 0x8b)]) 13 5 = a :=
    fld_pack [(6, 0), (1, 0), (2, s.toNat), (5, b.toNat)] 5 a [(5, d.toNat), (8, 0x8b)] ⟨d.isLt, by decide, trivial⟩
  have h3 : fld (pack [(6, 0), (1, 0), (2, s.toNat), (5, b.toNat), (5, a.toNat), (5, d.toNat), (8, 0x8b)]) 8 5 = d :=
    fld_pack [(6, 0), (1, 0), (2, s.toNat), (5, b.toNat), (5, a.toNat)] 5 d [(8, 0x8b)] ⟨by decide, trivial⟩
  have h4 : fld (pack [(32, e.toNat)]) 0 32 = e :=
    fld_pack [] 32 e [] trivial
  exact bytes_two _ (pack [(6, 0), (1, 0), (2, s.toNat), (5, b.toNat), (5, a.toNat), (5, d.toNat), (8, 0x8b)]) (pack [(32, e.toNat)]) rfl (pack_lt _ ⟨by decide, by decide, s.isLt, b.isLt, a.isLt, d.isLt, by decide, trivial⟩) (pack_lt _ ⟨e.isLt, trivial⟩) 139 hl (by decide)
    ((loose_8B _ _ hl).trans ((decode8B_0 _ _ hf).trans (by rw [h0, h1, h2, h3, h4]))) rest
theorem RoundTrip.ldL (s : BitVec 2) (b : BitVec 5) (a : BitVec 5) (d : BitVec 5) (e : BitVec 32) : RoundTrip.Statement (.ldL s b a d e) := by
  intro _ rest
  have hl : pack [(6, 0), (1, 0), (2, s.toNat), (5, b.toNat), (5, a.toNat), (5, d.toNat), (8, 0x8f)] % 256 = 143 := low_pack [(6, 0), (1, 0), (2, s.toNat), (5, b.toNat), (5, a.toNat), (5, d.toNat)] 143 (by decide)
  have h0 : fld (pack [(6, 0), (1, 0), (2, s.toNat), (5, b.toNat), (5, a.toNat), (5, d.toNat), (8, 0x8f)]) 23 2 = s :=
    fld_pack [(6, 0), (1, 0)] 2 s [(5, b.toNat), (5, a.toNat), (5, d.toNat), (8, 0x8f)] ⟨b.isLt, a.isLt, d.isLt, by decide, trivial⟩
  have h1 : fld (pack [(6, 0), (1, 0), (2, s.toNat), (5, b.toNat), (5, a.toNat), (5, d.toNat), (8, 0x8f)]) 18 5 = b :=
    fld_pack [(6, 0), (1, 0), (2, s.toNat)] 5 b [(5, a.toNat), (5, d.toNat), (8, 0x8f)] ⟨a.isLt, d.isLt, by decide, trivial⟩
  have h2 : fld (pack [(6, 0), (1, 0), (2, s.toNat), (5, b.toNat), (5, a.toNat), (5, d.toNat), (8, 0x8f)]) 13 5 = a :=
    fld_pack [(6, 0), (1, 0), (2, s.toNat), (5, b.toNat)] 5 a [(5, d.toNat), (8, 0x8f)] ⟨d.isLt, by decide, trivial⟩
  have h3 : fld (pack [(6, 0), (1, 0), (2, s.toNat), (5, b.toNat), (5, a.toNat), (5, d.toNat), (8, 0x8f)]) 8 5 = d :=
    fld_pack [(6, 0), (1, 0), (2, s.toNat), (5, b.toNat), (5, a.toNat)] 5 d [(8, 0x8f)] ⟨by decide, trivial⟩
  have h4 : fld (pack [(32, e.toNat)]) 0 32 = e :=
    fld_pack [] 32 e [] trivial
  exact bytes_two _ (pack [(6, 0), (1, 0), (2, s.toNat), (5, b.toNat), (5, a.toNat), (5, d.toNat), (8, 0x8f)]) (pack [(32, e.toNat)]) rfl (pack_lt _ ⟨by decide, by decide, s.isLt, b.isLt, a.isLt, d.isLt, by decide, trivial⟩) (pack_lt _ ⟨e.isLt, trivial⟩) 143 hl (by decide)
    ((loose_8F _ _ hl).trans (by rw [h0, h1, h2, h3, h4])) rest
theorem RoundTrip.sbL (s : BitVec 2) (b : BitVec 5) (a : BitVec 5) (d : BitVec 5) (e : BitVec 32) : RoundTrip.Statement (.sbL s b a d e) := by
  intro _ rest
  have hl : pack [(6, 0), (1, 0), (2, s.toNat), (5, b.toNat), (5, a.toNat), (5, d.toNat), (8, 0x93)] % 256 = 147 := low_pack [(6, 0), (1, 0), (2, s.toNat), (5, b.toNat), (5, a.toNat), (5, d.toNat)] 147 (by decide)
  have h0 : fld (pack [(6, 0), (1, 0), (2, s.toNat), (5, b.toNat), (5, a.toNat), (5, d.toNat), (8, 0x93)]) 23 2 = s :=
    fld_pack [(6, 0), (1, 0)] 2 s [(5, b.toNat), (5, a.toNat), (5, d.toNat), (8, 0x93)] ⟨b.isLt, a.isLt, d.isLt, by decide, trivial⟩
  have h1 : fld (pack [(6, 0), (1, 0), (2, s.toNat), (5, b.toNat), (5, a.toNat), (5, d.toNat), (8, 0x93)]) 18 5 = b :=
    fld_pack [(6, 0), (1, 0), (2, s.toNat)] 5 b [(5, a.toNat), (5, d.toNat), (8, 0x93)] ⟨a.isLt, d.isLt, by decide, trivial⟩
  have h2 : fld (pack [(6, 0), (1, 0), (2, s.toNat), (5, b.toNat), (5, a.toNat), (5, d.toNat), (8, 0x93)]) 13 5 = a :=
    fld_pack [(6, 0), (1, 0), (2, s.toNat), (5, b.toNat)] 5 a [(5, d.toNat), (8, 0x93)] ⟨d.isLt, by decide, trivial⟩
  have h3 : fld (pack [(6, 0), (1, 0), (2, s.toNat), (5, b.toNat), (5, a.toNat), (5, d.toNat), (8, 0x93)]) 8 5 = d :=
    fld_pack [(6, 0), (1, 0), (2, s.toNat), (5, b.toNat), (5, a.toNat)] 5 d [(8, 0x93)] ⟨by decide, trivial⟩
  have h4 : fld (pack [(32, e.toNat)]) 0 32 = e :=
    fld_pack [] 32 e [] trivial
  exact bytes_two _ (pack [(6, 0), (1, 0), (2, s.toNat), (5, b.toNat), (5, a.toNat), (5, d.toNat), (8, 0x93)]) (pack [(32, e.toNat)]) rfl (pack_lt _ ⟨by decide, by decide, s.isLt, b.isLt, a.isLt, d.isLt, by decide, trivial⟩) (pack_lt _ ⟨e.isLt, trivial⟩) 147 hl (by decide)
    ((loose_93 _ _ hl).trans (by rw [h0, h1, h2, h3, h4])) rest
theorem RoundTrip.shL (s : BitVec 2) (b : BitVec 5) (a : BitVec 5) (d : BitVec 5) (e : BitVec 32) : RoundTrip.Statement (.shL s b a d e) := by
  intro _ rest
  have hl : pack [(6, 0), (1, 0), (2, s.toNat), (5, b.toNat), (5, a.toNat), (5, d.toNat), (8, 0x97)] % 256 = 151 := low_pack [(6, 0), (1, 0), (2, s.toNat), (5, b.toNat), (5, a.toNat), (5, d.toNat)] 151 (by decide)
  have h0 : fld (pack [(6, 0), (1, 0), (2, s.toNat), (5, b.toNat), (5, a.toNat), (5, d.toNat), (8, 0x97)]) 23 2 = s :=
    fld_pack [(6, 0), (1, 0)] 2 s [(5, b.toNat), (5, a.toNat), (5, d.toNat), (8, 0x97)] ⟨b.isLt, a.isLt, d.isLt, by decide, trivial⟩
  have h1 : fld (pack [(6, 0), (1, 0), (2, s.toNat), (5, b.toNat), (5, a.toNat), (5, d.toNat), (8, 0x97)]) 18 5 = b :=
    fld_pack [(6, 0), (1, 0), (2, s.toNat)] 5 b [(5, a.toNat), (5, d.toNat), (8, 0x97)] ⟨a.isLt, d.isLt, by decide, trivial⟩
  have h2 : fld (pack [(6, 0), (1, 0), (2, s.toNat), (5, b.toNat), (5, a.toNat), (5, d.toNat), (8, 0x97)]) 13 5 = a :=
    fld_pack [(6, 0), (1, 0), (2, s.toNat), (5, b.toNat)] 5 a [(5, d.toNat), (8, 0x97)] ⟨d.isLt, by decide, trivial⟩
  have h3 : fld (pack [(6, 0), (1, 0), (2, s.toNat), (5, b.toNat), (5, a.toNat), (5, d.toNat), (8, 0x97)]) 8 5 = d :=
    fld_pack [(6, 0), (1, 0), (2, s.toNat), (5, b.toNat), (5, a.toNat)] 5 d [(8, 0x97)] ⟨by decide, trivial⟩
  have h4 : fld (pack [(32, e.toNat)]) 0 32 = e :=
    fld_pack [] 32 e [] trivial
  exact bytes_two _ (pack [(6, 0), (1, 0), (2, s.toNat), (5, b.toNat), (5, a.toNat), (5, d.toNat), (8, 0x97)]) (pack [(32, e.toNat)]) rfl (pack_lt _ ⟨by decide, by decide, s.isLt, b.isLt, a.isLt, d.isLt, by decide, trivial⟩) (pack_lt _ ⟨e.isLt, trivial⟩) 151 hl (by decide)
    ((loose_97 _ _ hl).trans (by rw [h0, h1, h2, h3, h4])) rest
theorem RoundTrip.swL (s : BitVec 2) (b : BitVec 5) (a : BitVec 5) (d : BitVec 5) (e : BitVec 32) : RoundTrip.Statement (.swL s b a d e) := by
  intro _ rest
  have hl : pack [(6, 0), (1, 0), (2, s.toNat), (5, b.toNat), (5, a.toNat), (5, d.toNat), (8, 0x9b)] % 256 = 155 := low_pack [(6, 0), (1, 0), (2, s.toNat), (5, b.toNat), (5, a.toNat), (5, d.toNat)] 155 (by decide)
  have h0 : fld (pack [(6, 0), (1, 0), (2, s.toNat), (5, b.toNat), (5, a.toNat), (5, d.toNat), (8, 0x9b)]) 23 2 = s :=
    fld_pack [(6, 0), (1, 0)] 2 s [(5, b.toNat), (5, a.toNat), (5, d.toNat), (8, 0x9b)] ⟨b.isLt, a.isLt, d.isLt, by decide, trivial⟩
  have h1 : fld (pack [(6, 0), (1, 0), (2, s.toNat), (5, b.toNat), (5, a.toNat), (5, d.toNat), (8, 0x9b)]) 18 5 = b :=
    fld_pack [(6, 0), (1, 0), (2, s.toNat)] 5 b [(5, a.toNat), (5, d.toNat), (8, 0x9b)] ⟨a.isLt, d.isLt, by decide, trivial⟩
  have h2 : fld (pack [(6, 0), (1, 0), (2, s.toNat), (5, b.toNat), (5, a.toNat), (5, d.toNat), (8, 0x9b)]) 13 5 = a :=
    fld_pack [(6, 0), (1, 0), (2, s.toNat), (5, b.toNat)] 5 a [(5, d.toNat), (8, 0x9b)] ⟨d.isLt, by decide, trivial⟩
  have h3 : fld (pack [(6, 0), (1, 0), (2, s.toNat), (5, b.toNat), (5, a.toNat), (5, d.toNat), (8, 0x9b)]) 8 5 = d :=
    fld_pack [(6, 0), (1, 0), (2, s.toNat), (5, b.toNat), (5, a.toNat)] 5 d [(8, 0x9b)] ⟨by decide, trivial⟩
  have h4 : fld (pack [(32, e.toNat)]) 0 32 = e :=
    fld_pack [] 32 e [] trivial
  exact bytes_two _ (pack [(6, 0), (1, 0), (2, s.toNat), (5, b.toNat), (5, a.toNat), (5, d.toNat), (8, 0x9b)]) (pack [(32, e.toNat)]) rfl (pack_lt _ ⟨by decide, by decide, s.isLt, b.isLt, a.isLt, d.isLt, by decide, trivial⟩) (pack_lt _ ⟨e.isLt, trivial⟩) 155 hl (by decide)
    ((loose_9B _ _ hl).trans (by rw [h0, h1, h2, h3, h4])) rest
theorem RoundTrip.sdL (s : BitVec 2) (b : BitVec 5) (a : BitVec 5) (d : BitVec 5) (e : BitVec 32) : RoundTrip.Statement (.sdL s b a d e) := by
  intro _ rest
  have hl : pack [(6, 0), (1, 0), (2, s.toNat), (5, b.toNat), (5, a.toNat), (5, d.toNat), (8, 0x9f)] % 256 = 159 := low_pack [(6, 0), (1, 0), (2, s.toNat), (5, b.toNat), (5, a.toNat), (5, d.toNat)] 159 (by decide)
  have h0 : fld (pack [(6, 0), (1, 0), (2, s.toNat), (5, b.toNat), (5, a.toNat), (5, d.toNat), (8, 0x9f)]) 23 2 = s :=
    fld_pack [(6, 0), (1, 0)] 2 s [(5, b.toNat), (5, a.toNat), (5, d.toNat), (8, 0x9f)] ⟨b.isLt, a.isLt, d.isLt, by decide, trivial⟩
  have h1 : fld (pack [(6, 0), (1, 0), (2, s.toNat), (5, b.toNat), (5, a.toNat), (5, d.toNat), (8, 0x9f)]) 18 5 = b :=
    fld_pack [(6, 0), (1, 0), (2, s.toNat)] 5 b [(5, a.toNat), (5, d.toNat), (8, 0x9f)] ⟨a.isLt, d.isLt, by decide, trivial⟩
  have h2 : fld (pack [(6, 0), (1, 0), (2, s.toNat), (5, b.toNat), (5, a.toNat), (5, d.toNat), (8, 0x9f)]) 13 5 = a :=
    fld_pack [(6, 0), (1, 0), (2, s.toNat), (5, b.toNat)] 5 a [(5, d.toNat), (8, 0x9f)] ⟨d.isLt, by decide, trivial⟩
  have h3 : fld (pack [(6, 0), (1, 0), (2, s.toNat), (5, b.toNat), (5, a.toNat), (5, d.toNat), (8, 0x9f)]) 8 5 = d :=
    fld_pack [(6, 0), (1, 0), (2, s.toNat), (5, b.toNat), (5, a.toNat)] 5 d [(8, 0x9f)] ⟨by decide, trivial⟩
  have h4 : fld (pack [(32, e.toNat)]) 0 32 = e :=
    fld_pack [] 32 e [] trivial
  exact bytes_two _ (pack [(6, 0), (1, 0), (2, s.toNat), (5, b.toNat), (5, a.toNat), (5, d.toNat), (8, 0x9f)]) (pack [(32, e.toNat)]) rfl (pack_lt _ ⟨by decide, by decide, s.isLt, b.isLt, a.isLt, d.isLt, by decide, trivial⟩) (pack_lt _ ⟨e.isLt, trivial⟩) 159 hl (by decide)
    ((loose_9F _ _ hl).trans (by rw [h0, h1, h2, h3, h4])) rest
theorem RoundTrip.lbu (s : BitVec 2) (b : BitVec 5) (a : BitVec 5) (d : BitVec 5) (e : BitVec 32) : RoundTrip.Statement (.lbu s b a d e) := by
  intro _ rest
  have hl : pack [(6, 0), (1, 1), (2, s.toNat), (5, b.toNat), (5, a.toNat), (5, d.toNat), (8, 0x83)] % 256 = 131 := low_pack [(6, 0), (1, 1), (2, s.toNat), (5, b.toNat), (5, a.toNat), (5, d.toNat)] 131 (by decide)
  have hf : pack [(6, 0), (1, 1), (2, s.toNat), (5, b.toNat), (5, a.toNat), (5, d.toNat), (8, 0x83)] / 2 ^ 25 % 2 = 1 :=
    seg_pack [(6, 0)] 1 1 [(2, s.toNat), (5, b.toNat), (5, a.toNat), (5, d.toNat), (8, 0x83)] ⟨by decide, s.isLt, b.isLt, a.isLt, d.isLt, by decide, trivial⟩
  have h0 : fld (pack [(6, 0), (1, 1), (2, s.toNat), (5, b.toNat), (5, a.toNat), (5, d.toNat), (8, 0x83)]) 23 2 = s :=
    fld_pack [(6, 0), (1, 1)] 2 s [(5, b.toNat), (5, a.toNat), (5, d.toNat), (8, 0x83)] ⟨b.isLt, a.isLt, d.isLt, by decide, trivial⟩
  have h1 : fld (pack [(6, 0), (1, 1), (2, s.toNat), (5, b.toNat), (5, a.toNat), (5, d.toNat), (8, 0x83)]) 18 5 = b :=
    fld_pack [(6, 0), (1, 1), (2, s.toNat)] 5 b [(5, a.toNat), (5, d.toNat), (8, 0x83)] ⟨a.isLt, d.isLt, by decide, trivial⟩
  have h2 : fld (pack [(6, 0), (1, 1), (2, s.toNat), (5, b.toNat), (5, a.toNat), (5, d.toNat), (8, 0x83)]) 13 5 = a :=
    fld_pack [(6, 0), (1, 1), (2, s.toNat), (5, b.toNat)] 5 a [(5, d.toNat), (8, 0x83)] ⟨d.isLt, by decide, trivial⟩
  have h3 : fld (pack [(6, 0), (1, 1), (2, s.toNat), (5, b.toNat), (5, a.toNat), (5, d.toNat), (8, 0x83)]) 8 5 = d :=
    fld_pack [(6, 0), (1, 1), (2, s.toNat), (5, b.toNat), (5, a.toNat)] 5 d [(8, 0x83)] ⟨by decide, trivial⟩
  have h4 : fld (pack [(32, e.toNat)]) 0 32 = e :=
    fld_pack [] 32 e [] trivial
  exact bytes_two _ (pack [(6, 0), (1, 1), (2, s.toNat), (5, b.toNat), (5, a.toNat), (5, d.toNat), (8, 0x83)]) (pack [(32, e.toNat)]) rfl (pack_lt _ ⟨by decide, by decide, s.isLt, b.isLt, a.isLt, d.isLt, by decide, trivial⟩) (pack_lt _ ⟨e.isLt, trivial⟩) 131 hl (by decide)
    ((loose_83 _ _ hl).trans ((decode83_1 _ _ hf).trans (by rw [h0, h1, h2, h3, h4]))) rest
theorem RoundTrip.lhu (s : BitVec 2) (b : BitVec 5) (a : BitVec 5) (d : BitVec 5) (e : BitVec 32) : RoundTrip.Statement (.lhu s b a d e) := by
  intro _ rest
  have hl : pack [(6, 0), (1, 1), (2, s.toNat), (5, b.toNat), (5, a.toNat), (5, d.toNat), (8, 0x87)] % 256 = 135 := low_pack [(6, 0), (1, 1), (2, s.toNat), (5, b.toNat), (5, a.toNat), (5, d.toNat)] 135 (by decide)
  have hf : pack [(6, 0), (1, 1), (2, s.toNat), (5, b.toNat), (5, a.toNat), (5, d.toNat), (8, 0x87)] / 2 ^ 25 % 2 = 1 :=
    seg_pack [(6, 0)] 1 1 [(2, s.toNat), (5, b.toNat), (5, a.toNat), (5, d.toNat), (8, 0x87)] ⟨by decide, s.isLt, b.isLt, a.isLt, d.isLt, by decide, trivial⟩
  have h0 : fld (pack [(6, 0), (1, 1), (2, s.toNat), (5, b.toNat), (5, a.toNat), (5, d.toNat), (8, 0x87)]) 23 2 = s :=
    fld_pack [(6, 0), (1, 1)] 2 s [(5, b.toNat), (5, a.toNat), (5, d.toNat), (8, 0x87)] ⟨b.isLt, a.isLt, d.isLt, by decide, trivial⟩
  have h1 : fld (pack [(6, 0), (1, 1), (2, s.toNat), (5, b.toNat), (5, a.toNat), (5, d.toNat), (8, 0x87)]) 18 5 = b :=
    fld_pack [(6, 0), (1, 1), (2, s.toNat)] 5 b [(5, a.toNat), (5, d.toNat), (8, 0x87)] ⟨a.isLt, d.isLt, by decide, trivial⟩
  have h2 : fld (pack [(6, 0), (1, 1), (2, s.toNat), (5, b.toNat), (5, a.toNat), (5, d.toNat), (8, 0x87)]) 13 5 = a :=
    fld_pack [(6, 0), (1, 1), (2, s.toNat), (5, b.toNat)] 5 a [(5, d.toNat), (8, 0x87)] ⟨d.isLt, by decide, trivial⟩
  have h3 : fld (pack [(6, 0), (1, 1), (2, s.toNat), (5, b.toNat), (5, a.toNat), (5, d.toNat), (8, 0x87)]) 8 5 = d :=
    fld_pack [(6, 0), (1, 1), (2, s.toNat), (5, b.toNat), (5, a.toNat)] 5 d [(8, 0x87)] ⟨by decide, trivial⟩
  have h4 : fld (pack [(32, e.toNat)]) 0 32 = e :=
    fld_pack [] 32 e [] trivial
  exact bytes_two _ (pack [(6, 0), (1, 1), (2, s.toNat), (5, b.toNat), (5, a.toNat), (5, d.toNat), (8, 0x87)]) (pack [(32, e.toNat)]) rfl (pack_lt _ ⟨by decide, by decide, s.isLt, b.isLt, a.isLt, d.isLt, by decide, trivial⟩) (pack_lt _ ⟨e.isLt, trivial⟩) 135 hl (by decide)
    ((loose_87 _ _ hl).trans ((decode87_1 _ _ hf).trans (by rw [h0, h1, h2, h3, h4]))) rest
theorem RoundTrip.lwu (s : BitVec 2) (b : BitVec 5) (a : BitVec 5) (d : BitVec 5) (e : BitVec 32) : RoundTrip.Statement (.lwu s b a d e) := by
  intro _ rest
  have hl : pack [(6, 0), (1, 1), (2, s.toNat), (5, b.toNat), (5, a.toNat), (5, d.toNat), (8, 0x8b)] % 256 = 139 := low_pack [(6, 0), (1, 1), (2, s.toNat), (5, b.toNat), (5, a.toNat), (5, d.toNat)] 139 (by decide)
  have hf : pack [(6, 0), (1, 1), (2, s.toNat), (5, b.toNat), (5, a.toNat), (5, d.toNat), (8, 0x8b)] / 2 ^ 25 % 2 = 1 :=
    seg_pack [(6, 0)] 1 1 [(2, s.toNat), (5, b.toNat), (5, a.toNat), (5, d.toNat), (8, 0x8b)] ⟨by decide, s.isLt, b.isLt, a.isLt, d.isLt, by decide, trivial⟩
  have h0 : fld (pack [(6, 0), (1, 1), (2, s.toNat), (5, b.toNat), (5, a.toNat), (5, d.toNat), (8, 0x8b)]) 23 2 = s :=
    fld_pack [(6, 0), (1, 1)] 2 s [(5, b.toNat), (5, a.toNat), (5, d.toNat), (8, 0x8b)] ⟨b.isLt, a.isLt, d.isLt, by decide, trivial⟩
  have h1 : fld (pack [(6, 0), (1, 1), (2, s.toNat), (5, b.toNat), (5, a.toNat), (5, d.toNat), (8, 0x8b)]) 18 5 = b :=
    fld_pack [(6, 0), (1, 1), (2, s.toNat)] 5 b [(5, a.toNat), (5, d.toNat), (8, 0x8b)] ⟨a.isLt, d.isLt, by decide, trivial⟩
  have h2 : fld (pack [(6, 0), (1, 1), (2, s.toNat), (5, b.toNat), (5, a.toNat), (5, d.toNat), (8, 0x8b)]) 13 5 = a :=
    fld_pack [(6, 0), (1, 1), (2, s.toNat), (5, b.toNat)] 5 a [(5, d.toNat), (8, 0x8b)] ⟨d.isLt, by decide, trivial⟩
  have h3 : fld (pack [(6, 0), (1, 1), (2, s.toNat), (5, b.toNat), (5, a.toNat), (5, d.toNat), (8, 0x8b)]) 8 5 = d :=
    fld_pack [(6, 0), (1, 1), (2, s.toNat), (5, b.toNat), (5, a.toNat)] 5 d [(8, 0x8b)] ⟨by decide, trivial⟩
  have h4 : fld (pack [(32, e.toNat)]) 0 32 = e :=
    fld_pack [] 32 e [] trivial
  exact bytes_two _ (pack [(6, 0), (1, 1), (2, s.toNat), (5, b.toNat), (5, a.toNat), (5, d.toNat), (8, 0x8b)]) (pack [(32, e.toNat)]) rfl (pack_lt _ ⟨by decide, by decide, s.isLt, b.isLt, a.isLt, d.isLt, by decide, trivial⟩) (pack_lt _ ⟨e.isLt, trivial⟩) 139 hl (by decide)
    ((loose_8B _ _ hl).trans ((decode8B_1 _ _ hf).trans (by rw [h0, h1, h2, h3, h4]))) rest
theorem RoundTrip.amoadd (s : BitVec 1) (b : BitVec 5) (a : BitVec 5) (d : BitVec 5) : RoundTrip.Statement (.amoadd s b a d) := by
  intro _ rest
  have hl : pack [(1, s.toNat), (4, 0), (4, 0), (5, b.toNat), (5, a.toNat), (5, d.toNat), (8, 0xa0)] % 256 = 160 := low_pack [(1, s.toNat), (4, 0), (4, 0), (5, b.toNat), (5, a.toNat), (5, d.toNat)] 160 (by decide)
  have hf : pack [(1, s.toNat), (4, 0), (4, 0), (5, b.toNat), (5, a.toNat), (5, d.toNat), (8, 0xa0)] / 2 ^ 27 % 2 ^ 4 = 0 :=
    seg_pack [(1, s.toNat)] 4 0 [(4, 0), (5, b.toNat), (5, a.toNat), (5, d.toNat), (8, 0xa0)] ⟨by decide, by decide, b.isLt, a.isLt, d.isLt, by decide, trivial⟩
  have h0 : fld (pack [(1, s.toNat), (4, 0), (4, 0), (5, b.toNat), (5, a.toNat), (5, d.toNat), (8, 0xa0)]) 31 1 = s :=
    fld_pack [] 1 s [(4, 0), (4, 0), (5, b.toNat), (5, a.toNat), (5, d.toNat), (8, 0xa0)] ⟨by decide, by decide, b.isLt, a.isLt, d.isLt, by decide, trivial⟩
  have h1 : fld (pack [(1, s.toNat), (4, 0), (4, 0), (5, b.toNat), (5, a.toNat), (5, d.toNat), (8, 0xa0)]) 18 5 = b :=
    fld_pack [(1, s.toNat), (4, 0), (4, 0)] 5 b [(5, a.toNat), (5, d.toNat), (8, 0xa0)] ⟨a.isLt, d.isLt, by decide, trivial⟩
  have h2 : fld (pack [(1, s.toNat), (4, 0), (4, 0), (5, b.toNat), (5, a.toNat), (5, d.toNat), (8, 0xa0)]) 13 5 = a :=
    fld_pack [(1, s.toNat), (4, 0), (4, 0), (5, b.toNat)] 5 a [(5, d.toNat), (8, 0xa0)] ⟨d.isLt, by decide, trivial⟩
  have h3 : fld (pack [(1, s.toNat), (4, 0), (4, 0), (5, b.toNat), (5, a.toNat), (5, d.toNat), (8, 0xa0)]) 8 5 = d :=
    fld_pack [(1, s.toNat), (4, 0), (4, 0), (5, b.toNat), (5, a.toNat)] 5 d [(8, 0xa0)] ⟨by decide, trivial⟩
  exact bytes_one _ (pack [(1, s.toNat), (4, 0), (4, 0), (5, b.toNat), (5, a.toNat), (5, d.toNat), (8, 0xa0)]) rfl (pack_lt _ ⟨s.isLt, by decide, by decide, b.isLt, a.isLt, d.isLt, by decide, trivial⟩) 160 hl (by decide)
    (fun _ => (loose_A0 _ _ hl).trans ((decodeA0_0 _ hf).trans (by rw [h0, h1, h2, h3]))) rest
theorem RoundTrip.amomin (s : BitVec 1) (b : BitVec 5) (a : BitVec 5) (d : BitVec 5) : RoundTrip.Statement (.amomin s b a d) := by
  intro _ rest
  have hl : pack [(1, s.toNat), (4, 0x1), (4, 0), (5, b.toNat), (5, a.toNat), (5, d.toNat), (8, 0xa0)] % 256 = 160 := low_pack [(1, s.toNat), (4, 0x1), (4, 0), (5, b.toNat), (5, a.toNat), (5, d.toNat)] 160 (by decide)
  have hf : pack [(1, s.toNat), (4, 0x1), (4, 0), (5, b.toNat), (5, a.toNat), (5, d.toNat), (8, 0xa0)] / 2 ^ 27 % 2 ^ 4 = 1 :=
    seg_pack [(1, s.toNat)] 4 1 [(4, 0), (5, b.toNat), (5, a.toNat), (5, d.toNat), (8, 0xa0)] ⟨by decide, by decide, b.isLt, a.isLt, d.isLt, by decide, trivial⟩
  have h0 : fld (pack [(1, s.toNat), (4, 0x1), (4, 0), (5, b.toNat), (5, a.toNat), (5, d.toNat), (8, 0xa0)]) 31 1 = s :=
    fld_pack [] 1 s [(4, 0x1), (4, 0), (5, b.toNat), (5, a.toNat), (5, d.toNat), (8, 0xa0)] ⟨by decide, by decide, b.isLt, a.isLt, d.isLt, by decide, trivial⟩
  have h1 : fld (pack [(1, s.toNat), (4, 0x1), (4, 0), (5, b.toNat), (5, a.toNat), (5, d.toNat), (8, 0xa0)]) 18 5 = b :=
    fld_pack [(1, s.toNat), (4, 0x1), (4, 0)] 5 b [(5, a.toNat), (5, d.toNat), (8, 0xa0)] ⟨a.isLt, d.isLt, by decide, trivial⟩
  have h2 : fld (pack [(1, s.toNat), (4, 0x1), (4, 0), (5, b.toNat), (5, a.toNat), (5, d.toNat), (8, 0xa0)]) 13 5 = a :=
    fld_pack [(1, s.toNat), (4, 0x1), (4, 0), (5, b.toNat)] 5 a [(5, d.toNat), (8, 0xa0)] ⟨d.isLt, by decide, trivial⟩
  have h3 : fld (pack [(1, s.toNat), (4, 0x1), (4, 0), (5, b.toNat), (5, a.toNat), (5, d.toNat), (8, 0xa0)]) 8 5 = d :=
    fld_pack [(1, s.toNat), (4, 0x1), (4, 0), (5, b.toNat), (5, a.toNat)] 5 d [(8, 0xa0)] ⟨by decide, trivial⟩
  exact bytes_one _ (pack [(1, s.toNat), (4, 0x1), (4, 0), (5, b.toNat), (5, a.toNat), (5, d.toNat), (8, 0xa0)]) rfl (pack_lt _ ⟨s.isLt, by decide, by decide, b.isLt, a.isLt, d.isLt, by decide, trivial⟩) 160 hl (by decide)
    (fun _ => (loose_A0 _ _ hl).trans ((decodeA0_1 _ hf).trans (by rw [h0, h1, h2, h3]))) rest
theorem RoundTrip.amomax (s : BitVec 1) (b : BitVec 5) (a : BitVec 5) (d : BitVec 5) : RoundTrip.Statement (.amomax s b a d) := by
  intro _ rest
  have hl : pack [(1, s.toNat), (4, 0x2), (4, 0), (5, b.toNat), (5, a.toNat), (5, d.toNat), (8, 0xa0)] % 256 = 160 := low_pack [(1, s.toNat), (4, 0x2), (4, 0), (5, b.toNat), (5, a.toNat), (5, d.toNat)] 160 (by decide)
  have hf : pack [(1, s.toNat), (4, 0x2), (4, 0), (5, b.toNat), (5, a.toNat), (5, d.toNat), (8, 0xa0)] / 2 ^ 27 % 2 ^ 4 = 2 :=
    seg_pack [(1, s.toNat)] 4 2 [(4, 0), (5, b.toNat), (5, a.toNat), (5, d.toNat), (8, 0xa0)] ⟨by decide, by decide, b.isLt, a.isLt, d.isLt, by decide, trivial⟩
  have h0 : fld (pack [(1, s.toNat), (4, 0x2), (4, 0), (5, b.toNat), (5, a.toNat), (5, d.toNat), (8, 0xa0)]) 31 1 = s :=
    fld_pack [] 1 s [(4, 0x2), (4, 0), (5, b.toNat), (5, a.toNat), (5, d.toNat), (8, 0xa0)] ⟨by decide, by decide, b.isLt, a.isLt, d.isLt, by decide, trivial⟩
  have h1 : fld (pack [(1, s.toNat), (4, 0x2), (4, 0), (5, b.toNat), (5, a.toNat), (5, d.toNat), (8, 0xa0)]) 18 5 = b :=
    fld_pack [(1, s.toNat), (4, 0x2), (4, 0)] 5 b [(5, a.toNat), (5, d.toNat), (8, 0xa0)] ⟨a.isLt, d.isLt, by decide, trivial⟩
  have h2 : fld (pack [(1, s.toNat), (4, 0x2), (4, 0), (5, b.toNat), (5, a.toNat), (5, d.toNat), (8, 0xa0)]) 13 5 = a :=
    fld_pack [(1, s.toNat), (4, 0x2), (4, 0), (5, b.toNat)] 5 a [(5, d.toNat), (8, 0xa0)] ⟨d.isLt, by decide, trivial⟩
  have h3 : fld (pack [(1, s.toNat), (4, 0x2), (4, 0), (5, b.toNat), (5, a.toNat), (5, d.toNat), (8, 0xa0)]) 8 5 = d :=
    fld_pack [(1, s.toNat), (4, 0x2), (4, 0), (5, b.toNat), (5, a.toNat)] 5 d [(8, 0xa0)] ⟨by decide, trivial⟩
  exact bytes_one _ (pack [(1, s.toNat), (4, 0x2), (4, 0), (5, b.toNat), (5, a.toNat), (5, d.toNat), (8, 0xa0)]) rfl (pack_lt _ ⟨s.isLt, by decide, by decide, b.isLt, a.isLt, d.isLt, by decide, trivial⟩) 160 hl (by decide)
    (fun _ => (loose_A0 _ _ hl).trans ((decodeA0_2 _ hf).trans (by rw [h0, h1, h2, h3]))) rest
theorem RoundTrip.amominu (s : BitVec 1) (b : BitVec 5) (a : BitVec 5) (d : BitVec 5) : RoundTrip.Statement (.amominu s b a d) := by
  intro _ rest
  have hl : pack [(1, s.toNat), (4, 0x3), (4, 0), (5, b.toNat), (5, a.toNat), (5, d.toNat), (8, 0xa0)] % 256 = 160 := low_pack [(1, s.toNat), (4, 0x3), (4, 0), (5, b.toNat), (5, a.toNat), (5, d.toNat)] 160 (by decide)
  have hf : pack [(1, s.toNat), (4, 0x3), (4, 0), (5, b.toNat), (5, a.toNat), (5, d.toNat), (8, 0xa0)] / 2 ^ 27 % 2 ^ 4 = 3 :=
    seg_pack [(1, s.toNat)] 4 3 [(4, 0), (5, b.toNat), (5, a.toNat), (5, d.toNat), (8, 0xa0)] ⟨by decide, by decide, b.isLt, a.isLt, d.isLt, by decide, trivial⟩
  have h0 : fld (pack [(1, s.toNat), (4, 0x3), (4, 0), (5, b.toNat), (5, a.toNat), (5, d.toNat), (8, 0xa0)]) 31 1 = s :=
    fld_pack [] 1 s [(4, 0x3), (4, 0), (5, b.toNat), (5, a.toNat), (5, d.toNat), (8, 0xa0)] ⟨by decide, by decide, b.isLt, a.isLt, d.isLt, by decide, trivial⟩
  have h1 : fld (pack [(1, s.toNat), (4, 0x3), (4, 0), (5, b.toNat), (5, a.toNat), (5, d.toNat), (8, 0xa0)]) 18 5 = b :=
    fld_pack [(1, s.toNat), (4, 0x3), (4, 0)] 5 b [(5, a.toNat), (5, d.toNat), (8, 0xa0)] ⟨a.isLt, d.isLt, by decide, trivial⟩
  have h2 : fld (pack [(1, s.toNat), (4, 0x3), (4, 0), (5, b.toNat), (5, a.toNat), (5, d.toNat), (8, 0xa0)]) 13 5 = a :=
    fld_pack [(1, s.toNat), (4, 0x3), (4, 0), (5, b.toNat)] 5 a [(5, d.toNat), (8, 0xa0)] ⟨d.isLt, by decide, trivial⟩
  have h3 : fld (pack [(1, s.toNat), (4, 0x3), (4, 0), (5, b.toNat), (5, a.toNat), (5, d.toNat), (8, 0xa0)]) 8 5 = d :=
    fld_pack [(1, s.toNat), (4, 0x3), (4, 0), (5, b.toNat), (5, a.toNat)] 5 d [(8, 0xa0)] ⟨by decide, trivial⟩
  exact bytes_one _ (pack [(1, s.toNat), (4, 0x3), (4, 0), (5, b.toNat), (5, a.toNat), (5, d.toNat), (8, 0xa0)]) rfl (pack_lt _ ⟨s.isLt, by decide, by decide, b.isLt, a.isLt, d.isLt, by decide, trivial⟩) 160 hl (by decide)
    (fun _ => (loose_A0 _ _ hl).trans ((decodeA0_3 _ hf).trans (by rw [h0, h1, h2, h3]))) rest
theorem RoundTrip.amomaxu (s : BitVec 1) (b : BitVec 5) (a : BitVec 5) (d : BitVec 5) : RoundTrip.Statement (.amomaxu s b a d) := by
  intro _ rest
  have hl : pack [(1, s.toNat), (4, 0x4), (4, 0), (5, b.toNat), (5, a.toNat), (5, d.toNat), (8, 0xa0)] % 256 = 160 := low_pack [(1, s.toNat), (4, 0x4), (4, 0), (5, b.toNat), (5, a.toNat), (5, d.toNat)] 160 (by decide)
  have hf : pack [(1, s.toNat), (4, 0x4), (4, 0), (5, b.toNat), (5, a.toNat), (5, d.toNat), (8, 0xa0)] / 2 ^ 27 % 2 ^ 4 = 4 :=
    seg_pack [(1, s.toNat)] 4 4 [(4, 0), (5, b.toNat), (5, a.toNat), (5, d.toNat), (8, 0xa0)] ⟨by decide, by decide, b.isLt, a.isLt, d.isLt, by decide, trivial⟩
  have h0 : fld (pack [(1, s.toNat), (4, 0x4), (4, 0), (5, b.toNat), (5, a.toNat), (5, d.toNat), (8, 0xa0)]) 31 1 = s :=
    fld_pack [] 1 s [(4, 0x4), (4, 0), (5, b.toNat), (5, a.toNat), (5, d.toNat), (8, 0xa0)] ⟨by decide, by decide, b.isLt, a.isLt, d.isLt, by decide, trivial⟩
  have h1 : fld (pack [(1, s.toNat), (4, 0x4), (4, 0), (5, b.toNat), (5, a.toNat), (5, d.toNat), (8, 0xa0)]) 18 5 = b :=
    fld_pack [(1, s.toNat), (4, 0x4), (4, 0)] 5 b [(5, a.toNat), (5, d.toNat), (8, 0xa0)] ⟨a.isLt, d.isLt, by decide, trivial⟩
  have h2 : fld (pack [(1, s.toNat), (4, 0x4), (4, 0), (5, b.toNat), (5, a.toNat), (5, d.toNat), (8, 0xa0)]) 13 5 = a :=
    fld_pack [(1, s.toNat), (4, 0x4), (4, 0), (5, b.toNat)] 5 a [(5, d.toNat), (8, 0xa0)] ⟨d.isLt, by decide, trivial⟩
  have h3 : fld (pack [(1, s.toNat), (4, 0x4), (4, 0), (5, b.toNat), (5, a.toNat), (5, d.toNat), (8, 0xa0)]) 8 5 = d :=
    fld_pack [(1, s.toNat), (4, 0x4), (4, 0), (5, b.toNat), (5, a.toNat)] 5 d [(8, 0xa0)] ⟨by decide, trivial⟩
  exact bytes_one _ (pack [(1, s.toNat), (4, 0x4), (4, 0), (5, b.toNat), (5, a.toNat), (5, d.toNat), (8, 0xa0)]) rfl (pack_lt _ ⟨s.isLt, by decide, by decide, b.isLt, a.isLt, d.isLt, by decide, trivial⟩) 160 hl (by decide)
    (fun _ => (loose_A0 _ _ hl).trans ((decodeA0_4 _ hf).trans (by rw [h0, h1, h2, h3]))) rest
theorem RoundTrip.amoand (s : BitVec 1) (b : BitVec 5) (a : BitVec 5) (d : BitVec 5) : RoundTrip.Statement (.amoand s b a d) := by
  intro _ rest
  have hl : pack [(1, s.toNat), (4, 0x5), (4, 0), (5, b.toNat), (5, a.toNat), (5, d.toNat), (8, 0xa0)] % 256 = 160 := low_pack [(1, s.toNat), (4, 0x5), (4, 0), (5, b.toNat), (5, a.toNat), (5, d.toNat)] 160 (by decide)
  have hf : pack [(1, s.toNat), (4, 0x5), (4, 0), (5, b.toNat), (5, a.toNat), (5, d.toNat), (8, 0xa0)] / 2 ^ 27 % 2 ^ 4 = 5 :=
    seg_pack [(1, s.toNat)] 4 5 [(4, 0), (5, b.toNat), (5, a.toNat), (5, d.toNat), (8, 0xa0)] ⟨by decide, by decide, b.isLt, a.isLt, d.isLt, by decide, trivial⟩
  have h0 : fld (pack [(1, s.toNat), (4, 0x5), (4, 0), (5, b.toNat), (5, a.toNat), (5, d.toNat), (8, 0xa0)]) 31 1 = s :=
    fld_pack [] 1 s [(4, 0x5), (4, 0), (5, b.toNat), (5, a.toNat), (5, d.toNat), (8, 0xa0)] ⟨by decide, by decide, b.isLt, a.isLt, d.isLt, by decide, trivial⟩
  have h1 : fld (pack [(1, s.toNat), (4, 0x5), (4, 0), (5, b.toNat), (5, a.toNat), (5, d.toNat), (8, 0xa0)]) 18 5 = b :=
    fld_pack [(1, s.toNat), (4, 0x5), (4, 0)] 5 b [(5, a.toNat), (5, d.toNat), (8, 0xa0)] ⟨a.isLt, d.isLt, by decide, trivial⟩
  have h2 : fld (pack [(1, s.toNat), (4, 0x5), (4, 0), (5, b.toNat), (5, a.toNat), (5, d.toNat), (8, 0xa0)]) 13 5 = a :=
    fld_pack [(1, s.toNat), (4, 0x5), (4, 0), (5, b.toNat)] 5 a [(5, d.toNat), (8, 0xa0)] ⟨d.isLt, by decide, trivial⟩
  have h3 : fld (pack [(1, s.toNat), (4, 0x5), (4, 0), (5, b.toNat), (5, a.toNat), (5, d.toNat), (8, 0xa0)]) 8 5 = d :=
    fld_pack [(1, s.toNat), (4, 0x5), (4, 0), (5, b.toNat), (5, a.toNat)] 5 d [(8, 0xa0)] ⟨by decide, trivial⟩
  exact bytes_one _ (pack [(1, s.toNat), (4, 0x5), (4, 0), (5, b.toNat), (5, a.toNat), (5, d.toNat), (8, 0xa0)]) rfl (pack_lt _ ⟨s.isLt, by decide, by decide, b.isLt, a.isLt, d.isLt, by decide, trivial⟩) 160 hl (by decide)
    (fun _ => (loose_A0 _ _ hl).trans ((decodeA0_5 _ hf).trans (by rw [h0, h1, h2, h3]))) rest
theorem RoundTrip.amoor (s : BitVec 1) (b : BitVec 5) (a : BitVec 5) (d : BitVec 5) : RoundTrip.Statement (.amoor s b a d) := by
  intro _ rest
  have hl : pack [(1, s.toNat), (4, 0x6), (4, 0), (5, b.toNat), (5, a.toNat), (5, d.toNat), (8, 0xa0)] % 256 = 160 := low_pack [(1, s.toNat), (4, 0x6), (4, 0), (5, b.toNat), (5, a.toNat), (5, d.toNat)] 160 (by decide)
  have hf : pack [(1, s.toNat), (4, 0x6), (4, 0), (5, b.toNat), (5, a.toNat), (5, d.toNat), (8, 0xa0)] / 2 ^ 27 % 2 ^ 4 = 6 :=
    seg_pack [(1, s.toNat)] 4 6 [(4, 0), (5, b.toNat), (5, a.toNat), (5, d.toNat), (8, 0xa0)] ⟨by decide, by decide, b.isLt, a.isLt, d.isLt, by decide, trivial⟩
  have h0 : fld (pack [(1, s.toNat), (4, 0x6), (4, 0), (5, b.toNat), (5, a.toNat), (5, d.toNat), (8, 0xa0)]) 31 1 = s :=
    fld_pack [] 1 s [(4, 0x6), (4, 0), (5, b.toNat), (5, a.toNat), (5, d.toNat), (8, 0xa0)] ⟨by decide, by decide, b.isLt, a.isLt, d.isLt, by decide, trivial⟩
  have h1 : fld (pack [(1, s.toNat), (4, 0x6), (4, 0), (5, b.toNat), (5, a.toNat), (5, d.toNat), (8, 0xa0)]) 18 5 = b :=
    fld_pack [(1, s.toNat), (4, 0x6), (4, 0)] 5 b [(5, a.toNat), (5, d.toNat), (8, 0xa0)] ⟨a.isLt, d.isLt, by decide, trivial⟩
  have h2 : fld (pack [(1, s.toNat), (4, 0x6), (4, 0), (5, b.toNat), (5, a.toNat), (5, d.toNat), (8, 0xa0)]) 13 5 = a :=
    fld_pack [(1, s.toNat), (4, 0x6), (4, 0), (5, b.toNat)] 5 a [(5, d.toNat), (8, 0xa0)] ⟨d.isLt, by decide, trivial⟩
  have h3 : fld (pack [(1, s.toNat), (4, 0x6), (4, 0), (5, b.toNat), (5, a.toNat), (5, d.toNat), (8, 0xa0)]) 8 5 = d :=
    fld_pack [(1, s.toNat), (4, 0x6), (4, 0), (5, b.toNat), (5, a.toNat)] 5 d [(8, 0xa0)] ⟨by decide, trivial⟩
  exact bytes_one _ (pack [(1, s.toNat), (4, 0x6), (4, 0), (5, b.toNat), (5, a.toNat), (5, d.toNat), (8, 0xa0)]) rfl (pack_lt _ ⟨s.isLt, by decide, by decide, b.isLt, a.isLt, d.isLt, by decide, trivial⟩) 160 hl (by decide)
    (fun _ => (loose_A0 _ _ hl).trans ((decodeA0_6 _ hf).trans (by rw [h0, h1, h2, h3]))) rest
theorem RoundTrip.amoxor (s : BitVec 1) (b : BitVec 5) (a : BitVec 5) (d : BitVec 5) : RoundTrip.Statement (.amoxor s b a d) := by
  intro _ rest
  have hl : pack [(1, s.toNat), (4, 0x7), (4, 0), (5, b.toNat), (5, a.toNat), (5, d.toNat), (8, 0xa0)] % 256 = 160 := low_pack [(1, s.toNat), (4, 0x7), (4, 0), (5, b.toNat), (5, a.toNat), (5, d.toNat)] 160 (by decide)
  have hf : pack [(1, s.toNat), (4, 0x7), (4, 0), (5, b.toNat), (5, a.toNat), (5, d.toNat), (8, 0xa0)] / 2 ^ 27 % 2 ^ 4 = 7 :=
    seg_pack [(1, s.toNat)] 4 7 [(4, 0), (5, b.toNat), (5, a.toNat), (5, d.toNat), (8, 0xa0)] ⟨by decide, by decide, b.isLt, a.isLt, d.isLt, by decide, trivial⟩
  have h0 : fld (pack [(1, s.toNat), (4, 0x7), (4, 0), (5, b.toNat), (5, a.toNat), (5, d.toNat), (8, 0xa0)]) 31 1 = s :=
    fld_pack [] 1 s [(4, 0x7), (4, 0), (5, b.toNat), (5, a.toNat), (5, d.toNat), (8, 0xa0)] ⟨by decide, by decide, b.isLt, a.isLt, d.isLt, by decide, trivial⟩
  have h1 : fld (pack [(1, s.toNat), (4, 0x7), (4, 0), (5, b.toNat), (5, a.toNat), (5, d.toNat), (8, 0xa0)]) 18 5 = b :=
    fld_pack [(1, s.toNat), (4, 0x7), (4, 0)] 5 b [(5, a.toNat), (5, d.toNat), (8, 0xa0)] ⟨a.isLt, d.isLt, by decide, trivial⟩
  have h2 : fld (pack [(1, s.toNat), (4, 0x7), (4, 0), (5, b.toNat), (5, a.toNat), (5, d.toNat), (8, 0xa0)]) 13 5 = a :=
    fld_pack [(1, s.toNat), (4, 0x7), (4, 0), (5, b.toNat)] 5 a [(5, d.toNat), (8, 0xa0)] ⟨d.isLt, by decide, trivial⟩
  have h3 : fld (pack [(1, s.toNat), (4, 0x7), (4, 0), (5, b.toNat), (5, a.toNat), (5, d.toNat), (8, 0xa0)]) 8 5 = d :=
    fld_pack [(1, s.toNat), (4, 0x7), (4, 0), (5, b.toNat), (5, a.toNat)] 5 d [(8, 0xa0)] ⟨by decide, trivial⟩
  exact bytes_one _ (pack [(1, s.toNat), (4, 0x7), (4, 0), (5, b.toNat), (5, a.toNat), (5, d.toNat), (8, 0xa0)]) rfl (pack_lt _ ⟨s.isLt, by decide, by decide, b.isLt, a.isLt, d.isLt, by decide, trivial⟩) 160 hl (by decide)
    (fun _ => (loose_A0 _ _ hl).trans ((decodeA0_7 _ hf).trans (by rw [h0, h1, h2, h3]))) rest
theorem RoundTrip.amoswap (s : BitVec 1) (b : BitVec 5) (a : BitVec 5) (d : BitVec 5) : RoundTrip.Statement (.amoswap s b a d) := by
  intro _ rest
  have hl : pack [(1, s.toNat), (4, 0x8), (4, 0), (5, b.toNat), (5, a.toNat), (5, d.toNat), (8, 0xa0)] % 256 = 160 := low_pack [(1, s.toNat), (4, 0x8), (4, 0), (5, b.toNat), (5, a.toNat), (5, d.toNat)] 160 (by decide)
  have hf : pack [(1, s.toNat), (4, 0x8), (4, 0), (5, b.toNat), (5, a.toNat), (5, d.toNat), (8, 0xa0)] / 2 ^ 27 % 2 ^ 4 = 8 :=
    seg_pack [(1, s.toNat)] 4 8 [(4, 0), (5, b.toNat), (5, a.toNat), (5, d.toNat), (8, 0xa0)] ⟨by decide, by decide, b.isLt, a.isLt, d.isLt, by decide, trivial⟩
  have h0 : fld (pack [(1, s.toNat), (4, 0x8), (4, 0), (5, b.toNat), (5, a.toNat), (5, d.toNat), (8, 0xa0)]) 31 1 = s :=
    fld_pack [] 1 s [(4, 0x8), (4, 0), (5, b.toNat), (5, a.toNat), (5, d.toNat), (8, 0xa0)] ⟨by decide, by decide, b.isLt, a.isLt, d.isLt, by decide, trivial⟩
  have h1 : fld (pack [(1, s.toNat), (4, 0x8), (4, 0), (5, b.toNat), (5, a.toNat), (5, d.toNat), (8, 0xa0)]) 18 5 = b :=
    fld_pack [(1, s.toNat), (4, 0x8), (4, 0)] 5 b [(5, a.toNat), (5, d.toNat), (8, 0xa0)] ⟨a.isLt, d.isLt, by decide, trivial⟩
  have h2 : fld (pack [(1, s.toNat), (4, 0x8), (4, 0), (5, b.toNat), (5, a.toNat), (5, d.toNat), (8, 0xa0)]) 13 5 = a :=
    fld_pack [(1, s.toNat), (4, 0x8), (4, 0), (5, b.toNat)] 5 a [(5, d.toNat), (8, 0xa0)] ⟨d.isLt, by decide, trivial⟩
  have h3 : fld (pack [(1, s.toNat), (4, 0x8), (4, 0), (5, b.toNat), (5, a.toNat), (5, d.toNat), (8, 0xa0)]) 8 5 = d :=
    fld_pack [(1, s.toNat), (4, 0x8), (4, 0), (5, b.toNat), (5, a.toNat)] 5 d [(8, 0xa0)] ⟨by decide, trivial⟩
  exact bytes_one _ (pack [(1, s.toNat), (4, 0x8), (4, 0), (5, b.toNat), (5, a.toNat), (5, d.toNat), (8, 0xa0)]) rfl (pack_lt _ ⟨s.isLt, by decide, by decide, b.isLt, a.isLt, d.isLt, by decide, trivial⟩) 160 hl (by decide)
    (fun _ => (loose_A0 _ _ hl).trans ((decodeA0_8 _ hf).trans (by rw [h0, h1, h2, h3]))) rest
theorem RoundTrip.amocas (s : BitVec 1) (b : BitVec 5) (a : BitVec 5) (d : BitVec 5) : RoundTrip.Statement (.amocas s b a d) := by
  intro _ rest
  have hl : pack [(1, s.toNat), (4, 0x9), (4, 0), (5, b.toNat), (5, a.toNat), (5, d.toNat), (8, 0xa0)] % 256 = 160 := low_pack [(1, s.toNat), (4, 0x9), (4, 0), (5, b.toNat), (5, a.toNat), (5, d.toNat)] 160 (by decide)
  have hf : pack [(1, s.toNat), (4, 0x9), (4, 0), (5, b.toNat), (5, a.toNat), (5, d.toNat), (8, 0xa0)] / 2 ^ 27 % 2 ^ 4 = 9 :=
    seg_pack [(1, s.toNat)] 4 9 [(4, 0), (5, b.toNat), (5, a.toNat), (5, d.toNat), (8, 0xa0)] ⟨by decide, by decide, b.isLt, a.isLt, d.isLt, by decide, trivial⟩
  have h0 : fld (pack [(1, s.toNat), (4, 0x9), (4, 0), (5, b.toNat), (5, a.toNat), (5, d.toNat), (8, 0xa0)]) 31 1 = s :=
    fld_pack [] 1 s [(4, 0x9), (4, 0), (5, b.toNat), (5, a.toNat), (5, d.toNat), (8, 0xa0)] ⟨by decide, by decide, b.isLt, a.isLt, d.isLt, by decide, trivial⟩
  have h1 : fld (pack [(1, s.toNat), (4, 0x9), (4, 0), (5, b.toNat), (5, a.toNat), (5, d.toNat), (8, 0xa0)]) 18 5 = b :=
    fld_pack [(1, s.toNat), (4, 0x9), (4, 0)] 5 b [(5, a.toNat), (5, d.toNat), (8, 0xa0)] ⟨a.isLt, d.isLt, by decide, trivial⟩
  have h2 : fld (pack [(1, s.toNat), (4, 0x9), (4, 0), (5, b.toNat), (5, a.toNat), (5, d.toNat), (8, 0xa0)]) 13 5 = a :=
    fld_pack [(1, s.toNat), (4, 0x9), (4, 0), (5, b.toNat)] 5 a [(5, d.toNat), (8, 0xa0)] ⟨d.isLt, by decide, trivial⟩
  have h3 : fld (pack [(1, s.toNat), (4, 0x9), (4, 0), (5, b.toNat), (5, a.toNat), (5, d.toNat), (8, 0xa0)]) 8 5 = d :=
    fld_pack [(1, s.toNat), (4, 0x9), (4, 0), (5, b.toNat), (5, a.toNat)] 5 d [(8, 0xa0)] ⟨by decide, trivial⟩
  exact bytes_one _ (pack [(1, s.toNat), (4, 0x9), (4, 0), (5, b.toNat), (5, a.toNat), (5, d.toNat), (8, 0xa0)]) rfl (pack_lt _ ⟨s.isLt, by decide, by decide, b.isLt, a.isLt, d.isLt, by decide, trivial⟩) 160 hl (by decide)
    (fun _ => (loose_A0 _ _ hl).trans ((decodeA0_9 _ hf).trans (by rw [h0, h1, h2, h3]))) rest
theorem RoundTrip.amofadd (s : BitVec 1) (b : BitVec 5) (a : BitVec 5) (d : BitVec 5) : RoundTrip.Statement (.amofadd s b a d) := by
  intro _ rest
  have hl : pack [(1, s.toNat), (4, 0xa), (4, 0), (5, b.toNat), (5, a.toNat), (5, d.toNat), (8, 0xa0)] % 256 = 160 := low_pack [(1, s.toNat), (4, 0xa), (4, 0), (5, b.toNat), (5, a.toNat), (5, d.toNat)] 160 (by decide)
  have hf : pack [(1, s.toNat), (4, 0xa), (4, 0), (5, b.toNat), (5, a.toNat), (5, d.toNat), (8, 0xa0)] / 2 ^ 27 % 2 ^ 4 = 10 :=
    seg_pack [(1, s.toNat)] 4 10 [(4, 0), (5, b.toNat), (5, a.toNat), (5, d.toNat), (8, 0xa0)] ⟨by decide, by decide, b.isLt, a.isLt, d.isLt, by decide, trivial⟩
  have h0 : fld (pack [(1, s.toNat), (4, 0xa), (4, 0), (5, b.toNat), (5, a.toNat), (5, d.toNat), (8, 0xa0)]) 31 1 = s :=
    fld_pack [] 1 s [(4, 0xa), (4, 0), (5, b.toNat), (5, a.toNat), (5, d.toNat), (8, 0xa0)] ⟨by decide, by decide, b.isLt, a.isLt, d.isLt, by decide, trivial⟩
  have h1 : fld (pack [(1, s.toNat), (4, 0xa), (4, 0), (5, b.toNat), (5, a.toNat), (5, d.toNat), (8, 0xa0)]) 18 5 = b :=
    fld_pack [(1, s.toNat), (4, 0xa), (4, 0)] 5 b [(5, a.toNat), (5, d.toNat), (8, 0xa0)] ⟨a.isLt, d.isLt, by decide, trivial⟩
  have h2 : fld (pack [(1, s.toNat), (4, 0xa), (4, 0), (5, b.toNat), (5, a.toNat), (5, d.toNat), (8, 0xa0)]) 13 5 = a :=
    fld_pack [(1, s.toNat), (4, 0xa), (4, 0), (5, b.toNat)] 5 a [(5, d.toNat), (8, 0xa0)] ⟨d.isLt, by decide, trivial⟩
  have h3 : fld (pack [(1, s.toNat), (4, 0xa), (4, 0), (5, b.toNat), (5, a.toNat), (5, d.toNat), (8, 0xa0)]) 8 5 = d :=
    fld_pack [(1, s.toNat), (4, 0xa), (4, 0), (5, b.toNat), (5, a.toNat)] 5 d [(8, 0xa0)] ⟨by decide, trivial⟩
  exact bytes_one _ (pack [(1, s.toNat), (4, 0xa), (4, 0), (5, b.toNat), (5, a.toNat), (5, d.toNat), (8, 0xa0)]) rfl (pack_lt _ ⟨s.isLt, by decide, by decide, b.isLt, a.isLt, d.isLt, by decide, trivial⟩) 160 hl (by decide)
    (fun _ => (loose_A0 _ _ hl).trans ((decodeA0_10 _ hf).trans (by rw [h0, h1, h2, h3]))) rest
theorem RoundTrip.fence : RoundTrip.Statement .fence := by
  intro _ rest
  have hl : pack [(7, 0), (17, 0), (8, 0xa4)] % 256 = 164 := low_pack [(7, 0), (17, 0)] 164 (by decide)
  have hf : pack [(7, 0), (17, 0), (8, 0xa4)] / 2 ^ 25 % 2 ^ 7 = 0 :=
    seg_pack [] 7 0 [(17, 0), (8, 0xa4)] ⟨by decide, by decide, by decide, trivial⟩
  exact bytes_one _ (pack [(7, 0), (17, 0), (8, 0xa4)]) rfl (pack_lt _ ⟨by decide, by decide, by decide, trivial⟩) 164 hl (by decide)
    (fun _ => (loose_A4 _ _ hl).trans ((decodeA4_0 _ hf).trans (rfl))) rest
theorem RoundTrip.ldf (s : BitVec 2) (b : BitVec 5) (a : BitVec 5) (d : BitVec 5) : RoundTrip.Statement (.ldf s b a d) := by
  intro _ rest
  have hl : pack [(7, 0x1), (2, s.toNat), (5, b.toNat), (5, a.toNat), (5, d.toNat), (8, 0xa4)] % 256 = 164 := low_pack [(7, 0x1), (2, s.toNat), (5, b.toNat), (5, a.toNat), (5, d.toNat)] 164 (by decide)
  have hf : pack [(7, 0x1), (2, s.toNat), (5, b.toNat), (5, a.toNat), (5, d.toNat), (8, 0xa4)] / 2 ^ 25 % 2 ^ 7 = 1 :=
    seg_pack [] 7 1 [(2, s.toNat), (5, b.toNat), (5, a.toNat), (5, d.toNat), (8, 0xa4)] ⟨by decide, s.isLt, b.isLt, a.isLt, d.isLt, by decide, trivial⟩
  have h0 : fld (pack [(7, 0x1), (2, s.toNat), (5, b.toNat), (5, a.toNat), (5, d.toNat), (8, 0xa4)]) 23 2 = s :=
    fld_pack [(7, 0x1)] 2 s [(5, b.toNat), (5, a.toNat), (5, d.toNat), (8, 0xa4)] ⟨b.isLt, a.isLt, d.isLt, by decide, trivial⟩
  have h1 : fld (pack [(7, 0x1), (2, s.toNat), (5, b.toNat), (5, a.toNat), (5, d.toNat), (8, 0xa4)]) 18 5 = b :=
    fld_pack [(7, 0x1), (2, s.toNat)] 5 b [(5, a.toNat), (5, d.toNat), (8, 0xa4)] ⟨a.isLt, d.isLt, by decide, trivial⟩
  have h2 : fld (pack [(7, 0x1), (2, s.toNat), (5, b.toNat), (5, a.toNat), (5, d.toNat), (8, 0xa4)]) 13 5 = a :=
    fld_pack [(7, 0x1), (2, s.toNat), (5, b.toNat)] 5 a [(5, d.toNat), (8, 0xa4)] ⟨d.isLt, by decide, trivial⟩
  have h3 : fld (pack [(7, 0x1), (2, s.toNat), (5, b.toNat), (5, a.toNat), (5, d.toNat), (8, 0xa4)]) 8 5 = d :=
    fld_pack [(7, 0x1), (2, s.toNat), (5, b.toNat), (5, a.toNat)] 5 d [(8, 0xa4)] ⟨by decide, trivial⟩
  exact bytes_one _ (pack [(7, 0x1), (2, s.toNat), (5, b.toNat), (5, a.toNat), (5, d.toNat), (8, 0xa4)]) rfl (pack_lt _ ⟨by decide, s.isLt, b.isLt, a.isLt, d.isLt, by decide, trivial⟩) 164 hl (by decide)
    (fun _ => (loose_A4 _ _ hl).trans ((decodeA4_1 _ hf).trans (by rw [h0, h1, h2, h3]))) rest
theorem RoundTrip.ldfe (s : BitVec 2) (b : BitVec 5) (a : BitVec 5) (d : BitVec 5) : RoundTrip.Statement (.ldfe s b a d) := by
  intro _ rest
  have hl : pack [(7, 0x2), (2, s.toNat), (5, b.toNat), (5, a.toNat), (5, d.toNat), (8, 0xa4)] % 256 = 164 := low_pack [(7, 0x2), (2, s.toNat), (5, b.toNat), (5, a.toNat), (5, d.toNat)] 164 (by decide)
  have hf : pack [(7, 0x2), (2, s.toNat), (5, b.toNat), (5, a.toNat), (5, d.toNat), (8, 0xa4)] / 2 ^ 25 % 2 ^ 7 = 2 :=
    seg_pack [] 7 2 [(2, s.toNat), (5, b.toNat), (5, a.toNat), (5, d.toNat), (8, 0xa4)] ⟨by decide, s.isLt, b.isLt, a.isLt, d.isLt, by decide, trivial⟩
  have h0 : fld (pack [(7, 0x2), (2, s.toNat), (5, b.toNat), (5, a.toNat), (5, d.toNat), (8, 0xa4)]) 23 2 = s :=
    fld_pack [(7, 0x2)] 2 s [(5, b.toNat), (5, a.toNat), (5, d.toNat), (8, 0xa4)] ⟨b.isLt, a.isLt, d.isLt, by decide, trivial⟩
  have h1 : fld (pack [(7, 0x2), (2, s.toNat), (5, b.toNat), (5, a.toNat), (5, d.toNat), (8, 0xa4)]) 18 5 = b :=
    fld_pack [(7, 0x2), (2, s.toNat)] 5 b [(5, a.toNat), (5, d.toNat), (8, 0xa4)] ⟨a.isLt, d.isLt, by decide, trivial⟩
  have h2 : fld (pack [(7, 0x2), (2, s.toNat), (5, b.toNat), (5, a.toNat), (5, d.toNat), (8, 0xa4)]) 13 5 = a :=
    fld_pack [(7, 0x2), (2, s.toNat), (5, b.toNat)] 5 a [(5, d.toNat), (8, 0xa4)] ⟨d.isLt, by decide, trivial⟩
  have h3 : fld (pack [(7, 0x2), (2, s.toNat), (5, b.toNat), (5, a.toNat), (5, d.toNat), (8, 0xa4)]) 8 5 = d :=
    fld_pack [(7, 0x2), (2, s.toNat), (5, b.toNat), (5, a.toNat)] 5 d [(8, 0xa4)] ⟨by decide, trivial⟩
  exact bytes_one _ (pack [(7, 0x2), (2, s.toNat), (5, b.toNat), (5, a.toNat), (5, d.toNat), (8, 0xa4)]) rfl (pack_lt _ ⟨by decide, s.isLt, b.isLt, a.isLt, d.isLt, by decide, trivial⟩) 164 hl (by decide)
    (fun _ => (loose_A4 _ _ hl).trans ((decodeA4_2 _ hf).trans (by rw [h0, h1, h2, h3]))) rest
theorem RoundTrip.stf (s : BitVec 2) (b : BitVec 5) (a : BitVec 5) (d : BitVec 5) : RoundTrip.Statement (.stf s b a d) := by
  intro _ rest
  have hl : pack [(7, 0x3), (2, s.toNat), (5, b.toNat), (5, a.toNat), (5, d.toNat), (8, 0xa4)] % 256 = 164 := low_pack [(7, 0x3), (2, s.toNat), (5, b.toNat), (5, a.toNat), (5, d.toNat)] 164 (by decide)
  have hf : pack [(7, 0x3), (2, s.toNat), (5, b.toNat), (5, a.toNat), (5, d.toNat), (8, 0xa4)] / 2 ^ 25 % 2 ^ 7 = 3 :=
    seg_pack [] 7 3 [(2, s.toNat), (5, b.toNat), (5, a.toNat), (5, d.toNat), (8, 0xa4)] ⟨by decide, s.isLt, b.isLt, a.isLt, d.isLt, by decide, trivial⟩
  have h0 : fld (pack [(7, 0x3), (2, s.toNat), (5, b.toNat), (5, a.toNat), (5, d.toNat), (8, 0xa4)]) 23 2 = s :=
    fld_pack [(7, 0x3)] 2 s [(5, b.toNat), (5, a.toNat), (5, d.toNat), (8, 0xa4)] ⟨b.isLt, a.isLt, d.isLt, by decide, trivial⟩
  have h1 : fld (pack [(7, 0x3), (2, s.toNat), (5, b.toNat), (5, a.toNat), (5, d.toNat), (8, 0xa4)]) 18 5 = b :=
    fld_pack [(7, 0x3), (2, s.toNat)] 5 b [(5, a.toNat), (5, d.toNat), (8, 0xa4)] ⟨a.isLt, d.isLt, by decide, trivial⟩
  have h2 : fld (pack [(7, 0x3), (2, s.toNat), (5, b.toNat), (5, a.toNat), (5, d.toNat), (8, 0xa4)]) 13 5 = a :=
    fld_pack [(7, 0x3), (2, s.toNat), (5, b.toNat)] 5 a [(5, d.toNat), (8, 0xa4)] ⟨d.isLt, by decide, trivial⟩
  have h3 : fld (pack [(7, 0x3), (2, s.toNat), (5, b.toNat), (5, a.toNat), (5, d.toNat), (8, 0xa4)]) 8 5 = d :=
    fld_pack [(7, 0x3), (2, s.toNat), (5, b.toNat), (5, a.toNat)] 5 d [(8, 0xa4)] ⟨by decide, trivial⟩
  exact bytes_one _ (pack [(7, 0x3), (2, s.toNat), (5, b.toNat), (5, a.toNat), (5, d.toNat), (8, 0xa4)]) rfl (pack_lt _ ⟨by decide, s.isLt, b.isLt, a.isLt, d.isLt, by decide, trivial⟩) 164 hl (by decide)
    (fun _ => (loose_A4 _ _ hl).trans ((decodeA4_3 _ hf).trans (by rw [h0, h1, h2, h3]))) rest
theorem RoundTrip.pf (s : BitVec 2) (b : BitVec 5) (a : BitVec 5) : RoundTrip.Statement (.pf s b a) := by
  intro _ rest
  have hl : pack [(7, 0), (2, s.toNat), (5, b.toNat), (5, a.toNat), (5, 0), (8, 0xa8)] % 256 = 168 := low_pack [(7, 0), (2, s.toNat), (5, b.toNat), (5, a.toNat), (5, 0)] 168 (by decide)
  have hf : pack [(7, 0), (2, s.toNat), (5, b.toNat), (5, a.toNat), (5, 0), (8, 0xa8)] / 2 ^ 25 % 2 ^ 7 = 0 :=
    seg_pack [] 7 0 [(2, s.toNat), (5, b.toNat), (5, a.toNat), (5, 0), (8, 0xa8)] ⟨by decide, s.isLt, b.isLt, a.isLt, by decide, by decide, trivial⟩
  have h0 : fld (pack [(7, 0), (2, s.toNat), (5, b.toNat), (5, a.toNat), (5, 0), (8, 0xa8)]) 23 2 = s :=
    fld_pack [(7, 0)] 2 s [(5, b.toNat), (5, a.toNat), (5, 0), (8, 0xa8)] ⟨b.isLt, a.isLt, by decide, by decide, trivial⟩
  have h1 : fld (pack [(7, 0), (2, s.toNat), (5, b.toNat), (5, a.toNat), (5, 0), (8, 0xa8)]) 18 5 = b :=
    fld_pack [(7, 0), (2, s.toNat)] 5 b [(5, a.toNat), (5, 0), (8, 0xa8)] ⟨a.isLt, by decide, by decide, trivial⟩
  have h2 : fld (pack [(7, 0), (2, s.toNat), (5, b.toNat), (5, a.toNat), (5, 0), (8, 0xa8)]) 13 5 = a :=
    fld_pack [(7, 0), (2, s.toNat), (5, b.toNat)] 5 a [(5, 0), (8, 0xa8)] ⟨by decide, by decide, trivial⟩
  exact bytes_one _ (pack [(7, 0), (2, s.toNat), (5, b.toNat), (5, a.toNat), (5, 0), (8, 0xa8)]) rfl (pack_lt _ ⟨by decide, s.isLt, b.isLt, a.isLt, by decide, by decide, trivial⟩) 168 hl (by decide)
    (fun _ => (loose_A8 _ _ hl).trans ((decodeA8_0 _ hf).trans (by rw [h0, h1, h2]))) rest
theorem RoundTrip.pfwait (s : BitVec 2) (b : BitVec 5) (a : BitVec 5) (d : BitVec 5) : RoundTrip.Statement (.pfwait s b a d) := by
  intro _ rest
  have hl : pack [(7, 0x1), (2, s.toNat), (5, b.toNat), (5, a.toNat), (5, d.toNat), (8, 0xa8)] % 256 = 168 := low_pack [(7, 0x1), (2, s.toNat), (5, b.toNat), (5, a.toNat), (5, d.toNat)] 168 (by decide)
  have hf : pack [(7, 0x1), (2, s.toNat), (5, b.toNat), (5, a.toNat), (5, d.toNat), (8, 0xa8)] / 2 ^ 25 % 2 ^ 7 = 1 :=
    seg_pack [] 7 1 [(2, s.toNat), (5, b.toNat), (5, a.toNat), (5, d.toNat), (8, 0xa8)] ⟨by decide, s.isLt, b.isLt, a.isLt, d.isLt, by decide, trivial⟩
  have h0 : fld (pack [(7, 0x1), (2, s.toNat), (5, b.toNat), (5, a.toNat), (5, d.toNat), (8, 0xa8)]) 23 2 = s :=
    fld_pack [(7, 0x1)] 2 s [(5, b.toNat), (5, a.toNat), (5, d.toNat), (8, 0xa8)] ⟨b.isLt, a.isLt, d.isLt, by decide, trivial⟩
  have h1 : fld (pack [(7, 0x1), (2, s.toNat), (5, b.toNat), (5, a.toNat), (5, d.toNat), (8, 0xa8)]) 18 5 = b :=
    fld_pack [(7, 0x1), (2, s.toNat)] 5 b [(5, a.toNat), (5, d.toNat), (8, 0xa8)] ⟨a.isLt, d.isLt, by decide, trivial⟩
  have h2 : fld (pack [(7, 0x1), (2, s.toNat), (5, b.toNat), (5, a.toNat), (5, d.toNat), (8, 0xa8)]) 13 5 = a :=
    fld_pack [(7, 0x1), (2, s.toNat), (5, b.toNat)] 5 a [(5, d.toNat), (8, 0xa8)] ⟨d.isLt, by decide, trivial⟩
  have h3 : fld (pack [(7, 0x1), (2, s.toNat), (5, b.toNat), (5, a.toNat), (5, d.toNat), (8, 0xa8)]) 8 5 = d :=
    fld_pack [(7, 0x1), (2, s.toNat), (5, b.toNat), (5, a.toNat)] 5 d [(8, 0xa8)] ⟨by decide, trivial⟩
  exact bytes_one _ (pack [(7, 0x1), (2, s.toNat), (5, b.toNat), (5, a.toNat), (5, d.toNat), (8, 0xa8)]) rfl (pack_lt _ ⟨by decide, s.isLt, b.isLt, a.isLt, d.isLt, by decide, trivial⟩) 168 hl (by decide)
    (fun _ => (loose_A8 _ _ hl).trans ((decodeA8_1 _ hf).trans (by rw [h0, h1, h2, h3]))) rest
theorem RoundTrip.cinv : RoundTrip.Statement .cinv := by
  intro _ rest
  have hl : pack [(7, 0x2), (17, 0), (8, 0xa8)] % 256 = 168 := low_pack [(7, 0x2), (17, 0)] 168 (by decide)
  have hf : pack [(7, 0x2), (17, 0), (8, 0xa8)] / 2 ^ 25 % 2 ^ 7 = 2 :=
    seg_pack [] 7 2 [(17, 0), (8, 0xa8)] ⟨by decide, by decide, by decide, trivial⟩
  exact bytes_one _ (pack [(7, 0x2), (17, 0), (8, 0xa8)]) rfl (pack_lt _ ⟨by decide, by decide, by decide, trivial⟩) 168 hl (by decide)
    (fun _ => (loose_A8 _ _ hl).trans ((decodeA8_2 _ hf).trans (rfl))) rest
theorem RoundTrip.fadd (t : BitVec 1) (b : BitVec 5) (a : BitVec 5) (d : BitVec 5) : RoundTrip.Statement (.fadd t b a d) := by
  intro _ rest
  have hl : pack [(1, t.toNat), (8, 0), (5, b.toNat), (5, a.toNat), (5, d.toNat), (8, 0xb0)] % 256 = 176 := low_pack [(1, t.toNat), (8, 0), (5, b.toNat), (5, a.toNat), (5, d.toNat)] 176 (by decide)
  have hf : pack [(1, t.toNat), (8, 0), (5, b.toNat), (5, a.toNat), (5, d.toNat), (8, 0xb0)] / 2 ^ 23 % 2 ^ 8 = 0 :=
    seg_pack [(1, t.toNat)] 8 0 [(5, b.toNat), (5, a.toNat), (5, d.toNat), (8, 0xb0)] ⟨by decide, b.isLt, a.isLt, d.isLt, by decide, trivial⟩
  have h0 : fld (pack [(1, t.toNat), (8, 0), (5, b.toNat), (5, a.toNat), (5, d.toNat), (8, 0xb0)]) 31 1 = t :=
    fld_pack [] 1 t [(8, 0), (5, b.toNat), (5, a.toNat), (5, d.toNat), (8, 0xb0)] ⟨by decide, b.isLt, a.isLt, d.isLt, by decide, trivial⟩
  have h1 : fld (pack [(1, t.toNat), (8, 0), (5, b.toNat), (5, a.toNat), (5, d.toNat), (8, 0xb0)]) 18 5 = b :=
    fld_pack [(1, t.toNat), (8, 0)] 5 b [(5, a.toNat), (5, d.toNat), (8, 0xb0)] ⟨a.isLt, d.isLt, by decide, trivial⟩
  have h2 : fld (pack [(1, t.toNat), (8, 0), (5, b.toNat), (5, a.toNat), (5, d.toNat), (8, 0xb0)]) 13 5 = a :=
    fld_pack [(1, t.toNat), (8, 0), (5, b.toNat)] 5 a [(5, d.toNat), (8, 0xb0)] ⟨d.isLt, by decide, trivial⟩
  have h3 : fld (pack [(1, t.toNat), (8, 0), (5, b.toNat), (5, a.toNat), (5, d.toNat), (8, 0xb0)]) 8 5 = d :=
    fld_pack [(1, t.toNat), (8, 0), (5, b.toNat), (5, a.toNat)] 5 d [(8, 0xb0)] ⟨by decide, trivial⟩
  exact bytes_one _ (pack [(1, t.toNat), (8, 0), (5, b.toNat), (5, a.toNat), (5, d.toNat), (8, 0xb0)]) rfl (pack_lt _ ⟨t.isLt, by decide, b.isLt, a.isLt, d.isLt, by decide, trivial⟩) 176 hl (by decide)
    (fun _ => (loose_B0 _ _ hl).trans ((decodeB0_0 _ hf).trans (by rw [h0, h1, h2, h3]))) rest
theorem RoundTrip.fsub (t : BitVec 1) (b : BitVec 5) (a : BitVec 5) (d : BitVec 5) : RoundTrip.Statement (.fsub t b a d) := by
  intro _ rest
  have hl : pack [(1, t.toNat), (8, 0x1), (5, b.toNat), (5, a.toNat), (5, d.toNat), (8, 0xb0)] % 256 = 176 := low_pack [(1, t.toNat), (8, 0x1), (5, b.toNat), (5, a.toNat), (5, d.toNat)] 176 (by decide)
  have hf : pack [(1, t.toNat), (8, 0x1), (5, b.toNat), (5, a.toNat), (5, d.toNat), (8, 0xb0)] / 2 ^ 23 % 2 ^ 8 = 1 :=
    seg_pack [(1, t.toNat)] 8 1 [(5, b.toNat), (5, a.toNat), (5, d.toNat), (8, 0xb0)] ⟨by decide, b.isLt, a.isLt, d.isLt, by decide, trivial⟩
  have h0 : fld (pack [(1, t.toNat), (8, 0x1), (5, b.toNat), (5, a.toNat), (5, d.toNat), (8, 0xb0)]) 31 1 = t :=
    fld_pack [] 1 t [(8, 0x1), (5, b.toNat), (5, a.toNat), (5, d.toNat), (8, 0xb0)] ⟨by decide, b.isLt, a.isLt, d.isLt, by decide, trivial⟩
  have h1 : fld (pack [(1, t.toNat), (8, 0x1), (5, b.toNat), (5, a.toNat), (5, d.toNat), (8, 0xb0)]) 18 5 = b :=
    fld_pack [(1, t.toNat), (8, 0x1)] 5 b [(5, a.toNat), (5, d.toNat), (8, 0xb0)] ⟨a.isLt, d.isLt, by decide, trivial⟩
  have h2 : fld (pack [(1, t.toNat), (8, 0x1), (5, b.toNat), (5, a.toNat), (5, d.toNat), (8, 0xb0)]) 13 5 = a :=
    fld_pack [(1, t.toNat), (8, 0x1), (5, b.toNat)] 5 a [(5, d.toNat), (8, 0xb0)] ⟨d.isLt, by decide, trivial⟩
  have h3 : fld (pack [(1, t.toNat), (8, 0x1), (5, b.toNat), (5, a.toNat), (5, d.toNat), (8, 0xb0)]) 8 5 = d :=
    fld_pack [(1, t.toNat), (8, 0x1), (5, b.toNat), (5, a.toNat)] 5 d [(8, 0xb0)] ⟨by decide, trivial⟩
  exact bytes_one _ (pack [(1, t.toNat), (8, 0x1), (5, b.toNat), (5, a.toNat), (5, d.toNat), (8, 0xb0)]) rfl (pack_lt _ ⟨t.isLt, by decide, b.isLt, a.isLt, d.isLt, by decide, trivial⟩) 176 hl (by decide)
    (fun _ => (loose_B0 _ _ hl).trans ((decodeB0_1 _ hf).trans (by rw [h0, h1, h2, h3]))) rest
theorem RoundTrip.fmul (t : BitVec 1) (b : BitVec 5) (a : BitVec 5) (d : BitVec 5) : RoundTrip.Statement (.fmul t b a d) := by
  intro _ rest
  have hl : pack [(1, t.toNat), (8, 0x2), (5, b.toNat), (5, a.toNat), (5, d.toNat), (8, 0xb0)] % 256 = 176 := low_pack [(1, t.toNat), (8, 0x2), (5, b.toNat), (5, a.toNat), (5, d.toNat)] 176 (by decide)
  have hf : pack [(1, t.toNat), (8, 0x2), (5, b.toNat), (5, a.toNat), (5, d.toNat), (8, 0xb0)] / 2 ^ 23 % 2 ^ 8 = 2 :=
    seg_pack [(1, t.toNat)] 8 2 [(5, b.toNat), (5, a.toNat), (5, d.toNat), (8, 0xb0)] ⟨by decide, b.isLt, a.isLt, d.isLt, by decide, trivial⟩
  have h0 : fld (pack [(1, t.toNat), (8, 0x2), (5, b.toNat), (5, a.toNat), (5, d.toNat), (8, 0xb0)]) 31 1 = t :=
    fld_pack [] 1 t [(8, 0x2), (5, b.toNat), (5, a.toNat), (5, d.toNat), (8, 0xb0)] ⟨by decide, b.isLt, a.isLt, d.isLt, by decide, trivial⟩
  have h1 : fld (pack [(1, t.toNat), (8, 0x2), (5, b.toNat), (5, a.toNat), (5, d.toNat), (8, 0xb0)]) 18 5 = b :=
    fld_pack [(1, t.toNat), (8, 0x2)] 5 b [(5, a.toNat), (5, d.toNat), (8, 0xb0)] ⟨a.isLt, d.isLt, by decide, trivial⟩
  have h2 : fld (pack [(1, t.toNat), (8, 0x2), (5, b.toNat), (5, a.toNat), (5, d.toNat), (8, 0xb0)]) 13 5 = a :=
    fld_pack [(1, t.toNat), (8, 0x2), (5, b.toNat)] 5 a [(5, d.toNat), (8, 0xb0)] ⟨d.isLt, by decide, trivial⟩
  have h3 : fld (pack [(1, t.toNat), (8, 0x2), (5, b.toNat), (5, a.toNat), (5, d.toNat), (8, 0xb0)]) 8 5 = d :=
    fld_pack [(1, t.toNat), (8, 0x2), (5, b.toNat), (5, a.toNat)] 5 d [(8, 0xb0)] ⟨by decide, trivial⟩
  exact bytes_one _ (pack [(1, t.toNat), (8, 0x2), (5, b.toNat), (5, a.toNat), (5, d.toNat), (8, 0xb0)]) rfl (pack_lt _ ⟨t.isLt, by decide, b.isLt, a.isLt, d.isLt, by decide, trivial⟩) 176 hl (by decide)
    (fun _ => (loose_B0 _ _ hl).trans ((decodeB0_2 _ hf).trans (by rw [h0, h1, h2, h3]))) rest
theorem RoundTrip.fdiv (t : BitVec 1) (b : BitVec 5) (a : BitVec 5) (d : BitVec 5) : RoundTrip.Statement (.fdiv t b a d) := by
  intro _ rest
  have hl : pack [(1, t.toNat), (8, 0x3), (5, b.toNat), (5, a.toNat), (5, d.toNat), (8, 0xb0)] % 256 = 176 := low_pack [(1, t.toNat), (8, 0x3), (5, b.toNat), (5, a.toNat), (5, d.toNat)] 176 (by decide)
  have hf : pack [(1, t.toNat), (8, 0x3), (5, b.toNat), (5, a.toNat), (5, d.toNat), (8, 0xb0)] / 2 ^ 23 % 2 ^ 8 = 3 :=
    seg_pack [(1, t.toNat)] 8 3 [(5, b.toNat), (5, a.toNat), (5, d.toNat), (8, 0xb0)] ⟨by decide, b.isLt, a.isLt, d.isLt, by decide, trivial⟩
  have h0 : fld (pack [(1, t.toNat), (8, 0x3), (5, b.toNat), (5, a.toNat), (5, d.toNat), (8, 0xb0)]) 31 1 = t :=
    fld_pack [] 1 t [(8, 0x3), (5, b.toNat), (5, a.toNat), (5, d.toNat), (8, 0xb0)] ⟨by decide, b.isLt, a.isLt, d.isLt, by decide, trivial⟩
  have h1 : fld (pack [(1, t.toNat), (8, 0x3), (5, b.toNat), (5, a.toNat), (5, d.toNat), (8, 0xb0)]) 18 5 = b :=
    fld_pack [(1, t.toNat), (8, 0x3)] 5 b [(5, a.toNat), (5, d.toNat), (8, 0xb0)] ⟨a.isLt, d.isLt, by decide, trivial⟩
  have h2 : fld (pack [(1, t.toNat), (8, 0x3), (5, b.toNat), (5, a.toNat), (5, d.toNat), (8, 0xb0)]) 13 5 = a :=
    fld_pack [(1, t.toNat), (8, 0x3), (5, b.toNat)] 5 a [(5, d.toNat), (8, 0xb0)] ⟨d.isLt, by decide, trivial⟩
  have h3 : fld (pack [(1, t.toNat), (8, 0x3), (5, b.toNat), (5, a.toNat), (5, d.toNat), (8, 0xb0)]) 8 5 = d :=
    fld_pack [(1, t.toNat), (8, 0x3), (5, b.toNat), (5, a.toNat)] 5 d [(8, 0xb0)] ⟨by decide, trivial⟩
  exact bytes_one _ (pack [(1, t.toNat), (8, 0x3), (5, b.toNat), (5, a.toNat), (5, d.toNat), (8, 0xb0)]) rfl (pack_lt _ ⟨t.isLt, by decide, b.isLt, a.isLt, d.isLt, by decide, trivial⟩) 176 hl (by decide)
    (fun _ => (loose_B0 _ _ hl).trans ((decodeB0_3 _ hf).trans (by rw [h0, h1, h2, h3]))) rest
theorem RoundTrip.fsqrt (t : BitVec 1) (a : BitVec 5) (d : BitVec 5) : RoundTrip.Statement (.fsqrt t a d) := by
  intro _ rest
  have hl : pack [(1, t.toNat), (8, 0x4), (5, 0), (5, a.toNat), (5, d.toNat), (8, 0xb0)] % 256 = 176 := low_pack [(1, t.toNat), (8, 0x4), (5, 0), (5, a.toNat), (5, d.toNat)] 176 (by decide)
  have hf : pack [(1, t.toNat), (8, 0x4), (5, 0), (5, a.toNat), (5, d.toNat), (8, 0xb0)] / 2 ^ 23 % 2 ^ 8 = 4 :=
    seg_pack [(1, t.toNat)] 8 4 [(5, 0), (5, a.toNat), (5, d.toNat), (8, 0xb0)] ⟨by decide, by decide, a.isLt, d.isLt, by decide, trivial⟩
  have h0 : fld (pack [(1, t.toNat), (8, 0x4), (5, 0), (5, a.toNat), (5, d.toNat), (8, 0xb0)]) 31 1 = t :=
    fld_pack [] 1 t [(8, 0x4), (5, 0), (5, a.toNat), (5, d.toNat), (8, 0xb0)] ⟨by decide, by decide, a.isLt, d.isLt, by decide, trivial⟩
  have h1 : fld (pack [(1, t.toNat), (8, 0x4), (5, 0), (5, a.toNat), (5, d.toNat), (8, 0xb0)]) 13 5 = a :=
    fld_pack [(1, t.toNat), (8, 0x4), (5, 0)] 5 a [(5, d.toNat), (8, 0xb0)] ⟨d.isLt, by decide, trivial⟩
  have h2 : fld (pack [(1, t.toNat), (8, 0x4), (5, 0), (5, a.toNat), (5, d.toNat), (8, 0xb0)]) 8 5 = d :=
    fld_pack [(1, t.toNat), (8, 0x4), (5, 0), (5, a.toNat)] 5 d [(8, 0xb0)] ⟨by decide, trivial⟩
  exact bytes_one _ (pack [(1, t.toNat), (8, 0x4), (5, 0), (5, a.toNat), (5, d.toNat), (8, 0xb0)]) rfl (pack_lt _ ⟨t.isLt, by decide, by decide, a.isLt, d.isLt, by decide, trivial⟩) 176 hl (by decide)
    (fun _ => (loose_B0 _ _ hl).trans ((decodeB0_4 _ hf).trans (by rw [h0, h1, h2]))) rest
theorem RoundTrip.fma (t : BitVec 1) (b : BitVec 5) (a : BitVec 5) (d : BitVec 5) : RoundTrip.Statement (.fma t b a d) := by
  intro _ rest
  have hl : pack [(1, t.toNat), (8, 0x5), (5, b.toNat), (5, a.toNat), (5, d.toNat), (8, 0xb0)] % 256 = 176 := low_pack [(1, t.toNat), (8, 0x5), (5, b.toNat), (5, a.toNat), (5, d.toNat)] 176 (by decide)
  have hf : pack [(1, t.toNat), (8, 0x5), (5, b.toNat), (5, a.toNat), (5, d.toNat), (8, 0xb0)] / 2 ^ 23 % 2 ^ 8 = 5 :=
    seg_pack [(1, t.toNat)] 8 5 [(5, b.toNat), (5, a.toNat), (5, d.toNat), (8, 0xb0)] ⟨by decide, b.isLt, a.isLt, d.isLt, by decide, trivial⟩
  have h0 : fld (pack [(1, t.toNat), (8, 0x5), (5, b.toNat), (5, a.toNat), (5, d.toNat), (8, 0xb0)]) 31 1 = t :=
    fld_pack [] 1 t [(8, 0x5), (5, b.toNat), (5, a.toNat), (5, d.toNat), (8, 0xb0)] ⟨by decide, b.isLt, a.isLt, d.isLt, by decide, trivial⟩
  have h1 : fld (pack [(1, t.toNat), (8, 0x5), (5, b.toNat), (5, a.toNat), (5, d.toNat), (8, 0xb0)]) 18 5 = b :=
    fld_pack [(1, t.toNat), (8, 0x5)] 5 b [(5, a.toNat), (5, d.toNat), (8, 0xb0)] ⟨a.isLt, d.isLt, by decide, trivial⟩
  have h2 : fld (pack [(1, t.toNat), (8, 0x5), (5, b.toNat), (5, a.toNat), (5, d.toNat), (8, 0xb0)]) 13 5 = a :=
    fld_pack [(1, t.toNat), (8, 0x5), (5, b.toNat)] 5 a [(5, d.toNat), (8, 0xb0)] ⟨d.isLt, by decide, trivial⟩
  have h3 : fld (pack [(1, t.toNat), (8, 0x5), (5, b.toNat), (5, a.toNat), (5, d.toNat), (8, 0xb0)]) 8 5 = d :=
    fld_pack [(1, t.toNat), (8, 0x5), (5, b.toNat), (5, a.toNat)] 5 d [(8, 0xb0)] ⟨by decide, trivial⟩
  exact bytes_one _ (pack [(1, t.toNat), (8, 0x5), (5, b.toNat), (5, a.toNat), (5, d.toNat), (8, 0xb0)]) rfl (pack_lt _ ⟨t.isLt, by decide, b.isLt, a.isLt, d.isLt, by decide, trivial⟩) 176 hl (by decide)
    (fun _ => (loose_B0 _ _ hl).trans ((decodeB0_5 _ hf).trans (by rw [h0, h1, h2, h3]))) rest
theorem RoundTrip.fmin (t : BitVec 1) (b : BitVec 5) (a : BitVec 5) (d : BitVec 5) : RoundTrip.Statement (.fmin t b a d) := by
  intro _ rest
  have hl : pack [(1, t.toNat), (8, 0x6), (5, b.toNat), (5, a.toNat), (5, d.toNat), (8, 0xb0)] % 256 = 176 := low_pack [(1, t.toNat), (8, 0x6), (5, b.toNat), (5, a.toNat), (5, d.toNat)] 176 (by decide)
  have hf : pack [(1, t.toNat), (8, 0x6), (5, b.toNat), (5, a.toNat), (5, d.toNat), (8, 0xb0)] / 2 ^ 23 % 2 ^ 8 = 6 :=
    seg_pack [(1, t.toNat)] 8 6 [(5, b.toNat), (5, a.toNat), (5, d.toNat), (8, 0xb0)] ⟨by decide, b.isLt, a.isLt, d.isLt, by decide, trivial⟩
  have h0 : fld (pack [(1, t.toNat), (8, 0x6), (5, b.toNat), (5, a.toNat), (5, d.toNat), (8, 0xb0)]) 31 1 = t :=
    fld_pack [] 1 t [(8, 0x6), (5, b.toNat), (5, a.toNat), (5, d.toNat), (8, 0xb0)] ⟨by decide, b.isLt, a.isLt, d.isLt, by decide, trivial⟩
  have h1 : fld (pack [(1, t.toNat), (8, 0x6), (5, b.toNat), (5, a.toNat), (5, d.toNat), (8, 0xb0)]) 18 5 = b :=
    fld_pack [(1, t.toNat), (8, 0x6)] 5 b [(5, a.toNat), (5, d.toNat), (8, 0xb0)] ⟨a.isLt, d.isLt, by decide, trivial⟩
  have h2 : fld (pack [(1, t.toNat), (8, 0x6), (5, b.toNat), (5, a.toNat), (5, d.toNat), (8, 0xb0)]) 13 5 = a :=
    fld_pack [(1, t.toNat), (8, 0x6), (5, b.toNat)] 5 a [(5, d.toNat), (8, 0xb0)] ⟨d.isLt, by decide, trivial⟩
  have h3 : fld (pack [(1, t.toNat), (8, 0x6), (5, b.toNat), (5, a.toNat), (5, d.toNat), (8, 0xb0)]) 8 5 = d :=
    fld_pack [(1, t.toNat), (8, 0x6), (5, b.toNat), (5, a.toNat)] 5 d [(8, 0xb0)] ⟨by decide, trivial⟩
  exact bytes_one _ (pack [(1, t.toNat), (8, 0x6), (5, b.toNat), (5, a.toNat), (5, d.toNat), (8, 0xb0)]) rfl (pack_lt _ ⟨t.isLt, by decide, b.isLt, a.isLt, d.isLt, by decide, trivial⟩) 176 hl (by decide)
    (fun _ => (loose_B0 _ _ hl).trans ((decodeB0_6 _ hf).trans (by rw [h0, h1, h2, h3]))) rest
theorem RoundTrip.fmax (t : BitVec 1) (b : BitVec 5) (a : BitVec 5) (d : BitVec 5) : RoundTrip.Statement (.fmax t b a d) := by
  intro _ rest
  have hl : pack [(1, t.toNat), (8, 0x7), (5, b.toNat), (5, a.toNat), (5, d.toNat), (8, 0xb0)] % 256 = 176 := low_pack [(1, t.toNat), (8, 0x7), (5, b.toNat), (5, a.toNat), (5, d.toNat)] 176 (by decide)
  have hf : pack [(1, t.toNat), (8, 0x7), (5, b.toNat), (5, a.toNat), (5, d.toNat), (8, 0xb0)] / 2 ^ 23 % 2 ^ 8 = 7 :=
    seg_pack [(1, t.toNat)] 8 7 [(5, b.toNat), (5, a.toNat), (5, d.toNat), (8, 0xb0)] ⟨by decide, b.isLt, a.isLt, d.isLt, by decide, trivial⟩
  have h0 : fld (pack [(1, t.toNat), (8, 0x7), (5, b.toNat), (5, a.toNat), (5, d.toNat), (8, 0xb0)]) 31 1 = t :=
    fld_pack [] 1 t [(8, 0x7), (5, b.toNat), (5, a.toNat), (5, d.toNat), (8, 0xb0)] ⟨by decide, b.isLt, a.isLt, d.isLt, by decide, trivial⟩
  have h1 : fld (pack [(1, t.toNat), (8, 0x7), (5, b.toNat), (5, a.toNat), (5, d.toNat), (8, 0xb0)]) 18 5 = b :=
    fld_pack [(1, t.toNat), (8, 0x7)] 5 b [(5, a.toNat), (5, d.toNat), (8, 0xb0)] ⟨a.isLt, d.isLt, by decide, trivial⟩
  have h2 : fld (pack [(1, t.toNat), (8, 0x7), (5, b.toNat), (5, a.toNat), (5, d.toNat), (8, 0xb0)]) 13 5 = a :=
    fld_pack [(1, t.toNat), (8, 0x7), (5, b.toNat)] 5 a [(5, d.toNat), (8, 0xb0)] ⟨d.isLt, by decide, trivial⟩
  have h3 : fld (pack [(1, t.toNat), (8, 0x7), (5, b.toNat), (5, a.toNat), (5, d.toNat), (8, 0xb0)]) 8 5 = d :=
    fld_pack [(1, t.toNat), (8, 0x7), (5, b.toNat), (5, a.toNat)] 5 d [(8, 0xb0)] ⟨by decide, trivial⟩
  exact bytes_one _ (pack [(1, t.toNat), (8, 0x7), (5, b.toNat), (5, a.toNat), (5, d.toNat), (8, 0xb0)]) rfl (pack_lt _ ⟨t.isLt, by decide, b.isLt, a.isLt, d.isLt, by decide, trivial⟩) 176 hl (by decide)
    (fun _ => (loose_B0 _ _ hl).trans ((decodeB0_7 _ hf).trans (by rw [h0, h1, h2, h3]))) rest
theorem RoundTrip.fcmp (t : BitVec 1) (b : BitVec 5) (a : BitVec 5) (d : BitVec 5) : RoundTrip.Statement (.fcmp t b a d) := by
  intro _ rest
  have hl : pack [(1, t.toNat), (8, 0x8), (5, b.toNat), (5, a.toNat), (5, d.toNat), (8, 0xb0)] % 256 = 176 := low_pack [(1, t.toNat), (8, 0x8), (5, b.toNat), (5, a.toNat), (5, d.toNat)] 176 (by decide)
  have hf : pack [(1, t.toNat), (8, 0x8), (5, b.toNat), (5, a.toNat), (5, d.toNat), (8, 0xb0)] / 2 ^ 23 % 2 ^ 8 = 8 :=
    seg_pack [(1, t.toNat)] 8 8 [(5, b.toNat), (5, a.toNat), (5, d.toNat), (8, 0xb0)] ⟨by decide, b.isLt, a.isLt, d.isLt, by decide, trivial⟩
  have h0 : fld (pack [(1, t.toNat), (8, 0x8), (5, b.toNat), (5, a.toNat), (5, d.toNat), (8, 0xb0)]) 31 1 = t :=
    fld_pack [] 1 t [(8, 0x8), (5, b.toNat), (5, a.toNat), (5, d.toNat), (8, 0xb0)] ⟨by decide, b.isLt, a.isLt, d.isLt, by decide, trivial⟩
  have h1 : fld (pack [(1, t.toNat), (8, 0x8), (5, b.toNat), (5, a.toNat), (5, d.toNat), (8, 0xb0)]) 18 5 = b :=
    fld_pack [(1, t.toNat), (8, 0x8)] 5 b [(5, a.toNat), (5, d.toNat), (8, 0xb0)] ⟨a.isLt, d.isLt, by decide, trivial⟩
  have h2 : fld (pack [(1, t.toNat), (8, 0x8), (5, b.toNat), (5, a.toNat), (5, d.toNat), (8, 0xb0)]) 13 5 = a :=
    fld_pack [(1, t.toNat), (8, 0x8), (5, b.toNat)] 5 a [(5, d.toNat), (8, 0xb0)] ⟨d.isLt, by decide, trivial⟩
  have h3 : fld (pack [(1, t.toNat), (8, 0x8), (5, b.toNat), (5, a.toNat), (5, d.toNat), (8, 0xb0)]) 8 5 = d :=
    fld_pack [(1, t.toNat), (8, 0x8), (5, b.toNat), (5, a.toNat)] 5 d [(8, 0xb0)] ⟨by decide, trivial⟩
  exact bytes_one _ (pack [(1, t.toNat), (8, 0x8), (5, b.toNat), (5, a.toNat), (5, d.toNat), (8, 0xb0)]) rfl (pack_lt _ ⟨t.isLt, by decide, b.isLt, a.isLt, d.isLt, by decide, trivial⟩) 176 hl (by decide)
    (fun _ => (loose_B0 _ _ hl).trans ((decodeB0_8 _ hf).trans (by rw [h0, h1, h2, h3]))) rest
theorem RoundTrip.fclass (t : BitVec 1) (a : BitVec 5) (d : BitVec 5) : RoundTrip.Statement (.fclass t a d) := by
  intro _ rest
  have hl : pack [(1, t.toNat), (8, 0x9), (5, 0), (5, a.toNat), (5, d.toNat), (8, 0xb0)] % 256 = 176 := low_pack [(1, t.toNat), (8, 0x9), (5, 0), (5, a.toNat), (5, d.toNat)] 176 (by decide)
  have hf : pack [(1, t.toNat), (8, 0x9), (5, 0), (5, a.toNat), (5, d.toNat), (8, 0xb0)] / 2 ^ 23 % 2 ^ 8 = 9 :=
    seg_pack [(1, t.toNat)] 8 9 [(5, 0), (5, a.toNat), (5, d.toNat), (8, 0xb0)] ⟨by decide, by decide, a.isLt, d.isLt, by decide, trivial⟩
  have h0 : fld (pack [(1, t.toNat), (8, 0x9), (5, 0), (5, a.toNat), (5, d.toNat), (8, 0xb0)]) 31 1 = t :=
    fld_pack [] 1 t [(8, 0x9), (5, 0), (5, a.toNat), (5, d.toNat), (8, 0xb0)] ⟨by decide, by decide, a.isLt, d.isLt, by decide, trivial⟩
  have h1 : fld (pack [(1, t.toNat), (8, 0x9), (5, 0), (5, a.toNat), (5, d.toNat), (8, 0xb0)]) 13 5 = a :=
    fld_pack [(1, t.toNat), (8, 0x9), (5, 0)] 5 a [(5, d.toNat), (8, 0xb0)] ⟨d.isLt, by decide, trivial⟩
  have h2 : fld (pack [(1, t.toNat), (8, 0x9), (5, 0), (5, a.toNat), (5, d.toNat), (8, 0xb0)]) 8 5 = d :=
    fld_pack [(1, t.toNat), (8, 0x9), (5, 0), (5, a.toNat)] 5 d [(8, 0xb0)] ⟨by decide, trivial⟩
  exact bytes_one _ (pack [(1, t.toNat), (8, 0x9), (5, 0), (5, a.toNat), (5, d.toNat), (8, 0xb0)]) rfl (pack_lt _ ⟨t.isLt, by decide, by decide, a.isLt, d.isLt, by decide, trivial⟩) 176 hl (by decide)
    (fun _ => (loose_B0 _ _ hl).trans ((decodeB0_9 _ hf).trans (by rw [h0, h1, h2]))) rest
theorem RoundTrip.fsgn (t : BitVec 1) (m : BitVec 5) (a : BitVec 5) (d : BitVec 5) : RoundTrip.Statement (.fsgn t m a d) := by
  intro _ rest
  have hl : pack [(1, t.toNat), (8, 0xa), (5, m.toNat), (5, a.toNat), (5, d.toNat), (8, 0xb0)] % 256 = 176 := low_pack [(1, t.toNat), (8, 0xa), (5, m.toNat), (5, a.toNat), (5, d.toNat)] 176 (by decide)
  have hf : pack [(1, t.toNat), (8, 0xa), (5, m.toNat), (5, a.toNat), (5, d.toNat), (8, 0xb0)] / 2 ^ 23 % 2 ^ 8 = 10 :=
    seg_pack [(1, t.toNat)] 8 10 [(5, m.toNat), (5, a.toNat), (5, d.toNat), (8, 0xb0)] ⟨by decide, m.isLt, a.isLt, d.isLt, by decide, trivial⟩
  have h0 : fld (pack [(1, t.toNat), (8, 0xa), (5, m.toNat), (5, a.toNat), (5, d.toNat), (8, 0xb0)]) 31 1 = t :=
    fld_pack [] 1 t [(8, 0xa), (5, m.toNat), (5, a.toNat), (5, d.toNat), (8, 0xb0)] ⟨by decide, m.isLt, a.isLt, d.isLt, by decide, trivial⟩
  have h1 : fld (pack [(1, t.toNat), (8, 0xa), (5, m.toNat), (5, a.toNat), (5, d.toNat), (8, 0xb0)]) 18 5 = m :=
    fld_pack [(1, t.toNat), (8, 0xa)] 5 m [(5, a.toNat), (5, d.toNat), (8, 0xb0)] ⟨a.isLt, d.isLt, by decide, trivial⟩
  have h2 : fld (pack [(1, t.toNat), (8, 0xa), (5, m.toNat), (5, a.toNat), (5, d.toNat), (8, 0xb0)]) 13 5 = a :=
    fld_pack [(1, t.toNat), (8, 0xa), (5, m.toNat)] 5 a [(5, d.toNat), (8, 0xb0)] ⟨d.isLt, by decide, trivial⟩
  have h3 : fld (pack [(1, t.toNat), (8, 0xa), (5, m.toNat), (5, a.toNat), (5, d.toNat), (8, 0xb0)]) 8 5 = d :=
    fld_pack [(1, t.toNat), (8, 0xa), (5, m.toNat), (5, a.toNat)] 5 d [(8, 0xb0)] ⟨by decide, trivial⟩
  exact bytes_one _ (pack [(1, t.toNat), (8, 0xa), (5, m.toNat), (5, a.toNat), (5, d.toNat), (8, 0xb0)]) rfl (pack_lt _ ⟨t.isLt, by decide, m.isLt, a.isLt, d.isLt, by decide, trivial⟩) 176 hl (by decide)
    (fun _ => (loose_B0 _ _ hl).trans ((decodeB0_10 _ hf).trans (by rw [h0, h1, h2, h3]))) rest
theorem RoundTrip.fcvt (t : BitVec 1) (c : BitVec 5) (a : BitVec 5) (d : BitVec 5) : RoundTrip.Statement (.fcvt t c a d) := by
  intro _ rest
  have hl : pack [(1, t.toNat), (8, 0xb), (5, c.toNat), (5, a.toNat), (5, d.toNat), (8, 0xb0)] % 256 = 176 := low_pack [(1, t.toNat), (8, 0xb), (5, c.toNat), (5, a.toNat), (5, d.toNat)] 176 (by decide)
  have hf : pack [(1, t.toNat), (8, 0xb), (5, c.toNat), (5, a.toNat), (5, d.toNat), (8, 0xb0)] / 2 ^ 23 % 2 ^ 8 = 11 :=
    seg_pack [(1, t.toNat)] 8 11 [(5, c.toNat), (5, a.toNat), (5, d.toNat), (8, 0xb0)] ⟨by decide, c.isLt, a.isLt, d.isLt, by decide, trivial⟩
  have h0 : fld (pack [(1, t.toNat), (8, 0xb), (5, c.toNat), (5, a.toNat), (5, d.toNat), (8, 0xb0)]) 31 1 = t :=
    fld_pack [] 1 t [(8, 0xb), (5, c.toNat), (5, a.toNat), (5, d.toNat), (8, 0xb0)] ⟨by decide, c.isLt, a.isLt, d.isLt, by decide, trivial⟩
  have h1 : fld (pack [(1, t.toNat), (8, 0xb), (5, c.toNat), (5, a.toNat), (5, d.toNat), (8, 0xb0)]) 18 5 = c :=
    fld_pack [(1, t.toNat), (8, 0xb)] 5 c [(5, a.toNat), (5, d.toNat), (8, 0xb0)] ⟨a.isLt, d.isLt, by decide, trivial⟩
  have h2 : fld (pack [(1, t.toNat), (8, 0xb), (5, c.toNat), (5, a.toNat), (5, d.toNat), (8, 0xb0)]) 13 5 = a :=
    fld_pack [(1, t.toNat), (8, 0xb), (5, c.toNat)] 5 a [(5, d.toNat), (8, 0xb0)] ⟨d.isLt, by decide, trivial⟩
  have h3 : fld (pack [(1, t.toNat), (8, 0xb), (5, c.toNat), (5, a.toNat), (5, d.toNat), (8, 0xb0)]) 8 5 = d :=
    fld_pack [(1, t.toNat), (8, 0xb), (5, c.toNat), (5, a.toNat)] 5 d [(8, 0xb0)] ⟨by decide, trivial⟩
  exact bytes_one _ (pack [(1, t.toNat), (8, 0xb), (5, c.toNat), (5, a.toNat), (5, d.toNat), (8, 0xb0)]) rfl (pack_lt _ ⟨t.isLt, by decide, c.isLt, a.isLt, d.isLt, by decide, trivial⟩) 176 hl (by decide)
    (fun _ => (loose_B0 _ _ hl).trans ((decodeB0_11 _ hf).trans (by rw [h0, h1, h2, h3]))) rest
theorem RoundTrip.xclr (a : BitVec 5) : RoundTrip.Statement (.xclr a) := by
  intro _ rest
  have hl : pack [(9, 0), (5, 0), (5, a.toNat), (5, 0), (8, 0xb4)] % 256 = 180 := low_pack [(9, 0), (5, 0), (5, a.toNat), (5, 0)] 180 (by decide)
  have hf : pack [(9, 0), (5, 0), (5, a.toNat), (5, 0), (8, 0xb4)] / 2 ^ 23 % 2 ^ 9 = 0 :=
    seg_pack [] 9 0 [(5, 0), (5, a.toNat), (5, 0), (8, 0xb4)] ⟨by decide, by decide, a.isLt, by decide, by decide, trivial⟩
  have h0 : fld (pack [(9, 0), (5, 0), (5, a.toNat), (5, 0), (8, 0xb4)]) 13 5 = a :=
    fld_pack [(9, 0), (5, 0)] 5 a [(5, 0), (8, 0xb4)] ⟨by decide, by decide, trivial⟩
  exact bytes_one _ (pack [(9, 0), (5, 0), (5, a.toNat), (5, 0), (8, 0xb4)]) rfl (pack_lt _ ⟨by decide, by decide, a.isLt, by decide, by decide, trivial⟩) 180 hl (by decide)
    (fun _ => (loose_B4 _ _ hl).trans ((decodeB4_0 _ hf).trans (by rw [h0]))) rest
theorem RoundTrip.xacc (b : BitVec 5) (a : BitVec 5) (t : BitVec 5) : RoundTrip.Statement (.xacc b a t) := by
  intro _ rest
  have hl : pack [(9, 0x1), (5, b.toNat), (5, a.toNat), (5, t.toNat), (8, 0xb4)] % 256 = 180 := low_pack [(9, 0x1), (5, b.toNat), (5, a.toNat), (5, t.toNat)] 180 (by decide)
  have hf : pack [(9, 0x1), (5, b.toNat), (5, a.toNat), (5, t.toNat), (8, 0xb4)] / 2 ^ 23 % 2 ^ 9 = 1 :=
    seg_pack [] 9 1 [(5, b.toNat), (5, a.toNat), (5, t.toNat), (8, 0xb4)] ⟨by decide, b.isLt, a.isLt, t.isLt, by decide, trivial⟩
  have h0 : fld (pack [(9, 0x1), (5, b.toNat), (5, a.toNat), (5, t.toNat), (8, 0xb4)]) 18 5 = b :=
    fld_pack [(9, 0x1)] 5 b [(5, a.toNat), (5, t.toNat), (8, 0xb4)] ⟨a.isLt, t.isLt, by decide, trivial⟩
  have h1 : fld (pack [(9, 0x1), (5, b.toNat), (5, a.toNat), (5, t.toNat), (8, 0xb4)]) 13 5 = a :=
    fld_pack [(9, 0x1), (5, b.toNat)] 5 a [(5, t.toNat), (8, 0xb4)] ⟨t.isLt, by decide, trivial⟩
  have h2 : fld (pack [(9, 0x1), (5, b.toNat), (5, a.toNat), (5, t.toNat), (8, 0xb4)]) 8 5 = t :=
    fld_pack [(9, 0x1), (5, b.toNat), (5, a.toNat)] 5 t [(8, 0xb4)] ⟨by decide, trivial⟩
  exact bytes_one _ (pack [(9, 0x1), (5, b.toNat), (5, a.toNat), (5, t.toNat), (8, 0xb4)]) rfl (pack_lt _ ⟨by decide, b.isLt, a.isLt, t.isLt, by decide, trivial⟩) 180 hl (by decide)
    (fun _ => (loose_B4 _ _ hl).trans ((decodeB4_1 _ hf).trans (by rw [h0, h1, h2]))) rest
theorem RoundTrip.xmerge (a : BitVec 5) (d : BitVec 5) : RoundTrip.Statement (.xmerge a d) := by
  intro _ rest
  have hl : pack [(9, 0x2), (5, 0), (5, a.toNat), (5, d.toNat), (8, 0xb4)] % 256 = 180 := low_pack [(9, 0x2), (5, 0), (5, a.toNat), (5, d.toNat)] 180 (by decide)
  have hf : pack [(9, 0x2), (5, 0), (5, a.toNat), (5, d.toNat), (8, 0xb4)] / 2 ^ 23 % 2 ^ 9 = 2 :=
    seg_pack [] 9 2 [(5, 0), (5, a.toNat), (5, d.toNat), (8, 0xb4)] ⟨by decide, by decide, a.isLt, d.isLt, by decide, trivial⟩
  have h0 : fld (pack [(9, 0x2), (5, 0), (5, a.toNat), (5, d.toNat), (8, 0xb4)]) 13 5 = a :=
    fld_pack [(9, 0x2), (5, 0)] 5 a [(5, d.toNat), (8, 0xb4)] ⟨d.isLt, by decide, trivial⟩
  have h1 : fld (pack [(9, 0x2), (5, 0), (5, a.toNat), (5, d.toNat), (8, 0xb4)]) 8 5 = d :=
    fld_pack [(9, 0x2), (5, 0), (5, a.toNat)] 5 d [(8, 0xb4)] ⟨by decide, trivial⟩
  exact bytes_one _ (pack [(9, 0x2), (5, 0), (5, a.toNat), (5, d.toNat), (8, 0xb4)]) rfl (pack_lt _ ⟨by decide, by decide, a.isLt, d.isLt, by decide, trivial⟩) 180 hl (by decide)
    (fun _ => (loose_B4 _ _ hl).trans ((decodeB4_2 _ hf).trans (by rw [h0, h1]))) rest
theorem RoundTrip.xrnd (t : BitVec 5) (a : BitVec 5) (d : BitVec 5) : RoundTrip.Statement (.xrnd t a d) := by
  intro _ rest
  have hl : pack [(9, 0x3), (5, t.toNat), (5, a.toNat), (5, d.toNat), (8, 0xb4)] % 256 = 180 := low_pack [(9, 0x3), (5, t.toNat), (5, a.toNat), (5, d.toNat)] 180 (by decide)
  have hf : pack [(9, 0x3), (5, t.toNat), (5, a.toNat), (5, d.toNat), (8, 0xb4)] / 2 ^ 23 % 2 ^ 9 = 3 :=
    seg_pack [] 9 3 [(5, t.toNat), (5, a.toNat), (5, d.toNat), (8, 0xb4)] ⟨by decide, t.isLt, a.isLt, d.isLt, by decide, trivial⟩
  have h0 : fld (pack [(9, 0x3), (5, t.toNat), (5, a.toNat), (5, d.toNat), (8, 0xb4)]) 18 5 = t :=
    fld_pack [(9, 0x3)] 5 t [(5, a.toNat), (5, d.toNat), (8, 0xb4)] ⟨a.isLt, d.isLt, by decide, trivial⟩
  have h1 : fld (pack [(9, 0x3), (5, t.toNat), (5, a.toNat), (5, d.toNat), (8, 0xb4)]) 13 5 = a :=
    fld_pack [(9, 0x3), (5, t.toNat)] 5 a [(5, d.toNat), (8, 0xb4)] ⟨d.isLt, by decide, trivial⟩
  have h2 : fld (pack [(9, 0x3), (5, t.toNat), (5, a.toNat), (5, d.toNat), (8, 0xb4)]) 8 5 = d :=
    fld_pack [(9, 0x3), (5, t.toNat), (5, a.toNat)] 5 d [(8, 0xb4)] ⟨by decide, trivial⟩
  exact bytes_one _ (pack [(9, 0x3), (5, t.toNat), (5, a.toNat), (5, d.toNat), (8, 0xb4)]) rfl (pack_lt _ ⟨by decide, t.isLt, a.isLt, d.isLt, by decide, trivial⟩) 180 hl (by decide)
    (fun _ => (loose_B4 _ _ hl).trans ((decodeB4_3 _ hf).trans (by rw [h0, h1, h2]))) rest
theorem RoundTrip.vclaim (r : BitVec 5) (d : BitVec 5) : RoundTrip.Statement (.vclaim r d) := by
  intro _ rest
  have hl : pack [(4, 0), (5, 0), (5, r.toNat), (5, 0), (5, d.toNat), (8, 0xc0)] % 256 = 192 := low_pack [(4, 0), (5, 0), (5, r.toNat), (5, 0), (5, d.toNat)] 192 (by decide)
  have hf : pack [(4, 0), (5, 0), (5, r.toNat), (5, 0), (5, d.toNat), (8, 0xc0)] / 2 ^ 23 % 2 ^ 5 = 0 :=
    seg_pack [(4, 0)] 5 0 [(5, r.toNat), (5, 0), (5, d.toNat), (8, 0xc0)] ⟨by decide, r.isLt, by decide, d.isLt, by decide, trivial⟩
  have h0 : fld (pack [(4, 0), (5, 0), (5, r.toNat), (5, 0), (5, d.toNat), (8, 0xc0)]) 18 5 = r :=
    fld_pack [(4, 0), (5, 0)] 5 r [(5, 0), (5, d.toNat), (8, 0xc0)] ⟨by decide, d.isLt, by decide, trivial⟩
  have h1 : fld (pack [(4, 0), (5, 0), (5, r.toNat), (5, 0), (5, d.toNat), (8, 0xc0)]) 8 5 = d :=
    fld_pack [(4, 0), (5, 0), (5, r.toNat), (5, 0)] 5 d [(8, 0xc0)] ⟨by decide, trivial⟩
  exact bytes_one _ (pack [(4, 0), (5, 0), (5, r.toNat), (5, 0), (5, d.toNat), (8, 0xc0)]) rfl (pack_lt _ ⟨by decide, by decide, r.isLt, by decide, d.isLt, by decide, trivial⟩) 192 hl (by decide)
    (fun _ => (loose_C0 _ _ hl).trans ((decodeC0_0 _ hf).trans (by rw [h0, h1]))) rest
theorem RoundTrip.vmov (t : BitVec 4) (a : BitVec 5) (d : BitVec 5) : RoundTrip.Statement (.vmov t a d) := by
  intro _ rest
  have hl : pack [(4, t.toNat), (5, 0x1), (5, 0), (5, a.toNat), (5, d.toNat), (8, 0xc0)] % 256 = 192 := low_pack [(4, t.toNat), (5, 0x1), (5, 0), (5, a.toNat), (5, d.toNat)] 192 (by decide)
  have hf : pack [(4, t.toNat), (5, 0x1), (5, 0), (5, a.toNat), (5, d.toNat), (8, 0xc0)] / 2 ^ 23 % 2 ^ 5 = 1 :=
    seg_pack [(4, t.toNat)] 5 1 [(5, 0), (5, a.toNat), (5, d.toNat), (8, 0xc0)] ⟨by decide, by decide, a.isLt, d.isLt, by decide, trivial⟩
  have h0 : fld (pack [(4, t.toNat), (5, 0x1), (5, 0), (5, a.toNat), (5, d.toNat), (8, 0xc0)]) 28 4 = t :=
    fld_pack [] 4 t [(5, 0x1), (5, 0), (5, a.toNat), (5, d.toNat), (8, 0xc0)] ⟨by decide, by decide, a.isLt, d.isLt, by decide, trivial⟩
  have h1 : fld (pack [(4, t.toNat), (5, 0x1), (5, 0), (5, a.toNat), (5, d.toNat), (8, 0xc0)]) 13 5 = a :=
    fld_pack [(4, t.toNat), (5, 0x1), (5, 0)] 5 a [(5, d.toNat), (8, 0xc0)] ⟨d.isLt, by decide, trivial⟩
  have h2 : fld (pack [(4, t.toNat), (5, 0x1), (5, 0), (5, a.toNat), (5, d.toNat), (8, 0xc0)]) 8 5 = d :=
    fld_pack [(4, t.toNat), (5, 0x1), (5, 0), (5, a.toNat)] 5 d [(8, 0xc0)] ⟨by decide, trivial⟩
  exact bytes_one _ (pack [(4, t.toNat), (5, 0x1), (5, 0), (5, a.toNat), (5, d.toNat), (8, 0xc0)]) rfl (pack_lt _ ⟨t.isLt, by decide, by decide, a.isLt, d.isLt, by decide, trivial⟩) 192 hl (by decide)
    (fun _ => (loose_C0 _ _ hl).trans ((decodeC0_1 _ hf).trans (by rw [h0, h1, h2]))) rest
theorem RoundTrip.vbcast (t : BitVec 4) (a : BitVec 5) (d : BitVec 5) : RoundTrip.Statement (.vbcast t a d) := by
  intro _ rest
  have hl : pack [(4, t.toNat), (5, 0x2), (5, 0), (5, a.toNat), (5, d.toNat), (8, 0xc0)] % 256 = 192 := low_pack [(4, t.toNat), (5, 0x2), (5, 0), (5, a.toNat), (5, d.toNat)] 192 (by decide)
  have hf : pack [(4, t.toNat), (5, 0x2), (5, 0), (5, a.toNat), (5, d.toNat), (8, 0xc0)] / 2 ^ 23 % 2 ^ 5 = 2 :=
    seg_pack [(4, t.toNat)] 5 2 [(5, 0), (5, a.toNat), (5, d.toNat), (8, 0xc0)] ⟨by decide, by decide, a.isLt, d.isLt, by decide, trivial⟩
  have h0 : fld (pack [(4, t.toNat), (5, 0x2), (5, 0), (5, a.toNat), (5, d.toNat), (8, 0xc0)]) 28 4 = t :=
    fld_pack [] 4 t [(5, 0x2), (5, 0), (5, a.toNat), (5, d.toNat), (8, 0xc0)] ⟨by decide, by decide, a.isLt, d.isLt, by decide, trivial⟩
  have h1 : fld (pack [(4, t.toNat), (5, 0x2), (5, 0), (5, a.toNat), (5, d.toNat), (8, 0xc0)]) 13 5 = a :=
    fld_pack [(4, t.toNat), (5, 0x2), (5, 0)] 5 a [(5, d.toNat), (8, 0xc0)] ⟨d.isLt, by decide, trivial⟩
  have h2 : fld (pack [(4, t.toNat), (5, 0x2), (5, 0), (5, a.toNat), (5, d.toNat), (8, 0xc0)]) 8 5 = d :=
    fld_pack [(4, t.toNat), (5, 0x2), (5, 0), (5, a.toNat)] 5 d [(8, 0xc0)] ⟨by decide, trivial⟩
  exact bytes_one _ (pack [(4, t.toNat), (5, 0x2), (5, 0), (5, a.toNat), (5, d.toNat), (8, 0xc0)]) rfl (pack_lt _ ⟨t.isLt, by decide, by decide, a.isLt, d.isLt, by decide, trivial⟩) 192 hl (by decide)
    (fun _ => (loose_C0 _ _ hl).trans ((decodeC0_2 _ hf).trans (by rw [h0, h1, h2]))) rest
theorem RoundTrip.vext (t : BitVec 4) (b : BitVec 5) (a : BitVec 5) (d : BitVec 5) : RoundTrip.Statement (.vext t b a d) := by
  intro _ rest
  have hl : pack [(4, t.toNat), (5, 0x3), (5, b.toNat), (5, a.toNat), (5, d.toNat), (8, 0xc0)] % 256 = 192 := low_pack [(4, t.toNat), (5, 0x3), (5, b.toNat), (5, a.toNat), (5, d.toNat)] 192 (by decide)
  have hf : pack [(4, t.toNat), (5, 0x3), (5, b.toNat), (5, a.toNat), (5, d.toNat), (8, 0xc0)] / 2 ^ 23 % 2 ^ 5 = 3 :=
    seg_pack [(4, t.toNat)] 5 3 [(5, b.toNat), (5, a.toNat), (5, d.toNat), (8, 0xc0)] ⟨by decide, b.isLt, a.isLt, d.isLt, by decide, trivial⟩
  have h0 : fld (pack [(4, t.toNat), (5, 0x3), (5, b.toNat), (5, a.toNat), (5, d.toNat), (8, 0xc0)]) 28 4 = t :=
    fld_pack [] 4 t [(5, 0x3), (5, b.toNat), (5, a.toNat), (5, d.toNat), (8, 0xc0)] ⟨by decide, b.isLt, a.isLt, d.isLt, by decide, trivial⟩
  have h1 : fld (pack [(4, t.toNat), (5, 0x3), (5, b.toNat), (5, a.toNat), (5, d.toNat), (8, 0xc0)]) 18 5 = b :=
    fld_pack [(4, t.toNat), (5, 0x3)] 5 b [(5, a.toNat), (5, d.toNat), (8, 0xc0)] ⟨a.isLt, d.isLt, by decide, trivial⟩
  have h2 : fld (pack [(4, t.toNat), (5, 0x3), (5, b.toNat), (5, a.toNat), (5, d.toNat), (8, 0xc0)]) 13 5 = a :=
    fld_pack [(4, t.toNat), (5, 0x3), (5, b.toNat)] 5 a [(5, d.toNat), (8, 0xc0)] ⟨d.isLt, by decide, trivial⟩
  have h3 : fld (pack [(4, t.toNat), (5, 0x3), (5, b.toNat), (5, a.toNat), (5, d.toNat), (8, 0xc0)]) 8 5 = d :=
    fld_pack [(4, t.toNat), (5, 0x3), (5, b.toNat), (5, a.toNat)] 5 d [(8, 0xc0)] ⟨by decide, trivial⟩
  exact bytes_one _ (pack [(4, t.toNat), (5, 0x3), (5, b.toNat), (5, a.toNat), (5, d.toNat), (8, 0xc0)]) rfl (pack_lt _ ⟨t.isLt, by decide, b.isLt, a.isLt, d.isLt, by decide, trivial⟩) 192 hl (by decide)
    (fun _ => (loose_C0 _ _ hl).trans ((decodeC0_3 _ hf).trans (by rw [h0, h1, h2, h3]))) rest
theorem RoundTrip.vins (t : BitVec 4) (b : BitVec 5) (a : BitVec 5) (d : BitVec 5) : RoundTrip.Statement (.vins t b a d) := by
  intro _ rest
  have hl : pack [(4, t.toNat), (5, 0x4), (5, b.toNat), (5, a.toNat), (5, d.toNat), (8, 0xc0)] % 256 = 192 := low_pack [(4, t.toNat), (5, 0x4), (5, b.toNat), (5, a.toNat), (5, d.toNat)] 192 (by decide)
  have hf : pack [(4, t.toNat), (5, 0x4), (5, b.toNat), (5, a.toNat), (5, d.toNat), (8, 0xc0)] / 2 ^ 23 % 2 ^ 5 = 4 :=
    seg_pack [(4, t.toNat)] 5 4 [(5, b.toNat), (5, a.toNat), (5, d.toNat), (8, 0xc0)] ⟨by decide, b.isLt, a.isLt, d.isLt, by decide, trivial⟩
  have h0 : fld (pack [(4, t.toNat), (5, 0x4), (5, b.toNat), (5, a.toNat), (5, d.toNat), (8, 0xc0)]) 28 4 = t :=
    fld_pack [] 4 t [(5, 0x4), (5, b.toNat), (5, a.toNat), (5, d.toNat), (8, 0xc0)] ⟨by decide, b.isLt, a.isLt, d.isLt, by decide, trivial⟩
  have h1 : fld (pack [(4, t.toNat), (5, 0x4), (5, b.toNat), (5, a.toNat), (5, d.toNat), (8, 0xc0)]) 18 5 = b :=
    fld_pack [(4, t.toNat), (5, 0x4)] 5 b [(5, a.toNat), (5, d.toNat), (8, 0xc0)] ⟨a.isLt, d.isLt, by decide, trivial⟩
  have h2 : fld (pack [(4, t.toNat), (5, 0x4), (5, b.toNat), (5, a.toNat), (5, d.toNat), (8, 0xc0)]) 13 5 = a :=
    fld_pack [(4, t.toNat), (5, 0x4), (5, b.toNat)] 5 a [(5, d.toNat), (8, 0xc0)] ⟨d.isLt, by decide, trivial⟩
  have h3 : fld (pack [(4, t.toNat), (5, 0x4), (5, b.toNat), (5, a.toNat), (5, d.toNat), (8, 0xc0)]) 8 5 = d :=
    fld_pack [(4, t.toNat), (5, 0x4), (5, b.toNat), (5, a.toNat)] 5 d [(8, 0xc0)] ⟨by decide, trivial⟩
  exact bytes_one _ (pack [(4, t.toNat), (5, 0x4), (5, b.toNat), (5, a.toNat), (5, d.toNat), (8, 0xc0)]) rfl (pack_lt _ ⟨t.isLt, by decide, b.isLt, a.isLt, d.isLt, by decide, trivial⟩) 192 hl (by decide)
    (fun _ => (loose_C0 _ _ hl).trans ((decodeC0_4 _ hf).trans (by rw [h0, h1, h2, h3]))) rest
theorem RoundTrip.vadd (t : BitVec 4) (b : BitVec 5) (a : BitVec 5) (d : BitVec 5) : RoundTrip.Statement (.vadd t b a d) := by
  intro _ rest
  have hl : pack [(4, t.toNat), (5, 0), (5, b.toNat), (5, a.toNat), (5, d.toNat), (8, 0xc4)] % 256 = 196 := low_pack [(4, t.toNat), (5, 0), (5, b.toNat), (5, a.toNat), (5, d.toNat)] 196 (by decide)
  have hf : pack [(4, t.toNat), (5, 0), (5, b.toNat), (5, a.toNat), (5, d.toNat), (8, 0xc4)] / 2 ^ 23 % 2 ^ 5 = 0 :=
    seg_pack [(4, t.toNat)] 5 0 [(5, b.toNat), (5, a.toNat), (5, d.toNat), (8, 0xc4)] ⟨by decide, b.isLt, a.isLt, d.isLt, by decide, trivial⟩
  have h0 : fld (pack [(4, t.toNat), (5, 0), (5, b.toNat), (5, a.toNat), (5, d.toNat), (8, 0xc4)]) 28 4 = t :=
    fld_pack [] 4 t [(5, 0), (5, b.toNat), (5, a.toNat), (5, d.toNat), (8, 0xc4)] ⟨by decide, b.isLt, a.isLt, d.isLt, by decide, trivial⟩
  have h1 : fld (pack [(4, t.toNat), (5, 0), (5, b.toNat), (5, a.toNat), (5, d.toNat), (8, 0xc4)]) 18 5 = b :=
    fld_pack [(4, t.toNat), (5, 0)] 5 b [(5, a.toNat), (5, d.toNat), (8, 0xc4)] ⟨a.isLt, d.isLt, by decide, trivial⟩
  have h2 : fld (pack [(4, t.toNat), (5, 0), (5, b.toNat), (5, a.toNat), (5, d.toNat), (8, 0xc4)]) 13 5 = a :=
    fld_pack [(4, t.toNat), (5, 0), (5, b.toNat)] 5 a [(5, d.toNat), (8, 0xc4)] ⟨d.isLt, by decide, trivial⟩
  have h3 : fld (pack [(4, t.toNat), (5, 0), (5, b.toNat), (5, a.toNat), (5, d.toNat), (8, 0xc4)]) 8 5 = d :=
    fld_pack [(4, t.toNat), (5, 0), (5, b.toNat), (5, a.toNat)] 5 d [(8, 0xc4)] ⟨by decide, trivial⟩
  exact bytes_one _ (pack [(4, t.toNat), (5, 0), (5, b.toNat), (5, a.toNat), (5, d.toNat), (8, 0xc4)]) rfl (pack_lt _ ⟨t.isLt, by decide, b.isLt, a.isLt, d.isLt, by decide, trivial⟩) 196 hl (by decide)
    (fun _ => (loose_C4 _ _ hl).trans ((decodeC4_0 _ hf).trans (by rw [h0, h1, h2, h3]))) rest
theorem RoundTrip.vsub (t : BitVec 4) (b : BitVec 5) (a : BitVec 5) (d : BitVec 5) : RoundTrip.Statement (.vsub t b a d) := by
  intro _ rest
  have hl : pack [(4, t.toNat), (5, 0x1), (5, b.toNat), (5, a.toNat), (5, d.toNat), (8, 0xc4)] % 256 = 196 := low_pack [(4, t.toNat), (5, 0x1), (5, b.toNat), (5, a.toNat), (5, d.toNat)] 196 (by decide)
  have hf : pack [(4, t.toNat), (5, 0x1), (5, b.toNat), (5, a.toNat), (5, d.toNat), (8, 0xc4)] / 2 ^ 23 % 2 ^ 5 = 1 :=
    seg_pack [(4, t.toNat)] 5 1 [(5, b.toNat), (5, a.toNat), (5, d.toNat), (8, 0xc4)] ⟨by decide, b.isLt, a.isLt, d.isLt, by decide, trivial⟩
  have h0 : fld (pack [(4, t.toNat), (5, 0x1), (5, b.toNat), (5, a.toNat), (5, d.toNat), (8, 0xc4)]) 28 4 = t :=
    fld_pack [] 4 t [(5, 0x1), (5, b.toNat), (5, a.toNat), (5, d.toNat), (8, 0xc4)] ⟨by decide, b.isLt, a.isLt, d.isLt, by decide, trivial⟩
  have h1 : fld (pack [(4, t.toNat), (5, 0x1), (5, b.toNat), (5, a.toNat), (5, d.toNat), (8, 0xc4)]) 18 5 = b :=
    fld_pack [(4, t.toNat), (5, 0x1)] 5 b [(5, a.toNat), (5, d.toNat), (8, 0xc4)] ⟨a.isLt, d.isLt, by decide, trivial⟩
  have h2 : fld (pack [(4, t.toNat), (5, 0x1), (5, b.toNat), (5, a.toNat), (5, d.toNat), (8, 0xc4)]) 13 5 = a :=
    fld_pack [(4, t.toNat), (5, 0x1), (5, b.toNat)] 5 a [(5, d.toNat), (8, 0xc4)] ⟨d.isLt, by decide, trivial⟩
  have h3 : fld (pack [(4, t.toNat), (5, 0x1), (5, b.toNat), (5, a.toNat), (5, d.toNat), (8, 0xc4)]) 8 5 = d :=
    fld_pack [(4, t.toNat), (5, 0x1), (5, b.toNat), (5, a.toNat)] 5 d [(8, 0xc4)] ⟨by decide, trivial⟩
  exact bytes_one _ (pack [(4, t.toNat), (5, 0x1), (5, b.toNat), (5, a.toNat), (5, d.toNat), (8, 0xc4)]) rfl (pack_lt _ ⟨t.isLt, by decide, b.isLt, a.isLt, d.isLt, by decide, trivial⟩) 196 hl (by decide)
    (fun _ => (loose_C4 _ _ hl).trans ((decodeC4_1 _ hf).trans (by rw [h0, h1, h2, h3]))) rest
theorem RoundTrip.vmul (t : BitVec 4) (b : BitVec 5) (a : BitVec 5) (d : BitVec 5) : RoundTrip.Statement (.vmul t b a d) := by
  intro _ rest
  have hl : pack [(4, t.toNat), (5, 0x2), (5, b.toNat), (5, a.toNat), (5, d.toNat), (8, 0xc4)] % 256 = 196 := low_pack [(4, t.toNat), (5, 0x2), (5, b.toNat), (5, a.toNat), (5, d.toNat)] 196 (by decide)
  have hf : pack [(4, t.toNat), (5, 0x2), (5, b.toNat), (5, a.toNat), (5, d.toNat), (8, 0xc4)] / 2 ^ 23 % 2 ^ 5 = 2 :=
    seg_pack [(4, t.toNat)] 5 2 [(5, b.toNat), (5, a.toNat), (5, d.toNat), (8, 0xc4)] ⟨by decide, b.isLt, a.isLt, d.isLt, by decide, trivial⟩
  have h0 : fld (pack [(4, t.toNat), (5, 0x2), (5, b.toNat), (5, a.toNat), (5, d.toNat), (8, 0xc4)]) 28 4 = t :=
    fld_pack [] 4 t [(5, 0x2), (5, b.toNat), (5, a.toNat), (5, d.toNat), (8, 0xc4)] ⟨by decide, b.isLt, a.isLt, d.isLt, by decide, trivial⟩
  have h1 : fld (pack [(4, t.toNat), (5, 0x2), (5, b.toNat), (5, a.toNat), (5, d.toNat), (8, 0xc4)]) 18 5 = b :=
    fld_pack [(4, t.toNat), (5, 0x2)] 5 b [(5, a.toNat), (5, d.toNat), (8, 0xc4)] ⟨a.isLt, d.isLt, by decide, trivial⟩
  have h2 : fld (pack [(4, t.toNat), (5, 0x2), (5, b.toNat), (5, a.toNat), (5, d.toNat), (8, 0xc4)]) 13 5 = a :=
    fld_pack [(4, t.toNat), (5, 0x2), (5, b.toNat)] 5 a [(5, d.toNat), (8, 0xc4)] ⟨d.isLt, by decide, trivial⟩
  have h3 : fld (pack [(4, t.toNat), (5, 0x2), (5, b.toNat), (5, a.toNat), (5, d.toNat), (8, 0xc4)]) 8 5 = d :=
    fld_pack [(4, t.toNat), (5, 0x2), (5, b.toNat), (5, a.toNat)] 5 d [(8, 0xc4)] ⟨by decide, trivial⟩
  exact bytes_one _ (pack [(4, t.toNat), (5, 0x2), (5, b.toNat), (5, a.toNat), (5, d.toNat), (8, 0xc4)]) rfl (pack_lt _ ⟨t.isLt, by decide, b.isLt, a.isLt, d.isLt, by decide, trivial⟩) 196 hl (by decide)
    (fun _ => (loose_C4 _ _ hl).trans ((decodeC4_2 _ hf).trans (by rw [h0, h1, h2, h3]))) rest
theorem RoundTrip.vfma (t : BitVec 4) (b : BitVec 5) (a : BitVec 5) (d : BitVec 5) : RoundTrip.Statement (.vfma t b a d) := by
  intro _ rest
  have hl : pack [(4, t.toNat), (5, 0x3), (5, b.toNat), (5, a.toNat), (5, d.toNat), (8, 0xc4)] % 256 = 196 := low_pack [(4, t.toNat), (5, 0x3), (5, b.toNat), (5, a.toNat), (5, d.toNat)] 196 (by decide)
  have hf : pack [(4, t.toNat), (5, 0x3), (5, b.toNat), (5, a.toNat), (5, d.toNat), (8, 0xc4)] / 2 ^ 23 % 2 ^ 5 = 3 :=
    seg_pack [(4, t.toNat)] 5 3 [(5, b.toNat), (5, a.toNat), (5, d.toNat), (8, 0xc4)] ⟨by decide, b.isLt, a.isLt, d.isLt, by decide, trivial⟩
  have h0 : fld (pack [(4, t.toNat), (5, 0x3), (5, b.toNat), (5, a.toNat), (5, d.toNat), (8, 0xc4)]) 28 4 = t :=
    fld_pack [] 4 t [(5, 0x3), (5, b.toNat), (5, a.toNat), (5, d.toNat), (8, 0xc4)] ⟨by decide, b.isLt, a.isLt, d.isLt, by decide, trivial⟩
  have h1 : fld (pack [(4, t.toNat), (5, 0x3), (5, b.toNat), (5, a.toNat), (5, d.toNat), (8, 0xc4)]) 18 5 = b :=
    fld_pack [(4, t.toNat), (5, 0x3)] 5 b [(5, a.toNat), (5, d.toNat), (8, 0xc4)] ⟨a.isLt, d.isLt, by decide, trivial⟩
  have h2 : fld (pack [(4, t.toNat), (5, 0x3), (5, b.toNat), (5, a.toNat), (5, d.toNat), (8, 0xc4)]) 13 5 = a :=
    fld_pack [(4, t.toNat), (5, 0x3), (5, b.toNat)] 5 a [(5, d.toNat), (8, 0xc4)] ⟨d.isLt, by decide, trivial⟩
  have h3 : fld (pack [(4, t.toNat), (5, 0x3), (5, b.toNat), (5, a.toNat), (5, d.toNat), (8, 0xc4)]) 8 5 = d :=
    fld_pack [(4, t.toNat), (5, 0x3), (5, b.toNat), (5, a.toNat)] 5 d [(8, 0xc4)] ⟨by decide, trivial⟩
  exact bytes_one _ (pack [(4, t.toNat), (5, 0x3), (5, b.toNat), (5, a.toNat), (5, d.toNat), (8, 0xc4)]) rfl (pack_lt _ ⟨t.isLt, by decide, b.isLt, a.isLt, d.isLt, by decide, trivial⟩) 196 hl (by decide)
    (fun _ => (loose_C4 _ _ hl).trans ((decodeC4_3 _ hf).trans (by rw [h0, h1, h2, h3]))) rest
theorem RoundTrip.vmin (t : BitVec 4) (b : BitVec 5) (a : BitVec 5) (d : BitVec 5) : RoundTrip.Statement (.vmin t b a d) := by
  intro _ rest
  have hl : pack [(4, t.toNat), (5, 0x4), (5, b.toNat), (5, a.toNat), (5, d.toNat), (8, 0xc4)] % 256 = 196 := low_pack [(4, t.toNat), (5, 0x4), (5, b.toNat), (5, a.toNat), (5, d.toNat)] 196 (by decide)
  have hf : pack [(4, t.toNat), (5, 0x4), (5, b.toNat), (5, a.toNat), (5, d.toNat), (8, 0xc4)] / 2 ^ 23 % 2 ^ 5 = 4 :=
    seg_pack [(4, t.toNat)] 5 4 [(5, b.toNat), (5, a.toNat), (5, d.toNat), (8, 0xc4)] ⟨by decide, b.isLt, a.isLt, d.isLt, by decide, trivial⟩
  have h0 : fld (pack [(4, t.toNat), (5, 0x4), (5, b.toNat), (5, a.toNat), (5, d.toNat), (8, 0xc4)]) 28 4 = t :=
    fld_pack [] 4 t [(5, 0x4), (5, b.toNat), (5, a.toNat), (5, d.toNat), (8, 0xc4)] ⟨by decide, b.isLt, a.isLt, d.isLt, by decide, trivial⟩
  have h1 : fld (pack [(4, t.toNat), (5, 0x4), (5, b.toNat), (5, a.toNat), (5, d.toNat), (8, 0xc4)]) 18 5 = b :=
    fld_pack [(4, t.toNat), (5, 0x4)] 5 b [(5, a.toNat), (5, d.toNat), (8, 0xc4)] ⟨a.isLt, d.isLt, by decide, trivial⟩
  have h2 : fld (pack [(4, t.toNat), (5, 0x4), (5, b.toNat), (5, a.toNat), (5, d.toNat), (8, 0xc4)]) 13 5 = a :=
    fld_pack [(4, t.toNat), (5, 0x4), (5, b.toNat)] 5 a [(5, d.toNat), (8, 0xc4)] ⟨d.isLt, by decide, trivial⟩
  have h3 : fld (pack [(4, t.toNat), (5, 0x4), (5, b.toNat), (5, a.toNat), (5, d.toNat), (8, 0xc4)]) 8 5 = d :=
    fld_pack [(4, t.toNat), (5, 0x4), (5, b.toNat), (5, a.toNat)] 5 d [(8, 0xc4)] ⟨by decide, trivial⟩
  exact bytes_one _ (pack [(4, t.toNat), (5, 0x4), (5, b.toNat), (5, a.toNat), (5, d.toNat), (8, 0xc4)]) rfl (pack_lt _ ⟨t.isLt, by decide, b.isLt, a.isLt, d.isLt, by decide, trivial⟩) 196 hl (by decide)
    (fun _ => (loose_C4 _ _ hl).trans ((decodeC4_4 _ hf).trans (by rw [h0, h1, h2, h3]))) rest
theorem RoundTrip.vmax (t : BitVec 4) (b : BitVec 5) (a : BitVec 5) (d : BitVec 5) : RoundTrip.Statement (.vmax t b a d) := by
  intro _ rest
  have hl : pack [(4, t.toNat), (5, 0x5), (5, b.toNat), (5, a.toNat), (5, d.toNat), (8, 0xc4)] % 256 = 196 := low_pack [(4, t.toNat), (5, 0x5), (5, b.toNat), (5, a.toNat), (5, d.toNat)] 196 (by decide)
  have hf : pack [(4, t.toNat), (5, 0x5), (5, b.toNat), (5, a.toNat), (5, d.toNat), (8, 0xc4)] / 2 ^ 23 % 2 ^ 5 = 5 :=
    seg_pack [(4, t.toNat)] 5 5 [(5, b.toNat), (5, a.toNat), (5, d.toNat), (8, 0xc4)] ⟨by decide, b.isLt, a.isLt, d.isLt, by decide, trivial⟩
  have h0 : fld (pack [(4, t.toNat), (5, 0x5), (5, b.toNat), (5, a.toNat), (5, d.toNat), (8, 0xc4)]) 28 4 = t :=
    fld_pack [] 4 t [(5, 0x5), (5, b.toNat), (5, a.toNat), (5, d.toNat), (8, 0xc4)] ⟨by decide, b.isLt, a.isLt, d.isLt, by decide, trivial⟩
  have h1 : fld (pack [(4, t.toNat), (5, 0x5), (5, b.toNat), (5, a.toNat), (5, d.toNat), (8, 0xc4)]) 18 5 = b :=
    fld_pack [(4, t.toNat), (5, 0x5)] 5 b [(5, a.toNat), (5, d.toNat), (8, 0xc4)] ⟨a.isLt, d.isLt, by decide, trivial⟩
  have h2 : fld (pack [(4, t.toNat), (5, 0x5), (5, b.toNat), (5, a.toNat), (5, d.toNat), (8, 0xc4)]) 13 5 = a :=
    fld_pack [(4, t.toNat), (5, 0x5), (5, b.toNat)] 5 a [(5, d.toNat), (8, 0xc4)] ⟨d.isLt, by decide, trivial⟩
  have h3 : fld (pack [(4, t.toNat), (5, 0x5), (5, b.toNat), (5, a.toNat), (5, d.toNat), (8, 0xc4)]) 8 5 = d :=
    fld_pack [(4, t.toNat), (5, 0x5), (5, b.toNat), (5, a.toNat)] 5 d [(8, 0xc4)] ⟨by decide, trivial⟩
  exact bytes_one _ (pack [(4, t.toNat), (5, 0x5), (5, b.toNat), (5, a.toNat), (5, d.toNat), (8, 0xc4)]) rfl (pack_lt _ ⟨t.isLt, by decide, b.isLt, a.isLt, d.isLt, by decide, trivial⟩) 196 hl (by decide)
    (fun _ => (loose_C4 _ _ hl).trans ((decodeC4_5 _ hf).trans (by rw [h0, h1, h2, h3]))) rest
theorem RoundTrip.vand (t : BitVec 4) (b : BitVec 5) (a : BitVec 5) (d : BitVec 5) : RoundTrip.Statement (.vand t b a d) := by
  intro _ rest
  have hl : pack [(4, t.toNat), (5, 0), (5, b.toNat), (5, a.toNat), (5, d.toNat), (8, 0xc8)] % 256 = 200 := low_pack [(4, t.toNat), (5, 0), (5, b.toNat), (5, a.toNat), (5, d.toNat)] 200 (by decide)
  have hf : pack [(4, t.toNat), (5, 0), (5, b.toNat), (5, a.toNat), (5, d.toNat), (8, 0xc8)] / 2 ^ 23 % 2 ^ 5 = 0 :=
    seg_pack [(4, t.toNat)] 5 0 [(5, b.toNat), (5, a.toNat), (5, d.toNat), (8, 0xc8)] ⟨by decide, b.isLt, a.isLt, d.isLt, by decide, trivial⟩
  have h0 : fld (pack [(4, t.toNat), (5, 0), (5, b.toNat), (5, a.toNat), (5, d.toNat), (8, 0xc8)]) 28 4 = t :=
    fld_pack [] 4 t [(5, 0), (5, b.toNat), (5, a.toNat), (5, d.toNat), (8, 0xc8)] ⟨by decide, b.isLt, a.isLt, d.isLt, by decide, trivial⟩
  have h1 : fld (pack [(4, t.toNat), (5, 0), (5, b.toNat), (5, a.toNat), (5, d.toNat), (8, 0xc8)]) 18 5 = b :=
    fld_pack [(4, t.toNat), (5, 0)] 5 b [(5, a.toNat), (5, d.toNat), (8, 0xc8)] ⟨a.isLt, d.isLt, by decide, trivial⟩
  have h2 : fld (pack [(4, t.toNat), (5, 0), (5, b.toNat), (5, a.toNat), (5, d.toNat), (8, 0xc8)]) 13 5 = a :=
    fld_pack [(4, t.toNat), (5, 0), (5, b.toNat)] 5 a [(5, d.toNat), (8, 0xc8)] ⟨d.isLt, by decide, trivial⟩
  have h3 : fld (pack [(4, t.toNat), (5, 0), (5, b.toNat), (5, a.toNat), (5, d.toNat), (8, 0xc8)]) 8 5 = d :=
    fld_pack [(4, t.toNat), (5, 0), (5, b.toNat), (5, a.toNat)] 5 d [(8, 0xc8)] ⟨by decide, trivial⟩
  exact bytes_one _ (pack [(4, t.toNat), (5, 0), (5, b.toNat), (5, a.toNat), (5, d.toNat), (8, 0xc8)]) rfl (pack_lt _ ⟨t.isLt, by decide, b.isLt, a.isLt, d.isLt, by decide, trivial⟩) 200 hl (by decide)
    (fun _ => (loose_C8 _ _ hl).trans ((decodeC8_0 _ hf).trans (by rw [h0, h1, h2, h3]))) rest
theorem RoundTrip.vor (t : BitVec 4) (b : BitVec 5) (a : BitVec 5) (d : BitVec 5) : RoundTrip.Statement (.vor t b a d) := by
  intro _ rest
  have hl : pack [(4, t.toNat), (5, 0x1), (5, b.toNat), (5, a.toNat), (5, d.toNat), (8, 0xc8)] % 256 = 200 := low_pack [(4, t.toNat), (5, 0x1), (5, b.toNat), (5, a.toNat), (5, d.toNat)] 200 (by decide)
  have hf : pack [(4, t.toNat), (5, 0x1), (5, b.toNat), (5, a.toNat), (5, d.toNat), (8, 0xc8)] / 2 ^ 23 % 2 ^ 5 = 1 :=
    seg_pack [(4, t.toNat)] 5 1 [(5, b.toNat), (5, a.toNat), (5, d.toNat), (8, 0xc8)] ⟨by decide, b.isLt, a.isLt, d.isLt, by decide, trivial⟩
  have h0 : fld (pack [(4, t.toNat), (5, 0x1), (5, b.toNat), (5, a.toNat), (5, d.toNat), (8, 0xc8)]) 28 4 = t :=
    fld_pack [] 4 t [(5, 0x1), (5, b.toNat), (5, a.toNat), (5, d.toNat), (8, 0xc8)] ⟨by decide, b.isLt, a.isLt, d.isLt, by decide, trivial⟩
  have h1 : fld (pack [(4, t.toNat), (5, 0x1), (5, b.toNat), (5, a.toNat), (5, d.toNat), (8, 0xc8)]) 18 5 = b :=
    fld_pack [(4, t.toNat), (5, 0x1)] 5 b [(5, a.toNat), (5, d.toNat), (8, 0xc8)] ⟨a.isLt, d.isLt, by decide, trivial⟩
  have h2 : fld (pack [(4, t.toNat), (5, 0x1), (5, b.toNat), (5, a.toNat), (5, d.toNat), (8, 0xc8)]) 13 5 = a :=
    fld_pack [(4, t.toNat), (5, 0x1), (5, b.toNat)] 5 a [(5, d.toNat), (8, 0xc8)] ⟨d.isLt, by decide, trivial⟩
  have h3 : fld (pack [(4, t.toNat), (5, 0x1), (5, b.toNat), (5, a.toNat), (5, d.toNat), (8, 0xc8)]) 8 5 = d :=
    fld_pack [(4, t.toNat), (5, 0x1), (5, b.toNat), (5, a.toNat)] 5 d [(8, 0xc8)] ⟨by decide, trivial⟩
  exact bytes_one _ (pack [(4, t.toNat), (5, 0x1), (5, b.toNat), (5, a.toNat), (5, d.toNat), (8, 0xc8)]) rfl (pack_lt _ ⟨t.isLt, by decide, b.isLt, a.isLt, d.isLt, by decide, trivial⟩) 200 hl (by decide)
    (fun _ => (loose_C8 _ _ hl).trans ((decodeC8_1 _ hf).trans (by rw [h0, h1, h2, h3]))) rest
theorem RoundTrip.vxor (t : BitVec 4) (b : BitVec 5) (a : BitVec 5) (d : BitVec 5) : RoundTrip.Statement (.vxor t b a d) := by
  intro _ rest
  have hl : pack [(4, t.toNat), (5, 0x2), (5, b.toNat), (5, a.toNat), (5, d.toNat), (8, 0xc8)] % 256 = 200 := low_pack [(4, t.toNat), (5, 0x2), (5, b.toNat), (5, a.toNat), (5, d.toNat)] 200 (by decide)
  have hf : pack [(4, t.toNat), (5, 0x2), (5, b.toNat), (5, a.toNat), (5, d.toNat), (8, 0xc8)] / 2 ^ 23 % 2 ^ 5 = 2 :=
    seg_pack [(4, t.toNat)] 5 2 [(5, b.toNat), (5, a.toNat), (5, d.toNat), (8, 0xc8)] ⟨by decide, b.isLt, a.isLt, d.isLt, by decide, trivial⟩
  have h0 : fld (pack [(4, t.toNat), (5, 0x2), (5, b.toNat), (5, a.toNat), (5, d.toNat), (8, 0xc8)]) 28 4 = t :=
    fld_pack [] 4 t [(5, 0x2), (5, b.toNat), (5, a.toNat), (5, d.toNat), (8, 0xc8)] ⟨by decide, b.isLt, a.isLt, d.isLt, by decide, trivial⟩
  have h1 : fld (pack [(4, t.toNat), (5, 0x2), (5, b.toNat), (5, a.toNat), (5, d.toNat), (8, 0xc8)]) 18 5 = b :=
    fld_pack [(4, t.toNat), (5, 0x2)] 5 b [(5, a.toNat), (5, d.toNat), (8, 0xc8)] ⟨a.isLt, d.isLt, by decide, trivial⟩
  have h2 : fld (pack [(4, t.toNat), (5, 0x2), (5, b.toNat), (5, a.toNat), (5, d.toNat), (8, 0xc8)]) 13 5 = a :=
    fld_pack [(4, t.toNat), (5, 0x2), (5, b.toNat)] 5 a [(5, d.toNat), (8, 0xc8)] ⟨d.isLt, by decide, trivial⟩
  have h3 : fld (pack [(4, t.toNat), (5, 0x2), (5, b.toNat), (5, a.toNat), (5, d.toNat), (8, 0xc8)]) 8 5 = d :=
    fld_pack [(4, t.toNat), (5, 0x2), (5, b.toNat), (5, a.toNat)] 5 d [(8, 0xc8)] ⟨by decide, trivial⟩
  exact bytes_one _ (pack [(4, t.toNat), (5, 0x2), (5, b.toNat), (5, a.toNat), (5, d.toNat), (8, 0xc8)]) rfl (pack_lt _ ⟨t.isLt, by decide, b.isLt, a.isLt, d.isLt, by decide, trivial⟩) 200 hl (by decide)
    (fun _ => (loose_C8 _ _ hl).trans ((decodeC8_2 _ hf).trans (by rw [h0, h1, h2, h3]))) rest
theorem RoundTrip.vshl (t : BitVec 4) (b : BitVec 5) (a : BitVec 5) (d : BitVec 5) : RoundTrip.Statement (.vshl t b a d) := by
  intro _ rest
  have hl : pack [(4, t.toNat), (5, 0x3), (5, b.toNat), (5, a.toNat), (5, d.toNat), (8, 0xc8)] % 256 = 200 := low_pack [(4, t.toNat), (5, 0x3), (5, b.toNat), (5, a.toNat), (5, d.toNat)] 200 (by decide)
  have hf : pack [(4, t.toNat), (5, 0x3), (5, b.toNat), (5, a.toNat), (5, d.toNat), (8, 0xc8)] / 2 ^ 23 % 2 ^ 5 = 3 :=
    seg_pack [(4, t.toNat)] 5 3 [(5, b.toNat), (5, a.toNat), (5, d.toNat), (8, 0xc8)] ⟨by decide, b.isLt, a.isLt, d.isLt, by decide, trivial⟩
  have h0 : fld (pack [(4, t.toNat), (5, 0x3), (5, b.toNat), (5, a.toNat), (5, d.toNat), (8, 0xc8)]) 28 4 = t :=
    fld_pack [] 4 t [(5, 0x3), (5, b.toNat), (5, a.toNat), (5, d.toNat), (8, 0xc8)] ⟨by decide, b.isLt, a.isLt, d.isLt, by decide, trivial⟩
  have h1 : fld (pack [(4, t.toNat), (5, 0x3), (5, b.toNat), (5, a.toNat), (5, d.toNat), (8, 0xc8)]) 18 5 = b :=
    fld_pack [(4, t.toNat), (5, 0x3)] 5 b [(5, a.toNat), (5, d.toNat), (8, 0xc8)] ⟨a.isLt, d.isLt, by decide, trivial⟩
  have h2 : fld (pack [(4, t.toNat), (5, 0x3), (5, b.toNat), (5, a.toNat), (5, d.toNat), (8, 0xc8)]) 13 5 = a :=
    fld_pack [(4, t.toNat), (5, 0x3), (5, b.toNat)] 5 a [(5, d.toNat), (8, 0xc8)] ⟨d.isLt, by decide, trivial⟩
  have h3 : fld (pack [(4, t.toNat), (5, 0x3), (5, b.toNat), (5, a.toNat), (5, d.toNat), (8, 0xc8)]) 8 5 = d :=
    fld_pack [(4, t.toNat), (5, 0x3), (5, b.toNat), (5, a.toNat)] 5 d [(8, 0xc8)] ⟨by decide, trivial⟩
  exact bytes_one _ (pack [(4, t.toNat), (5, 0x3), (5, b.toNat), (5, a.toNat), (5, d.toNat), (8, 0xc8)]) rfl (pack_lt _ ⟨t.isLt, by decide, b.isLt, a.isLt, d.isLt, by decide, trivial⟩) 200 hl (by decide)
    (fun _ => (loose_C8 _ _ hl).trans ((decodeC8_3 _ hf).trans (by rw [h0, h1, h2, h3]))) rest
theorem RoundTrip.vshr (t : BitVec 4) (b : BitVec 5) (a : BitVec 5) (d : BitVec 5) : RoundTrip.Statement (.vshr t b a d) := by
  intro _ rest
  have hl : pack [(4, t.toNat), (5, 0x4), (5, b.toNat), (5, a.toNat), (5, d.toNat), (8, 0xc8)] % 256 = 200 := low_pack [(4, t.toNat), (5, 0x4), (5, b.toNat), (5, a.toNat), (5, d.toNat)] 200 (by decide)
  have hf : pack [(4, t.toNat), (5, 0x4), (5, b.toNat), (5, a.toNat), (5, d.toNat), (8, 0xc8)] / 2 ^ 23 % 2 ^ 5 = 4 :=
    seg_pack [(4, t.toNat)] 5 4 [(5, b.toNat), (5, a.toNat), (5, d.toNat), (8, 0xc8)] ⟨by decide, b.isLt, a.isLt, d.isLt, by decide, trivial⟩
  have h0 : fld (pack [(4, t.toNat), (5, 0x4), (5, b.toNat), (5, a.toNat), (5, d.toNat), (8, 0xc8)]) 28 4 = t :=
    fld_pack [] 4 t [(5, 0x4), (5, b.toNat), (5, a.toNat), (5, d.toNat), (8, 0xc8)] ⟨by decide, b.isLt, a.isLt, d.isLt, by decide, trivial⟩
  have h1 : fld (pack [(4, t.toNat), (5, 0x4), (5, b.toNat), (5, a.toNat), (5, d.toNat), (8, 0xc8)]) 18 5 = b :=
    fld_pack [(4, t.toNat), (5, 0x4)] 5 b [(5, a.toNat), (5, d.toNat), (8, 0xc8)] ⟨a.isLt, d.isLt, by decide, trivial⟩
  have h2 : fld (pack [(4, t.toNat), (5, 0x4), (5, b.toNat), (5, a.toNat), (5, d.toNat), (8, 0xc8)]) 13 5 = a :=
    fld_pack [(4, t.toNat), (5, 0x4), (5, b.toNat)] 5 a [(5, d.toNat), (8, 0xc8)] ⟨d.isLt, by decide, trivial⟩
  have h3 : fld (pack [(4, t.toNat), (5, 0x4), (5, b.toNat), (5, a.toNat), (5, d.toNat), (8, 0xc8)]) 8 5 = d :=
    fld_pack [(4, t.toNat), (5, 0x4), (5, b.toNat), (5, a.toNat)] 5 d [(8, 0xc8)] ⟨by decide, trivial⟩
  exact bytes_one _ (pack [(4, t.toNat), (5, 0x4), (5, b.toNat), (5, a.toNat), (5, d.toNat), (8, 0xc8)]) rfl (pack_lt _ ⟨t.isLt, by decide, b.isLt, a.isLt, d.isLt, by decide, trivial⟩) 200 hl (by decide)
    (fun _ => (loose_C8 _ _ hl).trans ((decodeC8_4 _ hf).trans (by rw [h0, h1, h2, h3]))) rest
theorem RoundTrip.vsar (t : BitVec 4) (b : BitVec 5) (a : BitVec 5) (d : BitVec 5) : RoundTrip.Statement (.vsar t b a d) := by
  intro _ rest
  have hl : pack [(4, t.toNat), (5, 0x5), (5, b.toNat), (5, a.toNat), (5, d.toNat), (8, 0xc8)] % 256 = 200 := low_pack [(4, t.toNat), (5, 0x5), (5, b.toNat), (5, a.toNat), (5, d.toNat)] 200 (by decide)
  have hf : pack [(4, t.toNat), (5, 0x5), (5, b.toNat), (5, a.toNat), (5, d.toNat), (8, 0xc8)] / 2 ^ 23 % 2 ^ 5 = 5 :=
    seg_pack [(4, t.toNat)] 5 5 [(5, b.toNat), (5, a.toNat), (5, d.toNat), (8, 0xc8)] ⟨by decide, b.isLt, a.isLt, d.isLt, by decide, trivial⟩
  have h0 : fld (pack [(4, t.toNat), (5, 0x5), (5, b.toNat), (5, a.toNat), (5, d.toNat), (8, 0xc8)]) 28 4 = t :=
    fld_pack [] 4 t [(5, 0x5), (5, b.toNat), (5, a.toNat), (5, d.toNat), (8, 0xc8)] ⟨by decide, b.isLt, a.isLt, d.isLt, by decide, trivial⟩
  have h1 : fld (pack [(4, t.toNat), (5, 0x5), (5, b.toNat), (5, a.toNat), (5, d.toNat), (8, 0xc8)]) 18 5 = b :=
    fld_pack [(4, t.toNat), (5, 0x5)] 5 b [(5, a.toNat), (5, d.toNat), (8, 0xc8)] ⟨a.isLt, d.isLt, by decide, trivial⟩
  have h2 : fld (pack [(4, t.toNat), (5, 0x5), (5, b.toNat), (5, a.toNat), (5, d.toNat), (8, 0xc8)]) 13 5 = a :=
    fld_pack [(4, t.toNat), (5, 0x5), (5, b.toNat)] 5 a [(5, d.toNat), (8, 0xc8)] ⟨d.isLt, by decide, trivial⟩
  have h3 : fld (pack [(4, t.toNat), (5, 0x5), (5, b.toNat), (5, a.toNat), (5, d.toNat), (8, 0xc8)]) 8 5 = d :=
    fld_pack [(4, t.toNat), (5, 0x5), (5, b.toNat), (5, a.toNat)] 5 d [(8, 0xc8)] ⟨by decide, trivial⟩
  exact bytes_one _ (pack [(4, t.toNat), (5, 0x5), (5, b.toNat), (5, a.toNat), (5, d.toNat), (8, 0xc8)]) rfl (pack_lt _ ⟨t.isLt, by decide, b.isLt, a.isLt, d.isLt, by decide, trivial⟩) 200 hl (by decide)
    (fun _ => (loose_C8 _ _ hl).trans ((decodeC8_5 _ hf).trans (by rw [h0, h1, h2, h3]))) rest
theorem RoundTrip.vcmp (t : BitVec 4) (c : BitVec 3) (b : BitVec 5) (a : BitVec 5) (d : BitVec 3) : RoundTrip.Statement (.vcmp t c b a d) := by
  intro _ rest
  have hl : pack [(4, t.toNat), (2, 0), (3, c.toNat), (5, b.toNat), (5, a.toNat), (2, 0), (3, d.toNat), (8, 0xcc)] % 256 = 204 := low_pack [(4, t.toNat), (2, 0), (3, c.toNat), (5, b.toNat), (5, a.toNat), (2, 0), (3, d.toNat)] 204 (by decide)
  have hb : t.toNat < 16 ∧ c.toNat < 8 ∧ b.toNat < 32 ∧ a.toNat < 32 ∧ d.toNat < 8 := ⟨t.isLt, c.isLt, b.isLt, a.isLt, d.isLt⟩
  have hf : pack [(4, t.toNat), (2, 0), (3, c.toNat), (5, b.toNat), (5, a.toNat), (2, 0), (3, d.toNat), (8, 0xcc)] / 2 ^ 23 % 2 ^ 5 = 0 ∨ pack [(4, t.toNat), (2, 0), (3, c.toNat), (5, b.toNat), (5, a.toNat), (2, 0), (3, d.toNat), (8, 0xcc)] / 2 ^ 23 % 2 ^ 5 = 1 ∨ pack [(4, t.toNat), (2, 0), (3, c.toNat), (5, b.toNat), (5, a.toNat), (2, 0), (3, d.toNat), (8, 0xcc)] / 2 ^ 23 % 2 ^ 5 = 2 ∨ pack [(4, t.toNat), (2, 0), (3, c.toNat), (5, b.toNat), (5, a.toNat), (2, 0), (3, d.toNat), (8, 0xcc)] / 2 ^ 23 % 2 ^ 5 = 3 ∨ pack [(4, t.toNat), (2, 0), (3, c.toNat), (5, b.toNat), (5, a.toNat), (2, 0), (3, d.toNat), (8, 0xcc)] / 2 ^ 23 % 2 ^ 5 = 4 ∨ pack [(4, t.toNat), (2, 0), (3, c.toNat), (5, b.toNat), (5, a.toNat), (2, 0), (3, d.toNat), (8, 0xcc)] / 2 ^ 23 % 2 ^ 5 = 5 ∨ pack [(4, t.toNat), (2, 0), (3, c.toNat), (5, b.toNat), (5, a.toNat), (2, 0), (3, d.toNat), (8, 0xcc)] / 2 ^ 23 % 2 ^ 5 = 6 ∨ pack [(4, t.toNat), (2, 0), (3, c.toNat), (5, b.toNat), (5, a.toNat), (2, 0), (3, d.toNat), (8, 0xcc)] / 2 ^ 23 % 2 ^ 5 = 7 := by
    simp only [pack, segWidth]; omega
  have hd : decodeCC (pack [(4, t.toNat), (2, 0), (3, c.toNat), (5, b.toNat), (5, a.toNat), (2, 0), (3, d.toNat), (8, 0xcc)]) = some (.vcmp (fld (pack [(4, t.toNat), (2, 0), (3, c.toNat), (5, b.toNat), (5, a.toNat), (2, 0), (3, d.toNat), (8, 0xcc)]) 28 4) (fld (pack [(4, t.toNat), (2, 0), (3, c.toNat), (5, b.toNat), (5, a.toNat), (2, 0), (3, d.toNat), (8, 0xcc)]) 23 3) (fld (pack [(4, t.toNat), (2, 0), (3, c.toNat), (5, b.toNat), (5, a.toNat), (2, 0), (3, d.toNat), (8, 0xcc)]) 18 5) (fld (pack [(4, t.toNat), (2, 0), (3, c.toNat), (5, b.toNat), (5, a.toNat), (2, 0), (3, d.toNat), (8, 0xcc)]) 13 5) (fld (pack [(4, t.toNat), (2, 0), (3, c.toNat), (5, b.toNat), (5, a.toNat), (2, 0), (3, d.toNat), (8, 0xcc)]) 8 3)) := by
    rcases hf with hf | hf | hf | hf | hf | hf | hf | hf
    · exact decodeCC_0 _ hf
    · exact decodeCC_1 _ hf
    · exact decodeCC_2 _ hf
    · exact decodeCC_3 _ hf
    · exact decodeCC_4 _ hf
    · exact decodeCC_5 _ hf
    · exact decodeCC_6 _ hf
    · exact decodeCC_7 _ hf
  have h0 : fld (pack [(4, t.toNat), (2, 0), (3, c.toNat), (5, b.toNat), (5, a.toNat), (2, 0), (3, d.toNat), (8, 0xcc)]) 28 4 = t :=
    fld_pack [] 4 t [(2, 0), (3, c.toNat), (5, b.toNat), (5, a.toNat), (2, 0), (3, d.toNat), (8, 0xcc)] ⟨by decide, c.isLt, b.isLt, a.isLt, by decide, d.isLt, by decide, trivial⟩
  have h1 : fld (pack [(4, t.toNat), (2, 0), (3, c.toNat), (5, b.toNat), (5, a.toNat), (2, 0), (3, d.toNat), (8, 0xcc)]) 23 3 = c :=
    fld_pack [(4, t.toNat), (2, 0)] 3 c [(5, b.toNat), (5, a.toNat), (2, 0), (3, d.toNat), (8, 0xcc)] ⟨b.isLt, a.isLt, by decide, d.isLt, by decide, trivial⟩
  have h2 : fld (pack [(4, t.toNat), (2, 0), (3, c.toNat), (5, b.toNat), (5, a.toNat), (2, 0), (3, d.toNat), (8, 0xcc)]) 18 5 = b :=
    fld_pack [(4, t.toNat), (2, 0), (3, c.toNat)] 5 b [(5, a.toNat), (2, 0), (3, d.toNat), (8, 0xcc)] ⟨a.isLt, by decide, d.isLt, by decide, trivial⟩
  have h3 : fld (pack [(4, t.toNat), (2, 0), (3, c.toNat), (5, b.toNat), (5, a.toNat), (2, 0), (3, d.toNat), (8, 0xcc)]) 13 5 = a :=
    fld_pack [(4, t.toNat), (2, 0), (3, c.toNat), (5, b.toNat)] 5 a [(2, 0), (3, d.toNat), (8, 0xcc)] ⟨by decide, d.isLt, by decide, trivial⟩
  have h4 : fld (pack [(4, t.toNat), (2, 0), (3, c.toNat), (5, b.toNat), (5, a.toNat), (2, 0), (3, d.toNat), (8, 0xcc)]) 8 3 = d :=
    fld_pack [(4, t.toNat), (2, 0), (3, c.toNat), (5, b.toNat), (5, a.toNat), (2, 0)] 3 d [(8, 0xcc)] ⟨by decide, trivial⟩
  exact bytes_one _ (pack [(4, t.toNat), (2, 0), (3, c.toNat), (5, b.toNat), (5, a.toNat), (2, 0), (3, d.toNat), (8, 0xcc)]) rfl (pack_lt _ ⟨t.isLt, by decide, c.isLt, b.isLt, a.isLt, by decide, d.isLt, by decide, trivial⟩) 204 hl (by decide)
    (fun _ => (loose_CC _ _ hl).trans ((hd).trans (by rw [h0, h1, h2, h3, h4]))) rest
theorem RoundTrip.vsel (t : BitVec 4) (b : BitVec 5) (a : BitVec 5) (d : BitVec 5) : RoundTrip.Statement (.vsel t b a d) := by
  intro _ rest
  have hl : pack [(4, t.toNat), (5, 0x8), (5, b.toNat), (5, a.toNat), (5, d.toNat), (8, 0xcc)] % 256 = 204 := low_pack [(4, t.toNat), (5, 0x8), (5, b.toNat), (5, a.toNat), (5, d.toNat)] 204 (by decide)
  have hf : pack [(4, t.toNat), (5, 0x8), (5, b.toNat), (5, a.toNat), (5, d.toNat), (8, 0xcc)] / 2 ^ 23 % 2 ^ 5 = 8 :=
    seg_pack [(4, t.toNat)] 5 8 [(5, b.toNat), (5, a.toNat), (5, d.toNat), (8, 0xcc)] ⟨by decide, b.isLt, a.isLt, d.isLt, by decide, trivial⟩
  have h0 : fld (pack [(4, t.toNat), (5, 0x8), (5, b.toNat), (5, a.toNat), (5, d.toNat), (8, 0xcc)]) 28 4 = t :=
    fld_pack [] 4 t [(5, 0x8), (5, b.toNat), (5, a.toNat), (5, d.toNat), (8, 0xcc)] ⟨by decide, b.isLt, a.isLt, d.isLt, by decide, trivial⟩
  have h1 : fld (pack [(4, t.toNat), (5, 0x8), (5, b.toNat), (5, a.toNat), (5, d.toNat), (8, 0xcc)]) 18 5 = b :=
    fld_pack [(4, t.toNat), (5, 0x8)] 5 b [(5, a.toNat), (5, d.toNat), (8, 0xcc)] ⟨a.isLt, d.isLt, by decide, trivial⟩
  have h2 : fld (pack [(4, t.toNat), (5, 0x8), (5, b.toNat), (5, a.toNat), (5, d.toNat), (8, 0xcc)]) 13 5 = a :=
    fld_pack [(4, t.toNat), (5, 0x8), (5, b.toNat)] 5 a [(5, d.toNat), (8, 0xcc)] ⟨d.isLt, by decide, trivial⟩
  have h3 : fld (pack [(4, t.toNat), (5, 0x8), (5, b.toNat), (5, a.toNat), (5, d.toNat), (8, 0xcc)]) 8 5 = d :=
    fld_pack [(4, t.toNat), (5, 0x8), (5, b.toNat), (5, a.toNat)] 5 d [(8, 0xcc)] ⟨by decide, trivial⟩
  exact bytes_one _ (pack [(4, t.toNat), (5, 0x8), (5, b.toNat), (5, a.toNat), (5, d.toNat), (8, 0xcc)]) rfl (pack_lt _ ⟨t.isLt, by decide, b.isLt, a.isLt, d.isLt, by decide, trivial⟩) 204 hl (by decide)
    (fun _ => (loose_CC _ _ hl).trans ((decodeCC_8 _ hf).trans (by rw [h0, h1, h2, h3]))) rest
theorem RoundTrip.vperm (t : BitVec 4) (b : BitVec 5) (a : BitVec 5) (d : BitVec 5) : RoundTrip.Statement (.vperm t b a d) := by
  intro _ rest
  have hl : pack [(4, t.toNat), (5, 0x9), (5, b.toNat), (5, a.toNat), (5, d.toNat), (8, 0xcc)] % 256 = 204 := low_pack [(4, t.toNat), (5, 0x9), (5, b.toNat), (5, a.toNat), (5, d.toNat)] 204 (by decide)
  have hf : pack [(4, t.toNat), (5, 0x9), (5, b.toNat), (5, a.toNat), (5, d.toNat), (8, 0xcc)] / 2 ^ 23 % 2 ^ 5 = 9 :=
    seg_pack [(4, t.toNat)] 5 9 [(5, b.toNat), (5, a.toNat), (5, d.toNat), (8, 0xcc)] ⟨by decide, b.isLt, a.isLt, d.isLt, by decide, trivial⟩
  have h0 : fld (pack [(4, t.toNat), (5, 0x9), (5, b.toNat), (5, a.toNat), (5, d.toNat), (8, 0xcc)]) 28 4 = t :=
    fld_pack [] 4 t [(5, 0x9), (5, b.toNat), (5, a.toNat), (5, d.toNat), (8, 0xcc)] ⟨by decide, b.isLt, a.isLt, d.isLt, by decide, trivial⟩
  have h1 : fld (pack [(4, t.toNat), (5, 0x9), (5, b.toNat), (5, a.toNat), (5, d.toNat), (8, 0xcc)]) 18 5 = b :=
    fld_pack [(4, t.toNat), (5, 0x9)] 5 b [(5, a.toNat), (5, d.toNat), (8, 0xcc)] ⟨a.isLt, d.isLt, by decide, trivial⟩
  have h2 : fld (pack [(4, t.toNat), (5, 0x9), (5, b.toNat), (5, a.toNat), (5, d.toNat), (8, 0xcc)]) 13 5 = a :=
    fld_pack [(4, t.toNat), (5, 0x9), (5, b.toNat)] 5 a [(5, d.toNat), (8, 0xcc)] ⟨d.isLt, by decide, trivial⟩
  have h3 : fld (pack [(4, t.toNat), (5, 0x9), (5, b.toNat), (5, a.toNat), (5, d.toNat), (8, 0xcc)]) 8 5 = d :=
    fld_pack [(4, t.toNat), (5, 0x9), (5, b.toNat), (5, a.toNat)] 5 d [(8, 0xcc)] ⟨by decide, trivial⟩
  exact bytes_one _ (pack [(4, t.toNat), (5, 0x9), (5, b.toNat), (5, a.toNat), (5, d.toNat), (8, 0xcc)]) rfl (pack_lt _ ⟨t.isLt, by decide, b.isLt, a.isLt, d.isLt, by decide, trivial⟩) 204 hl (by decide)
    (fun _ => (loose_CC _ _ hl).trans ((decodeCC_9 _ hf).trans (by rw [h0, h1, h2, h3]))) rest
theorem RoundTrip.vcvt (t : BitVec 4) (s : BitVec 4) (a : BitVec 5) (d : BitVec 5) : RoundTrip.Statement (.vcvt t s a d) := by
  intro _ rest
  have hl : pack [(4, t.toNat), (5, 0), (1, 0), (4, s.toNat), (5, a.toNat), (5, d.toNat), (8, 0xd0)] % 256 = 208 := low_pack [(4, t.toNat), (5, 0), (1, 0), (4, s.toNat), (5, a.toNat), (5, d.toNat)] 208 (by decide)
  have hf : pack [(4, t.toNat), (5, 0), (1, 0), (4, s.toNat), (5, a.toNat), (5, d.toNat), (8, 0xd0)] / 2 ^ 23 % 2 ^ 5 = 0 :=
    seg_pack [(4, t.toNat)] 5 0 [(1, 0), (4, s.toNat), (5, a.toNat), (5, d.toNat), (8, 0xd0)] ⟨by decide, by decide, s.isLt, a.isLt, d.isLt, by decide, trivial⟩
  have h0 : fld (pack [(4, t.toNat), (5, 0), (1, 0), (4, s.toNat), (5, a.toNat), (5, d.toNat), (8, 0xd0)]) 28 4 = t :=
    fld_pack [] 4 t [(5, 0), (1, 0), (4, s.toNat), (5, a.toNat), (5, d.toNat), (8, 0xd0)] ⟨by decide, by decide, s.isLt, a.isLt, d.isLt, by decide, trivial⟩
  have h1 : fld (pack [(4, t.toNat), (5, 0), (1, 0), (4, s.toNat), (5, a.toNat), (5, d.toNat), (8, 0xd0)]) 18 4 = s :=
    fld_pack [(4, t.toNat), (5, 0), (1, 0)] 4 s [(5, a.toNat), (5, d.toNat), (8, 0xd0)] ⟨a.isLt, d.isLt, by decide, trivial⟩
  have h2 : fld (pack [(4, t.toNat), (5, 0), (1, 0), (4, s.toNat), (5, a.toNat), (5, d.toNat), (8, 0xd0)]) 13 5 = a :=
    fld_pack [(4, t.toNat), (5, 0), (1, 0), (4, s.toNat)] 5 a [(5, d.toNat), (8, 0xd0)] ⟨d.isLt, by decide, trivial⟩
  have h3 : fld (pack [(4, t.toNat), (5, 0), (1, 0), (4, s.toNat), (5, a.toNat), (5, d.toNat), (8, 0xd0)]) 8 5 = d :=
    fld_pack [(4, t.toNat), (5, 0), (1, 0), (4, s.toNat), (5, a.toNat)] 5 d [(8, 0xd0)] ⟨by decide, trivial⟩
  exact bytes_one _ (pack [(4, t.toNat), (5, 0), (1, 0), (4, s.toNat), (5, a.toNat), (5, d.toNat), (8, 0xd0)]) rfl (pack_lt _ ⟨t.isLt, by decide, by decide, s.isLt, a.isLt, d.isLt, by decide, trivial⟩) 208 hl (by decide)
    (fun _ => (loose_D0 _ _ hl).trans ((decodeD0_0 _ hf).trans (by rw [h0, h1, h2, h3]))) rest
theorem RoundTrip.qcvt (t : BitVec 4) (b : BitVec 5) (a : BitVec 5) (d : BitVec 5) : RoundTrip.Statement (.qcvt t b a d) := by
  intro _ rest
  have hl : pack [(4, t.toNat), (5, 0x1), (5, b.toNat), (5, a.toNat), (5, d.toNat), (8, 0xd0)] % 256 = 208 := low_pack [(4, t.toNat), (5, 0x1), (5, b.toNat), (5, a.toNat), (5, d.toNat)] 208 (by decide)
  have hf : pack [(4, t.toNat), (5, 0x1), (5, b.toNat), (5, a.toNat), (5, d.toNat), (8, 0xd0)] / 2 ^ 23 % 2 ^ 5 = 1 :=
    seg_pack [(4, t.toNat)] 5 1 [(5, b.toNat), (5, a.toNat), (5, d.toNat), (8, 0xd0)] ⟨by decide, b.isLt, a.isLt, d.isLt, by decide, trivial⟩
  have h0 : fld (pack [(4, t.toNat), (5, 0x1), (5, b.toNat), (5, a.toNat), (5, d.toNat), (8, 0xd0)]) 28 4 = t :=
    fld_pack [] 4 t [(5, 0x1), (5, b.toNat), (5, a.toNat), (5, d.toNat), (8, 0xd0)] ⟨by decide, b.isLt, a.isLt, d.isLt, by decide, trivial⟩
  have h1 : fld (pack [(4, t.toNat), (5, 0x1), (5, b.toNat), (5, a.toNat), (5, d.toNat), (8, 0xd0)]) 18 5 = b :=
    fld_pack [(4, t.toNat), (5, 0x1)] 5 b [(5, a.toNat), (5, d.toNat), (8, 0xd0)] ⟨a.isLt, d.isLt, by decide, trivial⟩
  have h2 : fld (pack [(4, t.toNat), (5, 0x1), (5, b.toNat), (5, a.toNat), (5, d.toNat), (8, 0xd0)]) 13 5 = a :=
    fld_pack [(4, t.toNat), (5, 0x1), (5, b.toNat)] 5 a [(5, d.toNat), (8, 0xd0)] ⟨d.isLt, by decide, trivial⟩
  have h3 : fld (pack [(4, t.toNat), (5, 0x1), (5, b.toNat), (5, a.toNat), (5, d.toNat), (8, 0xd0)]) 8 5 = d :=
    fld_pack [(4, t.toNat), (5, 0x1), (5, b.toNat), (5, a.toNat)] 5 d [(8, 0xd0)] ⟨by decide, trivial⟩
  exact bytes_one _ (pack [(4, t.toNat), (5, 0x1), (5, b.toNat), (5, a.toNat), (5, d.toNat), (8, 0xd0)]) rfl (pack_lt _ ⟨t.isLt, by decide, b.isLt, a.isLt, d.isLt, by decide, trivial⟩) 208 hl (by decide)
    (fun _ => (loose_D0 _ _ hl).trans ((decodeD0_1 _ hf).trans (by rw [h0, h1, h2, h3]))) rest
theorem RoundTrip.vred (t : BitVec 4) (o : BitVec 3) (a : BitVec 5) (d : BitVec 5) : RoundTrip.Statement (.vred t o a d) := by
  intro _ rest
  have hl : pack [(4, t.toNat), (2, 0x1), (3, o.toNat), (5, 0), (5, a.toNat), (5, d.toNat), (8, 0xd0)] % 256 = 208 := low_pack [(4, t.toNat), (2, 0x1), (3, o.toNat), (5, 0), (5, a.toNat), (5, d.toNat)] 208 (by decide)
  have hb : t.toNat < 16 ∧ o.toNat < 8 ∧ a.toNat < 32 ∧ d.toNat < 32 := ⟨t.isLt, o.isLt, a.isLt, d.isLt⟩
  have hf : pack [(4, t.toNat), (2, 0x1), (3, o.toNat), (5, 0), (5, a.toNat), (5, d.toNat), (8, 0xd0)] / 2 ^ 23 % 2 ^ 5 = 8 ∨ pack [(4, t.toNat), (2, 0x1), (3, o.toNat), (5, 0), (5, a.toNat), (5, d.toNat), (8, 0xd0)] / 2 ^ 23 % 2 ^ 5 = 9 ∨ pack [(4, t.toNat), (2, 0x1), (3, o.toNat), (5, 0), (5, a.toNat), (5, d.toNat), (8, 0xd0)] / 2 ^ 23 % 2 ^ 5 = 10 ∨ pack [(4, t.toNat), (2, 0x1), (3, o.toNat), (5, 0), (5, a.toNat), (5, d.toNat), (8, 0xd0)] / 2 ^ 23 % 2 ^ 5 = 11 ∨ pack [(4, t.toNat), (2, 0x1), (3, o.toNat), (5, 0), (5, a.toNat), (5, d.toNat), (8, 0xd0)] / 2 ^ 23 % 2 ^ 5 = 12 ∨ pack [(4, t.toNat), (2, 0x1), (3, o.toNat), (5, 0), (5, a.toNat), (5, d.toNat), (8, 0xd0)] / 2 ^ 23 % 2 ^ 5 = 13 ∨ pack [(4, t.toNat), (2, 0x1), (3, o.toNat), (5, 0), (5, a.toNat), (5, d.toNat), (8, 0xd0)] / 2 ^ 23 % 2 ^ 5 = 14 ∨ pack [(4, t.toNat), (2, 0x1), (3, o.toNat), (5, 0), (5, a.toNat), (5, d.toNat), (8, 0xd0)] / 2 ^ 23 % 2 ^ 5 = 15 := by
    simp only [pack, segWidth]; omega
  have hd : decodeD0 (pack [(4, t.toNat), (2, 0x1), (3, o.toNat), (5, 0), (5, a.toNat), (5, d.toNat), (8, 0xd0)]) = some (.vred (fld (pack [(4, t.toNat), (2, 0x1), (3, o.toNat), (5, 0), (5, a.toNat), (5, d.toNat), (8, 0xd0)]) 28 4) (fld (pack [(4, t.toNat), (2, 0x1), (3, o.toNat), (5, 0), (5, a.toNat), (5, d.toNat), (8, 0xd0)]) 23 3) (fld (pack [(4, t.toNat), (2, 0x1), (3, o.toNat), (5, 0), (5, a.toNat), (5, d.toNat), (8, 0xd0)]) 13 5) (fld (pack [(4, t.toNat), (2, 0x1), (3, o.toNat), (5, 0), (5, a.toNat), (5, d.toNat), (8, 0xd0)]) 8 5)) := by
    rcases hf with hf | hf | hf | hf | hf | hf | hf | hf
    · exact decodeD0_8 _ hf
    · exact decodeD0_9 _ hf
    · exact decodeD0_10 _ hf
    · exact decodeD0_11 _ hf
    · exact decodeD0_12 _ hf
    · exact decodeD0_13 _ hf
    · exact decodeD0_14 _ hf
    · exact decodeD0_15 _ hf
  have h0 : fld (pack [(4, t.toNat), (2, 0x1), (3, o.toNat), (5, 0), (5, a.toNat), (5, d.toNat), (8, 0xd0)]) 28 4 = t :=
    fld_pack [] 4 t [(2, 0x1), (3, o.toNat), (5, 0), (5, a.toNat), (5, d.toNat), (8, 0xd0)] ⟨by decide, o.isLt, by decide, a.isLt, d.isLt, by decide, trivial⟩
  have h1 : fld (pack [(4, t.toNat), (2, 0x1), (3, o.toNat), (5, 0), (5, a.toNat), (5, d.toNat), (8, 0xd0)]) 23 3 = o :=
    fld_pack [(4, t.toNat), (2, 0x1)] 3 o [(5, 0), (5, a.toNat), (5, d.toNat), (8, 0xd0)] ⟨by decide, a.isLt, d.isLt, by decide, trivial⟩
  have h2 : fld (pack [(4, t.toNat), (2, 0x1), (3, o.toNat), (5, 0), (5, a.toNat), (5, d.toNat), (8, 0xd0)]) 13 5 = a :=
    fld_pack [(4, t.toNat), (2, 0x1), (3, o.toNat), (5, 0)] 5 a [(5, d.toNat), (8, 0xd0)] ⟨d.isLt, by decide, trivial⟩
  have h3 : fld (pack [(4, t.toNat), (2, 0x1), (3, o.toNat), (5, 0), (5, a.toNat), (5, d.toNat), (8, 0xd0)]) 8 5 = d :=
    fld_pack [(4, t.toNat), (2, 0x1), (3, o.toNat), (5, 0), (5, a.toNat)] 5 d [(8, 0xd0)] ⟨by decide, trivial⟩
  exact bytes_one _ (pack [(4, t.toNat), (2, 0x1), (3, o.toNat), (5, 0), (5, a.toNat), (5, d.toNat), (8, 0xd0)]) rfl (pack_lt _ ⟨t.isLt, by decide, o.isLt, by decide, a.isLt, d.isLt, by decide, trivial⟩) 208 hl (by decide)
    (fun _ => (loose_D0 _ _ hl).trans ((hd).trans (by rw [h0, h1, h2, h3]))) rest
theorem RoundTrip.vld (t : BitVec 4) (s : BitVec 2) (b : BitVec 5) (a : BitVec 5) (d : BitVec 5) : RoundTrip.Statement (.vld t s b a d) := by
  intro _ rest
  have hl : pack [(4, t.toNat), (3, 0), (2, s.toNat), (5, b.toNat), (5, a.toNat), (5, d.toNat), (8, 0xd4)] % 256 = 212 := low_pack [(4, t.toNat), (3, 0), (2, s.toNat), (5, b.toNat), (5, a.toNat), (5, d.toNat)] 212 (by decide)
  have hf : pack [(4, t.toNat), (3, 0), (2, s.toNat), (5, b.toNat), (5, a.toNat), (5, d.toNat), (8, 0xd4)] / 2 ^ 25 % 2 ^ 3 = 0 :=
    seg_pack [(4, t.toNat)] 3 0 [(2, s.toNat), (5, b.toNat), (5, a.toNat), (5, d.toNat), (8, 0xd4)] ⟨by decide, s.isLt, b.isLt, a.isLt, d.isLt, by decide, trivial⟩
  have h0 : fld (pack [(4, t.toNat), (3, 0), (2, s.toNat), (5, b.toNat), (5, a.toNat), (5, d.toNat), (8, 0xd4)]) 28 4 = t :=
    fld_pack [] 4 t [(3, 0), (2, s.toNat), (5, b.toNat), (5, a.toNat), (5, d.toNat), (8, 0xd4)] ⟨by decide, s.isLt, b.isLt, a.isLt, d.isLt, by decide, trivial⟩
  have h1 : fld (pack [(4, t.toNat), (3, 0), (2, s.toNat), (5, b.toNat), (5, a.toNat), (5, d.toNat), (8, 0xd4)]) 23 2 = s :=
    fld_pack [(4, t.toNat), (3, 0)] 2 s [(5, b.toNat), (5, a.toNat), (5, d.toNat), (8, 0xd4)] ⟨b.isLt, a.isLt, d.isLt, by decide, trivial⟩
  have h2 : fld (pack [(4, t.toNat), (3, 0), (2, s.toNat), (5, b.toNat), (5, a.toNat), (5, d.toNat), (8, 0xd4)]) 18 5 = b :=
    fld_pack [(4, t.toNat), (3, 0), (2, s.toNat)] 5 b [(5, a.toNat), (5, d.toNat), (8, 0xd4)] ⟨a.isLt, d.isLt, by decide, trivial⟩
  have h3 : fld (pack [(4, t.toNat), (3, 0), (2, s.toNat), (5, b.toNat), (5, a.toNat), (5, d.toNat), (8, 0xd4)]) 13 5 = a :=
    fld_pack [(4, t.toNat), (3, 0), (2, s.toNat), (5, b.toNat)] 5 a [(5, d.toNat), (8, 0xd4)] ⟨d.isLt, by decide, trivial⟩
  have h4 : fld (pack [(4, t.toNat), (3, 0), (2, s.toNat), (5, b.toNat), (5, a.toNat), (5, d.toNat), (8, 0xd4)]) 8 5 = d :=
    fld_pack [(4, t.toNat), (3, 0), (2, s.toNat), (5, b.toNat), (5, a.toNat)] 5 d [(8, 0xd4)] ⟨by decide, trivial⟩
  exact bytes_one _ (pack [(4, t.toNat), (3, 0), (2, s.toNat), (5, b.toNat), (5, a.toNat), (5, d.toNat), (8, 0xd4)]) rfl (pack_lt _ ⟨t.isLt, by decide, s.isLt, b.isLt, a.isLt, d.isLt, by decide, trivial⟩) 212 hl (by decide)
    (fun _ => (loose_D4 _ _ hl).trans ((decodeD4_0 _ hf).trans (by rw [h0, h1, h2, h3, h4]))) rest
theorem RoundTrip.vlds (t : BitVec 4) (s : BitVec 2) (b : BitVec 5) (a : BitVec 5) (d : BitVec 5) : RoundTrip.Statement (.vlds t s b a d) := by
  intro _ rest
  have hl : pack [(4, t.toNat), (3, 0x1), (2, s.toNat), (5, b.toNat), (5, a.toNat), (5, d.toNat), (8, 0xd4)] % 256 = 212 := low_pack [(4, t.toNat), (3, 0x1), (2, s.toNat), (5, b.toNat), (5, a.toNat), (5, d.toNat)] 212 (by decide)
  have hf : pack [(4, t.toNat), (3, 0x1), (2, s.toNat), (5, b.toNat), (5, a.toNat), (5, d.toNat), (8, 0xd4)] / 2 ^ 25 % 2 ^ 3 = 1 :=
    seg_pack [(4, t.toNat)] 3 1 [(2, s.toNat), (5, b.toNat), (5, a.toNat), (5, d.toNat), (8, 0xd4)] ⟨by decide, s.isLt, b.isLt, a.isLt, d.isLt, by decide, trivial⟩
  have h0 : fld (pack [(4, t.toNat), (3, 0x1), (2, s.toNat), (5, b.toNat), (5, a.toNat), (5, d.toNat), (8, 0xd4)]) 28 4 = t :=
    fld_pack [] 4 t [(3, 0x1), (2, s.toNat), (5, b.toNat), (5, a.toNat), (5, d.toNat), (8, 0xd4)] ⟨by decide, s.isLt, b.isLt, a.isLt, d.isLt, by decide, trivial⟩
  have h1 : fld (pack [(4, t.toNat), (3, 0x1), (2, s.toNat), (5, b.toNat), (5, a.toNat), (5, d.toNat), (8, 0xd4)]) 23 2 = s :=
    fld_pack [(4, t.toNat), (3, 0x1)] 2 s [(5, b.toNat), (5, a.toNat), (5, d.toNat), (8, 0xd4)] ⟨b.isLt, a.isLt, d.isLt, by decide, trivial⟩
  have h2 : fld (pack [(4, t.toNat), (3, 0x1), (2, s.toNat), (5, b.toNat), (5, a.toNat), (5, d.toNat), (8, 0xd4)]) 18 5 = b :=
    fld_pack [(4, t.toNat), (3, 0x1), (2, s.toNat)] 5 b [(5, a.toNat), (5, d.toNat), (8, 0xd4)] ⟨a.isLt, d.isLt, by decide, trivial⟩
  have h3 : fld (pack [(4, t.toNat), (3, 0x1), (2, s.toNat), (5, b.toNat), (5, a.toNat), (5, d.toNat), (8, 0xd4)]) 13 5 = a :=
    fld_pack [(4, t.toNat), (3, 0x1), (2, s.toNat), (5, b.toNat)] 5 a [(5, d.toNat), (8, 0xd4)] ⟨d.isLt, by decide, trivial⟩
  have h4 : fld (pack [(4, t.toNat), (3, 0x1), (2, s.toNat), (5, b.toNat), (5, a.toNat), (5, d.toNat), (8, 0xd4)]) 8 5 = d :=
    fld_pack [(4, t.toNat), (3, 0x1), (2, s.toNat), (5, b.toNat), (5, a.toNat)] 5 d [(8, 0xd4)] ⟨by decide, trivial⟩
  exact bytes_one _ (pack [(4, t.toNat), (3, 0x1), (2, s.toNat), (5, b.toNat), (5, a.toNat), (5, d.toNat), (8, 0xd4)]) rfl (pack_lt _ ⟨t.isLt, by decide, s.isLt, b.isLt, a.isLt, d.isLt, by decide, trivial⟩) 212 hl (by decide)
    (fun _ => (loose_D4 _ _ hl).trans ((decodeD4_1 _ hf).trans (by rw [h0, h1, h2, h3, h4]))) rest
theorem RoundTrip.vldx (t : BitVec 4) (s : BitVec 2) (b : BitVec 5) (a : BitVec 5) (d : BitVec 5) : RoundTrip.Statement (.vldx t s b a d) := by
  intro _ rest
  have hl : pack [(4, t.toNat), (3, 0x2), (2, s.toNat), (5, b.toNat), (5, a.toNat), (5, d.toNat), (8, 0xd4)] % 256 = 212 := low_pack [(4, t.toNat), (3, 0x2), (2, s.toNat), (5, b.toNat), (5, a.toNat), (5, d.toNat)] 212 (by decide)
  have hf : pack [(4, t.toNat), (3, 0x2), (2, s.toNat), (5, b.toNat), (5, a.toNat), (5, d.toNat), (8, 0xd4)] / 2 ^ 25 % 2 ^ 3 = 2 :=
    seg_pack [(4, t.toNat)] 3 2 [(2, s.toNat), (5, b.toNat), (5, a.toNat), (5, d.toNat), (8, 0xd4)] ⟨by decide, s.isLt, b.isLt, a.isLt, d.isLt, by decide, trivial⟩
  have h0 : fld (pack [(4, t.toNat), (3, 0x2), (2, s.toNat), (5, b.toNat), (5, a.toNat), (5, d.toNat), (8, 0xd4)]) 28 4 = t :=
    fld_pack [] 4 t [(3, 0x2), (2, s.toNat), (5, b.toNat), (5, a.toNat), (5, d.toNat), (8, 0xd4)] ⟨by decide, s.isLt, b.isLt, a.isLt, d.isLt, by decide, trivial⟩
  have h1 : fld (pack [(4, t.toNat), (3, 0x2), (2, s.toNat), (5, b.toNat), (5, a.toNat), (5, d.toNat), (8, 0xd4)]) 23 2 = s :=
    fld_pack [(4, t.toNat), (3, 0x2)] 2 s [(5, b.toNat), (5, a.toNat), (5, d.toNat), (8, 0xd4)] ⟨b.isLt, a.isLt, d.isLt, by decide, trivial⟩
  have h2 : fld (pack [(4, t.toNat), (3, 0x2), (2, s.toNat), (5, b.toNat), (5, a.toNat), (5, d.toNat), (8, 0xd4)]) 18 5 = b :=
    fld_pack [(4, t.toNat), (3, 0x2), (2, s.toNat)] 5 b [(5, a.toNat), (5, d.toNat), (8, 0xd4)] ⟨a.isLt, d.isLt, by decide, trivial⟩
  have h3 : fld (pack [(4, t.toNat), (3, 0x2), (2, s.toNat), (5, b.toNat), (5, a.toNat), (5, d.toNat), (8, 0xd4)]) 13 5 = a :=
    fld_pack [(4, t.toNat), (3, 0x2), (2, s.toNat), (5, b.toNat)] 5 a [(5, d.toNat), (8, 0xd4)] ⟨d.isLt, by decide, trivial⟩
  have h4 : fld (pack [(4, t.toNat), (3, 0x2), (2, s.toNat), (5, b.toNat), (5, a.toNat), (5, d.toNat), (8, 0xd4)]) 8 5 = d :=
    fld_pack [(4, t.toNat), (3, 0x2), (2, s.toNat), (5, b.toNat), (5, a.toNat)] 5 d [(8, 0xd4)] ⟨by decide, trivial⟩
  exact bytes_one _ (pack [(4, t.toNat), (3, 0x2), (2, s.toNat), (5, b.toNat), (5, a.toNat), (5, d.toNat), (8, 0xd4)]) rfl (pack_lt _ ⟨t.isLt, by decide, s.isLt, b.isLt, a.isLt, d.isLt, by decide, trivial⟩) 212 hl (by decide)
    (fun _ => (loose_D4 _ _ hl).trans ((decodeD4_2 _ hf).trans (by rw [h0, h1, h2, h3, h4]))) rest
theorem RoundTrip.vldt (t : BitVec 4) (s : BitVec 2) (b : BitVec 5) (a : BitVec 5) (d : BitVec 5) : RoundTrip.Statement (.vldt t s b a d) := by
  intro _ rest
  have hl : pack [(4, t.toNat), (3, 0x3), (2, s.toNat), (5, b.toNat), (5, a.toNat), (5, d.toNat), (8, 0xd4)] % 256 = 212 := low_pack [(4, t.toNat), (3, 0x3), (2, s.toNat), (5, b.toNat), (5, a.toNat), (5, d.toNat)] 212 (by decide)
  have hf : pack [(4, t.toNat), (3, 0x3), (2, s.toNat), (5, b.toNat), (5, a.toNat), (5, d.toNat), (8, 0xd4)] / 2 ^ 25 % 2 ^ 3 = 3 :=
    seg_pack [(4, t.toNat)] 3 3 [(2, s.toNat), (5, b.toNat), (5, a.toNat), (5, d.toNat), (8, 0xd4)] ⟨by decide, s.isLt, b.isLt, a.isLt, d.isLt, by decide, trivial⟩
  have h0 : fld (pack [(4, t.toNat), (3, 0x3), (2, s.toNat), (5, b.toNat), (5, a.toNat), (5, d.toNat), (8, 0xd4)]) 28 4 = t :=
    fld_pack [] 4 t [(3, 0x3), (2, s.toNat), (5, b.toNat), (5, a.toNat), (5, d.toNat), (8, 0xd4)] ⟨by decide, s.isLt, b.isLt, a.isLt, d.isLt, by decide, trivial⟩
  have h1 : fld (pack [(4, t.toNat), (3, 0x3), (2, s.toNat), (5, b.toNat), (5, a.toNat), (5, d.toNat), (8, 0xd4)]) 23 2 = s :=
    fld_pack [(4, t.toNat), (3, 0x3)] 2 s [(5, b.toNat), (5, a.toNat), (5, d.toNat), (8, 0xd4)] ⟨b.isLt, a.isLt, d.isLt, by decide, trivial⟩
  have h2 : fld (pack [(4, t.toNat), (3, 0x3), (2, s.toNat), (5, b.toNat), (5, a.toNat), (5, d.toNat), (8, 0xd4)]) 18 5 = b :=
    fld_pack [(4, t.toNat), (3, 0x3), (2, s.toNat)] 5 b [(5, a.toNat), (5, d.toNat), (8, 0xd4)] ⟨a.isLt, d.isLt, by decide, trivial⟩
  have h3 : fld (pack [(4, t.toNat), (3, 0x3), (2, s.toNat), (5, b.toNat), (5, a.toNat), (5, d.toNat), (8, 0xd4)]) 13 5 = a :=
    fld_pack [(4, t.toNat), (3, 0x3), (2, s.toNat), (5, b.toNat)] 5 a [(5, d.toNat), (8, 0xd4)] ⟨d.isLt, by decide, trivial⟩
  have h4 : fld (pack [(4, t.toNat), (3, 0x3), (2, s.toNat), (5, b.toNat), (5, a.toNat), (5, d.toNat), (8, 0xd4)]) 8 5 = d :=
    fld_pack [(4, t.toNat), (3, 0x3), (2, s.toNat), (5, b.toNat), (5, a.toNat)] 5 d [(8, 0xd4)] ⟨by decide, trivial⟩
  exact bytes_one _ (pack [(4, t.toNat), (3, 0x3), (2, s.toNat), (5, b.toNat), (5, a.toNat), (5, d.toNat), (8, 0xd4)]) rfl (pack_lt _ ⟨t.isLt, by decide, s.isLt, b.isLt, a.isLt, d.isLt, by decide, trivial⟩) 212 hl (by decide)
    (fun _ => (loose_D4 _ _ hl).trans ((decodeD4_3 _ hf).trans (by rw [h0, h1, h2, h3, h4]))) rest
theorem RoundTrip.vst (t : BitVec 4) (s : BitVec 2) (b : BitVec 5) (a : BitVec 5) (d : BitVec 5) : RoundTrip.Statement (.vst t s b a d) := by
  intro _ rest
  have hl : pack [(4, t.toNat), (3, 0), (2, s.toNat), (5, b.toNat), (5, a.toNat), (5, d.toNat), (8, 0xd8)] % 256 = 216 := low_pack [(4, t.toNat), (3, 0), (2, s.toNat), (5, b.toNat), (5, a.toNat), (5, d.toNat)] 216 (by decide)
  have hf : pack [(4, t.toNat), (3, 0), (2, s.toNat), (5, b.toNat), (5, a.toNat), (5, d.toNat), (8, 0xd8)] / 2 ^ 25 % 2 ^ 3 = 0 :=
    seg_pack [(4, t.toNat)] 3 0 [(2, s.toNat), (5, b.toNat), (5, a.toNat), (5, d.toNat), (8, 0xd8)] ⟨by decide, s.isLt, b.isLt, a.isLt, d.isLt, by decide, trivial⟩
  have h0 : fld (pack [(4, t.toNat), (3, 0), (2, s.toNat), (5, b.toNat), (5, a.toNat), (5, d.toNat), (8, 0xd8)]) 28 4 = t :=
    fld_pack [] 4 t [(3, 0), (2, s.toNat), (5, b.toNat), (5, a.toNat), (5, d.toNat), (8, 0xd8)] ⟨by decide, s.isLt, b.isLt, a.isLt, d.isLt, by decide, trivial⟩
  have h1 : fld (pack [(4, t.toNat), (3, 0), (2, s.toNat), (5, b.toNat), (5, a.toNat), (5, d.toNat), (8, 0xd8)]) 23 2 = s :=
    fld_pack [(4, t.toNat), (3, 0)] 2 s [(5, b.toNat), (5, a.toNat), (5, d.toNat), (8, 0xd8)] ⟨b.isLt, a.isLt, d.isLt, by decide, trivial⟩
  have h2 : fld (pack [(4, t.toNat), (3, 0), (2, s.toNat), (5, b.toNat), (5, a.toNat), (5, d.toNat), (8, 0xd8)]) 18 5 = b :=
    fld_pack [(4, t.toNat), (3, 0), (2, s.toNat)] 5 b [(5, a.toNat), (5, d.toNat), (8, 0xd8)] ⟨a.isLt, d.isLt, by decide, trivial⟩
  have h3 : fld (pack [(4, t.toNat), (3, 0), (2, s.toNat), (5, b.toNat), (5, a.toNat), (5, d.toNat), (8, 0xd8)]) 13 5 = a :=
    fld_pack [(4, t.toNat), (3, 0), (2, s.toNat), (5, b.toNat)] 5 a [(5, d.toNat), (8, 0xd8)] ⟨d.isLt, by decide, trivial⟩
  have h4 : fld (pack [(4, t.toNat), (3, 0), (2, s.toNat), (5, b.toNat), (5, a.toNat), (5, d.toNat), (8, 0xd8)]) 8 5 = d :=
    fld_pack [(4, t.toNat), (3, 0), (2, s.toNat), (5, b.toNat), (5, a.toNat)] 5 d [(8, 0xd8)] ⟨by decide, trivial⟩
  exact bytes_one _ (pack [(4, t.toNat), (3, 0), (2, s.toNat), (5, b.toNat), (5, a.toNat), (5, d.toNat), (8, 0xd8)]) rfl (pack_lt _ ⟨t.isLt, by decide, s.isLt, b.isLt, a.isLt, d.isLt, by decide, trivial⟩) 216 hl (by decide)
    (fun _ => (loose_D8 _ _ hl).trans ((decodeD8_0 _ hf).trans (by rw [h0, h1, h2, h3, h4]))) rest
theorem RoundTrip.vsts (t : BitVec 4) (s : BitVec 2) (b : BitVec 5) (a : BitVec 5) (d : BitVec 5) : RoundTrip.Statement (.vsts t s b a d) := by
  intro _ rest
  have hl : pack [(4, t.toNat), (3, 0x1), (2, s.toNat), (5, b.toNat), (5, a.toNat), (5, d.toNat), (8, 0xd8)] % 256 = 216 := low_pack [(4, t.toNat), (3, 0x1), (2, s.toNat), (5, b.toNat), (5, a.toNat), (5, d.toNat)] 216 (by decide)
  have hf : pack [(4, t.toNat), (3, 0x1), (2, s.toNat), (5, b.toNat), (5, a.toNat), (5, d.toNat), (8, 0xd8)] / 2 ^ 25 % 2 ^ 3 = 1 :=
    seg_pack [(4, t.toNat)] 3 1 [(2, s.toNat), (5, b.toNat), (5, a.toNat), (5, d.toNat), (8, 0xd8)] ⟨by decide, s.isLt, b.isLt, a.isLt, d.isLt, by decide, trivial⟩
  have h0 : fld (pack [(4, t.toNat), (3, 0x1), (2, s.toNat), (5, b.toNat), (5, a.toNat), (5, d.toNat), (8, 0xd8)]) 28 4 = t :=
    fld_pack [] 4 t [(3, 0x1), (2, s.toNat), (5, b.toNat), (5, a.toNat), (5, d.toNat), (8, 0xd8)] ⟨by decide, s.isLt, b.isLt, a.isLt, d.isLt, by decide, trivial⟩
  have h1 : fld (pack [(4, t.toNat), (3, 0x1), (2, s.toNat), (5, b.toNat), (5, a.toNat), (5, d.toNat), (8, 0xd8)]) 23 2 = s :=
    fld_pack [(4, t.toNat), (3, 0x1)] 2 s [(5, b.toNat), (5, a.toNat), (5, d.toNat), (8, 0xd8)] ⟨b.isLt, a.isLt, d.isLt, by decide, trivial⟩
  have h2 : fld (pack [(4, t.toNat), (3, 0x1), (2, s.toNat), (5, b.toNat), (5, a.toNat), (5, d.toNat), (8, 0xd8)]) 18 5 = b :=
    fld_pack [(4, t.toNat), (3, 0x1), (2, s.toNat)] 5 b [(5, a.toNat), (5, d.toNat), (8, 0xd8)] ⟨a.isLt, d.isLt, by decide, trivial⟩
  have h3 : fld (pack [(4, t.toNat), (3, 0x1), (2, s.toNat), (5, b.toNat), (5, a.toNat), (5, d.toNat), (8, 0xd8)]) 13 5 = a :=
    fld_pack [(4, t.toNat), (3, 0x1), (2, s.toNat), (5, b.toNat)] 5 a [(5, d.toNat), (8, 0xd8)] ⟨d.isLt, by decide, trivial⟩
  have h4 : fld (pack [(4, t.toNat), (3, 0x1), (2, s.toNat), (5, b.toNat), (5, a.toNat), (5, d.toNat), (8, 0xd8)]) 8 5 = d :=
    fld_pack [(4, t.toNat), (3, 0x1), (2, s.toNat), (5, b.toNat), (5, a.toNat)] 5 d [(8, 0xd8)] ⟨by decide, trivial⟩
  exact bytes_one _ (pack [(4, t.toNat), (3, 0x1), (2, s.toNat), (5, b.toNat), (5, a.toNat), (5, d.toNat), (8, 0xd8)]) rfl (pack_lt _ ⟨t.isLt, by decide, s.isLt, b.isLt, a.isLt, d.isLt, by decide, trivial⟩) 216 hl (by decide)
    (fun _ => (loose_D8 _ _ hl).trans ((decodeD8_1 _ hf).trans (by rw [h0, h1, h2, h3, h4]))) rest
theorem RoundTrip.vstx (t : BitVec 4) (s : BitVec 2) (b : BitVec 5) (a : BitVec 5) (d : BitVec 5) : RoundTrip.Statement (.vstx t s b a d) := by
  intro _ rest
  have hl : pack [(4, t.toNat), (3, 0x2), (2, s.toNat), (5, b.toNat), (5, a.toNat), (5, d.toNat), (8, 0xd8)] % 256 = 216 := low_pack [(4, t.toNat), (3, 0x2), (2, s.toNat), (5, b.toNat), (5, a.toNat), (5, d.toNat)] 216 (by decide)
  have hf : pack [(4, t.toNat), (3, 0x2), (2, s.toNat), (5, b.toNat), (5, a.toNat), (5, d.toNat), (8, 0xd8)] / 2 ^ 25 % 2 ^ 3 = 2 :=
    seg_pack [(4, t.toNat)] 3 2 [(2, s.toNat), (5, b.toNat), (5, a.toNat), (5, d.toNat), (8, 0xd8)] ⟨by decide, s.isLt, b.isLt, a.isLt, d.isLt, by decide, trivial⟩
  have h0 : fld (pack [(4, t.toNat), (3, 0x2), (2, s.toNat), (5, b.toNat), (5, a.toNat), (5, d.toNat), (8, 0xd8)]) 28 4 = t :=
    fld_pack [] 4 t [(3, 0x2), (2, s.toNat), (5, b.toNat), (5, a.toNat), (5, d.toNat), (8, 0xd8)] ⟨by decide, s.isLt, b.isLt, a.isLt, d.isLt, by decide, trivial⟩
  have h1 : fld (pack [(4, t.toNat), (3, 0x2), (2, s.toNat), (5, b.toNat), (5, a.toNat), (5, d.toNat), (8, 0xd8)]) 23 2 = s :=
    fld_pack [(4, t.toNat), (3, 0x2)] 2 s [(5, b.toNat), (5, a.toNat), (5, d.toNat), (8, 0xd8)] ⟨b.isLt, a.isLt, d.isLt, by decide, trivial⟩
  have h2 : fld (pack [(4, t.toNat), (3, 0x2), (2, s.toNat), (5, b.toNat), (5, a.toNat), (5, d.toNat), (8, 0xd8)]) 18 5 = b :=
    fld_pack [(4, t.toNat), (3, 0x2), (2, s.toNat)] 5 b [(5, a.toNat), (5, d.toNat), (8, 0xd8)] ⟨a.isLt, d.isLt, by decide, trivial⟩
  have h3 : fld (pack [(4, t.toNat), (3, 0x2), (2, s.toNat), (5, b.toNat), (5, a.toNat), (5, d.toNat), (8, 0xd8)]) 13 5 = a :=
    fld_pack [(4, t.toNat), (3, 0x2), (2, s.toNat), (5, b.toNat)] 5 a [(5, d.toNat), (8, 0xd8)] ⟨d.isLt, by decide, trivial⟩
  have h4 : fld (pack [(4, t.toNat), (3, 0x2), (2, s.toNat), (5, b.toNat), (5, a.toNat), (5, d.toNat), (8, 0xd8)]) 8 5 = d :=
    fld_pack [(4, t.toNat), (3, 0x2), (2, s.toNat), (5, b.toNat), (5, a.toNat)] 5 d [(8, 0xd8)] ⟨by decide, trivial⟩
  exact bytes_one _ (pack [(4, t.toNat), (3, 0x2), (2, s.toNat), (5, b.toNat), (5, a.toNat), (5, d.toNat), (8, 0xd8)]) rfl (pack_lt _ ⟨t.isLt, by decide, s.isLt, b.isLt, a.isLt, d.isLt, by decide, trivial⟩) 216 hl (by decide)
    (fun _ => (loose_D8 _ _ hl).trans ((decodeD8_2 _ hf).trans (by rw [h0, h1, h2, h3, h4]))) rest
theorem RoundTrip.gshuf (t : BitVec 4) (b : BitVec 5) (a : BitVec 5) (d : BitVec 5) : RoundTrip.Statement (.gshuf t b a d) := by
  intro _ rest
  have hl : pack [(4, t.toNat), (5, 0), (5, b.toNat), (5, a.toNat), (5, d.toNat), (8, 0xe0)] % 256 = 224 := low_pack [(4, t.toNat), (5, 0), (5, b.toNat), (5, a.toNat), (5, d.toNat)] 224 (by decide)
  have hf : pack [(4, t.toNat), (5, 0), (5, b.toNat), (5, a.toNat), (5, d.toNat), (8, 0xe0)] / 2 ^ 23 % 2 ^ 5 = 0 :=
    seg_pack [(4, t.toNat)] 5 0 [(5, b.toNat), (5, a.toNat), (5, d.toNat), (8, 0xe0)] ⟨by decide, b.isLt, a.isLt, d.isLt, by decide, trivial⟩
  have h0 : fld (pack [(4, t.toNat), (5, 0), (5, b.toNat), (5, a.toNat), (5, d.toNat), (8, 0xe0)]) 28 4 = t :=
    fld_pack [] 4 t [(5, 0), (5, b.toNat), (5, a.toNat), (5, d.toNat), (8, 0xe0)] ⟨by decide, b.isLt, a.isLt, d.isLt, by decide, trivial⟩
  have h1 : fld (pack [(4, t.toNat), (5, 0), (5, b.toNat), (5, a.toNat), (5, d.toNat), (8, 0xe0)]) 18 5 = b :=
    fld_pack [(4, t.toNat), (5, 0)] 5 b [(5, a.toNat), (5, d.toNat), (8, 0xe0)] ⟨a.isLt, d.isLt, by decide, trivial⟩
  have h2 : fld (pack [(4, t.toNat), (5, 0), (5, b.toNat), (5, a.toNat), (5, d.toNat), (8, 0xe0)]) 13 5 = a :=
    fld_pack [(4, t.toNat), (5, 0), (5, b.toNat)] 5 a [(5, d.toNat), (8, 0xe0)] ⟨d.isLt, by decide, trivial⟩
  have h3 : fld (pack [(4, t.toNat), (5, 0), (5, b.toNat), (5, a.toNat), (5, d.toNat), (8, 0xe0)]) 8 5 = d :=
    fld_pack [(4, t.toNat), (5, 0), (5, b.toNat), (5, a.toNat)] 5 d [(8, 0xe0)] ⟨by decide, trivial⟩
  exact bytes_one _ (pack [(4, t.toNat), (5, 0), (5, b.toNat), (5, a.toNat), (5, d.toNat), (8, 0xe0)]) rfl (pack_lt _ ⟨t.isLt, by decide, b.isLt, a.isLt, d.isLt, by decide, trivial⟩) 224 hl (by decide)
    (fun _ => (loose_E0 _ _ hl).trans ((decodeE0_0 _ hf).trans (by rw [h0, h1, h2, h3]))) rest
theorem RoundTrip.gbcast (t : BitVec 4) (b : BitVec 5) (a : BitVec 5) (d : BitVec 5) : RoundTrip.Statement (.gbcast t b a d) := by
  intro _ rest
  have hl : pack [(4, t.toNat), (5, 0x1), (5, b.toNat), (5, a.toNat), (5, d.toNat), (8, 0xe0)] % 256 = 224 := low_pack [(4, t.toNat), (5, 0x1), (5, b.toNat), (5, a.toNat), (5, d.toNat)] 224 (by decide)
  have hf : pack [(4, t.toNat), (5, 0x1), (5, b.toNat), (5, a.toNat), (5, d.toNat), (8, 0xe0)] / 2 ^ 23 % 2 ^ 5 = 1 :=
    seg_pack [(4, t.toNat)] 5 1 [(5, b.toNat), (5, a.toNat), (5, d.toNat), (8, 0xe0)] ⟨by decide, b.isLt, a.isLt, d.isLt, by decide, trivial⟩
  have h0 : fld (pack [(4, t.toNat), (5, 0x1), (5, b.toNat), (5, a.toNat), (5, d.toNat), (8, 0xe0)]) 28 4 = t :=
    fld_pack [] 4 t [(5, 0x1), (5, b.toNat), (5, a.toNat), (5, d.toNat), (8, 0xe0)] ⟨by decide, b.isLt, a.isLt, d.isLt, by decide, trivial⟩
  have h1 : fld (pack [(4, t.toNat), (5, 0x1), (5, b.toNat), (5, a.toNat), (5, d.toNat), (8, 0xe0)]) 18 5 = b :=
    fld_pack [(4, t.toNat), (5, 0x1)] 5 b [(5, a.toNat), (5, d.toNat), (8, 0xe0)] ⟨a.isLt, d.isLt, by decide, trivial⟩
  have h2 : fld (pack [(4, t.toNat), (5, 0x1), (5, b.toNat), (5, a.toNat), (5, d.toNat), (8, 0xe0)]) 13 5 = a :=
    fld_pack [(4, t.toNat), (5, 0x1), (5, b.toNat)] 5 a [(5, d.toNat), (8, 0xe0)] ⟨d.isLt, by decide, trivial⟩
  have h3 : fld (pack [(4, t.toNat), (5, 0x1), (5, b.toNat), (5, a.toNat), (5, d.toNat), (8, 0xe0)]) 8 5 = d :=
    fld_pack [(4, t.toNat), (5, 0x1), (5, b.toNat), (5, a.toNat)] 5 d [(8, 0xe0)] ⟨by decide, trivial⟩
  exact bytes_one _ (pack [(4, t.toNat), (5, 0x1), (5, b.toNat), (5, a.toNat), (5, d.toNat), (8, 0xe0)]) rfl (pack_lt _ ⟨t.isLt, by decide, b.isLt, a.isLt, d.isLt, by decide, trivial⟩) 224 hl (by decide)
    (fun _ => (loose_E0 _ _ hl).trans ((decodeE0_1 _ hf).trans (by rw [h0, h1, h2, h3]))) rest
theorem RoundTrip.gvote (t : BitVec 4) (v : BitVec 2) (a : BitVec 3) (d : BitVec 5) : RoundTrip.Statement (.gvote t v a d) := by
  intro _ rest
  have hl : pack [(4, t.toNat), (3, 0), (2, v.toNat), (7, 0), (3, a.toNat), (5, d.toNat), (8, 0xe4)] % 256 = 228 := low_pack [(4, t.toNat), (3, 0), (2, v.toNat), (7, 0), (3, a.toNat), (5, d.toNat)] 228 (by decide)
  have hb : t.toNat < 16 ∧ v.toNat < 4 ∧ a.toNat < 8 ∧ d.toNat < 32 := ⟨t.isLt, v.isLt, a.isLt, d.isLt⟩
  have hf : pack [(4, t.toNat), (3, 0), (2, v.toNat), (7, 0), (3, a.toNat), (5, d.toNat), (8, 0xe4)] / 2 ^ 23 % 2 ^ 5 = 0 ∨ pack [(4, t.toNat), (3, 0), (2, v.toNat), (7, 0), (3, a.toNat), (5, d.toNat), (8, 0xe4)] / 2 ^ 23 % 2 ^ 5 = 1 ∨ pack [(4, t.toNat), (3, 0), (2, v.toNat), (7, 0), (3, a.toNat), (5, d.toNat), (8, 0xe4)] / 2 ^ 23 % 2 ^ 5 = 2 ∨ pack [(4, t.toNat), (3, 0), (2, v.toNat), (7, 0), (3, a.toNat), (5, d.toNat), (8, 0xe4)] / 2 ^ 23 % 2 ^ 5 = 3 := by
    simp only [pack, segWidth]; omega
  have hd : decodeE4 (pack [(4, t.toNat), (3, 0), (2, v.toNat), (7, 0), (3, a.toNat), (5, d.toNat), (8, 0xe4)]) = some (.gvote (fld (pack [(4, t.toNat), (3, 0), (2, v.toNat), (7, 0), (3, a.toNat), (5, d.toNat), (8, 0xe4)]) 28 4) (fld (pack [(4, t.toNat), (3, 0), (2, v.toNat), (7, 0), (3, a.toNat), (5, d.toNat), (8, 0xe4)]) 23 2) (fld (pack [(4, t.toNat), (3, 0), (2, v.toNat), (7, 0), (3, a.toNat), (5, d.toNat), (8, 0xe4)]) 13 3) (fld (pack [(4, t.toNat), (3, 0), (2, v.toNat), (7, 0), (3, a.toNat), (5, d.toNat), (8, 0xe4)]) 8 5)) := by
    rcases hf with hf | hf | hf | hf
    · exact decodeE4_0 _ hf
    · exact decodeE4_1 _ hf
    · exact decodeE4_2 _ hf
    · exact decodeE4_3 _ hf
  have h0 : fld (pack [(4, t.toNat), (3, 0), (2, v.toNat), (7, 0), (3, a.toNat), (5, d.toNat), (8, 0xe4)]) 28 4 = t :=
    fld_pack [] 4 t [(3, 0), (2, v.toNat), (7, 0), (3, a.toNat), (5, d.toNat), (8, 0xe4)] ⟨by decide, v.isLt, by decide, a.isLt, d.isLt, by decide, trivial⟩
  have h1 : fld (pack [(4, t.toNat), (3, 0), (2, v.toNat), (7, 0), (3, a.toNat), (5, d.toNat), (8, 0xe4)]) 23 2 = v :=
    fld_pack [(4, t.toNat), (3, 0)] 2 v [(7, 0), (3, a.toNat), (5, d.toNat), (8, 0xe4)] ⟨by decide, a.isLt, d.isLt, by decide, trivial⟩
  have h2 : fld (pack [(4, t.toNat), (3, 0), (2, v.toNat), (7, 0), (3, a.toNat), (5, d.toNat), (8, 0xe4)]) 13 3 = a :=
    fld_pack [(4, t.toNat), (3, 0), (2, v.toNat), (7, 0)] 3 a [(5, d.toNat), (8, 0xe4)] ⟨d.isLt, by decide, trivial⟩
  have h3 : fld (pack [(4, t.toNat), (3, 0), (2, v.toNat), (7, 0), (3, a.toNat), (5, d.toNat), (8, 0xe4)]) 8 5 = d :=
    fld_pack [(4, t.toNat), (3, 0), (2, v.toNat), (7, 0), (3, a.toNat)] 5 d [(8, 0xe4)] ⟨by decide, trivial⟩
  exact bytes_one _ (pack [(4, t.toNat), (3, 0), (2, v.toNat), (7, 0), (3, a.toNat), (5, d.toNat), (8, 0xe4)]) rfl (pack_lt _ ⟨t.isLt, by decide, v.isLt, by decide, a.isLt, d.isLt, by decide, trivial⟩) 228 hl (by decide)
    (fun _ => (loose_E4 _ _ hl).trans ((hd).trans (by rw [h0, h1, h2, h3]))) rest
theorem RoundTrip.gmatch (t : BitVec 4) (a : BitVec 5) (d : BitVec 5) : RoundTrip.Statement (.gmatch t a d) := by
  intro _ rest
  have hl : pack [(4, t.toNat), (5, 0x8), (5, 0), (5, a.toNat), (5, d.toNat), (8, 0xe4)] % 256 = 228 := low_pack [(4, t.toNat), (5, 0x8), (5, 0), (5, a.toNat), (5, d.toNat)] 228 (by decide)
  have hf : pack [(4, t.toNat), (5, 0x8), (5, 0), (5, a.toNat), (5, d.toNat), (8, 0xe4)] / 2 ^ 23 % 2 ^ 5 = 8 :=
    seg_pack [(4, t.toNat)] 5 8 [(5, 0), (5, a.toNat), (5, d.toNat), (8, 0xe4)] ⟨by decide, by decide, a.isLt, d.isLt, by decide, trivial⟩
  have h0 : fld (pack [(4, t.toNat), (5, 0x8), (5, 0), (5, a.toNat), (5, d.toNat), (8, 0xe4)]) 28 4 = t :=
    fld_pack [] 4 t [(5, 0x8), (5, 0), (5, a.toNat), (5, d.toNat), (8, 0xe4)] ⟨by decide, by decide, a.isLt, d.isLt, by decide, trivial⟩
  have h1 : fld (pack [(4, t.toNat), (5, 0x8), (5, 0), (5, a.toNat), (5, d.toNat), (8, 0xe4)]) 13 5 = a :=
    fld_pack [(4, t.toNat), (5, 0x8), (5, 0)] 5 a [(5, d.toNat), (8, 0xe4)] ⟨d.isLt, by decide, trivial⟩
  have h2 : fld (pack [(4, t.toNat), (5, 0x8), (5, 0), (5, a.toNat), (5, d.toNat), (8, 0xe4)]) 8 5 = d :=
    fld_pack [(4, t.toNat), (5, 0x8), (5, 0), (5, a.toNat)] 5 d [(8, 0xe4)] ⟨by decide, trivial⟩
  exact bytes_one _ (pack [(4, t.toNat), (5, 0x8), (5, 0), (5, a.toNat), (5, d.toNat), (8, 0xe4)]) rfl (pack_lt _ ⟨t.isLt, by decide, by decide, a.isLt, d.isLt, by decide, trivial⟩) 228 hl (by decide)
    (fun _ => (loose_E4 _ _ hl).trans ((decodeE4_8 _ hf).trans (by rw [h0, h1, h2]))) rest
theorem RoundTrip.gred (t : BitVec 4) (o : BitVec 3) (a : BitVec 5) (d : BitVec 5) : RoundTrip.Statement (.gred t o a d) := by
  intro _ rest
  have hl : pack [(4, t.toNat), (2, 0), (3, o.toNat), (5, 0), (5, a.toNat), (5, d.toNat), (8, 0xe8)] % 256 = 232 := low_pack [(4, t.toNat), (2, 0), (3, o.toNat), (5, 0), (5, a.toNat), (5, d.toNat)] 232 (by decide)
  have hb : t.toNat < 16 ∧ o.toNat < 8 ∧ a.toNat < 32 ∧ d.toNat < 32 := ⟨t.isLt, o.isLt, a.isLt, d.isLt⟩
  have hf : pack [(4, t.toNat), (2, 0), (3, o.toNat), (5, 0), (5, a.toNat), (5, d.toNat), (8, 0xe8)] / 2 ^ 23 % 2 ^ 5 = 0 ∨ pack [(4, t.toNat), (2, 0), (3, o.toNat), (5, 0), (5, a.toNat), (5, d.toNat), (8, 0xe8)] / 2 ^ 23 % 2 ^ 5 = 1 ∨ pack [(4, t.toNat), (2, 0), (3, o.toNat), (5, 0), (5, a.toNat), (5, d.toNat), (8, 0xe8)] / 2 ^ 23 % 2 ^ 5 = 2 ∨ pack [(4, t.toNat), (2, 0), (3, o.toNat), (5, 0), (5, a.toNat), (5, d.toNat), (8, 0xe8)] / 2 ^ 23 % 2 ^ 5 = 3 ∨ pack [(4, t.toNat), (2, 0), (3, o.toNat), (5, 0), (5, a.toNat), (5, d.toNat), (8, 0xe8)] / 2 ^ 23 % 2 ^ 5 = 4 ∨ pack [(4, t.toNat), (2, 0), (3, o.toNat), (5, 0), (5, a.toNat), (5, d.toNat), (8, 0xe8)] / 2 ^ 23 % 2 ^ 5 = 5 ∨ pack [(4, t.toNat), (2, 0), (3, o.toNat), (5, 0), (5, a.toNat), (5, d.toNat), (8, 0xe8)] / 2 ^ 23 % 2 ^ 5 = 6 ∨ pack [(4, t.toNat), (2, 0), (3, o.toNat), (5, 0), (5, a.toNat), (5, d.toNat), (8, 0xe8)] / 2 ^ 23 % 2 ^ 5 = 7 := by
    simp only [pack, segWidth]; omega
  have hd : decodeE8 (pack [(4, t.toNat), (2, 0), (3, o.toNat), (5, 0), (5, a.toNat), (5, d.toNat), (8, 0xe8)]) = some (.gred (fld (pack [(4, t.toNat), (2, 0), (3, o.toNat), (5, 0), (5, a.toNat), (5, d.toNat), (8, 0xe8)]) 28 4) (fld (pack [(4, t.toNat), (2, 0), (3, o.toNat), (5, 0), (5, a.toNat), (5, d.toNat), (8, 0xe8)]) 23 3) (fld (pack [(4, t.toNat), (2, 0), (3, o.toNat), (5, 0), (5, a.toNat), (5, d.toNat), (8, 0xe8)]) 13 5) (fld (pack [(4, t.toNat), (2, 0), (3, o.toNat), (5, 0), (5, a.toNat), (5, d.toNat), (8, 0xe8)]) 8 5)) := by
    rcases hf with hf | hf | hf | hf | hf | hf | hf | hf
    · exact decodeE8_0 _ hf
    · exact decodeE8_1 _ hf
    · exact decodeE8_2 _ hf
    · exact decodeE8_3 _ hf
    · exact decodeE8_4 _ hf
    · exact decodeE8_5 _ hf
    · exact decodeE8_6 _ hf
    · exact decodeE8_7 _ hf
  have h0 : fld (pack [(4, t.toNat), (2, 0), (3, o.toNat), (5, 0), (5, a.toNat), (5, d.toNat), (8, 0xe8)]) 28 4 = t :=
    fld_pack [] 4 t [(2, 0), (3, o.toNat), (5, 0), (5, a.toNat), (5, d.toNat), (8, 0xe8)] ⟨by decide, o.isLt, by decide, a.isLt, d.isLt, by decide, trivial⟩
  have h1 : fld (pack [(4, t.toNat), (2, 0), (3, o.toNat), (5, 0), (5, a.toNat), (5, d.toNat), (8, 0xe8)]) 23 3 = o :=
    fld_pack [(4, t.toNat), (2, 0)] 3 o [(5, 0), (5, a.toNat), (5, d.toNat), (8, 0xe8)] ⟨by decide, a.isLt, d.isLt, by decide, trivial⟩
  have h2 : fld (pack [(4, t.toNat), (2, 0), (3, o.toNat), (5, 0), (5, a.toNat), (5, d.toNat), (8, 0xe8)]) 13 5 = a :=
    fld_pack [(4, t.toNat), (2, 0), (3, o.toNat), (5, 0)] 5 a [(5, d.toNat), (8, 0xe8)] ⟨d.isLt, by decide, trivial⟩
  have h3 : fld (pack [(4, t.toNat), (2, 0), (3, o.toNat), (5, 0), (5, a.toNat), (5, d.toNat), (8, 0xe8)]) 8 5 = d :=
    fld_pack [(4, t.toNat), (2, 0), (3, o.toNat), (5, 0), (5, a.toNat)] 5 d [(8, 0xe8)] ⟨by decide, trivial⟩
  exact bytes_one _ (pack [(4, t.toNat), (2, 0), (3, o.toNat), (5, 0), (5, a.toNat), (5, d.toNat), (8, 0xe8)]) rfl (pack_lt _ ⟨t.isLt, by decide, o.isLt, by decide, a.isLt, d.isLt, by decide, trivial⟩) 232 hl (by decide)
    (fun _ => (loose_E8 _ _ hl).trans ((hd).trans (by rw [h0, h1, h2, h3]))) rest
theorem RoundTrip.gscan (t : BitVec 4) (o : BitVec 3) (a : BitVec 5) (d : BitVec 5) : RoundTrip.Statement (.gscan t o a d) := by
  intro _ rest
  have hl : pack [(4, t.toNat), (2, 0x1), (3, o.toNat), (5, 0), (5, a.toNat), (5, d.toNat), (8, 0xe8)] % 256 = 232 := low_pack [(4, t.toNat), (2, 0x1), (3, o.toNat), (5, 0), (5, a.toNat), (5, d.toNat)] 232 (by decide)
  have hb : t.toNat < 16 ∧ o.toNat < 8 ∧ a.toNat < 32 ∧ d.toNat < 32 := ⟨t.isLt, o.isLt, a.isLt, d.isLt⟩
  have hf : pack [(4, t.toNat), (2, 0x1), (3, o.toNat), (5, 0), (5, a.toNat), (5, d.toNat), (8, 0xe8)] / 2 ^ 23 % 2 ^ 5 = 8 ∨ pack [(4, t.toNat), (2, 0x1), (3, o.toNat), (5, 0), (5, a.toNat), (5, d.toNat), (8, 0xe8)] / 2 ^ 23 % 2 ^ 5 = 9 ∨ pack [(4, t.toNat), (2, 0x1), (3, o.toNat), (5, 0), (5, a.toNat), (5, d.toNat), (8, 0xe8)] / 2 ^ 23 % 2 ^ 5 = 10 ∨ pack [(4, t.toNat), (2, 0x1), (3, o.toNat), (5, 0), (5, a.toNat), (5, d.toNat), (8, 0xe8)] / 2 ^ 23 % 2 ^ 5 = 11 ∨ pack [(4, t.toNat), (2, 0x1), (3, o.toNat), (5, 0), (5, a.toNat), (5, d.toNat), (8, 0xe8)] / 2 ^ 23 % 2 ^ 5 = 12 ∨ pack [(4, t.toNat), (2, 0x1), (3, o.toNat), (5, 0), (5, a.toNat), (5, d.toNat), (8, 0xe8)] / 2 ^ 23 % 2 ^ 5 = 13 ∨ pack [(4, t.toNat), (2, 0x1), (3, o.toNat), (5, 0), (5, a.toNat), (5, d.toNat), (8, 0xe8)] / 2 ^ 23 % 2 ^ 5 = 14 ∨ pack [(4, t.toNat), (2, 0x1), (3, o.toNat), (5, 0), (5, a.toNat), (5, d.toNat), (8, 0xe8)] / 2 ^ 23 % 2 ^ 5 = 15 := by
    simp only [pack, segWidth]; omega
  have hd : decodeE8 (pack [(4, t.toNat), (2, 0x1), (3, o.toNat), (5, 0), (5, a.toNat), (5, d.toNat), (8, 0xe8)]) = some (.gscan (fld (pack [(4, t.toNat), (2, 0x1), (3, o.toNat), (5, 0), (5, a.toNat), (5, d.toNat), (8, 0xe8)]) 28 4) (fld (pack [(4, t.toNat), (2, 0x1), (3, o.toNat), (5, 0), (5, a.toNat), (5, d.toNat), (8, 0xe8)]) 23 3) (fld (pack [(4, t.toNat), (2, 0x1), (3, o.toNat), (5, 0), (5, a.toNat), (5, d.toNat), (8, 0xe8)]) 13 5) (fld (pack [(4, t.toNat), (2, 0x1), (3, o.toNat), (5, 0), (5, a.toNat), (5, d.toNat), (8, 0xe8)]) 8 5)) := by
    rcases hf with hf | hf | hf | hf | hf | hf | hf | hf
    · exact decodeE8_8 _ hf
    · exact decodeE8_9 _ hf
    · exact decodeE8_10 _ hf
    · exact decodeE8_11 _ hf
    · exact decodeE8_12 _ hf
    · exact decodeE8_13 _ hf
    · exact decodeE8_14 _ hf
    · exact decodeE8_15 _ hf
  have h0 : fld (pack [(4, t.toNat), (2, 0x1), (3, o.toNat), (5, 0), (5, a.toNat), (5, d.toNat), (8, 0xe8)]) 28 4 = t :=
    fld_pack [] 4 t [(2, 0x1), (3, o.toNat), (5, 0), (5, a.toNat), (5, d.toNat), (8, 0xe8)] ⟨by decide, o.isLt, by decide, a.isLt, d.isLt, by decide, trivial⟩
  have h1 : fld (pack [(4, t.toNat), (2, 0x1), (3, o.toNat), (5, 0), (5, a.toNat), (5, d.toNat), (8, 0xe8)]) 23 3 = o :=
    fld_pack [(4, t.toNat), (2, 0x1)] 3 o [(5, 0), (5, a.toNat), (5, d.toNat), (8, 0xe8)] ⟨by decide, a.isLt, d.isLt, by decide, trivial⟩
  have h2 : fld (pack [(4, t.toNat), (2, 0x1), (3, o.toNat), (5, 0), (5, a.toNat), (5, d.toNat), (8, 0xe8)]) 13 5 = a :=
    fld_pack [(4, t.toNat), (2, 0x1), (3, o.toNat), (5, 0)] 5 a [(5, d.toNat), (8, 0xe8)] ⟨d.isLt, by decide, trivial⟩
  have h3 : fld (pack [(4, t.toNat), (2, 0x1), (3, o.toNat), (5, 0), (5, a.toNat), (5, d.toNat), (8, 0xe8)]) 8 5 = d :=
    fld_pack [(4, t.toNat), (2, 0x1), (3, o.toNat), (5, 0), (5, a.toNat)] 5 d [(8, 0xe8)] ⟨by decide, trivial⟩
  exact bytes_one _ (pack [(4, t.toNat), (2, 0x1), (3, o.toNat), (5, 0), (5, a.toNat), (5, d.toNat), (8, 0xe8)]) rfl (pack_lt _ ⟨t.isLt, by decide, o.isLt, by decide, a.isLt, d.isLt, by decide, trivial⟩) 232 hl (by decide)
    (fun _ => (loose_E8 _ _ hl).trans ((hd).trans (by rw [h0, h1, h2, h3]))) rest
theorem RoundTrip.gmax (t : BitVec 4) (b : BitVec 5) (a : BitVec 5) (d : BitVec 5) : RoundTrip.Statement (.gmax t b a d) := by
  intro _ rest
  have hl : pack [(4, t.toNat), (5, 0x10), (5, b.toNat), (5, a.toNat), (5, d.toNat), (8, 0xe8)] % 256 = 232 := low_pack [(4, t.toNat), (5, 0x10), (5, b.toNat), (5, a.toNat), (5, d.toNat)] 232 (by decide)
  have hf : pack [(4, t.toNat), (5, 0x10), (5, b.toNat), (5, a.toNat), (5, d.toNat), (8, 0xe8)] / 2 ^ 23 % 2 ^ 5 = 16 :=
    seg_pack [(4, t.toNat)] 5 16 [(5, b.toNat), (5, a.toNat), (5, d.toNat), (8, 0xe8)] ⟨by decide, b.isLt, a.isLt, d.isLt, by decide, trivial⟩
  have h0 : fld (pack [(4, t.toNat), (5, 0x10), (5, b.toNat), (5, a.toNat), (5, d.toNat), (8, 0xe8)]) 28 4 = t :=
    fld_pack [] 4 t [(5, 0x10), (5, b.toNat), (5, a.toNat), (5, d.toNat), (8, 0xe8)] ⟨by decide, b.isLt, a.isLt, d.isLt, by decide, trivial⟩
  have h1 : fld (pack [(4, t.toNat), (5, 0x10), (5, b.toNat), (5, a.toNat), (5, d.toNat), (8, 0xe8)]) 18 5 = b :=
    fld_pack [(4, t.toNat), (5, 0x10)] 5 b [(5, a.toNat), (5, d.toNat), (8, 0xe8)] ⟨a.isLt, d.isLt, by decide, trivial⟩
  have h2 : fld (pack [(4, t.toNat), (5, 0x10), (5, b.toNat), (5, a.toNat), (5, d.toNat), (8, 0xe8)]) 13 5 = a :=
    fld_pack [(4, t.toNat), (5, 0x10), (5, b.toNat)] 5 a [(5, d.toNat), (8, 0xe8)] ⟨d.isLt, by decide, trivial⟩
  have h3 : fld (pack [(4, t.toNat), (5, 0x10), (5, b.toNat), (5, a.toNat), (5, d.toNat), (8, 0xe8)]) 8 5 = d :=
    fld_pack [(4, t.toNat), (5, 0x10), (5, b.toNat), (5, a.toNat)] 5 d [(8, 0xe8)] ⟨by decide, trivial⟩
  exact bytes_one _ (pack [(4, t.toNat), (5, 0x10), (5, b.toNat), (5, a.toNat), (5, d.toNat), (8, 0xe8)]) rfl (pack_lt _ ⟨t.isLt, by decide, b.isLt, a.isLt, d.isLt, by decide, trivial⟩) 232 hl (by decide)
    (fun _ => (loose_E8 _ _ hl).trans ((decodeE8_16 _ hf).trans (by rw [h0, h1, h2, h3]))) rest
theorem RoundTrip.gbar (r : BitVec 5) (d : BitVec 5) : RoundTrip.Statement (.gbar r d) := by
  intro _ rest
  have hl : pack [(4, 0), (5, 0), (5, r.toNat), (5, 0), (5, d.toNat), (8, 0xec)] % 256 = 236 := low_pack [(4, 0), (5, 0), (5, r.toNat), (5, 0), (5, d.toNat)] 236 (by decide)
  have hf : pack [(4, 0), (5, 0), (5, r.toNat), (5, 0), (5, d.toNat), (8, 0xec)] / 2 ^ 23 % 2 ^ 5 = 0 :=
    seg_pack [(4, 0)] 5 0 [(5, r.toNat), (5, 0), (5, d.toNat), (8, 0xec)] ⟨by decide, r.isLt, by decide, d.isLt, by decide, trivial⟩
  have h0 : fld (pack [(4, 0), (5, 0), (5, r.toNat), (5, 0), (5, d.toNat), (8, 0xec)]) 18 5 = r :=
    fld_pack [(4, 0), (5, 0)] 5 r [(5, 0), (5, d.toNat), (8, 0xec)] ⟨by decide, d.isLt, by decide, trivial⟩
  have h1 : fld (pack [(4, 0), (5, 0), (5, r.toNat), (5, 0), (5, d.toNat), (8, 0xec)]) 8 5 = d :=
    fld_pack [(4, 0), (5, 0), (5, r.toNat), (5, 0)] 5 d [(8, 0xec)] ⟨by decide, trivial⟩
  exact bytes_one _ (pack [(4, 0), (5, 0), (5, r.toNat), (5, 0), (5, d.toNat), (8, 0xec)]) rfl (pack_lt _ ⟨by decide, by decide, r.isLt, by decide, d.isLt, by decide, trivial⟩) 236 hl (by decide)
    (fun _ => (loose_EC _ _ hl).trans ((decodeEC_0 _ hf).trans (by rw [h0, h1]))) rest
theorem RoundTrip.send (b : BitVec 5) (a : BitVec 5) : RoundTrip.Statement (.send b a) := by
  intro _ rest
  have hl : pack [(9, 0), (5, b.toNat), (5, a.toNat), (5, 0), (8, 0xf0)] % 256 = 240 := low_pack [(9, 0), (5, b.toNat), (5, a.toNat), (5, 0)] 240 (by decide)
  have hf : pack [(9, 0), (5, b.toNat), (5, a.toNat), (5, 0), (8, 0xf0)] / 2 ^ 23 % 2 ^ 9 = 0 :=
    seg_pack [] 9 0 [(5, b.toNat), (5, a.toNat), (5, 0), (8, 0xf0)] ⟨by decide, b.isLt, a.isLt, by decide, by decide, trivial⟩
  have h0 : fld (pack [(9, 0), (5, b.toNat), (5, a.toNat), (5, 0), (8, 0xf0)]) 18 5 = b :=
    fld_pack [(9, 0)] 5 b [(5, a.toNat), (5, 0), (8, 0xf0)] ⟨a.isLt, by decide, by decide, trivial⟩
  have h1 : fld (pack [(9, 0), (5, b.toNat), (5, a.toNat), (5, 0), (8, 0xf0)]) 13 5 = a :=
    fld_pack [(9, 0), (5, b.toNat)] 5 a [(5, 0), (8, 0xf0)] ⟨by decide, by decide, trivial⟩
  exact bytes_one _ (pack [(9, 0), (5, b.toNat), (5, a.toNat), (5, 0), (8, 0xf0)]) rfl (pack_lt _ ⟨by decide, b.isLt, a.isLt, by decide, by decide, trivial⟩) 240 hl (by decide)
    (fun _ => (loose_F0 _ _ hl).trans ((decodeF0_0 _ hf).trans (by rw [h0, h1]))) rest
theorem RoundTrip.spawn (b : BitVec 5) (a : BitVec 5) (d : BitVec 5) : RoundTrip.Statement (.spawn b a d) := by
  intro _ rest
  have hl : pack [(9, 0x1), (5, b.toNat), (5, a.toNat), (5, d.toNat), (8, 0xf0)] % 256 = 240 := low_pack [(9, 0x1), (5, b.toNat), (5, a.toNat), (5, d.toNat)] 240 (by decide)
  have hf : pack [(9, 0x1), (5, b.toNat), (5, a.toNat), (5, d.toNat), (8, 0xf0)] / 2 ^ 23 % 2 ^ 9 = 1 :=
    seg_pack [] 9 1 [(5, b.toNat), (5, a.toNat), (5, d.toNat), (8, 0xf0)] ⟨by decide, b.isLt, a.isLt, d.isLt, by decide, trivial⟩
  have h0 : fld (pack [(9, 0x1), (5, b.toNat), (5, a.toNat), (5, d.toNat), (8, 0xf0)]) 18 5 = b :=
    fld_pack [(9, 0x1)] 5 b [(5, a.toNat), (5, d.toNat), (8, 0xf0)] ⟨a.isLt, d.isLt, by decide, trivial⟩
  have h1 : fld (pack [(9, 0x1), (5, b.toNat), (5, a.toNat), (5, d.toNat), (8, 0xf0)]) 13 5 = a :=
    fld_pack [(9, 0x1), (5, b.toNat)] 5 a [(5, d.toNat), (8, 0xf0)] ⟨d.isLt, by decide, trivial⟩
  have h2 : fld (pack [(9, 0x1), (5, b.toNat), (5, a.toNat), (5, d.toNat), (8, 0xf0)]) 8 5 = d :=
    fld_pack [(9, 0x1), (5, b.toNat), (5, a.toNat)] 5 d [(8, 0xf0)] ⟨by decide, trivial⟩
  exact bytes_one _ (pack [(9, 0x1), (5, b.toNat), (5, a.toNat), (5, d.toNat), (8, 0xf0)]) rfl (pack_lt _ ⟨by decide, b.isLt, a.isLt, d.isLt, by decide, trivial⟩) 240 hl (by decide)
    (fun _ => (loose_F0 _ _ hl).trans ((decodeF0_1 _ hf).trans (by rw [h0, h1, h2]))) rest
theorem RoundTrip.post (b : BitVec 5) (a : BitVec 5) : RoundTrip.Statement (.post b a) := by
  intro _ rest
  have hl : pack [(9, 0x2), (5, b.toNat), (5, a.toNat), (5, 0), (8, 0xf0)] % 256 = 240 := low_pack [(9, 0x2), (5, b.toNat), (5, a.toNat), (5, 0)] 240 (by decide)
  have hf : pack [(9, 0x2), (5, b.toNat), (5, a.toNat), (5, 0), (8, 0xf0)] / 2 ^ 23 % 2 ^ 9 = 2 :=
    seg_pack [] 9 2 [(5, b.toNat), (5, a.toNat), (5, 0), (8, 0xf0)] ⟨by decide, b.isLt, a.isLt, by decide, by decide, trivial⟩
  have h0 : fld (pack [(9, 0x2), (5, b.toNat), (5, a.toNat), (5, 0), (8, 0xf0)]) 18 5 = b :=
    fld_pack [(9, 0x2)] 5 b [(5, a.toNat), (5, 0), (8, 0xf0)] ⟨a.isLt, by decide, by decide, trivial⟩
  have h1 : fld (pack [(9, 0x2), (5, b.toNat), (5, a.toNat), (5, 0), (8, 0xf0)]) 13 5 = a :=
    fld_pack [(9, 0x2), (5, b.toNat)] 5 a [(5, 0), (8, 0xf0)] ⟨by decide, by decide, trivial⟩
  exact bytes_one _ (pack [(9, 0x2), (5, b.toNat), (5, a.toNat), (5, 0), (8, 0xf0)]) rfl (pack_lt _ ⟨by decide, b.isLt, a.isLt, by decide, by decide, trivial⟩) 240 hl (by decide)
    (fun _ => (loose_F0 _ _ hl).trans ((decodeF0_2 _ hf).trans (by rw [h0, h1]))) rest
theorem RoundTrip.decr (b : BitVec 5) (a : BitVec 5) : RoundTrip.Statement (.decr b a) := by
  intro _ rest
  have hl : pack [(9, 0x3), (5, b.toNat), (5, a.toNat), (5, 0), (8, 0xf0)] % 256 = 240 := low_pack [(9, 0x3), (5, b.toNat), (5, a.toNat), (5, 0)] 240 (by decide)
  have hf : pack [(9, 0x3), (5, b.toNat), (5, a.toNat), (5, 0), (8, 0xf0)] / 2 ^ 23 % 2 ^ 9 = 3 :=
    seg_pack [] 9 3 [(5, b.toNat), (5, a.toNat), (5, 0), (8, 0xf0)] ⟨by decide, b.isLt, a.isLt, by decide, by decide, trivial⟩
  have h0 : fld (pack [(9, 0x3), (5, b.toNat), (5, a.toNat), (5, 0), (8, 0xf0)]) 18 5 = b :=
    fld_pack [(9, 0x3)] 5 b [(5, a.toNat), (5, 0), (8, 0xf0)] ⟨a.isLt, by decide, by decide, trivial⟩
  have h1 : fld (pack [(9, 0x3), (5, b.toNat), (5, a.toNat), (5, 0), (8, 0xf0)]) 13 5 = a :=
    fld_pack [(9, 0x3), (5, b.toNat)] 5 a [(5, 0), (8, 0xf0)] ⟨by decide, by decide, trivial⟩
  exact bytes_one _ (pack [(9, 0x3), (5, b.toNat), (5, a.toNat), (5, 0), (8, 0xf0)]) rfl (pack_lt _ ⟨by decide, b.isLt, a.isLt, by decide, by decide, trivial⟩) 240 hl (by decide)
    (fun _ => (loose_F0 _ _ hl).trans ((decodeF0_3 _ hf).trans (by rw [h0, h1]))) rest
theorem RoundTrip.kick (b : BitVec 5) (a : BitVec 5) (d : BitVec 5) : RoundTrip.Statement (.kick b a d) := by
  intro _ rest
  have hl : pack [(9, 0x4), (5, b.toNat), (5, a.toNat), (5, d.toNat), (8, 0xf0)] % 256 = 240 := low_pack [(9, 0x4), (5, b.toNat), (5, a.toNat), (5, d.toNat)] 240 (by decide)
  have hf : pack [(9, 0x4), (5, b.toNat), (5, a.toNat), (5, d.toNat), (8, 0xf0)] / 2 ^ 23 % 2 ^ 9 = 4 :=
    seg_pack [] 9 4 [(5, b.toNat), (5, a.toNat), (5, d.toNat), (8, 0xf0)] ⟨by decide, b.isLt, a.isLt, d.isLt, by decide, trivial⟩
  have h0 : fld (pack [(9, 0x4), (5, b.toNat), (5, a.toNat), (5, d.toNat), (8, 0xf0)]) 18 5 = b :=
    fld_pack [(9, 0x4)] 5 b [(5, a.toNat), (5, d.toNat), (8, 0xf0)] ⟨a.isLt, d.isLt, by decide, trivial⟩
  have h1 : fld (pack [(9, 0x4), (5, b.toNat), (5, a.toNat), (5, d.toNat), (8, 0xf0)]) 13 5 = a :=
    fld_pack [(9, 0x4), (5, b.toNat)] 5 a [(5, d.toNat), (8, 0xf0)] ⟨d.isLt, by decide, trivial⟩
  have h2 : fld (pack [(9, 0x4), (5, b.toNat), (5, a.toNat), (5, d.toNat), (8, 0xf0)]) 8 5 = d :=
    fld_pack [(9, 0x4), (5, b.toNat), (5, a.toNat)] 5 d [(8, 0xf0)] ⟨by decide, trivial⟩
  exact bytes_one _ (pack [(9, 0x4), (5, b.toNat), (5, a.toNat), (5, d.toNat), (8, 0xf0)]) rfl (pack_lt _ ⟨by decide, b.isLt, a.isLt, d.isLt, by decide, trivial⟩) 240 hl (by decide)
    (fun _ => (loose_F0 _ _ hl).trans ((decodeF0_4 _ hf).trans (by rw [h0, h1, h2]))) rest
theorem RoundTrip.ackx (b : BitVec 5) (a : BitVec 5) : RoundTrip.Statement (.ackx b a) := by
  intro _ rest
  have hl : pack [(9, 0x5), (5, b.toNat), (5, a.toNat), (5, 0), (8, 0xf0)] % 256 = 240 := low_pack [(9, 0x5), (5, b.toNat), (5, a.toNat), (5, 0)] 240 (by decide)
  have hf : pack [(9, 0x5), (5, b.toNat), (5, a.toNat), (5, 0), (8, 0xf0)] / 2 ^ 23 % 2 ^ 9 = 5 :=
    seg_pack [] 9 5 [(5, b.toNat), (5, a.toNat), (5, 0), (8, 0xf0)] ⟨by decide, b.isLt, a.isLt, by decide, by decide, trivial⟩
  have h0 : fld (pack [(9, 0x5), (5, b.toNat), (5, a.toNat), (5, 0), (8, 0xf0)]) 18 5 = b :=
    fld_pack [(9, 0x5)] 5 b [(5, a.toNat), (5, 0), (8, 0xf0)] ⟨a.isLt, by decide, by decide, trivial⟩
  have h1 : fld (pack [(9, 0x5), (5, b.toNat), (5, a.toNat), (5, 0), (8, 0xf0)]) 13 5 = a :=
    fld_pack [(9, 0x5), (5, b.toNat)] 5 a [(5, 0), (8, 0xf0)] ⟨by decide, by decide, trivial⟩
  exact bytes_one _ (pack [(9, 0x5), (5, b.toNat), (5, a.toNat), (5, 0), (8, 0xf0)]) rfl (pack_lt _ ⟨by decide, b.isLt, a.isLt, by decide, by decide, trivial⟩) 240 hl (by decide)
    (fun _ => (loose_F0 _ _ hl).trans ((decodeF0_5 _ hf).trans (by rw [h0, h1]))) rest
theorem RoundTrip.twpost (b : BitVec 5) (a : BitVec 5) (d : BitVec 5) : RoundTrip.Statement (.twpost b a d) := by
  intro _ rest
  have hl : pack [(9, 0x6), (5, b.toNat), (5, a.toNat), (5, d.toNat), (8, 0xf0)] % 256 = 240 := low_pack [(9, 0x6), (5, b.toNat), (5, a.toNat), (5, d.toNat)] 240 (by decide)
  have hf : pack [(9, 0x6), (5, b.toNat), (5, a.toNat), (5, d.toNat), (8, 0xf0)] / 2 ^ 23 % 2 ^ 9 = 6 :=
    seg_pack [] 9 6 [(5, b.toNat), (5, a.toNat), (5, d.toNat), (8, 0xf0)] ⟨by decide, b.isLt, a.isLt, d.isLt, by decide, trivial⟩
  have h0 : fld (pack [(9, 0x6), (5, b.toNat), (5, a.toNat), (5, d.toNat), (8, 0xf0)]) 18 5 = b :=
    fld_pack [(9, 0x6)] 5 b [(5, a.toNat), (5, d.toNat), (8, 0xf0)] ⟨a.isLt, d.isLt, by decide, trivial⟩
  have h1 : fld (pack [(9, 0x6), (5, b.toNat), (5, a.toNat), (5, d.toNat), (8, 0xf0)]) 13 5 = a :=
    fld_pack [(9, 0x6), (5, b.toNat)] 5 a [(5, d.toNat), (8, 0xf0)] ⟨d.isLt, by decide, trivial⟩
  have h2 : fld (pack [(9, 0x6), (5, b.toNat), (5, a.toNat), (5, d.toNat), (8, 0xf0)]) 8 5 = d :=
    fld_pack [(9, 0x6), (5, b.toNat), (5, a.toNat)] 5 d [(8, 0xf0)] ⟨by decide, trivial⟩
  exact bytes_one _ (pack [(9, 0x6), (5, b.toNat), (5, a.toNat), (5, d.toNat), (8, 0xf0)]) rfl (pack_lt _ ⟨by decide, b.isLt, a.isLt, d.isLt, by decide, trivial⟩) 240 hl (by decide)
    (fun _ => (loose_F0 _ _ hl).trans ((decodeF0_6 _ hf).trans (by rw [h0, h1, h2]))) rest
theorem RoundTrip.splice (b : BitVec 5) (a : BitVec 5) : RoundTrip.Statement (.splice b a) := by
  intro _ rest
  have hl : pack [(9, 0x7), (5, b.toNat), (5, a.toNat), (5, 0), (8, 0xf0)] % 256 = 240 := low_pack [(9, 0x7), (5, b.toNat), (5, a.toNat), (5, 0)] 240 (by decide)
  have hf : pack [(9, 0x7), (5, b.toNat), (5, a.toNat), (5, 0), (8, 0xf0)] / 2 ^ 23 % 2 ^ 9 = 7 :=
    seg_pack [] 9 7 [(5, b.toNat), (5, a.toNat), (5, 0), (8, 0xf0)] ⟨by decide, b.isLt, a.isLt, by decide, by decide, trivial⟩
  have h0 : fld (pack [(9, 0x7), (5, b.toNat), (5, a.toNat), (5, 0), (8, 0xf0)]) 18 5 = b :=
    fld_pack [(9, 0x7)] 5 b [(5, a.toNat), (5, 0), (8, 0xf0)] ⟨a.isLt, by decide, by decide, trivial⟩
  have h1 : fld (pack [(9, 0x7), (5, b.toNat), (5, a.toNat), (5, 0), (8, 0xf0)]) 13 5 = a :=
    fld_pack [(9, 0x7), (5, b.toNat)] 5 a [(5, 0), (8, 0xf0)] ⟨by decide, by decide, trivial⟩
  exact bytes_one _ (pack [(9, 0x7), (5, b.toNat), (5, a.toNat), (5, 0), (8, 0xf0)]) rfl (pack_lt _ ⟨by decide, b.isLt, a.isLt, by decide, by decide, trivial⟩) 240 hl (by decide)
    (fun _ => (loose_F0 _ _ hl).trans ((decodeF0_7 _ hf).trans (by rw [h0, h1]))) rest
theorem RoundTrip.recfwd (b : BitVec 5) (a : BitVec 5) : RoundTrip.Statement (.recfwd b a) := by
  intro _ rest
  have hl : pack [(9, 0x8), (5, b.toNat), (5, a.toNat), (5, 0), (8, 0xf0)] % 256 = 240 := low_pack [(9, 0x8), (5, b.toNat), (5, a.toNat), (5, 0)] 240 (by decide)
  have hf : pack [(9, 0x8), (5, b.toNat), (5, a.toNat), (5, 0), (8, 0xf0)] / 2 ^ 23 % 2 ^ 9 = 8 :=
    seg_pack [] 9 8 [(5, b.toNat), (5, a.toNat), (5, 0), (8, 0xf0)] ⟨by decide, b.isLt, a.isLt, by decide, by decide, trivial⟩
  have h0 : fld (pack [(9, 0x8), (5, b.toNat), (5, a.toNat), (5, 0), (8, 0xf0)]) 18 5 = b :=
    fld_pack [(9, 0x8)] 5 b [(5, a.toNat), (5, 0), (8, 0xf0)] ⟨a.isLt, by decide, by decide, trivial⟩
  have h1 : fld (pack [(9, 0x8), (5, b.toNat), (5, a.toNat), (5, 0), (8, 0xf0)]) 13 5 = a :=
    fld_pack [(9, 0x8), (5, b.toNat)] 5 a [(5, 0), (8, 0xf0)] ⟨by decide, by decide, trivial⟩
  exact bytes_one _ (pack [(9, 0x8), (5, b.toNat), (5, a.toNat), (5, 0), (8, 0xf0)]) rfl (pack_lt _ ⟨by decide, b.isLt, a.isLt, by decide, by decide, trivial⟩) 240 hl (by decide)
    (fun _ => (loose_F0 _ _ hl).trans ((decodeF0_8 _ hf).trans (by rw [h0, h1]))) rest
theorem RoundTrip.chcfg (b : BitVec 5) (a : BitVec 5) (d : BitVec 5) : RoundTrip.Statement (.chcfg b a d) := by
  intro _ rest
  have hl : pack [(9, 0), (5, b.toNat), (5, a.toNat), (5, d.toNat), (8, 0xf4)] % 256 = 244 := low_pack [(9, 0), (5, b.toNat), (5, a.toNat), (5, d.toNat)] 244 (by decide)
  have hf : pack [(9, 0), (5, b.toNat), (5, a.toNat), (5, d.toNat), (8, 0xf4)] / 2 ^ 23 % 2 ^ 9 = 0 :=
    seg_pack [] 9 0 [(5, b.toNat), (5, a.toNat), (5, d.toNat), (8, 0xf4)] ⟨by decide, b.isLt, a.isLt, d.isLt, by decide, trivial⟩
  have h0 : fld (pack [(9, 0), (5, b.toNat), (5, a.toNat), (5, d.toNat), (8, 0xf4)]) 18 5 = b :=
    fld_pack [(9, 0)] 5 b [(5, a.toNat), (5, d.toNat), (8, 0xf4)] ⟨a.isLt, d.isLt, by decide, trivial⟩
  have h1 : fld (pack [(9, 0), (5, b.toNat), (5, a.toNat), (5, d.toNat), (8, 0xf4)]) 13 5 = a :=
    fld_pack [(9, 0), (5, b.toNat)] 5 a [(5, d.toNat), (8, 0xf4)] ⟨d.isLt, by decide, trivial⟩
  have h2 : fld (pack [(9, 0), (5, b.toNat), (5, a.toNat), (5, d.toNat), (8, 0xf4)]) 8 5 = d :=
    fld_pack [(9, 0), (5, b.toNat), (5, a.toNat)] 5 d [(8, 0xf4)] ⟨by decide, trivial⟩
  exact bytes_one _ (pack [(9, 0), (5, b.toNat), (5, a.toNat), (5, d.toNat), (8, 0xf4)]) rfl (pack_lt _ ⟨by decide, b.isLt, a.isLt, d.isLt, by decide, trivial⟩) 244 hl (by decide)
    (fun _ => (loose_F4 _ _ hl).trans ((decodeF4_0 _ hf).trans (by rw [h0, h1, h2]))) rest
theorem RoundTrip.chblk (a : BitVec 5) : RoundTrip.Statement (.chblk a) := by
  intro _ rest
  have hl : pack [(9, 0x1), (5, 0), (5, a.toNat), (5, 0), (8, 0xf4)] % 256 = 244 := low_pack [(9, 0x1), (5, 0), (5, a.toNat), (5, 0)] 244 (by decide)
  have hf : pack [(9, 0x1), (5, 0), (5, a.toNat), (5, 0), (8, 0xf4)] / 2 ^ 23 % 2 ^ 9 = 1 :=
    seg_pack [] 9 1 [(5, 0), (5, a.toNat), (5, 0), (8, 0xf4)] ⟨by decide, by decide, a.isLt, by decide, by decide, trivial⟩
  have h0 : fld (pack [(9, 0x1), (5, 0), (5, a.toNat), (5, 0), (8, 0xf4)]) 13 5 = a :=
    fld_pack [(9, 0x1), (5, 0)] 5 a [(5, 0), (8, 0xf4)] ⟨by decide, by decide, trivial⟩
  exact bytes_one _ (pack [(9, 0x1), (5, 0), (5, a.toNat), (5, 0), (8, 0xf4)]) rfl (pack_lt _ ⟨by decide, by decide, a.isLt, by decide, by decide, trivial⟩) 244 hl (by decide)
    (fun _ => (loose_F4 _ _ hl).trans ((decodeF4_1 _ hf).trans (by rw [h0]))) rest
theorem RoundTrip.chunb (a : BitVec 5) : RoundTrip.Statement (.chunb a) := by
  intro _ rest
  have hl : pack [(9, 0x2), (5, 0), (5, a.toNat), (5, 0), (8, 0xf4)] % 256 = 244 := low_pack [(9, 0x2), (5, 0), (5, a.toNat), (5, 0)] 244 (by decide)
  have hf : pack [(9, 0x2), (5, 0), (5, a.toNat), (5, 0), (8, 0xf4)] / 2 ^ 23 % 2 ^ 9 = 2 :=
    seg_pack [] 9 2 [(5, 0), (5, a.toNat), (5, 0), (8, 0xf4)] ⟨by decide, by decide, a.isLt, by decide, by decide, trivial⟩
  have h0 : fld (pack [(9, 0x2), (5, 0), (5, a.toNat), (5, 0), (8, 0xf4)]) 13 5 = a :=
    fld_pack [(9, 0x2), (5, 0)] 5 a [(5, 0), (8, 0xf4)] ⟨by decide, by decide, trivial⟩
  exact bytes_one _ (pack [(9, 0x2), (5, 0), (5, a.toNat), (5, 0), (8, 0xf4)]) rfl (pack_lt _ ⟨by decide, by decide, a.isLt, by decide, by decide, trivial⟩) 244 hl (by decide)
    (fun _ => (loose_F4 _ _ hl).trans ((decodeF4_2 _ hf).trans (by rw [h0]))) rest
theorem RoundTrip.matchTbl (b : BitVec 5) (a : BitVec 5) (d : BitVec 5) : RoundTrip.Statement (.matchTbl b a d) := by
  intro _ rest
  have hl : pack [(9, 0x3), (5, b.toNat), (5, a.toNat), (5, d.toNat), (8, 0xf4)] % 256 = 244 := low_pack [(9, 0x3), (5, b.toNat), (5, a.toNat), (5, d.toNat)] 244 (by decide)
  have hf : pack [(9, 0x3), (5, b.toNat), (5, a.toNat), (5, d.toNat), (8, 0xf4)] / 2 ^ 23 % 2 ^ 9 = 3 :=
    seg_pack [] 9 3 [(5, b.toNat), (5, a.toNat), (5, d.toNat), (8, 0xf4)] ⟨by decide, b.isLt, a.isLt, d.isLt, by decide, trivial⟩
  have h0 : fld (pack [(9, 0x3), (5, b.toNat), (5, a.toNat), (5, d.toNat), (8, 0xf4)]) 18 5 = b :=
    fld_pack [(9, 0x3)] 5 b [(5, a.toNat), (5, d.toNat), (8, 0xf4)] ⟨a.isLt, d.isLt, by decide, trivial⟩
  have h1 : fld (pack [(9, 0x3), (5, b.toNat), (5, a.toNat), (5, d.toNat), (8, 0xf4)]) 13 5 = a :=
    fld_pack [(9, 0x3), (5, b.toNat)] 5 a [(5, d.toNat), (8, 0xf4)] ⟨d.isLt, by decide, trivial⟩
  have h2 : fld (pack [(9, 0x3), (5, b.toNat), (5, a.toNat), (5, d.toNat), (8, 0xf4)]) 8 5 = d :=
    fld_pack [(9, 0x3), (5, b.toNat), (5, a.toNat)] 5 d [(8, 0xf4)] ⟨by decide, trivial⟩
  exact bytes_one _ (pack [(9, 0x3), (5, b.toNat), (5, a.toNat), (5, d.toNat), (8, 0xf4)]) rfl (pack_lt _ ⟨by decide, b.isLt, a.isLt, d.isLt, by decide, trivial⟩) 244 hl (by decide)
    (fun _ => (loose_F4 _ _ hl).trans ((decodeF4_3 _ hf).trans (by rw [h0, h1, h2]))) rest
theorem RoundTrip.role (a : BitVec 5) (d : BitVec 5) : RoundTrip.Statement (.role a d) := by
  intro _ rest
  have hl : pack [(9, 0x4), (5, 0), (5, a.toNat), (5, d.toNat), (8, 0xf4)] % 256 = 244 := low_pack [(9, 0x4), (5, 0), (5, a.toNat), (5, d.toNat)] 244 (by decide)
  have hf : pack [(9, 0x4), (5, 0), (5, a.toNat), (5, d.toNat), (8, 0xf4)] / 2 ^ 23 % 2 ^ 9 = 4 :=
    seg_pack [] 9 4 [(5, 0), (5, a.toNat), (5, d.toNat), (8, 0xf4)] ⟨by decide, by decide, a.isLt, d.isLt, by decide, trivial⟩
  have h0 : fld (pack [(9, 0x4), (5, 0), (5, a.toNat), (5, d.toNat), (8, 0xf4)]) 13 5 = a :=
    fld_pack [(9, 0x4), (5, 0)] 5 a [(5, d.toNat), (8, 0xf4)] ⟨d.isLt, by decide, trivial⟩
  have h1 : fld (pack [(9, 0x4), (5, 0), (5, a.toNat), (5, d.toNat), (8, 0xf4)]) 8 5 = d :=
    fld_pack [(9, 0x4), (5, 0), (5, a.toNat)] 5 d [(8, 0xf4)] ⟨by decide, trivial⟩
  exact bytes_one _ (pack [(9, 0x4), (5, 0), (5, a.toNat), (5, d.toNat), (8, 0xf4)]) rfl (pack_lt _ ⟨by decide, by decide, a.isLt, d.isLt, by decide, trivial⟩) 244 hl (by decide)
    (fun _ => (loose_F4 _ _ hl).trans ((decodeF4_4 _ hf).trans (by rw [h0, h1]))) rest
theorem RoundTrip.rmap (b : BitVec 5) (a : BitVec 5) (d : BitVec 5) : RoundTrip.Statement (.rmap b a d) := by
  intro _ rest
  have hl : pack [(9, 0x5), (5, b.toNat), (5, a.toNat), (5, d.toNat), (8, 0xf4)] % 256 = 244 := low_pack [(9, 0x5), (5, b.toNat), (5, a.toNat), (5, d.toNat)] 244 (by decide)
  have hf : pack [(9, 0x5), (5, b.toNat), (5, a.toNat), (5, d.toNat), (8, 0xf4)] / 2 ^ 23 % 2 ^ 9 = 5 :=
    seg_pack [] 9 5 [(5, b.toNat), (5, a.toNat), (5, d.toNat), (8, 0xf4)] ⟨by decide, b.isLt, a.isLt, d.isLt, by decide, trivial⟩
  have h0 : fld (pack [(9, 0x5), (5, b.toNat), (5, a.toNat), (5, d.toNat), (8, 0xf4)]) 18 5 = b :=
    fld_pack [(9, 0x5)] 5 b [(5, a.toNat), (5, d.toNat), (8, 0xf4)] ⟨a.isLt, d.isLt, by decide, trivial⟩
  have h1 : fld (pack [(9, 0x5), (5, b.toNat), (5, a.toNat), (5, d.toNat), (8, 0xf4)]) 13 5 = a :=
    fld_pack [(9, 0x5), (5, b.toNat)] 5 a [(5, d.toNat), (8, 0xf4)] ⟨d.isLt, by decide, trivial⟩
  have h2 : fld (pack [(9, 0x5), (5, b.toNat), (5, a.toNat), (5, d.toNat), (8, 0xf4)]) 8 5 = d :=
    fld_pack [(9, 0x5), (5, b.toNat), (5, a.toNat)] 5 d [(8, 0xf4)] ⟨by decide, trivial⟩
  exact bytes_one _ (pack [(9, 0x5), (5, b.toNat), (5, a.toNat), (5, d.toNat), (8, 0xf4)]) rfl (pack_lt _ ⟨by decide, b.isLt, a.isLt, d.isLt, by decide, trivial⟩) 244 hl (by decide)
    (fun _ => (loose_F4 _ _ hl).trans ((decodeF4_5 _ hf).trans (by rw [h0, h1, h2]))) rest
theorem RoundTrip.lease (b : BitVec 5) (a : BitVec 5) : RoundTrip.Statement (.lease b a) := by
  intro _ rest
  have hl : pack [(9, 0x6), (5, b.toNat), (5, a.toNat), (5, 0), (8, 0xf4)] % 256 = 244 := low_pack [(9, 0x6), (5, b.toNat), (5, a.toNat), (5, 0)] 244 (by decide)
  have hf : pack [(9, 0x6), (5, b.toNat), (5, a.toNat), (5, 0), (8, 0xf4)] / 2 ^ 23 % 2 ^ 9 = 6 :=
    seg_pack [] 9 6 [(5, b.toNat), (5, a.toNat), (5, 0), (8, 0xf4)] ⟨by decide, b.isLt, a.isLt, by decide, by decide, trivial⟩
  have h0 : fld (pack [(9, 0x6), (5, b.toNat), (5, a.toNat), (5, 0), (8, 0xf4)]) 18 5 = b :=
    fld_pack [(9, 0x6)] 5 b [(5, a.toNat), (5, 0), (8, 0xf4)] ⟨a.isLt, by decide, by decide, trivial⟩
  have h1 : fld (pack [(9, 0x6), (5, b.toNat), (5, a.toNat), (5, 0), (8, 0xf4)]) 13 5 = a :=
    fld_pack [(9, 0x6), (5, b.toNat)] 5 a [(5, 0), (8, 0xf4)] ⟨by decide, by decide, trivial⟩
  exact bytes_one _ (pack [(9, 0x6), (5, b.toNat), (5, a.toNat), (5, 0), (8, 0xf4)]) rfl (pack_lt _ ⟨by decide, b.isLt, a.isLt, by decide, by decide, trivial⟩) 244 hl (by decide)
    (fun _ => (loose_F4 _ _ hl).trans ((decodeF4_6 _ hf).trans (by rw [h0, h1]))) rest
theorem RoundTrip.lrel (a : BitVec 5) : RoundTrip.Statement (.lrel a) := by
  intro _ rest
  have hl : pack [(9, 0x7), (5, 0), (5, a.toNat), (5, 0), (8, 0xf4)] % 256 = 244 := low_pack [(9, 0x7), (5, 0), (5, a.toNat), (5, 0)] 244 (by decide)
  have hf : pack [(9, 0x7), (5, 0), (5, a.toNat), (5, 0), (8, 0xf4)] / 2 ^ 23 % 2 ^ 9 = 7 :=
    seg_pack [] 9 7 [(5, 0), (5, a.toNat), (5, 0), (8, 0xf4)] ⟨by decide, by decide, a.isLt, by decide, by decide, trivial⟩
  have h0 : fld (pack [(9, 0x7), (5, 0), (5, a.toNat), (5, 0), (8, 0xf4)]) 13 5 = a :=
    fld_pack [(9, 0x7), (5, 0)] 5 a [(5, 0), (8, 0xf4)] ⟨by decide, by decide, trivial⟩
  exact bytes_one _ (pack [(9, 0x7), (5, 0), (5, a.toNat), (5, 0), (8, 0xf4)]) rfl (pack_lt _ ⟨by decide, by decide, a.isLt, by decide, by decide, trivial⟩) 244 hl (by decide)
    (fun _ => (loose_F4 _ _ hl).trans ((decodeF4_7 _ hf).trans (by rw [h0]))) rest
theorem RoundTrip.notack (b : BitVec 5) (a : BitVec 5) (d : BitVec 5) : RoundTrip.Statement (.notack b a d) := by
  intro _ rest
  have hl : pack [(9, 0x8), (5, b.toNat), (5, a.toNat), (5, d.toNat), (8, 0xf4)] % 256 = 244 := low_pack [(9, 0x8), (5, b.toNat), (5, a.toNat), (5, d.toNat)] 244 (by decide)
  have hf : pack [(9, 0x8), (5, b.toNat), (5, a.toNat), (5, d.toNat), (8, 0xf4)] / 2 ^ 23 % 2 ^ 9 = 8 :=
    seg_pack [] 9 8 [(5, b.toNat), (5, a.toNat), (5, d.toNat), (8, 0xf4)] ⟨by decide, b.isLt, a.isLt, d.isLt, by decide, trivial⟩
  have h0 : fld (pack [(9, 0x8), (5, b.toNat), (5, a.toNat), (5, d.toNat), (8, 0xf4)]) 18 5 = b :=
    fld_pack [(9, 0x8)] 5 b [(5, a.toNat), (5, d.toNat), (8, 0xf4)] ⟨a.isLt, d.isLt, by decide, trivial⟩
  have h1 : fld (pack [(9, 0x8), (5, b.toNat), (5, a.toNat), (5, d.toNat), (8, 0xf4)]) 13 5 = a :=
    fld_pack [(9, 0x8), (5, b.toNat)] 5 a [(5, d.toNat), (8, 0xf4)] ⟨d.isLt, by decide, trivial⟩
  have h2 : fld (pack [(9, 0x8), (5, b.toNat), (5, a.toNat), (5, d.toNat), (8, 0xf4)]) 8 5 = d :=
    fld_pack [(9, 0x8), (5, b.toNat), (5, a.toNat)] 5 d [(8, 0xf4)] ⟨by decide, trivial⟩
  exact bytes_one _ (pack [(9, 0x8), (5, b.toNat), (5, a.toNat), (5, d.toNat), (8, 0xf4)]) rfl (pack_lt _ ⟨by decide, b.isLt, a.isLt, d.isLt, by decide, trivial⟩) 244 hl (by decide)
    (fun _ => (loose_F4 _ _ hl).trans ((decodeF4_8 _ hf).trans (by rw [h0, h1, h2]))) rest
theorem RoundTrip.budget (a : BitVec 5) (d : BitVec 5) : RoundTrip.Statement (.budget a d) := by
  intro _ rest
  have hl : pack [(9, 0), (5, 0), (5, a.toNat), (5, d.toNat), (8, 0xf8)] % 256 = 248 := low_pack [(9, 0), (5, 0), (5, a.toNat), (5, d.toNat)] 248 (by decide)
  have hf : pack [(9, 0), (5, 0), (5, a.toNat), (5, d.toNat), (8, 0xf8)] / 2 ^ 23 % 2 ^ 9 = 0 :=
    seg_pack [] 9 0 [(5, 0), (5, a.toNat), (5, d.toNat), (8, 0xf8)] ⟨by decide, by decide, a.isLt, d.isLt, by decide, trivial⟩
  have h0 : fld (pack [(9, 0), (5, 0), (5, a.toNat), (5, d.toNat), (8, 0xf8)]) 13 5 = a :=
    fld_pack [(9, 0), (5, 0)] 5 a [(5, d.toNat), (8, 0xf8)] ⟨d.isLt, by decide, trivial⟩
  have h1 : fld (pack [(9, 0), (5, 0), (5, a.toNat), (5, d.toNat), (8, 0xf8)]) 8 5 = d :=
    fld_pack [(9, 0), (5, 0), (5, a.toNat)] 5 d [(8, 0xf8)] ⟨by decide, trivial⟩
  exact bytes_one _ (pack [(9, 0), (5, 0), (5, a.toNat), (5, d.toNat), (8, 0xf8)]) rfl (pack_lt _ ⟨by decide, by decide, a.isLt, d.isLt, by decide, trivial⟩) 248 hl (by decide)
    (fun _ => (loose_F8 _ _ hl).trans ((decodeF8_0 _ hf).trans (by rw [h0, h1]))) rest
theorem RoundTrip.badd (b : BitVec 5) (a : BitVec 5) (d : BitVec 5) : RoundTrip.Statement (.badd b a d) := by
  intro _ rest
  have hl : pack [(9, 0x1), (5, b.toNat), (5, a.toNat), (5, d.toNat), (8, 0xf8)] % 256 = 248 := low_pack [(9, 0x1), (5, b.toNat), (5, a.toNat), (5, d.toNat)] 248 (by decide)
  have hf : pack [(9, 0x1), (5, b.toNat), (5, a.toNat), (5, d.toNat), (8, 0xf8)] / 2 ^ 23 % 2 ^ 9 = 1 :=
    seg_pack [] 9 1 [(5, b.toNat), (5, a.toNat), (5, d.toNat), (8, 0xf8)] ⟨by decide, b.isLt, a.isLt, d.isLt, by decide, trivial⟩
  have h0 : fld (pack [(9, 0x1), (5, b.toNat), (5, a.toNat), (5, d.toNat), (8, 0xf8)]) 18 5 = b :=
    fld_pack [(9, 0x1)] 5 b [(5, a.toNat), (5, d.toNat), (8, 0xf8)] ⟨a.isLt, d.isLt, by decide, trivial⟩
  have h1 : fld (pack [(9, 0x1), (5, b.toNat), (5, a.toNat), (5, d.toNat), (8, 0xf8)]) 13 5 = a :=
    fld_pack [(9, 0x1), (5, b.toNat)] 5 a [(5, d.toNat), (8, 0xf8)] ⟨d.isLt, by decide, trivial⟩
  have h2 : fld (pack [(9, 0x1), (5, b.toNat), (5, a.toNat), (5, d.toNat), (8, 0xf8)]) 8 5 = d :=
    fld_pack [(9, 0x1), (5, b.toNat), (5, a.toNat)] 5 d [(8, 0xf8)] ⟨by decide, trivial⟩
  exact bytes_one _ (pack [(9, 0x1), (5, b.toNat), (5, a.toNat), (5, d.toNat), (8, 0xf8)]) rfl (pack_lt _ ⟨by decide, b.isLt, a.isLt, d.isLt, by decide, trivial⟩) 248 hl (by decide)
    (fun _ => (loose_F8 _ _ hl).trans ((decodeF8_1 _ hf).trans (by rw [h0, h1, h2]))) rest
theorem RoundTrip.hbeat : RoundTrip.Statement .hbeat := by
  intro _ rest
  have hl : pack [(9, 0x2), (15, 0), (8, 0xf8)] % 256 = 248 := low_pack [(9, 0x2), (15, 0)] 248 (by decide)
  have hf : pack [(9, 0x2), (15, 0), (8, 0xf8)] / 2 ^ 23 % 2 ^ 9 = 2 :=
    seg_pack [] 9 2 [(15, 0), (8, 0xf8)] ⟨by decide, by decide, by decide, trivial⟩
  exact bytes_one _ (pack [(9, 0x2), (15, 0), (8, 0xf8)]) rfl (pack_lt _ ⟨by decide, by decide, by decide, trivial⟩) 248 hl (by decide)
    (fun _ => (loose_F8 _ _ hl).trans ((decodeF8_2 _ hf).trans (rfl))) rest
theorem RoundTrip.cntrd (a : BitVec 5) (d : BitVec 5) : RoundTrip.Statement (.cntrd a d) := by
  intro _ rest
  have hl : pack [(9, 0x3), (5, 0), (5, a.toNat), (5, d.toNat), (8, 0xf8)] % 256 = 248 := low_pack [(9, 0x3), (5, 0), (5, a.toNat), (5, d.toNat)] 248 (by decide)
  have hf : pack [(9, 0x3), (5, 0), (5, a.toNat), (5, d.toNat), (8, 0xf8)] / 2 ^ 23 % 2 ^ 9 = 3 :=
    seg_pack [] 9 3 [(5, 0), (5, a.toNat), (5, d.toNat), (8, 0xf8)] ⟨by decide, by decide, a.isLt, d.isLt, by decide, trivial⟩
  have h0 : fld (pack [(9, 0x3), (5, 0), (5, a.toNat), (5, d.toNat), (8, 0xf8)]) 13 5 = a :=
    fld_pack [(9, 0x3), (5, 0)] 5 a [(5, d.toNat), (8, 0xf8)] ⟨d.isLt, by decide, trivial⟩
  have h1 : fld (pack [(9, 0x3), (5, 0), (5, a.toNat), (5, d.toNat), (8, 0xf8)]) 8 5 = d :=
    fld_pack [(9, 0x3), (5, 0), (5, a.toNat)] 5 d [(8, 0xf8)] ⟨by decide, trivial⟩
  exact bytes_one _ (pack [(9, 0x3), (5, 0), (5, a.toNat), (5, d.toNat), (8, 0xf8)]) rfl (pack_lt _ ⟨by decide, by decide, a.isLt, d.isLt, by decide, trivial⟩) 248 hl (by decide)
    (fun _ => (loose_F8 _ _ hl).trans ((decodeF8_3 _ hf).trans (by rw [h0, h1]))) rest
theorem RoundTrip.mset (r : BitVec 9) (a : BitVec 5) : RoundTrip.Statement (.mset r a) := by
  intro _ rest
  have hl : pack [(9, r.toNat), (5, 0), (5, a.toNat), (5, 0), (8, 0x1)] % 256 = 1 := low_pack [(9, r.toNat), (5, 0), (5, a.toNat), (5, 0)] 1 (by decide)
  have h0 : fld (pack [(9, r.toNat), (5, 0), (5, a.toNat), (5, 0), (8, 0x1)]) 23 9 = r :=
    fld_pack [] 9 r [(5, 0), (5, a.toNat), (5, 0), (8, 0x1)] ⟨by decide, a.isLt, by decide, by decide, trivial⟩
  have h1 : fld (pack [(9, r.toNat), (5, 0), (5, a.toNat), (5, 0), (8, 0x1)]) 13 5 = a :=
    fld_pack [(9, r.toNat), (5, 0)] 5 a [(5, 0), (8, 0x1)] ⟨by decide, by decide, trivial⟩
  exact bytes_one _ (pack [(9, r.toNat), (5, 0), (5, a.toNat), (5, 0), (8, 0x1)]) rfl (pack_lt _ ⟨r.isLt, by decide, a.isLt, by decide, by decide, trivial⟩) 1 hl (by decide)
    (fun _ => (loose_01 _ _ hl).trans (by rw [h0, h1])) rest
theorem RoundTrip.mget (r : BitVec 3) (d : BitVec 5) : RoundTrip.Statement (.mget r d) := by
  intro _ rest
  have hl : pack [(6, 0), (3, r.toNat), (10, 0), (5, d.toNat), (8, 0x5)] % 256 = 5 := low_pack [(6, 0), (3, r.toNat), (10, 0), (5, d.toNat)] 5 (by decide)
  have hb : r.toNat < 8 ∧ d.toNat < 32 := ⟨r.isLt, d.isLt⟩
  have hf : pack [(6, 0), (3, r.toNat), (10, 0), (5, d.toNat), (8, 0x5)] / 2 ^ 25 % 2 ^ 7 = 0 ∨ pack [(6, 0), (3, r.toNat), (10, 0), (5, d.toNat), (8, 0x5)] / 2 ^ 25 % 2 ^ 7 = 1 := by
    simp only [pack, segWidth]; omega
  have hd : decode05 (pack [(6, 0), (3, r.toNat), (10, 0), (5, d.toNat), (8, 0x5)]) = some (.mget (fld (pack [(6, 0), (3, r.toNat), (10, 0), (5, d.toNat), (8, 0x5)]) 23 3) (fld (pack [(6, 0), (3, r.toNat), (10, 0), (5, d.toNat), (8, 0x5)]) 8 5)) := by
    rcases hf with hf | hf
    · exact decode05_0 _ hf
    · exact decode05_1 _ hf
  have h0 : fld (pack [(6, 0), (3, r.toNat), (10, 0), (5, d.toNat), (8, 0x5)]) 23 3 = r :=
    fld_pack [(6, 0)] 3 r [(10, 0), (5, d.toNat), (8, 0x5)] ⟨by decide, d.isLt, by decide, trivial⟩
  have h1 : fld (pack [(6, 0), (3, r.toNat), (10, 0), (5, d.toNat), (8, 0x5)]) 8 5 = d :=
    fld_pack [(6, 0), (3, r.toNat), (10, 0)] 5 d [(8, 0x5)] ⟨by decide, trivial⟩
  exact bytes_one _ (pack [(6, 0), (3, r.toNat), (10, 0), (5, d.toNat), (8, 0x5)]) rfl (pack_lt _ ⟨by decide, r.isLt, by decide, d.isLt, by decide, trivial⟩) 5 hl (by decide)
    (fun _ => (loose_05 _ _ hl).trans ((hd).trans (by rw [h0, h1]))) rest
theorem RoundTrip.mgetPanel (p : BitVec 2) (a : BitVec 5) (d : BitVec 5) : RoundTrip.Statement (.mgetPanel p a d) := by
  intro _ rest
  have hl : pack [(7, 0x40), (2, p.toNat), (5, 0), (5, a.toNat), (5, d.toNat), (8, 0x5)] % 256 = 5 := low_pack [(7, 0x40), (2, p.toNat), (5, 0), (5, a.toNat), (5, d.toNat)] 5 (by decide)
  have hf : pack [(7, 0x40), (2, p.toNat), (5, 0), (5, a.toNat), (5, d.toNat), (8, 0x5)] / 2 ^ 25 % 2 ^ 7 = 64 :=
    seg_pack [] 7 64 [(2, p.toNat), (5, 0), (5, a.toNat), (5, d.toNat), (8, 0x5)] ⟨by decide, p.isLt, by decide, a.isLt, d.isLt, by decide, trivial⟩
  have h0 : fld (pack [(7, 0x40), (2, p.toNat), (5, 0), (5, a.toNat), (5, d.toNat), (8, 0x5)]) 23 2 = p :=
    fld_pack [(7, 0x40)] 2 p [(5, 0), (5, a.toNat), (5, d.toNat), (8, 0x5)] ⟨by decide, a.isLt, d.isLt, by decide, trivial⟩
  have h1 : fld (pack [(7, 0x40), (2, p.toNat), (5, 0), (5, a.toNat), (5, d.toNat), (8, 0x5)]) 13 5 = a :=
    fld_pack [(7, 0x40), (2, p.toNat), (5, 0)] 5 a [(5, d.toNat), (8, 0x5)] ⟨d.isLt, by decide, trivial⟩
  have h2 : fld (pack [(7, 0x40), (2, p.toNat), (5, 0), (5, a.toNat), (5, d.toNat), (8, 0x5)]) 8 5 = d :=
    fld_pack [(7, 0x40), (2, p.toNat), (5, 0), (5, a.toNat)] 5 d [(8, 0x5)] ⟨by decide, trivial⟩
  exact bytes_one _ (pack [(7, 0x40), (2, p.toNat), (5, 0), (5, a.toNat), (5, d.toNat), (8, 0x5)]) rfl (pack_lt _ ⟨by decide, p.isLt, by decide, a.isLt, d.isLt, by decide, trivial⟩) 5 hl (by decide)
    (fun _ => (loose_05 _ _ hl).trans ((decode05_64 _ hf).trans (by rw [h0, h1, h2]))) rest
theorem RoundTrip.mgo (c : BitVec 1) (p : BitVec 2) (a : BitVec 5) : RoundTrip.Statement (.mgo c p a) := by
  intro _ rest
  have hl : pack [(6, 0), (1, c.toNat), (2, p.toNat), (5, 0), (5, a.toNat), (5, 0), (8, 0x9)] % 256 = 9 := low_pack [(6, 0), (1, c.toNat), (2, p.toNat), (5, 0), (5, a.toNat), (5, 0)] 9 (by decide)
  have h0 : fld (pack [(6, 0), (1, c.toNat), (2, p.toNat), (5, 0), (5, a.toNat), (5, 0), (8, 0x9)]) 25 1 = c :=
    fld_pack [(6, 0)] 1 c [(2, p.toNat), (5, 0), (5, a.toNat), (5, 0), (8, 0x9)] ⟨p.isLt, by decide, a.isLt, by decide, by decide, trivial⟩
  have h1 : fld (pack [(6, 0), (1, c.toNat), (2, p.toNat), (5, 0), (5, a.toNat), (5, 0), (8, 0x9)]) 23 2 = p :=
    fld_pack [(6, 0), (1, c.toNat)] 2 p [(5, 0), (5, a.toNat), (5, 0), (8, 0x9)] ⟨by decide, a.isLt, by decide, by decide, trivial⟩
  have h2 : fld (pack [(6, 0), (1, c.toNat), (2, p.toNat), (5, 0), (5, a.toNat), (5, 0), (8, 0x9)]) 13 5 = a :=
    fld_pack [(6, 0), (1, c.toNat), (2, p.toNat), (5, 0)] 5 a [(5, 0), (8, 0x9)] ⟨by decide, by decide, trivial⟩
  exact bytes_one _ (pack [(6, 0), (1, c.toNat), (2, p.toNat), (5, 0), (5, a.toNat), (5, 0), (8, 0x9)]) rfl (pack_lt _ ⟨by decide, c.isLt, p.isLt, by decide, a.isLt, by decide, by decide, trivial⟩) 9 hl (by decide)
    (fun _ => (loose_09 _ _ hl).trans (by rw [h0, h1, h2])) rest
theorem RoundTrip.mgot (c : BitVec 1) (p : BitVec 2) (a : BitVec 5) : RoundTrip.Statement (.mgot c p a) := by
  intro _ rest
  have hl : pack [(6, 0), (1, c.toNat), (2, p.toNat), (5, 0), (5, a.toNat), (5, 0), (8, 0xd)] % 256 = 13 := low_pack [(6, 0), (1, c.toNat), (2, p.toNat), (5, 0), (5, a.toNat), (5, 0)] 13 (by decide)
  have h0 : fld (pack [(6, 0), (1, c.toNat), (2, p.toNat), (5, 0), (5, a.toNat), (5, 0), (8, 0xd)]) 25 1 = c :=
    fld_pack [(6, 0)] 1 c [(2, p.toNat), (5, 0), (5, a.toNat), (5, 0), (8, 0xd)] ⟨p.isLt, by decide, a.isLt, by decide, by decide, trivial⟩
  have h1 : fld (pack [(6, 0), (1, c.toNat), (2, p.toNat), (5, 0), (5, a.toNat), (5, 0), (8, 0xd)]) 23 2 = p :=
    fld_pack [(6, 0), (1, c.toNat)] 2 p [(5, 0), (5, a.toNat), (5, 0), (8, 0xd)] ⟨by decide, a.isLt, by decide, by decide, trivial⟩
  have h2 : fld (pack [(6, 0), (1, c.toNat), (2, p.toNat), (5, 0), (5, a.toNat), (5, 0), (8, 0xd)]) 13 5 = a :=
    fld_pack [(6, 0), (1, c.toNat), (2, p.toNat), (5, 0)] 5 a [(5, 0), (8, 0xd)] ⟨by decide, by decide, trivial⟩
  exact bytes_one _ (pack [(6, 0), (1, c.toNat), (2, p.toNat), (5, 0), (5, a.toNat), (5, 0), (8, 0xd)]) rfl (pack_lt _ ⟨by decide, c.isLt, p.isLt, by decide, a.isLt, by decide, by decide, trivial⟩) 13 hl (by decide)
    (fun _ => (loose_0D _ _ hl).trans (by rw [h0, h1, h2])) rest
theorem RoundTrip.mwait (c : BitVec 1) (d : BitVec 5) : RoundTrip.Statement (.mwait c d) := by
  intro _ rest
  have hl : pack [(8, 0), (1, c.toNat), (10, 0), (5, d.toNat), (8, 0x11)] % 256 = 17 := low_pack [(8, 0), (1, c.toNat), (10, 0), (5, d.toNat)] 17 (by decide)
  have h0 : fld (pack [(8, 0), (1, c.toNat), (10, 0), (5, d.toNat), (8, 0x11)]) 23 1 = c :=
    fld_pack [(8, 0)] 1 c [(10, 0), (5, d.toNat), (8, 0x11)] ⟨by decide, d.isLt, by decide, trivial⟩
  have h1 : fld (pack [(8, 0), (1, c.toNat), (10, 0), (5, d.toNat), (8, 0x11)]) 8 5 = d :=
    fld_pack [(8, 0), (1, c.toNat), (10, 0)] 5 d [(8, 0x11)] ⟨by decide, trivial⟩
  exact bytes_one _ (pack [(8, 0), (1, c.toNat), (10, 0), (5, d.toNat), (8, 0x11)]) rfl (pack_lt _ ⟨by decide, c.isLt, by decide, d.isLt, by decide, trivial⟩) 17 hl (by decide)
    (fun _ => (loose_11 _ _ hl).trans (by rw [h0, h1])) rest
theorem RoundTrip.mzero (p : BitVec 2) : RoundTrip.Statement (.mzero p) := by
  intro _ rest
  have hl : pack [(7, 0), (2, p.toNat), (15, 0), (8, 0x15)] % 256 = 21 := low_pack [(7, 0), (2, p.toNat), (15, 0)] 21 (by decide)
  have h0 : fld (pack [(7, 0), (2, p.toNat), (15, 0), (8, 0x15)]) 23 2 = p :=
    fld_pack [(7, 0)] 2 p [(15, 0), (8, 0x15)] ⟨by decide, by decide, trivial⟩
  exact bytes_one _ (pack [(7, 0), (2, p.toNat), (15, 0), (8, 0x15)]) rfl (pack_lt _ ⟨by decide, p.isLt, by decide, by decide, trivial⟩) 21 hl (by decide)
    (fun _ => (loose_15 _ _ hl).trans (by rw [h0])) rest
theorem RoundTrip.mdrain (c : BitVec 6) (w : BitVec 1) (p : BitVec 2) (b : BitVec 5) (a : BitVec 5) : RoundTrip.Statement (.mdrain c w p b a) := by
  intro _ rest
  have hl : pack [(6, c.toNat), (1, w.toNat), (2, p.toNat), (5, b.toNat), (5, a.toNat), (5, 0), (8, 0x19)] % 256 = 25 := low_pack [(6, c.toNat), (1, w.toNat), (2, p.toNat), (5, b.toNat), (5, a.toNat), (5, 0)] 25 (by decide)
  have h0 : fld (pack [(6, c.toNat), (1, w.toNat), (2, p.toNat), (5, b.toNat), (5, a.toNat), (5, 0), (8, 0x19)]) 26 6 = c :=
    fld_pack [] 6 c [(1, w.toNat), (2, p.toNat), (5, b.toNat), (5, a.toNat), (5, 0), (8, 0x19)] ⟨w.isLt, p.isLt, b.isLt, a.isLt, by decide, by decide, trivial⟩
  have h1 : fld (pack [(6, c.toNat), (1, w.toNat), (2, p.toNat), (5, b.toNat), (5, a.toNat), (5, 0), (8, 0x19)]) 25 1 = w :=
    fld_pack [(6, c.toNat)] 1 w [(2, p.toNat), (5, b.toNat), (5, a.toNat), (5, 0), (8, 0x19)] ⟨p.isLt, b.isLt, a.isLt, by decide, by decide, trivial⟩
  have h2 : fld (pack [(6, c.toNat), (1, w.toNat), (2, p.toNat), (5, b.toNat), (5, a.toNat), (5, 0), (8, 0x19)]) 23 2 = p :=
    fld_pack [(6, c.toNat), (1, w.toNat)] 2 p [(5, b.toNat), (5, a.toNat), (5, 0), (8, 0x19)] ⟨b.isLt, a.isLt, by decide, by decide, trivial⟩
  have h3 : fld (pack [(6, c.toNat), (1, w.toNat), (2, p.toNat), (5, b.toNat), (5, a.toNat), (5, 0), (8, 0x19)]) 18 5 = b :=
    fld_pack [(6, c.toNat), (1, w.toNat), (2, p.toNat)] 5 b [(5, a.toNat), (5, 0), (8, 0x19)] ⟨a.isLt, by decide, by decide, trivial⟩
  have h4 : fld (pack [(6, c.toNat), (1, w.toNat), (2, p.toNat), (5, b.toNat), (5, a.toNat), (5, 0), (8, 0x19)]) 13 5 = a :=
    fld_pack [(6, c.toNat), (1, w.toNat), (2, p.toNat), (5, b.toNat)] 5 a [(5, 0), (8, 0x19)] ⟨by decide, by decide, trivial⟩
  exact bytes_one _ (pack [(6, c.toNat), (1, w.toNat), (2, p.toNat), (5, b.toNat), (5, a.toNat), (5, 0), (8, 0x19)]) rfl (pack_lt _ ⟨c.isLt, w.isLt, p.isLt, b.isLt, a.isLt, by decide, by decide, trivial⟩) 25 hl (by decide)
    (fun _ => (loose_19 _ _ hl).trans (by rw [h0, h1, h2, h3, h4])) rest
theorem RoundTrip.cset (r : BitVec 9) (a : BitVec 5) : RoundTrip.Statement (.cset r a) := by
  intro _ rest
  have hl : pack [(9, r.toNat), (5, 0), (5, a.toNat), (5, 0), (8, 0x81)] % 256 = 129 := low_pack [(9, r.toNat), (5, 0), (5, a.toNat), (5, 0)] 129 (by decide)
  have h0 : fld (pack [(9, r.toNat), (5, 0), (5, a.toNat), (5, 0), (8, 0x81)]) 23 9 = r :=
    fld_pack [] 9 r [(5, 0), (5, a.toNat), (5, 0), (8, 0x81)] ⟨by decide, a.isLt, by decide, by decide, trivial⟩
  have h1 : fld (pack [(9, r.toNat), (5, 0), (5, a.toNat), (5, 0), (8, 0x81)]) 13 5 = a :=
    fld_pack [(9, r.toNat), (5, 0)] 5 a [(5, 0), (8, 0x81)] ⟨by decide, by decide, trivial⟩
  exact bytes_one _ (pack [(9, r.toNat), (5, 0), (5, a.toNat), (5, 0), (8, 0x81)]) rfl (pack_lt _ ⟨r.isLt, by decide, a.isLt, by decide, by decide, trivial⟩) 129 hl (by decide)
    (fun _ => (loose_81 _ _ hl).trans (by rw [h0, h1])) rest
theorem RoundTrip.cgo (d : BitVec 5) : RoundTrip.Statement (.cgo d) := by
  intro _ rest
  have hl : pack [(19, 0), (5, d.toNat), (8, 0x85)] % 256 = 133 := low_pack [(19, 0), (5, d.toNat)] 133 (by decide)
  have h0 : fld (pack [(19, 0), (5, d.toNat), (8, 0x85)]) 8 5 = d :=
    fld_pack [(19, 0)] 5 d [(8, 0x85)] ⟨by decide, trivial⟩
  exact bytes_one _ (pack [(19, 0), (5, d.toNat), (8, 0x85)]) rfl (pack_lt _ ⟨by decide, d.isLt, by decide, trivial⟩) 133 hl (by decide)
    (fun _ => (loose_85 _ _ hl).trans (by rw [h0])) rest
theorem RoundTrip.cpoll (r : BitVec 9) (d : BitVec 5) : RoundTrip.Statement (.cpoll r d) := by
  intro _ rest
  have hl : pack [(9, r.toNat), (10, 0), (5, d.toNat), (8, 0x89)] % 256 = 137 := low_pack [(9, r.toNat), (10, 0), (5, d.toNat)] 137 (by decide)
  have h0 : fld (pack [(9, r.toNat), (10, 0), (5, d.toNat), (8, 0x89)]) 23 9 = r :=
    fld_pack [] 9 r [(10, 0), (5, d.toNat), (8, 0x89)] ⟨by decide, d.isLt, by decide, trivial⟩
  have h1 : fld (pack [(9, r.toNat), (10, 0), (5, d.toNat), (8, 0x89)]) 8 5 = d :=
    fld_pack [(9, r.toNat), (10, 0)] 5 d [(8, 0x89)] ⟨by decide, trivial⟩
  exact bytes_one _ (pack [(9, r.toNat), (10, 0), (5, d.toNat), (8, 0x89)]) rfl (pack_lt _ ⟨r.isLt, by decide, d.isLt, by decide, trivial⟩) 137 hl (by decide)
    (fun _ => (loose_89 _ _ hl).trans (by rw [h0, h1])) rest
theorem RoundTrip.cwait (a : BitVec 5) (d : BitVec 5) : RoundTrip.Statement (.cwait a d) := by
  intro _ rest
  have hl : pack [(14, 0), (5, a.toNat), (5, d.toNat), (8, 0x8d)] % 256 = 141 := low_pack [(14, 0), (5, a.toNat), (5, d.toNat)] 141 (by decide)
  have h0 : fld (pack [(14, 0), (5, a.toNat), (5, d.toNat), (8, 0x8d)]) 13 5 = a :=
    fld_pack [(14, 0)] 5 a [(5, d.toNat), (8, 0x8d)] ⟨d.isLt, by decide, trivial⟩
  have h1 : fld (pack [(14, 0), (5, a.toNat), (5, d.toNat), (8, 0x8d)]) 8 5 = d :=
    fld_pack [(14, 0), (5, a.toNat)] 5 d [(8, 0x8d)] ⟨by decide, trivial⟩
  exact bytes_one _ (pack [(14, 0), (5, a.toNat), (5, d.toNat), (8, 0x8d)]) rfl (pack_lt _ ⟨by decide, a.isLt, d.isLt, by decide, trivial⟩) 141 hl (by decide)
    (fun _ => (loose_8D _ _ hl).trans (by rw [h0, h1])) rest
theorem RoundTrip.ccancel (a : BitVec 5) (d : BitVec 5) : RoundTrip.Statement (.ccancel a d) := by
  intro _ rest
  have hl : pack [(14, 0), (5, a.toNat), (5, d.toNat), (8, 0x91)] % 256 = 145 := low_pack [(14, 0), (5, a.toNat), (5, d.toNat)] 145 (by decide)
  have h0 : fld (pack [(14, 0), (5, a.toNat), (5, d.toNat), (8, 0x91)]) 13 5 = a :=
    fld_pack [(14, 0)] 5 a [(5, d.toNat), (8, 0x91)] ⟨d.isLt, by decide, trivial⟩
  have h1 : fld (pack [(14, 0), (5, a.toNat), (5, d.toNat), (8, 0x91)]) 8 5 = d :=
    fld_pack [(14, 0), (5, a.toNat)] 5 d [(8, 0x91)] ⟨by decide, trivial⟩
  exact bytes_one _ (pack [(14, 0), (5, a.toNat), (5, d.toNat), (8, 0x91)]) rfl (pack_lt _ ⟨by decide, a.isLt, d.isLt, by decide, trivial⟩) 145 hl (by decide)
    (fun _ => (loose_91 _ _ hl).trans (by rw [h0, h1])) rest
theorem RoundTrip.bstate (a : BitVec 5) (d : BitVec 5) : RoundTrip.Statement (.bstate a d) := by
  intro _ rest
  have hl : pack [(14, 0), (5, a.toNat), (5, d.toNat), (8, 0xc1)] % 256 = 193 := low_pack [(14, 0), (5, a.toNat), (5, d.toNat)] 193 (by decide)
  have h0 : fld (pack [(14, 0), (5, a.toNat), (5, d.toNat), (8, 0xc1)]) 13 5 = a :=
    fld_pack [(14, 0)] 5 a [(5, d.toNat), (8, 0xc1)] ⟨d.isLt, by decide, trivial⟩
  have h1 : fld (pack [(14, 0), (5, a.toNat), (5, d.toNat), (8, 0xc1)]) 8 5 = d :=
    fld_pack [(14, 0), (5, a.toNat)] 5 d [(8, 0xc1)] ⟨by decide, trivial⟩
  exact bytes_one _ (pack [(14, 0), (5, a.toNat), (5, d.toNat), (8, 0xc1)]) rfl (pack_lt _ ⟨by decide, a.isLt, d.isLt, by decide, trivial⟩) 193 hl (by decide)
    (fun _ => (loose_C1 _ _ hl).trans (by rw [h0, h1])) rest
theorem RoundTrip.bgive (b : BitVec 5) (a : BitVec 5) : RoundTrip.Statement (.bgive b a) := by
  intro _ rest
  have hl : pack [(9, 0), (5, b.toNat), (5, a.toNat), (5, 0), (8, 0xc5)] % 256 = 197 := low_pack [(9, 0), (5, b.toNat), (5, a.toNat), (5, 0)] 197 (by decide)
  have h0 : fld (pack [(9, 0), (5, b.toNat), (5, a.toNat), (5, 0), (8, 0xc5)]) 18 5 = b :=
    fld_pack [(9, 0)] 5 b [(5, a.toNat), (5, 0), (8, 0xc5)] ⟨a.isLt, by decide, by decide, trivial⟩
  have h1 : fld (pack [(9, 0), (5, b.toNat), (5, a.toNat), (5, 0), (8, 0xc5)]) 13 5 = a :=
    fld_pack [(9, 0), (5, b.toNat)] 5 a [(5, 0), (8, 0xc5)] ⟨by decide, by decide, trivial⟩
  exact bytes_one _ (pack [(9, 0), (5, b.toNat), (5, a.toNat), (5, 0), (8, 0xc5)]) rfl (pack_lt _ ⟨by decide, b.isLt, a.isLt, by decide, by decide, trivial⟩) 197 hl (by decide)
    (fun _ => (loose_C5 _ _ hl).trans (by rw [h0, h1])) rest
theorem RoundTrip.btake (a : BitVec 5) (d : BitVec 5) : RoundTrip.Statement (.btake a d) := by
  intro _ rest
  have hl : pack [(14, 0), (5, a.toNat), (5, d.toNat), (8, 0xc9)] % 256 = 201 := low_pack [(14, 0), (5, a.toNat), (5, d.toNat)] 201 (by decide)
  have h0 : fld (pack [(14, 0), (5, a.toNat), (5, d.toNat), (8, 0xc9)]) 13 5 = a :=
    fld_pack [(14, 0)] 5 a [(5, d.toNat), (8, 0xc9)] ⟨d.isLt, by decide, trivial⟩
  have h1 : fld (pack [(14, 0), (5, a.toNat), (5, d.toNat), (8, 0xc9)]) 8 5 = d :=
    fld_pack [(14, 0), (5, a.toNat)] 5 d [(8, 0xc9)] ⟨by decide, trivial⟩
  exact bytes_one _ (pack [(14, 0), (5, a.toNat), (5, d.toNat), (8, 0xc9)]) rfl (pack_lt _ ⟨by decide, a.isLt, d.isLt, by decide, trivial⟩) 201 hl (by decide)
    (fun _ => (loose_C9 _ _ hl).trans (by rw [h0, h1])) rest
theorem RoundTrip.bmarkState (b : BitVec 5) (a : BitVec 5) : RoundTrip.Statement (.bmarkState b a) := by
  intro _ rest
  have hl : pack [(9, 0), (5, b.toNat), (5, a.toNat), (5, 0), (8, 0xcd)] % 256 = 205 := low_pack [(9, 0), (5, b.toNat), (5, a.toNat), (5, 0)] 205 (by decide)
  have hf : pack [(9, 0), (5, b.toNat), (5, a.toNat), (5, 0), (8, 0xcd)] / 2 ^ 23 % 2 ^ 9 = 0 :=
    seg_pack [] 9 0 [(5, b.toNat), (5, a.toNat), (5, 0), (8, 0xcd)] ⟨by decide, b.isLt, a.isLt, by decide, by decide, trivial⟩
  have h0 : fld (pack [(9, 0), (5, b.toNat), (5, a.toNat), (5, 0), (8, 0xcd)]) 18 5 = b :=
    fld_pack [(9, 0)] 5 b [(5, a.toNat), (5, 0), (8, 0xcd)] ⟨a.isLt, by decide, by decide, trivial⟩
  have h1 : fld (pack [(9, 0), (5, b.toNat), (5, a.toNat), (5, 0), (8, 0xcd)]) 13 5 = a :=
    fld_pack [(9, 0), (5, b.toNat)] 5 a [(5, 0), (8, 0xcd)] ⟨by decide, by decide, trivial⟩
  exact bytes_one _ (pack [(9, 0), (5, b.toNat), (5, a.toNat), (5, 0), (8, 0xcd)]) rfl (pack_lt _ ⟨by decide, b.isLt, a.isLt, by decide, by decide, trivial⟩) 205 hl (by decide)
    (fun _ => (loose_CD _ _ hl).trans ((decodeCD_0 _ hf).trans (by rw [h0, h1]))) rest
theorem RoundTrip.bmarkDefine (b : BitVec 5) (a : BitVec 5) : RoundTrip.Statement (.bmarkDefine b a) := by
  intro _ rest
  have hl : pack [(9, 0x1), (5, b.toNat), (5, a.toNat), (5, 0), (8, 0xcd)] % 256 = 205 := low_pack [(9, 0x1), (5, b.toNat), (5, a.toNat), (5, 0)] 205 (by decide)
  have hf : pack [(9, 0x1), (5, b.toNat), (5, a.toNat), (5, 0), (8, 0xcd)] / 2 ^ 23 % 2 ^ 9 = 1 :=
    seg_pack [] 9 1 [(5, b.toNat), (5, a.toNat), (5, 0), (8, 0xcd)] ⟨by decide, b.isLt, a.isLt, by decide, by decide, trivial⟩
  have h0 : fld (pack [(9, 0x1), (5, b.toNat), (5, a.toNat), (5, 0), (8, 0xcd)]) 18 5 = b :=
    fld_pack [(9, 0x1)] 5 b [(5, a.toNat), (5, 0), (8, 0xcd)] ⟨a.isLt, by decide, by decide, trivial⟩
  have h1 : fld (pack [(9, 0x1), (5, b.toNat), (5, a.toNat), (5, 0), (8, 0xcd)]) 13 5 = a :=
    fld_pack [(9, 0x1), (5, b.toNat)] 5 a [(5, 0), (8, 0xcd)] ⟨by decide, by decide, trivial⟩
  exact bytes_one _ (pack [(9, 0x1), (5, b.toNat), (5, a.toNat), (5, 0), (8, 0xcd)]) rfl (pack_lt _ ⟨by decide, b.isLt, a.isLt, by decide, by decide, trivial⟩) 205 hl (by decide)
    (fun _ => (loose_CD _ _ hl).trans ((decodeCD_1 _ hf).trans (by rw [h0, h1]))) rest
theorem RoundTrip.bmarkRetain (b : BitVec 5) (a : BitVec 5) : RoundTrip.Statement (.bmarkRetain b a) := by
  intro _ rest
  have hl : pack [(9, 0x2), (5, b.toNat), (5, a.toNat), (5, 0), (8, 0xcd)] % 256 = 205 := low_pack [(9, 0x2), (5, b.toNat), (5, a.toNat), (5, 0)] 205 (by decide)
  have hf : pack [(9, 0x2), (5, b.toNat), (5, a.toNat), (5, 0), (8, 0xcd)] / 2 ^ 23 % 2 ^ 9 = 2 :=
    seg_pack [] 9 2 [(5, b.toNat), (5, a.toNat), (5, 0), (8, 0xcd)] ⟨by decide, b.isLt, a.isLt, by decide, by decide, trivial⟩
  have h0 : fld (pack [(9, 0x2), (5, b.toNat), (5, a.toNat), (5, 0), (8, 0xcd)]) 18 5 = b :=
    fld_pack [(9, 0x2)] 5 b [(5, a.toNat), (5, 0), (8, 0xcd)] ⟨a.isLt, by decide, by decide, trivial⟩
  have h1 : fld (pack [(9, 0x2), (5, b.toNat), (5, a.toNat), (5, 0), (8, 0xcd)]) 13 5 = a :=
    fld_pack [(9, 0x2), (5, b.toNat)] 5 a [(5, 0), (8, 0xcd)] ⟨by decide, by decide, trivial⟩
  exact bytes_one _ (pack [(9, 0x2), (5, b.toNat), (5, a.toNat), (5, 0), (8, 0xcd)]) rfl (pack_lt _ ⟨by decide, b.isLt, a.isLt, by decide, by decide, trivial⟩) 205 hl (by decide)
    (fun _ => (loose_CD _ _ hl).trans ((decodeCD_2 _ hf).trans (by rw [h0, h1]))) rest
theorem RoundTrip.bmarkFree (b : BitVec 5) (a : BitVec 5) : RoundTrip.Statement (.bmarkFree b a) := by
  intro _ rest
  have hl : pack [(9, 0x3), (5, b.toNat), (5, a.toNat), (5, 0), (8, 0xcd)] % 256 = 205 := low_pack [(9, 0x3), (5, b.toNat), (5, a.toNat), (5, 0)] 205 (by decide)
  have hf : pack [(9, 0x3), (5, b.toNat), (5, a.toNat), (5, 0), (8, 0xcd)] / 2 ^ 23 % 2 ^ 9 = 3 :=
    seg_pack [] 9 3 [(5, b.toNat), (5, a.toNat), (5, 0), (8, 0xcd)] ⟨by decide, b.isLt, a.isLt, by decide, by decide, trivial⟩
  have h0 : fld (pack [(9, 0x3), (5, b.toNat), (5, a.toNat), (5, 0), (8, 0xcd)]) 18 5 = b :=
    fld_pack [(9, 0x3)] 5 b [(5, a.toNat), (5, 0), (8, 0xcd)] ⟨a.isLt, by decide, by decide, trivial⟩
  have h1 : fld (pack [(9, 0x3), (5, b.toNat), (5, a.toNat), (5, 0), (8, 0xcd)]) 13 5 = a :=
    fld_pack [(9, 0x3), (5, b.toNat)] 5 a [(5, 0), (8, 0xcd)] ⟨by decide, by decide, trivial⟩
  exact bytes_one _ (pack [(9, 0x3), (5, b.toNat), (5, a.toNat), (5, 0), (8, 0xcd)]) rfl (pack_lt _ ⟨by decide, b.isLt, a.isLt, by decide, by decide, trivial⟩) 205 hl (by decide)
    (fun _ => (loose_CD _ _ hl).trans ((decodeCD_3 _ hf).trans (by rw [h0, h1]))) rest
theorem RoundTrip.bwaitBuffer (s : BitVec 4) (a : BitVec 5) (d : BitVec 5) : RoundTrip.Statement (.bwaitBuffer s a d) := by
  intro _ rest
  have hl : pack [(1, 0), (4, 0), (4, s.toNat), (5, 0), (5, a.toNat), (5, d.toNat), (8, 0xd1)] % 256 = 209 := low_pack [(1, 0), (4, 0), (4, s.toNat), (5, 0), (5, a.toNat), (5, d.toNat)] 209 (by decide)
  have hf : pack [(1, 0), (4, 0), (4, s.toNat), (5, 0), (5, a.toNat), (5, d.toNat), (8, 0xd1)] / 2 ^ 31 % 2 ^ 1 = 0 :=
    seg_pack [] 1 0 [(4, 0), (4, s.toNat), (5, 0), (5, a.toNat), (5, d.toNat), (8, 0xd1)] ⟨by decide, by decide, s.isLt, by decide, a.isLt, d.isLt, by decide, trivial⟩
  have h0 : fld (pack [(1, 0), (4, 0), (4, s.toNat), (5, 0), (5, a.toNat), (5, d.toNat), (8, 0xd1)]) 23 4 = s :=
    fld_pack [(1, 0), (4, 0)] 4 s [(5, 0), (5, a.toNat), (5, d.toNat), (8, 0xd1)] ⟨by decide, a.isLt, d.isLt, by decide, trivial⟩
  have h1 : fld (pack [(1, 0), (4, 0), (4, s.toNat), (5, 0), (5, a.toNat), (5, d.toNat), (8, 0xd1)]) 13 5 = a :=
    fld_pack [(1, 0), (4, 0), (4, s.toNat), (5, 0)] 5 a [(5, d.toNat), (8, 0xd1)] ⟨d.isLt, by decide, trivial⟩
  have h2 : fld (pack [(1, 0), (4, 0), (4, s.toNat), (5, 0), (5, a.toNat), (5, d.toNat), (8, 0xd1)]) 8 5 = d :=
    fld_pack [(1, 0), (4, 0), (4, s.toNat), (5, 0), (5, a.toNat)] 5 d [(8, 0xd1)] ⟨by decide, trivial⟩
  exact bytes_one _ (pack [(1, 0), (4, 0), (4, s.toNat), (5, 0), (5, a.toNat), (5, d.toNat), (8, 0xd1)]) rfl (pack_lt _ ⟨by decide, by decide, s.isLt, by decide, a.isLt, d.isLt, by decide, trivial⟩) 209 hl (by decide)
    (fun _ => (loose_D1 _ _ hl).trans ((decodeD1_0 _ hf).trans (by rw [h0, h1, h2]))) rest
theorem RoundTrip.bwaitRing (s : BitVec 1) (b : BitVec 5) (a : BitVec 5) (d : BitVec 5) : RoundTrip.Statement (.bwaitRing s b a d) := by
  intro _ rest
  have hl : pack [(1, 0x1), (7, 0), (1, s.toNat), (5, b.toNat), (5, a.toNat), (5, d.toNat), (8, 0xd1)] % 256 = 209 := low_pack [(1, 0x1), (7, 0), (1, s.toNat), (5, b.toNat), (5, a.toNat), (5, d.toNat)] 209 (by decide)
  have hf : pack [(1, 0x1), (7, 0), (1, s.toNat), (5, b.toNat), (5, a.toNat), (5, d.toNat), (8, 0xd1)] / 2 ^ 31 % 2 ^ 1 = 1 :=
    seg_pack [] 1 1 [(7, 0), (1, s.toNat), (5, b.toNat), (5, a.toNat), (5, d.toNat), (8, 0xd1)] ⟨by decide, by decide, s.isLt, b.isLt, a.isLt, d.isLt, by decide, trivial⟩
  have h0 : fld (pack [(1, 0x1), (7, 0), (1, s.toNat), (5, b.toNat), (5, a.toNat), (5, d.toNat), (8, 0xd1)]) 23 1 = s :=
    fld_pack [(1, 0x1), (7, 0)] 1 s [(5, b.toNat), (5, a.toNat), (5, d.toNat), (8, 0xd1)] ⟨b.isLt, a.isLt, d.isLt, by decide, trivial⟩
  have h1 : fld (pack [(1, 0x1), (7, 0), (1, s.toNat), (5, b.toNat), (5, a.toNat), (5, d.toNat), (8, 0xd1)]) 18 5 = b :=
    fld_pack [(1, 0x1), (7, 0), (1, s.toNat)] 5 b [(5, a.toNat), (5, d.toNat), (8, 0xd1)] ⟨a.isLt, d.isLt, by decide, trivial⟩
  have h2 : fld (pack [(1, 0x1), (7, 0), (1, s.toNat), (5, b.toNat), (5, a.toNat), (5, d.toNat), (8, 0xd1)]) 13 5 = a :=
    fld_pack [(1, 0x1), (7, 0), (1, s.toNat), (5, b.toNat)] 5 a [(5, d.toNat), (8, 0xd1)] ⟨d.isLt, by decide, trivial⟩
  have h3 : fld (pack [(1, 0x1), (7, 0), (1, s.toNat), (5, b.toNat), (5, a.toNat), (5, d.toNat), (8, 0xd1)]) 8 5 = d :=
    fld_pack [(1, 0x1), (7, 0), (1, s.toNat), (5, b.toNat), (5, a.toNat)] 5 d [(8, 0xd1)] ⟨by decide, trivial⟩
  exact bytes_one _ (pack [(1, 0x1), (7, 0), (1, s.toNat), (5, b.toNat), (5, a.toNat), (5, d.toNat), (8, 0xd1)]) rfl (pack_lt _ ⟨by decide, by decide, s.isLt, b.isLt, a.isLt, d.isLt, by decide, trivial⟩) 209 hl (by decide)
    (fun _ => (loose_D1 _ _ hl).trans ((decodeD1_1 _ hf).trans (by rw [h0, h1, h2, h3]))) rest
theorem RoundTrip.badv (s : BitVec 1) (b : BitVec 5) (a : BitVec 5) (d : BitVec 5) : RoundTrip.Statement (.badv s b a d) := by
  intro _ rest
  have hl : pack [(8, 0), (1, s.toNat), (5, b.toNat), (5, a.toNat), (5, d.toNat), (8, 0xd5)] % 256 = 213 := low_pack [(8, 0), (1, s.toNat), (5, b.toNat), (5, a.toNat), (5, d.toNat)] 213 (by decide)
  have h0 : fld (pack [(8, 0), (1, s.toNat), (5, b.toNat), (5, a.toNat), (5, d.toNat), (8, 0xd5)]) 23 1 = s :=
    fld_pack [(8, 0)] 1 s [(5, b.toNat), (5, a.toNat), (5, d.toNat), (8, 0xd5)] ⟨b.isLt, a.isLt, d.isLt, by decide, trivial⟩
  have h1 : fld (pack [(8, 0), (1, s.toNat), (5, b.toNat), (5, a.toNat), (5, d.toNat), (8, 0xd5)]) 18 5 = b :=
    fld_pack [(8, 0), (1, s.toNat)] 5 b [(5, a.toNat), (5, d.toNat), (8, 0xd5)] ⟨a.isLt, d.isLt, by decide, trivial⟩
  have h2 : fld (pack [(8, 0), (1, s.toNat), (5, b.toNat), (5, a.toNat), (5, d.toNat), (8, 0xd5)]) 13 5 = a :=
    fld_pack [(8, 0), (1, s.toNat), (5, b.toNat)] 5 a [(5, d.toNat), (8, 0xd5)] ⟨d.isLt, by decide, trivial⟩
  have h3 : fld (pack [(8, 0), (1, s.toNat), (5, b.toNat), (5, a.toNat), (5, d.toNat), (8, 0xd5)]) 8 5 = d :=
    fld_pack [(8, 0), (1, s.toNat), (5, b.toNat), (5, a.toNat)] 5 d [(8, 0xd5)] ⟨by decide, trivial⟩
  exact bytes_one _ (pack [(8, 0), (1, s.toNat), (5, b.toNat), (5, a.toNat), (5, d.toNat), (8, 0xd5)]) rfl (pack_lt _ ⟨by decide, s.isLt, b.isLt, a.isLt, d.isLt, by decide, trivial⟩) 213 hl (by decide)
    (fun _ => (loose_D5 _ _ hl).trans (by rw [h0, h1, h2, h3])) rest
theorem RoundTrip.bring (b : BitVec 5) (a : BitVec 5) : RoundTrip.Statement (.bring b a) := by
  intro _ rest
  have hl : pack [(9, 0), (5, b.toNat), (5, a.toNat), (5, 0), (8, 0xd9)] % 256 = 217 := low_pack [(9, 0), (5, b.toNat), (5, a.toNat), (5, 0)] 217 (by decide)
  have h0 : fld (pack [(9, 0), (5, b.toNat), (5, a.toNat), (5, 0), (8, 0xd9)]) 18 5 = b :=
    fld_pack [(9, 0)] 5 b [(5, a.toNat), (5, 0), (8, 0xd9)] ⟨a.isLt, by decide, by decide, trivial⟩
  have h1 : fld (pack [(9, 0), (5, b.toNat), (5, a.toNat), (5, 0), (8, 0xd9)]) 13 5 = a :=
    fld_pack [(9, 0), (5, b.toNat)] 5 a [(5, 0), (8, 0xd9)] ⟨by decide, by decide, trivial⟩
  exact bytes_one _ (pack [(9, 0), (5, b.toNat), (5, a.toNat), (5, 0), (8, 0xd9)]) rfl (pack_lt _ ⟨by decide, b.isLt, a.isLt, by decide, by decide, trivial⟩) 217 hl (by decide)
    (fun _ => (loose_D9 _ _ hl).trans (by rw [h0, h1])) rest
theorem RoundTrip.moduleReset : RoundTrip.Statement .moduleReset := fun h => absurd rfl h
theorem RoundTrip.harvest : RoundTrip.Statement .harvest := fun h => absurd rfl h
theorem RoundTrip.bootFetch : RoundTrip.Statement .bootFetch := fun h => absurd rfl h
theorem RoundTrip.bootVerify : RoundTrip.Statement .bootVerify := fun h => absurd rfl h
theorem RoundTrip.statusRequest : RoundTrip.Statement .statusRequest := fun h => absurd rfl h
theorem RoundTrip.attestationReport : RoundTrip.Statement .attestationReport := fun h => absurd rfl h
theorem RoundTrip.governorStep : RoundTrip.Statement .governorStep := fun h => absurd rfl h
theorem RoundTrip.thermalThrottle : RoundTrip.Statement .thermalThrottle := fun h => absurd rfl h
theorem RoundTrip.thermalShutdown : RoundTrip.Statement .thermalShutdown := fun h => absurd rfl h
theorem RoundTrip.cxlLinkTraining : RoundTrip.Statement .cxlLinkTraining := fun h => absurd rfl h
theorem RoundTrip.cxlLinkLoss : RoundTrip.Statement .cxlLinkLoss := fun h => absurd rfl h
theorem RoundTrip.cxlMemTimeout : RoundTrip.Statement .cxlMemTimeout := fun h => absurd rfl h
theorem RoundTrip.stopRequest : RoundTrip.Statement .stopRequest := fun h => absurd rfl h
theorem RoundTrip.wWaitSatisfied : RoundTrip.Statement .wWaitSatisfied := fun h => absurd rfl h
theorem RoundTrip.asyncTrapTaken : RoundTrip.Statement .asyncTrapTaken := fun h => absurd rfl h
theorem RoundTrip.responseArrival : RoundTrip.Statement .responseArrival := fun h => absurd rfl h
theorem RoundTrip.errorResponseArrival : RoundTrip.Statement .errorResponseArrival := fun h => absurd rfl h
theorem RoundTrip.baddGrant : RoundTrip.Statement .baddGrant := fun h => absurd rfl h
theorem RoundTrip.writeAtHome : RoundTrip.Statement .writeAtHome := fun h => absurd rfl h
theorem RoundTrip.readAtHome : RoundTrip.Statement .readAtHome := fun h => absurd rfl h
theorem RoundTrip.atomicAtUnit : RoundTrip.Statement .atomicAtUnit := fun h => absurd rfl h
theorem RoundTrip.releaseHoldEnd : RoundTrip.Statement .releaseHoldEnd := fun h => absurd rfl h
theorem RoundTrip.writeAckArrival : RoundTrip.Statement .writeAckArrival := fun h => absurd rfl h
theorem RoundTrip.movedArrival : RoundTrip.Statement .movedArrival := fun h => absurd rfl h
theorem RoundTrip.movedReread : RoundTrip.Statement .movedReread := fun h => absurd rfl h
theorem RoundTrip.portPacketArrival : RoundTrip.Statement .portPacketArrival := fun h => absurd rfl h
theorem RoundTrip.malformedHeaderDrop : RoundTrip.Statement .malformedHeaderDrop := fun h => absurd rfl h
theorem RoundTrip.sendArrival : RoundTrip.Statement .sendArrival := fun h => absurd rfl h
theorem RoundTrip.spawnArrival : RoundTrip.Statement .spawnArrival := fun h => absurd rfl h
theorem RoundTrip.postArrival : RoundTrip.Statement .postArrival := fun h => absurd rfl h
theorem RoundTrip.decrAtHome : RoundTrip.Statement .decrAtHome := fun h => absurd rfl h
theorem RoundTrip.kickArrival : RoundTrip.Statement .kickArrival := fun h => absurd rfl h
theorem RoundTrip.ackxAtHome : RoundTrip.Statement .ackxAtHome := fun h => absurd rfl h
theorem RoundTrip.twpostJobArrival : RoundTrip.Statement .twpostJobArrival := fun h => absurd rfl h
theorem RoundTrip.twpostPermitArrival : RoundTrip.Statement .twpostPermitArrival := fun h => absurd rfl h
theorem RoundTrip.twpostEndArrival : RoundTrip.Statement .twpostEndArrival := fun h => absurd rfl h
theorem RoundTrip.ctlCreditRequest : RoundTrip.Statement .ctlCreditRequest := fun h => absurd rfl h
theorem RoundTrip.ctlCreditRetry : RoundTrip.Statement .ctlCreditRetry := fun h => absurd rfl h
theorem RoundTrip.readyRingOffer : RoundTrip.Statement .readyRingOffer := fun h => absurd rfl h
theorem RoundTrip.dispatch : RoundTrip.Statement .dispatch := fun h => absurd rfl h
theorem RoundTrip.contextSaveDone : RoundTrip.Statement .contextSaveDone := fun h => absurd rfl h
theorem RoundTrip.gangStart : RoundTrip.Statement .gangStart := fun h => absurd rfl h
theorem RoundTrip.budgetExhausted : RoundTrip.Statement .budgetExhausted := fun h => absurd rfl h
theorem RoundTrip.engineBudgetExhausted : RoundTrip.Statement .engineBudgetExhausted := fun h => absurd rfl h
theorem RoundTrip.periodRefill : RoundTrip.Statement .periodRefill := fun h => absurd rfl h
theorem RoundTrip.watchdogFire : RoundTrip.Statement .watchdogFire := fun h => absurd rfl h
theorem RoundTrip.gangLineJoin : RoundTrip.Statement .gangLineJoin := fun h => absurd rfl h
theorem RoundTrip.mxJoin : RoundTrip.Statement .mxJoin := fun h => absurd rfl h
theorem RoundTrip.mxOpStart : RoundTrip.Statement .mxOpStart := fun h => absurd rfl h
theorem RoundTrip.mxGroupCommit : RoundTrip.Statement .mxGroupCommit := fun h => absurd rfl h
theorem RoundTrip.mxOperandsConsumed : RoundTrip.Statement .mxOperandsConsumed := fun h => absurd rfl h
theorem RoundTrip.mzeroStart : RoundTrip.Statement .mzeroStart := fun h => absurd rfl h
theorem RoundTrip.mdrainStart : RoundTrip.Statement .mdrainStart := fun h => absurd rfl h
theorem RoundTrip.drainComplete : RoundTrip.Statement .drainComplete := fun h => absurd rfl h
theorem RoundTrip.gangPanelSave : RoundTrip.Statement .gangPanelSave := fun h => absurd rfl h
theorem RoundTrip.gangPanelRestore : RoundTrip.Statement .gangPanelRestore := fun h => absurd rfl h
theorem RoundTrip.engineRegionZero : RoundTrip.Statement .engineRegionZero := fun h => absurd rfl h
theorem RoundTrip.copyJobStart : RoundTrip.Statement .copyJobStart := fun h => absurd rfl h
theorem RoundTrip.copyJobComplete : RoundTrip.Statement .copyJobComplete := fun h => absurd rfl h
theorem RoundTrip.copyCancelStop : RoundTrip.Statement .copyCancelStop := fun h => absurd rfl h
theorem RoundTrip.loaderEmitRecord : RoundTrip.Statement .loaderEmitRecord := fun h => absurd rfl h
theorem RoundTrip.storerTakeRecord : RoundTrip.Statement .storerTakeRecord := fun h => absurd rfl h
theorem RoundTrip.stageTakeData : RoundTrip.Statement .stageTakeData := fun h => absurd rfl h
theorem RoundTrip.passThroughForward : RoundTrip.Statement .passThroughForward := fun h => absurd rfl h
theorem RoundTrip.spliceApply : RoundTrip.Statement .spliceApply := fun h => absurd rfl h
theorem RoundTrip.stageTakeAbort : RoundTrip.Statement .stageTakeAbort := fun h => absurd rfl h
theorem RoundTrip.pageWalk : RoundTrip.Statement .pageWalk := fun h => absurd rfl h
theorem RoundTrip.walkComplete : RoundTrip.Statement .walkComplete := fun h => absurd rfl h
theorem RoundTrip.walkMovingRetry : RoundTrip.Statement .walkMovingRetry := fun h => absurd rfl h
theorem RoundTrip.tierFetchStart : RoundTrip.Statement .tierFetchStart := fun h => absurd rfl h
theorem RoundTrip.tierMoveCommit : RoundTrip.Statement .tierMoveCommit := fun h => absurd rfl h
theorem RoundTrip.tierPinExpiry : RoundTrip.Statement .tierPinExpiry := fun h => absurd rfl h
theorem RoundTrip.tierEvict : RoundTrip.Statement .tierEvict := fun h => absurd rfl h
theorem RoundTrip.protWrite : RoundTrip.Statement .protWrite := fun h => absurd rfl h
theorem RoundTrip.protChangeDone : RoundTrip.Statement .protChangeDone := fun h => absurd rfl h
theorem RoundTrip.dramRatioChange : RoundTrip.Statement .dramRatioChange := fun h => absurd rfl h
theorem RoundTrip.dramRelock : RoundTrip.Statement .dramRelock := fun h => absurd rfl h
theorem RoundTrip.uncorrectableRead : RoundTrip.Statement .uncorrectableRead := fun h => absurd rfl h
theorem RoundTrip.refetchDone : RoundTrip.Statement .refetchDone := fun h => absurd rfl h
theorem RoundTrip.rowSpareRemap : RoundTrip.Statement .rowSpareRemap := fun h => absurd rfl h
theorem RoundTrip.scoutSample : RoundTrip.Statement .scoutSample := fun h => absurd rfl h
theorem RoundTrip.scoutWindowEnd : RoundTrip.Statement .scoutWindowEnd := fun h => absurd rfl h
theorem RoundTrip.leaveatReached : RoundTrip.Statement .leaveatReached := fun h => absurd rfl h
theorem RoundTrip.moveCommit : RoundTrip.Statement .moveCommit := fun h => absurd rfl h
theorem RoundTrip.graceEnd : RoundTrip.Statement .graceEnd := fun h => absurd rfl h
theorem RoundTrip.expressDrainLimit : RoundTrip.Statement .expressDrainLimit := fun h => absurd rfl h
theorem RoundTrip.leaseRequest : RoundTrip.Statement .leaseRequest := fun h => absurd rfl h
theorem RoundTrip.leaseExpiry : RoundTrip.Statement .leaseExpiry := fun h => absurd rfl h
theorem RoundTrip.lrelArrival : RoundTrip.Statement .lrelArrival := fun h => absurd rfl h
theorem RoundTrip.rmapAction : RoundTrip.Statement .rmapAction := fun h => absurd rfl h
theorem RoundTrip.siteRetire : RoundTrip.Statement .siteRetire := fun h => absurd rfl h
theorem RoundTrip.whistleStop : RoundTrip.Statement .whistleStop := fun h => absurd rfl h
theorem RoundTrip.whistleResume : RoundTrip.Statement .whistleResume := fun h => absurd rfl h
theorem RoundTrip.whistleResumeTrap : RoundTrip.Statement .whistleResumeTrap := fun h => absurd rfl h
theorem RoundTrip.stopRecordWrite : RoundTrip.Statement .stopRecordWrite := fun h => absurd rfl h
theorem RoundTrip.linkLossStop : RoundTrip.Statement .linkLossStop := fun h => absurd rfl h
theorem RoundTrip.queueWake : RoundTrip.Statement .queueWake := fun h => absurd rfl h
theorem RoundTrip.queuePageInDone : RoundTrip.Statement .queuePageInDone := fun h => absurd rfl h
theorem RoundTrip.queuePageOut : RoundTrip.Statement .queuePageOut := fun h => absurd rfl h
theorem RoundTrip.launch : RoundTrip.Statement .launch := fun h => absurd rfl h
theorem RoundTrip.amsg : RoundTrip.Statement .amsg := fun h => absurd rfl h
theorem RoundTrip.hostSplice : RoundTrip.Statement .hostSplice := fun h => absurd rfl h
theorem RoundTrip.hostLease : RoundTrip.Statement .hostLease := fun h => absurd rfl h
theorem RoundTrip.preempt : RoundTrip.Statement .preempt := fun h => absurd rfl h
theorem RoundTrip.signalStore : RoundTrip.Statement .signalStore := fun h => absurd rfl h
theorem RoundTrip.signalAdd : RoundTrip.Statement .signalAdd := fun h => absurd rfl h
theorem RoundTrip.signalWait : RoundTrip.Statement .signalWait := fun h => absurd rfl h
theorem RoundTrip.signalPoll : RoundTrip.Statement .signalPoll := fun h => absurd rfl h
theorem RoundTrip.copy : RoundTrip.Statement .copy := fun h => absurd rfl h
theorem RoundTrip.commandComplete : RoundTrip.Statement .commandComplete := fun h => absurd rfl h
theorem RoundTrip.launchArm : RoundTrip.Statement .launchArm := fun h => absurd rfl h
theorem RoundTrip.launchCommit : RoundTrip.Statement .launchCommit := fun h => absurd rfl h
theorem RoundTrip.launchDisarm : RoundTrip.Statement .launchDisarm := fun h => absurd rfl h
theorem RoundTrip.launchArmTimeout : RoundTrip.Statement .launchArmTimeout := fun h => absurd rfl h
theorem RoundTrip.launchCommitTimeout : RoundTrip.Statement .launchCommitTimeout := fun h => absurd rfl h
theorem RoundTrip.laneSpare : RoundTrip.Statement .laneSpare := fun h => absurd rfl h
theorem RoundTrip.linkAudit : RoundTrip.Statement .linkAudit := fun h => absurd rfl h
theorem RoundTrip.linkDead : RoundTrip.Statement .linkDead := fun h => absurd rfl h
theorem RoundTrip.tileReset : RoundTrip.Statement .tileReset := fun h => absurd rfl h
theorem RoundTrip.injctlPause : RoundTrip.Statement .injctlPause := fun h => absurd rfl h
theorem RoundTrip.registerWrite : RoundTrip.Statement .registerWrite := fun h => absurd rfl h
theorem RoundTrip.recordArrival : RoundTrip.Statement .recordArrival := fun h => absurd rfl h
theorem RoundTrip.tileWalkJobComplete : RoundTrip.Statement .tileWalkJobComplete := fun h => absurd rfl h
theorem RoundTrip.tileResetExit : RoundTrip.Statement .tileResetExit := fun h => absurd rfl h
theorem RoundTrip.moduleLinkRestored : RoundTrip.Statement .moduleLinkRestored := fun h => absurd rfl h
theorem RoundTrip.launchAnswer : RoundTrip.Statement .launchAnswer := fun h => absurd rfl h
theorem RoundTrip.timeSync : RoundTrip.Statement .timeSync := fun h => absurd rfl h
theorem RoundTrip.thermalRecovery : RoundTrip.Statement .thermalRecovery := fun h => absurd rfl h

end Sys2Proof.Laws
end

