-- ==== Sys2Proof/Tests/Slice0.lean ====
section
/-! SUPPORT. The model's own tests: words written out from the spec's encoding tables, ill-formed operands for each check of
WellFormed, single instructions on small states, and for every obligation with hypotheses a theorem that shows states and operands
which meet them. -/

namespace Sys2Proof.Tests

set_option Elab.async false

open Sys2Proof Sys2Proof.Machine

/-! Small states. -/

/-- Context 0 holds `c`, and nothing else differs from reset. -/
def on0 (c : Ctx) : State := { ctxs := [(0, c)] }

/-- Context 0 issues with the given general registers at privilege `p`. -/
def gs (p : BitVec 2) (g : Tab Word) : State := on0 { st := .issuing, priv := p, g := g }

/-- `s` with prefixes `x` in the group in hand. -/
def withPfx (s : State) (x : Prefixes) : State := { s with grp := { s.grp with pfx := x } }

/-! Words of the spec's own listings and examples (02, 07, 09, 12, 15, 17, 21, 24, 27 to 31) with what the text beside them says. -/

/-- Each word decodes to the instruction beside it. -/
def decodesAll (l : List (Nat × Instr)) : Bool := l.all fun p => decodeWord p.1 0 == some p.2

theorem test_decode_integer_and_control : decodesAll [
    (0x00000004, .add 0 0 0 0), (0x0028A504, .add 0 10 5 5), (0x06521004, .minu 0 20 16 16), (0xF0016B14, .andi 0x3C00 11 11),
    (0x48D0A534, .lih 0x1234 5 5), (0x00580938, .lea 0x16 9), (0x0041383C, .gadr 0x10 9 24), (0x00280140, .beq 10 0 1), (0x0003E060, .jr 31),
    (0x00106064, .rep 4 1 1 0 0 0), (0x0000006C, .tend), (0x00000070, .sys), (0x00800070, .trapret), (0x01000070, .brk),
    (0x018C1070, .srd 3 0 16), (0x02081070, .swr 2 0 16), (0x02800070, .ifence)] = true := by decide +kernel

theorem test_decode_memory : decodesAll [
    (0x0398A783, .lbu 3 6 5 7 0), (0x0001698C, .ld 0 11 9), (0x802960A0, .amoadd 1 10 11 0), (0x8835CFA0, .amomin 1 13 14 15),
    (0xC84191A0, .amocas 1 16 12 17), (0x000000A4, .fence), (0x040125A4, .ldfe 0 0 9 5), (0x020029A8, .pfwait 0 0 1 9)] = true := by decide +kernel

theorem test_decode_float_and_vector : decodesAll [
    (0x05054BB0, .fsgn 0 1 10 11), (0x000180B4, .xclr 12), (0x00400FC0, .vclaim 16 15), (0x4080A4C0, .vmov 4 5 4), (0x810141C0, .vbcast 8 10 1),
    (0x8010C6C4, .vadd 8 4 6 6), (0x810C42C4, .vmul 8 3 2 2), (0x818444C4, .vfma 8 1 2 4), (0x820C42C4, .vmin 8 3 2 2), (0x829042C4, .vmax 8 4 2 2),
    (0x4118C6C8, .vxor 4 6 6 6), (0x800022D0, .vcvt 8 0 1 2), (0x800042D4, .vld 8 0 0 2 2), (0x600121D4, .vld 6 0 0 9 1),
    (0x800044D8, .vst 8 0 0 2 4), (0x000009EC, .gbar 0 9)] = true := by decide +kernel

theorem test_decode_messages_tables_counters : decodesAll [
    (0x0059C0F0, .send 22 14), (0x0089A5F0, .spawn 2 13 5), (0x00B1C5F0, .spawn 12 14 5), (0x035D4FF0, .twpost 23 10 15), (0x03B1A0F0, .splice 12 13),
    (0x020213F4, .role 16 19), (0x032EA0F4, .lease 11 21), (0x040125F4, .notack 0 9 5), (0x000125F8, .budget 9 5), (0x00A925F8, .badd 10 9 5),
    (0x010000F8, .hbeat), (0x018127F8, .cntrd 9 7)] = true := by decide +kernel

theorem test_decode_engines : decodesAll [
    (0x0003A009, .mgo 0 0 29), (0x0203A009, .mgo 1 0 29), (0x00800911, .mwait 1 9), (0x0001A019, .mdrain 0 0 0 0 13), (0x0E000081, .cset 0x1C 0),
    (0x0980A081, .cset 0x13 5), (0x0C814081, .cset 0x19 10), (0x00000E85, .cgo 14), (0x0001CF8D, .cwait 14 15), (0x002920C5, .bgive 10 9)] = true := by
  decide +kernel

theorem test_first_step : decodeTableWord 32 0x00000004 = some (.add 0 0 0 0) := by decide

theorem test_fetch : (State.reset.withFetchWord 32 0x00000004).decodeGroup.2 = .run (.add 0 0 0 0) := by
  decide +kernel

/-- R41, R55: a reserved bit of SEND, OP 0x00, a type code of VADD above 8, CSET of a number without a register, and FSGN's mode 4. -/
theorem test_decode_refuses : ([0x0059C1F0, 0x00000000, 0x9010C6C4, 0x00000081, 0x05114BB0] : List Nat).all (fun w =>
    match decodeWord w 0 with
    | none => true
    | some i => !assignedOps i) = true := by decide +kernel

/-! One ill-formed operand for each check of WellFormed, refused by it. -/

theorem test_ill_formed_1 : ([
    .ill 5, .bext 1 0 0 0, .bins 1 0 0 0, .sel 1 0 0 0, .shli 64 0 0, .shri 64 0 0, .sari 64 0 0, .gadr 0x3000 0 0, .shliL 0 0 64,
    .shriL 0 0 64, .sariL 0 0 64, .rep 0 0 0 0 0 0, .pool 0, .fsgn 0 4 0 0, .fcvt 0 17 0 0, .xacc 0 0 3, .xrnd 2 0 0, .vclaim 3 0,
    .vmov 9 0 0, .vbcast 9 0 0, .vext 9 0 0 0, .vins 9 0 0 0, .vadd 9 0 0 0, .vsub 9 0 0 0, .vmul 9 0 0 0, .vfma 9 0 0 0, .vmin 9 0 0 0,
    .vmax 9 0 0 0, .vand 9 0 0 0, .vor 9 0 0 0, .vxor 9 0 0 0, .vshl 6 0 0 0, .vshr 6 0 0 0, .vsar 6 0 0 0] : List Instr).all (fun i => !wellFormed i) = true := by decide +kernel

theorem test_ill_formed_2 : ([
    .vcmp 9 0 0 0 0, .vsel 9 0 0 0, .vperm 9 0 0 0, .vcvt 9 0 0 0, .vcvt 0 9 0 0, .vcvt 4 4 0 0, .qcvt 5 0 0 0, .qcvt 9 0 0 0,
    .vred 9 0 0 0, .vred 0 6 0 0, .vld 9 0 0 0 0, .vlds 9 0 0 0 0, .vldx 9 0 0 0 0, .vldt 4 0 0 0 0, .vldt 0 0 0 0 4, .vst 9 0 0 0 0,
    .vsts 9 0 0 0 0, .vstx 9 0 0 0 0, .gshuf 9 0 0 0, .gbcast 9 0 0 0, .gvote 9 0 0 0, .gmatch 9 0 0, .gred 9 0 0 0, .gred 0 6 0 0,
    .gscan 9 0 0 0, .gscan 0 6 0 0, .gmax 5 0 0 0, .gbar 1 0, .mset 7 0, .mdrain 1 0 0 0 0, .cset 0xF 0, .cset 0x1D 0, .cpoll 0xF 0,
    .cpoll 0x1E 0] : List Instr).all (fun i => !wellFormed i) = true := by decide +kernel

theorem test_ill_formed_3 : ([
    .bwaitBuffer 0 0 0] : List Instr).all (fun i => !wellFormed i) = true := by decide +kernel

/-- R55: codes that an entry does not list. -/
theorem test_unassigned_1 : ([
    .ill 5, .bext 1 0 0 0, .bins 1 0 0 0, .sel 1 0 0 0, .fsgn 0 4 0 0, .fcvt 0 17 0 0, .xacc 0 0 3, .xrnd 2 0 0, .vmov 9 0 0, .vbcast 9 0 0,
    .vext 9 0 0 0, .vins 9 0 0 0, .vadd 9 0 0 0, .vsub 9 0 0 0, .vmul 9 0 0 0, .vfma 9 0 0 0, .vmin 9 0 0 0, .vmax 9 0 0 0, .vand 9 0 0 0,
    .vor 9 0 0 0, .vxor 9 0 0 0, .vshl 6 0 0 0, .vshr 6 0 0 0, .vsar 6 0 0 0, .vcmp 9 0 0 0 0, .vsel 9 0 0 0, .vperm 9 0 0 0, .vcvt 9 0 0 0,
    .vcvt 0 9 0 0, .vcvt 4 4 0 0, .qcvt 5 0 0 0, .qcvt 9 0 0 0, .vred 9 0 0 0, .vred 0 6 0 0] : List Instr).all (fun i => !assignedOps i) = true := by decide +kernel

theorem test_unassigned_2 : ([
    .vld 9 0 0 0 0, .vlds 9 0 0 0 0, .vldx 9 0 0 0 0, .vldt 4 0 0 0 0, .vst 9 0 0 0 0, .vsts 9 0 0 0 0, .vstx 9 0 0 0 0, .gshuf 9 0 0 0,
    .gbcast 9 0 0 0, .gvote 9 0 0 0, .gmatch 9 0 0, .gred 9 0 0 0, .gred 0 6 0 0, .gscan 9 0 0 0, .gscan 0 6 0 0, .gmax 5 0 0 0, .mset 7 0,
    .mdrain 1 0 0 0 0, .cset 0xF 0, .cset 0x1D 0, .cpoll 0xF 0, .cpoll 0x1E 0, .bwaitBuffer 0 0 0] : List Instr).all (fun i => !assignedOps i) = true := by decide +kernel

/-- Operands at the last value that the checks accept. -/
theorem test_well_formed : ([.shli 63 0 0, .gadr 0x1008 0 0, .rep 1 0 0 0 0 0, .pool 1, .fsgn 0 3 0 0, .fcvt 0 16 0 0, .xacc 0 0 2, .xrnd 1 0 0,
    .vclaim 16 0, .vmov 8 0 0, .vshl 5 0 0 0, .vcvt 8 0 0 0, .qcvt 8 0 0 0, .vred 8 5 0 0, .vldt 7 0 0 0 8, .gbar 16 0, .mset 6 0, .mdrain 1 1 0 0 0,
    .cset 0x1C 0, .cpoll 0x1D 0, .bwaitBuffer 1 0 0] : List Instr).all wellFormed = true := by decide +kernel

/-! Single instructions, with results that the spec's examples and listing give, or that follow by hand from its rules. -/

/-- A value of the state after `i`, where it answers a next state. -/
def after (i : Instr) (s : State) (f : State → Nat) : Option Nat :=
  match exec i s with
  | .next t => some (f t)
  | _ => none

/-- General register `k` after `i`. -/
def gAfter (i : Instr) (s : State) (k : BitVec 5) : Option Nat := after i s fun t => (t.rg k).toNat

/-- R106: addition wraps, and the word form sign-extends its result. -/
theorem test_add_wraps : gAfter (.add 0 1 2 3) (gs 0 [(1, 1), (2, 0xFFFFFFFFFFFFFFFF)]) 3 = some 0 := by decide +kernel
theorem test_sub_word : gAfter (.sub 1 1 2 3) (gs 0 [(1, 1), (2, 0x80000000)]) 3 = some 0x7FFFFFFF := by decide +kernel

/-- R107: the quotient truncates toward zero and the remainder has the sign of the dividend. -/
theorem test_div_truncates : gAfter (.div 0 1 2 3) (gs 0 [(1, 2), (2, 0xFFFFFFFFFFFFFFF9)]) 3 = some 0xFFFFFFFFFFFFFFFD := by decide +kernel
theorem test_rem_sign : gAfter (.rem 0 1 2 3) (gs 0 [(1, 2), (2, 0xFFFFFFFFFFFFFFF9)]) 3 = some 0xFFFFFFFFFFFFFFFF := by decide +kernel

/-- R108: positions at 64 and above read as zero. -/
theorem test_bext_top : gAfter (.bext 0 1 2 3) (gs 0 [(1, 8 * 256 + 60), (2, 0xA000000000000000)]) 3 = some 10 := by decide +kernel

/-- R110's example. -/
theorem test_lih : gAfter (.lih 0x1234 5 5) (gs 0 [(5, 0xFFFFFFFF89ABCDEF)]) 5 = some 0x0000123489ABCDEF := by decide +kernel

/-- 29's ANDI with −1024 and 27's ANDN: NDM1 is cleared. -/
theorem test_andi_signed : gAfter (.andi 0x3C00 11 11) (gs 0 [(11, 0x7FF)]) 11 = some 0x400 := by decide +kernel
theorem test_andn : gAfter (.andn 0 18 19 19) (gs 0 [(18, 0x4000), (19, 0x24055)]) 19 = some 0x20055 := by decide +kernel

/-- N31: 80.0 / 3.0 rounded up, with NX. -/
theorem test_fdiv_rup : gAfter (.fdiv 0 13 5 5) (on0 { st := .issuing, rm := 3, g := [(5, 0x42A00000), (13, 0x40400000)] }) 5 = some 0x41D55556 := by
  decide +kernel
theorem test_fdiv_inexact :
    after (.fdiv 0 13 5 5) (on0 { st := .issuing, rm := 3, g := [(5, 0x42A00000), (13, 0x40400000)] }) (fun t => t.ctx.fpflags.toNat) = some 1 := by
  decide +kernel

/-- 30's FSGN: −6.0. -/
theorem test_fsgn_neg : gAfter (.fsgn 0 1 10 11) (gs 0 [(10, 0x40C00000)]) 11 = some 0xC0C00000 := by decide +kernel

/-- N19: 1.0 · 2.0 + 0.5 in every lane; N25: the sum of 16 fives; 30's VCVT: 127 from an i8. -/
def splat (x : Nat) : BitVec 512 := BitVec.ofNat 512 ((List.range 16).foldl (fun a k => a + x * 2 ^ (32 * k)) 0)
theorem test_vfma : after (.vfma 8 1 2 4) (on0 { st := .issuing, v := [(1, splat 0x40000000), (2, splat 0x3F800000), (4, splat 0x3F000000)] })
    (fun t => (t.rv 4).toNat) = some (splat 0x40200000).toNat := by decide +kernel
theorem test_vred : gAfter (.vred 8 0 6 5) (on0 { st := .issuing, v := [(6, splat 0x40A00000)] }) 5 = some 0x42A00000 := by decide +kernel
theorem test_vcvt_i8 : after (.vcvt 8 0 1 2) (on0 { st := .issuing, v := [(1, BitVec.ofNat 512 127)] }) (fun t => (t.rv 2).toNat % 2 ^ 64) =
    some 0x42FE0000 := by decide +kernel

/-! Witnesses: the hypotheses of each obligation are met, clause by clause. -/

theorem witness_EncodeThenDecode : encode (.add 1 31 31 31) ≠ [] ∧ encode (.leaL 31 0xFFFFFFFF) ≠ [] ∧ encode .ifence ≠ [] := by
  decide

theorem witness_AcceptedWordsAreEncodings :
    decodeWord 0x807FFF04 0 = some (.add 1 31 31 31) ∧ 0x807FFF04 % 4 ≠ 3 ∧ 0x807FFF04 % 4 ≠ 3 ∧
    decodeWord 0x807FFF04 7 = some (.add 1 31 31 31) ∧ decodeWord 0x13 0xFFFFFFFF = some (.addiL 0 0 0xFFFFFFFF) := by decide

theorem witness_StepRunsDecodedGroup : ∃ (s s' : State) (i : Instr), s.safe = false ∧ s.due = none ∧ s.readyWait = none ∧
    s.yielding = none ∧ s.issuer = some 0 ∧ (s.ctxAt 0).asyncDue = false ∧ (s.ctxAt 0).overrunDue = false ∧
    ({ s with cur := 0 } : State).decodeGroup = (s', .run i) ∧ s'.pendBlocks i = false :=
  ⟨State.reset.withFetchWord 32 4, (State.reset.withFetchWord 32 4).decodeGroup.1, .add 0 0 0 0, by decide +kernel⟩

/-- A fetched word of each length, and a fetch from a paged address, on the state in which a first instruction stands. -/
theorem witness_FetchAndDecode :
    (∃ (s s1 : State) (w : Nat) (i : Instr), (s.ctx.rep.active && !s.ctx.inTrap) = false ∧
      s.fetchWord s.ctx.pc = (s1, .word w false) ∧ assignedOps i = true ∧ w % 4 < 2 ∧ decodeWord w 0 = some i) ∧
    (∃ (s s1 s2 : State) (w e : Nat) (i : Instr), (s.ctx.rep.active && !s.ctx.inTrap) = false ∧
      s.fetchWord s.ctx.pc = (s1, .word w false) ∧ assignedOps i = true ∧ w % 4 = 3 ∧
      s1.fetchWord (s.ctx.pc + 4) = (s2, .word e false) ∧ decodeWord w e = some i ∧ (decodeLoose w 0).any assignedOps = true ∧ uBad w = false) ∧
    ∃ (s s1 : State) (va : Word) (pa : Nat) (k : Bool), classOf va = .paged ∧ va.toNat % 4 = 0 ∧ pa % 128 = va.toNat % 128 ∧
      s.translateAt s.coreNo s.ctx.region s.ctx.priv va.toNat .fetch = (s1, .ok pa k) ∧
      (s1.core.icache.find? fun l => l.region == s.ctx.region && l.vline == va.toNat / 128) = none ∧
      s1.physOk pa = true ∧ s1.poison.contains (pa / 128) = false :=
  let s := State.reset.withFetchWord 32 4
  let u := State.reset.withFetchWord 64 0xFFFFFFFF00000013
  let p := s.translateAt 0 0 0 0x20000 .fetch
  ⟨⟨s, (s.fetchWord fetchBase).1, 4, .add 0 0 0 0, by decide +kernel⟩,
   ⟨u, (u.fetchWord fetchBase).1, ((u.fetchWord fetchBase).1.fetchWord (fetchBase + 4)).1, 0x13, 0xFFFFFFFF,
     .addiL 0 0 0xFFFFFFFF, by decide +kernel⟩,
   ⟨s, p.1, 0x20000, 0x20000, false, by decide +kernel⟩⟩

theorem witness_StepKeepsMemoryForm : Memory.wf State.reset ∧ State.reset.safe = false ∧ ∃ t, step State.reset = .next t := by
  refine ⟨by decide, by decide, _, by rfl⟩

theorem witness_ResetValues : (1 : Nat) ≠ 0 ∧ (State.reset.ctxAt 0).rmk 1 = 0 := by decide

/-- g1 = 1, g2 = 2^32 (zero at W = 1), g3 = the least signed word, g4 = the greatest, g5 = -1. -/
def sNum : State := gs 0 [(1, 1), (2, 0x100000000), (3, 0x8000000000000000), (4, 0x7FFFFFFFFFFFFFFF), (5, 0xFFFFFFFFFFFFFFFF)]

theorem witness_IntegerOneCycleResults : sNum.grp.pfx.sat = false := by decide

theorem witness_MultiplyDivideResults : sNum.grp.pfx.sat = false ∧ sNum.rg 1 ≠ 0 ∧ ((sNum.rg 1).setWidth 32 : BitVec 32) ≠ 0 ∧
    sNum.rg 2 ≠ 0 ∧ ((sNum.rg 2).setWidth 32 : BitVec 32) = 0 ∧ sNum.rg 0 = 0 := by decide

/-- Sums one past each end of the range and at each end; a quotient past the end; the greatest shift amount. -/
theorem witness_SaturatingFormsClamp :
    let s := withPfx sNum { sat := true }
    s.grp.pfx.sat = true ∧ (s.rg 3).toInt + (s.rg 5).toInt < -(2 ^ 63) ∧ 2 ^ 63 ≤ (s.rg 4).toInt + (s.rg 1).toInt ∧
    -(2 ^ 63) ≤ (s.rg 3).toInt + (s.rg 0).toInt ∧ (s.rg 4).toInt + (s.rg 0).toInt < 2 ^ 63 ∧ (s.rg 5).toInt ≠ 0 ∧
    2 ^ 63 ≤ Int.tdiv (s.rg 3).toInt (s.rg 5).toInt ∧ (63 : BitVec 14).toNat ≤ 63 ∧ (63 : BitVec 32).toNat ≤ 63 ∧
    2 ^ 31 ≤ ((s.rg 1).setWidth 32 : BitVec 32).toInt * 2 ^ 31 := by decide +kernel

/-- Shift amounts at 63 and 64, with and without an extension; address fields at their limits, in each KIND. -/
theorem witness_ImmediatesAndAddresses :
    let s := gs 0 [(1, 0x3FFF00FFFFFF), (2, 0x400000000000), (3, 0x1000000), (4, 0xFFFFFFFFFFF), (5, 0x100000000000),
      (6, 0x0FFF8FFFFFFFFFFF), (7, 0x1000000000000000), (8, 0x0FFF900000000000)]
    s.grp.pfx.sat = false ∧ (63 : BitVec 14).toNat ≤ 63 ∧ 63 < (64 : BitVec 14).toNat ∧ (63 : BitVec 32).toNat ≤ 63 ∧
    63 < (64 : BitVec 32).toNat ∧
    gadrSelOk 0xFE0 = true ∧ bits (0xFE0 : BitVec 14) 12 2 = 0 ∧ (s.rg 1).extractLsb' 46 18 = 0 ∧ (s.rg 1).extractLsb' 24 8 = 0 ∧
    (s.rg 2).extractLsb' 46 18 ≠ 0 ∧ (s.rg 3).extractLsb' 24 8 ≠ 0 ∧
    gadrSelOk 0x1008 = true ∧ bits (0x1008 : BitVec 14) 12 2 = 1 ∧ (s.rg 4).extractLsb' 44 20 = 0 ∧ (s.rg 5).extractLsb' 44 20 ≠ 0 ∧
    gadrSelOk 0x2000 = true ∧ bits (0x2000 : BitVec 14) 12 2 = 2 ∧ (s.rg 6).extractLsb' 60 4 = 0 ∧ bits (s.rg 6) 44 4 ≤ 8 ∧
    (s.rg 7).extractLsb' 60 4 ≠ 0 ∧ (s.rg 8).extractLsb' 60 4 = 0 ∧ 8 < bits (s.rg 8) 44 4 := by decide +kernel

/-- The group of a word at 0x20000, at privilege `p` with INTRAP `h`, PPRIV `pp` and TRAPPC `pc`. -/
def sTrap (p : BitVec 2) (h : Bool) (pp : BitVec 2) (pc : Word) (nested : Bool) : State :=
  { on0 { st := .issuing, priv := p, inTrap := h, trap := { ppriv := pp, pc := pc, nested := nested }, g := [(1, 0x20002), (2, 0x20004)] } with
    grp := { pc0 := 0x20000, wpc := 0x20000, npc := 0x20004 } }

theorem witness_BranchResults : (sTrap 0 false 0 0 false).grp.npc = (sTrap 0 false 0 0 false).grp.wpc + 4 := by decide

theorem witness_JumpAndLink : controlTransfer 0xFFFFFF5C = true ∧ 0xFFFFFF5C ∈ encode (.jal 0xFFFFFF) := by decide

theorem witness_IndirectJumps : ((sTrap 0 false 0 0 false).rg 2).extractLsb' 0 2 = 0 ∧ ((sTrap 0 false 0 0 false).rg 1).extractLsb' 0 2 ≠ 0 := by
  decide

/-- A REP outside a body, and in a handler; a body of two groups at its first group, at its last, and at the last of the last pass. -/
theorem witness_RepReplaysItsBody :
    let s := sTrap 0 false 0 0 false
    let h := sTrap 1 true 0 0 false
    let c (gr : BitVec 3) (off : BitVec 6) (p : BitVec 32) : Ctx := { rep := { active := true, n := 2, group := gr, offset := off, pass := p } }
    let g : Group := { pc0 := 0x20004, wpc := 0x20008, npc := 0x2000C, repCount := 2 }
    (s.ctx.inTrap = false ∧ s.ctx.rep.active = false ∧ (0x3FFF : BitVec 14) ≠ 0) ∧ h.ctx.inTrap = true ∧
    (g.npc = g.pc0 + BitVec.ofNat 64 (4 * 2)) ∧
    ((c 0 1 0).rep.active = true ∧ (c 0 1 0).inTrap = false ∧ (c 0 61 0).rep.offset.toNat + 2 < 64 ∧
      (c 0 61 0).rep.group.toNat + 1 ≠ (c 0 61 0).rep.n.toNat ∧ (c 0 61 0).rep.group.toNat < 7) ∧
    ((c 1 3 0).rep.group.toNat + 1 = (c 1 3 0).rep.n.toNat ∧ (c 1 3 0).rep.pass.toNat + 1 ≠ g.repCount) ∧
    ((c 1 3 1).rep.pass.toNat + 1 = g.repCount) ∧ ({} : Ctx).rep.active = false ∧ 0xFFFFFFFF < 2 ^ 32 ∧
    decodeWord 0x00106064 0 = some (.rep 4 1 1 0 0 0) := by decide +kernel

theorem witness_PoolAndUnassignedWords : (0xFFF : BitVec 12) ≠ 0 ∧ (0 : BitVec 12) = 0 := by decide

theorem witness_SystemCallAndBreak : (1 : BitVec 5) ≠ 0 ∧ decodeWord (0x70 + 31 * 2 ^ 18) 0 = none := by decide

theorem witness_TrapReturn :
    let u := sTrap 0 false 0 0 false
    let n := sTrap 1 false 0 0 false
    let r := sTrap 1 true 3 0 false
    let hi := sTrap 1 true 2 0 false
    let mis := sTrap 1 true 1 2 false
    let ok := sTrap 1 true 1 0x20000 false
    let nest := sTrap 2 true 1 0x20000 true
    u.ctx.pend = [] ∧ u.ctx.priv = 0 ∧ (n.ctx.priv ≠ 0 ∧ n.ctx.inTrap = false) ∧ (r.ctx.inTrap = true ∧ r.ctx.trap.ppriv = 3) ∧
    (hi.ctx.priv ≠ 0 ∧ hi.ctx.inTrap = true ∧ hi.ctx.trap.ppriv ≠ 3 ∧ hi.ctx.priv < hi.ctx.trap.ppriv) ∧
    (mis.ctx.trap.ppriv ≤ mis.ctx.priv ∧ mis.ctx.trap.pc.extractLsb' 0 2 ≠ 0) ∧
    (ok.ctx.priv ≠ 0 ∧ ok.ctx.inTrap = true ∧ ok.ctx.trap.ppriv ≠ 3 ∧ ok.ctx.trap.ppriv ≤ ok.ctx.priv ∧
      ok.ctx.trap.pc.extractLsb' 0 2 = 0 ∧ ok.ctx.trap.nested = false) ∧ nest.ctx.trap.nested = true ∧ nest.ctx.trap.ppriv ≤ nest.ctx.priv := by
  decide

theorem witness_TrapEntry :
    let u := sTrap 0 false 0 0 false
    let h := sTrap 1 true 0 0 false
    (u.ctxAt 0).priv = 0 ∧ (u.ctxAt 0).inTrap = false ∧ (h.ctxAt 0).priv ≠ 0 ∧ (h.ctxAt 0).inTrap = true := by decide

/-- A trap at M without firmware; the safe state with each kind of event due, with none, and with a status request to come. -/
theorem witness_TheSafeState :
    let h := sTrap 1 true 0 0 false
    let s (l : List (Nat × Instr × Ev)) : State := { State.reset with safe := true, agenda := l }
    ((h.ctxAt 0).priv ≠ 0 ∧ (h.colAt 0).mvec = none ∧ (sTrap 0 false 0 0 false).ctx.priv = 0) ∧
    (({ h with cols := [(0, { mvec := some 0x1000 })] } : State).colAt 0).mvec ≠ none ∧
    (s [(0, .statusRequest, {})]).due.isSome = true ∧ (s [(0, .moduleReset, {})]).due.isSome = true ∧
    (s [(0, .governorStep, {})]).due.isSome = true ∧ (s []).due = none ∧ step (s []) = .fault .safeState ∧
    (∃ t, step (s [(1, .statusRequest, {})]) = .next t) := by
  refine ⟨by decide, by decide, by decide, by decide, by decide, by decide, by rfl, _, by rfl⟩

/-- Two held traps, of which the lower cause is taken; a spent budget; a FENCE that nothing holds up any more. -/
theorem witness_TrapsAtGroupBoundaries :
    let s := on0 { st := .issuing, budgetRem := 1, held := [{ cause := cWATCHDOG, val := 0 }, { cause := cFP, val := 1 }] }
    let o := on0 { st := .issuing, budgetRem := 0 }
    let w := on0 { st := .stalled, wait := some (.fence, {}) }
    ((s.ctxAt s.ev.x).st ≠ .free ∧ (s.ctxAt s.ev.x).inTrap = false ∧ (s.ctxAt s.ev.x).held ≠ []) ∧
    ((o.ctxAt o.ev.x).st ≠ .free ∧ (o.ctxAt o.ev.x).inTrap = false ∧ (o.ctxAt o.ev.x).budgetRem = 0) ∧
    ((w.ctxAt w.ev.x).wait = some (.fence, {}) ∧ joins (.fence) = false ∧
      ∃ t, rerun (.fence) (w.awake w.ev.x {}) = .next t ∧ (t.ctxAt w.ev.x).wait = none) ∧
    (s.ctxAt s.ev.x).wait = none := by
  refine ⟨by decide, by decide, ⟨by decide, by decide, _, by rfl, by decide +kernel⟩, by decide⟩

theorem witness_SystemRegisterReads :
    let n (a b : Nat) := 32 * (BitVec.ofNat 5 a).toNat + (BitVec.ofNat 5 b).toNat
    n 0 0 = 0 ∧ n 1 4 = 36 ∧ n 2 0 = 64 ∧ n 1 0 = 32 ∧ (20 < n 0 21 ∧ n 0 31 < 32) ∧ (36 < n 1 5 ∧ n 1 5 ≠ 64) ∧
    (gs 2 []).ctx.priv = 2 ∧ (gs 0 []).ctx.priv < 1 ∧ (gs 1 []).ctx.priv < 2 := by decide

theorem witness_SystemRegisterWrites :
    let n (a b : Nat) := 32 * (BitVec.ofNat 5 a).toNat + (BitVec.ofNat 5 b).toNat
    (n 0 12 = 12 ∧ (1 : BitVec 2) ≤ (gs 1 []).ctx.priv) ∧ (n 0 16 = 16 ∧ (gs 0 []).ctx.priv = 0) ∧ n 0 15 ∈ [5, 6, 11, 15, 32, 64] ∧
    (20 < n 0 31 ∧ n 0 31 < 32) ∧ (36 < n 31 31 ∧ n 31 31 ≠ 64) ∧ (gs 2 [(1, 0x2000F80)]).rg 1 ≠ BitVec.allOnes 64 ∧
    3 ≤ bits (0x3000000 : Word) 24 8 ∧ bits (0x20000000 : Word) 24 8 ≤ 32 ∧
    bits (0x20000000 + 0x8000 : Word) 7 9 * 128 + bits (0x20000000 + 0x8000 : Word) 24 8 * 1024 ≤ 65536 ∧
    ((gs 2 []).ctx.rep.active && !(gs 2 []).ctx.inTrap) = false := by decide +kernel

/-- A running task with its entry in slot 3, of deadline class, and a DEADLINE of all ones to write. -/
def sTask : State :=
  { on0 { st := .issuing, priv := 1, cls := 1, slot := some 3, g := [(1, BitVec.allOnes 64)] } with cores := [(0, { rq := [{ slot := 3, entry := 0, cls := 1 }] })] }

theorem witness_DeadlineWritten : (1 : BitVec 2) ≤ sTask.ctx.priv ∧ sTask.rg 1 = BitVec.allOnes 64 ∧ sTask.ctx.cls = 1 ∧ sTask.ctx.slot = some 3 ∧
    sTask.core.rq.find? (fun e => e.slot == 3) = some { slot := 3, entry := 0, cls := 1 } ∧ (gs 1 []).ctx.cls ≠ 1 ∧ (gs 0 []).ctx.priv = 0 := by decide +kernel

theorem witness_TaskEndAndIfence : sTask.ctx.slot = some 3 ∧ sTask.ctx.slot.bind (sTask.entryAt 0) = some { slot := 3, entry := 0, cls := 1 } ∧
    ({ slot := 3, entry := 0, cls := 1 } : RqEntry).inbox = none ∧ ({ slot := 3, entry := 0, cls := 1 } : RqEntry).launch = none ∧ ({ slot := 3, entry := 0, cls := 1 } : RqEntry).gang = false := by
  decide +kernel

/-- The first two entries of a role map at address 0: ACTIVE COMPUTE entries at site 0, whose NEXT is none. -/
def map0 : Tab Byte := [(21, 0xF0), (53, 0xF0)]

/-- A task on logical tile 0 (site 0, core 0) of region 0, whose role map has two entries; prefixes `x`, general registers `g`. -/
def tile0 (p : BitVec 2) (g : Tab Word) (x : Prefixes := {}) : State :=
  { withPfx (gs p g) x with regions := [(0, { id := 0, rmLen := 2, rmCap := 2 })], mem := map0 }

/-- g1 addresses the last doubleword of the scratchpad of core 0, g2 its last word, g3 the byte before, g4 the panel store's base;
g5 and g6 a reserved and a non-canonical address. -/
def sMem (p : BitVec 2) (x : Prefixes := {}) : State :=
  tile0 p [(1, 0xFFFC00000000FFF8), (2, 0xFFFC00000000FFFC), (3, 0xFFFC00000000FFFF), (4, 0xFFFC000010000000), (5, 0xFFFC400000000000),
    (6, 0x0100000000000000)] x

/-- Where the last `n` bytes of the scratchpad lie. -/
def lastSp (n : Nat) : Loc := { pa := spPhys 0 0 0 (65536 - n) }

theorem witness_LoadsReadMemory :
    let s := sMem 0
    (eaI s 0 1 = 0xFFFC00000000FFF8 ∧ eaX s 0 0 1 0 = 0xFFFC00000000FFF8 ∧ eaX s 3 0 3 0 = 0xFFFC00000000FFFF) ∧
    (Lands s (s.resolve s.me (s.rg 1) (.scalar 8) .read).1 (s.rg 1) (.scalar 8) .read (lastSp 8) ∧ PlainLoc (lastSp 8) ∧
      Undelayed (s.resolve s.me (s.rg 1) (.scalar 8) .read).1 (lastSp 8) 8) ∧
    (Lands s (s.resolve s.me (s.rg 2) (.scalar 4) .read).1 (s.rg 2) (.scalar 4) .read (lastSp 4) ∧ PlainLoc (lastSp 4)) ∧
    (Lands s (s.resolve s.me (s.rg 3) (.scalar 1) .read).1 (s.rg 3) (.scalar 1) .read (lastSp 1) ∧ PlainLoc (lastSp 1) ∧
      Undelayed (s.resolve s.me (s.rg 3) (.scalar 1) .read).1 (lastSp 1) 1) := by
  unfold Lands PlainLoc Undelayed; decide +kernel

theorem witness_StoresWriteMemory :
    let s := sMem 0
    let s1 := (s.resolve s.me (s.rg 1) (.scalar 8) .write).1
    (s.regionAt s.ctx.region).trace = false ∧ Lands s s1 (eaI s 0 1) (.scalar 8) .write (lastSp 8) ∧ PlainLoc (lastSp 8) ∧
    s1.atOnce s1.cur = true ∧
    Lands s (s.resolve s.me (s.rg 3) (.scalar 1) .write).1 (eaX s 0 0 3 0) (.scalar 1) .write (lastSp 1) := by
  unfold Lands PlainLoc; decide +kernel

theorem witness_AccessesRefusedByTheirAddress :
    let s := sMem 0
    let p := sMem 1 { phys := true, memAddr := 0x20000 }
    (s.grp.pfx.phys = false ∧ (eaI s 0 2).toNat % 8 ≠ 0) ∧ ((eaI s 0 5).toNat % 8 = 0 ∧ classOf (eaI s 0 5) = .reserved) ∧
    ((eaI s 0 6).toNat % 8 = 0 ∧ classOf (eaI s 0 6) = .noncanon) ∧ (p.grp.pfx.phys = true ∧ p.ctx.priv ≠ 2) := by
  decide +kernel

theorem witness_AtomicsReturnOldAndStoreNew :
    let s := sMem 0
    let s1 := (s.resolve s.me (s.rg 1) (.atomic 8) .both).1
    let s2 := (s.resolve s.me (s.rg 2) (.atomic 4) .both).1
    (s.regionAt s.ctx.region).trace = false ∧ (Lands s s1 (s.rg 1) (.atomic 8) .both (lastSp 8) ∧ Undelayed s1 (lastSp 8) 8) ∧
    Lands s s2 (s.rg 2) (.atomic 4) .both (lastSp 4) ∧ Undelayed s2 (lastSp 4) 4 := by
  unfold Lands Undelayed; decide +kernel

/-- A full word, an empty one, a store of it, FENCE with nothing outstanding and one with ORDER 1. -/
theorem witness_FullEmptyAccesses :
    let s := sMem 0
    let f : State := { s with full := [(lastSp 8).pa / 8] }
    let r := f.resolve f.me (eaR f 0 0 1) .fe .read
    let e := s.resolve s.me (eaR s 0 0 1) .fe .read
    let w := s.resolve s.me (eaR s 0 0 1) .fe .write
    (Lands f r.1 (eaR f 0 0 1) .fe .read (lastSp 8) ∧ Undelayed r.1 (lastSp 8) 8 ∧ r.1.isFull (lastSp 8).pa = true) ∧
    (Lands s e.1 (eaR s 0 0 1) .fe .read (lastSp 8) ∧ Undelayed e.1 (lastSp 8) 8 ∧ e.1.isFull (lastSp 8).pa = false) ∧
    (Lands s w.1 (eaR s 0 0 1) .fe .write (lastSp 8) ∧ PlainLoc (lastSp 8) ∧ w.1.atOnce w.1.cur = true ∧
      (s.regionAt s.ctx.region).trace = false) ∧
    s.fenceWaits (fenceOrder s.grp.pfx) (fenceScope s.grp.pfx) = false ∧ (sMem 0 { order := 1 }).grp.pfx.order = 1 := by
  unfold Lands PlainLoc Undelayed; decide +kernel

/-- A global address; a paged address without a schedule entry, whose page is late, and one whose page stands in its tier. -/
theorem witness_PrefetchNeverTraps :
    let g := gs 0 [(1, 0x7000000000000000)]
    let s := { (State.reset.withFetchWord 32 4) with ctxs := [(0, { st := .issuing, g := [(1, 0x20000)] })] }
    let f : State := s.setRegion { s.regionAt 0 with tiers := [{ base := 0x20000, len := 1, tier := 2, needed := 0, lead := 0, hold := 0 }] }
    let p := s.translateAt 0 0 0 0x20000 .read
    let q := f.translateAt 0 0 0 0x20000 .read
    classOf (eaR g 0 0 1) = .global ∧ classOf (eaR s 0 0 1) = .paged ∧
    (let m := sMem 0
     classOf (eaR m 0 0 3) = .role ∧ m.roleRes m.me (eaR m 0 0 3) (.scalar 1) = .ok (lastSp 1) ∧ classOf (eaR m 0 0 5) = .reserved ∧
     classOf (eaR m 0 0 6) = .noncanon) ∧
    (s.translateAt s.coreNo s.ctx.region s.ctx.priv (eaR s 0 0 1).toNat .read = (p.1, .ok 0x20000 false) ∧
      p.1.pfwait p.1.ctx.region (eaR s 0 0 1).toNat 0x20000 = some 1) ∧
    (f.translateAt f.coreNo f.ctx.region f.ctx.priv (eaR f 0 0 1).toNat .read = (q.1, .ok 0x20000 false) ∧
      q.1.pfwait q.1.ctx.region (eaR f 0 0 1).toNat 0x20000 = some 0) := by
  decide +kernel

/-- Flags that are not enabled, and an enabled one: both clauses of `Flagged`. -/
theorem witness_FloatArithmeticResults :
    let s := gs 0 []
    let e := on0 { st := .issuing, trapen := 0x1F }
    s.ctx.trapFlags flNX = 0 ∧ e.ctx.trapFlags flNX ≠ 0 ∧
    (F32.ofArith 0 false (FNum.div (F32.decode 0x3F800000) (F32.decode 0)).1).1 = 0x7F800000 := by decide +kernel

theorem witness_FloatClassSignConvert :
    let s := gs 0 [(1, 0x7F800001), (2, 0x7FC00000)]
    (4 ≤ (4 : BitVec 5).toNat ∧ 17 ≤ (17 : BitVec 5).toNat ∧ 17 ≤ (31 : BitVec 5).toNat) ∧
    (bits (s.rg 1) 23 8 = 255 ∧ bits (s.rg 1) 0 23 ≠ 0 ∧ bit (s.rg 1) 22 = false) ∧ bit (s.rg 2) 22 = true := by decide

theorem witness_RepresentableValuesAreKept :
    F64 ∈ [F64, F32, F16, BF16, F8W, F8N] ∧ 0x7FEFFFFFFFFFFFFF < 2 ^ F64.width ∧ F64.decode 0x7FEFFFFFFFFFFFFF = .fin false (2 ^ 53 - 1) 971 ∧
    F8N.decode 0x7F = .fin false 15 4 ∧ F16.decode 0x8001 = .fin true 1 (-24) := by decide +kernel

/-- g1 addresses the first accumulator of the scratchpad of core 0, g2 the last that fits, g3 one that overlaps the first; g4 a
misaligned address, g5 one of another core, g6 a float, g7 a NaN and g8 an infinity. -/
def sAcc : State :=
  tile0 0 [(1, 0xFFFC000000000000), (2, 0xFFFC00000000FFD0), (3, 0xFFFC000000000028), (4, 0xFFFC000000000004), (5, 0xFFFC000020000000),
    (6, 0x3F800000), (7, 0x7FC00000), (8, 0x7F800000)]

/-- The accumulator at scratchpad offset `off` passes the checks of R136. -/
theorem accAt_sp (s : State) (ea : Word) (w : Want) (off : Nat)
    (h : ea.toNat % 8 = 0 ∧ classOf ea = .role ∧ bits ea 32 14 = s.ctx.ltile ∧ bits ea 29 3 = s.coreNo % 8 ∧ bits ea 24 5 = 0 ∧
      (s.resolveNow s.me ea (.block 48) w).1.mustWait s.cur (spPhys 0 0 0 off) 48 = false ∧
      (s.resolveNow s.me ea (.block 48) w).2 = .ok { pa := spPhys 0 0 0 off }) :
    AccAt s (s.resolveNow s.me ea (.block 48) w).1 ea w (spPhys 0 0 0 off) := by
  obtain ⟨a, b, c, d, e, f, g⟩ := h
  exact ⟨a, b, c, d, e, f, _, Prod.ext rfl g, rfl⟩

/-- The first block of the scratchpad is poisoned. -/
def sAccBad : State := { sAcc with poison := [spPhys 0 0 0 0 / 128] }

theorem witness_LongAccumulatorResults :
    let now (s : State) (r : BitVec 5) (w : Want) := (s.resolveNow s.me (s.rg r) (.block 48) w).1
    let first := now sAcc 1 .both
    AccAt sAcc (now sAcc 1 .write) (sAcc.rg 1) .write (spPhys 0 0 0 0) ∧ AccAt sAcc (now sAcc 2 .write) (sAcc.rg 2) .write (spPhys 0 0 0 0xFFD0) ∧
    AccAt sAcc first (sAcc.rg 1) .both (spPhys 0 0 0 0) ∧ AccAt first (now first 2 .both) (first.rg 2) .both (spPhys 0 0 0 0xFFD0) ∧
    AccAt first (now first 1 .both) (first.rg 1) .both (spPhys 0 0 0 0) ∧ AccAt first (now first 3 .both) (first.rg 3) .both (spPhys 0 0 0 40) ∧
    AccAt sAccBad (now sAccBad 1 .write) (sAccBad.rg 1) .write (spPhys 0 0 0 0) ∧
    ((accReads 0 (2 ^ 160)).any fun w => sAcc.poisoned (spPhys 0 0 0 0 + 8 * w) 8) = false ∧
    ((accReads 0 (2 ^ 160)).any fun w => sAccBad.poisoned (spPhys 0 0 0 0 + 8 * w) 8) = true ∧
    (sAcc.regionAt sAcc.ctx.region).trace = false ∧ spPhys 0 0 0 0 + 48 ≤ spPhys 0 0 0 0xFFD0 ∧
    (spPhys 0 0 0 40 ≠ spPhys 0 0 0 0 ∧ spPhys 0 0 0 40 < spPhys 0 0 0 0 + 48 ∧ spPhys 0 0 0 0 < spPhys 0 0 0 40 + 48) ∧
    (sAcc.rg 4).toNat % 8 ≠ 0 ∧
    ((sAcc.rg 5).toNat % 8 = 0 ∧ classOf (sAcc.rg 5) ≠ .paged ∧ bits (sAcc.rg 5) 29 3 ≠ sAcc.coreNo % 8) ∧
    F32.decode ((sAcc.rg 6).toNat % 2 ^ 32) = .fin false 0x800000 (-23) ∧ (F32.decode ((sAcc.rg 7).toNat % 2 ^ 32)).isNan = true ∧
    F32.decode ((sAcc.rg 8).toNat % 2 ^ 32) = .inf false ∧ 3 ≤ (3 : BitVec 5).toNat ∧ 2 ≤ (2 : BitVec 5).toNat := by
  refine ⟨accAt_sp _ _ _ 0 (by decide +kernel), accAt_sp _ _ _ 0xFFD0 (by decide +kernel), accAt_sp _ _ _ 0 (by decide +kernel),
    accAt_sp _ _ _ 0xFFD0 (by decide +kernel), accAt_sp _ _ _ 0 (by decide +kernel), accAt_sp _ _ _ 40 (by decide +kernel),
    accAt_sp _ _ _ 0 (by decide +kernel), by decide +kernel⟩

theorem witness_VectorElementResults :
    let s := gs 0 []
    (0 : BitVec 4).toNat ≤ 5 ∧ 6 ≤ (6 : BitVec 4).toNat ∧ (8 : BitVec 4).toNat ≤ 8 ∧ 9 ≤ (9 : BitVec 4).toNat ∧
    (8 : BitVec 4).toNat ≠ (0 : BitVec 4).toNat ∧ s.ctx.trapFlags flSAT = 0 ∧ (on0 { trapen := 0x1F }).ctx.trapFlags flNV ≠ 0 ∧
    (-32768 - 32768 : Int) < tLo 2 ∧ tHi 2 < (32767 + 32767 : Int) := by decide +kernel

theorem witness_VectorMovesMasksReductions :
    let s := on0 { st := .issuing, g := [(1, 0x500), (2, 0x600)], v := [(1, 0x7F800001)] }
    let e := on0 { st := .issuing, trapen := 0x1F, v := [(1, 0x7F800001)] }
    (5 : BitVec 4).toNat ≤ 5 ∧ (8 : BitVec 4).toNat ≤ 8 ∧ 6 ≤ (7 : BitVec 4).toNat ∧ (5 : BitVec 3).toNat ≤ 5 ∧ 6 ≤ (6 : BitVec 3).toNat ∧
    s.ctx.trapFlags ((s.lanesOn 8).foldl (fun acc k => acc ||| snanFlag [(tFmt 8).decode (el 8 (s.rv 1) k), (tFmt 8).decode (el 8 (s.rv 0) k)]) 0) = 0 ∧
    s.ctx.trapFlags (vreduce 8 0 s.rmode.toNat s.maskOf (s.rv 1)).2 = 0 ∧ e.ctx.trapFlags (vreduce 8 0 e.rmode.toNat e.maskOf (e.rv 1)).2 ≠ 0 ∧
    bits (s.rg 1) 8 3 ≤ 5 ∧ 6 ≤ bits (s.rg 2) 8 3 ∧ (16 : BitVec 5) ∈ [2, 4, 8, (16 : BitVec 5)] ∧ (31 : BitVec 5) ∉ [2, 4, 8, (16 : BitVec 5)] := by
  decide +kernel

/-- Every element access of a list may go on. -/
def okAll (l : List ElAcc) : Bool := l.all fun p => match p.2.2 with
  | .ok _ => true
  | _ => false

theorem vlands_of_okAll (s : State) (n : Nat) (w : Want) (l : List (Nat × Word)) (h : s.grp.pfx.phys = false)
    (k : okAll (s.resolveAll s.me n w l).2 = true) : VLands s (s.resolveAll s.me n w l).1 n w l (s.resolveAll s.me n w l).2 := by
  refine ⟨h, rfl, fun p hp => ?_⟩
  have := List.all_eq_true.mp k p hp
  revert this
  cases p.2.2 <;> simp

/-- g1 addresses the last 64 bytes of the scratchpad, g2 the last 4; g3 is a stride of 4; g4 and g5 the base and pitch of a VLDT. -/
def sVec : State :=
  tile0 0 [(1, 0xFFFC00000000FFC0), (2, 0xFFFC00000000FFFC), (3, 4), (4, 0xFFFC000010000000), (5, 32)]

def vUnit (r : BitVec 5) : List (Nat × Word) := (sVec.lanesOn 8).map fun e => (e, eaR sVec 0 0 r + BitVec.ofNat 64 (e * 4))
def vStride : List (Nat × Word) := (sVec.lanesOn 8).map fun e => (e, sVec.rg 1 + disp24 sVec.grp.pfx + BitVec.ofNat 64 e * (sVec.rg 3 <<< 0))
def vTrans : List (Nat × Word) := (List.range 8).flatMap fun j => (sVec.lanesOn 2).map fun e =>
  (64 * j + e, sVec.rg 4 + disp24 sVec.grp.pfx + BitVec.ofNat 64 (e % 16) * (sVec.rg 5 <<< 0) + BitVec.ofNat 64 ((2 * j + e / 16) * 2))

theorem witness_VectorMemoryResults :
    (∃ s1 acc, VLands sVec s1 4 .read (vUnit 1) acc ∧ s1.atOnce s1.cur = true) ∧ (∃ s1 acc, VLands sVec s1 4 .read vStride acc) ∧
    (∃ s1 acc, VLands sVec s1 4 .write (vUnit 1) acc ∧ s1.atOnce s1.cur = true ∧ (∀ q ∈ okLocs acc, PlainLoc q.2.2) ∧
      (sVec.regionAt sVec.ctx.region).trace = false) ∧
    (sVec.grp.pfx.phys = false ∧ firstBad (sVec.resolveAll sVec.me 4 .read (vUnit 2)).2 = some (0xFFFC000000010000, cPROTECT, 0xFFFC000000010000)) ∧
    (4 ≤ tSize 8 ∧ tSize 2 ≤ 2 ∧ (0 : BitVec 5).toNat % 8 = 0 ∧ (1 : BitVec 5).toNat % 8 ≠ 0 ∧
      (sVec.rg 3).toNat % 32 ≠ 0 ∧ (sVec.rg 5 <<< 0).toNat % 32 = 0 ∧ 65536 < (sVec.rg 1).toNat) ∧
    ∃ s1 acc, (sVec.rg 4 + disp24 sVec.grp.pfx).toNat % 32 = 0 ∧ (sVec.rg 5 <<< 0).toNat % 32 = 0 ∧ 32 ≤ (sVec.rg 5 <<< 0).toNat ∧
      (sVec.rg 5 <<< 0).toNat ≤ 65536 ∧ ownPanel sVec (sVec.rg 4 + disp24 sVec.grp.pfx) = true ∧
      (∀ q ∈ vTrans, ownPanel sVec q.2 = true) ∧ VLands sVec s1 2 .read vTrans acc ∧
      ∀ q ∈ okLocs acc, s1.mustWait s1.cur q.2.2.pa 2 = false ∧ s1.niHolds s1.me q.2.2 = false := by
  refine ⟨⟨_, _, vlands_of_okAll _ _ _ _ rfl (by decide +kernel), by decide +kernel⟩, ⟨_, _, vlands_of_okAll _ _ _ _ rfl (by decide +kernel)⟩,
    ⟨_, _, vlands_of_okAll _ _ _ _ rfl (by decide +kernel), by decide +kernel, by unfold PlainLoc; decide +kernel, by decide⟩,
    by decide +kernel, by decide, ⟨_, _, by decide +kernel, by decide +kernel, by decide +kernel, by decide +kernel, by decide +kernel,
      by decide +kernel, vlands_of_okAll _ _ _ _ rfl (by decide +kernel), by decide +kernel⟩⟩

/-! A gang. -/

/-- A member, at the line with `w` (none: it has not issued yet); registers `g`. -/
def gangCtx (w : Option Instr) (g : Tab Word) : Ctx :=
  { ({} : Ctx) with
    st := if w.isSome then .stalled else .issuing
    gang := true
    g := g
    wait := w.map fun i => (i, { pc0 := 0x20000, wpc := 0x20000, npc := 0x20004 }) }

/-- Eight members, core k's at the line with `f k`. -/
def sGang (f : Nat → Option Instr) (g : Tab Word := []) : State :=
  { State.reset with
    ctxs := (List.range 8).map fun k => (4 * k, gangCtx (f k) g)
    regions := [(0, { id := 0, rmLen := 2, rmCap := 2 })] }

/-- The first member to issue and the last; a task outside a gang; a gang with a member gone; an FMT and a GBAR operand out of range. -/
theorem witness_GangGroupsWaitAtTheLine :
    let first := sGang fun _ => none
    let last := sGang fun k => if k = 0 then none else some (.gshuf 0 1 2 3)
    let gone : State := { first with ctxs := first.ctxs.filter fun p => p.1 != 28 }
    let out := gs 0 []
    let fmt := sGang (fun _ => none) [(1, 0x600), (2, 0x500)]
    (first.ctx.gang = true ∧ first.absentMask first.siteNo = 0) ∧
    (let u := last.setCtx { last.ctx with st := .stalled, wait := some (.gshuf 0 1 2 3, last.grp), stallAt := last.time }
     last.ctx.gang = true ∧ last.absentMask last.siteNo = 0 ∧
       ∀ k, k < 8 → ∃ c, u.member last.siteNo k = some c ∧ (u.ctxAt c).atLine = true) ∧
    (gone.ctx.gang = true ∧ gone.absentMask gone.siteNo = 128) ∧ out.ctx.gang = false ∧ 6 ≤ bits (fmt.rg 1) 8 3 ∧ bits (fmt.rg 2) 8 3 ≤ 5 ∧
    (16 : BitVec 5) ∈ [(0 : BitVec 5), 2, 4, 8, 16] ∧ (1 : BitVec 5) ∉ [(0 : BitVec 5), 2, 4, 8, 16] := by
  refine ⟨by decide, ⟨by decide, by decide, fun k h => ⟨4 * k, ?_⟩⟩, by decide, by decide, by decide, by decide, by decide, by decide⟩
  revert k h; decide +kernel

/-- A join of each instruction, one that differs in a member, and traps that no member enables. -/
theorem witness_GangJoinResults :
    (∀ i ∈ [Instr.gshuf 8 1 2 3, .gbcast 0 1 2 3, .gvote 0 3 1 3, .gmatch 0 1 3, .gred 5 0 1 3, .gscan 8 0 1 3, .gmax 8 1 2 3, .gbar 16 3],
      ((sGang fun _ => some i).joined 0).length = 8 ∧ ((sGang fun _ => some i).joined 0).head?.map (·.instr) = some i ∧
      mismatch ((sGang fun _ => some i).joined 0) = 0 ∧ (sGang fun _ => some i).tilePending ((sGang fun _ => some i).joined 0) = false ∧
      ∀ m ∈ (sGang fun _ => some i).joined 0, ((sGang fun _ => some i).ctxAt m.ctx).trapFlags 0x3F = 0) ∧
    mismatch ((sGang fun k => some (if k = 7 then .gbar 0 3 else .gmatch 0 1 3)).joined 0) = 128 := by decide +kernel

/-! Messages and tables. -/

/-- Words at offsets of the scratchpad of core 0. -/
def spMem (l : List (Nat × Nat)) : Tab Byte := l.foldl (fun m p => memWrite m (spPhys 0 0 0 p.1) (leBytes 8 p.2)) []

/-- The role map's first entry is ACTIVE at site 0, and the scratchpad holds `l`. -/
def mapMem (l : List (Nat × Nat)) : Tab Byte := memWrite (spMem l) 21 [0xF0]

/-- Entry 1 of region 0's role map is VACANT, and the scratchpad holds `l`. -/
def sMsg (p : BitVec 2) (g : Tab Word) (l : List (Nat × Nat) := []) : State :=
  { tile0 p g with mem := memWrite (mapMem l) 37 [12] }

/-- The state after the checks of a block of `n` bytes. -/
def seen (s : State) (ea : Word) (n : Nat) : State := (s.resolveNow s.me ea (.block n) .read).1

/-- The block of `n` bytes at offset `off` of the scratchpad passes the checks and holds what memory holds. -/
theorem blockAt_sp (s : State) (ea : Word) (n al off : Nat)
    (h : classOf ea = .role ∧ bits ea 24 4 = 0 ∧ bits ea 32 14 = s.ctx.ltile ∧ ea.toNat % al = 0 ∧
      (s.resolveNow s.me ea (.block n) .read).2 = .ok { pa := spPhys 0 0 0 off } ∧ (seen s ea n).mustWait s.cur (spPhys 0 0 0 off) n = false) :
    BlockAt s (seen s ea n) ea n al (memRead s.mem (spPhys 0 0 0 off) n) := by
  obtain ⟨a, b, c, d, e, f⟩ := h
  exact ⟨a, b, c, d, _, Prod.ext rfl e, f, rfl⟩

/-- g1 names core 7, channel 63 of logical tile 0 with the greatest LEN of a SEND; g2 a block of the scratchpad; g3 no address to
acknowledge, g4 one on the own tile, g5 one that is bad; g6 has a reserved bit; g7 the same tile without LEN. -/
def sSend : State :=
  sMsg 1 [(1, 0xE000FFF0), (2, 0xFFFC000000000000), (4, 0xFFFC00000000FFF8), (5, 0x10000), (6, 0x400000000000), (7, 0xE000FC00)]

/-- A record header of `kind` and LEN 1008 at offset 0, which g2 addresses; g1 names the destination. -/
def sRecord (kind : Nat) : State := sMsg 1 [(1, 0xE000FC00), (2, 0xFFFC000000000000)] [(0, kind * 2 ^ 38 + 1008)]

/-- A SPAWN block at offset 0: entry 0x1000, class and budget in word 4; LEN 976 in g1, LEN 0 for the VACANT tile 1 in g3. -/
def sSpawn : State :=
  sMsg 1 [(1, 976), (2, 0xFFFC000000000000), (3, 0x100000000)] [(0, 0x1000), (32, 0x4000000000000000 + 0xFFFFFFFF)]

/-- Engine words: a job, a permit of one and an end of pipe 1. -/
def sPost (w : Word) : State := sMsg 1 [(1, w), (2, 0xFFFC000000000000)]

theorem witness_MessagesAreSent :
    (let s1 := seen sSend (sSend.rg 2) (16 + bits (sSend.rg 1) 0 10)
     BlockAt sSend s1 (sSend.rg 2) (16 + bits (sSend.rg 1) 0 10) 8 (memRead sSend.mem (spPhys 0 0 0 0) 1024) ∧
      DestOk s1 sSend.ctx.region (sSend.rg 1) false 1008) ∧
    (DestOk sSend sSend.ctx.region (sSend.rg 7) false 0 ∧ sSend.ackBad (sSend.rg 3) = false ∧ sSend.ackBad (sSend.rg 4) = false) ∧
    (∀ k ∈ [0, 1, 2], let h := memRead (sRecord k).mem (spPhys 0 0 0 0) 16
      let s1 := seen (sRecord k) ((sRecord k).rg 2) 16
      DestOk (seen s1 ((sRecord k).rg 2) 1024) 0 ((sRecord k).rg 1) false 0 ∧ bits (blockWord h 0) 0 10 = 1008 ∧
        bits (blockWord h 0) 10 28 = 0 ∧ bits (blockWord h 0) 38 2 = k) ∧
    (let s1 := seen (sRecord 1) ((sRecord 1).rg 2) 16
     BlockAt (sRecord 1) s1 ((sRecord 1).rg 2) 16 8 (memRead (sRecord 1).mem (spPhys 0 0 0 0) 16) ∧
      BlockAt s1 (seen s1 (s1.rg 2) 1024) (s1.rg 2) 1024 8 (memRead s1.mem (spPhys 0 0 0 0) 1024)) ∧
    (let bs := memRead sSpawn.mem (spPhys 0 0 0 0) 1024
     let s1 := seen sSpawn (sSpawn.rg 2) (48 + bits (sSpawn.rg 1) 0 10)
     BlockAt sSpawn s1 (sSpawn.rg 2) (48 + bits (sSpawn.rg 1) 0 10) 8 bs ∧ destBad (sSpawn.rg 1) true 976 = false ∧
       bits (blockWord bs 0) 0 2 = 0 ∧ bits (blockWord bs 4) 62 2 ≠ 3 ∧ bits (blockWord bs 4) 32 30 = 0 ∧ bits (blockWord bs 4) 0 32 ≠ 0 ∧
       sSpawn.spawnRegion bs = sSpawn.ctx.region ∧ DestOk s1 (sSpawn.spawnRegion bs) (sSpawn.rg 1) true 976 ∧
       destBad (sSpawn.rg 3) true 976 = false ∧ bits (sSpawn.rg 3) 32 14 < sSpawn.rmLen 0 ∧
       (s1.sendEntry (sSpawn.spawnRegion bs) (bits (sSpawn.rg 3) 32 14)).vacant = true) ∧
    BlockAt (sPost 0) (seen (sPost 0) ((sPost 0).rg 2) 96) ((sPost 0).rg 2) 96 8 (memRead (sPost 0).mem (spPhys 0 0 0 0) 96) ∧
    (engineWordBad ((sPost 0).rg 1) = false ∧ (sPost 0).tileBusy (sPost 0).cur = false ∧ ((sPost 0).sendEntry 0 0).vacant = false) ∧
    (engineWordBad 0x4000000000010001 = false ∧ bits (0x4000000000010001 : Word) 62 2 = 1 ∧
      engineWordBad 0x8000000000010000 = false ∧ bits (0x8000000000010000 : Word) 62 2 = 2 ∧ (sPost 0x8000000000010000).ctx.priv ≠ 0 ∧
      (sPost 0x8000000000010000).rg 3 = 0) ∧
    destBad (sSend.rg 6) false 1008 = true ∧ destBad (sSend.rg 6) true 976 = true := by
  refine ⟨⟨blockAt_sp _ _ 1024 8 0 (by decide +kernel), by unfold DestOk; decide +kernel⟩, by unfold DestOk; decide +kernel,
    by unfold DestOk; decide +kernel, ⟨blockAt_sp _ _ 16 8 0 (by decide +kernel), blockAt_sp _ _ 1024 8 0 (by decide +kernel)⟩,
    ⟨blockAt_sp _ _ 1024 8 0 (by decide +kernel), by unfold DestOk; decide +kernel⟩, blockAt_sp _ _ 96 8 0 (by decide +kernel),
    by decide +kernel, by decide +kernel, by decide +kernel⟩

/-- g1 addresses a counter that holds 5, g2 = 5 and g3 = 4 the amounts; g4 a counter off its 64-byte line, g5 one in the panel store. -/
def sDecr : State :=
  sMsg 0 [(1, 0xFFFC00000000FFC0), (2, 5), (3, 4), (4, 0xFFFC00000000FF88), (5, 0xFFFC000010000000)] [(0xFFC0, 5)]

theorem witness_CountdownsAndAcknowledgements :
    let s1 := (sDecr.resolve sDecr.me (sDecr.rg 1) (.atomic 8) .both).1
    let s2 := (sDecr.resolve sDecr.me (sDecr.rg 1) .fe .write).1
    let l : Loc := { pa := spPhys 0 0 0 0xFFC0 }
    (classOf (sDecr.rg 1) = .role ∧ bit (sDecr.rg 1) 28 = false ∧ bits (sDecr.rg 1) 24 4 = 0 ∧ (sDecr.rg 1).toNat % 64 = 0) ∧
    (Lands sDecr s1 (sDecr.rg 1) (.atomic 8) .both l ∧ PlainLoc l ∧ s1.atOnce s1.cur = true ∧ (sDecr.regionAt sDecr.ctx.region).trace = false ∧
      (sDecr.regionAt 0).rmAddr 0 + 32 ≤ l.pa) ∧
    (sDecr.readWord l.pa = sDecr.rg 2 ∧ sDecr.rg 2 ≠ 0 ∧ sDecr.readWord l.pa ≠ sDecr.rg 3) ∧
    (Lands sDecr s2 (sDecr.rg 1) .fe .write l ∧ s2.atOnce s2.cur = true) ∧
    (classOf (sDecr.rg 4) = .role ∧ (sDecr.rg 4).toNat % 64 ≠ 0) ∧ bit (sDecr.rg 5) 28 = true := by
  unfold Lands PlainLoc; decide +kernel

/-- g1 = channel 511, g2 a channel image of class 1 with a budget, g3 channel 512; the match entry of g4 counts 2^21 - 1 bytes of buffer
63, g5 frees entry 31, g6 has a reserved bit; buffer 63 is valid; `m` lists the match entries in use. -/
def sTabs (p : BitVec 2) (m : List Nat) : State :=
  { sMsg p [(1, 511), (2, 0xFFFC000000000000), (3, 512), (4, 0x3FFFFE0003F), (5, 0x800000000000001F), (6, 0x4000000000000000)]
      [(0, 0x1000), (8, 0xA000000000000001)] with
    tiles := [(0, { tabs := [(0, { buf := [(63, { valid := true })], mtch := m.map fun i => (i, { valid := true }),
                                   chan := [(510, { stage := true })] })] })] }

theorem witness_ChannelAndMatchTables :
    let s := sTabs 1 []
    (s.ctx.priv ≠ 0 ∧ (s.rg 1).toNat < 512 ∧ (tget s.myTabs.chan 511 {}).stage = false ∧ (tget s.myTabs.chan 510 {}).stage = true ∧
      512 ≤ (s.rg 3).toNat ∧ (s.coreAt (8 * s.siteNo + 511 / 64)).inbox = [] ∧ (sTabs 0 []).ctx.priv = 0) ∧
    (bit (s.rg 4) 63 = false ∧ bits (s.rg 4) 42 21 = 0 ∧ bits (s.rg 4) 6 6 = 0 ∧ bits (s.rg 4) 21 21 ≠ 0 ∧
      (s.myTabs.bufAt (bits (s.rg 4) 0 6)).valid = true) ∧
    (tget (sTabs 1 (List.range 31)).myTabs.mtch 31 {}).valid = false ∧
    (∀ j, j < 31 → (tget (sTabs 1 (List.range 31)).myTabs.mtch j {}).valid = true) ∧
    (∀ j, j < 32 → (tget (sTabs 1 (List.range 32)).myTabs.mtch j {}).valid = true) ∧
    (bit (s.rg 5) 63 = true ∧ bits (s.rg 5) 42 21 = 0 ∧ bits (s.rg 5) 5 7 = 0 ∧ bits (s.rg 5) 0 5 = 31) ∧ bits (s.rg 6) 42 21 ≠ 0 ∧
    BlockAt s (seen s (s.rg 2) 32) (s.rg 2) 32 32 (memRead s.mem (spPhys 0 0 0 0) 32) ∧
    (let bs := memRead s.mem (spPhys 0 0 0 0) 32
     chanBad (blockWord bs 0) (blockWord bs 1) (blockWord bs 2) (blockWord bs 3) = false) := by
  refine ⟨by decide +kernel, by decide +kernel, by decide +kernel, by decide +kernel, by decide +kernel, by decide +kernel,
    by decide +kernel, blockAt_sp _ _ 32 32 0 (by decide +kernel), by decide +kernel⟩

/-! Role map, counters, engines, buffers. -/

/-- Region 7 is a child of region 0; the NI of site 0 caches entry 0 and not entry 1. g1 = 0, g2 = 1 (the last entry) and g3 = 2 (beyond
N); g4 asks for a site for entry 1, g5 empties the cache, g6 has a reserved bit, g7 is region 7; g8 = 63 and g9 = 64 name leases. -/
def sRole : State :=
  { sMsg 1 [(2, 1), (3, 2), (4, 0x100000001), (6, 0x400000000000), (7, 7), (8, 63), (9, 64), (10, 0xFFFC000000000000), (11, 0x10000)] with
    regions := [(0, { id := 0, rmLen := 2, rmCap := 2 }), (7, { id := 7, parent := 0 })]
    tiles := [(0, { rmCache := [{ region := 0, ltile := 0, w0 := 0x1234000000000000, w1 := 0 }] })] }

/-- A move that has noticed entry 0 of region 0 under NID 1 and has not left yet. -/
def sNoticed : State :=
  { sRole with
    tiles := [(0, { leaving := some { reason := 0, frm := .compute, into := .bullpen, leaveAt := 100, ents := [{ region := 0, ltile := 0, nid := 1 }] } })] }

theorem witness_RoleMapInstructions :
    let r := sRole.ctx.region
    ((sRole.rg 1).toNat < sRole.rmLen r ∧ (sRole.tile.rmCache.find? (fun c => c.region == r && c.ltile == (sRole.rg 1).toNat)).isSome = true ∧
      sRole.tile.rmCache.find? (fun c => c.region == r && c.ltile == (sRole.rg 2).toNat) = none ∧ sRole.rmLen r ≤ (sRole.rg 3).toNat) ∧
    (sRole.ctx.priv ≠ 0 ∧ bits (sRole.rg 4) 46 18 = 0 ∧ bits (sRole.rg 4) 10 22 = 0 ∧ bits (sRole.rg 4) 4 4 = 0 ∧ bits (sRole.rg 4) 8 2 ≠ 3 ∧
      bits (sRole.rg 4) 0 4 = 1 ∧ sRole.rmapRefused 0 1 1 = false ∧ sRole.rmapRefused 0 0 1 = true ∧ bits (sRole.rg 5) 0 4 = 0 ∧
      sRole.regionExists 7 = true ∧ sRole.descends r 7 = true ∧ bits (sRole.rg 6) 46 18 ≠ 0) ∧
    (bit (sRole.rg 10) 28 = false ∧ (sRole.rg 8).toNat ≤ 63 ∧ 64 ≤ (sRole.rg 9).toNat ∧ 2 ^ 16 ≤ (sRole.rg 11).toNat) ∧
    BlockAt sRole (seen sRole (sRole.rg 10) 16) (sRole.rg 10) 16 16 (memRead sRole.mem (spPhys 0 0 0 0) 16) ∧
    (sNoticed.notack 1 (List.replicate 64 0)).2 = 0 ∧ (sRole.notack 1 (List.replicate 64 0)).2 = 1 := by
  refine ⟨by decide +kernel, by decide +kernel, by decide, blockAt_sp _ _ 16 16 0 (by decide +kernel), by decide +kernel, by decide +kernel⟩

theorem witness_RoleMapInstructions_table : sRole.tableForm (sRole.rg 10) = true ∧
    (match (sRole.tableWords 64 (sRole.rg 10)).2 with
     | .words ws => ws == List.replicate 64 0
     | _ => false) = true := by decide +kernel

/-- An account of 10 cycles; RESERVE holds 5. g1 to g5 are selectors 1 to 5, g6 = 0x23, g7 = 0x24, g8 = 2^32 - 1, g9 = 2^32, g10 = 4. -/
def sAcct (p : BitVec 2) : State :=
  { sMsg p [(1, 1), (2, 2), (3, 3), (4, 4), (5, 5), (6, 0x23), (7, 0x24), (8, 0xFFFFFFFF), (9, 0x100000000)] with
    regions := [(0, { id := 0, rmLen := 2, rmCap := 2, reserve := 0x7000000000001000 })]
    mem := memWrite [] 0x1000 [5]
    tiles := [(0, { accounts := [{ region := 0, ltile := 0, cycLeft := 10, wdCount := 3 }] })] }

theorem witness_BudgetsAndCounters :
    let s := sAcct 1
    (s.ctx.priv ≠ 0 ∧ (sAcct 0).ctx.priv = 0 ∧ s.rg 4 = 4 ∧ 5 ≤ (s.rg 5).toNat ∧ (s.rg 6).toNat = 0x23 ∧ 0x24 ≤ (s.rg 7).toNat) ∧
    ((s.rg 2).toNat ≤ 2 ∧ (s.rg 8).toNat < 2 ^ 32 ∧ s.atOnce s.cur = true ∧ (s.regionAt s.ctx.region).reserve ≠ 0 ∧ (s.regionAt s.ctx.region).trace = false ∧
      (s.readWord (globalPhys (s.regionAt s.ctx.region).reserve)).toNat = 5 ∧ 3 ≤ (s.rg 3).toNat ∧ 2 ^ 32 ≤ (s.rg 9).toNat) ∧
    ((sRole.regionAt 0).reserve = 0 ∧ sRole.atOnce sRole.cur = true) ∧
    acctOf s.tile.accounts s.ctx.region s.ctx.ltile = some { region := 0, ltile := 0, cycLeft := 10, wdCount := 3 } := by decide +kernel

/-- No gang on the site; `ops` is the engine's queue. g1 a drain's destination, g2 no role address, g3 one through window 10. -/
def sMx (ops : List MxOp) : State :=
  { sMsg 0 [(1, 0xFFFC00000000FC00), (2, 0x10000), (3, 0xFFFC00000A000000)] with tiles := [(0, { mx := { ops := ops } })] }

/-- An operation of the engine's queue. -/
def mxOp (n : Nat) (st : WorkState) : MxOp := { num := n, kind := .mgo, panel := 0, st := st }

theorem witness_MatrixInstructions :
    let s := sMx []
    let full := sMx ((List.range 4).map fun n => mxOp n .queued)
    let run := sMx [mxOp 0 .running]
    let g := sGang fun _ => none
    let last := sGang fun k => if k = 0 then none else some (.mgo 0 0 1)
    let stop := sMx [mxOp 0 .paused]
    let drain := sMx [{ mxOp 0 .paused with kind := .mdrain }]
    let out : State := { s with tiles := [(0, { gangLive := some (0, 1, 255) })] }
    (s.isMember s.siteNo s.cur = true ∧ s.panelBusy s.siteNo = false ∧ (s.mx s.siteNo).region = s.ctx.region ∧ (s.mx s.siteNo).paused = false ∧
      (s.mx s.siteNo).busy = false ∧ (run.mx run.siteNo).busy = true ∧ (run.mx run.siteNo).paused = false ∧ 7 ≤ (7 : BitVec 9).toNat ∧
      (s.mx s.siteNo).qlen < 4 ∧ (full.mx full.siteNo).qlen = 4 ∧ s.tileBusy s.cur = false ∧
      (stop.mx stop.siteNo).paused = true ∧ (stop.mx stop.siteNo).pausedOp stop.ctx = some (mxOp 0 .paused) ∧
      (drain.mx drain.siteNo).paused = true ∧ (drain.mx drain.siteNo).pausedOp drain.ctx = none) ∧
    (classOf (s.rg 1) = .role ∧ bit (s.rg 1) 28 = false ∧ bits (s.rg 1) 0 24 % 64 = 0 ∧ bits (s.rg 1) 24 4 = 0 ∧
      bits (s.rg 1) 0 24 + 1024 ≤ 0x10000 ∧ classOf (s.rg 2) ≠ .role) ∧
    (bits (s.rg 3) 24 4 = 10 ∧ fmtDrm (s.mx s.siteNo).fmt ≤ 5 ∧
      winByte (bits (s.rg 3) 24 4) (bits (s.rg 3) 0 24) + 256 * winBits (bits (s.rg 3) 24 4) / 8 ≤ 0x10000) ∧
    ((s.mx s.siteNo).pbusy = 0 ∧ (s.mx s.siteNo).qlen = 0 ∧ (s.mx s.siteNo).pending = false ∧ (run.mx run.siteNo).pending = true) ∧
    out.isMember out.siteNo out.cur = false ∧ s.ctx.gang = false ∧ (g.ctx.gang = true ∧ g.absentMask g.siteNo = 0) ∧
    (let u := last.setCtx { last.ctx with st := .stalled, wait := some (.mgo 0 0 1, last.grp), stallAt := last.time }
     ∀ k, k < 8 → (u.member last.siteNo k).any (fun c => (u.ctxAt c).atLine) = true) := by decide +kernel

/-- The copy unit of a site, its record `l`, its jobs. g1 = 1 is a ticket. -/
def sCp (l : Tab Word) (jobs : List CpJob) : State := { sMsg 0 [(1, 1)] with tiles := [(0, { cp := { l := l, jobs := jobs } })] }

/-- A record of one byte. -/
def oneByte : Tab Word := [(2, 0x0001000100010001), (6, 0x0001000100010001)]

theorem witness_CopyUnitInstructions :
    let rec_ (s : State) := (List.range 12).map fun k => tget (s.cp s.siteNo).l k 0
    let s := sCp oneByte []
    let j (st : WorkState) (c e : Bool) : CpJob := { ticket := 1, layout := [], st := st, cancel := c, ended := e }
    ((s.cp s.siteNo).region = s.ctx.region ∧ (0x10 ≤ (0x1B : BitVec 9).toNat ∧ (0x1B : BitVec 9).toNat < 0x1C) ∧ 0x1D < (0x1E : BitVec 9).toNat ∧
      (0xF : BitVec 9).toNat < 0x10) ∧
    let busy := sCp oneByte ((List.range 8).map fun n => { j .queued false false with ticket := n })
    8 ≤ (busy.cp busy.siteNo).qlen ∧ s.tileBusy s.cur = false ∧
    ((s.cp s.siteNo).qlen < 8 ∧ recCheck (rec_ s) = none ∧ recCheck (rec_ (sCp [] [])) = some (2, 0)) ∧
    s.job 0 (bits (s.rg 1) 0 16) = none ∧ (sCp [] [j .queued false false]).job 0 1 = some (j .queued false false) ∧
    (sCp [] [j .running false false]).job 0 1 = some (j .running false false) ∧ (sCp [] [j .running true false]).job 0 1 = some (j .running true false) := by
  decide +kernel

/-- Buffer `h` is `b` and ring `r` is `x`. Registers: g1 = 63 the handle, g2 = 64 none, g3 = 15, g4 = 2, g5 = 7 the ring, g6 an image for
BMARK.DEFINE of 64 bytes at 0xFFC0, g7 a ring of the two buffers 63 and 0 from core 0 to core 7, g8 no ring, g9 = 3, g10 = 1. -/
def sBuf (b : List (Nat × Buf)) (x : Ring) : State :=
  { sMsg 0 [(1, 63), (2, 64), (3, 15), (4, 2), (5, 7), (6, 0x2000FFC0), (7, 0xE00BF), (9, 3), (10, 1)] with
    tiles := [(0, { tabs := [(0, { buf := b, rings := [(7, x)] })] })] }

theorem witness_BufferAndRingInstructions :
    let own : Buf := { valid := true, holder := 0, size := 1 }
    let s := sBuf [(63, own)] {}
    let free := sBuf [(63, { valid := true })] {}
    let other := sBuf [(63, { own with holder := 1 })] {}
    let none_ := sBuf [] {}
    let ring := sBuf [(0, { own with inring := true }), (63, { own with inring := true })] { first := 63, count := 2, filled := 1 }
    let full := sBuf [] { first := 63, count := 2, filled := 2 }
    let two := sBuf [(0, own), (63, own)] {}
    ((s.rg 1).toNat < 64 ∧ (s.myTabs.bufAt 63).valid = true ∧ (s.myTabs.bufAt 63).holder.toNat = s.coreNo % 8 ∧ (s.myTabs.bufAt 63).inring = false ∧
      (s.rg 3).toNat = 15 ∧ s.fenceWaits 3 1 = false ∧ (s.rg 9).toNat ≤ 3 ∧ (s.rg 4).toNat = 2 ∧ 64 ≤ (s.rg 2).toNat) ∧
    ((free.myTabs.bufAt 63).holder = 15 ∧ (other.myTabs.bufAt 63).holder.toNat ≠ other.coreNo % 8) ∧
    ((none_.myTabs.bufAt 63).valid = false ∧ (defineOf (s.rg 6)).isSome = true ∧
      (defineOf (s.rg 6)).all (fun f => (none_.myTabs.bufOver f.space.toNat f.core.toNat f.base.toNat (64 * f.size.toNat)).isNone) = true) ∧
    (1 : BitVec 4).getLsbD (s.myTabs.bufAt 63).state.toNat = true ∧
    ((ring.rg 5).toNat ≤ 7 ∧ (ring.rg 10).toNat ≠ 0 ∧ (ring.rg 10).toNat ≤ (ring.ring 7).filled ∧
      (ring.rg 10).toNat ≤ (ring.ring 7).count - (ring.ring 7).filled ∧ (ring.ring 7).cons.toNat = ring.coreNo % 8 ∧
      (ring.ring 7).prod.toNat = ring.coreNo % 8 ∧ (full.rg 4).toNat ≤ (full.ring 7).filled ∧ (full.ring 7).count < (full.rg 9).toNat) ∧
    (bits (two.rg 7) 21 43 = 0 ∧ bits (two.rg 7) 6 7 = 2 ∧ bits (two.rg 7) 13 4 = 0 ∧ bits (two.rg 7) 17 4 = 7 ∧ (two.ring 7).count = 0 ∧
      bits (two.rg 8) 6 7 = 0 ∧ ∀ i, i < bits (two.rg 7) 6 7 → (two.myTabs.bufAt ((bits (two.rg 7) 0 6 + i) % 64)).valid = true ∧
        (two.myTabs.bufAt ((bits (two.rg 7) 0 6 + i) % 64)).inring = false ∧ (two.myTabs.bufAt ((bits (two.rg 7) 0 6 + i) % 64)).state = 0 ∧
        (two.myTabs.bufAt ((bits (two.rg 7) 0 6 + i) % 64)).holder.toNat = bits (two.rg 7) 13 4) := by decide +kernel

/-! Packets. -/

/-- Packet 5 under way, context 0 with `x`, and the event in hand acting on it. -/
def sPkt (p : Packet) (x : Ctx := {}) : State :=
  { tile0 0 [] with
    ctxs := [(0, x)]
    tiles := [(0, { st := .compute })]
    net := [{ p with id := 5 }]
    nextPkt := 6
    ev := { x := 5 } }

/-- A write of eight bytes to the last doubleword of the scratchpad of core 0, from context 0. -/
def pWrite : Packet := { id := 5, op := .write, pa := spPhys 0 0 0 0xFFF8, addr := 0xFFFC00000000FFF8, len := 8, data := List.replicate 8 1 }

/-- A context that awaits packet 5 for g31. -/
def awaits (d : Dest) : Ctx := { st := .stalled, pend := [{ pkt := 5, dest := d, pc0 := 0x20000 }] }

theorem witness_AccessesAndTheirResponses :
    let s := sPkt pWrite
    let held := sPkt { pWrite with holdAck := [5] }
    let pAway : Packet := { pWrite with pa := 15 * 2 ^ 44, addr := 0x7000000000000000 }
    let away := sPkt pAway
    let pois : State := { s with poison := [pWrite.pa / 128] }
    let cnt : State := { sPkt { pWrite with arg1 := 5 } with mem := memWrite [] pWrite.pa [5] }
    let resp := sPkt { id := 5, op := .response, dest := .gpr 31 8 false, data := List.replicate 8 1 } (awaits (.gpr 31 8 false))
    let grant := sPkt { id := 5, op := .baddGrant, dest := .badd 31 0, data := List.replicate 8 0 } (awaits (.badd 31 0))
    let post := sPkt { id := 5, op := .errResponse, dest := .drop } { st := .issuing }
    (s.pkt s.ev.x = some pWrite ∧ s.mayGo pWrite = true ∧ pWrite.aclass ≠ some .paged ∧ s.physOk pWrite.pa = true ∧ s.cxlDead pWrite.pa = false ∧ (s.regionAt pWrite.region).trace = false ∧ pWrite.dest = .drop ∧
      s.poison.contains (pWrite.pa / 128) = false ∧ pWrite.win = 0) ∧
    (held.mayGo { pWrite with holdAck := [5] } = false) ∧
    (let d : Packet := { pWrite with pa := 65536, addr := 0x10000 }
     let s : State := { sPkt d with cols := [(0, { demoted := [1] })] }
     s.pkt 5 = some d ∧ s.mayGo d = true ∧ d.aclass = some .paged ∧ s.demotedAt d.pa = true) ∧ Dest.isBadd pWrite.dest = false ∧ (away.mayGo pAway = true ∧ pAway.aclass ≠ some .paged ∧ away.physOk pAway.pa = false) ∧ pois.poison.contains (pWrite.pa / 128) = true ∧
    (cnt.readWord pWrite.pa = 5 ∧ s.readWord pWrite.pa ≠ 5) ∧
    (resp.awaiting 5 = some 0 ∧ resp.ctx.saving = false ∧ (resp.pkt 5).any (fun p => p.op == .response) = true ∧
      ∀ q ∈ accessOf resp.ctx.pend 5, q.pkt = 5) ∧
    (let err := sPkt { id := 5, op := .errResponse, dest := .gpr 31 8 false } (awaits (.gpr 31 8 false))
     let halt := sPkt { id := 5, op := .errResponse, dest := .gpr 31 8 false } { awaits (.gpr 31 8 false) with st := .stopped }
     err.awaiting 5 = some 0 ∧ err.ctx.saving = false ∧ err.ctx.st ≠ .stopped ∧ (err.ctx.pend.any fun q => q.pkt == 5 && q.soft) = false ∧
       halt.awaiting 5 = some 0 ∧ halt.ctx.st = .stopped) ∧
    (let draw : Packet := { pWrite with op := .atomic, dest := .badd 31 0, pa := 65536, addr := 0x7000000000010000 }
     (sPkt draw).drawBad draw.pa = false ∧ ({ sPkt draw with poison := [512] } : State).drawBad draw.pa = true ∧ draw.addr ≠ 0) ∧
    (grant.awaiting 5 = some 0 ∧ (grant.pkt 5).map (·.dest) = some (.badd 31 0)) ∧
    (post.awaiting 5 = none ∧ post.savedAwaiting 5 = none ∧ post.ownerNow 0 none = .live 0 ∧ (post.pkt 5).map (·.agent) = some 0) := by decide +kernel

/-- A delivery for core 0 of site 0, on channel 63 of logical tile 0. -/
def pSend : Packet := { id := 5, op := .send, ch := 63, len := 0 }

/-- The channel area of core 0 is 3 KiB at offset 0, channel 63 is valid and blocked; the site serves logical tile 0. -/
def sPort (p : Packet) (t : Tile) : State :=
  { sPkt p with
    cores := [(0, { chSize := 3 })]
    tiles := [(0, { t with tabs := [(0, { chan := [(63, { valid := true, blocked := true })] })] })] }

/-- A site that logical tile 0 leaves by move `m`. -/
def leaving (phase : Nat) (next : Option Nat) : Tile :=
  { leaving := some { reason := 0, frm := .compute, into := .bullpen, leaveAt := 0, phase := phase, ents := [{ region := 0, ltile := 0, next := next }] } }

/-- A codelet descriptor at offset 0: entry 0x1000, class 1, budget 10. -/
def sReady : State :=
  { sMsg 0 [] [(8, 0x1000), (32, 100000), (40, 0x400000000000000A)] with
    cores := [(0, { ready := [(0xFFFC000000000000, 0, 0)] })]
    tiles := [(0, { accounts := [{ region := 0, ltile := 0, cycLeft := 1000 }] })] }

/-- Twelve words of a one-byte record. -/
def recBytes12 : List Byte := ((List.range 12).map fun k => tget oneByte k 0).flatMap fun w => leBytes 8 w.toNat

theorem witness_PacketsAndDeliveries :
    let serve := sPort pSend { tenants := [{ region := 0, ltile := 0 }] }
    let hold := sPort pWrite { tenants := [{ region := 0, ltile := 0, incoming := true }] }
    let fwd := sPort pSend { leaving := (leaving 3 none).leaving.map fun m => { m with old := [{ region := 0, ltile := 0 }] } }
    let moved := sPort pSend {}
    let noticed : State := { moved with mem := memWrite [] 5 [4], ev := { x := 5, y := 0 } }
    let bad : State := { sPkt pSend with ev := { x := 5, y := 0, val := 1 } }
    let reset := sPort { pWrite with phys := true } { resetting := true }
    (serve.pkt 5 = some pSend ∧ pSend.aim = some 0 ∧ serve.portFate 0 0 0 false false = .serve ∧ hold.portFate 0 0 0 true false = .hold ∧
      fwd.portFate 0 0 0 false false = .forward 0 ∧ moved.portFate 0 0 0 false false = .moved) ∧
    ((moved.rmEntry 0 0).state = 0 ∧ pSend.roleOk (moved.rmEntry 0 0).role = true ∧ (noticed.rmEntry 0 0).state = 1 ∧
      (noticed.rmEntry 0 0).gen = noticed.ev.y ∧ (pSend.isMem && classOf pSend.addr == .paged) = false ∧ pSend.resend = false) ∧
    (beatBad ((bad.header pSend).set bad.ev.y bad.ev.val) = true ∧ beatBad ((bad.header pSend).set 8 0) = false) ∧
    ((reset.pkt 5).map (·.aim) = some none ∧ (reset.tileAt 0).resetting = true) ∧ serve.freedOf 0 = none ∧
    (0 < serve.rmLen 0 ∧ serve.hasSite 0 0 = true ∧ serve.mayGo pSend = true ∧ (serve.coreAt 0).chSize ≠ 0 ∧ (serve.coreAt 0).inbox = [] ∧
      (serve.coreAt 0).slotFree false = some 0 ∧ (serve.chanOf 0 0 0 63).valid = true ∧ (serve.chanOf 0 0 0 63).stage = false ∧
      (serve.chanOf 0 0 0 63).blocked = true) ∧
    (let used (n : Nat) := ((({ serve.coreAt 0 with credits := n } : Core).inbox.filter fun d => d.ctl).length + n)
     used 1 < 2 ∧ 2 ≤ used 2 ∧ ({ creditReqs := List.range 63 } : Core).creditReqs.length < 64 ∧
       64 ≤ ({ creditReqs := List.range 64 } : Core).creditReqs.length) ∧
    ((sReady.coreAt 0).readyHeld = false ∧ (sReady.coreAt 0).ready = [(0xFFFC000000000000, 0, 0)] ∧
      (sReady.codeletOffer 0xFFFC000000000000 0 0).isSome = true ∧
      (sReady.codeletOffer 0xFFFC000000000000 0 0).map (fun o => (sReady.admitTask 0 o).2) = some 0 ∧
      (sReady.codeletOffer 0xFFFC000000000000 0 0).map (fun o => (({ sReady with tiles := [] } : State).admitTask 0 o).2) = some 4 ∧
      (sReady.codeletOffer 0xFFFC000000000000 0 0).map
        (fun o => (({ sReady with cores := [(0, { hold := true })] } : State).admitTask 0 o).2) = some 1) := by decide +kernel

/-! Pipelines. -/

/-- A record of two records of 16 bytes from offset 0 to offset 0x100 of the scratchpad. -/
def twoRows : List Word :=
  [0xFFFC000000000000, 0xFFFC000000000100, 0x0001000100020010, 16, 0, 0, 0x0001000100020010, 16, 0, 0x10000, 0, 0]

/-- A tile-walk job on site 0. -/
def twJob (ticket pipe : Nat) (loader : Bool) : TwJob := { ticket := ticket, loader := loader, pipe := pipe, layout := twoRows }

/-- A TWPOST packet with engine word `w` and payload `bs` at site 0, whose engine has `jobs`. -/
def sTw (w : Word) (bs : List Byte) (jobs : List TwJob) : State :=
  { sPkt { id := 5, op := .twJob, arg1 := w, data := bs } with tiles := [(0, { st := .compute, tw := jobs })] }

/-- The engine of site 0 works on `j`, one permit is there, and event operand z is ticket 9. -/
def sWalk (j : TwJob) : State :=
  { tile0 0 [] with
    tiles := [(0, { st := .compute, tw := [j], permits := [(j.pipe, 1)] })]
    ev := { z := 9 } }

/-- Channel 63 of core 0 is a stage in `mode` whose next stage is channel 1 of core 1; delivery `x` waits there. -/
def sStage (mode : Nat) (x : Delivery) (pay : List (Nat × Nat)) : State :=
  { tile0 0 [] with
    mem := mapMem (pay ++ [(0x8000, 2 ^ 48 + mode * 2 ^ 38), (0x8008, 2 ^ 29 + 2 ^ 10), (0x8010, 0x1000), (0x8020, 100000 * 2 ^ 32 + 10)])
    cores := [(0, { chSize := 3, inbox := [x] })]
    tiles := [(0, { st := .compute, accounts := [{ region := 0, ltile := 0, cycLeft := 1000 }],
                    tabs := [(0, { chan := [(63, { valid := true, stage := true, cls := 1, handler := 0xFFFC000000008000 })] })] })]
    ev := { x := 0, y := 63, z := 0, w := 0 } }

/-- A waiting record of `kind` (1 DATA, 2 SPLICE, 3 ABORT) with sequence number `seq` and `n` bytes of payload. -/
def waitRec (kind seq n : Nat) : Delivery :=
  { slot := 0, channel := 63, order := 0, record := kind, arg1 := mkWord [(48, 1), (38, kind - 1)], arg2 := mkWord [(32, seq)], len := 16 + n }

/-- The payload of a SPLICE that replaces the handler of the stage `target`. -/
def splicePay (target : Nat) : List (Nat × Nat) :=
  [(16, 3 * 2 ^ 56), (24, target), (48, 0x2000)]

theorem witness_PipelinesAndTileWalkJobs :
    let job := sTw 0x10000 recBytes12 []
    let bad := sTw 0 [] []
    let perm := sTw 0x10001 [] [twJob 1 1 true, twJob 2 1 false]
    let p : Packet := { id := 5, op := .twJob, arg1 := 0x10000, data := recBytes12 }
    (job.pkt 5 = some p ∧ job.mayGo p = true ∧ (job.rmEntry 0 0).state ≠ 2 ∧ (job.rmEntry 0 0).state ≠ 3 ∧ (job.rmEntry 0 0).site = p.dst ∧
      twCheck ((List.range 12).map (blockWord recBytes12)) true = none ∧ ((job.tileAt 0).tw.filter fun j => j.st == .queued && !j.ended).length < 8 ∧
      twCheck ((List.range 12).map (blockWord [])) false = some (2, 0) ∧ (bad.pkt 5).isSome = true) ∧
    ((perm.tileAt 0).tw.map (·.ticket)).Nodup ∧ (∃ j ∈ (perm.tileAt 0).tw, j.pipe = 1 ∧ j.region = 0 ∧ j.ended = false) ∧
    (let e := sWalk { twJob 9 1 true with ended := true }
     let j : TwJob := { twJob 9 1 true with ended := true }
     ((e.tileAt 0).tw.find? fun y => y.ticket == e.ev.z && y.ended && y.st != .paused) = some j ∧
       (e.putCword (j.walker 0) j.layout (completion j.count j.ticket j.cause.toNat j.status)).2 = some none) ∧
    (let w := sWalk (twJob 9 0 false)
     let j := twJob 9 0 false
     (w.tileAt 0).twCurrent = some j ∧ j.ticket = w.ev.z ∧ j.st ≠ .paused ∧ j.halted = false ∧
       (w.walkElems (j.walker 0) j.layout walkChunk { pos := j.pos, count := j.count, flags := 0 }).2.2 = .more) ∧
    (let w := sWalk (twJob 9 1 true)
     let j := twJob 9 1 true
     (w.tileAt 0).twCurrent = some j ∧ tget (w.tileAt 0).permits 1 0 ≠ 0 ∧
       (match (w.loadSlice (j.walker 0) j.layout (recPer j.layout) 0).2 with
        | .ok x => x = 0
        | .error _ => False) ∧
       bits j.head 32 14 < w.rmLen j.region ∧ w.hasSite j.region (bits j.head 32 14) = true ∧ j.gen < 256 ∧ recBytes j.layout ≤ 1008) ∧
    (let j : TwJob := { twJob 9 1 false with recs := [(0, 0, List.replicate 16 7, 0)] }
     let w := sWalk j
     (w.tileAt 0).twCurrent = some j ∧ j.pick = some (0, 0, List.replicate 16 7, 0) ∧ bits (0 : Word) 38 2 = 0 ∧ j.seq + 1 < recRecords j.layout ∧
       (match (w.storeSlice (j.walker 0) j.layout (List.replicate 16 7) 0 (recPer j.layout) 0 0).2 with
        | .ok x => x = 16
        | .error _ => False)) := by
  refine ⟨by decide +kernel, by decide +kernel, ⟨twJob 1 1 true, by decide +kernel⟩, by decide +kernel, by decide +kernel, ?_, ?_⟩
  · exact ⟨by decide +kernel, by decide +kernel, by rfl, by decide +kernel⟩
  · exact ⟨by decide +kernel, by decide +kernel, by decide +kernel, by decide +kernel, by rfl⟩

theorem witness_PipelinesAndTileWalkJobs_stages :
    let d := sStage 0 (waitRec 1 1 8) []
    let pass := sStage 1 (waitRec 1 1 8) []
    let ab := sStage 0 (waitRec 3 0 0) []
    let other := sStage 0 (waitRec 2 0 40) (splicePay 0)
    let mine := sStage 0 (waitRec 2 0 40) (splicePay (63 * 2 ^ 10))
    let g := d.evStage
    (d.stPick g = some (waitRec 1 1 8) ∧ d.stageOff g = none ∧ (d.stDesc g).mode = 0 ∧
      (d.admitRecord 0 (d.recordOffer g (d.stDesc g) (waitRec 1 1 8) (waitRec 1 1 8).arg1)).2 = 0) ∧
    (pass.stPick g = some (waitRec 1 1 8) ∧ pass.stageOff g = none ∧ (pass.stDesc g).mode = 1 ∧ bits (pass.stDesc g).w1 32 14 < pass.rmLen 0 ∧
      pass.hasSite 0 (bits (pass.stDesc g).w1 32 14) = true ∧
      (pass.putStage ((pass.stDesc g).setLast 1)).rmEntry 0 0 = pass.rmEntry 0 0) ∧
    (ab.stPick g = some (waitRec 3 0 0) ∧ ab.stageOff g = none) ∧
    (other.stPick g = some (waitRec 2 0 40) ∧ g.named (spliceOf (other.recPayload 0 (waitRec 2 0 40))).target = false ∧
      (other.putStage ((other.stDesc g).setGen 1)).rmEntry 0 0 = other.rmEntry 0 0) ∧
    (mine.stPick g = some (waitRec 2 0 40) ∧ g.named (spliceOf (mine.recPayload 0 (waitRec 2 0 40))).target = true ∧
      mine.spliceBad g.region (spliceOf (mine.recPayload 0 (waitRec 2 0 40))) (mine.stDesc g) = false ∧ (spliceOf (mine.recPayload 0 (waitRec 2 0 40))).action = 3 ∧
      (mine.putStage { (mine.stDesc g).setGen 1 with handler := 0x2000 }).rmEntry 0 0 = mine.rmEntry 0 0) := by decide +kernel

/-! Engine work and dispatch. -/

/-- An F16 operation of two groups on panel 0, whose operands lie in the panel store. -/
def mxRun (row : Nat) : MxOp :=
  { num := 0, kind := .mgo, panel := 0, abase := 0xFFFC000010000000, astride := 16, bbase := 0xFFFC000010001000, bstride := 16, k := 8, row := row, st := .running }

/-- Site 0 with engine `m` and copy unit `c`; event operand y is 0. -/
def sEng (m : Mx) (c : Cp) (saves : List (Nat × Mx) := []) : State :=
  { tile0 0 [] with tiles := [(0, { st := .compute, mx := m, cp := c, gangSaves := saves })] }

/-- Both operand sets of a group can be read. -/
def fetchOk (r : State × Fetched × Fetched) : Bool := match r.2 with
  | (.vals _, .vals _) => true
  | _ => false

/-- A copy job of 32 bytes with ticket 1. -/
def cpJob (st : WorkState) (cancel ended : Bool) : CpJob := { ticket := 1, layout := twoRows, st := st, cancel := cancel, ended := ended }

theorem witness_EngineWorkSteps :
    let j := sGang fun _ => some (.mgo 0 0 1)
    let dif := sGang fun k => some (if k = 7 then .mgot 0 0 1 else .mgo 0 0 1)
    let q := sEng { ops := [mxOp 0 .queued] } {}
    let r0 := sEng { ops := [mxRun 0] } {}
    let r1 := sEng { ops := [mxRun 1] } {}
    let fin : MxOp := { mxRun 1 with consumed := true, final := List.replicate 256 1 }
    let saved := sEng {} {} [(0, { abase := 5 })]
    (((j.joined 0).head?.map (·.ctx)) = some 0 ∧ j.mxMismatch (j.joined 0) = 0 ∧ j.panelBusy 0 = false ∧ j.tilePending (j.joined 0) = false ∧
      (j.mx 0).region = (j.ctxAt 0).region ∧ (j.mx 0).qlen < 4 ∧ pairOk false (j.mx 0).fmt = true ∧ (j.mx 0).k.toNat ≤ 2 ^ 20 ∧ (j.mx 0).badBase = none ∧
      dif.mxMismatch (dif.joined 0) = 128) ∧
    (pairOk false ({ j.mx 0 with fmt := 0xF } : Mx).fmt = false ∧ ({ j.mx 0 with abase := 1 } : Mx).badBase = some 1) ∧
    (({ mxRun 0 with k := 0 } : MxOp).groups = 0 ∧ ({ mxRun 2 with consumed := true } : MxOp).groups ≤ 2) ∧
    (startable [] (q.mx 0).ops = some (mxOp 0 .queued) ∧ r0.op 0 r0.ev.y = some (mxRun 0) ∧ (mxRun 0).goes = true ∧ (mxRun 0).hasRow = true ∧ (mxRun 0).consumed = false ∧
      (mxRun 0).row + 1 < (mxRun 0).groups ∧ (mxRun 1).row + 1 = (mxRun 1).groups ∧ fetchOk (r0.mxFetch 0 (mxRun 0) (groupKs (mxRun 0) 0)) = true ∧
      fetchOk (r1.mxFetch 0 (mxRun 1) (groupKs (mxRun 1) 1)) = true) ∧
    (fin.consumed = true ∧ fin.row < fin.groups ∧ fin.final.length = 256 ∧ fin.panel < 4) ∧
    (((r0.tile.mx.ops.filter (r0.ofGang 0 0 0)).any fun o => o.kind == .mdrain && o.st == .running) = false ∧ saved.saveDue 0 0 = false ∧
      saved.tile.mx.ops = [] ∧
      (saved.tile.gangSaves.find? fun g => g.1 == saved.ev.w) = some (0, { abase := 5 })) ∧
    (let z : State := { sEng {} {} with ev := { y := 1 } }
     z.ev.flag = false ∧ z.tile.mx.region ≠ BitVec.ofNat 64 z.ev.y ∧ z.tile.mx.ops = [] ∧ (z.tile.cp.jobs.any fun j => !j.ended) = false) ∧
    (let w : Walker := { site := 0, region := 0, ltile := 0, holder := 8, agent := 2, src := 0 }
     let s (jb : CpJob) : State := { sEng {} { jobs := [jb] } with ev := { y := 1 } }
     ((s (cpJob .running false false)).cp 0).running = some (cpJob .running false false) ∧
     (((s (cpJob .queued false false)).cp 0).running = none ∧ ((s (cpJob .queued false false)).cp 0).jobs.head? = some (cpJob .queued false false) ∧
      (((s (cpJob .queued false false)).cp 0).jobs.any fun j => j.ended) = false) ∧
     ((s (cpJob .queued false false)).walkElems w twoRows walkChunk { pos := 0, count := 0, flags := 0 }).2.2 = .more ∧
     ((s (cpJob .running true false)).cp 0).running = some (cpJob .running true false) ∧
     ((s (cpJob .running false true)).job 0 1 = some (cpJob .running false true) ∧ (cpJob .running false true).st ≠ .paused ∧
       ((s (cpJob .running false true)).putCword w twoRows (completion 0 1 0 0)).2 = some none)) := by decide +kernel

/-- A drain of panel 0 to the scratchpad goes through. -/
theorem witness_EngineWorkSteps_drain :
    let o : MxOp := { num := 0, kind := .mdrain, panel := 0, dest := 0xFFFC00000000FC00, st := .running, wake := true }
    let s := sEng { ops := [o] } {}
    s.op 0 s.ev.y = some o ∧ o.goes = true ∧
    (s.drainFrom 0 o (drainWho 0 o) (bit (s.mx 0).typ 0) 256 0).2 = (none, false) := by decide +kernel

/-- A run-queue entry of core 0 in slot 0. -/
def entry (cls : BitVec 2) (st : RqState) (gang : Bool) : RqEntry :=
  { slot := 0, entry := 0x20000, cls := cls, st := st, gang := gang, started := st == .saved, save := 0x7000000000004000,
    undecided := true, deadline := if cls = 2 then BitVec.allOnes 64 else 1000 }

/-- Core 0 has the queue `q` and the contexts `c`. -/
def sCore (q : List RqEntry) (c : List Ctx) : State :=
  { tile0 0 [] with
    ctxs := c.zipIdx.map fun p => (p.2, p.1)
    cores := [(0, { rq := q })] }

/-- A context that runs the entry in slot `n`. -/
def running (n : Nat) (cls : BitVec 2) (dl : Word) : Ctx := { st := .issuing, slot := some n, cls := cls, deadline := dl }

/-- Four running contexts of class `cls` and deadline `dl`. -/
def busy (cls : BitVec 2) (dl : Word) : List Ctx := (rangeFrom 1 4).map fun n => running n cls dl

theorem witness_DispatchAndStops :
    let new := sCore [entry 1 .queued false] []
    let old := sCore [entry 1 .saved false] []
    let gang := sCore [entry 2 .queued true] []
    let stop := sCore [entry 1 .queued false] (({ running 1 2 0 with st := .stopped } : Ctx) :: (rangeFrom 2 3).map fun n => running n 0 0)
    let later := sCore [entry 1 .queued false] (busy 1 1001)
    let sooner := sCore [entry 1 .queued false] (busy 1 1000)
    let best := sCore [entry 2 .queued false] (busy 2 0)
    (new.firstEntry 0 = some (entry 1 .queued false) ∧ new.freeCtx 0 = some 0 ∧ (entry 1 .queued false).started = false ∧
      old.firstEntry 0 = some (entry 1 .saved false) ∧ old.freeCtx 0 = some 0 ∧ (entry 1 .saved false).started = true ∧
      gang.firstEntry 0 = some (entry 2 .queued true) ∧ gang.freeCtx 0 = some 0 ∧ (sCore [] []).firstEntry 0 = none ∧ (sCore [] []).freeCtx 0 = some 0) ∧
    (stop.freeCtx 0 = none ∧ ((rangeFrom 0 4).find? fun c => (stop.ctxAt c).st == .stopped && (stop.ctxAt c).slot.isSome && !stop.claimed c) = some 0) ∧
    (later.freeCtx 0 = none ∧ later.firstEntry 0 = some (entry 1 .queued false) ∧ later.victim 0 = some 0 ∧ (later.ctxAt 0).gang = false ∧
      later.claimed 0 = false ∧ ((rangeFrom 0 4).find? fun c => (later.ctxAt c).st == .stopped && (later.ctxAt c).slot.isSome && !later.claimed c) = none ∧
      inKeyOrder ((later.coreAt 0).rq.filter (later.toDecide 0)) = [entry 1 .queued false] ∧ preempts (entry 1 .queued false) (later.ctxAt 0) = true) ∧
    (sooner.freeCtx 0 = none ∧ sooner.victim 0 = some 0 ∧ preempts (entry 1 .queued false) (sooner.ctxAt 0) = false) ∧
    (best.freeCtx 0 = none ∧ best.victim 0 = some 0 ∧ preempts (entry 2 .queued false) (best.ctxAt 0) = false) ∧
    (let all : State := { gang with tiles := [(0, { gangHold := [(0, 0)] })] }
     let none_ : State := { sCore [] [] with tiles := [(0, { gangHold := [(0, 0)] })] }
     (gang.tileAt 0).gangHold = [] ∧ none_.firstGang 0 = none ∧ (all.tileAt 0).gangLive = none ∧ tfind (all.tileAt 0).gangHold 0 = some 0 ∧ coreOfCtx 0 = 0 ∧
     let some_ : State := { all with cores := [(0, { rq := [entry 2 .queued true] }), (1, { rq := [entry 2 .queued true] })] }
     all.firstGang 0 = some (entry 2 .queued true) ∧ ((all.gangEntries 0 0).all fun p => thas (all.tileAt 0).gangHold (p.1 % 8)) = true ∧
       some_.firstGang 0 = some (entry 2 .queued true) ∧ ((some_.gangEntries 0 0).all fun p => thas (some_.tileAt 0).gangHold (p.1 % 8)) = false) := by decide +kernel

theorem witness_DispatchAndStops_stops :
    let later := sCore [entry 1 .queued false] (busy 1 1001)
    ((later.ctxAt 0).st ≠ .free ∧ (later.ctxAt 0).saving = false ∧ (later.ctxAt 0).st ≠ .stopped ∧ (later.ctxAt 0).slot ≠ none ∧
      ({ ev := { y := 1 } } : State).ev.y = 1 ∧ later.ev.y ≠ 1) ∧
    (let p : State := { sGang fun _ => none with tiles := [(0, { gangLive := some (0, 0, 255), gangNow := 5 })] }
     let out := sCore [] [{ st := .issuing }]
     let sav := sCore [] [{ running 0 1 0 with saving := true }]
     let stp := sCore [] [{ running 0 1 0 with st := .stopped }]
     (p.ctxAt 0).gang = true ∧ ((p.tileAt 0).gangSaves.any fun q => q.1 == 5) = false ∧ (out.ctxAt 0).slot = none ∧ (out.ctxAt 0).st ≠ .free ∧
       (sav.ctxAt 0).saving = true ∧ (stp.ctxAt 0).st = .stopped ∧ (stp.ctxAt 0).slot.bind (stp.entryAt 0) = none) ∧
    (let sv := sCore [entry 1 .running false] [{ running 0 1 1000 with saving := true, dirty := 1 }]
     (sv.ctxAt 0).slot.bind (sv.entryAt 0) = some (entry 1 .running false) ∧ (sv.ctxAt 0).saving = true ∧ bit (sv.ctxAt 0).dirty 0 = true ∧
       bit (sv.ctxAt 0).dirty 1 = false) := by decide +kernel

theorem witness_DispatchAndStops_accounts :
    (let a : Account := { region := 0, ltile := 0, start := 0 }
     let s : State := { tile0 0 [] with time := 1000, regions := [(0, { id := 0, rmLen := 1, period := 1, cycQuota := 7 })], tiles := [(0, { accounts := [a] })] }
     acctOf s.tile.accounts 0 1 = none ∧ ((s.regionAt 0).periodOf = 0 ∨ ({ a with start := 1000 } : Account).start = s.time / 1000 * 1000) ∧
     acctOf s.tile.accounts 0 0 = some a ∧ (s.regionAt 0).periodOf = 1000 ∧ a.start ≠ s.time / (s.regionAt 0).periodOf * (s.regionAt 0).periodOf ∧
       bits (s.regionAt 0).supDest 32 14 < s.rmLen (s.regionAt 0).supOf) ∧
    (let a : Account := { region := 0, ltile := 0, engLeft := 0 }
     let s : State := { sEng { ops := [mxRun 0] } { jobs := [cpJob .running false false] } with ctxs := [(0, { st := .issuing })] }
     let s : State := s.setTileAt 0 { s.tile with accounts := [a] }
     let gone : State := { s with ctxs := [] }
     ({ a with engLeft := 1 } : Account).engLeft ≠ 0 ∧ gone.ownerNow (mxRun 0).ctx (some 7) = .gone ∧ (mxRun 0).st = .running ∧
       (cpJob .running false false).st = .running ∧
     acctOf s.tile.accounts 0 0 = some a ∧ ((s.mx 0).ops.map (·.num)).Nodup ∧ ((s.cp 0).jobs.map (·.ticket)).Nodup ∧
       s.ownerNow (mxRun 0).ctx (mxRun 0).owner = .live 0) := by decide +kernel

/-- Domain `d` is in state `st` on every column, and core 0 owes a record; `x` is context 0. -/
def sDom (st : BitVec 2) (x : Ctx) (owed : List Nat) : State :=
  { tile0 0 [] with
    ctxs := [(0, x)]
    cols := columns.map fun c => (c, { dstat := [(0, { seq := 3, st := st })] })
    owed := [(0, owed)]
    regions := [(0, { id := 0, rmLen := 1, stopBase := 0x7000000000008000 })] }

/-- A walk of `page` whose leaf has word 1 `w1`: the tables of `withFetchWord`. -/
def sLeaf (w1 : Nat) : State := (State.reset.withFetchWord 32 4).writeNat 0x10008 8 w1

/-- The walk ends at a leaf of which `f` holds. -/
def leafIs (f : Nat → Nat → Nat → Bool) (w : Walk) : Bool := match w with
  | .leaf l w0 w1 => f l w0 w1
  | _ => false

theorem witness_WalksAndTheWhistleTree :
    let w := sLeaf 0x88F
    let mv := sLeaf 0xC8F
    let none_ : State := { w with mem := [] }
    (({ w with tiles := [(0, { misses := [(0, 2)] })] } : State).tileAt 0).missing 0 0x20000 = true ∧
    ((w.tileAt 0).missing 0 0x20000 = false ∧ (w.tileAt 0).misses.length < 32 ∧ ((w.colAt 0).walks.any fun q => q.2.1 == 0 && q.2.2 == 2) = false ∧
      (w.colAt 0).walkKeys.length < 256 ∧ (w.agenda.any fun p => isWalkOf 0 0 2 p.2.1 p.2.2) = false) ∧
    leafIs (fun l w0 w1 => nbits w1 10 1 == 0 && frameOk l w0 2) (w.walkAt 0 0 0x20000).2.1 = true ∧
    leafIs (fun _ _ w1 => nbits w1 10 1 == 1) (mv.walkAt 0 0 0x20000).2.1 = true ∧
    ((none_.walkAt 0 0 0x20000).2.1 = .bad cPAGE) ∧
    leafIs (fun l w0 w1 => nbits w1 10 1 == 0 && !frameOk l w0 2) ((w.writeNat 0x10000 8 (2 * 2 ^ 60 + 1)).walkAt 0 0 0x20000).2.1 = true ∧
    (({ w with cols := [(0, { dramHeld := true })] } : State).walkAt 0 0 0x20000).2.1 = .held := by decide +kernel

theorem witness_WalksAndTheWhistleTree_domains :
    let run := sDom 0 { st := .issuing } []
    let lost : State := { run with launches := [(0, { words := [], parent := 0, coord := 1, me := 0, share := 1, mods := 2, phase := 1 })] }
    let soon := sDom 1 { st := .issuing } [0]
    let ready := sDom 1 { st := .stopped } [0]
    let more := sDom 1 { st := .stopped } [0, 1]
    let off := sDom 2 { st := .stopped } []
    let back : State := { sDom 3 { st := .stopped } [] with ev := { flag := true } }
    ((tget (run.colAt 0).dstat 0 {}).st = 0 ∧ (tget (off.colAt 0).dstat 0 {}).st = 2 ∧ (tget (soon.colAt 0).dstat 0 {}).st ≠ 2) ∧
    (lost.fdomOf 0 = 0 ∧ lost.launches.any (fun p => p.2.region == 0 && p.2.phase == 1 && p.2.coord != lost.module) = true ∧ ∀ c, c < 9 → lost.moduleUp c 1 = false) ∧
    (0 ∈ tget soon.owed 0 [] ∧ (soon.ctxAt 0).st = .issuing ∧ soon.fdomOf 0 = 0) ∧
    ((∀ i, i < 4 → (ready.ctxAt i).st = .free ∨ ((ready.ctxAt i).st = .stopped ∧ (ready.ctxAt i).saving = false)) ∧
      (∀ i ∈ tget ready.owed 0 [], i = 0) ∧ (ready.stopRegion 0 0).isSome = true) ∧
    (1 ∈ tget more.owed 0 [] ∧ off.ev.flag = false ∧ back.ev.flag = true ∧ (tget (back.colAt 0).dstat 0 {}).st = 3 ∧ back.domainCtxs 0 = [0]) := by decide +kernel

/-! Memory tiers, moves and leases. -/

/-- The page tables of region 0 map page 4 by a level-0 leaf of word 1 `w1` onto frame `f`; `e` is its tier schedule. -/
def sTier (e : List TierEntry) (f w1 : Nat) : State :=
  let s : State := { tile0 0 [] with
    time := 50
    regions := [(0, { id := 0, tiers := e })]
    cols := [(0, { freeFrames := [3 * 2 ^ 44], backing := [{ frame := 3 * 2 ^ 44, n := 1, back := 4 }] })] }
  ((((((((s.writeNat 0 8 0x10001).writeNat 8 8 0).writeNat 0x10000 8 0x20001).writeNat 0x10008 8 0).writeNat 0x20000 8 0x30001).writeNat
    0x20008 8 0).writeNat 0x30040 8 (65536 * f + 1)).writeNat 0x30048 8 w1)

/-- The schedule entry of page 4: storage tiles of column 0, needed at 100 and held for 10. -/
def tierE (pinned : Bool) (needed : Nat) : TierEntry :=
  { base := 0x40000, len := 1, tier := 1, needed := needed, lead := 50, hold := 10, pinned := pinned }

theorem witness_TierEngineSteps :
    let s := sTier [tierE false 100] 4 0x88F
    let none_ : State := { s with cols := [] }
    let flag : State := { sTier [tierE true 100] 4 0x88F with ev := { flag := true, list := (tierE true 100).key } }
    let pin := sTier [tierE true 39] (3 * 2 ^ 44) 0x84F
    let two : State := pin.setRegion { pin.regionAt 0 with tiers := [tierE true 39, tierE true 40] }
    let moving := sTier [tierE true 100] 4 0xC8F
    let pf : State := (s.setRegion { s.regionAt 0 with pfs := [{ page := 4, tier := 1, column := 0 }] })
    let ev : Ev := { y := 1024, z := 0x40000 }
    ((s.regionAt 0).id = 0 ∧ s.dueEntry (s.regionAt 0) = some 0 ∧ pin.dueEntry (pin.regionAt 0) = none ∧
      (s.leafOf 0 0x40000).map (fun l => (l.frame, l.moving, l.level, l.frames)) = some (4, false, 0, 1) ∧ inTier 1 0 (65536 * 4) = false ∧
      s.findFrames 0 1 1 = some (3 * 2 ^ 44) ∧ none_.findFrames 0 1 1 = none ∧ (moving.leafOf 0 0x40000).map (·.moving) = some true ∧
      (s.leafOf 0 0x50000).isNone = true ∧ 0 < (tierE false 100).len) ∧
    ((flag.regionAt 0).tiers[flag.ev.y]? = some (tierE true 100) ∧ (tierE true 100).usable = true ∧ (tierE true 100).key = flag.ev.list ∧ flag.ev.v < (tierE true 100).len ∧
      flag.ev.y ≠ 1024 ∧ flag.ev.flag = true ∧ (pin.regionAt 0).tiers[1]? = none ∧
      (s.leafOf 0 0x40000).map (fun l => s.tierTurn (s.object l) (.tierFetchStart, fetchEv 0 0 0 (tierE false 100))) = some true) ∧
    (((pf.regionAt 0).pfs.find? fun p => p.page == ev.z / 65536 && p.done.isNone) = some { page := 4, tier := 1, column := 0 } ∧ ev.y = 1024 ∧
      ((s.regionAt 0).pfs.find? fun p => p.page == ev.z / 65536 && p.done.isNone) = none) ∧
    ((pin.regionAt 0).tiers[0]? = some (tierE true 39) ∧ (tierE true 39).pinned = true ∧ (tierE true 39).needed + (tierE true 39).hold < pin.time ∧
      (two.regionAt 0).tiers[1]? = some (tierE true 40) ∧ ¬ (tierE true 40).needed + (tierE true 40).hold < two.time ∧
      inTier 1 0 (65536 * (3 * 2 ^ 44)) = true ∧
      (pin.leafOf 0 0x40000).map (fun l => (l.frame, l.moving)) = some (3 * 2 ^ 44, false) ∧
      pin.backOf (3 * 2 ^ 44) = some { frame := 3 * 2 ^ 44, n := 1, back := 4 } ∧ s.backOf 4 = none ∧
      ((pin.modTier 0 0 fun e => { e with pinned := false }).unpinPf 0 0x40000).pinnedBy 0 0x40000 = false ∧
      (pin.leafOf 0 0x40000).map (fun l => (pin.upQueued (pin.object l), pin.tierTurn (pin.object l) (.tierEvict, {}))) = some (false, true) ∧
      ((two.modTier 0 0 fun e => { e with pinned := false }).unpinPf 0 0x40000).pinnedBy 0 0x40000 = true) ∧
    (entriesOf [0x30040, 65536 * 4 + 1] = [(0x30040, 65536 * 4 + 1)] ∧ s.cxlDead (65536 * 4) = false ∧ s.cxlDead (65536 * (3 * 2 ^ 44)) = false ∧
      s.framesHeld 4 1 = false ∧ s.framesHeld (3 * 2 ^ 44) 1 = false ∧ rawFrame (3 * 2 ^ 44) = 3 * 2 ^ 44 ∧ s.readNat 0x30040 8 = 65536 * 4 + 2 * 0 + 1 ∧ s.readNat 0x30040 8 ≠ 65536 * 4 + 2 * 1 + 1 ∧ memWf s.mem = true ∧ s.busyFrames 4 1 = false ∧
      ({ s with net := [{ pWrite with pa := 65536 * 4 }] } : State).busyFrames 4 1 = true ∧ 0x30040 + 16 ≤ 65536 * (3 * 2 ^ 44) ∧ 3 * 2 ^ 44 < 2 ^ 48) := by
  refine ⟨?_, ?_, ?_, ?_, ?_⟩ <;> decide +kernel

/-- Column 0 with the protection of frame 0 `p`, and what else is needed. -/
def sCol (c : Column) : State := { tile0 0 [] with cols := [(0, c)] }

theorem witness_TierEngineSteps_memory :
    let s (z : Nat) : State := { sCol {} with ev := { x := 0, y := 0, z := z } }
    let busy := sCol { prot := [(0, (0, true))] }
    let all : Column := { prot := (List.range 8).map fun f => (f, (2, false)) }
    let held := sCol { dramHeld := true, dramReq := some 1 }
    let back := sCol { backing := [{ frame := 0, n := 1, back := 2 ^ 46 }] }
    let ref := sCol { backing := [{ frame := 0, n := 1, back := 2 ^ 46 }], refetch := [511] }
    let spare : State := { sCol { rowBusy := [(0, 0)] } with ev := { flag := true } }
    ((s 3).ev.z = 3 ∧ (s 2).ev.z < 3 ∧ (tget ((s 2).colAt 0).prot 0 (0, false)).2 = false ∧ ((s 2).colAt 0).halves 0 0 0 = (false, false) ∧
      (tget (busy.colAt 0).prot 0 (0, false)).2 = true ∧ (busy.colAt 0).dramHeld = false) ∧
    (all.halves 0 0 2 = (true, true) ∧ all.halves 0 0 1 = (true, false) ∧ all.halves 0 0 0 = (false, false)) ∧
    ((held.colAt 0).dramReq = some 1 ∧ back.backBlock 511 = some (512 * 2 ^ 46 + 511) ∧ 511 < 2 ^ 53 ∧ back.backBlock 512 = none ∧
      511 ∉ (back.colAt 0).refetch ∧ 511 ∈ (ref.colAt 0).refetch ∧ (ref.colAt 0).dramHeld = false ∧ 512 * 2 ^ 46 + 511 ∉ ref.poison) ∧
    (back.protect 511 [0, 7] = some false ∧ back.protect 511 [0, 8] = none ∧ back.protect (512 * 1572864) [0] = some true ∧
      (sCol { prot := [(0, (1, false))] }).protect 511 [3] = some false ∧ (sCol { prot := [(0, (1, false))] }).protect 511 [3, 4] = none ∧
      ([0, 7] : List Nat).Nodup) ∧
    (let cl := ({ sCol { prot := (List.range 8).map fun f => (f, (2, false)), backing := [] } with ev := {} } : State)
     (cl.colAt 0).halves 0 0 2 = (true, true) ∧ cl.mapsInto (cl.gleanAddr 0 0) 32768 = false) ∧
    (let full := sCol { spares := (List.range 32).map fun i => (0, i + 1) }
     spare.ev.flag = true ∧ back.ev.flag = false ∧ full.ev.flag = false ∧ (0, 0) ∉ (back.colAt 0).spares ∧ ((back.colAt 0).spares.filter fun p => p.1 == 0).length < 32 ∧ (0, 1) ∈ (full.colAt 0).spares ∧
       (0, 0) ∉ (full.colAt 0).spares ∧ ((full.colAt 0).spares.filter fun p => p.1 == 0).length = 32 ∧
       ((back.colAt 0).backing.find? fun b => decide (b.frame ≤ 0) && decide (0 < b.frame + b.n)) = some { frame := 0, n := 1, back := 2 ^ 46 } ∧
       ((full.colAt 0).backing.find? fun b => decide (b.frame ≤ 0) && decide (0 < b.frame + b.n)) = none) := by decide +kernel

/-- Site 0 leaves by a move in phase `p` from `frm` to the bullpen, taking entry 0 of region 0; `x` is context 0. -/
def sMove (p : Nat) (frm : SiteState) (x : Ctx) : State :=
  { tile0 0 [] with
    ctxs := [(0, x)]
    time := 100
    mem := memWrite [] 5 [4]
    tiles := [(0, { st := frm, leaving := some { reason := 0, frm := frm, into := .bullpen, leaveAt := 100, phase := p, ents := [{ region := 0, ltile := 0 }] } })] }

theorem witness_MovesLeasesAndTheCensus_moves :
    let mv (s : State) : Move := ((s.tileAt 0).leaving).getD { reason := 9, frm := .off, into := .off, leaveAt := 0 }
    let s0 := sMove 0 .compute {}
    let r0 := sMove 0 .routing {}
    let run := sMove 1 .compute { st := .issuing, slot := some 0 }
    let idle := sMove 1 .compute {}
    let com : State := { sMove 2 .storage {} with mem := memWrite [] 5 [0x44] }
    ((s0.tileAt 0).leaving = some (mv s0) ∧ (mv s0).phase = 0 ∧ (mv s0).leaveAt ≤ s0.time ∧ (mv s0).frm ≠ .storage ∧ (∀ m ∈ (mv s0).ents, m.region = 0) ∧
      (mv r0).frm = .routing ∧ (mv (sMove 0 .storage {})).frm = .storage ∧ ({} : State).tile.leaving = none ∧ (mv run).phase ≠ 2 ∧ (mv run).phase ≠ 3) ∧
    (let dr : State := { sMove 1 .routing {} with tiles := [(0, { (sMove 1 .routing {}).tileAt 0 with heldPkts := [5] })] }
     (mv dr).frm = .routing ∧ (mv dr).drained = false ∧ (dr.tileAt 0).heldPkts ≠ [] ∧ dr.leavingCtxs 0 (mv dr) = []) ∧
    ((mv run).phase = 1 ∧ run.leavingCtxs 0 (mv run) = [0] ∧ run.claimed 0 = false ∧ (run.ctxAt 0).gang = false) ∧
    (idle.leavingCtxs 0 (mv idle) = [] ∧ idle.panelBusy 0 = false ∧ ∀ m ∈ (mv idle).ents, ∀ k ∈ coresOf 0, idle.entriesOf k m = []) ∧
    ((mv com).phase = 2 ∧ (mv com).ents = [{ region := 0, ltile := 0 }] ∧ (mv com).joins = none ∧ (mv com).into ≠ .off ∧
      (com.rmEntry 0 0).role = 1 ∧ com.time + 64000 < 2 ^ 64 ∧ ((com.tileAt 0).tenants.all fun x => x.region == 0 && x.ltile == 0) = true ∧ (com.regionAt 0).rmAddr 0 + 32 ≤ 2 ^ 60 ∧
      (com.regionAt 0).id = 0) ∧ (mv (sMove 3 .compute {})).phase = 3 ∧ (s0.tileAt 0).st ≠ .off ∧ 0 ∉ (s0.colAt 0).retires ∧
    (∀ k ∈ coresOf 1, (com.coreAt k).inbox = []) ∧ (com.tileAt 1).tenants = [] := by decide +kernel

/-- A request of region 0 for `n` entries from `first` until `expiry`; leases 0 to `live - 1` cover entry 0. -/
def sLease (first n expiry live : Nat) : State :=
  { sPkt { id := 5, op := .lease, arg1 := mkWord [(32, first), (0, n)], arg2 := BitVec.ofNat 64 expiry } with
    time := 10
    mem := (List.range live).foldl (fun m i => memWrite m (0x1000 + 16 * i) (leBytes 8 (2 ^ 63 + 1))) map0
    regions := [(0, { id := 0, rmLen := 2, rmCap := 2, leaseBase := 0x7000000000001000 })] }

theorem witness_MovesLeasesAndTheCensus_leases :
    let code (s : State) : Nat := match s.pkt s.ev.x with
      | some p => (s.leaseDecide p.region p.arg1 p.arg2.toNat).2.1
      | none => 99
    let busy : State := { sLease 0 1 100 0 with mem := memWrite [] 5 [4] }
    code (sLease 0 2 100 0) = 0 ∧ code (sLease 0 3 100 0) = 5 ∧ code (sLease 0 0 100 0) = 5 ∧ code (sLease 0 2 100 1) = 5 ∧
    code (sLease 0 1 10 0) = 4 ∧ code (sLease 0 1 (11 + 2 ^ 32) 0) = 4 ∧ code (sLease 0 1 (10 + 2 ^ 32) 0) = 0 ∧ code (sLease 0 1 100 1) = 1 ∧
    code (sLease 1 1 100 64) = 2 ∧ code busy = 3 := by decide +kernel

theorem witness_MovesLeasesAndTheCensus :
    let l := sLease 0 1 0 1
    let gone : State := { l with ev := { x := 0, y := 0 } }
    let grant : State := { sMsg 0 [] with cols := [(0, { reqs := [{ region := 0, ltile := 1, role := 0, op := 1 }] })] }
    let pool : State := { grant with tiles := (sitesOf 0).map fun t => (t, { st := if t = 5 then .storage else .off }) }
    let late : State := { l with ev := { x := 0, y := 0 }, time := 0 }
    let retire : State := { sMsg 0 [] with cols := [(0, { reqs := [{ region := 0, ltile := 0, role := 0, op := 2 }] })] }
    ((gone.lease 0 0).valid = true ∧ (gone.lease 0 0).expiry.toNat < gone.time ∧ (∀ k, k < 9 → (gone.colAt k).claims = []) ∧
      (gone.lease 0 1).valid = false ∧ late.time ≤ (late.lease 0 0).expiry.toNat) ∧
    (pool.colAt 0).reqs = [{ region := 0, ltile := 1, role := 0, op := 1 }] ∧
    ((grant.colAt 0).retires = [] ∧ (grant.colAt 0).vacates = [] ∧ (grant.colAt 0).claims = [] ∧ (grant.colAt 0).pending = [] ∧ (grant.colAt 0).windowCount < 8 ∧
      1 < grant.rmLen 0 ∧ (grant.rmEntry 0 1).state = 3 ∧ (grant.bullpens 0).head? = some 0) ∧
    (0 < retire.rmLen 0 ∧ (retire.rmEntry 0 0).state = 0 ∧ (retire.rmEntry 0 0).leased = false ∧ (retire.tileAt 0).leaving = none ∧ (retire.colAt 0).windowCount < 8) := by decide +kernel

theorem tget_mapped {α : Type} (x d : α) (k : Nat) : ∀ l : List Nat, k ∈ l → tget (l.map fun t => (t, x)) k d = x
  | [], h => by simp at h
  | a :: r, h => by
    simp only [List.map_cons, tget]
    by_cases e : a = k
    · simp [e]
    · simp only [e, if_false]
      exact tget_mapped x d k r (by simpa [Ne.symm e] using h)

/-- Every site of column 0 is OFF. -/
def sOff : State := { cols := [(0, { samples := 1 })], tiles := (sitesOf 0).map fun t => (t, { st := .off }) }

theorem off_tile (t : Nat) (h : t ∈ sitesOf 0) : sOff.tileAt t = { st := .off } := by
  unfold State.tileAt sOff
  dsimp only
  rw [tget_mapped _ _ _ _ h]

theorem witness_MovesLeasesAndTheCensus_noBullpen :
    (sOff.colAt 0).retires = [] ∧ (sOff.colAt 0).vacates = [] ∧ (sOff.colAt 0).reqs = [] ∧ (sOff.colAt 0).claims = [] ∧ (sOff.colAt 0).pending = [] ∧
    (sOff.colAt 0).enable = false ∧ sOff.bullpens 0 = [] ∧ 0 < (sOff.colAt 0).samples := by
  refine ⟨rfl, rfl, rfl, rfl, rfl, rfl, ?_, by decide⟩
  unfold State.bullpens
  rw [List.filter_eq_nil_iff]
  intro t h
  rw [off_tile t h]
  decide

/-! Host queues, launches, service. -/

/-- Queue 0 in state `st`, with HEAD 0, a ring of 16 commands and PARENT 0, whose windows let all of the first MiB pass; memory holds `l`. -/
def sQueue (st : Nat) (h : HostQueue) (l : List (Nat × List Byte)) : State :=
  { sMsg 0 [] with
    qtBase := 0x7000000000020000
    mem := (l ++ [(0x20018, [BitVec.ofNat 8 st]), (21, [0xF0]), (37, [12])]).foldl (fun (m : Tab Byte) (p : Nat × List Byte) => memWrite m p.1 p.2) []
    regions := [(0, { id := 0, rmLen := 2, rmCap := 2, gwins := [(0x7000000000000C03, 0x100000)] }), (7, { id := 7, priority := 1, rmLen := 0 })]
    queues := [(0, h)]
    ev := { x := 0, y := 1 } }

/-- All 4,096 host slots are taken. -/
def sSlots : State := { sQueue 0 {} [] with slots := (List.range 4096).map fun i => (i, 0) }

theorem thas_mapped (x k : Nat) : ∀ l : List Nat, k ∈ l → thas (l.map fun t => (t, x)) k = true
  | [], h => by simp at h
  | a :: r, h => by
    simp only [List.map_cons, thas, Bool.or_eq_true, beq_iff_eq]
    rcases List.mem_cons.mp h with e | e
    · exact .inl e.symm
    · exact .inr (thas_mapped x k r e)

theorem slots_full (i : Nat) (h : i ∈ List.range 4096) : thas sSlots.slots i = true := by
  unfold sSlots
  dsimp only
  exact thas_mapped 0 i _ h

theorem witness_HostQueuesAndCommands_full : sSlots.qState 0 = 0 ∧ sSlots.qAhead 0 1 ≠ 0 ∧ sSlots.freeHostSlot = none := by
  refine ⟨by decide +kernel, by decide +kernel, ?_⟩
  unfold State.freeHostSlot
  rw [List.find?_eq_none]
  intro i h
  simp [slots_full i h]

/-- Command 1 of queue 0 with the given words. -/
def cmd (ws : List Word) : HostCmd := { num := 1, words := ws }
def sCmd (ws : List Word) (l : List (Nat × List Byte)) : State := sQueue 1 { cmds := [cmd ws] } l

theorem witness_HostQueuesAndCommands :
    let q0 := sQueue 0 {} []
    let g : Word := 0x7000000000030000
    let ok (r : State × HostRes) : Bool := match r.2 with
      | .ok l => l.pa == 0x30000
      | _ => false
    let no (r : State × HostRes) : Bool := r.2 == .refused cPROTECT
    (({ q0 with ev := { flag := true } } : State).ev.flag = true ∧ ({ q0 with queues := [], mem := memWrite [] 0x20000 [1] } : State).freshQueues = [0] ∧ q0.ev.flag = false ∧ (sQueue 1 {} []).qState 0 = 1 ∧ q0.qState 0 = 0 ∧ q0.qAhead 0 1 = 1 ∧
      q0.freeHostSlot = some 0 ∧ q0.qAhead 0 0 = 0 ∧ q0.ev.z = 0 ∧ (∃ w ∈ ({ q0 with pendWakes := [(0, 1)] } : State).pendWakes, w.1 = 0) ∧ (sQueue 2 {} []).qState 0 = 2 ∧ (sQueue 3 {} []).qState 0 = 3 ∧ (q0.hq 0).stamp = 0 ∧ (∀ w ∈ q0.pendWakes, w.1 ≠ 0)) ∧
    (let s (p : CxlPort) : State := { q0 with ports := [(2, p)], ev := { x := 0, y := 1, z := 3 } }
     (tget (s { memMode := true }).ports ((s {}).ev.z - 1) {}).memMode = true ∧ (tget (s {}).ports ((s {}).ev.z - 1) {}).trained = false ∧
       (let a := tget (s { trained := true }).ports ((s {}).ev.z - 1) {}
        a.memMode = false ∧ a.trained = true) ∧ (s { trained := true }).hostLink = true ∧ q0.hostLink = false) ∧
    (let s := sCmd [0, 0xFFFC0000E0000000] []
     s.hostCmd 0 s.ev.y = some (cmd [0, 0xFFFC0000E0000000]) ∧ (cmd []).started = false ∧ classOf ((cmd [0, 0xFFFC0000E0000000]).w 1) = .role ∧
       bits ((cmd [0, 0xFFFC0000E0000000]).w 1) 32 14 < s.rmLen (s.qParent 0) ∧ s.rmLen (s.qParent 0) ≤ bits (0xFFFC000200000000 : Word) 32 14 ∧
       classOf (0x20000 : Word) = .paged) ∧
    (let ws : List Word := [0, 0xFC00, g]
     let s := sCmd ws [(0x30000, leBytes 8 (2 ^ 38 + 40))]
     let r := s.hostRecord 0 g
     destBad 0xFC00 false 0 = false ∧ bits (0xFC00 : Word) 32 14 < s.rmLen (s.qParent 0) ∧ g.toNat % 8 = 0 ∧ headerBad (BitVec.ofNat 64 (2 ^ 38 + 40)) true = false ∧
       (match r.2 with
        | some (.ok bs) => bs.length == 56 && !headerBad (blockWord bs 0) true
        | _ => false) = true ∧ r.1.hasSite 0 0 = true ∧ r.1.mem = s.mem) ∧
    (let s := sCmd [0, 1, 1, 7] []
     let two : State := { s with
      mem := memWrite (memWrite s.mem 85 [0xF0]) 76 [1]
      regions := [(0, { id := 0, rmLen := 3, rmCap := 3 }), (7, { id := 7, rmLen := 0, rmCap := 1 })] }
     (s.preemptList 1 7 (0, 1)).length < 1 ∧ (two.preemptList 1 7 (0, 1)).length = 1 ∧ 1 ≤ two.fillable 7 ∧ s.fillable 7 < 1) ∧
    (let s := sCmd [0, g, 5] [(0x30000, leBytes 8 5)]
     let amo (a : Word) : State × HostRes := s.umpireRes (s.qCol 0) (s.qParent 0) (s.qSrc 0 0) a (.atomic 8) .both
     ok (amo g) = true ∧ no (amo 0x7000000000100000) = true ∧ ok (s.hostRes 0 g 8 .read) = true ∧
       no (s.hostRes 0 0x7000000000100000 8 .read) = true ∧ s.readNat 0x30000 8 = 5 ∧ (cmd [0, g, 5]).fin = none) ∧
    (let s := sCmd [0, g, 0x7000000000040000, 4] []
     let c := cmd [0, g, 0x7000000000040000, 4]
     let long := cmd [0, g, 0x7000000000040000, 17]
     let bad := cmd [0, g, 0x7000000000100000, 4]
     (s.copyBytes 0 c 16 0).2.1 = 4 ∧ (s.copyBytes 0 long 16 0).2 = (16, .wait) ∧ (s.copyBytes 0 bad 16 0).2 = (0, .refused cPROTECT)) ∧
    (let c (a : Word) : HostCmd := { cmd [0, 0, 0, 0, 0, 0, 0, a] with fin := some (0, 0) }
     let s (a : Word) : State := sQueue 1 { cmds := [c a] } []
     (s 0).completionWaits 0 (c 0) = false ∧ (c 0).w 7 = 0 ∧ (c 0).mods = [] ∧ (c 8).w 7 = 8 ∧ classOf (8 : Word) ≠ .global ∧ ({ s 8 with ports := [(0, { trained := true })] } : State).hostLink = true ∧ (s 8).hostLink = false ∧
       classOf g = .global ∧ ok ((s g).hostRes 0 g 8 .write) = true ∧ ((s g).regionAt 0).trace = false) := by
  refine ⟨?_, ?_, ?_, ?_, ?_, ?_, ?_, ?_⟩ <;> decide +kernel

/-- A LAUNCH of `n` tasks on `k` modules, whose block is prepared at `g` where `ok`. -/
def sLaunch (n k : Nat) (ok : Bool) (cyc : Nat) : State :=
  { sCmd [1, 0x7000000000030000, 0x20000, mkWord [(0, n), (16, 1), (32, 1), (48, k - 1), (61, 2)], 10 * 2 ^ 32, 0, 0, 0] [(0x50015, [0xF0])] with
    rcbs := if ok then [(0x7000000000030000, { id := 9, rmBase := 0x7000000000050000, rmLen := 1, rmCap := 1, acctBase := 0x7000000000060000, cycQuota := cyc, own := [.cycQuota] })]
      else [] }

/-- What a module knows of launch 5: index 0 of two. -/
def launch2 (coord phase left : Nat) (answers : Tab Nat) (acks ended : List Nat) : LaunchSt :=
  { words := [], parent := 0, coord := coord, me := 0, share := 1, mods := 2, phase := phase, region := 7, left := left, answers := answers,
    acks := acks, ended := ended, queue := 0, cmd := 1 }

theorem witness_LaunchesOnOneAndSeveralModules :
    let s0 (s : State) : State := match s.hostCmd 0 1 with
      | some c => s.setCmd 0 { c with started := true }
      | none => s
    let ws (s : State) : List Word := ((s.hostCmd 0 1).map (·.words)).getD []
    let a := sLaunch 8 1 true 1000
    let b := s0 a
    let r := b.launchBlock 0 (ws a)
    let blk := (tfind a.rcbs 0x7000000000030000).getD { id := 0 }
    (bits ((ws (sLaunch 0 1 true 0)).getD 3 0) 0 16 = 0 ∧ gridSize (ws a) = 8 ∧ launchMods (ws a) = 1 ∧ launchMods (ws (sLaunch 2 2 true 0)) = 2) ∧
    (((s0 (sLaunch 8 1 false 0)).launchBlock 0 (ws a)).2.any (fun e => match e with
        | .error d => d == 0
        | .ok _ => false) = true ∧
      r.2.any (fun e => match e with
        | .ok x => x == blk
        | .error _ => false) = true) ∧
    (r.1.launchShare (ws a) blk (r.1.qParent 0) (0, 1) (List.range 8)).2 = (0, 8) ∧
    (r.1.launchShare (ws a) { blk with cycQuota := 1 } (r.1.qParent 0) (0, 1) (List.range 8)).2 = (4, 0) ∧
    (let s (x : LaunchSt) (z y : Nat) : State := { sCmd [] [] with launches := [(5, x)], ev := { x := 5, y := y, z := z } }
     let arm := s (launch2 0 0 8 [(0, 0)] [] []) 0 1
     let com := s (launch2 0 1 8 [] [0, 1] [0]) 17 1
     (a.module = 0 ∧ (a.armBlock { launch2 0 0 8 [] [] [] with words := ws a, parent := 0 }).2 = some (some blk) ∧
       ((sLaunch 8 1 false 0).armBlock { launch2 0 0 8 [] [] [] with words := ws a, parent := 0 }).2 = some none) ∧
     arm.launchAt 5 = some (launch2 0 0 8 [(0, 0)] [] []) ∧ arm.module = 0 ∧ (∀ j, j < 2 → j = arm.ev.y ∨ tfind [(0, 0)] j = some 0) ∧
       com.launchAt 5 = some (launch2 0 1 8 [] [0, 1] [0]) ∧ com.ev.z = 17 ∧ ([0, 1] : List Nat).length = 2 ∧ (sinsert [0] com.ev.y).length = 2 ∧
       (∃ j, j < 2 ∧ j ∉ ([0] : List Nat)) ∧ (s (launch2 1 1 0 [] [] []) 17 0).module ≠ 1 ∧ com.writesLeft 7 = false ∧
       (let late : State := { com with net := [{ id := 1, op := .write, src := 0, region := 7, ltile := 0, dst := 0 }], ev := { com.ev with y := 0 } }
        late.ev.y = 0 ∧ late.ev.z = 17 ∧ (launch2 0 1 8 [] [0, 1] [0]).region ≠ 0 ∧ late.writesLeft 7 = true) ∧ (launch2 0 1 0 [] [] []).left = 0) := by
  refine ⟨by decide +kernel, by decide +kernel, by decide +kernel, by decide +kernel, by decide +kernel, by decide, by decide +kernel, by decide, by decide +kernel,
    by decide, by decide, by decide, ⟨1, by decide⟩, by decide, by decide⟩

/-! Bring-up, the management port, module registers, power, links and resets. -/

def sBoot (ph : Nat) (ev : Ev) : State := { bootPhase := ph, ev := ev }

theorem off_all (s : State) (h : s.ev.list = allSites) :
    12960 - (allSites.filter fun i => s.ev.list.contains i || (s.tileAt i).shipOff).length < 12600 := by
  have : (allSites.filter fun i => s.ev.list.contains i || (s.tileAt i).shipOff) = allSites := by
    rw [List.filter_eq_self, h]
    intro a m
    rw [List.contains_iff_mem.mpr m]
    rfl
  rw [this]
  unfold allSites
  rw [List.length_range]
  decide

/-- The harvest finds every site failing. -/
def sAll (l : List Nat) : State := sBoot 1 { list := l }

theorem witness_BringUpAndModuleRegisters_failing :
    ∃ s : State, s.bootPhase = 1 ∧ 12960 - (allSites.filter fun i => s.ev.list.contains i || (s.tileAt i).shipOff).length < 12600 := by
  have e (l : List Nat) : (sAll l).bootPhase = 1 ∧ (sAll l).ev.list = l := ⟨rfl, rfl⟩
  exact ⟨sAll allSites, (e allSites).1, off_all _ (e allSites).2⟩

theorem none_off (ev : Ev) (h : ev.list = []) (ts : List Nat) :
    (ts.filter fun i => (sBoot 1 ev).ev.list.contains i || ((sBoot 1 ev).tileAt i).shipOff) = [] := by
  rw [List.filter_eq_nil_iff]
  intro a _
  have : (sBoot 1 ev).ev.list = [] := h
  rw [this, show (sBoot 1 ev).tileAt a = {} from rfl]
  simp

theorem witness_BringUpAndModuleRegisters :
    (sBoot 0 { flag := true }).ev.flag = true ∧ (sBoot 0 { x := 3 }).ev.flag = false ∧
    (12600 ≤ 12960 - (allSites.filter fun i => (sBoot 1 {}).ev.list.contains i || ((sBoot 1 {}).tileAt i).shipOff).length) ∧
    (sBoot 2 {}).bootPhase = 2 ∧ (sBoot 2 {}).anyLink = true ∧ (sBoot 2 {}).ev.bytes = none ∧ (sBoot 2 { bytes := some [1] }).ev.bytes = some [1] ∧
    (let dead : Column := { linksUp := [(0, false), (1, false), (2, false), (3, false)] }
     ({ sBoot 2 {} with cols := columns.map fun c => (c, dead) } : State).anyLink = false) ∧
    (let s : State := { sBoot 3 {} with bootImage := some [1] }
     s.bootPhase = 3 ∧ s.bootImage = some [1] ∧ (Config.sm2Check Config.keyDigest [1] = true ∨ Config.sm2Check Config.keyDigest [1] = false)) ∧
    (let s := sBoot 5 { bytes := some [1] }
     s.bootPhase = 5 ∧ s.ev.bytes = some [1] ∧ (Config.sm2Check Config.keyDigest [1] = true ∨ Config.sm2Check Config.keyDigest [1] = false)) ∧
    ({ sBoot 0 {} with failRec := some { phase := 2, unit := 1, detail := 0, time := 0 } } : State).failRec = some { phase := 2, unit := 1, detail := 0, time := 0 } ∧ (sBoot 0 {}).failRec = none := by
  refine ⟨rfl, rfl, ?_, rfl, by decide, rfl, rfl, by decide, ⟨rfl, rfl, Bool.eq_false_or_eq_true _⟩,
    ⟨rfl, rfl, Bool.eq_false_or_eq_true _⟩, rfl, rfl⟩
  rw [none_off {} rfl]
  decide

/-- A store of 8 bytes to a register by block and REG, in column 8. -/
def regAt (block reg : Nat) (w : Word) : State := { ev := { x := 8 * 2 ^ 44 + block * 2 ^ 32 + reg, y := 8, val := w } }

theorem witness_BringUpAndModuleRegisters_registers :
    (∀ p ∈ ([(2, 0x01000000), (0, 0), (0, 8), (0, 0x10), (1, 0), (1, 0x20000000), (1, 0x20000000 + 8 * 11519), (3, 0x01000000),
        (3, 0x01000000 + 8 * (810 * 1440 - 1)), (3, 0x03000000), (4, 0x10000000), (4, 0x10000000 + 8 * (2 ^ 20 - 1)), (6, 0), (7, 0), (4, 0), (4, 0x10000000 + 8 * 2 ^ 20)] : List (Nat × Nat)),
      let s := regAt p.1 p.2 1
      nbits s.ev.x 44 4 = 8 ∧ nbits s.ev.x 32 12 = p.1 ∧ nbits s.ev.x 0 32 = p.2 ∧ s.ev.y = 8 ∧ nbits s.ev.x 0 32 % 8 = 0) ∧
    protReg 2 0x01000000 = true ∧ protReg 2 (0x01000000 + 1572863) = true ∧
    bits (0 : Word) 62 2 = 0 ∧ bits (0x4000000000000007 : Word) 62 2 = 1 ∧ bits (0x8000000000000007 : Word) 62 2 = 2 ∧
    bits (0xC000000000000007 : Word) 62 2 = 3 := by
  decide +kernel

theorem witness_PowerLinksAndTileResets :
    (let s (c : Column) (x : Nat) : State := { cols := [(0, c)], ev := { x := x } }
     ((s { thermal := true } 0).colAt 0).thermal = true ∧
       (((s { limit := 5000 } 5001).colAt 0).thermal = false ∧ ((s { limit := 5000 } 5001).colAt 0).limit < (s { limit := 5000 } 5001).ev.x % 2 ^ 16) ∧
       (100 * 4749 < 95 * 5000 ∧ 4749 ≤ 5000) ∧ 95 * 5000 ≤ 100 * 4750 ∧ ((s { fstep := 54 } 0).colAt 0).fstep = 54) ∧
    (let s (l : List Nat) (f : Bool) (y : Nat) : State := { ev := { x := 1, list := l, flag := f, y := y } }
     (6 ∈ (s [0, 5, 6] true 16).ev.list ∧ (s [0, 5, 6] true 16).ev.flag = true ∧ (∀ r ∈ [0, 5, 6], r ≤ 6)) ∧ (5 ∈ (s [0, 5, 6] false 4).ev.list ∧ (s [0, 5, 6] false 4).ev.flag = false ∧ 4 ≤ (s [0, 5, 6] false 4).ev.y) ∧
       (s [0] false 3).ev.y < 4 ∧ (∀ r, ¬ r ∈ (s [] false 16).ev.list)) ∧
    (let s (x y : Nat) (l : List Nat) (f : Bool) : State := { ev := { x := x, y := y, list := l, flag := f } }
     let works (e : Ev) (r : Nat) : Bool := decide (r ∈ e.list) && (decide (r ≤ 5) || (r == 6 && e.flag))
     12 ≤ (s 12 16 [0] true).ev.x ∧ (s 11 16 [0, 5, 6] true).ev.x < 12 ∧ works (s 11 16 [0, 5, 6] true).ev 6 = true ∧
       works (s 11 4 [0, 5, 6] false).ev 5 = true ∧ works (s 11 4 [0, 5, 6] false).ev 6 = false ∧ 4 ≤ (s 11 4 [0, 5, 6] false).ev.y ∧
       (s 11 3 [0] true).ev.y < 4 ∧ (∀ r ∈ [0, 6, 7], works (s 11 16 [6, 7] false).ev r = false)) ∧
    (let s (y : Nat) : State := { ev := { x := 5, y := y } }
     (s 7).ev.y < 8 ∧ 8 ≤ (s 8).ev.y) ∧
    (let s (t : Nat) : State := { ports := [(1, { retrainSince := some 7 })], time := t, ev := { x := 1 } }
     ((s 0).port 1).retrainSince = some 7 ∧ 7 + 100000000 ≤ (s 100000007).time ∧ (s 100000006).time < 7 + 100000000) ∧
    (let s (v : VcWin) (ev : Ev) : State := { tiles := [(5, { links := [(2, { vcs := [(1, v)] })] })], ev := { ev with x := 5, y := 2, z := 1 } }
     let a := s { credRet := 10, lastSeq := some 3, lastD := 2 } { w := 4, v := 12 }
     let v := tget (a.link 5 2).vcs a.ev.z {}
     let d := sint 32 ((a.ev.v + 2 ^ 32 - ((a.ev.list[1]?).getD v.credRet) % 2 ^ 32) % 2 ^ 32)
     d = 2 ∧ v.lastSeq.map (· + 1) = some a.ev.w ∧ v.lastD = d ∧ (s {} { w := 5 }).ev.w = 5 ∧ (tget ((s {} { w := 5 }).link 5 2).vcs 1 {}).lastSeq = none ∧
       (let own := s { credits := 14, credRet := 10, freed := 12, auditNo := 3, lastSeq := some 3, lastD := 2 } { flag := true }
        let v := tget (own.link 5 2).vcs own.ev.z {}
        own.ev.flag = true ∧ v.lastSeq.map (· + 1) = some (v.auditNo + 1) ∧
          v.lastD = sint 32 ((v.freed + 2 ^ 32 - v.credRet % 2 ^ 32) % 2 ^ 32) ∧ v.lastD ≠ 0)) ∧
    (let s (f : Bool) (y : Nat) : State := { ev := { flag := f, y := y } }
     (s true 0).ev.flag = true ∧ (s false 0).ev.flag = false ∧ (s false 3).ev.y < 4 ∧ 4 ≤ (s false 8).ev.y ∧ (s false 8).ev.y < 12 ∧ 12 ≤ (s false 12).ev.y) ∧
    (let s : State := { heldStops := [(1, [9])], cols := [(0, { linksUp := [(0, false)], modRoute := [(1, 256)] })] }
     s.moduleUp 0 1 = false ∧ (match execModuleLinkRestored s with
       | .next t => t.moduleUp 0 1
       | _ => false) = true ∧ (1, [9]) ∈ s.heldStops) ∧
    (let s (b : Bool) : State := { tiles := [(0, { resetting := b })] }
     ((s true).tileAt 0).resetting = true ∧ ((s false).tileAt 0).resetting = false) := by
  decide +kernel

end Sys2Proof.Tests
end

section
/-! PROOFS. Scalar control and system instructions: the one-cycle integer results (R106), branches and jumps (R113, R114), SYS and BRK
(R121), and the return from a trap (R122), with the words they are encoded by. -/

namespace Sys2Proof.Laws

open Sys2Proof Sys2Proof.Machine

/-! Words of the base space, by OP (R38, R40), and words that the decoder refuses for a reserved field (R41). -/

/-- The low byte of a base word is its OP above the two bits of the space (R38). -/
theorem encode_base {i : Instr} (l : List (Nat × Nat)) (op : Nat) (h : encodeSegs i = [l ++ [(8, 4 * op)]]) :
    encode i = [pack (l ++ [(6, op), (2, 0)])] := by
  simp only [encode, h, List.map_cons, List.map_nil, pack_append, pack, segWidth]
  congr 1; omega

/-- The W bit and the function of a W form as one F field (R104). -/
theorem pack_wForm (w f : Nat) (r : List (Nat × Nat)) : pack ((1, w) :: (8, f) :: r) = pack ((9, 0x100 * w + f) :: r) := by
  have hw : w * 2 ^ (8 + segWidth r) = 0x100 * w * 2 ^ segWidth r := by
    rw [Nat.pow_add, ← Nat.mul_assoc, Nat.mul_comm w]
  simp only [pack, segWidth, hw]
  rw [← Nat.add_assoc, ← Nat.add_mul]

theorem encode_wForm {i : Instr} (w : BitVec 1) (f op : Nat) (b a d : BitVec 5)
    (h : encodeSegs i = [[(1, w.toNat), (8, f), (5, b.toNat), (5, a.toNat), (5, d.toNat), (8, 4 * op)]]) :
    encode i = [pack [(9, 0x100 * w.toNat + f), (5, b.toNat), (5, a.toNat), (5, d.toNat), (6, op), (2, 0)]] :=
  (encode_base [(1, w.toNat), (8, f), (5, b.toNat), (5, a.toNat), (5, d.toNat)] op h).trans (congrArg (fun v => [v]) (pack_wForm ..))

/-- A base word with an OP from 0x10 to 0x1B is a control transfer (R48). -/
theorem controlTransfer_of_op (l : List (Nat × Nat)) (op : Nat) (h : 0x10 ≤ op) (k : op ≤ 0x1B) :
    controlTransfer (pack (l ++ [(6, op), (2, 0)])) = true := by
  have hw : pack (l ++ [(6, op), (2, 0)]) = 256 * pack l + 4 * op := by
    simp only [pack_append, pack, segWidth]; omega
  have hop : (256 * pack l + 4 * op) / 4 % 64 = op := by omega
  simp only [controlTransfer, hw, hop, Bool.and_eq_true, Bool.or_eq_true, decide_eq_true_eq]
  omega

/-- A word that names an instruction of another word has a reserved field that is not zero (R41). -/
theorem decodeWord_eq_none {i : Instr} {w v e : Nat} (hd : decodeLoose w e = some i) (he : encode i = [v]) (hw : w ≠ v) :
    decodeWord w e = none := by
  have hl : (encodeSegs i).length = 1 := by simpa [encode] using congrArg List.length he
  simp [decodeWord, decode, hd, he, wordsOf, hl, Ne.symm hw]

/-- The operand fields D, A and B of a word, when one of them is set. -/
theorem operandFields_bounds {d a b : BitVec 5} (h : d ≠ 0 ∨ a ≠ 0 ∨ b ≠ 0) :
    0 < d.toNat + a.toNat * 2 ^ 5 + b.toNat * 2 ^ 10 ∧ d.toNat + a.toNat * 2 ^ 5 + b.toNat * 2 ^ 10 < 2 ^ 15 := by
  simp only [ne_eq, ← rg_bv_zero] at h
  omega

/-- OP 0x1C with function `f`, of an instruction without operands: a word with a bit of D, A or B set is refused (R41). -/
theorem systemWord_refused {i : Instr} (f : Nat) (hf : f < 2 ^ 9) (he : encode i = [f * 2 ^ 23 + 0x70])
    (hd : ∀ w, w / 2 ^ 23 % 2 ^ 9 = f → decode70 w = some i) {d a b : BitVec 5} (h : d ≠ 0 ∨ a ≠ 0 ∨ b ≠ 0) :
    decodeWord (f * 2 ^ 23 + 0x70 + d.toNat * 2 ^ 8 + a.toNat * 2 ^ 13 + b.toNat * 2 ^ 18) 0 = none := by
  obtain ⟨hpos, hlt⟩ := operandFields_bounds h
  refine decodeWord_eq_none ?_ he (by omega)
  rw [loose_70 _ _ (by omega), hd _ (by omega)]

end Sys2Proof.Laws

namespace Sys2Proof.Machine

open Sys2Proof Sys2Proof.Laws

/-! The results of R106, as operations on bit vectors of any width. -/

/-- A bitwise result is computed on the whole words; at W = 1 it is that of the low halves (R104). -/
theorem resW1_toInt {z : Word} {r : BitVec 32} (h : z.setWidth 32 = r) : resW 1 z.toInt = r.signExtend 64 := by
  have hz : BitVec.ofInt 32 z.toInt = z.setWidth 32 := BitVec.signExtend_eq_setWidth_of_le z (by decide)
  rw [resW1, hz, h]

/-- A result at W = 1 is the 32-bit result, sign-extended (R104). -/
theorem resW1_eq {x : Int} {y : BitVec 32} (h : BitVec.ofInt 32 x = y) : resW 1 x = y.signExtend 64 := by
  rw [resW1, h]

/-- A choice by a signed comparison. -/
theorem ofInt_ite_sle {n : Nat} (x y p q : BitVec n) :
    BitVec.ofInt n (if x.toInt ≤ y.toInt then p.toInt else q.toInt) = if x.sle y then p else q := by
  by_cases h : x.toInt ≤ y.toInt <;> simp [BitVec.sle, h]

/-- A choice by an unsigned comparison. -/
theorem ofInt_ite_le {n : Nat} (x y p q : BitVec n) :
    BitVec.ofInt n ((if x.toNat ≤ y.toNat then p.toNat else q.toNat : Nat) : Int) = if x ≤ y then p else q := by
  by_cases h : x.toNat ≤ y.toNat <;> simp [BitVec.le_def, h]

/-- The word of a comparison that says whether `p` holds. -/
theorem wordOf_eq_ite {c : Bool} {p : Prop} [Decidable p] (h : c = true ↔ p) : wordOf c = if p then 1 else 0 := by
  simp only [wordOf, h]

theorem beq_toNat_iff {n : Nat} (x y : BitVec n) : (x.toNat == y.toNat) = true ↔ x = y := by
  rw [beq_iff_eq, BitVec.toNat_eq]

/-! Transfers (R40, R113, R114). -/

/-- A conditional branch whose comparison is `p` (R113). -/
theorem goesTo_branchIf {i : Instr} {s : State} {o : BitVec 14} {taken : Bool} {p : Prop} [Decidable p]
    (hn : s.grp.npc = s.grp.wpc + 4) (h : exec i s = branchIf s o taken) (hp : taken = true ↔ p) :
    GoesTo i s (if p then s.grp.wpc + 4 * o.signExtend 64 else s.grp.wpc + 4) := by
  refine goesTo_of (h.trans ?_)
  simp only [branchIf, hp, hn]
  rfl

/-- A transfer that writes a link first (R114, R115): gD and the PC change, and nothing else. -/
theorem onlyG_wg_jump (s : State) (d : BitVec 5) (x pc : Word) : OnlyG s ((s.wg d x).setCtx { (s.wg d x).ctx with pc := pc }) d := by
  refine ⟨OnlyContext.trans (onlyContext_setCtx s _) (onlyContext_setCtx _ _), fun r hr => ?_, ?_⟩
  · rw [State.ctx_setCtx, State.ctx_wg]
    exact Ctx.rg_wg_ne _ _ _ _ hr
  · rw [State.ctx_setCtx, State.ctx_wg, Ctx.wg_frame]

/-! The return from a trap (R122). -/

/-- A field is 0 as a number where it is 0 as a field. -/
theorem bits_eq_zero_iff {w : Nat} (x : BitVec w) (lo n : Nat) : bits x lo n = 0 ↔ x.extractLsb' lo n = 0 := by
  rw [BitVec.toNat_eq, BitVec.extractLsb'_toNat, Nat.shiftRight_eq_div_pow]
  rfl

section
variable {s : State} {k : State → Option WorkId → Out}

theorem trapReturn_user (hu : s.ctx.priv = 0) : s.trapReturn k = trap s cPRIVILEGE s.grp.wpc := by
  unfold State.trapReturn
  exact if_pos hu

theorem trapReturn_illegal (hp : s.ctx.priv ≠ 0) (h : s.ctx.inTrap = false ∨ s.ctx.trap.ppriv = 3) :
    s.trapReturn k = trap s cILLEGAL s.grp.wpc := by
  unfold State.trapReturn
  exact (if_neg hp).trans (if_pos (by simpa using h))

theorem trapReturn_above (hp : s.ctx.priv ≠ 0) (hi : s.ctx.inTrap = true) (h3 : s.ctx.trap.ppriv ≠ 3)
    (h : s.ctx.priv < s.ctx.trap.ppriv) : s.trapReturn k = trap s cPRIVILEGE s.grp.wpc := by
  unfold State.trapReturn
  exact (if_neg hp).trans ((if_neg (by simpa [hi] using h3)).trans (if_pos (BitVec.lt_def.1 h)))

/-- Past the checks of PRIV, INTRAP and PPRIV, TRAPPC decides. -/
theorem trapReturn_allowed (hp : s.ctx.priv ≠ 0) (hi : s.ctx.inTrap = true) (h3 : s.ctx.trap.ppriv ≠ 3)
    (hle : s.ctx.trap.ppriv ≤ s.ctx.priv) :
    s.trapReturn k = if s.ctx.trap.pc.extractLsb' 0 2 ≠ 0 then trap s cALIGN s.ctx.trap.pc
      else k (s.setCtx s.ctx.trapReturned) s.ctx.trapWork := by
  simp only [← bits_eq_zero_iff, ne_eq]
  unfold State.trapReturn
  exact (if_neg hp).trans ((if_neg (by simpa [hi] using h3)).trans (if_neg (Nat.not_lt.2 (BitVec.le_def.1 hle))))

end

/-- TRAPRET with no BADD of its context outstanding (R122, R402). -/
theorem execTrapret_of_no_badd {s : State} (h : ∀ p ∈ s.ctx.pend, ∀ r sel, p.dest ≠ .badd r sel) :
    execTrapret s = s.trapReturn fun s w => .next (s.resumeWork w) := by
  unfold execTrapret
  refine if_neg fun hany => ?_
  obtain ⟨p, hp, hb⟩ := List.any_eq_true.1 hany
  split at hb
  · next r sel hd => exact h p hp r sel hd
  · cases hb

/-- Work that goes on changes its site and the agenda. -/
theorem State.resumeWork_frame (s : State) (w : Option WorkId) :
    s.resumeWork w = { s with tiles := (s.resumeWork w).tiles, agenda := (s.resumeWork w).agenda } := by
  unfold State.resumeWork
  dsimp only
  repeat' split
  all_goals rfl

@[simp] theorem State.ctx_resumeWork (s : State) (w : Option WorkId) : (s.resumeWork w).ctx = s.ctx := by
  rw [State.resumeWork_frame]; rfl

theorem SameMemory.resumeWork (s : State) (w : Option WorkId) : SameMemory s (s.resumeWork w) := by
  rw [State.resumeWork_frame]; exact fun _ => rfl

/-- The return changes the mode, the trap registers and the PC (R122). -/
theorem Ctx.trapReturned_frame (c : Ctx) :
    c.trapReturned = { c with priv := c.trap.ppriv, pc := c.trap.pc, inTrap := c.trapReturned.inTrap, trap := c.trapReturned.trap,
                              trapWork := c.trapReturned.trapWork } := by
  unfold Ctx.trapReturned; split <;> rfl

theorem Ctx.trapReturned_nested {c : Ctx} (h : c.trap.nested = true) (hi : c.inTrap = true) :
    c.trapReturned.trap = c.ntrap ∧ c.trapReturned.inTrap = true := by
  simp [Ctx.trapReturned, h, hi]

theorem Ctx.trapReturned_outer {c : Ctx} (h : c.trap.nested = false) :
    c.trapReturned.trap = c.trap ∧ c.trapReturned.inTrap = false := by
  simp [Ctx.trapReturned, h]

/-- TRAPRET past its checks (R122): the context is the returned one, and memory is as before. -/
theorem trapret_returns {s : State} (he : exec .trapret s = .next ((s.setCtx s.ctx.trapReturned).resumeWork s.ctx.trapWork))
    (hi : s.ctx.inTrap = true) :
    ∃ t, exec .trapret s = .next t ∧ t.ctx.pc = s.ctx.trap.pc ∧ t.ctx.priv = s.ctx.trap.ppriv ∧
      (s.ctx.trap.nested = true → t.ctx.trap = s.ctx.ntrap ∧ t.ctx.inTrap = true) ∧
      (s.ctx.trap.nested = false → t.ctx.trap = s.ctx.trap ∧ t.ctx.inTrap = false) ∧
      t.ctx.g = s.ctx.g ∧ t.ctx.v = s.ctx.v ∧ t.ctx.m = s.ctx.m ∧ t.ctx.fpflags = s.ctx.fpflags ∧ t.ctx.rep = s.ctx.rep ∧
      SameMemory s t := by
  refine ⟨_, he, ?_⟩
  rw [State.ctx_resumeWork, State.ctx_setCtx]
  refine ⟨?_, ?_, fun hn => Ctx.trapReturned_nested hn hi, Ctx.trapReturned_outer, ?_, ?_, ?_, ?_, ?_, SameMemory.resumeWork _ _⟩ <;>
    rw [Ctx.trapReturned_frame]

/-! The obligations. -/

/-- Settles O8: each exact result of the meaning is the bit-vector operation, at 64 bits and on the low halves. -/
theorem integerOneCycleResults : Obligations.IntegerOneCycleResults := by
  intro s b a d hs x y u v
  have hk0 : y.toNat % 64 < 64 := Nat.mod_lt _ (by decide)
  have hk1 : y.toNat % 32 < 32 := Nat.mod_lt _ (by decide)
  refine ⟨?w0, ?w1, ?words⟩
  case w0 =>
    exact ⟨writesG_sat_off hs rfl (ofInt_add' x y), writesG_sat_off hs rfl (ofInt_sub' x y),
      writesG_congr rfl (ofInt_toInt' (x &&& y)), writesG_congr rfl (ofInt_toInt' (x ||| y)),
      writesG_congr rfl (ofInt_toInt' (x ^^^ y)), writesG_congr rfl (ofInt_toInt' (x &&& ~~~ y)),
      writesG_sat_off hs rfl (ofInt_shl x _), writesG_congr rfl (ofInt_shr x _),
      writesG_congr rfl (ofInt_sar x _), writesG_congr rfl (ofInt_rol x _ hk0),
      writesG_congr rfl (ofInt_ite_sle x y x y), writesG_congr rfl (ofInt_ite_sle x y y x),
      writesG_congr rfl (ofInt_ite_le x y x y), writesG_congr rfl (ofInt_ite_le x y y x),
      writesG_congr rfl (wordOf_eq_ite Iff.rfl), writesG_congr rfl (wordOf_eq_ite decide_eq_true_iff),
      writesG_congr rfl (wordOf_eq_ite (beq_toNat_iff x y))⟩
  case w1 =>
    have hnot : (x &&& ~~~ y).setWidth 32 = u &&& ~~~ v := by rw [BitVec.setWidth_and, BitVec.setWidth_not (by decide)]
    exact ⟨writesG_sat_off hs rfl (resW1_eq (ofInt_add' u v)), writesG_sat_off hs rfl (resW1_eq (ofInt_sub' u v)),
      writesG_congr rfl (resW1_toInt (BitVec.setWidth_and ..)), writesG_congr rfl (resW1_toInt (BitVec.setWidth_or ..)),
      writesG_congr rfl (resW1_toInt (BitVec.setWidth_xor ..)), writesG_congr rfl (resW1_toInt hnot),
      writesG_sat_off hs rfl (resW1_eq (ofInt_shl u _)), writesG_congr rfl (resW1_eq (ofInt_shr u _)),
      writesG_congr rfl (resW1_eq (ofInt_sar u _)), writesG_congr rfl (resW1_eq (ofInt_rol u _ hk1)),
      writesG_congr rfl (resW1_eq (ofInt_ite_sle u v u v)), writesG_congr rfl (resW1_eq (ofInt_ite_sle u v v u)),
      writesG_congr rfl (resW1_eq (ofInt_ite_le u v u v)), writesG_congr rfl (resW1_eq (ofInt_ite_le u v v u)),
      writesG_congr rfl (wordOf_eq_ite Iff.rfl), writesG_congr rfl (wordOf_eq_ite decide_eq_true_iff),
      writesG_congr rfl (wordOf_eq_ite (beq_toNat_iff u v))⟩
  case words =>
    intro w p hp
    simp only [List.mem_cons, List.not_mem_nil, or_false] at hp
    rcases hp with rfl | rfl | rfl | rfl | rfl | rfl | rfl | rfl | rfl | rfl | rfl | rfl | rfl | rfl | rfl | rfl | rfl <;>
      exact encode_wForm w _ _ b a d rfl

/-- Settles O13: each comparison as named chooses the target, and the words are B form. -/
theorem branchResults : Obligations.BranchResults := by
  intro s o a d hn x y dest
  refine ⟨?_, ?_, ?_, ?_, ?_, ?_, ?_⟩
  · exact goesTo_branchIf hn rfl beq_iff_eq
  · exact goesTo_branchIf hn rfl bne_iff_ne
  · exact goesTo_branchIf hn rfl Iff.rfl
  · exact goesTo_branchIf hn rfl Iff.rfl
  · exact goesTo_branchIf hn rfl decide_eq_true_iff
  · exact goesTo_branchIf hn rfl decide_eq_true_iff
  · intro p hp
    simp only [List.mem_cons, List.not_mem_nil, or_false] at hp
    rcases hp with rfl | rfl | rfl | rfl | rfl | rfl <;>
      exact encode_base [(14, o.toNat), (5, a.toNat), (5, d.toNat)] _ rfl

/-- Settles O14: JAL writes its link and then goes where JMP goes. -/
theorem jumpAndLink : Obligations.JumpAndLink := by
  intro s o
  have hjmp : encode (.jmp o) = [pack [(24, o.toNat), (6, 0x16), (2, 0)]] := encode_base [(24, o.toNat)] 0x16 rfl
  have hjal : encode (.jal o) = [pack [(24, o.toNat), (6, 0x17), (2, 0)]] := encode_base [(24, o.toNat)] 0x17 rfl
  refine ⟨goesTo_of rfl, ⟨_, rfl, ?_, ?_, onlyG_wg_jump s 31 _ _⟩, hjmp, hjal, ?_⟩
  · rw [State.ctx_setCtx]; rfl
  · rw [State.rg, State.ctx_setCtx, State.ctx_wg]; exact Ctx.rg_wg_self ..
  · refine List.forall_mem_cons.2 ⟨?_, List.forall_mem_singleton.2 ?_⟩
    · rw [hjmp]
      exact List.forall_mem_singleton.2 (controlTransfer_of_op [(24, o.toNat)] 0x16 (by decide) (by decide))
    · rw [hjal]
      exact List.forall_mem_singleton.2 (controlTransfer_of_op [(24, o.toNat)] 0x17 (by decide) (by decide))

/-- Settles O18: both are traps of their own, and both words leave no room for an operand. -/
theorem systemCallAndBreak : Obligations.SystemCallAndBreak :=
  ⟨fun _ => ⟨traps_of rfl, traps_of rfl⟩, by decide, by decide, fun _ _ _ h =>
    ⟨systemWord_refused 0 (by decide) (by decide) decode70_0 h, systemWord_refused 2 (by decide) (by decide) decode70_2 h⟩⟩

/-- Settles O19: the five ends of R122 in the order of its checks, and the words that R41 refuses. -/
theorem trapReturn : Obligations.TrapReturn := by
  intro s hb
  have he : exec .trapret s = s.trapReturn fun s w => .next (s.resumeWork w) := execTrapret_of_no_badd hb
  refine ⟨?_, ?_, ?_, ?_, ?_, by decide, fun d a b h => systemWord_refused 1 (by decide) (by decide) decode70_1 h⟩
  · exact fun hu => traps_of (he.trans (trapReturn_user hu))
  · exact fun hp h => traps_of (he.trans (trapReturn_illegal hp h))
  · exact fun hp hi h3 h => traps_of (he.trans (trapReturn_above hp hi h3 h))
  · exact fun hp hi h3 hle h => traps_of (he.trans ((trapReturn_allowed hp hi h3 hle).trans (if_pos h)))
  · exact fun hp hi h3 hle h => trapret_returns (he.trans ((trapReturn_allowed hp hi h3 hle).trans (if_neg (not_not_intro h)))) hi

end Sys2Proof.Machine
end

section
/-! PROOFS. Trap entry (R408, R409): the trap is entered on one context, and the ROM's stub that may follow leaves every context and memory alone. -/

namespace Sys2Proof.Machine

open Sys2Proof

/-! The mask ROM's trap stub (R408, R425). -/

/-- Writing columns one after the other leaves the rest of the state alone. -/
theorem State.foldl_setColAt_frame (l : List Nat) (f : State → Nat → Column) (s : State) :
    ∃ cs, l.foldl (fun s c => s.setColAt c (f s c)) s = { s with cols := cs } := by
  induction l generalizing s with
  | nil => exact ⟨s.cols, rfl⟩
  | cons c l ih =>
    obtain ⟨cs, h⟩ := ih (s.setColAt c (f s c))
    exact ⟨cs, h⟩

/-- Entering the safe state acts on the columns and the ports, and leaves the failure record (R425). -/
theorem State.enterSafe_frame (s : State) (r : FailRec) :
    ∃ cs ps, s.enterSafe r = { s with cols := cs, ports := ps, safe := true, failRec := some r } := by
  obtain ⟨cs, h⟩ := State.foldl_setColAt_frame columns
    (fun s c => { s.colAt c with linksUp := (List.range 4).map fun l => (l, false) }) s
  refine ⟨cs, s.ports.map fun p => (p.1, { p.2 with trained := false }), ?_⟩
  unfold State.enterSafe
  rw [h]

@[simp] theorem State.ctxAt_enterSafe (s : State) (r : FailRec) (d : Nat) : (s.enterSafe r).ctxAt d = s.ctxAt d := by
  obtain ⟨cs, ps, h⟩ := State.enterSafe_frame s r
  rw [h]; rfl

@[simp] theorem State.enterSafe_mem (s : State) (r : FailRec) : (s.enterSafe r).mem = s.mem := by
  obtain ⟨cs, ps, h⟩ := State.enterSafe_frame s r
  rw [h]

@[simp] theorem State.ctxAt_stub (s : State) (col : Nat) (cause : BitVec 8) (pc : Word) (d : Nat) :
    (s.stub col cause pc).ctxAt d = s.ctxAt d :=
  State.ctxAt_enterSafe ..

@[simp] theorem State.stub_mem (s : State) (col : Nat) (cause : BitVec 8) (pc : Word) : (s.stub col cause pc).mem = s.mem :=
  State.enterSafe_mem ..

/-! The level and the entry address (R408). -/

theorem Ctx.trapsToM_eq_false {x : Ctx} (hp : x.priv = 0) (hi : x.inTrap = false) : x.trapsToM = false := by
  simp [Ctx.trapsToM, hp, hi]

theorem Ctx.trapsToM_eq_true {x : Ctx} (h : x.priv ≠ 0 ∨ x.inTrap = true) : x.trapsToM = true := by
  simpa [Ctx.trapsToM, or_comm] using h

section
variable (x : Ctx) (svec mvec : Word) (cause : BitVec 8) (val pc : Word) (dec eng : Bool) (w : Option WorkId)

theorem Ctx.enterTrap_toS (h : x.trapsToM = false) :
    (x.enterTrap svec mvec cause val pc dec eng w).priv = 1 ∧ (x.enterTrap svec mvec cause val pc dec eng w).pc = svec := by
  simp [Ctx.enterTrap, h]

theorem Ctx.enterTrap_toM (h : x.trapsToM = true) :
    (x.enterTrap svec mvec cause val pc dec eng w).priv = 2 ∧ (x.enterTrap svec mvec cause val pc dec eng w).pc = mvec := by
  simp [Ctx.enterTrap, h]

/-- The older trap is kept aside by a nested entry only (R409). -/
theorem Ctx.enterTrap_ntrap :
    (x.enterTrap svec mvec cause val pc dec eng w).ntrap = if x.inTrap then x.trap else x.ntrap := rfl

end

/-! Trap entry in the state: the context that traps, and what stays. -/

section
variable (s : State) (c : Nat) (cause : BitVec 8) (val pc : Word) (dec eng : Bool) (w : Option WorkId)

/-- Every context after a trap entry, whether or not the stub follows. -/
theorem State.ctxAt_enterTrapAt (d : Nat) :
    (s.enterTrapAt c cause val pc dec eng w).ctxAt d =
      if c = d then (s.ctxAt c).enterTrap (s.coreAt (coreOfCtx c)).svec (s.mvecOf (colOfSite (siteOfCtx c))) cause val pc dec eng w
      else s.ctxAt d := by
  unfold State.enterTrapAt
  dsimp only
  split
  · rw [State.ctxAt_stub, State.ctxAt_setCtxAt]
  · rw [State.ctxAt_setCtxAt]

theorem State.ctxAt_enterTrapAt_self :
    (s.enterTrapAt c cause val pc dec eng w).ctxAt c =
      (s.ctxAt c).enterTrap (s.coreAt (coreOfCtx c)).svec (s.mvecOf (colOfSite (siteOfCtx c))) cause val pc dec eng w :=
  (State.ctxAt_enterTrapAt ..).trans (if_pos rfl)

theorem State.ctxAt_enterTrapAt_ne {d : Nat} (h : d ≠ c) : (s.enterTrapAt c cause val pc dec eng w).ctxAt d = s.ctxAt d :=
  (State.ctxAt_enterTrapAt ..).trans (if_neg h.symm)

@[simp] theorem State.enterTrapAt_mem : (s.enterTrapAt c cause val pc dec eng w).mem = s.mem := by
  unfold State.enterTrapAt
  dsimp only
  split
  · rw [State.stub_mem, State.setCtxAt_mem]
  · rw [State.setCtxAt_mem]

end

/-- Settles O20: the context that traps is the one of `Ctx.enterTrap`, whose level and address are those of `Ctx.trapsToM`; every other
context and memory are as before. -/
theorem trapEntry : Obligations.TrapEntry := by
  intro s c cause val pc dec eng w
  dsimp only
  rw [State.ctxAt_enterTrapAt_self]
  refine ⟨?nested, ?first, rfl, rfl, ?toS, ?toM, rfl, ?others, ?memory⟩
  case nested => exact fun h => (Ctx.enterTrap_ntrap ..).trans (if_pos h)
  case first => exact fun h => (Ctx.enterTrap_ntrap ..).trans (if_neg (Bool.eq_false_iff.1 h))
  case toS => exact fun hp hi => Ctx.enterTrap_toS (h := Ctx.trapsToM_eq_false hp hi) ..
  case toM => exact fun h => Ctx.enterTrap_toM (h := Ctx.trapsToM_eq_true h) ..
  case others => exact fun _ h => State.ctxAt_enterTrapAt_ne (h := h) ..
  case memory => exact fun a => congrArg (memGet · a) (State.enterTrapAt_mem ..)

end Sys2Proof.Machine
end
